-- ==== Sys2Proof/Word.lean ====
section
/-! DEFINITION. The word types of the model: bytes, cycle numbers, digests and the sparse tables the state is made of. -/

namespace Sys2Proof

/-- One byte as frames, records and dictionary values carry it (R12). -/
abbrev Byte := BitVec 8

/-- A string of bytes, lowest offset first. -/
abbrev Bytes := List Byte

/-- A cycle number C: 32 bits, wrapping modulo 2^32 (R16). -/
abbrev Cycle := BitVec 32

/-- A SHA-256 digest. -/
abbrev Digest := BitVec 256

/-- A table keyed by a number the spec gives (cell, point, head, port, session, object): keys strictly rising, an absent key
reads as the default its reader names. -/
abbrev Tab (α : Type) := List (Nat × α)

end Sys2Proof
end

