-- ==== Sys2Proof/Data.lean ====
section
/-! DEFINITION. The plain data that commands carry and the state keeps: severities, states and roles, frames as they reach the module, values and
requests of sessions. -/

namespace Sys2Proof

/-- Severity of a fault message (R467). -/
inductive Sev where
  | info | notice | warn | degrade | trip | lockout
deriving DecidableEq, Repr

/-- The twelve operating states (R30), in the order of their codes. -/
inductive OpState where
  | off | boot | isolated | precheck | closing | online | derated | tripping | tripped | lockout | service | sleep
deriving DecidableEq, Repr

/-- Roles of a unit (8000.01, R465), in the order of their codes. -/
inductive Role where
  | single | undecided | joining | standby | active | incoming | outgoing | takingOver | claiming
deriving DecidableEq, Repr

/-- Partner sense (8000.02, R446). -/
inductive Sense where
  | alive | stopped | absent | stale
deriving DecidableEq, Repr

/-- A fault message (R467). `sev = none` is the clear, code 7. -/
structure FaultMsg where
  source : Nat
  kind : Nat
  sev : Option Sev
  injected : Bool := false
  cls : Nat := 0
  val : Nat := 0
  cycle : Cycle := 0
deriving DecidableEq, Repr

/-- A dictionary value (R381): a number (BOOL, U, I, Qn, CYCLE; F32 as its raw bits) or bytes (STR, OCTETS, TIME, TABLE). -/
inductive ObjVal where
  | num (v : Int)
  | bytes (b : Bytes)
deriving DecidableEq, Repr

/-- A value entry of a WRITE PDU (R393). -/
structure Entry where
  index : Nat
  sub : Nat
  typeCode : Nat
  value : ObjVal
deriving DecidableEq, Repr

/-- Addressing of a head command frame (R50, R51). -/
inductive AddrMode where
  | hop | position | broadcast
deriving DecidableEq, Repr

/-- The control characters of the ring and no others (R37): idle, the two of the SYNC set, start of a record or frame, start of the container,
end, placeholder, abort, break notice. -/
inductive Control where
  | idl | syn | sof | soc | eof | fil | abt | brk
deriving DecidableEq, Repr

/-- One character of a lane: a data byte or a control character (R35). -/
inductive RingChar where
  | data (b : Byte)
  | ctl (c : Control)
deriving DecidableEq, Repr

/-- A command frame as it reaches a head: address, sequence number, port it came from (0 eastbound, 1 westbound) and whether
the command check passes; a frame that a node aborted (ABT) fails it (R37, R50, R51). `unlisted` is a frame whose opcode R86 does not list, in place of the
row's; `extra` counts payload bytes beyond the operands (R86). -/
structure Frame where
  mode : AddrMode
  addr : Nat
  seq : Nat
  port : Nat := 0
  checkOk : Bool := true
  unlisted : Bool := false
  extra : Nat := 0
deriving DecidableEq, Repr

/-- The answer of a head: status byte (R88) and response data. -/
structure HeadResponse where
  status : Nat
  data : Bytes := []
deriving DecidableEq, Repr

/-- A head block (R48), its fields decoded; `checkOk` is the CRC of its last four bytes, which an aborted block (ABT) fails. `code` and `disparity`
are the code violations and disparity errors the port's receiver counted since the block before (R37, R74); a control character outside R37's table is
one of the former. -/
structure HeadBlock where
  p : Nat
  delayOk : Bool := true
  converted : Bool := true
  wrapped : Bool := false
  farSide : Bool := false
  bleedOn : Bool := false
  owOn : Bool := false
  charErr : Bool := false
  pending : Bool := false
  dieHot : Bool := false
  changed : Bool := false
  cells : List (Option Int)
  stack : Option Int
  tempA : Option Int
  tempB : Option Int
  checkOk : Bool := true
  code : Nat := 0
  disparity : Nat := 0
deriving DecidableEq, Repr

/-- The SYNC header fields (R44). `errors` are the character errors the receiver met since the header before (R48, R88). -/
structure SyncHeader where
  cycle : Cycle := 0
  flags : BitVec 8 := 0
  ts : Nat := 500
  entry : Nat := 0
  length : Nat := 0
  heads : Nat := 0
  ringHeads : Nat := 0
  pre : Nat := 0
  checkOk : Bool := true
  errors : Nat := 0
deriving DecidableEq, Repr

/-- The string record fields (R45); `checkOk` is its record check as a receiver finds it. -/
structure StringRecord where
  cycle : Cycle := 0
  main : Int := 0
  hall : Int := 0
  vStr : Int := 0
  vLink : Int := 0
  rIso : Nat := 0xFFFF
  isoSeq : Nat := 0
  status : BitVec 16 := 0
  discrete : BitVec 16 := 0
  locked : Bool := false
  ns : Nat := 0
  sec : Nat := 0
  checkOk : Bool := true
deriving DecidableEq, Repr

/-- What a head answers to IDENTIFY (R87), and the round trip measured at it (R59 step 3). -/
structure HeadIdent where
  serial : Nat
  cellCh : Nat
  tempCh : Nat
  lf : Nat
  lr : Nat
  lt : Nat
  contract : Nat := 1
  rBleed : Nat
  groupDelay : Nat
  roundTrip : Nat
deriving DecidableEq, Repr

/-- An input of a head: the head's place on the ring, and side 0 eastbound or 1 westbound. -/
structure HeadInput where
  place : Nat
  side : Nat
deriving DecidableEq, Repr

/-- The failed side of a wrapped head that is clean again: the head's place, and the cable delay measured over the hop that has healed, where it
was not known (R60). -/
structure FarSide where
  place : Nat
  delay : Option Nat := none
deriving DecidableEq, Repr

/-- What the front-end converts at one Ts strobe (R109): currents in mA, voltages in mV, validity, the discrete inputs of
R134, the baseplate temperature (0.01 °C) and the result of the check of the Firebreak's limit registers (R267). -/
structure StrobeSample where
  main : Int
  hall : Int
  mainOk : Bool := true
  hallOk : Bool := true
  vStr : Int
  vLink : Int
  vStrP : Int
  vStrN : Int
  vLinkP : Int
  vLinkN : Int
  voltOk : Bool := true
  discrete : BitVec 16
  strobeOk : Bool := true
  baseplate : Int := 2500
  limitsOk : Bool := true
deriving DecidableEq, Repr

/-- A PAIR-HELLO (R441). -/
structure Hello where
  identity : Nat
  stringId : Nat
  strap : Nat
  nonce : Nat
  ephemeral : Nat
  certOk : Bool
deriving DecidableEq, Repr

/-- A heartbeat (R443): unit and role, state, phase, severity, flags, input sequence, H, the protection summary, frame check, epoch and the
digest slot. -/
structure Heartbeat where
  cycle : Cycle := 0
  unitB : Bool := false
  role : Role := .undecided
  opState : OpState := .off
  phase : Nat := 0
  severity : Nat := 0xFF
  flags : BitVec 16 := 0
  inSeq : Nat := 0
  h : Cycle := 0
  cellCrc : Nat := 0
  tempCrc : Nat := 0
  causes : Nat := 0
  hall : Int := 0
  vStr : Int := 0
  frameCrc : Nat := 0
  epoch : Nat := 0
  slot : Option Digest := none
deriving DecidableEq, Repr

/-- An input that changes string state (R444). `request` is an operating-state request: 0 close, 1 open, 2 service, 3 exit, 4 reset, 5 clear,
6 sleep. -/
inductive RepKind where
  | write (key : Nat) (v : ObjVal)
  | epoch (n : Nat) (values : List (Nat × ObjVal))
  | cellCommand (cell cmd : Nat)
  | dispatch (kind identity key : Nat) (value : Int)
  | request (kind : Nat)
  | envelope (doc : Bytes)
  | envelopeAnswer (ok : Bool)
  | envelopeEffective
  | generation (g : Nat)
deriving DecidableEq, Repr

/-- A replicated input (R444): sequence, effective cycle, what it is. -/
structure RepInput where
  seq : Nat
  effective : Cycle
  what : RepKind
deriving DecidableEq, Repr

/-- A protection summary (R275). -/
structure Summary where
  own : Bool
  cycle : Cycle
  cellCrc : Nat
  tempCrc : Nat
  causes : Nat
  hall : Int
  vStr : Int
deriving DecidableEq, Repr

/-- Where an axis stands when one of its events arrives (R324, R329, R332): commanded position and velocity (microsteps, microsteps/s),
encoder count, and target less measured mean (mA) of each 64 chopper periods since the last event. -/
structure AxisNow where
  pos : Int
  vel : Int
  enc : Int := 0
  means : List Int := []
deriving DecidableEq, Repr

/-- The data set a PTP Announce carries (R353). -/
structure PtpMaster where
  priority1 : Nat
  clockClass : Nat
  accuracy : Nat
  variance : Nat
  priority2 : Nat
  identity : Nat
  steps : Nat
deriving DecidableEq, Repr

/-- A PTP message received on a port (R352). -/
inductive PtpMsg where
  | announce (m : PtpMaster)
  | sync
  | followUp
  | pdelayReq (sequence : Nat)
  | pdelayResp
  | management
deriving DecidableEq, Repr

/-- A request PDU (R393, R394): addresses are (index, subindex). `unsupported` is a type code of no request, `malformed` a PDU whose fault
lies at a byte offset. -/
inductive Pdu where
  | read (addrs : List (Nat × Nat))
  | write (entries : List Entry)
  | readBlock (index sub off len : Nat)
  | writeBlock (index sub off total crc : Nat) (final : Bool) (data : Bytes)
  | subscribe (period : Nat) (addrs : List (Nat × Nat))
  | unsubscribe (id : Nat)
  | commit
  | describe (addrs : List (Nat × Nat))
  | unsupported (type : Nat)
  | malformed (type offset : Nat)
deriving DecidableEq, Repr

/-- A datagram of a fast channel (R423): length of the UDP payload, whether its tag verifies under the channel's keys, sender, request. -/
structure Datagram where
  channel : Nat
  epoch : Nat
  seq : Nat
  length : Nat := 64
  tagOk : Bool := true
  peer : Nat := 0
  req : Nat
  pdu : Pdu
deriving DecidableEq, Repr

/-- What a received Ethernet frame carries (R343, R344). A TLS frame carries whole requests; `ok` is the record protection's check. -/
inductive EthContent where
  | ptp (domain : Nat) (m : PtpMsg)
  | tls (session : Nat) (ok : Bool) (pdus : List (Nat × Pdu))
  | fast (d : Datagram)
  | arp
  | icmp
  | supervision
  | pause
  | other
deriving DecidableEq, Repr

/-- A received Ethernet frame: VLAN identifier (none: untagged), length, PRP trailer (source, sequence, LAN 0 A or 1 B). -/
structure EthRx where
  vlan : Option Nat := none
  length : Nat := 128
  trailer : Option (Nat × Nat × Nat) := none
  content : EthContent
deriving DecidableEq, Repr

/-- A received CAN frame (R363, R364); `ok` = it ended without an error. -/
structure CanRx where
  id : Nat
  ext : Bool := false
  remote : Bool := false
  fd : Bool := true
  brs : Bool := true
  ok : Bool := true
  data : Bytes := []
deriving DecidableEq, Repr

/-- How an attempt to send a CAN frame goes (R366-R368): it begins arbitration, ends well, loses arbitration, fails by an error, fails without an
acknowledge. -/
inductive CanResult where
  | begun | sent | lostArbitration | error | noAck
deriving DecidableEq, Repr

/-- A client certificate as the handshake shows it (R418, R420, R421): SHA-256 digest, the roles its subject names, the trust anchor its chain
ends at, whether its key is P-256, whether its validity period covers the local clock, how many certificates the chain has with its anchor, the
size of the largest in bytes. -/
structure ClientCert where
  digest : Bytes
  roles : BitVec 8
  anchor : Option Nat
  p256 : Bool := true
  inPeriod : Bool := true
  depth : Nat := 2
  largest : Nat := 0
deriving DecidableEq, Repr

end Sys2Proof
end

