-- ==== Sys2Proof/Machine/Parts.lean ====
section
/-! DEFINITION. The parts of the state that the Landing image and its frames carry: ring, heads, front-end, tables, estimator, placement, Borer,
balancing, sessions, protection, control, thermal and motion. Each field's comment is as in Machine/State.lean. -/

namespace Sys2Proof.Machine

open Sys2Proof

/-! ### Plain data the state is made of -/

/-- Events of the operating-state table (R31), in the order in which R32 and R31 name them. -/
inductive SmKind where
  | lockoutFault | tripFault | supplyLost | openRequest | degrade | degradeCleared
  | close | service | exit | reset | clear | sleep
  | supplyPresent | bootComplete | joinStandby | checksPass | checkFails | auxClosed | closeExpired | openTimeout | openDone
  | contactorsOpen | wake | lockoutWake | sessionLost
deriving DecidableEq, Repr

/-- One event for the operating state machine, with the fault kind (0 for a request), source and session its Tally record
names (R494 kind 0x0010); `follow` is the active partner's state for a unit that joins as standby. -/
structure SmEvent where
  kind : SmKind
  fault : Nat := 0
  source : Nat := 0
  session : Nat := 0xFFFF
  req : Nat := 0
  follow : OpState := .isolated
deriving DecidableEq, Repr

/-- Ring state (R68). -/
inductive RingState where
  | down | enum | closed | wrapped | relay
deriving DecidableEq, Repr

/-- Head state (R85). -/
inductive HeadState where
  | initial | enumerated | syncLost | lowPower
deriving DecidableEq, Repr

/-- A command frame to a head, as queued by the Yarder (R50, R53). -/
structure RingCmd where
  port : Nat
  mode : AddrMode
  addr : Nat
  seq : Nat := 0
  opcode : Nat
  payload : Bytes := []
  resp : Nat := 6
  head : Nat := 0
  tries : Nat := 0
  sentAt : Cycle := 0
deriving DecidableEq, Repr

/-- A command response received at a port (Q2, Q6). -/
structure RingResp where
  cmd : RingCmd
  answer : HeadResponse
deriving DecidableEq, Repr

/-- A block as received: cycle, port, fields. -/
structure BlockRec where
  cycle : Cycle
  port : Nat
  block : HeadBlock
deriving DecidableEq, Repr

/-- What leaves a port in a cycle: characters, or a run of FIL, the container as it is sent (R37, R46). -/
inductive WireItem where
  | chars (l : List RingChar)
  | fill (n : Nat)
deriving DecidableEq, Repr

/-- A command frame as a relaying unit decodes it on a lane: port, command, the response in it (R70). -/
structure HeardCmd where
  port : Nat
  cmd : RingCmd
  answer : Option HeadResponse
deriving DecidableEq, Repr

/-- An accepted bleed slot (R91): low 16 bits of the start cycle, cell mask, length, mode; at a head, the cycle in which it started. -/
structure BleedSlot where
  start : Nat
  mask : BitVec 16
  len : Nat
  continuous : Bool
  from_ : Option Cycle := none
deriving DecidableEq, Repr

/-- An open-wire test running in a head (R90): tap, samples, cycle Cr. -/
structure OwRun where
  tap : Nat
  k : Nat
  cr : Cycle
deriving DecidableEq, Repr

/-- A switch test running in a head (R247): cell, cycles, cycle Cr. -/
structure SwRun where
  cell : Nat
  m : Nat
  cr : Cycle
deriving DecidableEq, Repr

/-- The cell and stack values of one sample of a head. -/
structure HeadSample where
  cells : List (Option Int)
  stack : Option Int
deriving DecidableEq, Repr

/-- An open-wire test under evaluation (R102). -/
structure OwEval where
  tap : Nat
  k : Nat
  cr : Option Cycle := none
  base : Option HeadSample := none
  last : Option HeadSample := none
  prev : Option (Cycle × HeadSample) := none
  retried : Bool := false
  sentAt : Cycle := 0
deriving DecidableEq, Repr

/-- Coil high-side drive (R124, R130). -/
inductive CoilDrive where
  | off | pullIn | hold
deriving DecidableEq, Repr

/-- Weld check stage (R131). -/
inductive WeldStage where
  | idle | aux | volt
deriving DecidableEq, Repr

/-- Update class of a cell (R155). -/
inductive CellClass where
  | s | n | f
deriving DecidableEq, Repr

/-- Internal-short suspicion (R232). -/
inductive Suspicion where
  | none | watch | suspected | escalated
deriving DecidableEq, Repr

/-- Source of I(C) (R173). -/
inductive CurSource where
  | main | hall | gap
deriving DecidableEq, Repr

/-- Lane state (4701). -/
inductive LaneState where
  | active | draining | drained | fenced
deriving DecidableEq, Repr

/-- Point quality (R144). -/
inductive Quality where
  | good | stale | implausible | openAbsent | unreachable
deriving DecidableEq, Repr

/-- Session state (R403). -/
inductive SessState where
  | free | isOpen | dormant
deriving DecidableEq, Repr

/-- A subscription (R396): identifier, period in cycles, object keys, sequence, whether the last sample is still unsent. -/
structure Subscription where
  id : Nat
  period : Nat
  objects : List Nat
  seq : Nat := 0
  unsent : Bool := false
  paused : Bool := false
deriving DecidableEq, Repr

/-- An open WRITE-BLOCK transfer (R395). -/
structure BlockXfer where
  key : Nat
  total : Nat
  crc : Nat
  data : Bytes := []
  last : Cycle := 0
deriving DecidableEq, Repr

/-- A CAN segmented transfer (R400): direction, object, length, check, data, next sequence, segments since the last acknowledge. -/
structure SegXfer where
  write : Bool
  reqType : Nat
  reqId : Nat
  key : Nat
  total : Nat
  crc : Nat
  data : Bytes := []
  next : Nat := 0
  sinceAck : Nat := 0
  waiting : Bool := false
  last : Cycle := 0
deriving DecidableEq, Repr

/-- A request in Q28 (R404): identifier, PDU, cycle of arrival. -/
structure QItem where
  req : Nat
  pdu : Pdu
  at_ : Cycle
deriving DecidableEq, Repr

/-- A COMMIT waiting for its boundary (R27, R149): first cycle in force, session, request, request type (2 WRITE, 8 COMMIT). -/
structure CommitReq where
  effective : Cycle
  vals : Tab ObjVal
  session : Nat
  req : Nat
  type : Nat
deriving DecidableEq, Repr

/-- A write waiting for its boundary (R388, R389): session, request, entries (object key, value), first cycle in force. -/
structure PendingWrite where
  session : Nat
  req : Nat
  entries : List (Nat × ObjVal)
  effective : Cycle
deriving DecidableEq, Repr

/-- A response or notification queued to a session (Q29, Q30; R393): type, request, cycle, abort code, body as the transport carries it
(R394; on CAN the value, R399). -/
structure Response where
  session : Nat
  req : Nat
  type : Nat
  cycle : Cycle := 0
  abort : Nat := 0
  body : Bytes := []
deriving DecidableEq, Repr

/-- Direction of a cycle (R254). -/
inductive Direction where
  | rest | charge | discharge
deriving DecidableEq, Repr

/-- The trip sequencer (R269): running, cycle of t_trip, microseconds from t_trip at the last fast sample, coils released,
break wait in force (ms). -/
structure TripSeq where
  running : Bool := false
  at_ : Cycle := 0
  us : Nat := 0
  released : Bool := true
  wait : Nat := 20
deriving DecidableEq, Repr

/-- An active fault (R474, 8800.03). -/
structure ActiveFault where
  msg : FaultMsg
  raised : Cycle
  count : Nat := 1
  acked : Bool := false
  escalated : Bool := false
  graceFrom : Cycle := 0
  graceOver : Bool := false
  lastStamp : Cycle := 0
deriving DecidableEq, Repr

/-- A first-fault or first-trip register (R478): message and cycle captured, cycle whose capture is open, armed. -/
structure Capture where
  msg : Option FaultMsg := none
  cycle : Cycle := 0
  open_ : Bool := false
deriving DecidableEq, Repr

/-- A Tally record (R493): kind, body, flags, cycle, time, operating time and power-cycle count; sequence assigned at the write. -/
structure TallyRec where
  kind : Nat
  body : Bytes
  flags : Nat := 3
  cycle : Cycle := 0
  sec : Nat := 0
  ns : Nat := 0
  locked : Bool := false
  opTime : Nat := 0
  power : Nat := 0
  seq : Nat := 0
deriving DecidableEq, Repr

/-- A journal record waiting to be written (R531-R533): slot (none: the dictionary log), payload kind, payload, the response it releases, and
whether its value takes effect with it: a long value (R386). -/
structure JournalRec where
  slot : Option Nat
  kind : Nat
  payload : Bytes
  format : Nat := 1
  key : Nat := 0
  value : Option ObjVal := none
  seq : Nat := 0
  cycle : Cycle := 0
  release : Option Response := none
  late : Bool := false
deriving DecidableEq, Repr

/-- One frame of a fixed slot (R532): valid, sequence, payload kind, payload format, payload. -/
structure JournalFrame where
  valid : Bool := true
  seq : Nat := 0
  kind : Nat := 0
  format : Nat := 1
  payload : Bytes := []
deriving DecidableEq, Repr

/-- A fixed journal slot: two frames (R533). -/
structure FixedSlot where
  f0 : JournalFrame := {}
  f1 : JournalFrame := {}
deriving DecidableEq, Repr

/-- A Lookout rule (R519). -/
structure LookoutRule where
  input : Nat := 0
  cmp : Nat := 0
  action : Nat := 0
  sev : Nat := 0
  level : Int := 0
  hyst : Nat := 0
  filter : Nat := 0
  dwell : Nat := 0
deriving DecidableEq, Repr

/-- A 128 KB unit of the Tally (R490): bytes used, records in the order written. -/
structure TallyUnit where
  used : Nat := 0
  recs : List TallyRec := []
deriving DecidableEq, Repr

/-- What the event that has changed the operating state in the present cycle left behind, should one that ranks before it still come (R32): the Tally record,
the answer, the first-trip register as it stood. -/
structure Undo where
  record : TallyRec
  answer : Option Response := none
  firstTrip : Capture := {}
deriving DecidableEq, Repr

/-! ### Base cycle and operating state (01) -/
structure Core where
  /-- 32; 01 R16; DC1; cycle number C of the present base cycle -/
  cycle : Cycle := 0
  /-- enum 12; 01 R30 R31; spec (no supply: OFF); operating state, 1001.01 -/
  opState : OpState := .off
  /-- 32; 13 R408; DC1; 1001.02 cycle at which the state was entered -/
  stateEntered : Cycle := 0
  /-- enum 12; 01 R32; MODEL; operating state at the start of the present cycle -/
  cycleState : OpState := .off
  /-- option; 01 R32; MODEL; event that has changed the state in the present cycle -/
  taken : Option SmEvent := none
  /-- opt; 01 R32; MODEL; what that event left behind, to be withdrawn if one that ranks before it comes -/
  undo : Option Undo := none
  /-- list; 01 R32; MODEL; events of this cycle left to be evaluated in the next -/
  deferred : List SmEvent := []
  /-- 1; 01 R31; DC1 (no lockout latched at manufacture); lockout latch, survives power loss -/
  lockoutLatched : Bool := false
  /-- 1; 01 R31; DC1; an open request waits for the current to fall (31: set-point ramped to zero) -/
  opening : Bool := false
  /-- 32; 01 R31; DC1; cycle in which the open request was taken (2 s limit) -/
  openSince : Cycle := 0
  /-- opt; 01 R31; DC1; session whose request entered SERVICE -/
  service : Option Nat := none
  /-- 1; 01 R20 R27; DC1; cycle C's data has crossed into CD-LANE -/
  crossed : Bool := false
  /-- per block; 01 R29; DC1; consecutive cycles in which a block that missed a T-20us/T-1ms deadline has met it -/
  deadlineRun : Tab Nat := []
  /-- per stream 32 sat; 01 R29; DC1; missed deadlines of the third and fourth class, by source and class value -/
  missedStream : Tab Nat := []
deriving DecidableEq, Repr

/-! ### Sarale ring: Yarder side (02) -/
structure HeadInfo where
  /-- 64; 02 R77; DC1; serial number, 2140.01 -/
  serial : Nat := 0
  /-- 8; 02 R77; DC1; hop count, 2140.02; 0 = unreachable -/
  hop : Nat := 0
  /-- 8; 02 R77; DC1 (0xFF unreachable); reached from, 2140.03 -/
  from_ : Nat := 255
  /-- 16; 02 R77; DC1 (0xFFFF unknown, R86); D_W ns, 2140.04 -/
  dW : Nat := 0xFFFF
  /-- 16; 02 R77; DC1 (0xFFFF unknown, R86); D_E ns, 2140.05 -/
  dE : Nat := 0xFFFF
  /-- 16; 02 R77; DC1; Lf ns, 2140.06 -/
  lf : Nat := 0
  /-- 16; 02 R77; DC1; Lr ns, 2140.07 -/
  lr : Nat := 0
  /-- 16; 02 R77; DC1; Lt ns, 2140.08 -/
  lt : Nat := 0
  /-- 32 sat; 02 R77; spec 0; 2140.09 -/
  blockFails : Nat := 0
  /-- 32 sat; 02 R77; spec 0; 2140.0A -/
  missing : Nat := 0
  /-- 16; 02 R77; DC1; block bytes 0-1, 2140.0B -/
  flags : BitVec 16 := 0
  /-- 8; 03 R87; DC1; physical cell channels reported -/
  cellCh : Nat := 0
  /-- 8; 03 R87; DC1; physical temperature channels reported -/
  tempCh : Nat := 0
  /-- 16; 03 R108; DC1; 2180.03 die temperature 0.01 C -/
  die : Int := 0
  /-- 8; 03 R108; DC1; 2180.04 contract version -/
  contract : Nat := 0
  /-- 16; 03 R108; DC1; 2180.05 R_bleed mOhm -/
  rBleed : Nat := 0
  /-- 16; 03 R108; DC1; 2180.06 group delay ns -/
  groupDelay : Nat := 0
  /-- count; 02 R65; DC1; consecutive cycles without a valid block -/
  missRun : Nat := 0
  /-- count; 02 R74; DC1; consecutive cycles with block check failures -/
  failRun : Nat := 0
  /-- 1; 02 R65; DC1; unreachable -/
  unreachable : Bool := false
deriving DecidableEq, Repr

structure EnumState where
  /-- 1; 02 R59 R68; DC1; an enumeration is in progress -/
  running : Bool := false
  /-- 32; 02 R60; DC1; cycle at which it started -/
  since : Cycle := 0
  /-- list; 02 R59 R68; DC1; places found from the W side and from the E side, and whether traffic arrived at the far port -/
  found : Nat × Nat × Bool := (0, 0, false)
  /-- list; 02 R61; DC1; P of the heads identified in this enumeration -/
  heads : List Nat := []
  /-- per P; 02 R61; DC1; serial numbers held before this enumeration -/
  oldSerials : Tab Nat := []
deriving DecidableEq, Repr

structure Ring where
  /-- enum 5; 02 R68; spec (DOWN before the ports are powered); 2101.01 -/
  state : RingState := .down
  /-- 1; 02 R63 R77; DC1; 2101.07 bit 0, both ports originate -/
  bothPorts : Bool := false
  /-- 1; 02 R44 R77; DC1; 2101.07 bit 1, originating unit is B -/
  originB : Bool := false
  /-- 1; 02 R68 R71; DC1; this unit originates SYNC -/
  originating : Bool := false
  /-- opt 32; 02 R63; DC1; first cycle in which both ports originate after a declared break -/
  breakFrom : Option Cycle := none
  /-- 8; 02 R59 R77; DC1; n, 2101.02 -/
  headCount : Nat := 0
  /-- 32; 02 R77; DC1; ring transit time ns, 2101.03 -/
  transit : Nat := 0
  /-- 32; 02 R77; spec (0 when not wrapped); W segment transit ns, 2101.04 -/
  segW : Nat := 0
  /-- 32; 02 R77; spec (0 when not wrapped); E segment transit ns, 2101.05 -/
  segE : Nat := 0
  /-- 8; 02 R77; spec 0; 2101.06 [15:8], W-side wrap head -/
  wrapW : Nat := 0
  /-- 8; 02 R77; spec 0; 2101.06 [7:0], E-side wrap head -/
  wrapE : Nat := 0
  /-- 32; 02 R77; DC1; 2101.08 -/
  lastChange : Cycle := 0
  /-- 65 x 16; 02 R77; DC1 (unlearned); cable delay c_k ns by hop k, 2102.01-41 -/
  cable : Tab Nat := []
  /-- 16; 02 R77; DC1; end path delay ns, 2102.42 -/
  endPath : Nat := 0
  /-- 1 per port; 02 R38; DC1; LOS at the port's receiver (port 0 RING-W, 1 RING-E) -/
  los : Tab Bool := []
  /-- 22 x 32 sat; 02 R74 R77; spec 0; key 16*port + row 1-11 of R74 -/
  counters : Tab Nat := []
  /-- per port, list; 02 R74; DC1; cycles of the code/disparity violations of the last 1,000 cycles -/
  violations : Tab (List Cycle) := []
  /-- per port, list; 02 R74; DC1; (cycle, P) of commands failed in the last 1,000 cycles -/
  cmdFails : Tab (List (Cycle × Nat)) := []
  /-- count; 02 R63; DC1; consecutive cycles in which SYNC did not return in time -/
  syncMissRun : Nat := 0
  /-- 32; 02 R63; DC1; cycle of the last SYNC that did not return in time -/
  syncMissAt : Cycle := 0
  /-- 1; 02 R66; DC1; unwrap hold (ring hop unstable), released by 2100.06 -/
  unwrapHold : Bool := false
  /-- list 32; 02 R66; DC1; cycles of the unwraps of the last 10 min -/
  unwraps : List Cycle := []
  /-- opt 32; 02 R66; DC1; cycle C + 2 at whose preceding boundary second-port origination stops -/
  unwrapAt : Option Cycle := none
  /-- list; 02 R66; DC1; P of wrap heads whose UNWRAP is acknowledged -/
  unwrapAcked : List Nat := []
  /-- queue; 02 R53; spec (empty); Q0, RING-W urgent commands -/
  q0 : List RingCmd := []
  /-- queue; 02 R53; spec (empty); Q1, RING-W routine commands -/
  q1 : List RingCmd := []
  /-- queue; 02 R53; spec (empty); Q2, RING-W command responses -/
  q2 : List RingResp := []
  /-- queue; 02 R53; spec (empty); Q3, RING-W cycle data to the lane domain -/
  q3 : List BlockRec := []
  /-- queue; 02 R53; spec (empty); Q4, RING-E urgent commands -/
  q4 : List RingCmd := []
  /-- queue; 02 R53; spec (empty); Q5, RING-E routine commands -/
  q5 : List RingCmd := []
  /-- queue; 02 R53; spec (empty); Q6, RING-E command responses -/
  q6 : List RingResp := []
  /-- queue; 02 R53; spec (empty); Q7, RING-E cycle data to the lane domain -/
  q7 : List BlockRec := []
  /-- 16 per port; 02 R50; DC1; command sequence numbers -/
  seq : Tab Nat := []
  /-- list; 02 R52; DC1; frames sent and not yet returned -/
  inFlight : List RingCmd := []
  /-- bytes; 02 R25; DC1 (0); bytes of the last cycle's asynchronous window that its post-container part had no room for, per port -/
  asyncLeft : Tab Nat := []
  /-- characters; 02 R37 R44-R46 R50; DC1 (nothing sent); what has left each port in the present cycle: header, record, container, command frames -/
  wire : Tab (List WireItem) := []
  /-- opt; 02 R70; DC1; SYNC header heard in the present cycle by a unit that does not originate -/
  heardHeader : Option SyncHeader := none
  /-- list; 02 R70; DC1; command frames decoded in the present cycle by a relaying unit, answered or not -/
  heardCmds : List HeardCmd := []
  /-- list; 02 R74; DC1; P of the heads a block of which has failed R49 in the present cycle -/
  failedP : List Nat := []
  /-- opt 32; 02 R66; DC1; cycle in which UNWRAP was last sent to the wrap heads -/
  unwrapTry : Option Cycle := none
  /-- opt; 02 R60; DC1; delay in ns measured over a hop that has healed, when it had never carried traffic -/
  healed : Option Nat := none
  /-- 16; 02 R40; DC1; this unit's own relay latency Lrelay in ns, reported at enumeration -/
  lRelay : Nat := 0
  /-- per port, 32 bytes; 02 R44; DC1; SYNC header fields last sent -/
  headers : Tab SyncHeader := []
  /-- 64 bytes; 02 R45; DC1; string record of the present cycle -/
  record : StringRecord := {}
  /-- 1; 02 R76; DC1; a drill has taken the record of the present cycle out of the recording -/
  recordGone : Bool := false
  /-- list; 02 R49; DC1; P of the blocks seen in the present cycle -/
  seenP : List Nat := []
  /-- list; 02 R49 R70; DC1; P of the heads with a valid block in the present cycle -/
  validP : List Nat := []
  /-- list; 02 R72; DC1; blocks received, to be sent to the partner when its path misses them -/
  blocks : List BlockRec := []
  /-- 1; 02 R63; DC1; a break was declared in the present cycle (R64 accepts on both ports) -/
  breakCycle : Bool := false
  /-- fields; 02 R59; DC1; enumeration in progress -/
  enum : EnumState := {}
  /-- per P; 02 R77; DC1; the Yarder's registers of each head, 2140-217F -/
  heads : Tab HeadInfo := []
deriving DecidableEq, Repr

/-! ### Sense heads, the agents on the ring (03) -/
structure Head where
  /-- 64; 03 R87; DC1; serial number -/
  serial : Nat := 0
  /-- 8; 03 R87; DC1; physical cell channels -/
  cellCh : Nat := 0
  /-- 8; 03 R87; DC1; physical temperature channels -/
  tempCh : Nat := 0
  /-- 16; 02 R40; DC1; Lf ns -/
  lf : Nat := 0
  /-- 16; 02 R40; DC1; Lr ns -/
  lr : Nat := 0
  /-- 16; 02 R40; DC1; Lt ns -/
  lt : Nat := 0
  /-- 8; 03 R87; spec 1; contract version -/
  contract : Nat := 1
  /-- 16; 03 R82 R87; DC1; R_bleed mOhm -/
  rBleed : Nat := 0
  /-- 16; 03 R79 R87; DC1; group delay ns -/
  groupDelay : Nat := 0
  /-- enum 4; 03 R85; DC1 (a head that has received no SYNC is INITIAL, R58); state -/
  state : HeadState := .initial
  /-- 1; 02 R58 R62; DC1 (INITIAL wraps, R58); wrapping -/
  wrapped : Bool := true
  /-- opt lane; 02 R62; DC1; port whose input failed, on which an enumerated head wraps -/
  failedSide : Option Nat := none
  /-- 32; 02 R66; DC1; cycle in which the failed input last showed LOS or a code violation -/
  failedAt : Cycle := 0
  /-- opt 32; 02 R37 R62; DC1; cycle in which the head last sent BRK -/
  brkAt : Option Cycle := none
  /-- opt; 02 R51 R62; DC1; the last command frame the head passed on: address byte, port it left from -/
  passedOn : Option (Nat × Nat) := none
  /-- bytes; 02 R50; DC1; the response area the head wrote into the last frame it executed: status, data, check -/
  returned : Bytes := []
  /-- opt 8; 03 R86; DC1 (INITIAL holds none, R58); P -/
  p : Option Nat := none
  /-- opt 16; 02 R55; DC1 (INITIAL: invalid, R58); D_W -/
  dW : Option Nat := none
  /-- opt 16; 02 R55; DC1 (INITIAL: invalid, R58); D_E -/
  dE : Option Nat := none
  /-- 5; 03 R86; DC1; configured cell channels N -/
  n : Nat := 0
  /-- 16; 03 R86; DC1; temperature channel mask -/
  tempMask : BitVec 16 := 0
  /-- opt; 03 R86; DC1; CONFIGURE values waiting for the next SYNC -/
  pendingCfg : Option (Nat × BitVec 16) := none
  /-- opt 16; 02 R52; DC1; last executed sequence number, and its stored response -/
  lastSeq : Option (Nat × HeadResponse) := none
  /-- opt; 03 R91; DC1; accepted bleed slots -/
  slots : List BleedSlot := []
  /-- 16; 03 R83; DC1; switches now on -/
  switches : BitVec 16 := 0
  /-- 16; 03 R88; DC1; switches on at the last sample -/
  lastSwitches : BitVec 16 := 0
  /-- opt; 03 R90; DC1; open-wire test in progress -/
  owTest : Option OwRun := none
  /-- opt; 08 R247; DC1; switch test in progress -/
  swTest : Option SwRun := none
  /-- 8; 03 R86 R92; DC1; cycles of TEST-REF still to run -/
  refCycles : Nat := 0
  /-- 1; 03 R83; DC1; quiet window is open -/
  quiet : Bool := false
  /-- opt 32; 03 R85; DC1; cycle of the last valid SYNC -/
  lastSync : Option Cycle := none
  /-- opt lane; 02 R56; DC1; port on which the valid SYNC of the present cycle arrived -/
  syncPort : Option Nat := none
  /-- ns; 02 R56; DC1; compensated sample instant of the cycle after t_sync_in -/
  sampleAt : Int := 0
  /-- 16; 03 R83; DC1; Ts − t0 of the last valid header, LSB 0.1 us -/
  ts : Nat := 500
  /-- 16; 02 R46; DC1; container length B of the last valid header -/
  container : Nat := 0
  /-- opt 32; 02 R57; MODEL; base cycle in which the last valid SYNC arrived -/
  syncAt : Option Cycle := none
  /-- 1; 03 R85; DC1 (INITIAL: invalid, R58); SET-DELAY accepted, header flag [9] -/
  delaySet : Bool := false
  /-- 1; 02 R57; DC1; sampled at the present cycle -/
  sampled : Bool := false
  /-- count; 03 R85; DC1; consecutive missing cycles -/
  missing : Nat := 0
  /-- list 20; 02 R48; DC1; cell results of the last sample (none = no sample) -/
  cells : List (Option Int) := []
  /-- 24; 02 R48; DC1; stack result -/
  stack : Option Int := none
  /-- 16 x 16; 03 R81; DC1; temperature channel results -/
  temps : List (Option Int) := []
  /-- 16; 03 R81; DC1; die temperature 0.01 C -/
  die : Int := 0
  /-- 1; 03 R81; DC1; die over-temperature flag [1] -/
  dieHot : Bool := false
  /-- 1; 02 R48; DC1; serial or configuration changed since last read, flag [0] -/
  changed : Bool := false
  /-- 1; 02 R48; DC1; inbound character error since the previous block, flag [3] -/
  inboundErr : Bool := false
  /-- 1; 02 R66; DC1; far side restored, flag [6] -/
  farSide : Bool := false
  /-- opt 32; 02 R66; DC1; cycle of the SYNC from which an UNWRAP takes effect -/
  unwrapAt : Option Cycle := none
  /-- 32 sat; 03 R88; DC1; inbound character errors -/
  charErrors : Nat := 0
  /-- 16 sat; 03 R88; DC1; missing-SYNC cycles -/
  missingSync : Nat := 0
  /-- 16 sat; 03 R88 02 R47; DC1; blocks that did not fit -/
  noFit : Nat := 0
  /-- bytes; 02 R48; DC1; the block last written into the container -/
  lastBlock : List Byte := []
deriving DecidableEq, Repr

/-! ### Tap monitor (03) -/
structure TapMon where
  /-- per cell 1-512, 10 uV; 03 R97; DC1; v_comp of the present cycle (none = missing) -/
  v : Tab Int := []
  /-- per cell; 03 R97; DC1; v_comp of the previous cycle -/
  vPrev : Tab Int := []
  /-- per cell 10 uV, cycle; 10 R290; DC1; v_hi and v_lo of the last valid sample, and its cycle -/
  bounds : Tab (Int × Int × Cycle) := []
  /-- per cell; 03 R104; DC1; last valid v_comp before suspicion or test -/
  vSafe : Tab Int := []
  /-- per head, 100 uV; 03 R98; DC1; stack voltage of the present cycle -/
  stack : Tab Int := []
  /-- per head 32; 03 R108; DC1; head sum deviation 10 uV, 2180.01 -/
  sumDev : Tab Int := []
  /-- per head; 03 R98; DC1; run of cycles outside (head sum) -/
  sumBad : Tab Nat := []
  /-- per head; 03 R98; DC1; run of cycles within tolerance -/
  sumGood : Tab Nat := []
  /-- per head 8; 03 R108; spec 0; head diagnosis state, 2180.02 -/
  diag : Tab (BitVec 8) := []
  /-- per head; 03 R96; DC1; consecutive clean-mode cycles with flag [5] -/
  gateRun : Tab Nat := []
  /-- 32; 03 R108; DC1; string sum deviation mV, 2103.04 -/
  strDev : Int := 0
  /-- count; 03 R99; DC1; run outside -/
  strBad : Nat := 0
  /-- count; 03 R99; DC1; run within -/
  strGood : Nat := 0
  /-- per tap 8; 03 R108; spec 1 (untested); tap state 2200, key 32*P + tap -/
  tapState : Tab Nat := []
  /-- per tap 16; 03 R108; spec 0xFFFF; tap resistance mOhm 21C0, key 32*P + tap -/
  rw : Tab Nat := []
  /-- per head 16; 03 R108; spec 0xFFFF; Rw uncertainty mOhm 2180.07 -/
  rwUnc : Tab Nat := []
  /-- per head 32; 03 R108; DC1; last scheduled test 2180.08 -/
  lastTest : Tab Cycle := []
  /-- per tap; 03 R102 R106; DC1; cycle in which the tap came under suspicion -/
  suspectedAt : Tab Cycle := []
  /-- per tap; 03 R103; DC1; cycles of suspicions found intact (1 h) -/
  transients : Tab (List Cycle) := []
  /-- 32 sat; 03 R108; spec 0; pair-sum suspicions 2103.07 -/
  suspicions : Nat := 0
  /-- per tap; 03 R107; DC1; cycles of consecutive intact tests -/
  intactTests : Tab (List Cycle) := []
  /-- per head; 03 R102; DC1; open-wire test under evaluation -/
  tests : Tab OwEval := []
  /-- per head, list; 03 R98 R101; DC1; taps still to be tested at once -/
  testQueue : Tab (List Nat) := []
  /-- per head; 03 R106; DC1; tap last tested and the one cycle after its source-on samples -/
  afterTest : Tab (Nat × Cycle) := []
  /-- per head; 03 R101; DC1; next tap of the scheduled test round -/
  nextTap : Tab Nat := []
  /-- per head; 03 R101; DC1; cycle from which the head's next scheduled test is due -/
  dueAt : Tab Cycle := []
  /-- per tap; 03 R107; DC1; the tap was in state 3 when it came under suspicion -/
  wasHigh : Tab Bool := []
  /-- per head; 03 R92 R102; DC1; channels outside the band in the running TEST-REF -/
  refBad : Tab (List Nat) := []
  /-- per head; 03 R92; DC1; last cycle of a running TEST-REF -/
  refUntil : Tab Cycle := []
  /-- per channel; 03 R105; DC1; own channel failed under R92, key 32*P + cell channel -/
  chanFail : Tab Bool := []
deriving DecidableEq, Repr


/-- An anchor of a traverse (R192). -/
structure Anchor where
  charge : Bool
  soc : Int
  unc : Int
  cycle : Cycle
deriving DecidableEq, Repr

/-- An entry of the learned impedance table (R222). -/
structure ImpEntry where
  re : Int := 0
  im : Int := 0
  weight : Nat := 0
  age : Nat := 0
deriving DecidableEq, Repr

/-- The header of the learned impedance table (R222). -/
structure ImpHeader where
  days : Nat := 0
  slot : Nat := 0
  serial : Nat := 0
  tones : BitVec 8 := 0
  updated : Cycle := 0
  reset : Cycle := 0
deriving DecidableEq, Repr

/-- A rest snapshot of a cell (R228, R229): cycle, mean voltage (10 µV), temperature (0.01 °C), implied SoC (Q2.30), OCV slope (10 µV per
unit of SoC), bleed charge so far (µAs), uncertainty of the mean (10 µV), seconds of operating time. -/
structure RestSnap where
  cycle : Cycle
  v : Int
  temp : Int := 2500
  sv : Int := 0
  g : Int := 0
  bleed : Int := 0
  sigma : Nat := 20
  sec : Nat := 0
deriving DecidableEq, Repr

/-- A minute or hour record (R164). -/
structure AggRecord where
  cycle : Cycle
  header : Bytes
  data : List Int
deriving DecidableEq, Repr

/-- Borer state (4801.01). -/
inductive BorerState where
  | idle | requested | running | backedOff
deriving DecidableEq, Repr

/-- Perturbation descriptor (R208): command, tone mask, amplitude (10 mA), start cycle, length (s), sequence. -/
structure PertDesc where
  command : Nat := 0
  mask : BitVec 8 := 0
  amp : Nat := 0
  start : Cycle := 0
  length : Nat := 0
  seq : Nat := 0
deriving DecidableEq, Repr

/-- Running sums of a window for one cell, 0 for the string (R213, R214): cycles used and left out, conditions of R215, SoC and temperature at
the first cycle and their sums, and per tone the sums (re V, im V, re I, im I). -/
structure BorerCell where
  used : Nat := 0
  left : Nat := 0
  bad : Bool := false
  off : Bool := false
  cont : Bool := false
  mapChanged : Bool := false
  map : BitVec 16 := 0
  soc0 : Int := 0
  temp0 : Int := 0
  soc1 : Int := 0
  temp1 : Int := 0
  socSum : Int := 0
  tempSum : Int := 0
  sums : Tab (Int × Int × Int × Int) := []
deriving DecidableEq, Repr

/-- A result waiting for its application cycle (R217): cell, cycle it applies from, tones' impedances in 0.01 µΩ (a step observation has
one, under key 0), mean SoC and temperature. -/
structure BorerResult where
  cell : Nat
  at_ : Cycle
  z : Tab (Int × Int) := []
  soc : Int := 0
  temp : Int := 0
deriving DecidableEq, Repr

/-- A switch test under evaluation (R249). -/
structure SwEval where
  cell : Nat
  m : Nat := 5
  /-- cycle Cr, none until the head has accepted the command -/
  cr : Option Cycle := none
  sentAt : Cycle := 0
  /-- the command is queued or with the head -/
  sent : Bool := false
  tries : Nat := 0
  /-- not to be sent before this cycle -/
  notBefore : Cycle := 0
  /-- samples of the head since the test was wanted, newest first: cycle, string current, cell readings -/
  samples : List (Cycle × Int × List (Option Int)) := []
  /-- channels still to be tested in this round -/
  left : List Nat := []
deriving DecidableEq, Repr

/-- A running aggregate of a cell (R164): valid samples, cycles, voltage extremes and sum (10 µV), temperature sum and maximum (0.01 °C), SoC extremes
(Q2.30), cycles at F, bleed charge and charge throughput (µAs). -/
structure Agg where
  n : Nat := 0
  cycles : Nat := 0
  vMin : Int := 0
  vMax : Int := 0
  vSum : Int := 0
  tSum : Int := 0
  tMax : Int := 0
  socMin : Int := 0
  socMax : Int := 0
  fCycles : Nat := 0
  bleed : Int := 0
  through : Nat := 0
deriving DecidableEq, Repr

/-! ### Front-end, insulation, contactors (04) -/
structure Contactor where
  /-- enum 3; 04 R124 R130; spec (off: coils unpowered in OFF, R30); coil high-side drive -/
  coil : CoilDrive := .off
  /-- 1; 04 R127; DC1; commanded closed -/
  commanded : Bool := false
  /-- 32; 04 R130 R131; DC1; cycle of the last coil command or release -/
  since : Cycle := 0
  /-- 1; 04 R128 R134; DC1; debounced NO auxiliary closed -/
  no : Bool := false
  /-- 1; 04 R128 R134; DC1 (open contactor: NC closed); debounced NC auxiliary closed -/
  nc : Bool := true
  /-- opt 32; 04 R128; DC1; cycle since which NO and NC are in the same state -/
  sameSince : Option Cycle := none
  /-- opt 32; 04 R128; DC1; cycle since which they are in opposite states -/
  oppositeSince : Option Cycle := none
  /-- 1; 04 R131; spec 0 (pass); declared welded -/
  welded : Bool := false
  /-- 1; 04 R131; DC1; declared welded by the check that is still running -/
  weldNew : Bool := false
  /-- 32; 04 R135; spec 0; closings 2013.07/08 -/
  closings : Nat := 0
  /-- 1; 04 R126; spec (conducts while unpowered); low-side switch conducts -/
  lowSide : Bool := true
deriving DecidableEq, Repr

structure FrontEnd where
  /-- 32 mA; 04 R135; DC1; 2010.01 main current of the string record -/
  main : Int := 0
  /-- 32 mA; 04 R135; DC1; 2010.02 Hall current -/
  hall : Int := 0
  /-- 32 mA; 04 R135; spec 0; 2010.03 main sensor offset -/
  offset : Int := 0
  /-- 32 mA; 04 R113; DC1; Hall sensor offset -/
  hallOffset : Int := 0
  /-- 32; 04 R135; DC1; 2010.04 last full auto-zero -/
  zeroCycle : Cycle := 0
  /-- 16 0.01 C; 04 R135; DC1; 2010.05 auto-zero baseplate temperature -/
  zeroTemp : Int := 0
  /-- 32 mA; 04 R135; DC1; 2010.07 current cross-check deviation -/
  crossDev : Int := 0
  /-- 32 mV; 04 R135; DC1; 2011.01 -/
  vStr : Int := 0
  /-- 32 mV; 04 R135; DC1; 2011.02 -/
  vLink : Int := 0
  /-- 32 mV; 04 R135; DC1; 2011.03 STR+ to PE -/
  vStrP : Int := 0
  /-- 32 mV; 04 R135; DC1; 2011.04 STR- to PE -/
  vStrN : Int := 0
  /-- 32 mV; 04 R135; DC1; 2011.05 LINK+ to PE -/
  vLinkP : Int := 0
  /-- 32 mV; 04 R135; DC1; 2011.06 LINK- to PE -/
  vLinkN : Int := 0
  /-- 32 mV; 04 R135; DC1; 2011.07 voltage cross-check deviation -/
  voltDev : Int := 0
  /-- 16; 04 R133; DC1; front-end status 2014.02 -/
  status : BitVec 16 := 0
  /-- 16; 04 R134; DC1; discrete inputs 2014.01 -/
  discrete : BitVec 16 := 0
  /-- 1; 04 R115 R133; DC1; Hall comparator has operated since the previous record -/
  hallOperated : Bool := false
  /-- count; 04 R112; DC1; consecutive cycles back in range -/
  inRange : Nat := 0
  /-- count; 04 R116; DC1; run of disagreeing cycles -/
  crossBad : Nat := 0
  /-- count; 04 R116; DC1; run within tolerance -/
  crossGood : Nat := 0
  /-- count; 04 R118; DC1; run of voltage path disagreement -/
  pathBad : Nat := 0
  /-- count; 04 R118; DC1; run within tolerance -/
  pathGood : Nat := 0
  /-- count; 04 R129; DC1; consecutive cycles with link matched -/
  linkRun : Nat := 0
  /-- 32 mA; 04 R110; DC1; latest 20 kHz main sample -/
  fastMain : Int := 0
  /-- 32 mA; 04 R110; DC1; latest 20 kHz Hall sample -/
  fastHall : Int := 0
  /-- opt 32; 04 R113; DC1; cycle since which both contactors are confirmed open -/
  bothOpenSince : Option Cycle := none
  /-- 1; 04 R113; DC1; a full auto-zero is due (automatic or requested) -/
  zeroDue : Bool := false
  /-- opt 32; 04 R113; DC1; cycle at which the running auto-zero began -/
  zeroing : Option Cycle := none
  /-- 32; 04 R113; DC1; cycle of the last automatic auto-zero becoming due in ISOLATED -/
  zeroTimer : Cycle := 0
  /-- opt 32; 04 R114; DC1; cycle in which an in-service zero started (2 ms) -/
  inService : Option Cycle := none
  /-- 32; 04 R114; DC1; last in-service zero -/
  inServiceLast : Cycle := 0
  /-- 1; 04 R119; DC1; this unit is injecting -/
  injecting : Bool := false
  /-- 1; 04 R119; DC1; present half-period is the positive one -/
  halfPositive : Bool := true
  /-- opt 32; 04 R122; DC1 (none: at once); cycle from which this unit may inject after a planned role change -/
  injectFrom : Option Cycle := none
  /-- nA; 04 R119; DC1; settled current of the previous half-period, 0 for the first after injection starts -/
  settled : Int := 0
  /-- opt nA; 04 R119; DC1; settled current of the last completed positive half-period -/
  iPos : Option Int := none
  /-- opt nA; 04 R119; DC1; settled current of the last completed negative half-period -/
  iNeg : Option Int := none
  /-- 32; 04 R119; DC1; cycle in which the present half-period began -/
  halfStart : Cycle := 0
  /-- 1; 04 R119; DC1; k changed during the present half-period -/
  halfVoid : Bool := false
  /-- 16 kOhm; 04 R135; spec 0xFFFF; 2012.01 -/
  rIso : Nat := 0xFFFF
  /-- 16; 04 R135; spec 0; 2012.02 insulation sequence -/
  isoSeq : Nat := 0
  /-- opt 32; 04 R121; DC1; cycle of the last completed result (or of enabling) -/
  isoLast : Option Cycle := none
  /-- 1; 04 R121; DC1; result stale -/
  isoStale : Bool := false
  /-- 16 ms; 04 R135; DC1; 2012.04 last half-period -/
  lastHalf : Nat := 0
  /-- 16 10 nF; 04 R135; DC1; 2012.05 -/
  leakCap : Nat := 0
  /-- 16; 04 R135; spec 0xFFFF; 2012.06 fault position -/
  faultPos : Nat := 0xFFFF
  /-- fields; 04 R124; see Contactor; K+ -/
  kp : Contactor := {}
  /-- fields; 04 R124; see Contactor; K- -/
  kn : Contactor := {}
  /-- opt 32; 04 R130; DC1; cycle of the CLOSING entry -/
  closingSince : Option Cycle := none
  /-- 8; 04 R135; spec 0; 2013.06 weld check result -/
  weldResult : Nat := 0
  /-- enum 3; 04 R131 R132; DC1; weld check stage in progress -/
  weldStage : WeldStage := .idle
  /-- 32; 04 R131; DC1; cycle at which the stage began -/
  weldSince : Cycle := 0
  /-- sums over 10 cycles mV; 04 R131; DC1; running sums of V_K+ and V_K- and their count -/
  weldSums : Int × Int × Nat := (0, 0, 0)
  /-- 1; 04 R132; DC1; the weld check is to be repeated at the next PRECHECK -/
  weldRepeat : Bool := false
  /-- 32; 04 R135; spec 0; 2013.09 openings above break current -/
  openAbove : Nat := 0
deriving DecidableEq, Repr

/-! ### Cell channel table state part, and the lanes (05, 06, 07) -/
structure CellState where
  /-- Q2.30; 05 R138; DC1; offset 64 state of charge -/
  soc : Int := 0
  /-- Q2.30; 05 R138; DC1; offset 68 counting SoC -/
  socC : Int := 0
  /-- Q2.30; 05 R138; DC1; offset 72 uncertainty -/
  unc : Int := 0
  /-- 32 0.01 As; 05 R138; DC1; offset 76 learned capacity -/
  cap : Nat := 0
  /-- 32 0.01 As; 05 R138; DC1; offset 80 -/
  capUnc : Nat := 0
  /-- 32 uOhm (0.01 uOhm working state); 05 R138 07 R219; DC1; offset 84 Rdc in 0.01 uOhm -/
  rdc : Nat := 0
  /-- 32 uOhm (0.01 uOhm working state); 05 R138 07 R220; DC1; offset 88 R1 in 0.01 uOhm -/
  r1 : Nat := 0
  /-- 32 0.1 ms (us working state); 05 R138 07 R220; DC1; offset 92 tau1 in us -/
  tau1 : Nat := 0
  /-- 32 10 uV; 05 R138; DC1; offset 96 polarisation voltage -/
  v1 : Int := 0
  /-- 32 0.01; 05 R138; DC1; offset 100 equivalent full cycles -/
  efc : Nat := 0
  /-- 32; 05 R138 R168; spec 0; offset 104 self-discharge estimate -/
  selfDis : Int := 0
  /-- 32; 05 R138 R168; spec 0; offset 108 flags -/
  flags : BitVec 32 := 0
  /-- 8; 05 R138; DC1; offset 112 class in force -/
  cls : CellClass := .s
  /-- 8; 05 R138 R158; spec (lane (k-1) mod 8 at BOOT); offset 113 lane, none = not placed -/
  lane : Option Nat := none
  /-- 32; 05 R138; DC1; offset 116 last update -/
  lastUpdate : Cycle := 0
  /-- 64 uAs; 05 R138; DC1; offset 120 -/
  qLast : Int := 0
  /-- 32 10 uV; 05 R138; DC1; offset 128 last raw voltage -/
  lastV : Int := 0
  /-- 32; 05 R138; DC1 (0 = not resting); offset 132 rest start (none reads 0) -/
  restStart : Option Cycle := none
  /-- uAs; 05 R138 06 R174; DC1; bleed charge since the last learning step (offset 136) -/
  bleedTotal : Int := 0
  /-- uAs; 06 R177; DC1; bleed_q since the last update -/
  bleedQ : Int := 0
  /-- 32 0.01 As; 05 R138; DC1; offset 140 balancing target -/
  target : Nat := 0
  /-- 16 sat; 05 R138; DC1; offset 152 -/
  insertions : Nat := 0
  /-- 16 sat; 05 R138; DC1; offset 154 -/
  steps : Nat := 0
  /-- opt; 06 R192; DC1; anchor (kind, soc, unc, cycle) -/
  anchor : Option Anchor := none
  /-- uAs; 06 R177 R192; DC1; traverse charge dq_t -/
  dqT : Int := 0
  /-- 1; 06 R194; DC1; a condition of R194 has spoiled the traverse -/
  spoiled : Bool := false
  /-- ms; 06 R194; DC1; current gaps during the traverse -/
  gaps : Nat := 0
  /-- 1; 06 R193; DC1; status bit [5] set at the first anchor -/
  anchorInService : Bool := false
  /-- Q2.30; 06 R182; DC1; voltage floor -/
  floor : Int := 0
  /-- Q2.30; 06 R182; DC1 (100 %); voltage ceiling -/
  ceil : Int := 2^30
  /-- Q2.30; 06 R183; DC1; soc_c at the last valid sample -/
  socCValid : Int := 0
  /-- count; 06 R178; DC1; consecutive updates with a clamp acting -/
  clampRun : Nat := 0
  /-- count; 06 R178; DC1; consecutive updates without one -/
  noClampRun : Nat := 0
  /-- 0.01 C; 06 R176; DC1 (none since BOOT); last good temperature -/
  lastT : Option Int := none
  /-- opt 32; 06 R176; DC1; cycle since which the temperature is held -/
  heldSince : Option Cycle := none
  /-- opt 32; 06 R184; DC1; cycle since which held amounts are at or below 2.5 % -/
  heldLow : Option Cycle := none
  /-- count; 06 R185; DC1; run of valid samples at or below V_empty -/
  lowRun : Nat := 0
  /-- uAs; 06 R197; DC1; accumulator of |dq| -/
  dqAbs : Nat := 0
  /-- 0.01; 06 R197; DC1; cycle count at the last learned-value record -/
  efcRec : Nat := 0
  /-- 0.01 uOhm; 07 R221; DC1; Rdc at the last record -/
  rdcRec : Nat := 0
  /-- 0.01 uOhm; 07 R221; DC1; R1 at the last record -/
  r1Rec : Nat := 0
  /-- us; 07 R221; DC1; tau1 at the last record -/
  tau1Rec : Nat := 0
  /-- opt 32; 06 R199; DC1; cycle of the last insertion (flag [5] for 600 s) -/
  insertedAt : Option Cycle := none
  /-- 1; 06 R200; DC1; SoC and uncertainty wait for the first valid sample -/
  awaitSample : Bool := false
  /-- 1; 06 R199; DC1; a readmitted head or command 0x01 marks the cell inserted -/
  insertPending : Bool := false
  /-- 1; 06 R199; DC1; a previous valid sample exists -/
  hasPrev : Bool := false
  /-- 32; 05 R155; DC1; last cycle with an F reason -/
  lastFReason : Option Cycle := none
  /-- cat 1-6; 05 R154; DC1; F reason category on the last cycle's data (0 none) -/
  fCat : Nat := 0
  /-- cls, lane; 05 R157; DC1; class and lane decided for the next boundary -/
  nextClass : Option CellClass := none
  /-- lane; 05 R157; DC1; move decided for the next boundary -/
  nextLane : Option Nat := none
  /-- 8; 07 R234; spec 0; 4C00.05 health state -/
  health : BitVec 8 := 0
  /-- enum 4; 07 R232 R234; spec NONE; 4C00.06 suspicion state -/
  suspicion : Suspicion := .none
  /-- 32; 07 R234; spec 0; 4C00.07 last qualifying rate -/
  lastRate : Int := 0
  /-- list of 3; 07 R232; DC1; last qualifying results -/
  rates : List Int := []
  /-- 16 0.01 %; 07 R234; spec 10,000; 4C00.02 -/
  capRet : Nat := 10000
  /-- 16 0.01 %; 07 R234; spec 10,000; 4C00.03 -/
  rGrowth : Nat := 10000
  /-- 16 0.01 %; 07 R234; spec 10,000; 4C00.04 -/
  rOutlier : Nat := 10000
  /-- 1; 07 R226; DC1; learning step or Rdc update since the last insertion -/
  learned : Bool := false
  /-- opt 32; 07 R218; DC1; cycle of the last tone result (24 h) -/
  toneResult : Option Cycle := none
  /-- 5,632 bytes; 07 R222; DC1 (weight 0 in every entry); learned impedance table entries, key 32m + 4j + q -/
  impTable : Tab ImpEntry := []
  /-- header; 07 R222; DC1; table header: slot, head serial, tones, last update, last reset -/
  impHead : ImpHeader := {}
  /-- list; 07 R228; DC1; rest snapshots of the present rest -/
  snapshots : List RestSnap := []
  /-- 8; 08 R252; spec 0; 5080.01 switch test result -/
  swResult : Nat := 0
  /-- 32 10 uV; 08 R252; DC1; 5080.02 last drop D -/
  swDrop : Int := 0
  /-- 32; 08 R252; DC1; 5080.03 last test -/
  swLast : Cycle := 0
  /-- 1; 08 R250; DC1; switch stuck -/
  swStuck : Bool := false
  /-- 2^-60; 06 R177; DC1; p, the variance of soc (working state) -/
  p : Int := 0
  /-- opt 32; 06 R200; DC1; cycle since which |I| is below C_nom/50 -/
  quietSince : Option Cycle := none
  /-- 10 uV sum and count; 07 R228; DC1; mean of the rest snapshot being taken -/
  restSum : Int := 0
  /-- count; 07 R228; DC1; cycles in that mean -/
  restN : Nat := 0
  /-- 1; 07 R230; DC1; the rest of the snapshots has ended -/
  restOver : Bool := false
  /-- opt 32; 07 R230; DC1; cycle of the last evaluation of the present rest -/
  restEval : Option Cycle := none
  /-- fields; 05 R164; DC1; running minute aggregate -/
  minute : Agg := {}
  /-- fields; 05 R164; DC1; running hour aggregate -/
  hour : Agg := {}
  /-- 1; 06 R191; DC1 (armed); the cell's shut-down detector waits to be re-armed -/
  shutOff : Bool := false
  /-- cycles; 06 R191; DC1; run of valid samples above V_empty since its shut-down event -/
  shutClear : Nat := 0
  /-- 64; 06 R200; DC1; serial number of the cell's head as the lanes last saw it -/
  serial : Nat := 0
  /-- 1; 06 R176; DC1; held temperature has been reported -/
  tempHeld : Bool := false
deriving DecidableEq, Repr

structure Scaler where
  /-- 64 uAs; 06 R173 R206; DC1; string charge counter 4001.07 -/
  q : Int := 0
  /-- list 10; 06 R187; DC1; q_str at the last usable evaluation -/
  qEval : Int := 0
  /-- 32 mA; 06 R173; DC1; I(C) -/
  i : Int := 0
  /-- 32 mA; 06 R173; DC1; last valid current -/
  iValid : Int := 0
  /-- enum 3; 06 R173; DC1; source of I(C) -/
  source : CurSource := .gap
  /-- list of 4; 07 R218; DC1; (I, from main sensor) of the last cycles, newest first -/
  iHist : List (Int × Bool) := []
  /-- Q2.30; 06 R187; DC1; published usable SoC u, 4001.01 -/
  usable : Int := 0
  /-- Q2.30; 06 R186; DC1; target u*, 4001.02 -/
  target : Int := 0
  /-- 32 0.01 As; 06 R206; DC1; 4001.03 Qe_min -/
  qeMin : Nat := 0
  /-- 32 0.01 As; 06 R206; DC1; 4001.04 Qf_min -/
  qfMin : Nat := 0
  /-- 16; 06 R206; DC1; weakest cell 4001.05 -/
  weakest : Nat := 0
  /-- 16; 06 R206; DC1; strongest cell 4001.06 -/
  strongest : Nat := 0
  /-- per cell; 06 R186; DC1; (Qe, Qf, cap_eff) of the last evaluation -/
  evals : Tab (Nat × Nat × Nat) := []
  /-- 16; 06 R206; DC1; 4001.0C mean cell SoC Q2.30 -/
  meanSoc : Int := 0
  /-- 1; 06 R187; DC1; an evaluation has been made since BOOT -/
  evaluated : Bool := false
  /-- 8; 06 R206; spec 0; 4001.08 last end event -/
  lastEnd : Nat := 0
  /-- 32; 06 R206; DC1; 4001.09 -/
  lastEndCycle : Cycle := 0
  /-- cycles; 06 R188 R206; spec 0; charge window run, 4001.0A -/
  chgRun : Nat := 0
  /-- cycles; 06 R189 R206; spec 0; discharge window run, 4001.0B -/
  disRun : Nat := 0
  /-- 1; 06 R191; DC1 (armed); end-of-charge detector armed -/
  chgArmed : Bool := true
  /-- 1; 06 R191; DC1 (armed); end-of-discharge detector armed -/
  disArmed : Bool := true
  /-- cycles; 06 R191; DC1; run of cycles with the charge voltage condition false -/
  chgClear : Nat := 0
  /-- cycles; 06 R191; DC1; run of cycles with the discharge voltage condition false -/
  disClear : Nat := 0
  /-- 32 sat x 7; 06 R206; spec 0; counters 4002.01-07 by subindex -/
  counts : Tab Nat := []
  /-- 32; 05 R155 07 R228; DC1; cycle since which |I| is within the rest threshold -/
  restSince : Option Cycle := none
  /-- per slot; 06 R206; spec 0; slot state 4010.02 -/
  slotState : Tab Nat := []
deriving DecidableEq, Repr

structure Cruiser where
  /-- 16; 05 R171; DC1; 4700.02 -/
  fCells : Nat := 0
  /-- 16; 05 R171; DC1; 4700.03 -/
  fDeferred : Nat := 0
  /-- 32 sat; 05 R171; spec 0; 4700.09 moves -/
  moves : Nat := 0
  /-- 8 x enum 4; 05 R171; spec 0 active; lane state 4701, key lane -/
  lanes : Tab LaneState := []
  /-- 8 x 32 sat; 05 R171; spec 0; missed F deadlines 4704, key lane -/
  missedF : Tab Nat := []
  /-- 8 x list; 05 R159; DC1; cycles of F deadline misses in the last 1,000 -/
  missedAt : Tab (List Cycle) := []
  /-- 8 x list; 01 R9 R20; DC1; lane job queues Q16-Q23, key lane: the cells whose update a lane has still to make in the cycle -/
  jobs : Tab (List Nat) := []
  /-- list; 05 R159; DC1; lanes whose cells are placed afresh at the next boundary -/
  replace : List Nat := []
  /-- list; 05 R160; DC1; lanes with a fault that could not be fenced: their cells keep their last state -/
  frozen : List Nat := []
  /-- 16 0.01 %; 05 R171; spec 0; 9880.01 -/
  lifeUsed : Nat := 0
  /-- 16; 05 R171; spec 96; 9880.02 spare units -/
  spare : Nat := 96
  /-- 16; 05 R171; spec 0; 9880.03 erase count spread -/
  spread : Nat := 0
  /-- 64; 05 R171; spec 0; 9880.04 -/
  bytesWritten : Nat := 0
  /-- per unit; 05 R166; DC1; erase counts -/
  erases : Tab Nat := []
  /-- 8 x bytes; 05 R166 18 R528; DC1; bytes used in the unit an area is writing, by area 0-7 -/
  areaFill : Tab Nat := []
  /-- per area; 05 R166; DC1; logical units that hold the area's data, oldest first; its other units are free -/
  areaUsed : Tab (List Nat) := []
  /-- 2,048 x 16; 18 R529; DC1 (each logical unit in the physical one of its number); unit table: physical unit of a logical one -/
  unitMap : Tab Nat := []
  /-- list; 05 R166 18 R530; DC1; retired units -/
  retired : List Nat := []
  /-- list; 05 R164; DC1; minute records of the minute tier, newest first -/
  minutes : List AggRecord := []
  /-- 16 records; 05 R164; DC1; the latest minute records in shared SRAM, newest first -/
  minuteSram : List AggRecord := []
  /-- list; 05 R164; DC1; hour records of the hour tier, newest first -/
  hours : List AggRecord := []
  /-- opt 32; 05 R164; DC1; cycle at which the last hour aggregate closed -/
  hourAt : Option Cycle := none
  /-- 1; 05 R26 R162; DC1; a port assignment or microcode bank change is pending -/
  portsPending : Bool := false
  /-- per P; 05 R162; DC1; port assignment (0 W, 1 E) decided for the next boundary -/
  assign : Tab Nat := []
deriving DecidableEq, Repr

structure PointState where
  /-- 32; 05 R142; DC1; raw value -/
  raw : Int := 0
  /-- 32; 05 R142; DC1; filtered value -/
  filtered : Int := 0
  /-- 32; 05 R142; DC1; updated -/
  updated : Cycle := 0
  /-- 32; 05 R142; DC1; minimum since clear -/
  min : Int := 0
  /-- 32; 05 R142; DC1; maximum since clear -/
  max : Int := 0
  /-- 8; 05 R142 R169; spec 1 stale; quality -/
  quality : Quality := .stale
  /-- 8 sat; 05 R142 R169; spec 0; implausible count -/
  implausible : Nat := 0
  /-- 1; 05 R142; MODEL; a sample has arrived -/
  seen : Bool := false
  /-- 1; 05 R142; MODEL; a plausible sample has arrived: filter and extremes have started -/
  begun : Bool := false
deriving DecidableEq, Repr

/-! ### Borer and health (07) -/
structure Borer where
  /-- 8; 07 R233; spec 0 idle; 4801.01 -/
  state : BorerState := .idle
  /-- 12 bytes; 07 R208; DC1 (command 0 none); perturbation descriptor -/
  desc : PertDesc := {}
  /-- 32; 07 R233; DC1; 4801.02 window start -/
  start : Cycle := 0
  /-- 32 sat; 07 R233; spec 0; 4801.03 completed -/
  completed : Nat := 0
  /-- 32 sat; 07 R233; spec 0; 4801.04 discarded -/
  discarded : Nat := 0
  /-- 8; 07 R233; spec 0; 4801.05 last discard cause -/
  cause : Nat := 0
  /-- 8 x 16 mA; 07 R233; DC1; 4801.06 tone amplitudes -/
  amps : List Nat := []
  /-- 32 sat; 07 R233; spec 0; 4801.07 step observations -/
  stepObs : Nat := 0
  /-- opt 32; 07 R210; DC1; cycle of a command 2 sent with no window requested or running -/
  stopAt : Option Cycle := none
  /-- count; 07 R212; DC1; consecutive windows discarded for amplitude -/
  ampRun : Nat := 0
  /-- s; 07 R212; DC1; request interval in force extended to 86,400 -/
  extended : Bool := false
  /-- 32; 07 R210; DC1; cycle of the last request -/
  lastRequest : Option Cycle := none
  /-- opt 32; 07 R210; DC1; cycle at which a sweep ends -/
  sweepUntil : Option Cycle := none
  /-- opt; 07 R215; DC1; cause that spoils the whole window (1 amplitude 2 step 3 stopped 4 gap) -/
  spoil : Option Nat := none
  /-- per cell; 07 R213; DC1; running sums and per-cell window state -/
  cells : Tab BorerCell := []
  /-- list; 07 R217; DC1; results waiting for their application cycle -/
  results : List BorerResult := []
  /-- per cell 10 uV; 07 R218; DC1; v of the last cycles, newest first (step detector) -/
  vHist : Tab (List (Option Int)) := []
  /-- 32; 07 R223; DC1; last age advance -/
  ageBase : Cycle := 0
  /-- 32; 07 R233; DC1; 4802.06 last evaluated rest -/
  restEval : Cycle := 0
  /-- opt 32; 07 R228; DC1; cycle of the last rest snapshot -/
  lastSnap : Option Cycle := none
  /-- 16; 07 R234; DC1; 4803.01 -/
  lowRet : Nat := 0
  /-- 16; 07 R234; DC1; 4803.02 -/
  medGrowth : Nat := 0
  /-- 16; 07 R234; DC1; 4803.03 -/
  highGrowth : Nat := 0
deriving DecidableEq, Repr

/-! ### Thinning (08) -/
structure ThinHead where
  /-- 8; 08 R252; spec 0; 5040.01 mode in force (true = continuous) -/
  continuous : Bool := false
  /-- 16 mW; 08 R252; DC1; 5040.02 -/
  budget : Nat := 0
  /-- 16; 08 R252; spec 0; 5040.03 acknowledged map -/
  map : BitVec 16 := 0
  /-- 8; 08 R252; spec 0; 5040.04 map state -/
  state : Nat := 0
  /-- 32 sat; 08 R252; spec 0; 5040.05 -/
  refused : Nat := 0
  /-- opt; 08 R241; DC1; slot sent and not yet acknowledged -/
  sent : Option BleedSlot := none
  /-- opt; 08 R242; DC1; slot the acknowledged map belongs to -/
  slot : Option BleedSlot := none
  /-- opt; 08 R242; DC1; slot acknowledged that has not begun -/
  nextSlot : Option BleedSlot := none
  /-- opt 32; 08 R244 R247; DC1; no slot may be granted up to this cycle -/
  blockUntil : Option Cycle := none
  /-- opt; 08 R249; DC1; switch test in progress or wanted -/
  test : Option SwEval := none
  /-- 1; 08 R246; DC1; a switch-test round is wanted -/
  testWanted : Bool := false
  /-- 1; 03 R96; DC1; excluded until bleed gate failure is cleared -/
  excluded : Bool := false
deriving DecidableEq, Repr

structure Thinning where
  /-- per P; 08 R252; see ThinHead; per-head balancing state -/
  heads : Tab ThinHead := []
  /-- 32; 08 R252; DC1; 5000.0D last complete test round -/
  lastRound : Cycle := 0
  /-- 32; 08 R252; spec 0; 5000.0E -/
  power : Nat := 0
deriving DecidableEq, Repr

/-! ### Dictionary engine and sessions (13) -/
structure Session where
  /-- enum 3; 13 R403 R408; spec FREE; 1100.01 -/
  state : SessState := .free
  /-- 8; 13 R408; DC1; 1100.02 transport -/
  transport : Nat := 0
  /-- 8; 13 R408; spec 0; 1100.03 roles -/
  roles : BitVec 8 := 0
  /-- 8 bytes; 13 R408; spec 0; 1100.04 identity -/
  identity : Nat := 0
  /-- 32; 13 R404 R408; spec 0; 1100.06 deficit -/
  deficit : Nat := 0
  /-- 64; 13 R408; spec 0; 1100.07 -/
  bytes : Nat := 0
  /-- 32 sat; 13 R408; spec 0; 1100.08 -/
  served : Nat := 0
  /-- 32 sat; 13 R408; spec 0; 1100.09 -/
  refused : Nat := 0
  /-- 32 sat; 13 R408; spec 0; 1100.0D -/
  overruns : Nat := 0
  /-- 32 sat; 13 R408; spec 0; 1100.0E -/
  misses : Nat := 0
  /-- opt 32; 13 R403; DC1; cycle at which it became DORMANT -/
  dormantAt : Option Cycle := none
  /-- list 8; 13 R396; DC1; subscriptions -/
  subs : List Subscription := []
  /-- opt; 13 R395; DC1; open block transfer -/
  block : Option BlockXfer := none
  /-- opt; 13 R400; DC1; CAN segmented transfer -/
  seg : Option SegXfer := none
  /-- list 16; 13 R397; spec (empty); requests received and not yet served (Q28): identifier, PDU -/
  queue : List QItem := []
  /-- bytes; 13 R404; DC1; part of the head item's cost already paid for in steps -/
  paid : Nat := 0
  /-- list; 13 R397 R29; DC1; requests served and not yet answered, in the order received, with the cycle of arrival -/
  order : List (Nat × Cycle) := []
  /-- list; 13 R396; DC1; notifications sampled and not yet sent, by subscription -/
  notes : List Response := []
  /-- per request; 13 R394 R399; DC1; of a CAN request: its object, echoed in the response; of a final WRITE-BLOCK part: the bytes held -/
  addrs : Tab Nat := []
  /-- opt 8; 14 R422; DC1; parent TLS session of a fast channel -/
  parent : Option Nat := none
  /-- 8; 14 R417; DC1; trust anchor under which it was opened (0 none) -/
  anchor : Nat := 0
  /-- 32 bytes; 13 R402 14 R421; DC1; SHA-256 digest of the client certificate -/
  cert : Bytes := []
  /-- secret; 14 R412 R422; DC1; exporter secret of the TLS connection (opaque) -/
  secret : Nat := 0
deriving DecidableEq, Repr

structure Dict where
  /-- per object; 13 R380 R386; spec (each object's Default column, Config.catalog); values that differ from the default -/
  vals : Tab ObjVal := []
  /-- per object; 05 R146 R147; spec (nothing staged); staged values -/
  staged : Tab ObjVal := []
  /-- 16; 05 R170; spec 0xFFFF none; 1F00.04 staging owner -/
  owner : Option Nat := none
  /-- 32; 05 R146; DC1; cycle of the owner's last staged write -/
  ownerAt : Cycle := 0
  /-- 32; 05 R170; spec 0; 1F00.02 table epoch -/
  epoch : Nat := 0
  /-- 32; 05 R170; DC1; 1F00.06 epoch effective cycle -/
  epochCycle : Cycle := 0
  /-- list; 05 R27 R149; spec (empty); COMMITs that wait for their boundary -/
  commit : List CommitReq := []
  /-- list; 13 R388; spec (empty); writes waiting for their boundary, in service order -/
  pending : List PendingWrite := []
  /-- list; 05 R141; spec (empty); cell commands waiting for their boundary (effective cycle, cell, command) -/
  cellCmds : List (Cycle × Nat × Nat) := []
  /-- queue; 13; spec (empty); Q29/Q30 responses and notifications -/
  responses : List Response := []
  /-- 256 contexts; 13 R402; see Session; session contexts -/
  sessions : Tab Session := []
  /-- 32 sat; 13 R408; spec 0; 1010.08 contexts refused -/
  refused : Nat := 0
  /-- 16; 13 R408; spec 0; 1010.07 engine load -/
  load : Nat := 0
  /-- 32; 13 R408; spec 0; 1010.09 longest round us -/
  longest : Nat := 0
  /-- bytes; 13 R408; DC1; cost units served in the present second -/
  served : Nat := 0
deriving DecidableEq, Repr


/-- An envelope that passed the first seven checks of R428: document, fields, digest, sequence, boundary once it is set, session, request,
whether the own self-test and the partner must still answer, the cycle it was sent to the partner, and whether it came from the partner
(R429). -/
structure EnvPending where
  doc : Bytes
  fields : Tab Int
  digest : Digest
  seq : Nat
  effective : Option Cycle := none
  session : Nat
  req : Nat
  selfTest : Bool := true
  partner : Bool := false
  since : Cycle := 0
  foreign : Bool := false
deriving DecidableEq, Repr

/-- A dispatch event waiting for the boundary (R300): kind (0 lease end, 1 release, 2 claim, 3 renewal, 4 write), session,
identity, object and value of a write, first cycle in force. -/
structure DispatchEvent where
  kind : Nat
  session : Nat
  req : Nat
  identity : Nat
  key : Nat := 0
  value : Int := 0
  effective : Cycle := 0
deriving DecidableEq, Repr

/-- A converter-limit frame (R304), its fields. -/
structure ConvFrame where
  cycle : Cycle := 0
  data : Bytes := []
deriving DecidableEq, Repr

/-- Threshold state (6810.09). -/
inductive ThrState where
  | normal | pending | active | clearing | disabled
deriving DecidableEq, Repr

/-- Axis state (6870.01), in the order of its codes. -/
inductive AxisState where
  | disabled | unhomed | homing | standstill | moving | waiting | following | fault | fenced
deriving DecidableEq, Repr

/-- Ramp in progress on an axis (R326): to the target, to a stop before a new ramp, to a stop, to a stop at a_stop. -/
inductive Ramp where
  | none | toTarget | reversing | stopping | hardStop
deriving DecidableEq, Repr

/-- Homing state (R336). -/
inductive HomeState where
  | idle | search | backOff | slow | final
deriving DecidableEq, Repr

/-- Disconnector command in progress (R337). -/
inductive DiscCmd where
  | none | close | open_
deriving DecidableEq, Repr

/-! ### Firebreak and trip sequencer (09) -/
structure Firebreak where
  /-- 1; 09 R278 01 R30; DC1 (not active before BOOT's self-test); Firebreak active -/
  active : Bool := false
  /-- per ENV object; 09 R255; DC1 (no envelope); envelope fields in force, by object id; none = no valid envelope -/
  envelope : Option (Tab Int) := none
  /-- bytes; 14 R427 15 R463; DC1 (none); document of the envelope in force, as the ADOPTION frame carries it -/
  envDoc : Bytes := []
  /-- 8; 09 R279; spec 0; 5805.01 envelope state -/
  envState : Nat := 0
  /-- 32 bytes; 09 R279; DC1; 5805.02 digest -/
  digest : Digest := 0
  /-- 32; 09 R279; spec 0; 5805.03 sequence -/
  envSeq : Nat := 0
  /-- 32; 09 R279; DC1; 5805.04 effective cycle -/
  envCycle : Cycle := 0
  /-- 1; 09 R279; spec (1 in a single configuration); 5805.05 partner envelope match -/
  envMatch : Bool := true
  /-- list; 14 R428 R429; DC1 (empty); envelopes accepted and not yet in force, in the order accepted -/
  envPending : List EnvPending := []
  /-- per cell; 09 R260; spec 0 (restart at BOOT); OV UV hardOV hardUV counters 0-3, key 8*cell + comparator -/
  cellCnt : Tab Nat := []
  /-- per point; 09 R260; spec 0; temperature counters, key 8*point + comparator -/
  tempCnt : Tab Nat := []
  /-- misc; 09 R260 R267; DC1; consecutive-cycle counters of the other comparators, by cause bit -/
  cnt : Tab Nat := []
  /-- per cause; 09 R273; DC1; consecutive compliant samples / cycles towards clearing, by fault key -/
  clearRun : Tab Nat := []
  /-- per cell; 09 R262; spec 0; consecutive cycles without valid value -/
  missRun : Tab Nat := []
  /-- per cell; 09 R273; DC1; consecutive cycles with a valid value -/
  goodRun : Tab Nat := []
  /-- per point; 09 R262; DC1; cycle of the last valid report -/
  lastReport : Tab Cycle := []
  /-- per point; 09 R262; DC1; cycle since which reports have been valid -/
  goodSince : Tab Cycle := []
  /-- 32; 09 R279; spec 0; 5810.01 active protection causes -/
  causes : BitVec 32 := 0
  /-- 32; 09 R279; spec 0; 5810.02 last trip cause -/
  lastCause : BitVec 32 := 0
  /-- 32; 09 R279; DC1; 5810.03 last trip -/
  lastTrip : Cycle := 0
  /-- 8; 09 R254 R279; spec 0 rest; 5810.04 direction -/
  dir : Direction := .rest
  /-- A2s x 20,000 x 10^6 (mA^2 * 50us units); 09 R265; spec 0; i2t accumulator charge, 5810.05 -/
  accChg : Nat := 0
  /-- as charge; 09 R265; spec 0; i2t accumulator discharge, 5810.06 -/
  accDis : Nat := 0
  /-- 32 mA; 09 R279; spec 0; 5810.07 break current at release -/
  breakCur : Nat := 0
  /-- 32 us; 09 R279; spec 0; 5810.08 time to release -/
  toRelease : Nat := 0
  /-- 32 sat; 09 R279; spec 0; 5810.09 -/
  mismatches : Nat := 0
  /-- 32 sat; 09 R279; spec 0; 5810.0A -/
  late : Nat := 0
  /-- 8; 09 R279; spec 0; 5810.0B self-test failed -/
  selfTestFailed : Bool := false
  /-- 2; 09 R276; DC1; runs of cell-part and front-end mismatch -/
  cellMis : Nat := 0
  /-- count; 09 R276; DC1; run of front-end mismatches -/
  feMis : Nat := 0
  /-- 1; 09 R269; spec (conducts: TRIP-PCS switch in OFF/BOOT, 12 R374); TRIP-PCS switch of this unit open -/
  tripPcs : Bool := false
  /-- fields; 09 R269; DC1; trip sequence in progress -/
  trip : TripSeq := {}
  /-- 1; 09 R274; DC1; axis 3 driver enabled by the interlock -/
  axis3 : Bool := false
  /-- 1; 09 R262; spec; the missing-sample counts run (first CLOSED/WRAPPED cycle after BOOT seen) -/
  armed : Bool := false
deriving DecidableEq, Repr

/-! ### Sawyer, dispatch, profile, traces (10) -/
structure Slot where
  /-- 8; 10 R287; spec 0 off (slots 0-1 always auto); mode in which the slot ran last (own or forced) -/
  mode : Nat := 0
  /-- 64 Q32.32; 10 R282; DC1; integrator -/
  integ : Int := 0
  /-- 32; 10 R283; DC1; m_prev -/
  mPrev : Int := 0
  /-- 32; 10 R283; DC1; filtered derivative df -/
  df : Int := 0
  /-- 32; 10 R285; DC1; m -/
  m : Int := 0
  /-- 32; 10 R285; DC1; w -/
  w : Int := 0
  /-- 32; 10 R312; DC1; e -/
  e : Int := 0
  /-- 32; 10 R285; DC1; p -/
  p : Int := 0
  /-- 32; 10 R312; DC1; u -/
  u : Int := 0
  /-- 32; 10 R283; DC1; own output y -/
  y : Int := 0
  /-- 32; 10 R312; DC1; y_app -/
  yApp : Int := 0
  /-- 32 sat; 10 R312; spec 0; saturations -/
  sats : Nat := 0
  /-- opt 32; 11 R321; DC1; cycle since which the measurement is not good -/
  badSince : Option Cycle := none
  /-- opt 32; 11 R321; DC1; cycle since which it is good again -/
  goodSince : Option Cycle := none
  /-- 1; 11 R321; DC1; in fail-safe -/
  failSafe : Bool := false
deriving DecidableEq, Repr

structure Trace where
  /-- 8; 10 R313; spec 0 idle; buffer state -/
  state : Nat := 0
  /-- 1; 10 R310; DC1; re-arm mode -/
  rearm : Bool := false
  /-- 2048 x 8 x 32; 10 R309; DC1; samples, newest first -/
  samples : List (List Int) := []
  /-- count; 10 R310; DC1; samples recorded since the trigger -/
  post : Nat := 0
  /-- 32; 10 R310; DC1; cycle of the first sample -/
  first : Cycle := 0
  /-- 32; 10 R310; DC1; trigger cycle -/
  trigger : Cycle := 0
  /-- 32; 10 R313; DC1; capture sequence -/
  seq : Nat := 0
  /-- 32 sat; 10 R313; spec 0; missed triggers -/
  missed : Nat := 0
  /-- 32; 10 R310; DC1; previous value of the trigger node -/
  last : Int := 0
  /-- 32; 10 R310; DC1; cycle of the newest sample -/
  newest : Cycle := 0
deriving DecidableEq, Repr

structure Sawyer where
  /-- 16 slots; 10 R283; see Slot; loop slots -/
  slots : Tab Slot := []
  /-- 4; 10 R311; DC1; group outputs -/
  groupOut : Tab Int := []
  /-- 4; 10 R311; DC1; group winners -/
  groupWin : Tab Nat := []
  /-- per code; 10 R311; DC1 (absent); charge candidates -/
  candChg : Tab Int := []
  /-- per code; 10 R311; DC1 (absent); discharge candidates -/
  candDis : Tab Int := []
  /-- 32 mA; 10 R311; spec 0; L_chg 6001.01 -/
  lChg : Int := 0
  /-- 32 mA; 10 R311; spec 0; L_dis 6001.02 -/
  lDis : Int := 0
  /-- 8; 10 R311; spec 7; charge winner -/
  winChg : Nat := 7
  /-- 8; 10 R311; spec 7; discharge winner -/
  winDis : Nat := 7
  /-- 16 x 32; 10 R294; DC1; limits of the last 16 cycles, newest first -/
  histChg : List Int := []
  /-- 16 x 32; 10 R294; DC1; as charge -/
  histDis : List Int := []
  /-- 32 10 uV; 10 R311; DC1; charge voltage margin -/
  marChg : Int := 0
  /-- 32 10 uV; 10 R311; DC1; discharge voltage margin -/
  marDis : Int := 0
  /-- opt mA; 10 R292; DC1; impedance limits (charge, discharge) in force -/
  impLim : Option (Int × Int) := none
  /-- 8; 10 R311; spec 0; 6100.02 mode -/
  mode : Nat := 0
  /-- 32 mA; 10 R311; spec 0; 6100.03 current request -/
  reqI : Int := 0
  /-- 32 W; 10 R311; spec 0; 6100.04 power request -/
  reqP : Int := 0
  /-- list; 10 R300; DC1; dispatch events waiting for the boundary -/
  events : List DispatchEvent := []
  /-- 32 mA; 10 R311; spec 0; 6100.05 target -/
  target : Int := 0
  /-- 8 bytes; 10 R311; spec 0 none; 6108.04 holder identity -/
  holder : Nat := 0
  /-- 16; 10 R311; spec 0; 6108.06 lease remaining (cycles) -/
  lease : Nat := 0
  /-- 32 sat; 10 R311; spec 0; 6108.08 -/
  leaseEnds : Nat := 0
  /-- 32 mA; 10 R301; DC1; inner set-point xi -/
  xi : Int := 0
  /-- 32; 10 R301; DC1; inner rate vi -/
  vi : Int := 0
  /-- list n; 10 R301; DC1; last n values of xi, newest first -/
  hist : List Int := []
  /-- 32 mA; 10 R311; spec 0; output x, 6100.06 -/
  x : Int := 0
  /-- 32; 10 R313; spec 0; output rate -/
  rate : Int := 0
  /-- 32; 10 R313; spec 0; output acceleration -/
  acc : Int := 0
  /-- 1; 10 R302 R305; DC1; limit-held -/
  held : Bool := false
  /-- 1; 10 R294 R305; DC1; horizon promise raised a limit -/
  promise : Bool := false
  /-- 64 bytes; 10 R313; DC1; 6300.04 last frame -/
  frame : ConvFrame := {}
  /-- 32 sat; 10 R313; spec 0; 6300.01 -/
  sent : Nat := 0
  /-- 1; 10 R308 12 R368; DC1; the converter frame last queued has been transmitted -/
  frameOk : Bool := true
  /-- 32 sat; 10 R313; spec 0; 6300.03 -/
  unsent : Nat := 0
  /-- count; 10 R308; DC1; consecutive unsent frames -/
  unsentRun : Nat := 0
  /-- count; 10 R308; DC1; consecutive sent frames -/
  sentRun : Nat := 0
  /-- 4; 10 R309; see Trace; trace buffers -/
  traces : Tab Trace := []
  /-- 0-6; 10 R310; MODEL; 1 + highest severity received since the traces ran last (0 none) -/
  trigSev : Nat := 0
  /-- enum 12; 10 R310; MODEL; operating state when the traces ran last -/
  trigState : OpState := .off
deriving DecidableEq, Repr

/-! ### Canopy and Winch (11) -/
structure Threshold where
  /-- 8; 11 R340; spec 0 NORMAL; state -/
  state : ThrState := .normal
  /-- count; 11 R316; DC1; consecutive beyond or clear samples -/
  count : Nat := 0
  /-- 32; 11 R316; DC1; cycle at which the dwell timer started -/
  since : Cycle := 0
  /-- 32 sat; 11 R340; spec 0; activations -/
  activations : Nat := 0
  /-- 32; 11 R315; DC1; Updated field at the last evaluation -/
  seenAt : Option Cycle := none
deriving DecidableEq, Repr

structure Canopy where
  /-- 1; 11 R340; spec 0 COOL; 6800.02 mode HEAT -/
  heat : Bool := false
  /-- 16; 11 R340; DC1; hottest 6800.07 -/
  hottest : Int := 0
  /-- 16; 11 R340; DC1; coldest 6800.08 -/
  coldest : Int := 0
  /-- 16; 11 R340; DC1; mean 6800.09 -/
  mean : Int := 0
  /-- 16; 11 R340; DC1; spread 6800.0A -/
  spread : Int := 0
  /-- 16; 11 R340; DC1; good cell points 6800.0B -/
  good : Nat := 0
  /-- 32; 11 R315; see Threshold; thresholds 0-31 -/
  thresholds : Tab Threshold := []
  /-- 6 x 16; 11 R340; spec 0; duty in force, output 0-5 -/
  duty : Tab Nat := []
deriving DecidableEq, Repr

structure Axis where
  /-- 32 usteps; 11 R324 R341; DC1; position -/
  pos : Int := 0
  /-- 32; 11 R341; DC1; target -/
  target : Int := 0
  /-- 32 usteps/s; 11 R326; DC1; velocity -/
  vel : Int := 0
  /-- 8; 11 R341; DC1; axis state -/
  state : AxisState := .disabled
  /-- 32 usteps/s; 11 R326 R336; DC1; travel speed of the ramp in progress -/
  speed : Nat := 0
  /-- enum; 11 R326; DC1; ramp in progress -/
  ramp : Ramp := .none
  /-- 1; 11 R325; DC1 (unhomed); homed -/
  homed : Bool := false
  /-- 32 mA; 11 R327; DC1; coil current -/
  coil : Nat := 0
  /-- 32; 11 R327; DC1; cycle of the last step -/
  lastStep : Cycle := 0
  /-- 1; 11 R330; spec (hysteresis at BOOT); fall-back chopper in use -/
  fallBack : Bool := false
  /-- 32; 11 R341; DC1; encoder count -/
  encoder : Int := 0
  /-- 32 counts; 11 R332 R335; DC1; encoder count at the home reference -/
  encZero : Int := 0
  /-- 32 usteps; 11 R332; DC1; position at the home reference -/
  encBase : Int := 0
  /-- opt 32; 11 R332; DC1; cycle since which position and encoder differ -/
  lossSince : Option Cycle := none
  /-- opt 32; 11 R332; DC1; cycle of the last step loss (1 h) -/
  lastLoss : Option Cycle := none
  /-- 8; 11 R333 R341; DC1; qualified switch states: bit 0 LIM+, 1 LIM-, 2 HOME, 3 chatter -/
  switches : BitVec 8 := 0
  /-- 32; 11 R333; DC1; latched position of the last qualified edge -/
  latched : Int := 0
  /-- opt 32; 11 R335; DC1; cycle since which the follower lags -/
  lagSince : Option Cycle := none
  /-- 1; 11 R335; DC1; following suspended after gearing lag -/
  lagHold : Bool := false
  /-- opt; 11 R335; DC1; (f0, m0) when following began -/
  follow : Option (Int × Int) := none
  /-- enum 6; 11 R336; DC1; homing state -/
  homing : HomeState := .idle
  /-- 1; 11 R336; DC1; a limit has been hit in this homing run -/
  homeLimit : Bool := false
  /-- 1; 11 R336; DC1; search direction positive -/
  homeDir : Bool := true
  /-- 32; 11 R336; DC1; position at which the present homing phase began -/
  homeFrom : Int := 0
  /-- 8; 11 R341; DC1; homing result -/
  homeResult : Nat := 0
  /-- 1; 11 R327; DC1; homing waits for AUX -/
  homeWait : Bool := false
  /-- 1; 11 R339; DC1; fenced -/
  fenced : Bool := false
  /-- 1; 11 R328; DC1; waiting for a motion place -/
  waiting : Bool := false
  /-- enum; 11 R337; DC1; disconnector command in progress (axis 3) -/
  discCmd : DiscCmd := .none
  /-- 32; 11 R337; DC1; cycle of the disconnector command -/
  discSince : Cycle := 0
  /-- 16 mA; 11 R329 R341; spec 0; 6870.08 adaptive offset -/
  chopOffset : Int := 0
  /-- 32 sat; 11 R341; spec 0; 6870.0A step-loss events -/
  losses : Nat := 0
  /-- 32; 11 R341; spec 0; 6890.07 follow lag -/
  lag : Int := 0
  /-- 32 sat; 11 R341; spec 0; 68B0.04 operations (axis 3) -/
  operations : Nat := 0
  /-- opt 32; 11 R338; DC1 (none: has not moved since BOOT); cycle since which the axis is at standstill -/
  stillSince : Option Cycle := none
  /-- opt 32; 11 R338; DC1; cycle since which both switches are not both active -/
  switchOkSince : Option Cycle := none
deriving DecidableEq, Repr


/-- The stateful image of a unit (R26, R163, R449): the blocks' working state as of the end of a cycle, and the journal sequence
then reached. -/
structure Image where
  cycle : Cycle
  opState : OpState
  cells : Tab CellState
  points : Tab PointState
  scaler : Scaler
  cruiser : Cruiser
  borer : Borer
  thin : Thinning
  sawyer : Sawyer
  canopy : Canopy
  axes : Tab Axis := []
  dictVals : Tab ObjVal
  epoch : Nat
  seq : Nat
deriving DecidableEq, Repr

/-- What a CONFIGURATION frame carries (R442, R463): string-scope values, the epoch and the cycle it took effect, the registers of the heads and
the learned cable delays (R60), learned impedance tables, the interface generations of the sender's images by type, whether it has an update step
running (R551, log 51); `last` ends the item. -/
structure ConfigRx where
  values : List (Nat × ObjVal) := []
  epoch : Nat := 0
  first : Cycle := 0
  heads : List (Nat × HeadInfo) := []
  cables : List (Nat × Nat) := []
  endPath : Nat := 0
  tables : List (Nat × Tab ImpEntry × ImpHeader) := []
  gens : List (Nat × Nat) := []
  stepping : Bool := false
  last : Bool := true
deriving DecidableEq, Repr

/-- A Tether frame received (R442), its payload decoded. A hand-over frame is 0 a request, 1 an acceptance with H, 2 an abort with its cause; the
result of an adoption is 8050.02's code, none in the request. -/
inductive TetherRx where
  | heartbeat (h : Heartbeat)
  | missing (cycle : Cycle) (blocks : List BlockRec) (answers : List RingResp)
  | input (i : RepInput)
  | part (capture : Cycle) (part total : Nat) (image : Option Image)
  | handOver (kind : Nat) (h : Cycle) (cause : Nat)
  | configuration (c : ConfigRx)
  | adoption (request document : Bytes) (result : Option Nat)
deriving DecidableEq, Repr

end Sys2Proof.Machine
end

