-- ==== Sys2Proof/Syntax.lean ====
section
/-! DEFINITION. The commands of the block: one constructor of `Instr` per row of spec/opcode_table.json. -/

namespace Sys2Proof

open Sys2Proof.Machine

/-- The commands: one constructor per row of spec/opcode_table.json, its operands what the outside world shows at that instant. -/
inductive Instr where
  /-- R44: At t0 of each cycle the originating unit sends the SYNC ordered set and 32-byte header carrying the incremented cycle number on every originating port. -/
  | sync (heard : Option SyncHeader)
  /-- R45: At Ts + 10 µs the Yarder launches the string record with the front-end samples, followed by the data container of FIL characters. -/
  | stringRecord (heard : Option StringRecord)
  /-- R26: At the boundary between two cycles the module captures the Landing image, loads a new table epoch, completes Cruiser moves and switches Yarder banks, in that order. -/
  | cycleBoundary
  /-- R56: A head accepts a SYNC whose header check passes and computes its compensated sample instant and quiet-window timing. -/
  | headSyncReceive (place port : Nat) (hdr : SyncHeader)
  /-- R80: At its compensated sample instant a head holds all cell, stack and temperature channels and has results ready by Ts + 10 µs. -/
  | headSample (place : Nat) (cells : List (Option Int)) (stack : Option Int) (temps : List (Option Int)) (die : Int)
  /-- R47: As the data container passes, a head replaces the first run of FIL characters with its block, or counts a block that does not fit. -/
  | containerPass (place fil : Nat)
  /-- R83: At Ts − 150 µs a head in a clean-mode slot turns every bleed switch off. -/
  | quietWindowOpen (place : Nat)
  /-- R83: At Ts + 100 µs a head turns the slot's bleed switches on again if the present SYNC was valid. -/
  | quietWindowClose (place : Nat)
  /-- R109: At Ts the front-end strobe holds both currents and six voltages, and per-cycle front-end checks run on the results. -/
  | frontEndSample (x : StrobeSample) (aux : List (Nat × Option Int))
  /-- R110: The front-end converts main and Hall currents at 20 kHz for the i²t integrator, break decisions and the disconnector interlock. -/
  | fastSample (main hall : Int)
  /-- R115: The Hall signal crossing a direction threshold drives the trip sequencer through the analogue path within 18 µs. -/
  | hallComparatorTrip
  /-- R49: The Yarder checks an arriving head block and passes it to the tap monitor, Firebreak and lanes, or discards it as missing samples. -/
  | headBlockReceive (port : Nat) (blk : HeadBlock)
  /-- R98: After 10 consecutive cycles of head sum deviation beyond tolerance the tap monitor raises head sum mismatch and tests every tap of the head. -/
  | headSumMismatch (p : Nat)
  /-- R99: After 10 consecutive cycles of string sum deviation beyond tolerance the tap monitor raises string sum mismatch at WARN. -/
  | stringSumMismatch
  /-- R262: A configured cell with no valid value for the missing-sample limit, or unreachable heads, raises cells unmeasured at TRIP. -/
  | cellsUnmeasured (k : Nat)
  /-- R262: A cell temperature or coolant point without valid report for 100 ms raises temperature point lost at WARN. -/
  | temperaturePointLost (n : Nat)
  /-- R262: A watched head with no valid cell temperature point for 1 s raises head temperature lost, and too many such heads raise cells unmeasured. -/
  | headTemperatureLost (p : Nat)
  /-- R273: A Firebreak cause becomes inactive once its condition has been absent for the stated count or time. -/
  | firebreakCauseClear (bit cls val : Nat)
  /-- R269: At the first fast sample after t_trip + lead, and each 50 µs after, the coils are released if the break current is at or below the limit. -/
  | breakDecision (us : Nat)
  /-- R269: At t_trip + lead + break wait unreleased coils are released regardless and over-current break is reported. -/
  | breakWaitExpiry (us : Nat)
  /-- R20: Once container end has passed, the cycle data crosses into CD-LANE and the Cruiser dispatches lane jobs. -/
  | cycleDataCrossing (missed : List (Nat × Nat))
  /-- R31: A close request from the lease holder or an Operator moves the active unit from ISOLATED to PRECHECK. -/
  | closeRequest (session req : Nat)
  /-- R31: When every close condition holds, PRECHECK moves to CLOSING and the close sequence starts with K−. -/
  | checksPass
  /-- R31: A close check still false after 10 s returns PRECHECK to ISOLATED with a Tally record naming it. -/
  | precheckTimeout
  /-- R130: Closure not confirmed within 150 ms moves CLOSING to TRIPPING and releases the coils. -/
  | closeTimeout
  /-- R130: At each coil's command plus pull-in time the coil drops to its hold current. -/
  | pullInEnd (k : Nat)
  /-- R31: An open request ramps the set-point to zero and opens the contactors once the current is at or below the break current. -/
  | openRequest (session req : Nat)
  /-- R31: A current that stays above the break current for 2 s after an open request moves the state to TRIPPING. -/
  | openRequestTimeout
  /-- R31: An Engineer request moves ISOLATED to SERVICE, stopping balancing and releasing manual motion. -/
  | serviceRequest (session req : Nat)
  /-- R31: An exit request or loss of the Engineer session returns SERVICE to ISOLATED once the axes have stopped. -/
  | exitRequest (session req : Nat)
  /-- R31: An Operator reset with no TRIP fault active moves TRIPPED to ISOLATED and releases TRIP-PCS. -/
  | resetRequest (session req : Nat)
  /-- R31: An Integrator clear with the cause no longer active clears the lockout latch and moves LOCKOUT to ISOLATED. -/
  | clearRequest (session req : Nat)
  /-- R523: A write of 1 to 9050.01 moves ISOLATED to SLEEP, sends BLEED-OFF, checkpoints, loads Lookout rules and powers the domains down. -/
  | sleepRequest (session req : Nat)
  /-- R128: A debounced change of a contactor auxiliary input updates confirmed-open or confirmed-closed and drives the close or trip sequence. -/
  | auxContactChange (k : Nat) (no nc : Bool)
  /-- R128: NO and NC in the same state for more than 50 ms is reported at DEGRADE. -/
  | auxiliaryContactFault (k : Nat)
  /-- R127: Hold current outside ±20 % of target for 100 ms is reported as coil drive fault at TRIP. -/
  | coilDriveFault (k : Nat) (within : Bool)
  /-- R131: A contactor not confirmed open within 100 ms of coil release is declared welded and the state goes to LOCKOUT. -/
  | weldCheckAuxTimeout
  /-- R131: Once the link has fallen below half the string voltage, 10-cycle averages of the contactor voltages decide weld or pass. -/
  | weldCheckVoltageStage
  /-- R132: When the link has not fallen within the weld wait the voltage stage is inconclusive and weld check inconclusive is reported. -/
  | weldWaitExpiry
  /-- R113: A write to 2010.06 requests a full auto-zero, refused unless the contactors have been open for 1 s in a permitted state. -/
  | autoZeroRequest (session req : Nat)
  /-- R113: Every 10 min in ISOLATED, and after every confirmed opening, a full auto-zero becomes due. -/
  | autoZeroTimer
  /-- R113: A due auto-zero starts once the Hall value is valid and within ±20 A, holding the current values. -/
  | autoZeroStart
  /-- R113: After 200 ms the offsets of both sensors are stored with the completion cycle and baseplate temperature. -/
  | autoZeroComplete (mainOffset hallOffset baseplate : Int)
  /-- R114: Every 10 s with contactors closed the main sensor runs a 2 ms magnetisation reversal. -/
  | inServiceZero
  /-- R119: When the injection current has settled the monitor reverses the source and after a full period computes and publishes r_iso. -/
  | insulationHalfPeriodEnd (leak : Int) (drift cap pos : Nat)
  /-- R121: No completed insulation result for 120 s with injection enabled sets bit [9] and reports at WARN. -/
  | insulationResultStale
  /-- R123: A write to 2012.03 enables or disables insulation injection, refused while the envelope enables the insulation trip. -/
  | injectionEnable (session req : Nat) (on : Bool)
  /-- R38: A receiver declares loss of signal after 16 character times without a valid character or 4 violations in 64 characters. -/
  | losDeclared (port code disparity : Nat) (late : Bool)
  /-- R38: A receiver clears LOS after 1,000 consecutive valid characters. -/
  | losCleared (port : Nat)
  /-- R62: An enumerated head that declares LOS on an input wraps, returns originated traffic out of its healthy port and sends BRK once per cycle. -/
  | headWrap (input : HeadInput)
  /-- R63: SYNC not reaching the receive port by transit time + 10 µs in two consecutive cycles is a break cause. -/
  | syncNotReturned (port : Nat) (late : Bool)
  /-- R65: A head with no valid block for 3 consecutive cycles while both ports originate is unreachable and raises cells unmeasured. -/
  | headUnreachable (p : Nat)
  /-- R66: A wrapped head sets flag [6] once its failed input has been clean for the unwrap qualification. -/
  | farSideRestored (far : FarSide)
  /-- R66: A write of 1 to 2100.06 releases the unwrap hold. -/
  | unwrapRelease (session req : Nat)
  /-- R67: The Yarder readmits a restarted head by IDENTIFY, restores P and delays, and unwraps. -/
  | headReadmission (p : Nat) (ident : HeadIdent)
  /-- R59: The Yarder identifies heads hop by hop, measures round trips, computes positions and delays and loads them into every head. -/
  | enumeration (near far : List HeadIdent) (closed : Bool) (endHop endPath : Nat)
  /-- R68: On completion the ring state becomes CLOSED or WRAPPED and configuration mismatch is checked. -/
  | enumerationComplete
  /-- R68: A write of 1 to 2100.07 in ISOLATED or SERVICE starts re-enumeration. -/
  | reEnumerate (session req : Nat)
  /-- R52: On return of a command frame the Yarder checks the address byte and response area, and resends or fails the command. -/
  | commandFrameReturn (port seq addr : Nat) (answer : Option HeadResponse) (relayed : Option RingCmd)
  /-- R74: A write to 2110.0C or 2111.0C clears the port's link error counters. -/
  | ringCounterClear (session req : Nat) (port : Nat)
  /-- R87: A head returns its serial number, channel counts, latencies, contract version, state flags, R_bleed and group delay. -/
  | identify (place : Nat) (f : Frame)
  /-- R86: A head in INITIAL stops wrapping and forwards traffic so the next head wraps. -/
  | openHead (place : Nat) (f : Frame)
  /-- R86: A head stores its physical position P. -/
  | setPosition (place : Nat) (f : Frame) (payload : Bytes)
  /-- R86: A head loads D_W and D_E and, holding P, enters ENUMERATED. -/
  | setDelay (place : Nat) (f : Frame) (payload : Bytes)
  /-- R86: A head takes its cell channel count and temperature mask from the next SYNC. -/
  | configure (place : Nat) (f : Frame) (payload : Bytes)
  /-- R86: A wrapped head returns to through operation from the SYNC of the cycle after next. -/
  | unwrap (place : Nat) (f : Frame)
  /-- R91: A head accepts or refuses a bleed slot against the adjacency, heat and current limits. -/
  | bleedSlot (place : Nat) (f : Frame) (payload : Bytes)
  /-- R91: At the SYNC with the stated start cycle an accepted slot's switches begin conducting for its length. -/
  | bleedSlotStart (place : Nat)
  /-- R86: A head turns every bleed switch off at once and discards accepted slots. -/
  | bleedOff (place : Nat) (f : Frame)
  /-- R90: A head runs an open-wire test: baseline sample, source on the tap for k samples, switches off throughout. -/
  | owTest (place : Nat) (f : Frame) (payload : Bytes)
  /-- R247: A head turns one bleed switch on through m samples with all others off. -/
  | switchTest (place : Nat) (f : Frame) (payload : Bytes)
  /-- R88: A head returns die temperature, flags and counters and clears flag [0]. -/
  | readStatus (place : Nat) (f : Frame)
  /-- R92: A head converts its 2.5 V reference on every cell channel for the stated cycles and the tap monitor checks each channel. -/
  | testRef (place : Nat) (f : Frame) (payload : Bytes)
  /-- R86: A head restarts into INITIAL after its response. -/
  | restart (place : Nat) (f : Frame) (payload : Bytes)
  /-- R86: A head returns the payload unchanged. -/
  | echo (place : Nat) (f : Frame) (payload : Bytes)
  /-- R85: No valid SYNC within 1,010 µs of the previous one makes a head keep bleed off and send no block. -/
  | headCycleMissing (place : Nat)
  /-- R85: After 5 consecutive missing cycles a head turns off bleed and open-wire sources and discards accepted slots and tests. -/
  | headSyncLost (place : Nat)
  /-- R58: A head without valid SYNC for 100 ms drops P and delays and wraps on both ports. -/
  | headInitialState (place : Nat)
  /-- R85: After 10 s without valid SYNC a head in INITIAL enters low-power listen with wrap kept. -/
  | headLowPower (place : Nat)
  /-- R85: Any valid character wakes a low-power head to INITIAL within 20 ms. -/
  | headWake (place : Nat)
  /-- R101: The Yarder sends scheduled OW-TEST commands spread evenly over the test period. -/
  | openWireTestSchedule (p : Nat)
  /-- R101: A write to 2103.06 requests an on-demand open-wire test of a tap or of every tap of a head. -/
  | openWireTestRequest (session req : Nat) (head tap : Nat)
  /-- R102: From the baseline and last source-on samples the tap monitor classifies the tap as intact, high resistance, open or implausible. -/
  | openWireEvaluation (p : Nat)
  /-- R102: A suspected tap without a test result 1 s after the suspicion is classified open. -/
  | tapSuspicionTimeout (p tap : Nat)
  /-- R107: A write to 2103.05 clears sense lost and tap state 3 or 4 when the last 3 tests were intact. -/
  | senseLostClear (session req : Nat) (head tap : Nat)
  /-- R96: A write of P to 2103.08 clears bleed gate failure of the head in ISOLATED or SERVICE. -/
  | bleedGateFailureClear (session req : Nat) (head : Nat)
  /-- R146: A configuration write enters staging and makes its session the staging owner. -/
  | stagedWrite (session req : Nat) (index sub : Nat) (value : ObjVal)
  /-- R148: The staging owner's COMMIT checks the whole staged copy and schedules a new table epoch at the boundary of R27, or is refused. -/
  | commit (session req : Nat)
  /-- R146: A write to 1F00.03 discards every staged change. -/
  | discardStaging (session req : Nat)
  /-- R146: No staged write by the owner for 1F00.07 discards the staging. -/
  | stagingIdleTimeout
  /-- R141: Cell command 0x01 marks the cell inserted at the effective boundary. -/
  | insertionCommand (session req : Nat) (cell : Nat)
  /-- R196: Cell command 0x02 sets learned capacity to nominal, discards the traverse and writes records. -/
  | capacityReset (session req : Nat) (cell : Nat)
  /-- R196: Cell command 0x03 sets the equivalent full cycles to 0 and writes records. -/
  | cycleCountReset (session req : Nat) (cell : Nat)
  /-- R181: A whole chemistry table written to 4010 + slot is checked and staged until the next COMMIT. -/
  | chemistryTableWrite (session req : Nat) (slot : Nat) (table : Bytes)
  /-- R137: A failed configuration or state check on reading a table entry is repaired from persistence or the last checkpoint. -/
  | tableEntryRepaired (cellEntry state : Bool) (n : Nat)
  /-- R144: A point without a valid source sample for three source periods becomes stale. -/
  | pointStale (n : Nat)
  /-- R169: A write to 3400 + n.27 clears the point's minimum and maximum. -/
  | extremesClear (session req : Nat) (point : Nat)
  /-- R161: A write to 4705.01 drains a lane, moving its cells away at up to 16 per boundary. -/
  | laneDrainRequest (session req : Nat) (lane : Nat)
  /-- R164: Every 60 s, at SLEEP entry and before a core hand-over, a Landing image is written to storage with dictionary and journal refresh. -/
  | storageCheckpoint (failed : Bool)
  /-- R164: Every 60 s the minute record is written to the minute tier. -/
  | minuteAggregate
  /-- R164: Every 3,600 s the hour record is written to the hour tier. -/
  | hourAggregate
  /-- R166: When erase counts differ by more than 2,000 the Cruiser swaps the least-written unit into the most worn. -/
  | wearSwap
  /-- R176: After 10 s of holding a cell temperature the lane reports cell temperature unknown. -/
  | cellTemperatureUnknown (k : Nat)
  /-- R188: When the voltage and taper conditions have held for the taper window, usable SoC becomes 100 % and cells are anchored. -/
  | endOfCharge
  /-- R189: When the empty-side conditions have held for the taper window, usable SoC becomes 0 % and cells are anchored. -/
  | endOfDischarge
  /-- R191: An end event detector re-arms after its voltage condition has been false for 60 s and clears flags [6] and [7]. -/
  | endEventRearm (charge : Bool)
  /-- R184: Flag [2] clears when the held amounts have stayed at or below 2.5 % for 600 s. -/
  | countingDivergenceClear (k : Nat)
  /-- R204: At BOOT the lanes rebuild cell state from checkpoint, learned-value records and snapshot parts, widening uncertainty. -/
  | stateRebuild (badTables : List Nat)
  /-- R210: Every request interval, when conditions hold, the module places a perturbation descriptor in the converter frames for a new window. -/
  | perturbationWindowRequest
  /-- R210: When a window condition fails or on TRIPPING the module sends command 2 and discards the window. -/
  | perturbationStop
  /-- R210: A write to 4800.07 runs windows back to back for the stated hours, or ends a sweep. -/
  | sweepRequest (session req : Nat) (hours : Nat)
  /-- R214: At the window's last cycle the Borer completes demodulation and discards per-cell or whole windows. -/
  | windowEnd
  /-- R217: A window or step result applies from Ce + 1,000, updating Rdc, R1, τ1 and the impedance table. -/
  | resultApplication
  /-- R223: Every 86,400,000 cycles the ages of impedance table entries advance. -/
  | impedanceAgeAdvance
  /-- R224: A write to 4C00 + k − 1.08 resets the cell's learned impedance table. -/
  | impedanceTableReset (session req : Nat) (cell : Nat)
  /-- R226: Hourly and after learning or Rdc updates the lanes evaluate health indicators and raise cell health. -/
  | healthEvaluation
  /-- R228: During a rest past t_full the lanes take a rest snapshot every snapshot interval. -/
  | restSnapshot
  /-- R230: At rest end and every 24 h the lanes compute relative self-discharge rates and update estimates and suspicion states. -/
  | restEvaluation
  /-- R232: A write to 4802.05 clears an internal-short suspicion when the last 3 qualifying results allow. -/
  | suspicionClear (session req : Nat) (cell : Nat)
  /-- R237: Every 10 s the scheduler recomputes each cell's charge to shed. -/
  | targetRecompute
  /-- R241: L cycles before each slot the scheduler grants bleed per head within the heat budget and queues BLEED-SLOT. -/
  | slotDecision
  /-- R242: With no acknowledgement by cycle 100s − 1 the scheduler sends BLEED-OFF and counts under both maps. -/
  | bleedSlotUnacknowledged (p : Nat)
  /-- R246: Each test interval, or on a head serial change, the scheduler runs the switch test on every head. -/
  | switchTestSchedule
  /-- R246: A write to 5000.0B requests a switch test of one or all heads. -/
  | switchTestRequest (session req : Nat) (head : Nat)
  /-- R249: A completed switch test is validated, classifies the switch and learns tap resistances. -/
  | switchTestEvaluation (p : Nat)
  /-- R250: A write to 5000.0F clears flag [9] set by the switch test. -/
  | exclusionClear (session req : Nat) (cell : Nat)
  /-- R428: An envelope document written to 7850.01 is checked in order and takes effect at a boundary after its self-test. -/
  | envelopeInstall (session req : Nat) (document : Bytes)
  /-- R278: The Firebreak loads and checks its limit registers and drives every comparator on a test path. -/
  | firebreakSelfTest (pass : Bool)
  /-- R430: A signed key-change document replaces the envelope verify key and raises the envelope sequence. -/
  | envelopeKeyChange (session req : Nat) (document : Bytes)
  /-- R276: The two units' protection summaries for a cycle are compared and repeated mismatches raise protection mismatch. -/
  | protectionSummaryCompare (partner : Option Summary)
  /-- R298: A Dispatcher write to 6108.01 claims the dispatch lease if none is held. -/
  | claim (session req : Nat)
  /-- R298: A write to 6108.02 by the holder identity resets the remaining lease time. -/
  | renew (session req : Nat)
  /-- R299: A write to 6108.03 by the holder ends the lease. -/
  | release (session req : Nat)
  /-- R299: An Arbiter write to 6108.07 ends the lease. -/
  | revoke (session req : Nat)
  /-- R299: When the remaining lease time reaches 0 the lease ends and the mode becomes IDLE. -/
  | dispatchLeaseExpired
  /-- R297: A lease holder write of dispatch mode, current or power request changes the target at the next boundary. -/
  | dispatchRequestWrite (session req : Nat) (sub : Nat) (value : Int)
  /-- R287: A write to 6010 + s.01 changes a loop slot between off, auto and manual without a step. -/
  | slotModeWrite (session req : Nat) (slot mode : Nat)
  /-- R310: A write of 1 to 6400 + b.0C arms the trace buffer once. -/
  | traceArmSingle (session req : Nat) (b : Nat)
  /-- R310: A write of 2 to 6400 + b.0C arms the buffer in re-arm mode. -/
  | traceArmRearm (session req : Nat) (b : Nat)
  /-- R310: A write of 0 to 6400 + b.0C disarms the buffer. -/
  | traceDisarm (session req : Nat) (b : Nat)
  /-- R310: A write of 3 to 6400 + b.0C triggers the buffer by software. -/
  | traceSoftwareTrigger (session req : Nat) (b : Nat)
  /-- R310: After 2,048 − pre-trigger samples the buffer stops and its capture is complete. -/
  | traceCaptureComplete (b : Nat)
  /-- R310: Reading a completed capture in re-arm mode arms the buffer again. -/
  | traceCaptureRead (session req b : Nat)
  /-- R316: When a threshold's point updates, its filtered value advances the beyond or clear counts of the threshold state machine. -/
  | thresholdSample (j : Nat)
  /-- R316: A pending threshold becomes ACTIVE, raising its fault and applying its actions. -/
  | entryDwellExpired (j : Nat)
  /-- R316: A clearing threshold returns to NORMAL, clearing its fault and removing its actions. -/
  | exitDwellExpired (j : Nat)
  /-- R321: After the fail-safe delay without a good measurement a Canopy slot goes to manual at its fail-safe output. -/
  | canopyFailSafe (n : Nat)
  /-- R326: A new axis target replans the trapezoidal ramp from the present position and velocity. -/
  | axisTargetChange (a : Nat) (now : AxisNow)
  /-- R327: After the standstill delay without a step the coil current falls to the standstill fraction. -/
  | standstillDelay (a : Nat)
  /-- R330: 4 consecutive failing chopper periods switch the axis to the fall-back chopper. -/
  | chopperFallBack (a fails : Nat)
  /-- R330: A write to 6860 + a.10 at standstill returns the axis to the hysteresis chopper. -/
  | chopperRestore (session req : Nat) (axis : Nat)
  /-- R332: Position and encoder differing beyond the window for 10 ms stop the axis, unhome it and report step loss. -/
  | stepLoss (a : Nat) (now : AxisNow)
  /-- R333: A LIM+, LIM− or HOME edge qualifies after 2 ms with its latched position, driving limits, homing and disconnector logic. -/
  | switchEdge (a input : Nat) (level : Bool) (latched : Int) (edges : Nat) (now : AxisNow)
  /-- R335: Follower lag beyond the follow window for 100 ms makes it decelerate and hold. -/
  | gearingLag (a : Nat) (now : AxisNow)
  /-- R336: A write to 6880 + a.07, or auto-home at BOOT, starts the homing search. -/
  | homeRequest (session req : Nat) (axis : Nat)
  /-- R337: Command 0 to 68B0.01 stops the disconnector axis. -/
  | disconnectorStop (session req : Nat)
  /-- R337: Command 1 to 68B0.01 moves the disconnector towards LIM+ if the interlock permits. -/
  | disconnectorClose (session req : Nat)
  /-- R337: Command 2 to 68B0.01 moves the disconnector towards LIM− if the interlock permits. -/
  | disconnectorOpen (session req : Nat)
  /-- R337: No target switch within the travel time-out stops the disconnector and reports disconnector travel fault. -/
  | travelTimeout
  /-- R325: An Operator write of 6870 + a.07 moves an axis in manual mode in SERVICE. -/
  | manualTarget (session req : Nat) (axis : Nat) (target : Int)
  /-- R343: A received Ethernet frame is filtered by VLAN and protocol, PRP-deduplicated and delivered, or discarded and counted. -/
  | ethernetFrameReceive (port : Nat) (frame : EthRx)
  /-- R347: Loss of link on one Ethernet port is reported at NOTICE, on both as host network lost. -/
  | linkLoss (port : Nat)
  /-- R345: Every 2 s the module sends PRP supervision frames. -/
  | prpSupervision
  /-- R352: A PTP event or general message on a port updates that instance's BMCA and time-stamps. -/
  | ptpMessageReceive (port : Nat)
  /-- R354: A measured offset steps or slews the clock and drives ACQUIRING, LOCKED and HOLDOVER transitions. -/
  | offsetMeasured (offset : Int)
  /-- R354: Announce receipt time-out or 3 missing Sync move a LOCKED clock to HOLDOVER. -/
  | announceReceiptTimeout (port : Nat) (sync : Bool)
  /-- R354: Holdover time expired moves the clock to FREE. -/
  | holdoverExpiry
  /-- R351: A write to 7100.01 selects PTP, PPS-IN or free running and puts the clock in FREE. -/
  | timeSourceWrite (session req : Nat) (source : Nat)
  /-- R351: A write to 7100.03 with source 1 or 2 sets the local time seconds. -/
  | localTimeWrite (session req : Nat) (time : Bytes)
  /-- R351: A time-stamped PPS-IN rising edge disciplines the clock. -/
  | ppsInEdge (ns : Nat)
  /-- R359: A transmit time stamp enters Q26, or is discarded with the overflow flag set when Q26 is full. -/
  | transmitTimeStamp (port sequence msgType sec ns : Nat)
  /-- R481: A W1C of 7120.03 clears the overflow flag unless a set races it. -/
  | q26OverflowClear (session req : Nat) (race : Bool)
  /-- R482: Reading 7120.04 returns and clears the overflow occurrence counter. -/
  | overflowOccurrencesRead (session req : Nat)
  /-- R362: A programmed pulse output emits its scheduled or cycle-locked edge, or a late edge after a forward step. -/
  | pulseEdge (o : Nat) (trailing : Bool)
  /-- R360: A write of pulse mode or parameters takes effect after the present pulse ends. -/
  | pulseParameterWrite (session req : Nat) (output sub : Nat) (value : ObjVal)
  /-- R364: A received CAN frame is accepted by the lowest matching receive object, verified, and queued, or discarded and counted. -/
  | canFrameReceive (n : Nat) (frame : CanRx)
  /-- R367: A CAN transmit attempt completes, loses arbitration, or fails and is retried or abandoned. -/
  | canTransmitAttempt (n : Nat) (result : CanResult)
  /-- R369: A controller reaching bus-off discards pending frames and reports at WARN. -/
  | busOff (n : Nat)
  /-- R369: After the recovery delay firmware requests bus-off recovery within its limit. -/
  | busOffRecoveryDelay (n : Nat)
  /-- R369: An Engineer write to 7200.09 starts bus-off recovery. -/
  | busOffRecovery (session req : Nat) (controller : Nat)
  /-- R375: A change of strap after BOOT is ignored and reported at WARN. -/
  | roleStrapChanged
  /-- R391: A READ PDU returns up to 64 values coherent at one cycle boundary. -/
  | read (session req : Nat) (objects : List (Nat × Nat))
  /-- R389: A WRITE PDU is checked as a whole and applied atomically at one boundary or refused with the first failing entry. -/
  | write (session req : Nat) (entries : List Entry)
  /-- R388: A write to an object with no row of its own is checked and takes effect when served or at the boundary by scope. -/
  | objectWrite (session req index sub : Nat) (value : ObjVal)
  /-- R394: A READ-BLOCK returns a range of a long value. -/
  | readBlock (session req index sub offset length : Nat)
  /-- R395: A WRITE-BLOCK part extends an open transfer, and the final part applies the whole value if length and CRC match. -/
  | writeBlock (session req index sub offset total crc : Nat) (final : Bool) (data : Bytes)
  /-- R395: A block transfer with no part for 60 s is discarded. -/
  | blockTransferTimeout (session : Nat)
  /-- R396: A SUBSCRIBE creates a subscription sampled at boundaries with C mod period = 0. -/
  | subscribe (session req period : Nat) (objects : List (Nat × Nat))
  /-- R394: An UNSUBSCRIBE deletes a subscription. -/
  | unsubscribe (session req id : Nat)
  /-- R387: A DESCRIBE returns the metadata records of up to 16 objects. -/
  | describe (session req : Nat) (objects : List (Nat × Nat))
  /-- R400: A CAN segmented-transfer frame extends the transfer or aborts it on a sequence gap. -/
  | canSegment (controller : Nat) (frame : Bytes)
  /-- R400: A segment acknowledge releases the sender to send further segments. -/
  | segmentAcknowledge (channel held : Nat)
  /-- R400: More than 1 s without the expected segment frame aborts the transfer. -/
  | transferTimeout (channel : Nat)
  /-- R404: The dictionary engine serves active sessions by deficit round robin. -/
  | engineRound (full : List Nat)
  /-- R420: A completed TLS 1.3 handshake opens a session context with roles from the client certificate, or reuses a dormant one. -/
  | tlsHandshake (conn port : Nat) (cert : ClientCert) (secret : Nat)
  /-- R403: A TCP loss without close_notify makes the session DORMANT, pausing subscriptions. -/
  | connectionLost (session : Nat)
  /-- R403: TLS resumption within the dormant window reopens the session. -/
  | sessionResumption (session port secret : Nat)
  /-- R403: A dormant session not resumed within the window ends. -/
  | dormantWindowExpiry (session : Nat)
  /-- R403: A close_notify ends the session, discarding its staging and subscriptions. -/
  | closeNotify (session : Nat)
  /-- R403: An Integrator write to 1100 + s.0C ends the session. -/
  | endSession (session req : Nat) (target : Nat)
  /-- R403: A write to 7810 + ch.04 enables or disables a CAN secure channel session. -/
  | channelEnable (session req : Nat) (channel : Nat) (on : Bool)
  /-- R422: A write of 1 to 7860.01 opens or re-keys the session's fast channel from the TLS exporter. -/
  | fastChannelOpen (session req : Nat)
  /-- R422: A write of 0 to 7860.01 closes the fast channel. -/
  | fastChannelClose (session req : Nat)
  /-- R423: A UDP datagram is authenticated against window and epoch and its PDU served or its kept response resent. -/
  | fastChannelDatagram (port : Nat)
  /-- R413: An adoption request written to 7801.01 is checked against the code and stores anchors, verify key and string identifier. -/
  | adoptionRequest (session req : Nat) (document : Bytes)
  /-- R414: The adoption wait after repeated code failures expires and requests are accepted again. -/
  | adoptionWaitExpiry
  /-- R415: An Integrator write to 7801.02 erases anchors, keys, identifier and envelope and ends every session. -/
  | deAdopt (session req : Nat)
  /-- R417: A write to 7802–7805 replaces an anchor or its role mask and ends sessions under the old anchor. -/
  | trustAnchorWrite (session req : Nat) (anchor sub : Nat) (value : ObjVal)
  /-- R421: A write to 7808.01 updates the denial list and ends every session of a denied identity. -/
  | denialListWrite (session req : Nat) (digests : Bytes)
  /-- R424: A write to 7810 + ch.01 installs a CAN channel key. -/
  | channelKeyWrite (session req : Nat) (channel : Nat) (key : Bytes)
  /-- R431: A nonce written to 7870.01 produces a snapshot of the next boundary signed by the device key. -/
  | signedSnapshot (session req : Nat) (nonce : Bytes)
  /-- R432: A nonce written to 7871.01 produces a signed attestation report of the image measurements. -/
  | attestation (session req : Nat) (nonce : Bytes)
  /-- R441: At Tether link-up each unit exchanges PAIR-HELLO with certificate, identifier, strap, nonce and ephemeral key. -/
  | pairHello (hello : Hello)
  /-- R441: A PAIR-PROOF signature completes pairing, derives the Tether keys and grants the Partner role. -/
  | pairProof (ok : Bool)
  /-- R443: An accepted partner heartbeat updates role decisions and the hand-over frame-check comparison. -/
  | heartbeatReceive (seq : Nat) (ok : Bool) (hb : Heartbeat)
  /-- R443: Five consecutive missed heartbeats make heartbeat lost, driving takeover, claim or partner lost. -/
  | heartbeatLost
  /-- R446: The partner WHISTLE sense classification changes between ALIVE, STOPPED, ABSENT and STALE. -/
  | partnerSenseChange (sense : Sense)
  /-- R437: 2 s or 10 s after Tether enabling without a heartbeat an UNDECIDED unit becomes ACTIVE or CLAIMING. -/
  | roleDecisionTimeout
  /-- R72: A Tether MISSING DATA frame gives the standby the blocks its relay path missed. -/
  | missingData (seq : Nat) (ok : Bool) (cycle : Cycle) (blocks : List BlockRec) (answers : List RingResp)
  /-- R444: A replicated input frame delivers a string-state input with its effective cycle to the standby's input log. -/
  | replicatedInput (seq : Nat) (ok : Bool) (input : RepInput)
  /-- R449: A checkpoint part builds the held Landing image at the standby. -/
  | checkpointPart (seq : Nat) (ok : Bool) (capture : Cycle) (part total : Nat) (image : Option Image)
  /-- R463: A CONFIGURATION frame delivers string-scope configuration and impedance tables to the partner. -/
  | configuration (seq : Nat) (ok : Bool) (frame : ConfigRx)
  /-- R463: An ADOPTION frame carries a new unit's adoption request and envelope document, and its result. -/
  | adoption (seq : Nat) (ok : Bool) (request document : Bytes) (result : Option Nat)
  /-- R463: An Integrator write of the label code to 8050.01 starts adoption of a new partner over the Tether. -/
  | partnerAdoptionCode (session req : Nat) (code : Bytes)
  /-- R437: When all readiness bits are set a JOINING unit becomes STANDBY. -/
  | readinessComplete
  /-- R450: A write of 1 to 8020.01 on the active unit accepts a planned hand-over and fixes H. -/
  | handOverRequest (session req : Nat)
  /-- R465: A write of 0 to 8020.01 before H − 50 cancels the hand-over. -/
  | handOverCancel (session req : Nat)
  /-- R453: When the swap interval has passed the active unit starts a planned hand-over, retrying every 60 s. -/
  | roleSwapTimer
  /-- R451: An incoming unit not warm by H − 100 aborts the hand-over with cause 5. -/
  | notWarmAbort
  /-- R451: At the boundary before H − 50 both units digest their stateful image and refuse COMMIT and envelope installs. -/
  | stateFreeze
  /-- R451: At H the incoming unit starts bit-identical stateful streams and drives the coil high sides. -/
  | overlapStart
  /-- R71: At a boundary the outgoing unit enters relay and the incoming unit originates SYNC and takes SYNC-PCS. -/
  | originationChange
  /-- R451: At the boundary before H + 100 the outgoing unit stops its streams and becomes STANDBY, the incoming ACTIVE. -/
  | handOverComplete
  /-- R454: A standby whose coil current has dropped below 60 % for 200 µs drives that coil's high side at hold current. -/
  | coilCatch (k : Nat)
  /-- R454: A catch ends when the coil current fails to reach 60 % in 2 ms, or after 100 cycles of partner flag [1]. -/
  | coilCatchEnd (k : Nat) (openPath : Bool)
  /-- R455: A unit entering TAKING-OVER originates, takes SYNC-PCS, injects, sends bridge frames and replays from its image. -/
  | takeover (late : Bool)
  /-- R457: When replay reaches the present cycle the unit becomes ACTIVE and sends computed frames under the rise clamp. -/
  | catchUpComplete
  /-- R459: An Arbiter write of the round number to 8030.03 grants a claim round. -/
  | grant (session req : Nat) (round : Nat)
  /-- R459: An Arbiter write of the round number to 8030.04 denies a claim round. -/
  | denial (session req : Nat) (round : Nat)
  /-- R437: 200 ms without grant or denial settles a CLAIMING unit by its previous role. -/
  | claimTimeout
  /-- R460: 100 cycles after a denial the previously active unit releases its coil high sides. -/
  | denialHoldEnd
  /-- R461: Partner SYNC at the own receive port in 3 consecutive cycles makes the losing unit stop originating and become STANDBY. -/
  | partnerSyncDetected
  /-- R472: A fault message entering Q24 has its reaction, first-fault capture and active-fault update applied. -/
  | faultMessage (msg : Option FaultMsg)
  /-- R470: A clear message ends an active fault and may clear the DEGRADE condition. -/
  | faultClear (msg : Option FaultMsg)
  /-- R476: The control core acknowledges a fault once firmware has applied its present severity, stopping escalation. -/
  | faultAcknowledge (fault : FaultMsg)
  /-- R476: An unacknowledged fault below its ceiling is raised one severity at the end of its grace time. -/
  | graceExpiry (fault : FaultMsg)
  /-- R478: At t0 two cycles after a cycle the first-fault capture for that cycle closes and is recorded. -/
  | firstFaultCaptureClose
  /-- R478: Writing bit [0] of 8801.04 re-arms the first-fault register. -/
  | firstFaultRearm (session req : Nat)
  /-- R478: Writing bit [1] of 8801.04, or leaving TRIPPED or LOCKOUT, re-arms the first-trip register. -/
  | firstTripRearm (session req : Nat)
  /-- R484: The core writes the alternating service value to the watchdog. -/
  | watchdogService (value : Nat)
  /-- R484: An unserved watchdog stops WHISTLE, relays the ring, releases high sides or trips, and leads to a restart. -/
  | watchdogExpired
  /-- R487: A write of 1 to an A010–A016 .01 arms a provoked-fault injection in a permitted state or as a drill. -/
  | provokedFaultArm (session req : Nat) (link : Nat)
  /-- R487: A write of 0, or loss of the arming condition, stops an injection. -/
  | provokedFaultStop (session req : Nat) (link : Nat)
  /-- R486: At the start cycle an armed injection begins acting on eligible frames. -/
  | provokedFaultStart (link : Nat)
  /-- R486: At the end of its duration an injection ends and releases held frames. -/
  | provokedFaultEnd (link : Nat)
  /-- R491: The Tally writes queued records to storage in order, assigning sequence numbers. -/
  | tallyWrite
  /-- R490: An Integrator write to 8A00.06 discards the keep area and writes a keep cleared record. -/
  | keepAreaClear (session req : Nat)
  /-- R495: Reading 8A10.02 returns records from the session's cursor and advances it. -/
  | tallyRead (session req : Nat) (block : Bool)
  /-- R31: A supply able to run PD0 moves OFF to BOOT. -/
  | supplyPresent (aux1 aux2 bus vHvb strap : Nat) (backupOk : Bool)
  /-- R504: With Firebreak active, core booted and role known the module leaves BOOT for ISOLATED, LOCKOUT or the partner's state. -/
  | bootComplete
  /-- R499: A supply bus source loss starts the HV backup converter or leads to POWER-GOOD falling. -/
  | sourceLoss (vHvb : Nat) (backupFault : Bool)
  /-- R499: The backup converter reaches regulation and the module reports on backup supply. -/
  | backupRegulating (bus : Nat)
  /-- R499: AUX held at 18 V for 100 ms stops the backup and returns the bus to AUX. -/
  | auxReturn (aux1 aux2 : Nat)
  /-- R501: POWER-GOOD falling stops journal and Tally writes, sheds domains and takes the yield or trip branch. -/
  | powerGoodFall
  /-- R501: At the end of hold-up every domain is off and the state becomes OFF. -/
  | holdUpExpiry
  /-- R502: At BOOT and every 24 h the module measures the hold-up store by partial discharge. -/
  | holdUpTest (time : Nat)
  /-- R503: A domain over-current or under-voltage for 100 µs opens its switch and applies the domain's reaction. -/
  | powerDomainFault (d : Nat)
  /-- R506: An Integrator write of 1 to 9010.01 in a permitted state requests a restart. -/
  | restartRequest (session req : Nat)
  /-- R506: A restart stores its cause, disconnects every domain for 50 ms and starts again from OFF. -/
  | moduleRestart
  /-- R507: Once per millisecond the Lookout counts every clock against CD-AO and raises clock fault after 3 failures. -/
  | clockCheck (bad : List Nat) (crystal : Bool) (hz : Nat)
  /-- R511: A module temperature sensor sample advances level counts and sets the zone's warning, throttle or shut-down level. -/
  | temperatureSensorSample (n : Nat) (t : Int)
  /-- R514: After a temperature shut-down trip the unit switches off non-essential domains and sets the thermal latch. -/
  | thermalShutDown
  /-- R515: In SLEEP a sense burst powers PD8 to sample V_STR and current and update the current record. -/
  | senseBurst (vStr current : Int)
  /-- R515: In SLEEP an insulation burst runs one full insulation period. -/
  | insulationBurst (iPos iNeg : Int)
  /-- R516: In SLEEP a ring poll readmits heads and collects 16 cycles of cell voltages and temperatures. -/
  | ringPoll (cells : List (Nat × Int × Int)) (points : List Int) (changed : List Nat) (cycles : Nat)
  /-- R518: When the Lookout buffer is 75 % full a burst writes its records to the Tally. -/
  | logFlush
  /-- R521: Each input update evaluates the Lookout rules, which fire after their dwell and log, wake or lock out. -/
  | ruleEvaluation (codes : List Nat) (bus : Int) (fire : Bool)
  /-- R519: A write of the rule table to 9040.01 is checked and stored for the next SLEEP entry. -/
  | ruleTableWrite (session req : Nat) (table : Bytes)
  /-- R524: The wake timer expiring in SLEEP makes a wake decision. -/
  | wakeTimer
  /-- R524: PPS-IN held high for 2 s in SLEEP makes a wake decision. -/
  | ppsInHold
  /-- R524: The ISO 11898-2 wake-up pattern on CAN-A in SLEEP makes a wake decision. -/
  | canWakeUpPattern
  /-- R524: Line energy from a waking partner on the Tether makes a wake decision. -/
  | tetherLineEnergy
  /-- R533: A queued journal record is written to its fixed or log slot and, for PERS writes, releases the response. -/
  | journalWrite (cut : Nat)
  /-- R533: With 1,032 log records above the refresh point the module refreshes dictionary persistence at once. -/
  | logRefresh
  /-- R530: A storage program, erase or read failure retires the unit or falls back to an older copy. -/
  | storageUnitFailure (read : Bool) (n : Nat)
  /-- R537: When a processor boots an image the key vault verifies it, falling back to the other bank on failure. -/
  | imageVerification (type number : Nat) (body other : Digest)
  /-- R541: A write to 9820.02 starts staging and marks the inactive bank invalid. -/
  | packageLength (session req : Nat) (length : Nat)
  /-- R541: A WRITE-BLOCK chunk to 9820.01 adds package data in ascending order. -/
  | stagingChunk (session req : Nat) (chunk : Bytes)
  /-- R541: A write to 9820.03 checks the package and completes the staged bank or refuses it. -/
  | packageDigest (session req : Nat) (digest : Bytes)
  /-- R542: A write of 1 to 9830.02 starts or resumes the update steps. -/
  | updateStart (session req : Nat)
  /-- R542: A write of 0 to 9830.02 stops the update before its next step. -/
  | updateStop (session req : Nat)
  /-- R540: A write of 2 to 9830.02 schedules advance of G at boundary Ha with working-state conversion. -/
  | generationAdvance (session req : Nat)
  /-- R548: A write of 3 to 9830.02 confirms the update and frees the kept set. -/
  | updateConfirm (session req : Nat)
  /-- R549: A write of 4 to 9830.02 runs the update steps in reverse to the previous images. -/
  | rollBack (session req : Nat)
  /-- R542: The next update step starts on its processor when conditions allow, or waits and retries every 10 s. -/
  | updateStep
  /-- R545: A completed update step records the bank in force in the update state. -/
  | updateStepComplete (step : Nat) (ok : Bool) (code : Nat)
  /-- R544: At Hc the incoming control core loads the hand-over area and takes queues, watchdog and outputs. -/
  | coreHandOver
  /-- R548: The confirmation period running out without a rollback trigger confirms the update. -/
  | confirmationPeriodExpiry
  /-- R558: Seat detect held closed for 100 ms qualifies and sets t_A. -/
  | seatDetect
  /-- R559: A seat-detect opening of 0.5 ms counts as a source loss with backup unavailable, with break wait 0 in the trip branch. -/
  | seatDetectOpening
  /-- R63: A BRK control character received on any Yarder port makes the Yarder declare a break and originate on both ports. -/
  | breakNotice (late : Bool)
  /-- R352: Every 1 s each PTP instance sends its Pdelay_Req and, when it is master on that port, its Sync and Announce. -/
  | ptpMessageInterval
  /-- R347: An Ethernet PHY gains link by auto-negotiation or forced speed, updating the link state and ending host network lost. -/
  | ethernetLinkUp (port speed : Nat)
  /-- R525: An AUX input outside 18–32 V for 100 ms, while another source supplies the bus, raises AUX input out of range at WARN. -/
  | auxInputOutOfRange (input mV : Nat)
  /-- R326: An axis reaches the end of its planned ramp and comes to standstill, ending a homing back-off and freeing a motion place for a waiting axis. -/
  | moveComplete (a : Nat) (now : AxisNow)
  /-- R420: A received TLS ClientHello that offers none of the supported parameters is refused with handshake_failure, and any other starts the 10 s handshake limit. -/
  | clientHello (conn port : Nat) (supported : Bool)
  /-- R420: A handshake not completed within 10 s of its ClientHello closes the connection. -/
  | tlsHandshakeTimeout (conn : Nat)
  /-- R369: After 128 occurrences of 11 recessive bits a recovering controller leaves bus-off and resumes transmission. -/
  | busOffRecoveryComplete (n : Nat)
  /-- R442: A Tether HAND-OVER frame (request, acceptance with H, or abort with its cause) received from the partner moves a standby to INCOMING or aborts the hand-over. -/
  | handOver (seq : Nat) (ok : Bool) (kind : Nat) (h : Cycle) (cause : Nat)
  /-- R429: A partner that does not answer an envelope install within 1 s makes both units refuse the install with 0x080A_0000. -/
  | envelopePartnerTimeout
deriving DecidableEq, Repr

end Sys2Proof
end

