-- ==== Sys2Proof/Decode.lean ====
section
/-! DEFINITION. The commands a word spells. No row of spec/opcode_table.json gives bits, so no word spells a command; a command reaches
the queue from outside (log entry 3). -/

namespace Sys2Proof

/-- The command a word of `nbits` bits spells: none, since the table gives no bits. -/
def decodeTableWord (nbits w : Nat) : Option Instr :=
  match nbits, w with
  | _, _ => none

end Sys2Proof
end

