-- ==== Sys2Proof/Config.lean ====
section
/-! DEFINITION. What the spec leaves to an implementation, or to standards it only names: free values. Each is a constant without a body,
so nothing can be proved of its value and every statement holds whatever it is (log entries 7 and 8). -/

namespace Sys2Proof.Config

/-- An unstated value: the `n`-th one drawn (State.free counts them). -/
opaque freeInt : Nat → Int

/-- An unstated choice: the `n`-th one drawn. -/
opaque freeBool : Nat → Bool

/-- SHA-256 (FIPS 180-4; the spec only names it: R279, R432, R541). -/
opaque sha256 : Bytes → Digest

/-- ECDSA P-256 signature check of a digest under a public key (R427, R430, R536). -/
opaque ecdsaVerify : Bytes → Digest → Bytes → Bool

/-- The vendor image anchor, an ECDSA P-256 public key: given at manufacture and changed by nothing, so it is no part of the state (R409, R410). -/
opaque imageAnchor : Bytes

/-- The format version that an image, named by its body digest, writes of a persistent block type (R546; the spec gives no numbers). -/
opaque blockFormat : Digest → Nat → Nat

/-- ECDSA P-256 signature of a digest by the device key (R431, R432, R441). -/
opaque ecdsaSign : Digest → Bytes

/-- AES-CMAC of a message under a 128-bit key, truncated as the chapter says (R424). -/
opaque cmac : Nat → Bytes → Nat

/-- AES-GCM tag of a datagram: key material, nonce, data (R423). -/
opaque gcmTag : Nat → Nat → Bytes → Nat

/-- Key material of a fast channel: TLS exporter of a session for an epoch (R422). -/
opaque tlsExporter : Nat → Nat → Nat

/-- Tether session keys from the two nonces and ephemeral keys (R441). -/
opaque tetherKeys : Nat → Nat → Nat → Nat → Nat

/-- Rounding direction of a quotient in the lane image's arithmetic, which the spec fixes only to one unit (R175, R214). -/
opaque laneRoundUp : Int → Int → Bool

/-- Rounding of the lane image's exponential table, which the spec fixes only to one unit (R175): whether its entry for e^(-a/b) is rounded up. -/
opaque laneExpUp : Nat → Nat → Bool

/-- Whether bytes are a CA certificate with a P-256 key (R413, R417). -/
opaque anchorOk : Bytes → Bool

/-- SHA-256 over a stateful image in the Landing format (R26, R451). -/
opaque imageDigest : Machine.Image → Digest

/-- Whether 64 bytes are a point of P-256 (R413). -/
opaque pointOk : Bytes → Bool

/-- What is fixed at manufacture and the spec does not give, by object key: order code, hardware issue, MAC addresses, certificates, storage
addresses of the tables (R138, R378, R408, R435). -/
opaque manufacture : Nat → Bytes

/-- Bytes 156-251 of a cell entry: working state in the lane image's own format (R138). -/
opaque workingState : Machine.CellState → Bytes

/-- Octet i of the header of a minute or hour record (R164): the spec gives its length alone. -/
opaque aggHeader : Nat → Nat → BitVec 8

/-- Relay latency of the unit with a serial number, ns (R40): the spec bounds it and gives no value. -/
opaque relayLatency : Nat → Nat

end Sys2Proof.Config
end

