-- ==== Sys2Proof/Machine/State.lean ====
section
/-! DEFINITION. The state of the ZS-512: every register, table, queue, counter, mode and pin the spec gives the module and its
sense heads, as plain data; the reasons a step can stop; and the state at reset.

Each field's comment gives: width; chapter and rules; reset value ("spec": the spec gives it, "DC1": DESIGN CHOICE, log
entry 1, the spec gives none, "MODEL": a field of the model's own, log entry 2); meaning. -/

namespace Sys2Proof.Machine

open Sys2Proof

/-- An Ethernet frame to send (R344): class 0 to 3, kind as the bits of R376 number it (0 PTP, 1 TLS, 2 fast, 3 PRP supervision, 4 other), session,
whether it carries a redundancy trailer and its sequence number (R345), the VLAN tag it leaves with (VLAN identifier, priority;
none: untagged), the plain content. -/
structure EthFrame where
  cls : Nat
  kind : Nat
  session : Nat := 0
  trailer : Option Nat := none
  tag : Option (Nat × Nat) := none
  data : Bytes := []
deriving DecidableEq, Repr

/-- CAN error state (7200.06). -/
inductive CanErr where
  | active | passive | busOff | fenced
deriving DecidableEq, Repr

/-- A CAN frame in a queue. -/
structure CanFrame where
  object : Nat
  id : Nat
  ext : Bool := false
  fd : Bool := true
  brs : Bool := true
  data : Bytes := []
  tries : Nat := 0
  cycle : Cycle := 0
deriving DecidableEq, Repr

/-- Clock state (7100.02). -/
inductive ClockState where
  | free | acquiring | locked | holdover
deriving DecidableEq, Repr

/-- A transmit time stamp (R358). -/
structure TimeStamp where
  port : Nat
  sequence : Nat
  msgType : Nat
  sec : Nat
  ns : Nat
deriving DecidableEq, Repr

/-! ### Host links: Ethernet, time, CAN (12) -/
structure EthPort where
  /-- 8; 12 R378; spec 0 down; link state 7001.05 -/
  link : Nat := 0
  /-- 32 sat; 12 R378; spec 0; frames discarded 7001.0B -/
  discarded : Nat := 0
  /-- 1; 12 R348; DC1; fenced -/
  fenced : Bool := false
  /-- queue; 12 R344; spec (empty); transmit queue Q8/Q10, (class, frame) -/
  tx : List EthFrame := []
  /-- queue; 12 R344; spec (empty); receive queue Q9/Q11 -/
  rx : List EthRx := []
  /-- enum; 12 R353; DC1; PTP instance: selected master data set (none = no master) -/
  master : Option PtpMaster := none
  /-- 1; 12 R353; DC1; BMCA makes this port master -/
  isMaster : Bool := false
  /-- 16; 12 R352; DC1; sequenceId of the next Sync and Pdelay_Req -/
  ptpSeq : Nat := 0
deriving DecidableEq, Repr

structure Pulse where
  /-- ns; 12 R362; DC1; scheduled instant (ns of local time) of the last emitted edge -/
  lastEdge : Option Int := none
  /-- 32; 12 R378; spec 0; late edges -/
  late : Nat := 0
  /-- 1; 12 R360; DC1; output active (pulse in progress) -/
  active : Bool := false
  /-- list; 12 R360; DC1; parameters waiting for the end of the present pulse -/
  waiting : List (Nat × ObjVal) := []
  /-- ns; 12 R362; DC1; next scheduled instant -/
  next : Option Int := none
deriving DecidableEq, Repr

structure CanCtl where
  /-- 8; 12 R379; spec 0 active; error state -/
  err : CanErr := .active
  /-- 16; 12 R379; spec 0; transmit error counter -/
  txErr : Nat := 0
  /-- 16; 12 R379; spec 0; receive error counter -/
  rxErr : Nat := 0
  /-- 16; 12 R379; spec 0; consecutive acknowledge errors -/
  ackErrs : Nat := 0
  /-- 1; 12 R379; spec 0; no acknowledge -/
  noAck : Bool := false
  /-- 32 sat; 12 R379; spec 0; bus-off events -/
  busOffs : Nat := 0
  /-- list 32; 12 R369; DC1; cycles of the bus-off events with a firmware request in the last 60 s -/
  recent : List Cycle := []
  /-- 1; 12 R369; DC1; recovering (waiting 128 x 11 recessive bits) -/
  recovering : Bool := false
  /-- opt 32; 12 R369; DC1; cycle of the bus-off (recovery delay runs) -/
  offAt : Option Cycle := none
  /-- 1; 12 R372; DC1; fenced -/
  fenced : Bool := false
  /-- queue; 12 R363; spec (empty); transmit queue Q12/Q14 -/
  tx : List CanFrame := []
  /-- queue 64; 12 R363 R364; spec (empty); receive queue Q13/Q15, (object, frame) -/
  rx : List CanFrame := []
  /-- opt; 12 R366; DC1; frame that has begun arbitration and not ended -/
  inTx : Option CanFrame := none
  /-- 128 x 32 sat; 12 R379; spec 0; frames transferred .0A -/
  moved : Tab Nat := []
  /-- 128 x 32 sat; 12 R379; spec 0; frames abandoned or discarded .0B -/
  lost : Tab Nat := []
  /-- 32 sat; 12 R364; DC1; frames no object accepted -/
  unaccepted : Nat := 0
deriving DecidableEq, Repr

structure Clock where
  /-- 48; 12 R349; DC1; local time seconds -/
  sec : Nat := 0
  /-- 30; 12 R349; DC1; local time nanoseconds -/
  ns : Nat := 0
  /-- 8; 12 R378; spec 0 FREE; 7100.02 -/
  state : ClockState := .free
  /-- 32 ns; 12 R378; spec 0; 7100.04 -/
  offset : Int := 0
  /-- 32 ppb; 12 R378; spec 0; 7100.05 -/
  rate : Int := 0
  /-- 32 ppb; 12 R354; DC1; learned rate (about which slewing is bounded) -/
  learned : Int := 0
  /-- count; 12 R354; DC1; consecutive offsets within 250 ns -/
  goodRun : Nat := 0
  /-- count; 12 R354; DC1; consecutive offsets above 10 us -/
  badRun : Nat := 0
  /-- 32 sat; 12 R378; spec 0; 7100.0C steps -/
  steps : Nat := 0
  /-- 8; 12 R378; spec 0xFF; 7100.0D followed port -/
  port : Nat := 0xFF
  /-- 32; 12 R378; DC1; 7110.01 published cycle -/
  pubCycle : Cycle := 0
  /-- TIME; 12 R378; DC1; 7110.02 -/
  pubTime : Nat × Nat := (0, 0)
  /-- 32 ns; 12 R356 R378; DC1; 7110.03 phase error e -/
  phase : Int := 0
  /-- 1; 12 R378; spec 0; 7110.04 aligned -/
  aligned : Bool := false
  /-- TIME; 12 R356; DC1; local time of t0 of the present cycle -/
  t0 : Nat × Nat := (0, 0)
  /-- 32; 12 R357; DC1; clock state, e of the relation record 7110.05 -/
  relation : Nat × Int := (0, 0)
  /-- 32; 12 R354; DC1; cycle in which HOLDOVER began -/
  heldSince : Cycle := 0
  /-- 1; 14 R421; DC1; LOCKED or written since BOOT -/
  trusted : Bool := false
  /-- count; 12 R354; DC1; PPS-IN edges seen as a source -/
  ppsEdges : Nat := 0
  /-- 16 entries; 12 R358; spec (empty); Q26 transmit time stamps, in transmit order -/
  q26 : List TimeStamp := []
  /-- 1; 12 R378; spec 0; 7120.03 overflow flag -/
  overflow : Bool := false
  /-- 8 sat; 12 R378; spec 0; 7120.04 overflow occurrences -/
  occurrences : Nat := 0
  /-- 32 sat; 12 R378; spec 0; 7120.05 -/
  discarded : Nat := 0
deriving DecidableEq, Repr

structure Links where
  /-- see EthPort; 12 R342; fields; ETH-A -/
  ethA : EthPort := {}
  /-- see EthPort; 12 R342; fields; ETH-B -/
  ethB : EthPort := {}
  /-- list; 12 R345; DC1; PRP duplicate table: (source MAC, sequence, cycle entered) -/
  prp : List (Nat × Nat × Cycle) := []
  /-- 16; 12 R345; DC1; PRP sequence number of the next transmitted frame -/
  prpSeq : Nat := 0
  /-- 3 x 32 sat; 12 R378; spec 0; 7010.03-05 -/
  prpCounts : Tab Nat := []
  /-- see CanCtl; 12 R363; fields; CAN-A -/
  canA : CanCtl := {}
  /-- see CanCtl; 12 R363; fields; CAN-B -/
  canB : CanCtl := {}
  /-- 4; 12 R360; see Pulse; PPS-OUT, SYNC-PCS, TPO-3, TPO-4 -/
  pulses : Tab Pulse := []
  /-- 8; 12 R375 13 R408; DC1 (0 = A; read at BOOT); unit strap 1000.06: 0 A, 1 B, 0xFF invalid -/
  strap : Nat := 0
  /-- 1; 12 R375; DC1; the strap has been read in this BOOT -/
  strapRead : Bool := false
deriving DecidableEq, Repr

/-! ### Identity and security (14) -/
structure CanChannel where
  /-- opt 128; 14 R409 R435; DC1 (none); channel key -/
  key : Option Nat := none
  /-- 48; 14 R425; spec 0; last accepted receive FV .06 -/
  rxFv : Nat := 0
  /-- 48; 14 R425; spec 0; transmit FV .05 -/
  txFv : Nat := 0
  /-- 48; 14 R426; DC1; journalled transmit reservation T -/
  txRes : Nat := 0
  /-- 48; 14 R426; DC1; journalled receive reservation F -/
  rxRes : Nat := 0
  /-- 32 sat; 14 R435; spec 0; .07 tag failures -/
  tagFails : Nat := 0
  /-- 32 sat; 14 R435; spec 0; .08 stale -/
  stale : Nat := 0
deriving DecidableEq, Repr

structure FastChannel where
  /-- 1; 14 R422; DC1; open -/
  isOpen : Bool := false
  /-- opt 8; 14 R422; spec (epoch from 0; none: never opened); key epoch e -/
  epoch : Option Nat := none
  /-- 448; 14 R422; DC1; key material (opaque TLS exporter value) -/
  keys : Nat := 0
  /-- 48; 14 R423; spec (starts at 1 in each epoch); next transmit sequence -/
  txSeq : Nat := 1
  /-- 48; 14 R423; DC1; highest received sequence -/
  rxTop : Nat := 0
  /-- list 64; 14 R423; DC1; sequences already seen in the window -/
  seen : List Nat := []
  /-- 32 sat; 14 R435; spec 0; received 7860.03 -/
  rx : Nat := 0
  /-- 32 sat; 14 R435; spec 0; sent 7860.04 -/
  tx : Nat := 0
  /-- list 16; 13 R398; DC1; last 16 responses by request identifier -/
  kept : List Response := []
  /-- 32+16; 14 R423; DC1; address and port of the last authenticated datagram -/
  peer : Nat := 0
deriving DecidableEq, Repr

structure Security where
  /-- 1; 14 R413 R435; spec 0 unadopted; adopted (7800.01) -/
  adopted : Bool := false
  /-- 16 bytes; 14 R435; spec 0; string identifier 7800.04 -/
  stringId : Nat := 0
  /-- 8 sat; 14 R435; spec 0; adoption failures 7800.05 -/
  failures : Nat := 0
  /-- s; 14 R414; DC1; length of the adoption wait in force (0 = none) -/
  waitLen : Nat := 0
  /-- opt 32; 14 R414; DC1; cycle in which the adoption wait began -/
  waitFrom : Option Cycle := none
  /-- 1-4; 14 R409 R435; DC1 (none); trust anchors, key anchor 1-4 -/
  anchors : Tab Bytes := []
  /-- 1-4 x 8; 14 R435; DC1; permitted-role masks -/
  masks : Tab (BitVec 8) := []
  /-- opt 64 bytes; 14 R435; DC1 (none); envelope verify key 7806.01 -/
  verifyKey : Option Bytes := none
  /-- 32 sat; 14 R435; spec 0; 7808.02 -/
  denied : Nat := 0
  /-- 64; 14 R424; see CanChannel; CAN secure channels -/
  channels : Tab CanChannel := []
  /-- 64; 14 R422; see FastChannel; fast channels -/
  fast : Tab FastChannel := []
  /-- 32 sat; 14 R435; spec 0; 7860.05 -/
  datagramsDiscarded : Nat := 0
  /-- 32; 14 R435; spec 0; 7850.02 last install result -/
  installResult : BitVec 32 := 0
  /-- opt; 14 R431; DC1; snapshot requested: (nonce, cycle) -/
  snapReq : Option (Nat × Cycle) := none
  /-- 172 bytes; 14 R431; DC1; 7870.02 -/
  snapshot : Bytes := []
  /-- opt 32; 14 R431; DC1; cycle of the last accepted snapshot request -/
  snapLast : Option Cycle := none
  /-- 756 bytes; 14 R432; DC1; 7871.02 -/
  attestation : Bytes := []
  /-- opt 32; 14 R432; DC1; cycle of the last report -/
  attLast : Option Cycle := none
  /-- 32 sat; 14 R435; spec 0; 7880.01 -/
  hsFailed : Nat := 0
  /-- 32 sat; 14 R435; spec 0; 7880.02 -/
  skipped : Nat := 0
  /-- list; 14 R420; DC1; handshakes in progress: (connection, cycle of the ClientHello) -/
  handshakes : List (Nat × Cycle) := []
  /-- 64; 13 R408; DC1; serial number 1000.04 (set at manufacture) -/
  serial : Nat := 0
  /-- 256; 14 R409; DC1; adoption code verifier -/
  codeVerifier : Nat := 0
deriving DecidableEq, Repr


/-- A received frame that an injection holds back (R486): a block, a command response (one a relay records apart) or a command of a ring port, or a frame of another link (of the
Tether with its sequence and whether its tag verifies). -/
inductive HeldFrame where
  | block (port : Nat) (b : HeadBlock)
  | answer (port seq addr : Nat) (r : Option HeadResponse)
  | relayed (port : Nat) (c : RingCmd) (r : Option HeadResponse)
  | command (port : Nat) (c : RingCmd)
  | eth (port : Nat) (f : EthRx)
  | can (n : Nat) (f : CanRx)
  | tether (seq : Nat) (ok : Bool) (f : TetherRx)
deriving DecidableEq, Repr

/-- An image being received over the Tether (R449). -/
structure ImagePart where
  cycle : Cycle
  parts : List Nat
  total : Nat
deriving DecidableEq, Repr

/-- One cycle of the raw buffer (R449). -/
structure RawCycle where
  cycle : Cycle
  record : StringRecord
  blocks : List BlockRec
  answers : List RingResp := []
deriving DecidableEq, Repr

/-- What a Tether frame carries (R442). -/
inductive TetherMsg where
  | hello
  | proof
  | heartbeat (h : Heartbeat)
  | missing (blocks : List BlockRec) (answers : List RingResp)
  | input (i : RepInput)
  | part (capture : Cycle)
  | handOver (kind : Nat) (h : Cycle) (cause : Nat)
  | configuration
  | adoption (request document : Bytes) (result : Nat)
deriving DecidableEq, Repr

/-- A Tether frame to send (R440, R442); it takes its sequence when it leaves. -/
structure TetherFrame where
  msg : TetherMsg
  cycle : Cycle := 0
deriving DecidableEq, Repr

/-! ### Redundant pair (15) -/
structure Pair where
  /-- 8; 15 R436 R465; spec 1 UNDECIDED (a single configuration takes SINGLE at BOOT); 8000.01 role -/
  role : Role := .undecided
  /-- 8; 15 R437; DC1; role held before the claim (true = counts as active) -/
  wasActive : Bool := false
  /-- 8; 15 R437; DC1; role held before the claim, to which it returns with the heartbeat -/
  before : Role := .undecided
  /-- 1; 15 R461; DC1; a round has opened since BOOT -/
  roundOpened : Bool := false
  /-- 8; 15 R446 R465; spec 3 STALE; 8000.02 partner sense -/
  sense : Sense := .stale
  /-- opt 32; 15 R437; DC1; cycle since which the sense is STOPPED -/
  stoppedSince : Option Cycle := none
  /-- 8; 15 R465; spec 0 down; 8000.03 Tether state -/
  tether : Nat := 0
  /-- 32 sat; 15 R465; spec 0; 8000.04 -/
  missed : Nat := 0
  /-- count; 15 R443; DC1; consecutive missed heartbeats -/
  missRun : Nat := 0
  /-- 1; 15 R443; DC1; heartbeat lost -/
  lost : Bool := false
  /-- opt 32; 15 R450; DC1; cycle of the last missed heartbeat (1,000 cycles) -/
  lastMiss : Option Cycle := none
  /-- 1; 15 R443; DC1; heartbeat of the present cycle accepted -/
  hbSeen : Bool := false
  /-- opt; 15 R443; DC1; last accepted partner heartbeat -/
  hb : Option Heartbeat := none
  /-- opt; 15 R443; DC1; own last heartbeat -/
  ownHb : Option Heartbeat := none
  /-- 8; 15 R449 R465; spec 0; 8000.05 readiness bits -/
  ready : BitVec 8 := 0
  /-- 32; 15 R465; spec 0; 8000.06 image held (capture cycle) -/
  image : Cycle := 0
  /-- bytes; 15 R449; DC1; images held: latest complete and its predecessor -/
  images : List Image := []
  /-- opt; 15 R449; DC1; image being received -/
  partial_ : Option ImagePart := none
  /-- 16; 15 R465; spec 0; 8000.07 buffered cycles -/
  buffered : Nat := 0
  /-- 1,250 cycles; 15 R449; DC1; raw buffer: the latest cycles with string record and blocks -/
  rawBuf : List RawCycle := []
  /-- list; 15 R449; DC1; input log -/
  inputLog : List RepInput := []
  /-- 16; 15 R444; DC1; last replicated input sent or received -/
  inSeq : Nat := 0
  /-- 16; 15 R443 R444; DC1; last replicated input received without gap, as a standby's heartbeat shows it -/
  inGood : Nat := 0
  /-- 32 sat; 15 R465; spec 0; 8000.08 role changes -/
  changes : Nat := 0
  /-- 32; 15 R465; spec 0; 8000.09 -/
  lastChange : Cycle := 0
  /-- 32; 15 R465; spec 0; 8000.0A coil catches -/
  catches : Nat := 0
  /-- 32; 15 R465; spec 0; 8000.0B discarded -/
  discarded : Nat := 0
  /-- 32; 15 R465; spec 0; 8020.02 H -/
  h : Cycle := 0
  /-- 8; 15 R465; spec 0; 8020.03 phase -/
  phase : Nat := 0
  /-- 8; 15 R465; spec 0; 8020.04 last abort cause -/
  abort : Nat := 0
  /-- 256; 15 R451; DC1; own state digest at the freeze -/
  digest : Option Digest := none
  /-- 1; 15 R451; DC1; incoming unit caught up (warm) -/
  warm : Bool := false
  /-- 32; 15 R453; DC1; first cycle since which the swap timer was refused -/
  refusedSince : Option Cycle := none
  /-- 32; 15 R453; DC1; cycle of the last retry -/
  lastTry : Option Cycle := none
  /-- 8; 15 R465; spec 0; 8030.01 claim state -/
  claim : Nat := 0
  /-- 32; 15 R465; spec 0; 8030.02 round -/
  round : Cycle := 0
  /-- 8; 15 R465; spec 0; 8050.02 join result -/
  join : Nat := 0
  /-- opt; 15 R463; DC1; adoption code of a new partner held for the ADOPTION frame -/
  code : Option Nat := none
  /-- opt 32; 15 R460 R452; DC1; cycle until which a denied or ended unit keeps its high sides -/
  holdUntil : Option Cycle := none
  /-- 2; 15 R454; DC1; coil being caught (0 K+, 1 K-) -/
  catching : Tab Bool := []
  /-- count; 15 R454; DC1; consecutive heartbeats with flag [1] during a catch -/
  catchRun : Nat := 0
  /-- 32; 15 R455; DC1; cycle of the takeover -/
  takeover : Cycle := 0
  /-- opt; 15 R457; DC1; X, the last converter frame recorded from the partner -/
  x : Option ConvFrame := none
  /-- 1; 15 R457; DC1; bridge frames are sent -/
  bridging : Bool := false
  /-- 1; 15 R457; DC1; the rise clamp after catch-up is in force -/
  riseClamp : Bool := false
  /-- list 16; 15 R457 10 R294; DC1; the converter frames sent in the last 16 cycles, newest first -/
  sentFrames : List ConvFrame := []
  /-- count; 15 R461 R437; DC1; consecutive cycles of partner SYNC at the own receive port -/
  syncRun : Nat := 0
  /-- opt 32; 15 R437; DC1; last cycle in which a unit that does not originate heard SYNC -/
  lastSync : Option Cycle := none
  /-- opt; 15 R452 R460 R461; DC1; at the next boundary the unit becomes STANDBY, with the cause its record names (none: the spec names none) -/
  stepDown : Option (Option Nat) := none
  /-- opt 32; 15 R452 R455; DC1; first cycle that this unit originates -/
  originateAt : Option Cycle := none
  /-- 64; 15 R453; DC1; operating time at the last completed role change -/
  swapFrom : Nat := 0
  /-- list; 15 R444; DC1; replicated inputs received that wait for their cycle -/
  inputs : List RepInput := []
  /-- 32; 15 R437; DC1; cycle at which the Tether PHY was enabled -/
  phyAt : Cycle := 0
  /-- 64; 15 R441 R442; DC1; transmit sequence (from 1 at each pairing) -/
  txSeq : Nat := 1
  /-- 64; 15 R442; DC1; last accepted sequence -/
  rxSeq : Nat := 0
  /-- opt; 15 R441; DC1; partner's hello of this link-up -/
  hello : Option Hello := none
  /-- 256+192; 15 R441; DC1; Tether session keys (opaque derivation) -/
  keys : Option Nat := none
  /-- queue; 15 R440; spec (empty); Q27, Tether frames to send, in the order of R440 -/
  q27 : List TetherFrame := []
  /-- opt; 15 R429; DC1; envelope sent to the partner, cycle -/
  envSent : Option Cycle := none
  /-- opt 32; 15 R444 R462 16 R489; DC1; an image must be captured after this cycle: pairing, gap in the input log, end of a drill -/
  imageAfter : Option Cycle := none
  /-- list; 09 R276; DC1; own and partner protection summaries not yet compared -/
  summaries : List Summary := []
  /-- 4 x 16; 18 R540; DC1 (none); interface generations of the partner's images, by type, as its CONFIGURATION showed them -/
  gens : Tab Nat := []
  /-- 1; 18 R551; DC1; the partner has an update step running, as its CONFIGURATION showed -/
  stepping : Bool := false
deriving DecidableEq, Repr

/-! ### Ranger and Tally (16) -/
structure Ranger where
  /-- 512; 16 R474 R496; spec (empty); active-fault table -/
  active : List ActiveFault := []
  /-- queue; 16 R467; MODEL; messages sent by the blocks and not yet entered in Q24 -/
  outbox : List FaultMsg := []
  /-- queue 1,024; 16 R472; spec (empty); Q24, messages waiting for their Tally record, as records -/
  q24 : List TallyRec := []
  /-- 32 sat; 16 R496; spec 0; 8800.04 -/
  received : Nat := 0
  /-- 32 sat; 16 R496; spec 0; 8800.05 -/
  noRoom : Nat := 0
  /-- 1; 16 R472; DC1; messages lost since the last report -/
  lostPending : Bool := false
  /-- 32 sat; 16 R496; spec 0; 8800.06 -/
  escalations : Nat := 0
  /-- 32 sat; 16 R496; spec 0; 8800.07 -/
  replacements : Nat := 0
  /-- 64; 16 R496; spec 0; 8801.01/02 first fault -/
  firstFault : Capture := {}
  /-- 64; 16 R496; spec 0; 8801.05/06 first trip -/
  firstTrip : Capture := {}
  /-- list 16; 16 R492; DC1; last 16 messages retained by PD0 -/
  last16 : List FaultMsg := []
  /-- 8; 16 R496; spec 0; 8802.01 WHISTLE running -/
  whistle : Bool := false
  /-- 32; 16 R496; spec 0; 8802.03 watchdog expiries -/
  wdExpiries : Nat := 0
  /-- 16; 16 R484; DC1 (0x5A5A first); next value the watchdog expects is 0xA5A5 -/
  wdAlt : Bool := false
  /-- 32; 16 R484; DC1; cycle of the last valid service -/
  wdServed : Cycle := 0
  /-- 1; 16 R484; DC1; expiry recorded by PD0 for the next boot -/
  wdExpired : Bool := false
  /-- per kind 32 sat; 16 R496; spec 0; 8900.05 times raised -/
  timesRaised : Tab Nat := []
  /-- list; 16 R479; spec (none); fenced units: (class 0 lane 1 ring port 2 Ethernet 3 CAN 4 axis, unit) -/
  fenced : List (Nat × Nat) := []
deriving DecidableEq, Repr

structure Tally where
  /-- queue 4,096; 16 R491; spec (empty); Q25 -/
  q25 : List TallyRec := []
  /-- 4 MB; 16 R490; DC1 (empty); keep area, its 128 KB units in the order written -/
  keep : List TallyUnit := []
  /-- 60 MB; 16 R490; DC1 (empty); circulating area, its 128 KB units, oldest first -/
  circ : List TallyUnit := []
  /-- 32; 16 R491; DC1; next sequence number -/
  seq : Nat := 0
  /-- count; 16 R491; DC1; records lost since the last records-lost record -/
  lost : Nat := 0
  /-- 1; 16 R490; DC1; keep area full -/
  keepFull : Bool := false
  /-- per session; 16 R495; DC1; read cursors 8A10.01 -/
  cursors : Tab Nat := []
  /-- 32 sat; 16; spec 0; records written / lost counters 8A00 by subindex -/
  counts : Tab Nat := []
deriving DecidableEq, Repr

structure Inject where
  /-- 8; 16 R485; spec 0; .0C state -/
  state : Nat := 0
  /-- 32 sat; 16 R485; spec 0; .0D -/
  affected : Nat := 0
  /-- 32 sat; 16 R485; spec 0; .0E -/
  eligible : Nat := 0
  /-- 32; 16 R486; DC1; LFSR -/
  lfsr : BitVec 32 := 1
  /-- 32; 16 R486; DC1; start cycle in force -/
  start : Cycle := 0
  /-- 1; 16 R487; DC1; drill -/
  drill : Bool := false
  /-- list; 16 R486; DC1; frames held back, each with the later eligible frames still to pass -/
  heldFrames : List (HeldFrame × Nat) := []
deriving DecidableEq, Repr


/-! ### Power, clocks, module temperature (17) -/
structure TempSensor where
  /-- 16 0.01 C; 17 R527; DC1; 9020.01-06 sensor temperature -/
  temp : Int := 0
  /-- counts per level 1-3; 17 R511; DC1; consecutive fast samples beyond each level -/
  beyond : Tab Nat := []
  /-- counts per level 1-3; 17 R511; DC1; consecutive samples clear of each level -/
  clear : Tab Nat := []
  /-- 2; 17 R511; DC1; level this sensor has qualified (0 normal .. 3 shut-down) -/
  level : Nat := 0
  /-- count; 17 R513; DC1; consecutive samples implying a temperature below -60 C or above 160 C -/
  wild : Nat := 0
  /-- 1; 17 R513 R527; spec 0; broken until the next restart, 9020.08 -/
  broken : Bool := false
  /-- count; 17 R514; DC1; consecutive samples below 110 C -/
  cool : Nat := 0
  /-- count; 17 R510; DC1; fast samples since the point table took one -/
  fast : Nat := 0
deriving DecidableEq, Repr

structure Power where
  /-- 16 mV; 17 R527; DC1; 9000.01 AUX-1 -/
  aux1 : Nat := 0
  /-- 16 mV; 17 R527; DC1; 9000.02 AUX-2 -/
  aux2 : Nat := 0
  /-- 16 mV; 17 R527; DC1; 9000.03 supply bus -/
  bus : Nat := 0
  /-- 8; 17 R526 R527; DC1; 9000.04 supply source (0 AUX-1, 1 AUX-2, 2 both, 3 backup) -/
  source : Nat := 0
  /-- 16 V; 17 R527; DC1; 9000.05 backup feed voltage V_HVB -/
  vHvb : Nat := 0
  /-- 1; 17 R499 R527; spec 0; 9000.06 backup available -/
  backupAvail : Bool := false
  /-- 1; 17 R499; DC1; backup converter faulted -/
  backupFault : Bool := false
  /-- 1; 17 R499; DC1; backup regulating: the module is on backup -/
  onBackup : Bool := false
  /-- opt 32; 17 R499 R500; DC1; cycle of the source loss whose changeover is in progress -/
  changeover : Option Cycle := none
  /-- 16 0.1 ms; 17 R502 R527; DC1; 9000.07 hold-up time -/
  holdUp : Nat := 0
  /-- 1; 17 R500; DC1 (no source present); POWER-GOOD -/
  good : Bool := false
  /-- opt 8; 17 R501; DC1; branch taken at the fall: 0 yield, 1 trip, 2 contactors open -/
  branch : Option Nat := none
  /-- 32 sat; 17 R527; spec 0; 9000.08 POWER-GOOD falls -/
  falls : Nat := 0
  /-- 32 sat; 17 R527; spec 0; 9000.09 changeovers -/
  changeovers : Nat := 0
  /-- 16 0.1 W; 17 R527; DC1; 9000.0A module input power -/
  input : Nat := 0
  /-- 16; 17 R527; DC1 (none powered); 9001.01 domains powered -/
  domains : BitVec 16 := 0
  /-- 16; 17 R527; spec 0; 9001.02 domains faulted -/
  faulted : BitVec 16 := 0
  /-- 8; 17 R506 R527; spec 0; 9010.02 last restart cause -/
  restartCause : Nat := 0
  /-- 1; 17 R500; DC1; a source loss without backup: POWER-GOOD is about to fall -/
  lost : Bool := false
  /-- opt; 17 R506; DC1; cause and session of the restart that PD0 stored, to be reported at the next boot -/
  note : Option (Nat × Nat) := none
  /-- 2; 17 R514; DC1; zone whose shut-down set the thermal latch -/
  latchZone : Nat := 0
  /-- opt; 17 R506; DC1; restart requested and not yet made: (cause, session) -/
  restartPending : Option (Nat × Nat) := none
  /-- 6; 17 R510; see TempSensor; module temperature sensors 1-6 -/
  sensors : Tab TempSensor := []
  /-- 8; 17 R511 R527; spec 0; 9020.07 zone levels in force, 2 bits per zone -/
  zones : BitVec 8 := 0
  /-- 8; 17 R511; DC1; zone levels to take effect at the next cycle boundary -/
  zonesNext : BitVec 8 := 0
  /-- 1; 17 R514 R527; spec 0; 9020.09 thermal latch -/
  thermalLatch : Bool := false
  /-- 1; 17 R514; DC1; thermal shut-down has switched domains off -/
  shutDown : Bool := false
  /-- 32 sat; 17 R527; spec 0; 9020.0A throttle entries -/
  throttles : Nat := 0
  /-- counts per position 0-9; 17 R507; DC1; consecutive clock checks out of band -/
  clockBad : Tab Nat := []
  /-- 16; 17 R527; spec 0; 9030.01 clock faults -/
  clockFaults : BitVec 16 := 0
  /-- 1; 17 R507; DC1; RC running untrimmed (crystal fault) -/
  untrimmed : Bool := false
  /-- 32 Hz; 17 R527; DC1; 9030.02 CD-AO RC frequency -/
  rc : Nat := 0
  /-- 64 s; 17 R503 R504 13 R408; DC1; operating time 1000.0A/1001 -/
  opTime : Nat := 0
  /-- 32; 17 R506 13 R408; DC1; power-cycle count -/
  powerCycles : Nat := 0
  /-- 4; 17 R504; DC1; boot progress: bit 0 PD0 up, 1 t_A reached, 2 state rebuilt, 3 woken from SLEEP -/
  boot : BitVec 8 := 0
deriving DecidableEq, Repr

structure Rule where
  /-- opt s; 17 R521; DC1; seconds for which the comparison has held -/
  held : Option Nat := none
  /-- 1; 17 R521; DC1 (armed); armed -/
  armed : Bool := true
  /-- 32; 17 R521; DC1; filtered value (none before the first update) -/
  filtered : Option Int := none
deriving DecidableEq, Repr

/-- A snapshot of R229: seconds of operating time, and per cell its voltage (10 uV) and its head's temperature (0.01 C). -/
structure LookoutSnap where
  sec : Nat
  cells : List (Nat × Int × Int)
deriving DecidableEq, Repr

structure Lookout where
  /-- list; 17 R518; DC1 (empty); record buffer, 16 KB -/
  buffer : List TallyRec := []
  /-- s; 17 R517; DC1; time at which |I| last reached the rest threshold (9050.09), seconds of operating time -/
  restStart : Nat := 0
  /-- 32 mA; 17 R517 R527; spec 0; 9050.0A largest current in SLEEP -/
  largest : Nat := 0
  /-- 32; 17 R521; see Rule; rule states 0-31 -/
  rules : Tab Rule := []
  /-- 32; 17 R527; spec 0; 9040.03 rules fired, last SLEEP -/
  fired : BitVec 32 := 0
  /-- 516 bytes; 17 R519 R523; DC1; rule table loaded at SLEEP entry, as 32 rules -/
  table : List LookoutRule := []
  /-- list 13; 17 R520; DC1; latest input values by code 1-12 -/
  inputs : Tab Int := []
  /-- opt; 17 R517; DC1; first snapshot of R229 of this rest -/
  firstSnap : Option LookoutSnap := none
  /-- opt; 17 R517; DC1; latest snapshot of R229 of this rest -/
  lastSnap : Option LookoutSnap := none
  /-- 32; 17 R516; DC1; last ring poll: highest and lowest cell voltage 10 uV -/
  pollCells : Int × Int := (0, 0)
  /-- s; 17 R524; DC1; seconds since SLEEP entry -/
  slept : Nat := 0
  /-- TIME; 17 R527; DC1; 9050.08 SLEEP entered -/
  entered : Nat × Nat := (0, 0)
  /-- 8; 17 R524 R527; spec 0; 9050.07 last wake cause -/
  wakeCause : Nat := 0
  /-- 1; 17 R515; DC1; this unit was active at SLEEP entry (runs polls and insulation bursts) -/
  wasActive : Bool := false
  /-- list; 17 R516; DC1; heads whose serial number changed in a poll -/
  changedHeads : List Nat := []
  /-- envelope; 17 R520 R523; DC1; rest-direction limits read at SLEEP entry, by input code -/
  reference : Tab Int := []
deriving DecidableEq, Repr

/-! ### Storage, journal, update (18) -/
structure Storage where
  /-- 8; 18 R555; spec 0; 9800.01 -/
  state : Nat := 0
  /-- 16; 18 R555; spec 0; 9800.02 units retired -/
  retired : Nat := 0
  /-- 32; 18 R555; DC1; 9800.03 last storage checkpoint -/
  lastCp : Cycle := 0
  /-- images; 01 R26 05 R164; DC1 (none); the Landing checkpoints in shared SRAM, newest first, 2 -/
  landing : List Image := []
  /-- images; 05 R164 18 R528; DC1 (none); the storage checkpoints in rotation, newest first, 8 -/
  checkpoints : List Image := []
  /-- queue; 18 R533; spec (empty); journal records waiting to be written -/
  queue : List JournalRec := []
  /-- 672 slots; 18 R531 R532 R535; spec (valid empty frames, sequence 0); fixed slots: two frames each -/
  fixed : Tab FixedSlot := []
  /-- 1,376 slots; 18 R531 R533; spec (empty); dictionary log records above the refresh point, oldest first -/
  log : List JournalRec := []
  /-- per object; 18 R528 R533; DC1 (defaults); dictionary persistence -/
  persisted : Tab ObjVal := []
  /-- 64; 18 R555; DC1; 9800.04 journal sequence -/
  seq : Nat := 0
  /-- 32; 18 R555; spec 0; 9800.05 -/
  logWaits : Nat := 0
  /-- 16; 18 R555; spec 0; 9800.07 -/
  interrupted : Nat := 0
  /-- 32; 18 R555; spec 0; 9800.08 -/
  unknown : Nat := 0
  /-- 2; 18 R530 R541; spec (9813: no inactive image, so bank 1 is invalid); firmware banks marked invalid, by bank 0, 1 -/
  bankBad : Tab Bool := [(1, true)]
  /-- per object; 18 R530; DC1; dictionary persistence of the previous epoch -/
  previous : Tab ObjVal := []
  /-- 32, 32; 13 R386; DC1; newest epoch whose commit record is valid, and its effective cycle -/
  epoch : Nat × Cycle := (0, 0)
  /-- opt; 13 R386; DC1; epoch in force whose commit record is not yet written: epoch, effective cycle, its values -/
  newSet : Option (Nat × Cycle × Tab ObjVal) := none
  /-- list; 18 R528 R555; DC1; areas with an uncorrectable read falling back -/
  readErrors : List Nat := []
deriving DecidableEq, Repr

/-- An image as it was last booted (R432): version, interface generation, bank (0xFF: its core or lane does not run), measurement. -/
structure ImageRec where
  version : Nat := 0
  gen : Nat := 0
  bank : Nat := 0xFF
  measure : Digest := 0
deriving DecidableEq, Repr

/-- An image in a firmware bank (R536): version, generation and body digest of its header, bytes 0-63 of the header and the signature over them, and
the format version it writes of each persistent block type, in R546's order (log 51). -/
structure BankImage where
  version : Nat := 0
  gen : Nat := 0
  measure : Digest := 0
  header : Bytes := []
  signature : Bytes := []
  formats : List Nat := [1, 1, 1, 1, 1]
deriving DecidableEq, Repr

structure Update where
  /-- 4 types x (version, generation); 18 R555; DC1; 9810/9811 running -/
  running : Tab (Nat × Nat) := []
  /-- 4; 18 R555; spec 0; 9812 bank in force (0xFF mixed), by type -/
  bank : Tab Nat := []
  /-- 8; 18 R545; DC1; bank in force per lane -/
  laneBank : Tab Nat := []
  /-- 2 banks x 4 types; 18 R528 R536; DC1 (empty); images in the firmware banks, key 8 x bank + type; bank 9813 shows is the one not in force -/
  banks : Tab BankImage := []
  /-- 8; 18 R555; spec 0; 9820.04 staging state -/
  staging : Nat := 0
  /-- 32; 18 R541; DC1; package length -/
  length : Nat := 0
  /-- 32; 18 R555; spec 0; 9820.05 -/
  received : Nat := 0
  /-- bytes; 18 R541; DC1; package data received, as written -/
  data : Bytes := []
  /-- 32; 18 R555; spec 0; 9820.06 -/
  result : BitVec 32 := 0
  /-- 16; 18 R538 R555; DC1; 9830.01 operating generation G -/
  g : Nat := 0
  /-- opt; 18 R540 R549; DC1; generation change scheduled: (Ha, new G) -/
  ha : Option (Cycle × Nat) := none
  /-- 8; 18 R555; spec 0; 9830.03 -/
  step : Nat := 0
  /-- 8; 18 R542; DC1; the step to run next (0 none), in reverse order during a rollback -/
  next : Nat := 0
  /-- 1; 18 R542; DC1; the step shown in 9830.03 has started -/
  started : Bool := false
  /-- 1; 18 R545; DC1 (bank 1); bank the update moves the images to -/
  target : Nat := 1
  /-- 1; 18 R550; DC1; the module rolls back on its own -/
  auto : Bool := false
  /-- 1; 18 R549; DC1; the steps run in reverse (rollback) -/
  reverse : Bool := false
  /-- 1; 18 R542 R545; DC1; paused or stopped: no next step starts -/
  paused : Bool := false
  /-- 32; 18 R555; spec 0; 9830.04 -/
  since : Cycle := 0
  /-- 32; 18 R555; spec 0; 9830.05 Hc -/
  hc : Cycle := 0
  /-- 1; 18 R544; DC1; incoming core ready, Hc fixed -/
  coreReady : Bool := false
  /-- 1; 18 R544 R549; DC1; running core: false C0, true C1 -/
  core1 : Bool := false
  /-- 1; 18 R549; DC1; previous image is still loaded in the idle core -/
  idleLoaded : Bool := false
  /-- 32; 18 R548; DC1; cycle from which the confirmation period runs (seconds of operating time) -/
  confirmFrom : Option Nat := none
  /-- 32; 18 R555; spec 0; 9830.08 -/
  last : BitVec 32 := 0
  /-- 8; 18 R555; spec 0; 9830.09 -/
  restarts : Nat := 0
  /-- 32; 18 R555; spec 0; 9830.0A -/
  skipped : Nat := 0
  /-- 16; 18 R549; DC1; G before the update, and the versions it replaced, by type -/
  oldG : Nat := 0
  /-- 4 x (version, generation); 18 R549; DC1; images before the update -/
  old : Tab (Nat × Nat) := []
  /-- list; 18 R547; DC1; block types in the kept set: (type, old format, new format) -/
  kept : List (Nat × Nat × Nat) := []
  /-- 5 x 16; 18 R546; DC1 (1); format versions of the stored blocks: 1 dictionary persistence, 2 unit table, 3 impedance tables, 4 learned fields,
  5 journal payloads -/
  formats : Tab Nat := []
  /-- queue; 18 R544; DC1 (empty); the core hand-over area: outputs held -/
  handArea : Option Cycle := none
  /-- 13 records; 14 R432; DC1; images as last booted: 0 Lookout, 1-8 lanes L0-L7, 9 Yarder, 10 core C0, 11 core C1 (12, the Firebreak, is the
  envelope) -/
  images : Tab ImageRec := []
deriving DecidableEq, Repr

/-! ### Carrier slot (19) -/
structure Seat where
  /-- 8; 19 R577; spec 0; 9060.01 -/
  state : Nat := 0
  /-- 32 sat; 19 R577; spec 0; 9060.02 -/
  insertions : Nat := 0
  /-- 32 sat; 19 R577; spec 0; 9060.03 -/
  withdrawals : Nat := 0
  /-- 32 sat; 19 R577; spec 0; 9060.04 -/
  conflicts : Nat := 0
  /-- 1; 19 R559; DC1; break wait 0 (trip branch taken at a seat-detect opening) -/
  noWait : Bool := false
deriving DecidableEq, Repr



/-- What the spec gives the module and its heads (INVENTORY.md, State). -/
structure Body where
  /-- 01: base cycle and operating state -/
  core : Core := {}
  /-- 02: Sarale ring, Yarder side -/
  ring : Ring := {}
  /-- 02, 03: sense heads by their place on the ring (1-64, counted as P is) -/
  heads : Tab Head := []
  /-- 03: tap monitor -/
  tap : TapMon := {}
  /-- 04: front-end, insulation monitor, contactor drivers -/
  fe : FrontEnd := {}
  /-- 05-07: cell channel table, state part, by cell 1-512 -/
  cells : Tab CellState := []
  /-- 05: point table, state part, by point 0-2047 -/
  points : Tab PointState := []
  /-- 06: lane fabric -/
  scaler : Scaler := {}
  /-- 05: Cruiser, wear levelling -/
  cruiser : Cruiser := {}
  /-- 07: Borer -/
  borer : Borer := {}
  /-- 08: Thinning scheduler -/
  thin : Thinning := {}
  /-- 09: Firebreak and trip sequencer -/
  fb : Firebreak := {}
  /-- 10: Sawyer, dispatch, profile, traces -/
  sawyer : Sawyer := {}
  /-- 11: Canopy -/
  canopy : Canopy := {}
  /-- 11: Winch axes 1-4 -/
  axes : Tab Axis := []
  /-- 12: Ethernet, PRP, CAN, pulse outputs -/
  links : Links := {}
  /-- 12: local clock -/
  clock : Clock := {}
  /-- 13: dictionary engine and sessions -/
  dict : Dict := {}
  /-- 14: identity and security -/
  sec : Security := {}
  /-- 15: redundant pair -/
  pair : Pair := {}
  /-- 16: Ranger -/
  ranger : Ranger := {}
  /-- 16: Tally -/
  tally : Tally := {}
  /-- 16: provoked faults, by link 0-6 (A010-A016) -/
  inject : Tab Inject := []
  /-- 17: power, clocks, module temperature -/
  power : Power := {}
  /-- 17: Lookout -/
  lookout : Lookout := {}
  /-- 18: storage and journal -/
  storage : Storage := {}
  /-- 18: update -/
  update : Update := {}
  /-- 19: slot -/
  seat : Seat := {}
deriving DecidableEq, Repr

/-- The whole state. -/
structure State extends Body where
  /-- MODEL; 13 R391; the module as it stood at the latest cycle boundary, which reads and notifications show -/
  boundary : Body := {}
  /-- MODEL; the counter of free values drawn -/
  free : Nat := 0
  /-- MODEL; the queue of commands that wait, first in, first out -/
  pending : List Instr := []
deriving DecidableEq, Repr

/-- Reasons the block stops with a fault. The spec stops the block on no command, so nothing raises one today (safe: a stop
only makes statements unprovable). -/
inductive Fault where
  /-- Raised by no meaning; kept so that the type is inhabited. Safe. -/
  | none
deriving DecidableEq, Repr

/-- Reasons a command has no meaning in the model. -/
inductive Refusal where
  /-- An arm of exec that has no meaning yet. Safe. -/
  | notModelled (mnemonic : String)
deriving DecidableEq, Repr

/-- The machine right after reset: no supply, state OFF (R30, R31), every field at the value its comment names. -/
def State.reset : State := {}

end Sys2Proof.Machine
end

