-- ==== Sys2Proof/Machine/Catalog.lean ====
section
/-! DEFINITION. The object dictionary's metadata (R380-R387): one row per object or range of objects of the tables of R77,
R108, R135, R168-R171, R206, R233, R234, R252, R255, R279, R311-R313, R340, R341, R378, R379, R408, R435, R465, R485, R496,
R497, R527, R555 and R577, in the order of their chapters. Where two rows fit an object, the first one governs (rows with
another default for single indices stand first).

The scope of an object that no table names (R385 gives the rule by examples only) and the range of an object whose table gives
none are DEDUCED: log entry 5. -/

namespace Sys2Proof.Machine

/-- A row of the dictionary: index range, subindex range, type code (R381), access and write role (R387), default, persistence,
flags of R387 byte 7, minimum, maximum, unit, name. -/
structure ObjDesc where
  lo : Nat
  hi : Nat
  subLo : Nat
  subHi : Nat
  ty : Nat
  access : Nat
  role : Nat
  dflt : Int
  persist : Nat
  flags : Nat
  min : Int
  max : Int
  unit : String
  name : String
deriving DecidableEq, Repr

/-- Rows 1 to 40. -/
def catalogPart0 : List ObjDesc :=
  [⟨0x7290, 0x7297, 0xB, 0xB, 4, 0, 0, 0, 1, 0, 0, 4294967295, "", "Frames abandoned or discarded"⟩,
   ⟨0x7290, 0x7297, 0xA, 0xA, 4, 0, 0, 0, 1, 0, 0, 4294967295, "", "Frames transferred"⟩,
   ⟨0x7290, 0x7297, 0x9, 0x9, 2, 0, 0, 255, 1, 0, 0, 255, "", "Secure channel"⟩,
   ⟨0x7290, 0x7297, 0x8, 0x8, 1, 0, 0, 0, 1, 0, 0, 1, "", "Replace pending"⟩,
   ⟨0x7290, 0x7297, 0x7, 0x7, 2, 0, 0, 3, 1, 0, 0, 255, "", "Retransmission limit"⟩,
   ⟨0x7290, 0x7297, 0x6, 0x6, 2, 0, 0, 64, 1, 0, 0, 64, "", "Data length"⟩,
   ⟨0x7290, 0x7297, 0x5, 0x5, 2, 0, 0, 2, 1, 0, 0, 2, "", "Format"⟩,
   ⟨0x7290, 0x7297, 0x4, 0x4, 4, 0, 0, 536870911, 1, 0, 0, 4294967295, "", "Mask"⟩,
   ⟨0x7290, 0x7297, 0x3, 0x3, 1, 0, 0, 0, 1, 0, 0, 1, "", "Extension"⟩,
   ⟨0x7290, 0x7297, 0x2, 0x2, 4, 0, 0, 0, 1, 0, 0, 536870911, "", "Identifier"⟩,
   ⟨0x7290, 0x7297, 0x1, 0x1, 2, 0, 0, 0, 1, 0, 0, 2, "", "Enable and direction"⟩,
   ⟨0x7210, 0x7217, 0xB, 0xB, 4, 0, 0, 0, 1, 0, 0, 4294967295, "", "Frames abandoned or discarded"⟩,
   ⟨0x7210, 0x7217, 0xA, 0xA, 4, 0, 0, 0, 1, 0, 0, 4294967295, "", "Frames transferred"⟩,
   ⟨0x7210, 0x7217, 0x9, 0x9, 2, 0, 0, 255, 1, 0, 0, 255, "", "Secure channel"⟩,
   ⟨0x7210, 0x7217, 0x8, 0x8, 1, 0, 0, 0, 1, 0, 0, 1, "", "Replace pending"⟩,
   ⟨0x7210, 0x7217, 0x7, 0x7, 2, 0, 0, 3, 1, 0, 0, 255, "", "Retransmission limit"⟩,
   ⟨0x7210, 0x7217, 0x6, 0x6, 2, 0, 0, 64, 1, 0, 0, 64, "", "Data length"⟩,
   ⟨0x7210, 0x7217, 0x5, 0x5, 2, 0, 0, 2, 1, 0, 0, 2, "", "Format"⟩,
   ⟨0x7210, 0x7217, 0x4, 0x4, 4, 0, 0, 536870911, 1, 0, 0, 4294967295, "", "Mask"⟩,
   ⟨0x7210, 0x7217, 0x3, 0x3, 1, 0, 0, 0, 1, 0, 0, 1, "", "Extension"⟩,
   ⟨0x7210, 0x7217, 0x2, 0x2, 4, 0, 0, 0, 1, 0, 0, 536870911, "", "Identifier"⟩,
   ⟨0x7210, 0x7217, 0x1, 0x1, 2, 0, 0, 0, 1, 0, 0, 2, "", "Enable and direction"⟩,
   ⟨0x6010, 0x6011, 0x6, 0x6, 8, 1, 4, 200, 1, 3, -2147483648, 2147483647, "", "kp"⟩,
   ⟨0x6010, 0x6011, 0x8, 0x8, 8, 1, 4, 83886, 1, 3, -2147483648, 2147483647, "", "ki"⟩,
   ⟨0x6010, 0x6011, 0x9, 0x9, 2, 1, 4, 24, 1, 3, 0, 47, "", "si"⟩,
   ⟨0x6010, 0x6011, 0x1, 0x1, 2, 0, 0, 1, 1, 2, 0, 2, "", "Mode"⟩,
   ⟨0x6030, 0x6030, 0x1, 0x1, 3, 0, 0, 1, 1, 2, 0, 65535, "", "Group members"⟩,
   ⟨0x6031, 0x6031, 0x1, 0x1, 3, 0, 0, 2, 1, 2, 0, 65535, "", "Group members"⟩,
   ⟨0x6840, 0x6840, 0x1, 0x1, 3, 1, 4, 5127, 1, 2, 0, 65535, "", "Output source node"⟩,
   ⟨0x6841, 0x6841, 0x1, 0x1, 3, 1, 4, 5383, 1, 2, 0, 65535, "", "Output source node"⟩,
   ⟨0x6842, 0x6842, 0x1, 0x1, 3, 1, 4, 5383, 1, 2, 0, 65535, "", "Output source node"⟩,
   ⟨0x6840, 0x6841, 0x2, 0x2, 3, 1, 4, 100, 1, 2, 1, 1000, "Hz", "Output frequency"⟩,
   ⟨0x6842, 0x6845, 0x2, 0x2, 3, 1, 4, 100, 1, 2, 10, 25000, "Hz", "Output frequency"⟩,
   ⟨0x6860, 0x6860, 0x1, 0x1, 2, 4, 4, 1, 1, 3, 0, 4, "", "Mode"⟩,
   ⟨0x6861, 0x6861, 0x1, 0x1, 2, 4, 4, 2, 1, 3, 0, 4, "", "Mode"⟩,
   ⟨0x6862, 0x6862, 0x1, 0x1, 2, 4, 4, 3, 1, 3, 0, 4, "", "Mode"⟩,
   ⟨0x6860, 0x6860, 0x2, 0x2, 3, 1, 4, 4871, 1, 3, 0, 65535, "", "Target node"⟩,
   ⟨0x6860, 0x6860, 0xA, 0xA, 3, 4, 4, 4000, 1, 2, 0, 65535, "", "Encoder counts per revolution"⟩,
   ⟨0x6880, 0x6881, 0x6, 0x6, 1, 1, 4, 1, 1, 2, 0, 1, "", "Auto-home at BOOT"⟩,
   ⟨0x7130, 0x7130, 0x1, 0x1, 2, 1, 4, 2, 1, 0, 0, 3, "", "Pulse mode"⟩]

/-- Rows 41 to 80. -/
def catalogPart1 : List ObjDesc :=
  [⟨0x7131, 0x7131, 0x1, 0x1, 2, 1, 4, 3, 1, 0, 0, 3, "", "Pulse mode"⟩,
   ⟨0x7130, 0x7130, 0x3, 0x3, 4, 1, 4, 1000000000, 1, 0, 0, 10000000000, "ns", "Period"⟩,
   ⟨0x7130, 0x7130, 0x4, 0x4, 4, 1, 4, 10000000, 1, 0, 0, 4294967295, "ns", "Width"⟩,
   ⟨0x7131, 0x7131, 0x4, 0x4, 4, 1, 4, 10000, 1, 0, 0, 4294967295, "ns", "Width"⟩,
   ⟨0x8900, 0x8900, 0x4, 0x4, 3, 0, 0, 0, 1, 2, 0, 65535, "ms", "Grace time"⟩,
   ⟨0x8901, 0x891D, 0x4, 0x4, 3, 0, 0, 0, 1, 2, 0, 65535, "ms", "Grace time"⟩,
   ⟨0x8901, 0x891D, 0x3, 0x3, 2, 0, 0, 0, 1, 2, 0, 255, "", "Ceiling"⟩,
   ⟨0x6010, 0x6011, 0x2, 0x4, 3, 0, 0, 0, 1, 2, 0, 65535, "", "Measurement, set-point, feed-forward node"⟩,
   ⟨0x6010, 0x6011, 0xA, 0xA, 8, 0, 0, 0, 1, 2, -2147483648, 2147483647, "", "kd"⟩,
   ⟨0x6010, 0x6011, 0xB, 0xB, 2, 0, 0, 0, 1, 2, 0, 255, "", "sd"⟩,
   ⟨0x6010, 0x6011, 0xC, 0xC, 8, 0, 0, 0, 1, 2, -2147483648, 2147483647, "", "kf"⟩,
   ⟨0x6010, 0x6011, 0xD, 0xD, 2, 0, 0, 0, 1, 2, 0, 255, "", "sf"⟩,
   ⟨0x6010, 0x6011, 0x10, 0x11, 8, 0, 0, 0, 1, 2, -2147483648, 2147483647, "", "Output minimum, maximum"⟩,
   ⟨0x6012, 0x6015, 0x1, 0x1, 2, 1, 4, 1, 1, 2, 0, 2, "", "Mode"⟩,
   ⟨0x6012, 0x6012, 0x2, 0x2, 3, 1, 4, 16392, 1, 3, 0, 65535, "", "Measurement node"⟩,
   ⟨0x6012, 0x6012, 0x3, 0x3, 3, 1, 4, 0, 1, 3, 0, 65535, "", "Set-point node"⟩,
   ⟨0x6012, 0x6012, 0x5, 0x5, 8, 1, 4, 3000, 1, 3, -2147483648, 2147483647, "", "Set-point value"⟩,
   ⟨0x6012, 0x6012, 0x10, 0x10, 8, 1, 4, 1500, 1, 3, -2147483648, 2147483647, "", "Output minimum"⟩,
   ⟨0x6012, 0x6012, 0x11, 0x11, 8, 1, 4, 3500, 1, 3, -2147483648, 2147483647, "", "Output maximum"⟩,
   ⟨0x6013, 0x6013, 0x2, 0x2, 3, 1, 4, 21569, 1, 3, 0, 65535, "", "Measurement node"⟩,
   ⟨0x6013, 0x6013, 0x3, 0x3, 3, 1, 4, 4615, 1, 3, 0, 65535, "", "Set-point node"⟩,
   ⟨0x6013, 0x6013, 0x5, 0x5, 8, 1, 4, 0, 1, 3, -2147483648, 2147483647, "", "Set-point value"⟩,
   ⟨0x6013, 0x6013, 0x10, 0x10, 8, 1, 4, 0, 1, 3, -2147483648, 2147483647, "", "Output minimum"⟩,
   ⟨0x6013, 0x6013, 0x11, 0x11, 8, 1, 4, 0, 1, 3, -2147483648, 2147483647, "", "Output maximum"⟩,
   ⟨0x6014, 0x6014, 0x2, 0x2, 3, 1, 4, 16393, 1, 3, 0, 65535, "", "Measurement node"⟩,
   ⟨0x6014, 0x6014, 0x3, 0x3, 3, 1, 4, 0, 1, 3, 0, 65535, "", "Set-point node"⟩,
   ⟨0x6014, 0x6014, 0x5, 0x5, 8, 1, 4, 1000, 1, 3, -2147483648, 2147483647, "", "Set-point value"⟩,
   ⟨0x6014, 0x6014, 0x10, 0x10, 8, 1, 4, 0, 1, 3, -2147483648, 2147483647, "", "Output minimum"⟩,
   ⟨0x6014, 0x6014, 0x11, 0x11, 8, 1, 4, 1000, 1, 3, -2147483648, 2147483647, "", "Output maximum"⟩,
   ⟨0x6015, 0x6015, 0x2, 0x2, 3, 1, 4, 21582, 1, 3, 0, 65535, "", "Measurement node"⟩,
   ⟨0x6015, 0x6015, 0x3, 0x3, 3, 1, 4, 0, 1, 3, 0, 65535, "", "Set-point node"⟩,
   ⟨0x6015, 0x6015, 0x5, 0x5, 8, 1, 4, 300, 1, 3, -2147483648, 2147483647, "", "Set-point value"⟩,
   ⟨0x6015, 0x6015, 0x10, 0x10, 8, 1, 4, 200, 1, 3, -2147483648, 2147483647, "", "Output minimum"⟩,
   ⟨0x6015, 0x6015, 0x11, 0x11, 8, 1, 4, 1000, 1, 3, -2147483648, 2147483647, "", "Output maximum"⟩,
   ⟨0x2100, 0x2100, 0x1, 0x1, 2, 4, 4, 0, 1, 3, 0, 1, "", "Ring configuration"⟩,
   ⟨0x2100, 0x2100, 0x2, 0x2, 2, 4, 4, 16, 1, 3, 16, 64, "", "Configured head count"⟩,
   ⟨0x2100, 0x2100, 0x3, 0x3, 3, 4, 4, 500, 1, 3, 200, 4000, "", "Sample offset"⟩,
   ⟨0x2100, 0x2100, 0x4, 0x4, 3, 1, 4, 100, 1, 2, 10, 10000, "Cycles", "Unwrap qualification"⟩,
   ⟨0x2100, 0x2100, 0x5, 0x5, 2, 1, 4, 3, 1, 2, 0, 255, "", "Unwrap limit"⟩,
   ⟨0x2100, 0x2100, 0x6, 0x6, 1, 2, 4, 0, 0, 2, 0, 1, "", "Unwrap release"⟩]

/-- Rows 81 to 120. -/
def catalogPart2 : List ObjDesc :=
  [⟨0x2100, 0x2100, 0x7, 0x7, 1, 2, 4, 0, 0, 2, 0, 1, "", "Re-enumerate"⟩,
   ⟨0x2101, 0x2101, 0x1, 0x1, 2, 0, 0, 0, 0, 0, 0, 255, "", "Ring state"⟩,
   ⟨0x2101, 0x2101, 0x2, 0x2, 2, 0, 0, 0, 0, 0, 0, 255, "", "Enumerated head count"⟩,
   ⟨0x2101, 0x2101, 0x3, 0x3, 4, 0, 0, 0, 0, 0, 0, 4294967295, "ns", "Ring transit time"⟩,
   ⟨0x2101, 0x2101, 0x4, 0x4, 4, 0, 0, 0, 0, 0, 0, 4294967295, "ns", "W segment transit"⟩,
   ⟨0x2101, 0x2101, 0x5, 0x5, 4, 0, 0, 0, 0, 0, 0, 4294967295, "ns", "E segment transit"⟩,
   ⟨0x2101, 0x2101, 0x6, 0x6, 3, 0, 0, 0, 0, 0, 0, 65535, "", "Wrap heads"⟩,
   ⟨0x2101, 0x2101, 0x7, 0x7, 2, 0, 0, 0, 0, 0, 0, 255, "", "Origination"⟩,
   ⟨0x2101, 0x2101, 0x8, 0x8, 15, 0, 0, 0, 0, 0, 0, 4294967295, "", "Last ring state change"⟩,
   ⟨0x2102, 0x2102, 0x1, 0x41, 3, 0, 0, 0, 1, 2, 0, 65535, "ns", "Cable delay c_k"⟩,
   ⟨0x2102, 0x2102, 0x42, 0x42, 3, 0, 0, 0, 1, 2, 0, 65535, "ns", "End path delay"⟩,
   ⟨0x2110, 0x2110, 0x1, 0xB, 4, 0, 0, 0, 0, 0, 0, 4294967295, "", "RING-W counters"⟩,
   ⟨0x2110, 0x2110, 0xC, 0xC, 1, 2, 4, 0, 0, 0, 0, 1, "", "RING-W counter clear"⟩,
   ⟨0x2140, 0x217F, 0x1, 0x1, 5, 0, 0, 0, 1, 0, 0, 18446744073709551615, "", "Head serial number"⟩,
   ⟨0x2140, 0x217F, 0x2, 0x2, 2, 0, 0, 0, 0, 0, 0, 255, "", "Hop count"⟩,
   ⟨0x2140, 0x217F, 0x3, 0x3, 2, 0, 0, 0, 0, 0, 0, 255, "", "Reached from"⟩,
   ⟨0x2140, 0x217F, 0x4, 0x4, 3, 0, 0, 0, 1, 0, 0, 65535, "ns", "D_W"⟩,
   ⟨0x2140, 0x217F, 0x5, 0x5, 3, 0, 0, 0, 1, 0, 0, 65535, "ns", "D_E"⟩,
   ⟨0x2140, 0x217F, 0x6, 0x8, 3, 0, 0, 0, 1, 0, 0, 65535, "ns", "Lf, Lr, Lt"⟩,
   ⟨0x2140, 0x217F, 0x9, 0x9, 4, 0, 0, 0, 0, 0, 0, 4294967295, "", "Block check failures"⟩,
   ⟨0x2140, 0x217F, 0xA, 0xA, 4, 0, 0, 0, 0, 0, 0, 4294967295, "", "Missing blocks"⟩,
   ⟨0x2140, 0x217F, 0xB, 0xB, 3, 0, 0, 0, 0, 0, 0, 65535, "", "Last header flags"⟩,
   ⟨0xA010, 0xA010, 0x10, 0x10, 2, 1, 4, 31, 0, 0, 0, 31, "", "Frame kind mask"⟩,
   ⟨0xA010, 0xA010, 0x11, 0x11, 2, 1, 4, 0, 0, 0, 0, 64, "", "Position filter"⟩,
   ⟨0x2103, 0x2103, 0x1, 0x1, 3, 1, 4, 600, 1, 2, 60, 3600, "s", "Open-wire test period"⟩,
   ⟨0x2103, 0x2103, 0x2, 0x2, 2, 1, 4, 3, 1, 2, 1, 8, "", "Open-wire source-on samples"⟩,
   ⟨0x2103, 0x2103, 0x3, 0x3, 3, 0, 0, 0, 0, 2, 0, 65535, "Count", "Cells sense lost"⟩,
   ⟨0x2103, 0x2103, 0x4, 0x4, 8, 0, 0, 0, 0, 2, -2147483648, 2147483647, "mV", "String sum deviation"⟩,
   ⟨0x2103, 0x2103, 0x5, 0x5, 3, 2, 4, 0, 0, 2, 0, 65535, "", "Sense-lost clear"⟩,
   ⟨0x2103, 0x2103, 0x6, 0x6, 3, 2, 4, 0, 0, 2, 0, 65535, "", "Open-wire test request"⟩,
   ⟨0x2103, 0x2103, 0x7, 0x7, 4, 0, 0, 0, 0, 2, 0, 4294967295, "", "Pair-sum suspicions"⟩,
   ⟨0x2103, 0x2103, 0x8, 0x8, 2, 2, 4, 0, 0, 2, 1, 64, "", "Bleed gate failure clear"⟩,
   ⟨0x2180, 0x21BF, 0x1, 0x1, 8, 0, 0, 0, 0, 0, -2147483648, 2147483647, "10 µV", "Head sum deviation"⟩,
   ⟨0x2180, 0x21BF, 0x2, 0x2, 2, 0, 0, 0, 0, 0, 0, 255, "", "Head diagnosis state"⟩,
   ⟨0x2180, 0x21BF, 0x3, 0x3, 7, 0, 0, 0, 0, 0, -32768, 32767, "0.01 °C", "Die temperature"⟩,
   ⟨0x2180, 0x21BF, 0x4, 0x4, 2, 0, 0, 0, 1, 0, 0, 255, "", "Contract version"⟩,
   ⟨0x2180, 0x21BF, 0x5, 0x5, 3, 0, 0, 0, 1, 0, 0, 65535, "mΩ", "Bleed resistance"⟩,
   ⟨0x2180, 0x21BF, 0x6, 0x6, 3, 0, 0, 0, 1, 0, 0, 65535, "ns", "Input group delay"⟩,
   ⟨0x2180, 0x21BF, 0x7, 0x7, 3, 0, 0, 65535, 1, 0, 0, 65535, "mΩ", "Rw uncertainty"⟩,
   ⟨0x2180, 0x21BF, 0x8, 0x8, 15, 0, 0, 0, 0, 0, 0, 4294967295, "", "Last scheduled test"⟩]

/-- Rows 121 to 160. -/
def catalogPart3 : List ObjDesc :=
  [⟨0x21C0, 0x21FF, 0x1, 0x11, 3, 0, 0, 65535, 1, 2, 0, 65535, "mΩ", "Tap wire resistance"⟩,
   ⟨0x2200, 0x223F, 0x1, 0x11, 2, 0, 0, 1, 1, 2, 0, 255, "", "Tap state"⟩,
   ⟨0x2010, 0x2010, 0x1, 0x1, 8, 0, 0, 0, 0, 0, -2147483648, 2147483647, "mA", "Main current"⟩,
   ⟨0x2010, 0x2010, 0x2, 0x2, 8, 0, 0, 0, 0, 0, -2147483648, 2147483647, "mA", "Hall current"⟩,
   ⟨0x2010, 0x2010, 0x3, 0x3, 8, 0, 0, 0, 1, 0, -2147483648, 2147483647, "mA", "Main sensor offset"⟩,
   ⟨0x2010, 0x2010, 0x4, 0x4, 15, 0, 0, 0, 0, 0, 0, 4294967295, "", "Last full auto-zero"⟩,
   ⟨0x2010, 0x2010, 0x5, 0x5, 7, 0, 0, 0, 1, 0, -32768, 32767, "0.01 °C", "Auto-zero baseplate temperature"⟩,
   ⟨0x2010, 0x2010, 0x6, 0x6, 1, 2, 4, 0, 0, 0, 0, 1, "", "Auto-zero request"⟩,
   ⟨0x2010, 0x2010, 0x7, 0x7, 8, 0, 0, 0, 0, 0, -2147483648, 2147483647, "mA", "Current cross-check deviation"⟩,
   ⟨0x2010, 0x2010, 0x8, 0x8, 3, 0, 0, 10000, 1, 0, 0, 65535, "ns", "Front-end group delay"⟩,
   ⟨0x2011, 0x2011, 0x1, 0x1, 8, 0, 0, 0, 0, 0, -2147483648, 2147483647, "mV", "V_STR"⟩,
   ⟨0x2011, 0x2011, 0x2, 0x2, 8, 0, 0, 0, 0, 0, -2147483648, 2147483647, "mV", "V_LINK"⟩,
   ⟨0x2011, 0x2011, 0x3, 0x6, 8, 0, 0, 0, 0, 0, -2147483648, 2147483647, "mV", "Pole voltages"⟩,
   ⟨0x2011, 0x2011, 0x7, 0x7, 8, 0, 0, 0, 0, 0, -2147483648, 2147483647, "mV", "Voltage cross-check deviation"⟩,
   ⟨0x2012, 0x2012, 0x1, 0x1, 3, 0, 0, 65535, 0, 0, 0, 65535, "kΩ", "Insulation resistance"⟩,
   ⟨0x2012, 0x2012, 0x2, 0x2, 3, 0, 0, 0, 0, 0, 0, 65535, "", "Insulation sequence"⟩,
   ⟨0x2012, 0x2012, 0x3, 0x3, 1, 4, 5, 1, 1, 0, 0, 1, "", "Injection enable"⟩,
   ⟨0x2012, 0x2012, 0x4, 0x4, 3, 0, 0, 0, 0, 0, 0, 65535, "ms", "Last half-period"⟩,
   ⟨0x2012, 0x2012, 0x5, 0x5, 3, 0, 0, 0, 0, 0, 0, 65535, "10 nF", "Leakage capacitance"⟩,
   ⟨0x2012, 0x2012, 0x6, 0x6, 3, 0, 0, 65535, 0, 0, 0, 65535, "0.01 %", "Fault position"⟩,
   ⟨0x2013, 0x2013, 0x1, 0x1, 3, 1, 4, 100, 1, 0, 20, 500, "ms", "Pull-in time"⟩,
   ⟨0x2013, 0x2013, 0x2, 0x2, 3, 1, 4, 250, 1, 0, 100, 1000, "mA", "Hold current"⟩,
   ⟨0x2013, 0x2013, 0x3, 0x3, 3, 1, 4, 2000, 1, 0, 500, 2000, "mA", "Pull-in current limit"⟩,
   ⟨0x2013, 0x2013, 0x4, 0x4, 2, 4, 4, 3, 1, 0, 0, 3, "", "NC auxiliary wired"⟩,
   ⟨0x2013, 0x2013, 0x5, 0x5, 2, 0, 0, 0, 0, 0, 0, 255, "", "Contactor state"⟩,
   ⟨0x2013, 0x2013, 0x6, 0x6, 2, 0, 0, 0, 1, 0, 0, 255, "", "Weld check result"⟩,
   ⟨0x2013, 0x2013, 0x7, 0x7, 4, 0, 0, 0, 1, 0, 0, 4294967295, "Count", "K+ closings"⟩,
   ⟨0x2013, 0x2013, 0x8, 0x8, 4, 0, 0, 0, 1, 0, 0, 4294967295, "Count", "K− closings"⟩,
   ⟨0x2013, 0x2013, 0x9, 0x9, 4, 0, 0, 0, 1, 0, 0, 4294967295, "Count", "Openings above break current"⟩,
   ⟨0x2013, 0x2013, 0xA, 0xA, 3, 1, 4, 10, 1, 0, 1, 60, "s", "Weld wait"⟩,
   ⟨0x2014, 0x2014, 0x1, 0x1, 3, 0, 0, 0, 0, 0, 0, 65535, "", "Discrete inputs"⟩,
   ⟨0x2014, 0x2014, 0x2, 0x2, 3, 0, 0, 0, 0, 0, 0, 65535, "", "Front-end status"⟩,
   ⟨0x3000, 0x31FF, 0x1, 0x1, 2, 4, 4, 0, 1, 3, 0, 64, "", "Head"⟩,
   ⟨0x3000, 0x31FF, 0x2, 0x2, 2, 4, 4, 0, 1, 3, 0, 16, "", "Channel"⟩,
   ⟨0x3000, 0x31FF, 0x3, 0x3, 2, 4, 4, 0, 1, 3, 0, 7, "", "Chemistry slot"⟩,
   ⟨0x3000, 0x31FF, 0x4, 0x4, 2, 1, 4, 7, 1, 3, 0, 7, "", "Configuration flags"⟩,
   ⟨0x3000, 0x31FF, 0x5, 0x5, 2, 1, 4, 0, 1, 3, 0, 2, "", "Minimum class"⟩,
   ⟨0x3000, 0x31FF, 0x6, 0x6, 3, 1, 4, 65535, 1, 3, 0, 65535, "", "Temperature points and weight"⟩,
   ⟨0x3000, 0x31FF, 0x7, 0x7, 3, 1, 4, 65535, 1, 3, 0, 65535, "", "Temperature points and weight"⟩,
   ⟨0x3000, 0x31FF, 0x8, 0x8, 3, 1, 4, 65535, 1, 3, 0, 65535, "", "Temperature points and weight"⟩]

/-- Rows 161 to 200. -/
def catalogPart4 : List ObjDesc :=
  [⟨0x3000, 0x31FF, 0x9, 0x9, 4, 4, 4, 0, 1, 3, 0, 4294967295, "0.01 As", "Nominal capacity"⟩,
   ⟨0x3000, 0x31FF, 0xA, 0xA, 4, 4, 4, 0, 1, 3, 0, 4294967295, "µΩ", "Initial Rdc"⟩,
   ⟨0x3000, 0x31FF, 0xB, 0xB, 3, 1, 4, 50, 1, 3, 0, 65535, "mV", "Guard bands"⟩,
   ⟨0x3000, 0x31FF, 0xC, 0xC, 3, 1, 4, 500, 1, 3, 0, 65535, "0.01 °C", "Guard bands"⟩,
   ⟨0x3000, 0x31FF, 0xD, 0xD, 13, 1, 4, 0, 1, 3, 0, 0, "", "Label"⟩,
   ⟨0x3000, 0x31FF, 0x2A, 0x2A, 4, 0, 0, 0, 1, 2, 0, 4294967295, "", "Flags"⟩,
   ⟨0x3000, 0x31FF, 0x2B, 0x2B, 2, 0, 0, 0, 0, 2, 0, 255, "", "Class, lane"⟩,
   ⟨0x3000, 0x31FF, 0x2C, 0x2C, 2, 0, 0, 0, 0, 2, 0, 255, "", "Class, lane"⟩,
   ⟨0x3000, 0x31FF, 0x37, 0x37, 8, 0, 0, 0, 1, 2, -2147483648, 2147483647, "", "Self-discharge estimate"⟩,
   ⟨0x3000, 0x31FF, 0x40, 0x40, 3, 0, 0, 0, 0, 2, 0, 65535, "0.01 %", "Reported cell SoC"⟩,
   ⟨0x3000, 0x31FF, 0x41, 0x41, 2, 2, 4, 0, 0, 2, 1, 3, "", "Cell command"⟩,
   ⟨0x3000, 0x31FF, 0x42, 0x42, 13, 0, 0, 0, 0, 2, 0, 0, "", "Whole entry"⟩,
   ⟨0x3400, 0x3BFF, 0x20, 0x20, 8, 0, 0, 0, 0, 2, -2147483648, 2147483647, "0.01 unit", "Raw value"⟩,
   ⟨0x3400, 0x3BFF, 0x21, 0x21, 8, 0, 0, 0, 0, 2, -2147483648, 2147483647, "0.01 unit", "Filtered value"⟩,
   ⟨0x3400, 0x3BFF, 0x22, 0x22, 15, 0, 0, 0, 0, 2, 0, 4294967295, "", "Updated"⟩,
   ⟨0x3400, 0x3BFF, 0x23, 0x23, 8, 0, 0, 0, 0, 2, -2147483648, 2147483647, "", "Minimum, maximum"⟩,
   ⟨0x3400, 0x3BFF, 0x24, 0x24, 8, 0, 0, 0, 0, 2, -2147483648, 2147483647, "", "Minimum, maximum"⟩,
   ⟨0x3400, 0x3BFF, 0x25, 0x25, 2, 0, 0, 1, 0, 2, 0, 255, "", "Quality"⟩,
   ⟨0x3400, 0x3BFF, 0x26, 0x26, 2, 0, 0, 0, 0, 2, 0, 255, "", "Implausible count"⟩,
   ⟨0x3400, 0x3BFF, 0x27, 0x27, 1, 2, 2, 0, 0, 2, 0, 1, "", "Extremes clear"⟩,
   ⟨0x1F00, 0x1F00, 0x1, 0x1, 1, 2, 9, 0, 0, 2, 0, 1, "", "COMMIT"⟩,
   ⟨0x1F00, 0x1F00, 0x2, 0x2, 4, 0, 0, 0, 1, 2, 0, 4294967295, "", "Table epoch"⟩,
   ⟨0x1F00, 0x1F00, 0x3, 0x3, 1, 2, 9, 0, 0, 2, 0, 1, "", "Discard staging"⟩,
   ⟨0x1F00, 0x1F00, 0x4, 0x4, 3, 0, 0, 65535, 0, 2, 0, 65535, "", "Staging owner"⟩,
   ⟨0x1F00, 0x1F00, 0x5, 0x5, 3, 0, 0, 0, 0, 2, 0, 65535, "Count", "Staged changes"⟩,
   ⟨0x1F00, 0x1F00, 0x6, 0x6, 15, 0, 0, 0, 1, 2, 0, 4294967295, "", "Epoch effective cycle"⟩,
   ⟨0x1F00, 0x1F00, 0x7, 0x7, 3, 1, 5, 300, 1, 2, 30, 3600, "s", "Staging idle time-out"⟩,
   ⟨0x4700, 0x4700, 0x1, 0x1, 3, 0, 0, 168, 0, 2, 0, 65535, "Cells", "F capacity"⟩,
   ⟨0x4700, 0x4700, 0x2, 0x2, 3, 0, 0, 0, 0, 2, 0, 65535, "Cells", "F cells"⟩,
   ⟨0x4700, 0x4700, 0x3, 0x3, 3, 0, 0, 0, 0, 2, 0, 65535, "Cells", "F deferred"⟩,
   ⟨0x4700, 0x4700, 0x5, 0x5, 3, 1, 4, 300, 1, 2, 50, 2000, "0.01 %", "SoC uncertainty threshold"⟩,
   ⟨0x4700, 0x4700, 0x6, 0x6, 3, 1, 4, 1000, 1, 2, 100, 60000, "Cycles", "F demotion hold"⟩,
   ⟨0x4700, 0x4700, 0x7, 0x7, 3, 1, 4, 20, 1, 2, 5, 100, "0.001 C", "Rest threshold"⟩,
   ⟨0x4700, 0x4700, 0x8, 0x8, 3, 1, 4, 60, 1, 2, 10, 3600, "s", "Rest time"⟩,
   ⟨0x4700, 0x4700, 0x9, 0x9, 4, 0, 0, 0, 0, 2, 0, 4294967295, "", "Moves"⟩,
   ⟨0x4701, 0x4701, 0x1, 0x1, 2, 0, 0, 0, 0, 2, 0, 255, "", "Lane state"⟩,
   ⟨0x4701, 0x4701, 0x2, 0x2, 2, 0, 0, 0, 0, 2, 0, 255, "", "Lane state"⟩,
   ⟨0x4701, 0x4701, 0x3, 0x3, 2, 0, 0, 0, 0, 2, 0, 255, "", "Lane state"⟩,
   ⟨0x4701, 0x4701, 0x4, 0x4, 2, 0, 0, 0, 0, 2, 0, 255, "", "Lane state"⟩,
   ⟨0x4701, 0x4701, 0x5, 0x5, 2, 0, 0, 0, 0, 2, 0, 255, "", "Lane state"⟩]

/-- Rows 201 to 240. -/
def catalogPart5 : List ObjDesc :=
  [⟨0x4701, 0x4701, 0x6, 0x6, 2, 0, 0, 0, 0, 2, 0, 255, "", "Lane state"⟩,
   ⟨0x4701, 0x4701, 0x7, 0x7, 2, 0, 0, 0, 0, 2, 0, 255, "", "Lane state"⟩,
   ⟨0x4701, 0x4701, 0x8, 0x8, 2, 0, 0, 0, 0, 2, 0, 255, "", "Lane state"⟩,
   ⟨0x4702, 0x4702, 0x1, 0x1, 2, 0, 0, 0, 0, 2, 0, 255, "", "Cells per lane"⟩,
   ⟨0x4702, 0x4702, 0x2, 0x2, 2, 0, 0, 0, 0, 2, 0, 255, "", "Cells per lane"⟩,
   ⟨0x4702, 0x4702, 0x3, 0x3, 2, 0, 0, 0, 0, 2, 0, 255, "", "Cells per lane"⟩,
   ⟨0x4702, 0x4702, 0x4, 0x4, 2, 0, 0, 0, 0, 2, 0, 255, "", "Cells per lane"⟩,
   ⟨0x4702, 0x4702, 0x5, 0x5, 2, 0, 0, 0, 0, 2, 0, 255, "", "Cells per lane"⟩,
   ⟨0x4702, 0x4702, 0x6, 0x6, 2, 0, 0, 0, 0, 2, 0, 255, "", "Cells per lane"⟩,
   ⟨0x4702, 0x4702, 0x7, 0x7, 2, 0, 0, 0, 0, 2, 0, 255, "", "Cells per lane"⟩,
   ⟨0x4702, 0x4702, 0x8, 0x8, 2, 0, 0, 0, 0, 2, 0, 255, "", "Cells per lane"⟩,
   ⟨0x4703, 0x4703, 0x1, 0x1, 2, 0, 0, 0, 0, 2, 0, 255, "", "F cells per lane"⟩,
   ⟨0x4703, 0x4703, 0x2, 0x2, 2, 0, 0, 0, 0, 2, 0, 255, "", "F cells per lane"⟩,
   ⟨0x4703, 0x4703, 0x3, 0x3, 2, 0, 0, 0, 0, 2, 0, 255, "", "F cells per lane"⟩,
   ⟨0x4703, 0x4703, 0x4, 0x4, 2, 0, 0, 0, 0, 2, 0, 255, "", "F cells per lane"⟩,
   ⟨0x4703, 0x4703, 0x5, 0x5, 2, 0, 0, 0, 0, 2, 0, 255, "", "F cells per lane"⟩,
   ⟨0x4703, 0x4703, 0x6, 0x6, 2, 0, 0, 0, 0, 2, 0, 255, "", "F cells per lane"⟩,
   ⟨0x4703, 0x4703, 0x7, 0x7, 2, 0, 0, 0, 0, 2, 0, 255, "", "F cells per lane"⟩,
   ⟨0x4703, 0x4703, 0x8, 0x8, 2, 0, 0, 0, 0, 2, 0, 255, "", "F cells per lane"⟩,
   ⟨0x4704, 0x4704, 0x1, 0x1, 4, 0, 0, 0, 0, 2, 0, 4294967295, "", "Missed F deadlines"⟩,
   ⟨0x4704, 0x4704, 0x2, 0x2, 4, 0, 0, 0, 0, 2, 0, 4294967295, "", "Missed F deadlines"⟩,
   ⟨0x4704, 0x4704, 0x3, 0x3, 4, 0, 0, 0, 0, 2, 0, 4294967295, "", "Missed F deadlines"⟩,
   ⟨0x4704, 0x4704, 0x4, 0x4, 4, 0, 0, 0, 0, 2, 0, 4294967295, "", "Missed F deadlines"⟩,
   ⟨0x4704, 0x4704, 0x5, 0x5, 4, 0, 0, 0, 0, 2, 0, 4294967295, "", "Missed F deadlines"⟩,
   ⟨0x4704, 0x4704, 0x6, 0x6, 4, 0, 0, 0, 0, 2, 0, 4294967295, "", "Missed F deadlines"⟩,
   ⟨0x4704, 0x4704, 0x7, 0x7, 4, 0, 0, 0, 0, 2, 0, 4294967295, "", "Missed F deadlines"⟩,
   ⟨0x4704, 0x4704, 0x8, 0x8, 4, 0, 0, 0, 0, 2, 0, 4294967295, "", "Missed F deadlines"⟩,
   ⟨0x4705, 0x4705, 0x1, 0x1, 2, 2, 4, 0, 0, 2, 0, 7, "", "Lane drain request"⟩,
   ⟨0x9880, 0x9880, 0x1, 0x1, 3, 0, 0, 0, 1, 0, 0, 65535, "0.01 %", "Storage life used"⟩,
   ⟨0x9880, 0x9880, 0x2, 0x2, 3, 0, 0, 96, 1, 0, 0, 65535, "", "Spare units"⟩,
   ⟨0x9880, 0x9880, 0x3, 0x3, 3, 0, 0, 0, 0, 0, 0, 65535, "Cycles", "Erase count spread"⟩,
   ⟨0x9880, 0x9880, 0x4, 0x4, 5, 0, 0, 0, 1, 0, 0, 18446744073709551615, "", "Bytes written"⟩,
   ⟨0x4000, 0x4000, 0x1, 0x1, 3, 1, 4, 50, 1, 2, 10, 200, "0.001 C", "Taper current"⟩,
   ⟨0x4000, 0x4000, 0x2, 0x2, 3, 1, 4, 120, 1, 2, 10, 1800, "s", "Taper time"⟩,
   ⟨0x4000, 0x4000, 0x3, 0x3, 3, 1, 4, 7000, 1, 2, 7000, 9500, "0.01 %", "Learning swing"⟩,
   ⟨0x4000, 0x4000, 0x4, 0x4, 3, 1, 4, 4000, 1, 2, 3000, 7000, "0.01 %", "Relearn swing"⟩,
   ⟨0x4000, 0x4000, 0x5, 0x5, 3, 1, 4, 150, 1, 2, 20, 500, "0.01 %", "Anchor uncertainty limit"⟩,
   ⟨0x4000, 0x4000, 0x6, 0x6, 3, 1, 4, 168, 1, 2, 12, 720, "h", "Traverse time limit"⟩,
   ⟨0x4000, 0x4000, 0x7, 0x7, 3, 1, 4, 100, 1, 2, 0, 5000, "", "Process noise"⟩,
   ⟨0x4001, 0x4001, 0x1, 0x1, 3, 0, 0, 0, 0, 18, 0, 65535, "0.01 %", "Usable SoC"⟩]

/-- Rows 241 to 280. -/
def catalogPart6 : List ObjDesc :=
  [⟨0x4001, 0x4001, 0x2, 0x2, 3, 0, 0, 0, 0, 18, 0, 65535, "0.01 %", "Usable SoC target"⟩,
   ⟨0x4001, 0x4001, 0x3, 0x3, 4, 0, 0, 0, 0, 18, 0, 4294967295, "0.01 As", "Usable charge to empty"⟩,
   ⟨0x4001, 0x4001, 0x4, 0x4, 4, 0, 0, 0, 0, 18, 0, 4294967295, "0.01 As", "Usable charge to full"⟩,
   ⟨0x4001, 0x4001, 0x5, 0x5, 3, 0, 0, 0, 0, 18, 0, 65535, "", "Weakest cell"⟩,
   ⟨0x4001, 0x4001, 0x6, 0x6, 3, 0, 0, 0, 0, 18, 0, 65535, "", "Strongest cell"⟩,
   ⟨0x4001, 0x4001, 0x7, 0x7, 9, 0, 0, 0, 0, 18, -9223372036854775808, 9223372036854775807, "µAs", "String charge counter"⟩,
   ⟨0x4001, 0x4001, 0x8, 0x8, 2, 0, 0, 0, 1, 18, 0, 255, "", "Last end event"⟩,
   ⟨0x4001, 0x4001, 0x9, 0x9, 15, 0, 0, 0, 1, 18, 0, 4294967295, "", "Last end event cycle"⟩,
   ⟨0x4001, 0x4001, 0xA, 0xA, 3, 0, 0, 0, 0, 18, 0, 65535, "s", "Charge window elapsed"⟩,
   ⟨0x4001, 0x4001, 0xB, 0xB, 3, 0, 0, 0, 0, 18, 0, 65535, "s", "Discharge window elapsed"⟩,
   ⟨0x4001, 0x4001, 0xC, 0xC, 3, 0, 0, 0, 0, 18, 0, 65535, "0.01 %", "Mean cell SoC"⟩,
   ⟨0x4002, 0x4002, 0x1, 0x1, 4, 0, 0, 0, 1, 2, 0, 4294967295, "", "Learning steps applied"⟩,
   ⟨0x4002, 0x4002, 0x2, 0x2, 4, 0, 0, 0, 1, 2, 0, 4294967295, "", "Learning steps clamped"⟩,
   ⟨0x4002, 0x4002, 0x3, 0x3, 4, 0, 0, 0, 1, 2, 0, 4294967295, "", "Learning steps rejected"⟩,
   ⟨0x4002, 0x4002, 0x4, 0x4, 4, 0, 0, 0, 1, 2, 0, 4294967295, "", "Learning steps lost"⟩,
   ⟨0x4002, 0x4002, 0x5, 0x5, 4, 0, 0, 0, 1, 2, 0, 4294967295, "", "Insertions"⟩,
   ⟨0x4002, 0x4002, 0x6, 0x6, 4, 0, 0, 0, 1, 2, 0, 4294967295, "", "Counting divergence notices"⟩,
   ⟨0x4002, 0x4002, 0x7, 0x7, 4, 0, 0, 0, 1, 2, 0, 4294967295, "", "Shut-down events"⟩,
   ⟨0x4010, 0x4017, 0x1, 0x1, 16, 4, 4, 0, 1, 3, 0, 0, "", "Chemistry table"⟩,
   ⟨0x4010, 0x4017, 0x2, 0x2, 2, 0, 0, 0, 1, 2, 0, 255, "", "Slot state"⟩,
   ⟨0x4010, 0x4017, 0x3, 0x3, 4, 0, 0, 0, 1, 2, 0, 4294967295, "", "Active table check"⟩,
   ⟨0x4010, 0x4017, 0x4, 0x4, 3, 0, 0, 0, 1, 2, 0, 65535, "0.1 mV", "V_full"⟩,
   ⟨0x4010, 0x4017, 0x5, 0x5, 3, 0, 0, 0, 1, 2, 0, 65535, "0.1 mV", "V_empty"⟩,
   ⟨0x4010, 0x4017, 0x6, 0x6, 2, 0, 0, 0, 1, 2, 0, 255, "", "Chemistry code"⟩,
   ⟨0x4800, 0x4800, 0x1, 0x1, 1, 1, 4, 1, 1, 2, 0, 1, "", "Perturbation enable"⟩,
   ⟨0x4800, 0x4800, 0x2, 0x2, 2, 1, 4, 210, 1, 2, 0, 255, "", "Tone mask"⟩,
   ⟨0x4800, 0x4800, 0x3, 0x3, 2, 4, 4, 210, 1, 3, 0, 255, "", "Table tones"⟩,
   ⟨0x4800, 0x4800, 0x4, 0x4, 3, 4, 5, 0, 1, 2, 0, 65535, "A", "Rated string current"⟩,
   ⟨0x4800, 0x4800, 0x5, 0x5, 3, 1, 4, 20, 1, 2, 10, 600, "s", "Window length"⟩,
   ⟨0x4800, 0x4800, 0x6, 0x6, 3, 1, 4, 600, 1, 2, 60, 65535, "s", "Request interval"⟩,
   ⟨0x4800, 0x4800, 0x7, 0x7, 2, 2, 4, 0, 0, 2, 0, 72, "h", "Sweep request"⟩,
   ⟨0x4800, 0x4800, 0x8, 0x8, 2, 1, 4, 8, 1, 2, 1, 8, "", "Ohmic tone"⟩,
   ⟨0x4800, 0x4800, 0x9, 0x9, 3, 1, 4, 100, 1, 2, 20, 1000, "0.001 C", "Step threshold"⟩,
   ⟨0x4800, 0x4800, 0xA, 0xA, 2, 1, 4, 16, 1, 2, 4, 128, "", "Filter divisor g"⟩,
   ⟨0x4801, 0x4801, 0x1, 0x1, 2, 0, 0, 0, 0, 2, 0, 255, "", "Perturbation state"⟩,
   ⟨0x4801, 0x4801, 0x2, 0x2, 15, 0, 0, 0, 0, 2, 0, 4294967295, "", "Window start"⟩,
   ⟨0x4801, 0x4801, 0x3, 0x3, 4, 0, 0, 0, 1, 2, 0, 4294967295, "", "Windows completed"⟩,
   ⟨0x4801, 0x4801, 0x4, 0x4, 4, 0, 0, 0, 1, 2, 0, 4294967295, "", "Windows discarded"⟩,
   ⟨0x4801, 0x4801, 0x5, 0x5, 2, 0, 0, 0, 0, 2, 0, 255, "", "Last discard cause"⟩,
   ⟨0x4801, 0x4801, 0x6, 0x6, 13, 0, 0, 0, 0, 2, 0, 0, "", "Tone amplitudes"⟩]

/-- Rows 281 to 320. -/
def catalogPart7 : List ObjDesc :=
  [⟨0x4801, 0x4801, 0x7, 0x7, 4, 0, 0, 0, 1, 2, 0, 4294967295, "", "Step observations"⟩,
   ⟨0x4802, 0x4802, 0x1, 0x1, 3, 1, 4, 500, 1, 2, 100, 10000, "0.0001 % SoC per day", "Self-discharge threshold"⟩,
   ⟨0x4802, 0x4802, 0x2, 0x2, 3, 1, 4, 3600, 1, 2, 600, 21600, "s", "Rest snapshot interval"⟩,
   ⟨0x4802, 0x4802, 0x3, 0x3, 3, 0, 0, 0, 0, 2, 0, 65535, "", "Cells in WATCH"⟩,
   ⟨0x4802, 0x4802, 0x4, 0x4, 3, 0, 0, 0, 0, 2, 0, 65535, "", "Cells with flag [10]"⟩,
   ⟨0x4802, 0x4802, 0x5, 0x5, 3, 2, 4, 0, 0, 2, 1, 512, "", "Suspicion clear"⟩,
   ⟨0x4802, 0x4802, 0x6, 0x6, 15, 0, 0, 0, 1, 2, 0, 4294967295, "", "Last evaluated rest"⟩,
   ⟨0x4802, 0x4802, 0x7, 0x7, 3, 1, 4, 21600, 1, 2, 3600, 65535, "s", "Lookout snapshot interval"⟩,
   ⟨0x4803, 0x4803, 0x1, 0x1, 3, 0, 0, 0, 0, 2, 0, 65535, "0.01 %", "Lowest capacity retention"⟩,
   ⟨0x4803, 0x4803, 0x2, 0x2, 3, 0, 0, 0, 0, 2, 0, 65535, "0.01 %", "Median resistance growth"⟩,
   ⟨0x4803, 0x4803, 0x3, 0x3, 3, 0, 0, 0, 0, 2, 0, 65535, "0.01 %", "Highest resistance growth"⟩,
   ⟨0x4803, 0x4803, 0x4, 0x4, 3, 0, 0, 0, 0, 2, 0, 65535, "", "Cells with health warning"⟩,
   ⟨0x4803, 0x4803, 0x5, 0x5, 3, 1, 4, 8500, 1, 2, 0, 65535, "0.01 %", "Capacity retention thresholds"⟩,
   ⟨0x4803, 0x4803, 0x6, 0x6, 3, 1, 4, 8000, 1, 2, 0, 65535, "0.01 %", "Capacity retention thresholds"⟩,
   ⟨0x4803, 0x4803, 0x7, 0x7, 3, 1, 4, 15000, 1, 2, 0, 65535, "0.01 %", "Resistance growth thresholds"⟩,
   ⟨0x4803, 0x4803, 0x8, 0x8, 3, 1, 4, 20000, 1, 2, 0, 65535, "0.01 %", "Resistance growth thresholds"⟩,
   ⟨0x4803, 0x4803, 0x9, 0x9, 3, 1, 4, 13000, 1, 2, 0, 65535, "0.01 %", "Resistance outlier threshold"⟩,
   ⟨0x4803, 0x4803, 0xA, 0xA, 3, 1, 4, 9500, 1, 2, 0, 65535, "0.01 %", "Capacity outlier threshold"⟩,
   ⟨0x4C00, 0x4DFF, 0x1, 0x1, 16, 0, 0, 0, 1, 2, 0, 0, "", "Learned impedance table"⟩,
   ⟨0x4C00, 0x4DFF, 0x2, 0x2, 3, 0, 0, 10000, 0, 2, 0, 65535, "0.01 %", "Capacity retention"⟩,
   ⟨0x4C00, 0x4DFF, 0x3, 0x3, 3, 0, 0, 10000, 0, 2, 0, 65535, "0.01 %", "Resistance growth"⟩,
   ⟨0x4C00, 0x4DFF, 0x4, 0x4, 3, 0, 0, 10000, 0, 2, 0, 65535, "0.01 %", "Resistance outlier ratio"⟩,
   ⟨0x4C00, 0x4DFF, 0x5, 0x5, 2, 0, 0, 0, 0, 2, 0, 255, "", "Health state"⟩,
   ⟨0x4C00, 0x4DFF, 0x6, 0x6, 2, 0, 0, 0, 1, 2, 0, 255, "", "Suspicion state"⟩,
   ⟨0x4C00, 0x4DFF, 0x7, 0x7, 8, 0, 0, 0, 1, 2, -2147483648, 2147483647, "0.0001 % SoC per day", "Last qualifying rate"⟩,
   ⟨0x4C00, 0x4DFF, 0x8, 0x8, 1, 2, 4, 0, 0, 2, 0, 1, "", "Impedance table reset"⟩,
   ⟨0x5000, 0x5000, 0x1, 0x1, 1, 1, 4, 1, 1, 2, 0, 1, "", "Balancing enable"⟩,
   ⟨0x5000, 0x5000, 0x2, 0x2, 2, 1, 4, 0, 1, 2, 0, 1, "", "Balancing mode"⟩,
   ⟨0x5000, 0x5000, 0x3, 0x3, 2, 1, 4, 0, 1, 2, 0, 1, "", "Balance aim"⟩,
   ⟨0x5000, 0x5000, 0x4, 0x4, 4, 1, 4, 2000, 1, 2, 100, 1000000, "0.01 As", "Deadband"⟩,
   ⟨0x5000, 0x5000, 0x5, 0x5, 3, 1, 4, 3600, 1, 2, 500, 3900, "mW", "Head heat budget"⟩,
   ⟨0x5000, 0x5000, 0x6, 0x6, 7, 1, 4, 8500, 1, 2, 6000, 9500, "0.01 °C", "Die derating start"⟩,
   ⟨0x5000, 0x5000, 0x7, 0x7, 2, 1, 4, 10, 1, 2, 5, 50, "Cycles", "Command lead"⟩,
   ⟨0x5000, 0x5000, 0x8, 0x8, 3, 0, 0, 0, 0, 2, 0, 65535, "", "Cells with target"⟩,
   ⟨0x5000, 0x5000, 0x9, 0x9, 4, 0, 0, 0, 0, 2, 0, 4294967295, "0.01 As", "Total target"⟩,
   ⟨0x5000, 0x5000, 0xA, 0xA, 4, 1, 4, 604800, 1, 2, 0, 2592000, "", "Switch test interval"⟩,
   ⟨0x5000, 0x5000, 0xB, 0xB, 2, 2, 4, 0, 0, 2, 1, 255, "", "Switch test request"⟩,
   ⟨0x5000, 0x5000, 0xC, 0xC, 2, 1, 4, 5, 1, 2, 2, 10, "", "Switch test samples"⟩,
   ⟨0x5000, 0x5000, 0xD, 0xD, 15, 0, 0, 0, 1, 2, 0, 4294967295, "", "Last complete test round"⟩,
   ⟨0x5000, 0x5000, 0xE, 0xE, 4, 0, 0, 0, 0, 2, 0, 4294967295, "mW", "String bleed power"⟩]

/-- Rows 321 to 360. -/
def catalogPart8 : List ObjDesc :=
  [⟨0x5000, 0x5000, 0xF, 0xF, 3, 2, 4, 0, 0, 2, 1, 512, "", "Exclusion clear"⟩,
   ⟨0x5040, 0x507F, 0x1, 0x1, 2, 0, 0, 0, 0, 2, 0, 255, "", "Mode in force"⟩,
   ⟨0x5040, 0x507F, 0x2, 0x2, 3, 0, 0, 0, 0, 2, 0, 65535, "mW", "Budget in force"⟩,
   ⟨0x5040, 0x507F, 0x3, 0x3, 3, 0, 0, 0, 0, 2, 0, 65535, "", "Acknowledged map"⟩,
   ⟨0x5040, 0x507F, 0x4, 0x4, 2, 0, 0, 0, 0, 2, 0, 255, "", "Map state"⟩,
   ⟨0x5040, 0x507F, 0x5, 0x5, 4, 0, 0, 0, 0, 2, 0, 4294967295, "", "Slots refused"⟩,
   ⟨0x5080, 0x527F, 0x1, 0x1, 2, 0, 0, 0, 1, 2, 0, 255, "", "Switch test result"⟩,
   ⟨0x5080, 0x527F, 0x2, 0x2, 8, 0, 0, 0, 1, 2, -2147483648, 2147483647, "10 µV", "Last drop D"⟩,
   ⟨0x5080, 0x527F, 0x3, 0x3, 15, 0, 0, 0, 1, 2, 0, 4294967295, "", "Last test"⟩,
   ⟨0x5800, 0x5800, 0x1, 0x1, 3, 0, 0, 0, 2, 2, 0, 65535, "0.1 mV", "Charge V_OV"⟩,
   ⟨0x5800, 0x5800, 0x2, 0x2, 3, 0, 0, 0, 2, 2, 0, 65535, "0.1 mV", "Charge V_UV"⟩,
   ⟨0x5800, 0x5800, 0x3, 0x3, 3, 0, 0, 0, 2, 2, 0, 65535, "0.1 mV", "Discharge V_OV"⟩,
   ⟨0x5800, 0x5800, 0x4, 0x4, 3, 0, 0, 0, 2, 2, 0, 65535, "0.1 mV", "Discharge V_UV"⟩,
   ⟨0x5800, 0x5800, 0x5, 0x5, 3, 0, 0, 0, 2, 2, 0, 65535, "0.1 mV", "Hard V_OV"⟩,
   ⟨0x5800, 0x5800, 0x6, 0x6, 3, 0, 0, 0, 2, 2, 0, 65535, "0.1 mV", "Hard V_UV"⟩,
   ⟨0x5800, 0x5800, 0x7, 0x7, 3, 0, 0, 300, 2, 2, 100, 2000, "0.1 mV", "Sense-lost margin m_sl"⟩,
   ⟨0x5800, 0x5800, 0x8, 0x8, 3, 0, 0, 2000, 2, 2, 500, 20000, "mA", "Direction band"⟩,
   ⟨0x5800, 0x5800, 0x9, 0x9, 2, 0, 0, 20, 2, 2, 5, 100, "Cycles", "Missing-sample limit"⟩,
   ⟨0x5800, 0x5800, 0xA, 0xA, 3, 0, 0, 2050, 2, 2, 150, 2100, "V", "String over-voltage"⟩,
   ⟨0x5801, 0x5801, 0x1, 0x1, 7, 0, 0, 0, 2, 2, -32768, 32767, "0.01 °C", "Charge cell T_max"⟩,
   ⟨0x5801, 0x5801, 0x2, 0x2, 7, 0, 0, 0, 2, 2, -32768, 32767, "0.01 °C", "Charge cell T_min"⟩,
   ⟨0x5801, 0x5801, 0x3, 0x3, 7, 0, 0, 0, 2, 2, -32768, 32767, "0.01 °C", "Discharge cell T_max"⟩,
   ⟨0x5801, 0x5801, 0x4, 0x4, 7, 0, 0, 0, 2, 2, -32768, 32767, "0.01 °C", "Discharge cell T_min"⟩,
   ⟨0x5801, 0x5801, 0x5, 0x5, 7, 0, 0, 0, 2, 2, -32768, 32767, "0.01 °C", "Hard cell T_max"⟩,
   ⟨0x5801, 0x5801, 0x6, 0x6, 7, 0, 0, 6000, 2, 2, -32768, 32767, "0.01 °C", "Coolant maximum"⟩,
   ⟨0x5801, 0x5801, 0x7, 0x7, 7, 0, 0, -3000, 2, 2, -32768, 32767, "0.01 °C", "Coolant minimum"⟩,
   ⟨0x5801, 0x5801, 0x8, 0x8, 2, 0, 0, 4, 2, 2, 1, 64, "", "Heads without cell temperature"⟩,
   ⟨0x5802, 0x5802, 0x1, 0x1, 3, 0, 0, 0, 2, 2, 0, 65535, "A", "Hall threshold, charge"⟩,
   ⟨0x5802, 0x5802, 0x2, 0x2, 3, 0, 0, 0, 2, 2, 0, 65535, "A", "Hall threshold, discharge"⟩,
   ⟨0x5802, 0x5802, 0x3, 0x3, 3, 0, 0, 0, 2, 2, 0, 65535, "A", "Continuous current, charge"⟩,
   ⟨0x5802, 0x5802, 0x4, 0x4, 3, 0, 0, 0, 2, 2, 0, 65535, "A", "Continuous current, discharge"⟩,
   ⟨0x5802, 0x5802, 0x5, 0x5, 4, 0, 0, 0, 2, 2, 0, 4294967295, "A²s", "i²t limit, charge"⟩,
   ⟨0x5802, 0x5802, 0x6, 0x6, 4, 0, 0, 0, 2, 2, 0, 4294967295, "A²s", "i²t limit, discharge"⟩,
   ⟨0x5802, 0x5802, 0x7, 0x7, 3, 0, 0, 500, 2, 2, 10, 2000, "A", "Break current"⟩,
   ⟨0x5802, 0x5802, 0x8, 0x8, 2, 0, 0, 20, 2, 2, 0, 100, "ms", "Break wait"⟩,
   ⟨0x5802, 0x5802, 0x9, 0x9, 3, 0, 0, 1000, 2, 2, 0, 2000, "µs", "TRIP-PCS lead"⟩,
   ⟨0x5803, 0x5803, 0x1, 0x1, 1, 0, 0, 1, 2, 2, 0, 1, "", "Insulation trip enable"⟩,
   ⟨0x5803, 0x5803, 0x2, 0x2, 3, 0, 0, 400, 2, 2, 0, 65535, "kΩ", "Insulation warning"⟩,
   ⟨0x5803, 0x5803, 0x3, 0x3, 3, 0, 0, 200, 2, 2, 0, 65535, "kΩ", "Insulation trip"⟩,
   ⟨0x5804, 0x5804, 0x1, 0x1, 2, 0, 0, 7, 2, 2, 0, 255, "", "Discrete inputs used"⟩]

/-- Rows 361 to 400. -/
def catalogPart9 : List ObjDesc :=
  [⟨0x5805, 0x5805, 0x1, 0x1, 2, 0, 0, 0, 1, 0, 0, 255, "", "Envelope state"⟩,
   ⟨0x5805, 0x5805, 0x2, 0x2, 13, 0, 0, 0, 1, 0, 0, 0, "", "Envelope digest"⟩,
   ⟨0x5805, 0x5805, 0x3, 0x3, 4, 0, 0, 0, 1, 0, 0, 4294967295, "", "Envelope sequence"⟩,
   ⟨0x5805, 0x5805, 0x4, 0x4, 15, 0, 0, 0, 1, 0, 0, 4294967295, "", "Envelope effective cycle"⟩,
   ⟨0x5805, 0x5805, 0x5, 0x5, 1, 0, 0, 0, 0, 0, 0, 1, "", "Partner envelope match"⟩,
   ⟨0x5810, 0x5810, 0x1, 0x1, 4, 0, 0, 0, 0, 0, 0, 4294967295, "", "Active protection causes"⟩,
   ⟨0x5810, 0x5810, 0x2, 0x2, 4, 0, 0, 0, 1, 0, 0, 4294967295, "", "Last trip cause"⟩,
   ⟨0x5810, 0x5810, 0x3, 0x3, 15, 0, 0, 0, 1, 0, 0, 4294967295, "", "Last trip"⟩,
   ⟨0x5810, 0x5810, 0x4, 0x4, 2, 0, 0, 0, 0, 0, 0, 255, "", "Direction"⟩,
   ⟨0x5810, 0x5810, 0x5, 0x5, 4, 0, 0, 0, 0, 0, 0, 4294967295, "A²s", "i²t accumulator, charge"⟩,
   ⟨0x5810, 0x5810, 0x6, 0x6, 4, 0, 0, 0, 0, 0, 0, 4294967295, "A²s", "i²t accumulator, discharge"⟩,
   ⟨0x5810, 0x5810, 0x7, 0x7, 4, 0, 0, 0, 1, 0, 0, 4294967295, "mA", "Break current at release"⟩,
   ⟨0x5810, 0x5810, 0x8, 0x8, 4, 0, 0, 0, 1, 0, 0, 4294967295, "µs", "Time to release"⟩,
   ⟨0x5810, 0x5810, 0x9, 0x9, 4, 0, 0, 0, 1, 0, 0, 4294967295, "", "Protection mismatches"⟩,
   ⟨0x5810, 0x5810, 0xA, 0xA, 4, 0, 0, 0, 0, 0, 0, 4294967295, "", "Comparisons late"⟩,
   ⟨0x5810, 0x5810, 0xB, 0xB, 2, 0, 0, 0, 0, 0, 0, 255, "", "Self-test result"⟩,
   ⟨0x6000, 0x6000, 0x1, 0x1, 4, 1, 4, 5000, 1, 2, 100, 100000, "mA per cycle", "Limit rise rate"⟩,
   ⟨0x6000, 0x6000, 0x2, 0x2, 4, 1, 5, 5000, 1, 2, 1000, 100000, "mA per cycle", "Horizon fall rate f"⟩,
   ⟨0x6000, 0x6000, 0x3, 0x3, 3, 1, 4, 500, 1, 2, 0, 1000, "‰", "Reaction derate"⟩,
   ⟨0x6000, 0x6000, 0x4, 0x4, 3, 1, 4, 10, 1, 2, 1, 60, "s", "Impedance horizon t_h"⟩,
   ⟨0x6000, 0x6000, 0x5, 0x5, 3, 1, 4, 3000, 1, 2, 0, 20000, "10 µV", "Impedance voltage margin"⟩,
   ⟨0x6000, 0x6000, 0x6, 0x6, 3, 1, 4, 200, 1, 2, 0, 500, "10 µV", "Charge loop offset"⟩,
   ⟨0x6000, 0x6000, 0x7, 0x7, 3, 1, 4, 300, 1, 2, 0, 500, "10 µV", "Discharge loop offset"⟩,
   ⟨0x6001, 0x6001, 0x1, 0x1, 8, 0, 0, 0, 0, 18, -2147483648, 2147483647, "mA", "Charge, discharge limit"⟩,
   ⟨0x6001, 0x6001, 0x2, 0x2, 8, 0, 0, 0, 0, 18, -2147483648, 2147483647, "mA", "Charge, discharge limit"⟩,
   ⟨0x6001, 0x6001, 0x3, 0x3, 2, 0, 0, 7, 0, 18, 0, 255, "", "Charge, discharge winner"⟩,
   ⟨0x6001, 0x6001, 0x4, 0x4, 2, 0, 0, 7, 0, 18, 0, 255, "", "Charge, discharge winner"⟩,
   ⟨0x6001, 0x6001, 0x10, 0x10, 8, 0, 0, 0, 0, 18, -2147483648, 2147483647, "mA", "Charge candidates"⟩,
   ⟨0x6001, 0x6001, 0x11, 0x11, 8, 0, 0, 0, 0, 18, -2147483648, 2147483647, "mA", "Charge candidates"⟩,
   ⟨0x6001, 0x6001, 0x12, 0x12, 8, 0, 0, 0, 0, 18, -2147483648, 2147483647, "mA", "Charge candidates"⟩,
   ⟨0x6001, 0x6001, 0x13, 0x13, 8, 0, 0, 0, 0, 18, -2147483648, 2147483647, "mA", "Charge candidates"⟩,
   ⟨0x6001, 0x6001, 0x14, 0x14, 8, 0, 0, 0, 0, 18, -2147483648, 2147483647, "mA", "Charge candidates"⟩,
   ⟨0x6001, 0x6001, 0x15, 0x15, 8, 0, 0, 0, 0, 18, -2147483648, 2147483647, "mA", "Charge candidates"⟩,
   ⟨0x6001, 0x6001, 0x16, 0x16, 8, 0, 0, 0, 0, 18, -2147483648, 2147483647, "mA", "Charge candidates"⟩,
   ⟨0x6001, 0x6001, 0x17, 0x17, 8, 0, 0, 0, 0, 18, -2147483648, 2147483647, "mA", "Charge candidates"⟩,
   ⟨0x6001, 0x6001, 0x18, 0x18, 8, 0, 0, 0, 0, 18, -2147483648, 2147483647, "mA", "Charge candidates"⟩,
   ⟨0x6001, 0x6001, 0x20, 0x20, 8, 0, 0, 0, 0, 18, -2147483648, 2147483647, "", "Discharge candidates"⟩,
   ⟨0x6001, 0x6001, 0x21, 0x21, 8, 0, 0, 0, 0, 18, -2147483648, 2147483647, "", "Discharge candidates"⟩,
   ⟨0x6001, 0x6001, 0x22, 0x22, 8, 0, 0, 0, 0, 18, -2147483648, 2147483647, "", "Discharge candidates"⟩,
   ⟨0x6001, 0x6001, 0x23, 0x23, 8, 0, 0, 0, 0, 18, -2147483648, 2147483647, "", "Discharge candidates"⟩]

/-- Rows 401 to 440. -/
def catalogPart10 : List ObjDesc :=
  [⟨0x6001, 0x6001, 0x24, 0x24, 8, 0, 0, 0, 0, 18, -2147483648, 2147483647, "", "Discharge candidates"⟩,
   ⟨0x6001, 0x6001, 0x25, 0x25, 8, 0, 0, 0, 0, 18, -2147483648, 2147483647, "", "Discharge candidates"⟩,
   ⟨0x6001, 0x6001, 0x26, 0x26, 8, 0, 0, 0, 0, 18, -2147483648, 2147483647, "", "Discharge candidates"⟩,
   ⟨0x6001, 0x6001, 0x27, 0x27, 8, 0, 0, 0, 0, 18, -2147483648, 2147483647, "", "Discharge candidates"⟩,
   ⟨0x6001, 0x6001, 0x28, 0x28, 8, 0, 0, 0, 0, 18, -2147483648, 2147483647, "", "Discharge candidates"⟩,
   ⟨0x6001, 0x6001, 0x30, 0x30, 8, 0, 0, 0, 0, 18, -2147483648, 2147483647, "10 µV", "Voltage margins"⟩,
   ⟨0x6001, 0x6001, 0x31, 0x31, 8, 0, 0, 0, 0, 18, -2147483648, 2147483647, "10 µV", "Voltage margins"⟩,
   ⟨0x6020, 0x6020, 0x1, 0x1, 16, 1, 4, 0, 1, 3, 0, 0, "", "SoC curves"⟩,
   ⟨0x6020, 0x6020, 0x2, 0x2, 16, 1, 4, 0, 1, 3, 0, 0, "", "SoC curves"⟩,
   ⟨0x6021, 0x6021, 0x1, 0x1, 16, 1, 4, 0, 1, 3, 0, 0, "", "Temperature curves"⟩,
   ⟨0x6021, 0x6021, 0x2, 0x2, 16, 1, 4, 0, 1, 3, 0, 0, "", "Temperature curves"⟩,
   ⟨0x6030, 0x6033, 0x1, 0x1, 3, 1, 4, 0, 1, 3, 0, 65535, "", "Group members"⟩,
   ⟨0x6030, 0x6033, 0x2, 0x2, 8, 0, 0, 0, 0, 2, -2147483648, 2147483647, "", "Group output"⟩,
   ⟨0x6030, 0x6033, 0x3, 0x3, 2, 0, 0, 0, 0, 2, 0, 255, "", "Group winner"⟩,
   ⟨0x6100, 0x6100, 0x1, 0x1, 2, 4, 5, 0, 1, 2, 0, 1, "", "Dispatch source"⟩,
   ⟨0x6100, 0x6100, 0x2, 0x2, 2, 1, 8, 0, 0, 2, 0, 2, "", "Dispatch mode"⟩,
   ⟨0x6100, 0x6100, 0x3, 0x3, 8, 1, 8, 0, 0, 2, -2147483648, 2147483647, "mA", "Current request"⟩,
   ⟨0x6100, 0x6100, 0x4, 0x4, 8, 1, 8, 0, 0, 2, -2147483648, 2147483647, "W", "Power request"⟩,
   ⟨0x6100, 0x6100, 0x5, 0x5, 8, 0, 0, 0, 0, 18, -2147483648, 2147483647, "mA", "Target"⟩,
   ⟨0x6100, 0x6100, 0x6, 0x6, 8, 0, 0, 0, 0, 18, -2147483648, 2147483647, "mA", "Set-point"⟩,
   ⟨0x6108, 0x6108, 0x1, 0x1, 1, 2, 3, 0, 0, 2, 0, 1, "", "Claim"⟩,
   ⟨0x6108, 0x6108, 0x2, 0x2, 1, 2, 3, 0, 0, 2, 0, 1, "", "Renew"⟩,
   ⟨0x6108, 0x6108, 0x3, 0x3, 1, 2, 3, 0, 0, 2, 0, 1, "", "Release"⟩,
   ⟨0x6108, 0x6108, 0x4, 0x4, 13, 0, 0, 0, 0, 2, 0, 0, "", "Holder identity"⟩,
   ⟨0x6108, 0x6108, 0x5, 0x5, 3, 1, 5, 2000, 1, 2, 1100, 10000, "Cycles", "Lease time"⟩,
   ⟨0x6108, 0x6108, 0x6, 0x6, 3, 0, 0, 0, 0, 2, 0, 65535, "Cycles", "Lease remaining"⟩,
   ⟨0x6108, 0x6108, 0x7, 0x7, 1, 2, 6, 0, 0, 2, 0, 1, "", "Revoke"⟩,
   ⟨0x6108, 0x6108, 0x8, 0x8, 4, 0, 0, 0, 1, 2, 0, 4294967295, "", "Lease endings"⟩,
   ⟨0x6010, 0x601F, 0x1, 0x1, 2, 1, 4, 0, 1, 2, 0, 2, "", "Mode"⟩,
   ⟨0x6010, 0x601F, 0x2, 0x2, 3, 1, 4, 0, 1, 3, 0, 65535, "", "Measurement, set-point, feed-forward node"⟩,
   ⟨0x6010, 0x601F, 0x3, 0x3, 3, 1, 4, 0, 1, 3, 0, 65535, "", "Measurement, set-point, feed-forward node"⟩,
   ⟨0x6010, 0x601F, 0x4, 0x4, 3, 1, 4, 0, 1, 3, 0, 65535, "", "Measurement, set-point, feed-forward node"⟩,
   ⟨0x6010, 0x601F, 0x5, 0x5, 8, 1, 4, 0, 1, 3, -2147483648, 2147483647, "", "Set-point value"⟩,
   ⟨0x6010, 0x601F, 0x6, 0x6, 8, 1, 4, 0, 1, 3, -2147483648, 2147483647, "", "kp, sp"⟩,
   ⟨0x6010, 0x601F, 0x7, 0x7, 2, 1, 4, 0, 1, 3, 0, 255, "", "kp, sp"⟩,
   ⟨0x6010, 0x601F, 0x8, 0x8, 8, 1, 4, 0, 1, 3, -2147483648, 2147483647, "", "ki, si"⟩,
   ⟨0x6010, 0x601F, 0x9, 0x9, 2, 1, 4, 0, 1, 3, 0, 47, "", "ki, si"⟩,
   ⟨0x6010, 0x601F, 0xA, 0xA, 8, 1, 4, 0, 1, 3, -2147483648, 2147483647, "", "kd, sd, kf, sf"⟩,
   ⟨0x6010, 0x601F, 0xB, 0xB, 2, 1, 4, 0, 1, 3, 0, 255, "", "kd, sd, kf, sf"⟩,
   ⟨0x6010, 0x601F, 0xC, 0xC, 8, 1, 4, 0, 1, 3, -2147483648, 2147483647, "", "kd, sd, kf, sf"⟩]

/-- Rows 441 to 480. -/
def catalogPart11 : List ObjDesc :=
  [⟨0x6010, 0x601F, 0xD, 0xD, 2, 1, 4, 0, 1, 3, 0, 255, "", "kd, sd, kf, sf"⟩,
   ⟨0x6010, 0x601F, 0xE, 0xE, 8, 1, 4, 1, 1, 3, -2147483648, 2147483647, "", "kt, st"⟩,
   ⟨0x6010, 0x601F, 0xF, 0xF, 2, 1, 4, 0, 1, 3, 0, 255, "", "kt, st"⟩,
   ⟨0x6010, 0x601F, 0x10, 0x10, 8, 1, 4, 0, 1, 3, -2147483648, 2147483647, "", "Output minimum, maximum"⟩,
   ⟨0x6010, 0x601F, 0x11, 0x11, 8, 1, 4, 0, 1, 3, -2147483648, 2147483647, "", "Output minimum, maximum"⟩,
   ⟨0x6010, 0x601F, 0x12, 0x12, 3, 1, 4, 1, 1, 3, 1, 1000, "Cycles", "Period"⟩,
   ⟨0x6010, 0x601F, 0x14, 0x14, 8, 1, 2, 0, 0, 2, -2147483648, 2147483647, "", "Manual output"⟩,
   ⟨0x6010, 0x601F, 0x15, 0x15, 4, 1, 4, 0, 1, 3, 0, 4294967295, "", "Mode-change rate"⟩,
   ⟨0x6010, 0x601F, 0x20, 0x20, 8, 0, 0, 0, 0, 2, -2147483648, 2147483647, "", "e, u, int(i), y_app"⟩,
   ⟨0x6010, 0x601F, 0x21, 0x21, 8, 0, 0, 0, 0, 2, -2147483648, 2147483647, "", "e, u, int(i), y_app"⟩,
   ⟨0x6010, 0x601F, 0x22, 0x22, 8, 0, 0, 0, 0, 2, -2147483648, 2147483647, "", "e, u, int(i), y_app"⟩,
   ⟨0x6010, 0x601F, 0x23, 0x23, 8, 0, 0, 0, 0, 2, -2147483648, 2147483647, "", "e, u, int(i), y_app"⟩,
   ⟨0x6010, 0x601F, 0x24, 0x24, 4, 0, 0, 0, 0, 2, 0, 4294967295, "", "Saturations"⟩,
   ⟨0x6200, 0x6200, 0x1, 0x1, 4, 1, 4, 5000, 1, 2, 10, 200000, "mA per cycle", "Rate limit R"⟩,
   ⟨0x6200, 0x6200, 0x2, 0x2, 4, 1, 4, 500, 1, 2, 10, 200000, "mA", "Acceleration limit A"⟩,
   ⟨0x6200, 0x6200, 0x3, 0x3, 4, 1, 4, 100, 1, 2, 1, 4294967295, "mA", "Jerk limit J"⟩,
   ⟨0x6200, 0x6200, 0x4, 0x4, 2, 0, 0, 10, 0, 2, 0, 255, "", "Average length n"⟩,
   ⟨0x6200, 0x6200, 0x5, 0x5, 8, 0, 0, 0, 0, 2, -2147483648, 2147483647, "mA per cycle", "Output rate, acceleration, inner set-point"⟩,
   ⟨0x6200, 0x6200, 0x6, 0x6, 8, 0, 0, 0, 0, 2, -2147483648, 2147483647, "mA per cycle", "Output rate, acceleration, inner set-point"⟩,
   ⟨0x6200, 0x6200, 0x7, 0x7, 8, 0, 0, 0, 0, 2, -2147483648, 2147483647, "mA per cycle", "Output rate, acceleration, inner set-point"⟩,
   ⟨0x6300, 0x6300, 0x1, 0x1, 4, 0, 0, 0, 0, 2, 0, 4294967295, "", "Frames sent"⟩,
   ⟨0x6300, 0x6300, 0x2, 0x2, 1, 1, 5, 0, 1, 2, 0, 1, "", "Duplicate on CAN-B"⟩,
   ⟨0x6300, 0x6300, 0x3, 0x3, 4, 0, 0, 0, 0, 2, 0, 4294967295, "", "Frames not sent"⟩,
   ⟨0x6300, 0x6300, 0x4, 0x4, 13, 0, 0, 0, 0, 2, 0, 0, "", "Last frame"⟩,
   ⟨0x6400, 0x6403, 0x1, 0x1, 3, 1, 4, 0, 0, 0, 0, 65535, "", "Channel nodes"⟩,
   ⟨0x6400, 0x6403, 0x2, 0x2, 3, 1, 4, 0, 0, 0, 0, 65535, "", "Channel nodes"⟩,
   ⟨0x6400, 0x6403, 0x3, 0x3, 3, 1, 4, 0, 0, 0, 0, 65535, "", "Channel nodes"⟩,
   ⟨0x6400, 0x6403, 0x4, 0x4, 3, 1, 4, 0, 0, 0, 0, 65535, "", "Channel nodes"⟩,
   ⟨0x6400, 0x6403, 0x5, 0x5, 3, 1, 4, 0, 0, 0, 0, 65535, "", "Channel nodes"⟩,
   ⟨0x6400, 0x6403, 0x6, 0x6, 3, 1, 4, 0, 0, 0, 0, 65535, "", "Channel nodes"⟩,
   ⟨0x6400, 0x6403, 0x7, 0x7, 3, 1, 4, 0, 0, 0, 0, 65535, "", "Channel nodes"⟩,
   ⟨0x6400, 0x6403, 0x8, 0x8, 3, 1, 4, 0, 0, 0, 0, 65535, "", "Channel nodes"⟩,
   ⟨0x6400, 0x6403, 0x9, 0x9, 3, 1, 4, 1, 0, 0, 1, 1000, "Cycles", "Sample period"⟩,
   ⟨0x6400, 0x6403, 0xA, 0xA, 13, 1, 4, 0, 0, 0, 0, 0, "", "Trigger"⟩,
   ⟨0x6400, 0x6403, 0xB, 0xB, 3, 1, 4, 512, 0, 0, 0, 2047, "", "Pre-trigger samples"⟩,
   ⟨0x6400, 0x6403, 0xC, 0xC, 2, 2, 4, 0, 0, 0, 0, 3, "", "Arm"⟩,
   ⟨0x6400, 0x6403, 0xD, 0xD, 2, 0, 0, 0, 0, 0, 0, 255, "", "Buffer state"⟩,
   ⟨0x6400, 0x6403, 0xE, 0xE, 13, 0, 0, 0, 0, 0, 0, 0, "", "Capture"⟩,
   ⟨0x6400, 0x6403, 0xF, 0xF, 4, 0, 0, 0, 0, 0, 0, 4294967295, "", "Missed triggers"⟩,
   ⟨0x6400, 0x6403, 0x10, 0x10, 13, 0, 0, 0, 0, 0, 0, 0, "", "Capture header"⟩]

/-- Rows 481 to 520. -/
def catalogPart12 : List ObjDesc :=
  [⟨0x6800, 0x6800, 0x1, 0x1, 1, 1, 4, 1, 1, 2, 0, 1, "", "Canopy enable"⟩,
   ⟨0x6800, 0x6800, 0x2, 0x2, 2, 0, 0, 0, 0, 2, 0, 255, "", "Canopy mode"⟩,
   ⟨0x6800, 0x6800, 0x3, 0x3, 7, 1, 4, 3000, 1, 2, -32768, 32767, "0.01 °C", "Heater inhibit temperature"⟩,
   ⟨0x6800, 0x6800, 0x4, 0x4, 7, 1, 4, 800, 1, 2, -32768, 32767, "0.01 °C", "Heat on, heat off"⟩,
   ⟨0x6800, 0x6800, 0x5, 0x5, 7, 1, 4, 1200, 1, 2, -32768, 32767, "0.01 °C", "Heat on, heat off"⟩,
   ⟨0x6800, 0x6800, 0x6, 0x6, 3, 1, 4, 10, 1, 2, 1, 600, "s", "Fail-safe delay"⟩,
   ⟨0x6800, 0x6800, 0x7, 0x7, 7, 0, 0, 0, 0, 2, -32768, 32767, "0.01 °C", "Hottest, coldest, mean, spread"⟩,
   ⟨0x6800, 0x6800, 0x8, 0x8, 7, 0, 0, 0, 0, 2, -32768, 32767, "0.01 °C", "Hottest, coldest, mean, spread"⟩,
   ⟨0x6800, 0x6800, 0x9, 0x9, 7, 0, 0, 0, 0, 2, -32768, 32767, "0.01 °C", "Hottest, coldest, mean, spread"⟩,
   ⟨0x6800, 0x6800, 0xA, 0xA, 7, 0, 0, 0, 0, 2, -32768, 32767, "0.01 °C", "Hottest, coldest, mean, spread"⟩,
   ⟨0x6800, 0x6800, 0xB, 0xB, 3, 0, 0, 0, 0, 2, 0, 65535, "Count", "Good cell points"⟩,
   ⟨0x6810, 0x682F, 0x1, 0x1, 3, 1, 4, 65535, 1, 3, 0, 65535, "", "Point"⟩,
   ⟨0x6810, 0x682F, 0x2, 0x2, 2, 1, 4, 0, 1, 3, 0, 1, "", "Sense"⟩,
   ⟨0x6810, 0x682F, 0x3, 0x3, 8, 1, 4, 0, 1, 3, -2147483648, 2147483647, "0.01 unit", "Level"⟩,
   ⟨0x6810, 0x682F, 0x4, 0x4, 3, 1, 4, 100, 1, 3, 0, 65535, "0.01 unit", "Hysteresis"⟩,
   ⟨0x6810, 0x682F, 0x5, 0x5, 3, 1, 4, 1000, 1, 3, 0, 60000, "ms", "Entry, exit dwell"⟩,
   ⟨0x6810, 0x682F, 0x6, 0x6, 3, 1, 4, 5000, 1, 3, 0, 60000, "ms", "Entry, exit dwell"⟩,
   ⟨0x6810, 0x682F, 0x7, 0x7, 2, 1, 4, 2, 1, 3, 0, 4, "", "Severity"⟩,
   ⟨0x6810, 0x682F, 0x8, 0x8, 2, 1, 4, 0, 1, 3, 0, 15, "", "Action mask"⟩,
   ⟨0x6810, 0x682F, 0x9, 0x9, 2, 0, 0, 0, 0, 2, 0, 255, "", "State"⟩,
   ⟨0x6810, 0x682F, 0xA, 0xA, 4, 0, 0, 0, 1, 2, 0, 4294967295, "", "Activations"⟩,
   ⟨0x6840, 0x6845, 0x1, 0x1, 3, 1, 4, 0, 1, 2, 0, 65535, "", "Output source node"⟩,
   ⟨0x6840, 0x6845, 0x2, 0x2, 3, 1, 4, 100, 1, 2, 0, 65535, "Hz", "Output frequency"⟩,
   ⟨0x6840, 0x6845, 0x3, 0x3, 3, 1, 5, 0, 1, 2, 0, 65535, "‰", "Fire duty"⟩,
   ⟨0x6840, 0x6845, 0x4, 0x4, 3, 0, 0, 0, 0, 2, 0, 65535, "‰", "Duty in force"⟩,
   ⟨0x6860, 0x6863, 0x1, 0x1, 2, 4, 4, 0, 1, 3, 0, 4, "", "Mode"⟩,
   ⟨0x6860, 0x6863, 0x2, 0x2, 3, 1, 4, 0, 1, 3, 0, 65535, "", "Target node"⟩,
   ⟨0x6860, 0x6863, 0x3, 0x3, 3, 1, 4, 1000, 1, 2, 100, 2000, "mA", "Run current"⟩,
   ⟨0x6860, 0x6863, 0x4, 0x4, 3, 1, 4, 300, 1, 2, 0, 1000, "‰", "Standstill fraction"⟩,
   ⟨0x6860, 0x6863, 0x5, 0x5, 3, 1, 4, 200, 1, 2, 10, 10000, "ms", "Standstill delay"⟩,
   ⟨0x6860, 0x6863, 0x6, 0x6, 3, 4, 4, 256, 1, 2, 1, 256, "", "Microstep divisor"⟩,
   ⟨0x6860, 0x6863, 0x7, 0x7, 4, 1, 4, 51200, 1, 2, 0, 4294967295, "µsteps/s", "v_max"⟩,
   ⟨0x6860, 0x6863, 0x8, 0x8, 4, 1, 4, 102400, 1, 2, 0, 4294967295, "µsteps/s²", "a_max"⟩,
   ⟨0x6860, 0x6863, 0x9, 0x9, 4, 1, 4, 409600, 1, 2, 0, 4294967295, "µsteps/s²", "a_stop"⟩,
   ⟨0x6860, 0x6863, 0xA, 0xA, 3, 4, 4, 0, 1, 2, 0, 65535, "", "Encoder counts per revolution"⟩,
   ⟨0x6860, 0x6863, 0xB, 0xB, 4, 4, 4, 51200, 1, 2, 0, 4294967295, "", "Microsteps per revolution"⟩,
   ⟨0x6860, 0x6863, 0xC, 0xC, 4, 1, 4, 1024, 1, 2, 0, 4294967295, "µsteps", "Step-loss window"⟩,
   ⟨0x6860, 0x6863, 0xD, 0xD, 3, 1, 4, 100, 1, 2, 20, 500, "mA", "Chopper band"⟩,
   ⟨0x6860, 0x6863, 0xE, 0xE, 3, 1, 4, 100, 1, 2, 20, 500, "0.1 µs", "Fall-back off-time"⟩,
   ⟨0x6860, 0x6863, 0xF, 0xF, 2, 1, 4, 30, 1, 2, 0, 100, "%", "Fast-decay fraction"⟩]

/-- Rows 521 to 560. -/
def catalogPart13 : List ObjDesc :=
  [⟨0x6860, 0x6863, 0x10, 0x10, 1, 2, 4, 0, 0, 2, 0, 1, "", "Chopper restore"⟩,
   ⟨0x6860, 0x6863, 0x11, 0x11, 4, 1, 4, 51200, 1, 2, 0, 4294967295, "µsteps", "Table span"⟩,
   ⟨0x6860, 0x6863, 0x12, 0x12, 1, 4, 4, 0, 1, 2, 0, 1, "", "Direction invert"⟩,
   ⟨0x6860, 0x6863, 0x13, 0x13, 8, 1, 5, -2147483648, 1, 2, -2147483648, 2147483647, "µsteps", "Fire target"⟩,
   ⟨0x6870, 0x6873, 0x1, 0x1, 2, 0, 0, 0, 0, 2, 0, 255, "", "Axis state"⟩,
   ⟨0x6870, 0x6873, 0x2, 0x2, 8, 0, 0, 0, 0, 2, -2147483648, 2147483647, "µsteps", "Position, target, velocity, encoder position"⟩,
   ⟨0x6870, 0x6873, 0x3, 0x3, 8, 0, 0, 0, 0, 2, -2147483648, 2147483647, "µsteps", "Position, target, velocity, encoder position"⟩,
   ⟨0x6870, 0x6873, 0x4, 0x4, 8, 0, 0, 0, 0, 2, -2147483648, 2147483647, "µsteps", "Position, target, velocity, encoder position"⟩,
   ⟨0x6870, 0x6873, 0x5, 0x5, 8, 0, 0, 0, 0, 2, -2147483648, 2147483647, "µsteps", "Position, target, velocity, encoder position"⟩,
   ⟨0x6870, 0x6873, 0x6, 0x6, 2, 0, 0, 0, 0, 2, 0, 255, "", "Chopper in force"⟩,
   ⟨0x6870, 0x6873, 0x7, 0x7, 8, 1, 2, 0, 0, 2, -2147483648, 2147483647, "µsteps", "Manual target"⟩,
   ⟨0x6870, 0x6873, 0x8, 0x8, 7, 0, 0, 0, 0, 2, -32768, 32767, "mA", "Adaptive offset"⟩,
   ⟨0x6870, 0x6873, 0x9, 0x9, 2, 0, 0, 0, 0, 2, 0, 255, "", "Switch inputs"⟩,
   ⟨0x6870, 0x6873, 0xA, 0xA, 4, 0, 0, 0, 1, 2, 0, 4294967295, "", "Step-loss events"⟩,
   ⟨0x6880, 0x6883, 0x1, 0x1, 2, 1, 4, 1, 1, 2, 0, 1, "", "Search direction"⟩,
   ⟨0x6880, 0x6883, 0x2, 0x2, 4, 1, 4, 12800, 1, 2, 0, 4294967295, "µsteps/s", "v_home"⟩,
   ⟨0x6880, 0x6883, 0x3, 0x3, 4, 1, 4, 6400, 1, 2, 0, 4294967295, "µsteps", "Back-off distance"⟩,
   ⟨0x6880, 0x6883, 0x4, 0x4, 8, 1, 4, 0, 1, 2, -2147483648, 2147483647, "µsteps", "Home offset"⟩,
   ⟨0x6880, 0x6883, 0x5, 0x5, 4, 1, 4, 2000000, 1, 2, 0, 4294967295, "µsteps", "Maximum travel"⟩,
   ⟨0x6880, 0x6883, 0x6, 0x6, 1, 1, 4, 0, 1, 2, 0, 1, "", "Auto-home at BOOT"⟩,
   ⟨0x6880, 0x6883, 0x7, 0x7, 1, 2, 4, 0, 0, 2, 0, 1, "", "Home request"⟩,
   ⟨0x6880, 0x6883, 0x8, 0x8, 2, 0, 0, 0, 0, 2, 0, 255, "", "Homing result"⟩,
   ⟨0x6890, 0x6893, 0x1, 0x1, 2, 4, 4, 1, 1, 3, 1, 4, "", "Master axis"⟩,
   ⟨0x6890, 0x6893, 0x2, 0x2, 8, 1, 4, -64, 1, 3, -2147483648, 2147483647, "", "Base ratio"⟩,
   ⟨0x6890, 0x6893, 0x3, 0x3, 4, 1, 4, 5, 1, 3, 0, 4294967295, "", "Base ratio"⟩,
   ⟨0x6890, 0x6893, 0x4, 0x4, 2, 1, 4, 0, 1, 3, 0, 8, "", "Breakpoint count"⟩,
   ⟨0x6890, 0x6893, 0x5, 0x5, 13, 1, 4, 0, 1, 3, 0, 0, "", "Breakpoints"⟩,
   ⟨0x6890, 0x6893, 0x6, 0x6, 4, 1, 4, 2048, 1, 2, 0, 4294967295, "µsteps", "Follow window"⟩,
   ⟨0x6890, 0x6893, 0x7, 0x7, 8, 0, 0, 0, 0, 2, -2147483648, 2147483647, "µsteps", "Follow lag"⟩,
   ⟨0x68A0, 0x68A3, 0x1, 0x1, 16, 1, 4, 0, 1, 3, 0, 0, "", "Friction and cogging table"⟩,
   ⟨0x68B0, 0x68B0, 0x1, 0x1, 2, 2, 2, 0, 0, 2, 0, 2, "", "Disconnector command"⟩,
   ⟨0x68B0, 0x68B0, 0x2, 0x2, 2, 0, 0, 0, 0, 2, 0, 255, "", "Disconnector state"⟩,
   ⟨0x68B0, 0x68B0, 0x3, 0x3, 3, 1, 4, 10000, 1, 2, 1000, 60000, "ms", "Travel time-out"⟩,
   ⟨0x68B0, 0x68B0, 0x4, 0x4, 4, 0, 0, 0, 1, 2, 0, 4294967295, "", "Operations"⟩,
   ⟨0x7001, 0x7002, 0x1, 0x1, 13, 0, 0, 0, 1, 0, 0, 0, "", "MAC address"⟩,
   ⟨0x7001, 0x7002, 0x2, 0x2, 4, 4, 5, 0, 1, 0, 0, 4294967295, "", "IPv4 address, prefix, gateway"⟩,
   ⟨0x7001, 0x7002, 0x3, 0x3, 2, 4, 5, 0, 1, 0, 0, 32, "", "IPv4 address, prefix, gateway"⟩,
   ⟨0x7001, 0x7002, 0x4, 0x4, 4, 4, 5, 0, 1, 0, 0, 4294967295, "", "IPv4 address, prefix, gateway"⟩,
   ⟨0x7001, 0x7002, 0x5, 0x5, 2, 0, 0, 0, 0, 0, 0, 255, "", "Link state"⟩,
   ⟨0x7001, 0x7002, 0x6, 0x6, 2, 4, 4, 0, 1, 0, 0, 2, "", "Forced speed"⟩]

/-- Rows 561 to 600. -/
def catalogPart14 : List ObjDesc :=
  [⟨0x7001, 0x7002, 0x7, 0x7, 3, 4, 5, 0, 1, 0, 0, 4094, "", "VLAN identifier"⟩,
   ⟨0x7001, 0x7002, 0x8, 0x8, 1, 4, 5, 1, 1, 0, 0, 1, "", "Accept untagged"⟩,
   ⟨0x7001, 0x7002, 0x9, 0x9, 2, 1, 4, 5, 1, 0, 0, 7, "", "PCP TLS, PCP fast channel"⟩,
   ⟨0x7001, 0x7002, 0xA, 0xA, 2, 1, 4, 6, 1, 0, 0, 7, "", "PCP TLS, PCP fast channel"⟩,
   ⟨0x7001, 0x7002, 0xB, 0xB, 4, 0, 0, 0, 0, 0, 0, 4294967295, "", "Frames discarded"⟩,
   ⟨0x7010, 0x7010, 0x1, 0x1, 1, 4, 5, 0, 1, 0, 0, 1, "", "PRP enable"⟩,
   ⟨0x7010, 0x7010, 0x2, 0x2, 3, 1, 5, 400, 1, 0, 100, 1000, "ms", "Entry forget time"⟩,
   ⟨0x7010, 0x7010, 0x3, 0x3, 4, 0, 0, 0, 0, 0, 0, 4294967295, "", "Duplicates discarded; wrong-LAN A; wrong-LAN B"⟩,
   ⟨0x7010, 0x7010, 0x4, 0x4, 4, 0, 0, 0, 0, 0, 0, 4294967295, "", "Duplicates discarded; wrong-LAN A; wrong-LAN B"⟩,
   ⟨0x7010, 0x7010, 0x5, 0x5, 4, 0, 0, 0, 0, 0, 0, 4294967295, "", "Duplicates discarded; wrong-LAN A; wrong-LAN B"⟩,
   ⟨0x7100, 0x7100, 0x1, 0x1, 2, 1, 5, 0, 1, 0, 0, 2, "", "Time source"⟩,
   ⟨0x7100, 0x7100, 0x2, 0x2, 2, 0, 0, 0, 0, 0, 0, 255, "", "Clock state"⟩,
   ⟨0x7100, 0x7100, 0x3, 0x3, 14, 1, 4, 0, 0, 0, 0, 0, "", "Local time"⟩,
   ⟨0x7100, 0x7100, 0x4, 0x4, 8, 0, 0, 0, 0, 0, -2147483648, 2147483647, "ns", "Offset"⟩,
   ⟨0x7100, 0x7100, 0x5, 0x5, 8, 0, 0, 0, 1, 0, -2147483648, 2147483647, "ppb", "Rate adjustment"⟩,
   ⟨0x7100, 0x7100, 0x6, 0x6, 4, 1, 5, 100000, 1, 0, 10000, 1000000, "ns", "Step threshold"⟩,
   ⟨0x7100, 0x7100, 0x7, 0x7, 2, 1, 5, 0, 1, 0, 0, 255, "", "Domain, priority1, priority2"⟩,
   ⟨0x7100, 0x7100, 0x8, 0x8, 2, 1, 5, 128, 1, 0, 0, 255, "", "Domain, priority1, priority2"⟩,
   ⟨0x7100, 0x7100, 0x9, 0x9, 2, 1, 5, 128, 1, 0, 0, 255, "", "Domain, priority1, priority2"⟩,
   ⟨0x7100, 0x7100, 0xA, 0xA, 1, 1, 5, 0, 1, 0, 0, 1, "", "Master-capable"⟩,
   ⟨0x7100, 0x7100, 0xB, 0xB, 3, 1, 5, 20, 1, 0, 1, 600, "s", "Holdover time"⟩,
   ⟨0x7100, 0x7100, 0xC, 0xC, 4, 0, 0, 0, 1, 0, 0, 4294967295, "", "Steps"⟩,
   ⟨0x7100, 0x7100, 0xD, 0xD, 2, 0, 0, 255, 0, 0, 0, 255, "", "Followed port"⟩,
   ⟨0x7100, 0x7100, 0x10, 0x10, 2, 1, 5, 4, 1, 0, 0, 7, "", "PCP PTP"⟩,
   ⟨0x7110, 0x7110, 0x1, 0x1, 15, 0, 0, 0, 0, 0, 0, 4294967295, "", "Published cycle, time of its t0"⟩,
   ⟨0x7110, 0x7110, 0x2, 0x2, 14, 0, 0, 0, 0, 0, 0, 0, "", "Published cycle, time of its t0"⟩,
   ⟨0x7110, 0x7110, 0x3, 0x3, 8, 0, 0, 0, 0, 0, -2147483648, 2147483647, "ns", "Phase error e"⟩,
   ⟨0x7110, 0x7110, 0x4, 0x4, 1, 0, 0, 0, 0, 0, 0, 1, "", "Aligned"⟩,
   ⟨0x7110, 0x7110, 0x5, 0x5, 13, 0, 0, 0, 0, 0, 0, 0, "", "Relation record"⟩,
   ⟨0x7120, 0x7120, 0x2, 0x2, 2, 0, 0, 0, 0, 0, 0, 16, "", "Q26 occupancy"⟩,
   ⟨0x7120, 0x7120, 0x3, 0x3, 1, 3, 4, 0, 0, 0, 0, 1, "", "Q26 overflow"⟩,
   ⟨0x7120, 0x7120, 0x4, 0x4, 2, 0, 0, 0, 0, 8, 0, 255, "", "Overflow occurrences"⟩,
   ⟨0x7120, 0x7120, 0x5, 0x5, 4, 0, 0, 0, 0, 0, 0, 4294967295, "", "Time stamps discarded"⟩,
   ⟨0x7130, 0x7133, 0x1, 0x1, 2, 1, 4, 0, 1, 0, 0, 3, "", "Pulse mode"⟩,
   ⟨0x7130, 0x7133, 0x2, 0x2, 14, 1, 4, 0, 1, 0, 0, 0, "ns", "Start, period, width"⟩,
   ⟨0x7130, 0x7133, 0x3, 0x3, 4, 1, 4, 0, 1, 0, 0, 10000000000, "ns", "Start, period, width"⟩,
   ⟨0x7130, 0x7133, 0x4, 0x4, 4, 1, 4, 0, 1, 0, 0, 4294967295, "ns", "Start, period, width"⟩,
   ⟨0x7130, 0x7133, 0x5, 0x5, 2, 1, 4, 0, 1, 0, 0, 1, "", "Polarity, cycle divisor N"⟩,
   ⟨0x7130, 0x7133, 0x6, 0x6, 3, 1, 4, 1, 1, 0, 1, 65535, "", "Polarity, cycle divisor N"⟩,
   ⟨0x7130, 0x7133, 0x7, 0x7, 4, 0, 0, 0, 0, 0, 0, 4294967295, "", "Late edges"⟩]

/-- Rows 601 to 640. -/
def catalogPart15 : List ObjDesc :=
  [⟨0x7200, 0x7201, 0x1, 0x1, 2, 4, 4, 1, 1, 0, 0, 2, "", "Controller mode"⟩,
   ⟨0x7200, 0x7201, 0x2, 0x2, 3, 4, 4, 500, 1, 0, 0, 65535, "kbit/s", "Arbitration rate, data rate"⟩,
   ⟨0x7200, 0x7201, 0x3, 0x3, 3, 4, 4, 2000, 1, 0, 0, 65535, "kbit/s", "Arbitration rate, data rate"⟩,
   ⟨0x7200, 0x7201, 0x4, 0x4, 2, 4, 4, 80, 1, 0, 0, 255, "%", "Sample points"⟩,
   ⟨0x7200, 0x7201, 0x5, 0x5, 2, 4, 4, 75, 1, 0, 0, 255, "%", "Sample points"⟩,
   ⟨0x7200, 0x7201, 0x6, 0x6, 2, 0, 0, 0, 0, 0, 0, 255, "", "Error state"⟩,
   ⟨0x7200, 0x7201, 0x7, 0x7, 3, 0, 0, 0, 0, 0, 0, 65535, "", "Transmit and receive error counters"⟩,
   ⟨0x7200, 0x7201, 0x8, 0x8, 3, 0, 0, 0, 0, 0, 0, 65535, "", "Transmit and receive error counters"⟩,
   ⟨0x7200, 0x7201, 0x9, 0x9, 1, 2, 4, 0, 0, 0, 0, 1, "", "Bus-off recovery"⟩,
   ⟨0x7200, 0x7201, 0xA, 0xA, 3, 1, 4, 100, 1, 0, 0, 10000, "ms", "Recovery delay"⟩,
   ⟨0x7200, 0x7201, 0xB, 0xB, 3, 0, 0, 0, 0, 0, 0, 65535, "", "Consecutive acknowledge errors"⟩,
   ⟨0x7200, 0x7201, 0xC, 0xC, 1, 0, 0, 0, 0, 0, 0, 1, "", "No acknowledge"⟩,
   ⟨0x7200, 0x7201, 0xD, 0xD, 4, 0, 0, 0, 1, 0, 0, 4294967295, "", "Bus-off events"⟩,
   ⟨0x7200, 0x7201, 0xE, 0xE, 1, 4, 4, 0, 1, 0, 0, 1, "", "Termination"⟩,
   ⟨0x7200, 0x7201, 0xF, 0xF, 2, 4, 4, 0, 1, 0, 0, 255, "", "Secondary sample point offset"⟩,
   ⟨0x7200, 0x7201, 0x10, 0x10, 3, 4, 5, 128, 1, 0, 0, 2040, "", "Base identifier"⟩,
   ⟨0x7210, 0x728F, 0x1, 0x1, 2, 4, 4, 0, 1, 0, 0, 2, "", "Enable and direction"⟩,
   ⟨0x7290, 0x730F, 0x1, 0x1, 2, 4, 4, 0, 1, 0, 0, 2, "", "Enable and direction"⟩,
   ⟨0x1000, 0x1000, 0x1, 0x1, 12, 0, 0, 0, 0, 0, 0, 0, "", "Vendor"⟩,
   ⟨0x1000, 0x1000, 0x2, 0x2, 12, 0, 0, 0, 0, 0, 0, 0, "", "Product"⟩,
   ⟨0x1000, 0x1000, 0x3, 0x3, 12, 0, 0, 0, 1, 0, 0, 0, "", "Order code"⟩,
   ⟨0x1000, 0x1000, 0x4, 0x4, 5, 0, 0, 0, 1, 0, 0, 18446744073709551615, "", "Serial number"⟩,
   ⟨0x1000, 0x1000, 0x5, 0x5, 3, 0, 0, 0, 1, 0, 0, 65535, "", "Hardware issue"⟩,
   ⟨0x1000, 0x1000, 0x6, 0x6, 2, 0, 0, 0, 0, 0, 0, 255, "", "Unit strap"⟩,
   ⟨0x1000, 0x1000, 0x7, 0x7, 3, 0, 0, 1, 0, 0, 0, 65535, "", "Dictionary format"⟩,
   ⟨0x1001, 0x1001, 0x1, 0x1, 2, 0, 0, 0, 0, 2, 0, 255, "", "Operating state"⟩,
   ⟨0x1001, 0x1001, 0x2, 0x2, 15, 0, 0, 0, 0, 2, 0, 4294967295, "", "State entered"⟩,
   ⟨0x1001, 0x1001, 0x3, 0x3, 15, 0, 0, 0, 0, 2, 0, 4294967295, "", "Present cycle"⟩,
   ⟨0x1010, 0x1010, 0x1, 0x1, 3, 0, 0, 0, 0, 0, 0, 65535, "", "Sessions open"⟩,
   ⟨0x1010, 0x1010, 0x2, 0x2, 2, 0, 0, 0, 0, 0, 0, 255, "", "Contexts in use: TLS, fast, CAN"⟩,
   ⟨0x1010, 0x1010, 0x3, 0x3, 2, 0, 0, 0, 0, 0, 0, 255, "", "Contexts in use: TLS, fast, CAN"⟩,
   ⟨0x1010, 0x1010, 0x4, 0x4, 2, 0, 0, 0, 0, 0, 0, 255, "", "Contexts in use: TLS, fast, CAN"⟩,
   ⟨0x1010, 0x1010, 0x5, 0x5, 3, 1, 5, 60, 1, 0, 0, 600, "s", "Dormant window"⟩,
   ⟨0x1010, 0x1010, 0x6, 0x6, 2, 1, 5, 8, 1, 0, 1, 32, "", "Sessions per identity"⟩,
   ⟨0x1010, 0x1010, 0x7, 0x7, 3, 0, 0, 0, 0, 0, 0, 65535, "‰", "Engine load"⟩,
   ⟨0x1010, 0x1010, 0x8, 0x8, 4, 0, 0, 0, 0, 0, 0, 4294967295, "", "Contexts refused"⟩,
   ⟨0x1010, 0x1010, 0x9, 0x9, 4, 0, 0, 0, 0, 0, 0, 4294967295, "µs", "Longest round"⟩,
   ⟨0x1020, 0x1020, 0x1, 0x1, 3, 0, 0, 0, 0, 0, 0, 65535, "", "Own session"⟩,
   ⟨0x1020, 0x1020, 0x2, 0x2, 2, 0, 0, 0, 0, 0, 0, 255, "", "Own roles"⟩,
   ⟨0x1020, 0x1020, 0x3, 0x3, 13, 0, 0, 0, 0, 0, 0, 0, "", "Own identity"⟩]

/-- Rows 641 to 680. -/
def catalogPart16 : List ObjDesc :=
  [⟨0x1100, 0x11FF, 0x1, 0x1, 2, 0, 0, 0, 0, 4, 0, 255, "", "Session state"⟩,
   ⟨0x1100, 0x11FF, 0x2, 0x2, 2, 0, 0, 0, 0, 4, 0, 255, "", "Transport"⟩,
   ⟨0x1100, 0x11FF, 0x3, 0x3, 2, 0, 0, 0, 0, 4, 0, 255, "", "Roles"⟩,
   ⟨0x1100, 0x11FF, 0x4, 0x4, 13, 0, 0, 0, 0, 4, 0, 0, "", "Identity"⟩,
   ⟨0x1100, 0x11FF, 0x5, 0x5, 2, 0, 0, 0, 0, 0, 0, 255, "", "Weight"⟩,
   ⟨0x1100, 0x11FF, 0x6, 0x6, 4, 0, 0, 0, 0, 0, 0, 4294967295, "Bytes", "Deficit"⟩,
   ⟨0x1100, 0x11FF, 0x7, 0x7, 5, 0, 0, 0, 0, 0, 0, 18446744073709551615, "", "Bytes served"⟩,
   ⟨0x1100, 0x11FF, 0x8, 0x8, 4, 0, 0, 0, 0, 0, 0, 4294967295, "", "Requests served"⟩,
   ⟨0x1100, 0x11FF, 0x9, 0x9, 4, 0, 0, 0, 0, 0, 0, 4294967295, "", "Requests refused"⟩,
   ⟨0x1100, 0x11FF, 0xA, 0xA, 2, 0, 0, 0, 0, 0, 0, 8, "", "Subscriptions"⟩,
   ⟨0x1100, 0x11FF, 0xB, 0xB, 3, 0, 0, 0, 0, 0, 0, 65535, "s", "Dormant remaining"⟩,
   ⟨0x1100, 0x11FF, 0xC, 0xC, 1, 2, 5, 0, 0, 0, 0, 1, "", "End session"⟩,
   ⟨0x1100, 0x11FF, 0xD, 0xD, 4, 0, 0, 0, 0, 0, 0, 4294967295, "", "Notification overruns"⟩,
   ⟨0x1100, 0x11FF, 0xE, 0xE, 4, 0, 0, 0, 0, 0, 0, 4294967295, "", "Deadline misses"⟩,
   ⟨0x7800, 0x7800, 0x1, 0x1, 2, 0, 0, 0, 1, 0, 0, 255, "", "Adoption state"⟩,
   ⟨0x7800, 0x7800, 0x2, 0x2, 13, 0, 0, 0, 1, 0, 0, 0, "", "Device certificate"⟩,
   ⟨0x7800, 0x7800, 0x3, 0x3, 13, 0, 0, 0, 1, 0, 0, 0, "", "Vendor intermediate"⟩,
   ⟨0x7800, 0x7800, 0x4, 0x4, 13, 0, 0, 0, 1, 0, 0, 0, "", "String identifier"⟩,
   ⟨0x7800, 0x7800, 0x5, 0x5, 2, 0, 0, 0, 1, 0, 0, 255, "", "Adoption failures"⟩,
   ⟨0x7800, 0x7800, 0x6, 0x6, 3, 0, 0, 0, 0, 0, 0, 65535, "s", "Adoption wait remaining"⟩,
   ⟨0x7801, 0x7801, 0x1, 0x1, 16, 2, 1, 0, 1, 0, 0, 0, "", "Adoption request"⟩,
   ⟨0x7801, 0x7801, 0x2, 0x2, 1, 2, 5, 0, 0, 0, 0, 1, "", "De-adopt"⟩,
   ⟨0x7802, 0x7805, 0x1, 0x1, 13, 4, 5, 0, 1, 2, 0, 0, "", "Trust anchor"⟩,
   ⟨0x7802, 0x7805, 0x2, 0x2, 2, 4, 5, 0, 1, 2, 0, 255, "", "Permitted roles"⟩,
   ⟨0x7806, 0x7806, 0x1, 0x1, 13, 0, 0, 0, 1, 2, 0, 0, "", "Envelope verify key"⟩,
   ⟨0x7808, 0x7808, 0x1, 0x1, 13, 1, 5, 0, 1, 2, 0, 0, "", "Denial list"⟩,
   ⟨0x7808, 0x7808, 0x2, 0x2, 4, 0, 0, 0, 0, 2, 0, 4294967295, "", "Denied handshakes"⟩,
   ⟨0x7810, 0x784F, 0x1, 0x1, 13, 2, 5, 0, 1, 2, 0, 0, "", "Channel key"⟩,
   ⟨0x7810, 0x784F, 0x2, 0x2, 2, 1, 5, 1, 1, 2, 0, 255, "", "Channel roles"⟩,
   ⟨0x7810, 0x784F, 0x3, 0x3, 13, 1, 5, 0, 1, 2, 0, 0, "", "Channel identity"⟩,
   ⟨0x7810, 0x784F, 0x4, 0x4, 1, 1, 5, 0, 1, 2, 0, 1, "", "Channel enable"⟩,
   ⟨0x7810, 0x784F, 0x5, 0x5, 5, 0, 0, 0, 0, 2, 0, 18446744073709551615, "", "Transmit FV, last accepted FV"⟩,
   ⟨0x7810, 0x784F, 0x6, 0x6, 5, 0, 0, 0, 0, 2, 0, 18446744073709551615, "", "Transmit FV, last accepted FV"⟩,
   ⟨0x7810, 0x784F, 0x7, 0x7, 4, 0, 0, 0, 0, 2, 0, 4294967295, "", "Tag failures"⟩,
   ⟨0x7810, 0x784F, 0x8, 0x8, 4, 0, 0, 0, 0, 2, 0, 4294967295, "", "Stale or out-of-window frames"⟩,
   ⟨0x7850, 0x7850, 0x1, 0x1, 16, 2, 5, 0, 2, 0, 0, 0, "", "Envelope document"⟩,
   ⟨0x7850, 0x7850, 0x2, 0x2, 4, 0, 0, 0, 1, 0, 0, 4294967295, "", "Last install result"⟩,
   ⟨0x7850, 0x7850, 0x3, 0x3, 16, 2, 5, 0, 1, 0, 0, 0, "", "Envelope key change"⟩,
   ⟨0x7860, 0x7860, 0x1, 0x1, 2, 2, 1, 0, 0, 0, 0, 1, "", "Fast channel"⟩,
   ⟨0x7860, 0x7860, 0x2, 0x2, 3, 0, 0, 65535, 0, 0, 0, 65535, "", "Own fast channel"⟩]

/-- Rows 681 to 720. -/
def catalogPart17 : List ObjDesc :=
  [⟨0x7860, 0x7860, 0x3, 0x3, 4, 0, 0, 0, 0, 0, 0, 4294967295, "", "Datagrams received, sent"⟩,
   ⟨0x7860, 0x7860, 0x4, 0x4, 4, 0, 0, 0, 0, 0, 0, 4294967295, "", "Datagrams received, sent"⟩,
   ⟨0x7860, 0x7860, 0x5, 0x5, 4, 0, 0, 0, 0, 0, 0, 4294967295, "", "Datagrams discarded"⟩,
   ⟨0x7870, 0x7870, 0x1, 0x1, 13, 2, 1, 0, 0, 0, 0, 0, "", "Snapshot nonce"⟩,
   ⟨0x7870, 0x7870, 0x2, 0x2, 13, 0, 0, 0, 0, 0, 0, 0, "", "Signed snapshot"⟩,
   ⟨0x7871, 0x7871, 0x1, 0x1, 13, 2, 1, 0, 0, 0, 0, 0, "", "Attestation nonce"⟩,
   ⟨0x7871, 0x7871, 0x2, 0x2, 13, 0, 0, 0, 0, 0, 0, 0, "", "Attestation report"⟩,
   ⟨0x7880, 0x7880, 0x1, 0x1, 4, 0, 0, 0, 0, 0, 0, 4294967295, "", "Handshakes failed"⟩,
   ⟨0x7880, 0x7880, 0x2, 0x2, 4, 0, 0, 0, 0, 0, 0, 4294967295, "", "Validity checks skipped"⟩,
   ⟨0x8000, 0x8000, 0x1, 0x1, 2, 0, 0, 1, 0, 0, 0, 255, "", "Role"⟩,
   ⟨0x8000, 0x8000, 0x2, 0x2, 2, 0, 0, 3, 0, 0, 0, 255, "", "Partner sense"⟩,
   ⟨0x8000, 0x8000, 0x3, 0x3, 2, 0, 0, 0, 0, 0, 0, 255, "", "Tether state"⟩,
   ⟨0x8000, 0x8000, 0x4, 0x4, 4, 0, 0, 0, 0, 0, 0, 4294967295, "", "Heartbeats missed"⟩,
   ⟨0x8000, 0x8000, 0x5, 0x5, 2, 0, 0, 0, 0, 0, 0, 255, "", "Readiness"⟩,
   ⟨0x8000, 0x8000, 0x6, 0x6, 15, 0, 0, 0, 0, 0, 0, 4294967295, "", "Image held"⟩,
   ⟨0x8000, 0x8000, 0x7, 0x7, 3, 0, 0, 0, 0, 0, 0, 1250, "", "Buffered cycles"⟩,
   ⟨0x8000, 0x8000, 0x8, 0x8, 4, 0, 0, 0, 1, 0, 0, 4294967295, "", "Role changes"⟩,
   ⟨0x8000, 0x8000, 0x9, 0x9, 15, 0, 0, 0, 1, 0, 0, 4294967295, "", "Last role change"⟩,
   ⟨0x8000, 0x8000, 0xA, 0xA, 4, 0, 0, 0, 1, 0, 0, 4294967295, "", "Coil catches"⟩,
   ⟨0x8000, 0x8000, 0xB, 0xB, 4, 0, 0, 0, 0, 0, 0, 4294967295, "", "Tether frames discarded"⟩,
   ⟨0x8010, 0x8010, 0x1, 0x1, 2, 1, 5, 7, 1, 0, 1, 90, "Days", "Role swap interval"⟩,
   ⟨0x8010, 0x8010, 0x2, 0x2, 4, 0, 0, 0, 0, 0, 0, 4294967295, "s", "Next swap due"⟩,
   ⟨0x8020, 0x8020, 0x1, 0x1, 2, 2, 4, 0, 0, 0, 0, 1, "", "Hand-over request"⟩,
   ⟨0x8020, 0x8020, 0x2, 0x2, 15, 0, 0, 0, 0, 0, 0, 4294967295, "", "Hand-over cycle H"⟩,
   ⟨0x8020, 0x8020, 0x3, 0x3, 2, 0, 0, 0, 0, 0, 0, 255, "", "Hand-over phase"⟩,
   ⟨0x8020, 0x8020, 0x4, 0x4, 2, 0, 0, 0, 1, 0, 0, 255, "", "Last abort cause"⟩,
   ⟨0x8030, 0x8030, 0x1, 0x1, 2, 0, 0, 0, 0, 0, 0, 255, "", "Claim state"⟩,
   ⟨0x8030, 0x8030, 0x2, 0x2, 15, 0, 0, 0, 0, 0, 0, 4294967295, "", "Claim round"⟩,
   ⟨0x8030, 0x8030, 0x3, 0x3, 15, 2, 6, 0, 0, 0, 0, 4294967295, "", "Grant"⟩,
   ⟨0x8030, 0x8030, 0x4, 0x4, 15, 2, 6, 0, 0, 0, 0, 4294967295, "", "Denial"⟩,
   ⟨0x8040, 0x8040, 0x1, 0x1, 13, 0, 0, 0, 0, 16, 0, 0, "", "Stateless record"⟩,
   ⟨0x8040, 0x8040, 0x2, 0x2, 13, 0, 0, 0, 0, 16, 0, 0, "", "Stateful record"⟩,
   ⟨0x8041, 0x8041, 0x1, 0x1, 3, 1, 4, 10, 1, 0, 1, 1000, "Cycles", "CAN stateless period"⟩,
   ⟨0x8050, 0x8050, 0x1, 0x1, 12, 2, 5, 0, 0, 0, 0, 0, "", "Partner adoption code"⟩,
   ⟨0x8050, 0x8050, 0x2, 0x2, 2, 0, 0, 0, 0, 0, 0, 255, "", "Join result"⟩,
   ⟨0x8800, 0x8800, 0x1, 0x1, 3, 0, 0, 0, 0, 0, 0, 512, "", "Active faults"⟩,
   ⟨0x8800, 0x8800, 0x2, 0x2, 2, 0, 0, 255, 0, 0, 0, 255, "", "Highest active severity"⟩,
   ⟨0x8800, 0x8800, 0x3, 0x3, 13, 0, 0, 0, 0, 0, 0, 0, "", "Active fault list"⟩,
   ⟨0x8800, 0x8800, 0x4, 0x4, 4, 0, 0, 0, 0, 0, 0, 4294967295, "", "Messages received"⟩,
   ⟨0x8800, 0x8800, 0x5, 0x5, 4, 0, 0, 0, 0, 0, 0, 4294967295, "", "Messages without queue room"⟩]

/-- Rows 721 to 760. -/
def catalogPart18 : List ObjDesc :=
  [⟨0x8800, 0x8800, 0x6, 0x6, 4, 0, 0, 0, 1, 0, 0, 4294967295, "", "Escalations"⟩,
   ⟨0x8800, 0x8800, 0x7, 0x7, 4, 0, 0, 0, 0, 0, 0, 4294967295, "", "Fault table replacements"⟩,
   ⟨0x8801, 0x8801, 0x1, 0x1, 5, 0, 0, 0, 1, 0, 0, 18446744073709551615, "", "First fault"⟩,
   ⟨0x8801, 0x8801, 0x2, 0x2, 15, 0, 0, 0, 1, 0, 0, 4294967295, "", "First fault cycle"⟩,
   ⟨0x8801, 0x8801, 0x3, 0x3, 2, 1, 4, 2, 1, 0, 0, 5, "", "Capture level"⟩,
   ⟨0x8801, 0x8801, 0x4, 0x4, 2, 2, 4, 0, 0, 0, 0, 3, "", "Re-arm"⟩,
   ⟨0x8801, 0x8801, 0x5, 0x5, 5, 0, 0, 0, 1, 0, 0, 18446744073709551615, "", "First trip"⟩,
   ⟨0x8801, 0x8801, 0x6, 0x6, 15, 0, 0, 0, 1, 0, 0, 4294967295, "", "First trip cycle"⟩,
   ⟨0x8802, 0x8802, 0x1, 0x1, 2, 0, 0, 0, 0, 0, 0, 255, "", "WHISTLE state"⟩,
   ⟨0x8802, 0x8802, 0x2, 0x2, 2, 1, 5, 10, 1, 0, 2, 50, "ms", "Watchdog time-out"⟩,
   ⟨0x8802, 0x8802, 0x3, 0x3, 4, 0, 0, 0, 1, 0, 0, 4294967295, "", "Watchdog expiries"⟩,
   ⟨0x8803, 0x8803, 0x1, 0x1, 4, 0, 0, 0, 0, 0, 0, 4294967295, "", "Fenced units"⟩,
   ⟨0x8900, 0x89FF, 0x1, 0x1, 12, 0, 0, 0, 0, 0, 0, 0, "", "Kind name"⟩,
   ⟨0x8900, 0x89FF, 0x2, 0x2, 2, 0, 0, 0, 0, 0, 0, 255, "", "Kind severity"⟩,
   ⟨0x8900, 0x89FF, 0x3, 0x3, 2, 1, 5, 0, 1, 2, 0, 255, "", "Ceiling"⟩,
   ⟨0x8900, 0x89FF, 0x4, 0x4, 3, 1, 5, 50, 1, 2, 0, 10000, "ms", "Grace time"⟩,
   ⟨0x8900, 0x89FF, 0x5, 0x5, 4, 0, 0, 0, 1, 0, 0, 4294967295, "", "Times raised"⟩,
   ⟨0x8900, 0x89FF, 0x6, 0x6, 3, 0, 0, 0, 0, 0, 0, 65535, "", "Active now"⟩,
   ⟨0x8A00, 0x8A00, 0x1, 0x1, 4, 0, 0, 0, 0, 0, 0, 4294967295, "", "Newest sequence"⟩,
   ⟨0x8A00, 0x8A00, 0x2, 0x2, 4, 0, 0, 0, 0, 0, 0, 4294967295, "", "Oldest surviving sequence"⟩,
   ⟨0x8A00, 0x8A00, 0x3, 0x3, 4, 0, 0, 0, 1, 0, 0, 4294967295, "Bytes", "Keep area used"⟩,
   ⟨0x8A00, 0x8A00, 0x4, 0x4, 4, 0, 0, 0, 1, 0, 0, 4294967295, "", "Keep area first, last sequence"⟩,
   ⟨0x8A00, 0x8A00, 0x5, 0x5, 4, 0, 0, 0, 1, 0, 0, 4294967295, "", "Keep area first, last sequence"⟩,
   ⟨0x8A00, 0x8A00, 0x6, 0x6, 1, 2, 5, 0, 0, 0, 0, 1, "", "Keep area clear"⟩,
   ⟨0x8A00, 0x8A00, 0x7, 0x7, 4, 0, 0, 0, 1, 0, 0, 4294967295, "", "Records lost"⟩,
   ⟨0x8A00, 0x8A00, 0x8, 0x8, 4, 0, 0, 0, 1, 0, 0, 4294967295, "", "Power-cycle count"⟩,
   ⟨0x8A00, 0x8A00, 0x9, 0x9, 5, 0, 0, 0, 1, 0, 0, 18446744073709551615, "ms", "Operating time"⟩,
   ⟨0x8A00, 0x8A00, 0xA, 0xA, 3, 0, 0, 0, 0, 0, 0, 4096, "", "Q25 occupancy"⟩,
   ⟨0x8A10, 0x8A10, 0x1, 0x1, 4, 1, 1, 0, 0, 0, 0, 4294967295, "", "Read cursor"⟩,
   ⟨0x8A10, 0x8A10, 0x2, 0x2, 13, 0, 0, 0, 0, 0, 0, 0, "", "Records"⟩,
   ⟨0x9000, 0x9000, 0x1, 0x1, 3, 0, 0, 0, 0, 0, 0, 65535, "mV", "AUX-1, AUX-2 voltage"⟩,
   ⟨0x9000, 0x9000, 0x2, 0x2, 3, 0, 0, 0, 0, 0, 0, 65535, "mV", "AUX-1, AUX-2 voltage"⟩,
   ⟨0x9000, 0x9000, 0x3, 0x3, 3, 0, 0, 0, 0, 0, 0, 65535, "mV", "Supply bus"⟩,
   ⟨0x9000, 0x9000, 0x4, 0x4, 2, 0, 0, 0, 0, 0, 0, 255, "", "Supply source"⟩,
   ⟨0x9000, 0x9000, 0x5, 0x5, 3, 0, 0, 0, 0, 0, 0, 65535, "V", "Backup feed voltage"⟩,
   ⟨0x9000, 0x9000, 0x6, 0x6, 1, 0, 0, 0, 0, 0, 0, 1, "", "Backup available"⟩,
   ⟨0x9000, 0x9000, 0x7, 0x7, 3, 0, 0, 0, 1, 0, 0, 65535, "0.1 ms", "Hold-up time"⟩,
   ⟨0x9000, 0x9000, 0x8, 0x8, 4, 0, 0, 0, 1, 0, 0, 4294967295, "", "POWER-GOOD falls, changeovers"⟩,
   ⟨0x9000, 0x9000, 0x9, 0x9, 4, 0, 0, 0, 1, 0, 0, 4294967295, "", "POWER-GOOD falls, changeovers"⟩,
   ⟨0x9000, 0x9000, 0xA, 0xA, 3, 0, 0, 0, 0, 0, 0, 65535, "0.1 W", "Module input power"⟩]

/-- Rows 761 to 800. -/
def catalogPart19 : List ObjDesc :=
  [⟨0x9001, 0x9001, 0x1, 0x1, 3, 0, 0, 0, 0, 0, 0, 65535, "", "Domains powered"⟩,
   ⟨0x9001, 0x9001, 0x2, 0x2, 3, 0, 0, 0, 0, 0, 0, 65535, "", "Domains faulted"⟩,
   ⟨0x9010, 0x9010, 0x1, 0x1, 1, 2, 5, 0, 0, 0, 0, 1, "", "Restart request"⟩,
   ⟨0x9010, 0x9010, 0x2, 0x2, 2, 0, 0, 0, 1, 0, 0, 255, "", "Last restart cause"⟩,
   ⟨0x9020, 0x9020, 0x1, 0x1, 7, 0, 0, 0, 0, 0, -32768, 32767, "0.01 °C", "Sensor temperatures"⟩,
   ⟨0x9020, 0x9020, 0x2, 0x2, 7, 0, 0, 0, 0, 0, -32768, 32767, "0.01 °C", "Sensor temperatures"⟩,
   ⟨0x9020, 0x9020, 0x3, 0x3, 7, 0, 0, 0, 0, 0, -32768, 32767, "0.01 °C", "Sensor temperatures"⟩,
   ⟨0x9020, 0x9020, 0x4, 0x4, 7, 0, 0, 0, 0, 0, -32768, 32767, "0.01 °C", "Sensor temperatures"⟩,
   ⟨0x9020, 0x9020, 0x5, 0x5, 7, 0, 0, 0, 0, 0, -32768, 32767, "0.01 °C", "Sensor temperatures"⟩,
   ⟨0x9020, 0x9020, 0x6, 0x6, 7, 0, 0, 0, 0, 0, -32768, 32767, "0.01 °C", "Sensor temperatures"⟩,
   ⟨0x9020, 0x9020, 0x7, 0x7, 2, 0, 0, 0, 0, 0, 0, 255, "", "Zone levels"⟩,
   ⟨0x9020, 0x9020, 0x8, 0x8, 2, 0, 0, 0, 0, 0, 0, 255, "", "Broken sensors"⟩,
   ⟨0x9020, 0x9020, 0x9, 0x9, 1, 0, 0, 0, 1, 0, 0, 1, "", "Thermal latch"⟩,
   ⟨0x9020, 0x9020, 0xA, 0xA, 4, 0, 0, 0, 1, 0, 0, 4294967295, "", "Throttle entries"⟩,
   ⟨0x9030, 0x9030, 0x1, 0x1, 3, 0, 0, 0, 0, 0, 0, 65535, "", "Clock faults"⟩,
   ⟨0x9030, 0x9030, 0x2, 0x2, 4, 0, 0, 0, 0, 0, 0, 4294967295, "Hz", "CD-AO RC frequency"⟩,
   ⟨0x9040, 0x9040, 0x1, 0x1, 16, 4, 4, 0, 1, 0, 0, 0, "", "Rule table"⟩,
   ⟨0x9040, 0x9040, 0x2, 0x2, 4, 0, 0, 0, 1, 0, 0, 4294967295, "", "Rule table check"⟩,
   ⟨0x9040, 0x9040, 0x3, 0x3, 4, 0, 0, 0, 0, 0, 0, 4294967295, "", "Rules fired"⟩,
   ⟨0x9050, 0x9050, 0x1, 0x1, 1, 2, 2, 0, 0, 0, 0, 1, "", "Sleep request"⟩,
   ⟨0x9050, 0x9050, 0x2, 0x2, 4, 1, 2, 86400, 1, 0, 0, 4294967295, "s", "Wake timer"⟩,
   ⟨0x9050, 0x9050, 0x3, 0x3, 2, 1, 4, 3, 1, 0, 0, 7, "", "Wake sources"⟩,
   ⟨0x9050, 0x9050, 0x4, 0x4, 3, 1, 4, 1000, 1, 0, 250, 60000, "ms", "Sense interval"⟩,
   ⟨0x9050, 0x9050, 0x5, 0x5, 3, 1, 4, 300, 1, 0, 60, 65535, "s", "Ring poll interval"⟩,
   ⟨0x9050, 0x9050, 0x6, 0x6, 3, 1, 4, 3600, 1, 0, 600, 65535, "s", "Insulation interval"⟩,
   ⟨0x9050, 0x9050, 0x7, 0x7, 2, 0, 0, 0, 1, 0, 0, 255, "", "Last wake cause"⟩,
   ⟨0x9050, 0x9050, 0x8, 0x8, 14, 0, 0, 0, 1, 0, 0, 0, "", "SLEEP entered"⟩,
   ⟨0x9050, 0x9050, 0x9, 0x9, 14, 0, 0, 0, 1, 0, 0, 0, "", "Rest start"⟩,
   ⟨0x9050, 0x9050, 0xA, 0xA, 4, 0, 0, 0, 1, 0, 0, 4294967295, "mA", "Largest current in SLEEP"⟩,
   ⟨0x9800, 0x9800, 0x1, 0x1, 2, 0, 0, 0, 0, 0, 0, 255, "", "Storage state"⟩,
   ⟨0x9800, 0x9800, 0x2, 0x2, 3, 0, 0, 0, 1, 0, 0, 65535, "", "Units retired"⟩,
   ⟨0x9800, 0x9800, 0x3, 0x3, 15, 0, 0, 0, 1, 0, 0, 4294967295, "", "Last storage checkpoint"⟩,
   ⟨0x9800, 0x9800, 0x4, 0x4, 5, 0, 0, 0, 0, 0, 0, 18446744073709551615, "", "Journal sequence"⟩,
   ⟨0x9800, 0x9800, 0x5, 0x5, 4, 0, 0, 0, 0, 0, 0, 4294967295, "", "Log waits"⟩,
   ⟨0x9800, 0x9800, 0x6, 0x6, 3, 0, 0, 0, 0, 0, 0, 1376, "", "Log records above refresh point"⟩,
   ⟨0x9800, 0x9800, 0x7, 0x7, 3, 0, 0, 0, 1, 0, 0, 65535, "", "Interrupted writes at last BOOT"⟩,
   ⟨0x9800, 0x9800, 0x8, 0x8, 4, 0, 0, 0, 0, 0, 0, 4294967295, "", "Records of unknown format skipped"⟩,
   ⟨0x9810, 0x9810, 0x1, 0x1, 4, 0, 0, 0, 1, 0, 0, 4294967295, "", "Running version"⟩,
   ⟨0x9810, 0x9810, 0x2, 0x2, 4, 0, 0, 0, 1, 0, 0, 4294967295, "", "Running version"⟩,
   ⟨0x9810, 0x9810, 0x3, 0x3, 4, 0, 0, 0, 1, 0, 0, 4294967295, "", "Running version"⟩]

/-- Rows 801 to 840. -/
def catalogPart20 : List ObjDesc :=
  [⟨0x9810, 0x9810, 0x4, 0x4, 4, 0, 0, 0, 1, 0, 0, 4294967295, "", "Running version"⟩,
   ⟨0x9811, 0x9811, 0x1, 0x1, 3, 0, 0, 0, 1, 0, 0, 65535, "", "Running generation"⟩,
   ⟨0x9811, 0x9811, 0x2, 0x2, 3, 0, 0, 0, 1, 0, 0, 65535, "", "Running generation"⟩,
   ⟨0x9811, 0x9811, 0x3, 0x3, 3, 0, 0, 0, 1, 0, 0, 65535, "", "Running generation"⟩,
   ⟨0x9811, 0x9811, 0x4, 0x4, 3, 0, 0, 0, 1, 0, 0, 65535, "", "Running generation"⟩,
   ⟨0x9812, 0x9812, 0x1, 0x1, 2, 0, 0, 0, 1, 0, 0, 255, "", "Bank in force"⟩,
   ⟨0x9812, 0x9812, 0x2, 0x2, 2, 0, 0, 0, 1, 0, 0, 255, "", "Bank in force"⟩,
   ⟨0x9812, 0x9812, 0x3, 0x3, 2, 0, 0, 0, 1, 0, 0, 255, "", "Bank in force"⟩,
   ⟨0x9812, 0x9812, 0x4, 0x4, 2, 0, 0, 0, 1, 0, 0, 255, "", "Bank in force"⟩,
   ⟨0x9813, 0x9813, 0x1, 0x1, 4, 0, 0, 0, 1, 0, 0, 4294967295, "", "Inactive bank version"⟩,
   ⟨0x9813, 0x9813, 0x2, 0x2, 4, 0, 0, 0, 1, 0, 0, 4294967295, "", "Inactive bank version"⟩,
   ⟨0x9813, 0x9813, 0x3, 0x3, 4, 0, 0, 0, 1, 0, 0, 4294967295, "", "Inactive bank version"⟩,
   ⟨0x9813, 0x9813, 0x4, 0x4, 4, 0, 0, 0, 1, 0, 0, 4294967295, "", "Inactive bank version"⟩,
   ⟨0x9820, 0x9820, 0x1, 0x1, 13, 2, 4, 0, 0, 0, 0, 0, "", "Staging chunk"⟩,
   ⟨0x9820, 0x9820, 0x2, 0x2, 4, 2, 4, 0, 0, 0, 0, 4294967295, "Bytes", "Package length"⟩,
   ⟨0x9820, 0x9820, 0x3, 0x3, 13, 2, 4, 0, 0, 0, 0, 0, "", "Package digest"⟩,
   ⟨0x9820, 0x9820, 0x4, 0x4, 2, 0, 0, 0, 1, 0, 0, 255, "", "Staging state"⟩,
   ⟨0x9820, 0x9820, 0x5, 0x5, 4, 0, 0, 0, 0, 0, 0, 4294967295, "", "Bytes received"⟩,
   ⟨0x9820, 0x9820, 0x6, 0x6, 4, 0, 0, 0, 1, 0, 0, 4294967295, "", "Staging result"⟩,
   ⟨0x9830, 0x9830, 0x1, 0x1, 3, 0, 0, 0, 1, 2, 0, 65535, "", "Operating generation G"⟩,
   ⟨0x9830, 0x9830, 0x2, 0x2, 2, 2, 5, 0, 0, 0, 0, 4, "", "Update request"⟩,
   ⟨0x9830, 0x9830, 0x3, 0x3, 2, 0, 0, 0, 1, 0, 0, 255, "", "Update step"⟩,
   ⟨0x9830, 0x9830, 0x4, 0x4, 15, 0, 0, 0, 0, 0, 0, 4294967295, "", "Step started"⟩,
   ⟨0x9830, 0x9830, 0x5, 0x5, 15, 0, 0, 0, 0, 0, 0, 4294967295, "", "Hand-over cycle Hc"⟩,
   ⟨0x9830, 0x9830, 0x6, 0x6, 3, 1, 5, 72, 1, 0, 0, 720, "h", "Confirmation period"⟩,
   ⟨0x9830, 0x9830, 0x7, 0x7, 3, 0, 0, 0, 0, 0, 0, 65535, "h", "Confirmation remaining"⟩,
   ⟨0x9830, 0x9830, 0x8, 0x8, 4, 0, 0, 0, 1, 0, 0, 4294967295, "", "Last update result"⟩,
   ⟨0x9830, 0x9830, 0x9, 0x9, 2, 0, 0, 0, 1, 0, 0, 255, "", "Restarts since update"⟩,
   ⟨0x9830, 0x9830, 0xA, 0xA, 4, 0, 0, 0, 1, 0, 0, 4294967295, "", "Journal records skipped at rollback"⟩,
   ⟨0x9060, 0x9060, 0x1, 0x1, 2, 0, 0, 0, 0, 0, 0, 255, "", "Seat state"⟩,
   ⟨0x9060, 0x9060, 0x2, 0x2, 4, 0, 0, 0, 1, 0, 0, 4294967295, "", "Insertions"⟩,
   ⟨0x9060, 0x9060, 0x3, 0x3, 4, 0, 0, 0, 1, 0, 0, 4294967295, "", "Withdrawals under load"⟩,
   ⟨0x9060, 0x9060, 0x4, 0x4, 4, 0, 0, 0, 1, 0, 0, 4294967295, "", "Strap conflicts"⟩,
   ⟨0x2111, 0x2111, 0x1, 0xB, 4, 0, 0, 0, 0, 0, 0, 4294967295, "", "RING-E counters"⟩,
   ⟨0x2111, 0x2111, 0xC, 0xC, 1, 2, 4, 0, 0, 0, 0, 1, "", "RING-E counter clear"⟩,
   ⟨0x3000, 0x31FF, 0x20, 0x20, 10, 0, 0, 0, 1, 18, -2147483648, 2147483647, "", "State of charge"⟩,
   ⟨0x3000, 0x31FF, 0x21, 0x21, 10, 0, 0, 0, 1, 18, -2147483648, 2147483647, "", "Counting SoC"⟩,
   ⟨0x3000, 0x31FF, 0x22, 0x22, 10, 0, 0, 0, 1, 18, -2147483648, 2147483647, "", "SoC uncertainty"⟩,
   ⟨0x3000, 0x31FF, 0x23, 0x23, 4, 0, 0, 0, 1, 18, 0, 4294967295, "", "Learned capacity"⟩,
   ⟨0x3000, 0x31FF, 0x24, 0x24, 4, 0, 0, 0, 1, 18, 0, 4294967295, "", "Capacity uncertainty"⟩]

/-- Rows 841 to 880. -/
def catalogPart21 : List ObjDesc :=
  [⟨0x3000, 0x31FF, 0x25, 0x25, 4, 0, 0, 0, 1, 18, 0, 4294967295, "", "Rdc"⟩,
   ⟨0x3000, 0x31FF, 0x26, 0x26, 4, 0, 0, 0, 1, 18, 0, 4294967295, "", "Polarisation resistance R1"⟩,
   ⟨0x3000, 0x31FF, 0x27, 0x27, 4, 0, 0, 0, 1, 18, 0, 4294967295, "", "Polarisation time constant"⟩,
   ⟨0x3000, 0x31FF, 0x28, 0x28, 8, 0, 0, 0, 1, 18, -2147483648, 2147483647, "", "Polarisation voltage"⟩,
   ⟨0x3000, 0x31FF, 0x29, 0x29, 4, 0, 0, 0, 1, 18, 0, 4294967295, "", "Equivalent full cycles"⟩,
   ⟨0x3000, 0x31FF, 0x2D, 0x2D, 15, 0, 0, 0, 1, 18, 0, 4294967295, "", "Last update"⟩,
   ⟨0x3000, 0x31FF, 0x2E, 0x2E, 9, 0, 0, 0, 1, 18, -9223372036854775808, 9223372036854775807, "", "Charge counter at last update"⟩,
   ⟨0x3000, 0x31FF, 0x2F, 0x2F, 8, 0, 0, 0, 1, 18, -2147483648, 2147483647, "", "Last raw voltage"⟩,
   ⟨0x3000, 0x31FF, 0x30, 0x30, 15, 0, 0, 0, 1, 18, 0, 4294967295, "", "Rest start"⟩,
   ⟨0x3000, 0x31FF, 0x31, 0x31, 4, 0, 0, 0, 1, 18, 0, 4294967295, "", "Bleed charge"⟩,
   ⟨0x3000, 0x31FF, 0x32, 0x32, 8, 0, 0, 0, 1, 18, -2147483648, 2147483647, "", "Balancing target"⟩,
   ⟨0x3000, 0x31FF, 0x33, 0x33, 4, 0, 0, 0, 1, 18, 0, 4294967295, "", "Impedance table address"⟩,
   ⟨0x3000, 0x31FF, 0x34, 0x34, 4, 0, 0, 0, 1, 18, 0, 4294967295, "", "Journal slot"⟩,
   ⟨0x3000, 0x31FF, 0x35, 0x35, 3, 0, 0, 0, 1, 18, 0, 65535, "", "Insertion count"⟩,
   ⟨0x3000, 0x31FF, 0x36, 0x36, 3, 0, 0, 0, 1, 18, 0, 65535, "", "Capacity learning steps"⟩,
   ⟨0x3400, 0x3BFF, 0x1, 0x1, 2, 4, 4, 0, 1, 3, 0, 5, "", "Kind"⟩,
   ⟨0x3400, 0x3BFF, 0x2, 0x2, 2, 4, 4, 0, 1, 3, 0, 255, "", "Source"⟩,
   ⟨0x3400, 0x3BFF, 0x3, 0x3, 2, 4, 4, 0, 1, 3, 0, 16, "", "Channel"⟩,
   ⟨0x3400, 0x3BFF, 0x4, 0x4, 2, 1, 4, 0, 1, 3, 0, 3, "", "Flags"⟩,
   ⟨0x3400, 0x3BFF, 0x5, 0x5, 2, 1, 4, 0, 1, 3, 0, 3, "", "Sensor type"⟩,
   ⟨0x3400, 0x3BFF, 0x6, 0x6, 2, 1, 4, 0, 1, 3, 0, 2, "", "Unit"⟩,
   ⟨0x3400, 0x3BFF, 0x7, 0x7, 3, 1, 4, 0, 1, 3, 0, 65535, "", "Filter time constant"⟩,
   ⟨0x3400, 0x3BFF, 0x8, 0x8, 8, 1, 4, 65536, 1, 3, -2147483648, 2147483647, "", "Gain"⟩,
   ⟨0x3400, 0x3BFF, 0x9, 0x9, 8, 1, 4, 0, 1, 3, -2147483648, 2147483647, "", "Offset"⟩,
   ⟨0x3400, 0x3BFF, 0xA, 0xA, 8, 1, 4, -2147483648, 1, 3, -2147483648, 2147483647, "", "Plausibility low"⟩,
   ⟨0x3400, 0x3BFF, 0xB, 0xB, 8, 1, 4, 2147483647, 1, 3, -2147483648, 2147483647, "", "Plausibility high"⟩,
   ⟨0x3400, 0x3BFF, 0xC, 0xC, 3, 1, 4, 65535, 1, 3, 0, 65535, "", "Maximum rate"⟩,
   ⟨0x3400, 0x3BFF, 0xD, 0xD, 3, 1, 4, 0, 1, 3, 0, 65535, "", "Computed first point"⟩,
   ⟨0x3400, 0x3BFF, 0xE, 0xE, 3, 1, 4, 0, 1, 3, 0, 512, "", "Computed count"⟩,
   ⟨0x3400, 0x3BFF, 0xF, 0xF, 3, 1, 4, 0, 1, 3, 0, 65535, "", "Second point"⟩,
   ⟨0x7210, 0x728F, 0x2, 0x2, 4, 4, 4, 0, 1, 0, 0, 536870911, "", "Identifier"⟩,
   ⟨0x7210, 0x728F, 0x3, 0x3, 1, 4, 4, 0, 1, 0, 0, 1, "", "Extension"⟩,
   ⟨0x7210, 0x728F, 0x4, 0x4, 4, 4, 4, 536870911, 1, 0, 0, 4294967295, "", "Mask"⟩,
   ⟨0x7210, 0x728F, 0x5, 0x5, 2, 4, 4, 2, 1, 0, 0, 2, "", "Format"⟩,
   ⟨0x7210, 0x728F, 0x6, 0x6, 2, 4, 4, 64, 1, 0, 0, 64, "", "Data length"⟩,
   ⟨0x7210, 0x728F, 0x7, 0x7, 2, 1, 4, 3, 1, 0, 0, 255, "", "Retransmission limit"⟩,
   ⟨0x7210, 0x728F, 0x8, 0x8, 1, 1, 4, 0, 1, 0, 0, 1, "", "Replace pending"⟩,
   ⟨0x7210, 0x728F, 0x9, 0x9, 2, 4, 5, 255, 1, 0, 0, 255, "", "Secure channel"⟩,
   ⟨0x7210, 0x728F, 0xA, 0xA, 4, 0, 0, 0, 0, 0, 0, 4294967295, "", "Frames transferred"⟩,
   ⟨0x7210, 0x728F, 0xB, 0xB, 4, 0, 0, 0, 0, 0, 0, 4294967295, "", "Frames abandoned or discarded"⟩]

/-- Rows 881 to 908. -/
def catalogPart22 : List ObjDesc :=
  [⟨0x7290, 0x730F, 0x2, 0x2, 4, 4, 4, 0, 1, 0, 0, 536870911, "", "Identifier"⟩,
   ⟨0x7290, 0x730F, 0x3, 0x3, 1, 4, 4, 0, 1, 0, 0, 1, "", "Extension"⟩,
   ⟨0x7290, 0x730F, 0x4, 0x4, 4, 4, 4, 536870911, 1, 0, 0, 4294967295, "", "Mask"⟩,
   ⟨0x7290, 0x730F, 0x5, 0x5, 2, 4, 4, 2, 1, 0, 0, 2, "", "Format"⟩,
   ⟨0x7290, 0x730F, 0x6, 0x6, 2, 4, 4, 64, 1, 0, 0, 64, "", "Data length"⟩,
   ⟨0x7290, 0x730F, 0x7, 0x7, 2, 1, 4, 3, 1, 0, 0, 255, "", "Retransmission limit"⟩,
   ⟨0x7290, 0x730F, 0x8, 0x8, 1, 1, 4, 0, 1, 0, 0, 1, "", "Replace pending"⟩,
   ⟨0x7290, 0x730F, 0x9, 0x9, 2, 4, 5, 255, 1, 0, 0, 255, "", "Secure channel"⟩,
   ⟨0x7290, 0x730F, 0xA, 0xA, 4, 0, 0, 0, 0, 0, 0, 4294967295, "", "Frames transferred"⟩,
   ⟨0x7290, 0x730F, 0xB, 0xB, 4, 0, 0, 0, 0, 0, 0, 4294967295, "", "Frames abandoned or discarded"⟩,
   ⟨0xA010, 0xA016, 0x1, 0x1, 2, 2, 4, 0, 0, 0, 0, 1, "", "Arm"⟩,
   ⟨0xA010, 0xA016, 0x2, 0x2, 2, 1, 4, 0, 0, 0, 0, 2, "", "Fault"⟩,
   ⟨0xA010, 0xA016, 0x3, 0x3, 2, 1, 4, 0, 0, 0, 0, 1, "", "Direction"⟩,
   ⟨0xA010, 0xA016, 0x4, 0x4, 2, 1, 4, 0, 0, 0, 0, 1, "", "Selection"⟩,
   ⟨0xA010, 0xA016, 0x5, 0x5, 3, 1, 4, 100, 0, 0, 1, 65535, "", "Pattern N"⟩,
   ⟨0xA010, 0xA016, 0x6, 0x6, 3, 1, 4, 655, 0, 0, 1, 65535, "", "Probability"⟩,
   ⟨0xA010, 0xA016, 0x7, 0x7, 4, 1, 4, 1, 0, 0, 1, 4294967295, "", "LFSR seed"⟩,
   ⟨0xA010, 0xA016, 0x8, 0x8, 13, 1, 4, 0, 0, 0, 0, 0, "", "Corrupt mask"⟩,
   ⟨0xA010, 0xA016, 0x9, 0x9, 2, 1, 4, 1, 0, 0, 1, 8, "", "Reorder depth"⟩,
   ⟨0xA010, 0xA016, 0xA, 0xA, 15, 1, 4, 0, 0, 0, 0, 4294967295, "", "Start cycle"⟩,
   ⟨0xA010, 0xA016, 0xB, 0xB, 4, 1, 4, 1000, 0, 0, 1, 3600000, "", "Duration"⟩,
   ⟨0xA010, 0xA016, 0xC, 0xC, 2, 0, 0, 0, 0, 0, 0, 255, "", "State"⟩,
   ⟨0xA010, 0xA016, 0xD, 0xD, 4, 0, 0, 0, 0, 0, 0, 4294967295, "", "Frames affected"⟩,
   ⟨0xA010, 0xA016, 0xE, 0xE, 4, 0, 0, 0, 0, 0, 0, 4294967295, "", "Eligible frames seen"⟩,
   ⟨0xA011, 0xA011, 0x10, 0x10, 2, 1, 4, 31, 0, 0, 0, 31, "", "Frame kind mask"⟩,
   ⟨0xA011, 0xA011, 0x11, 0x11, 2, 1, 4, 0, 0, 0, 0, 64, "", "Position filter"⟩,
   ⟨0xA012, 0xA013, 0x10, 0x10, 2, 1, 4, 31, 0, 0, 0, 31, "", "Filter"⟩,
   ⟨0xA014, 0xA016, 0x10, 0x10, 2, 1, 4, 255, 0, 0, 0, 255, "", "Filter"⟩]

/-- The dictionary, all rows. -/
def catalog : List ObjDesc :=
  catalogPart0 ++ catalogPart1 ++ catalogPart2 ++ catalogPart3 ++ catalogPart4 ++ catalogPart5 ++ catalogPart6 ++ catalogPart7 ++ catalogPart8 ++ catalogPart9 ++ catalogPart10 ++ catalogPart11 ++ catalogPart12 ++ catalogPart13 ++ catalogPart14 ++ catalogPart15 ++ catalogPart16 ++ catalogPart17 ++ catalogPart18 ++ catalogPart19 ++ catalogPart20 ++ catalogPart21 ++ catalogPart22

/-- The row of an object, if the dictionary has it. -/
def objDesc (idx sub : Nat) : Option ObjDesc :=
  catalog.find? fun d => d.lo ≤ idx && idx ≤ d.hi && d.subLo ≤ sub && sub ≤ d.subHi

/-- The highest subindex in use at an index, 0 where the index holds no object (R380). -/
def highestSub (idx : Nat) : Nat :=
  catalog.foldl (fun m d => if d.lo ≤ idx && idx ≤ d.hi then max m d.subHi else m) 0

namespace ObjDesc

/-- Flag [0]: staged. -/
def staged (d : ObjDesc) : Bool := d.flags.testBit 0
/-- Flag [1]: string scope. -/
def stringScope (d : ObjDesc) : Bool := d.flags.testBit 1
/-- Flag [2]: read-restricted. -/
def restricted (d : ObjDesc) : Bool := d.flags.testBit 2
/-- Flag [3]: cleared on read. -/
def clearedOnRead (d : ObjDesc) : Bool := d.flags.testBit 3
/-- Flag [4]: active-only. -/
def activeOnly (d : ObjDesc) : Bool := d.flags.testBit 4
/-- Read role code: Engineer where the notes name it, 0 otherwise. -/
def readRole (d : ObjDesc) : Nat := if d.restricted then 4 else 0
/-- Whether the type is a number (R381 codes 0x01-0x0B and CYCLE). -/
def numeric (d : ObjDesc) : Bool := d.ty ≤ 0x0B || d.ty = 0x0F
/-- Width in bytes of the fixed-width types of R381; 0 where the length varies. -/
def width (d : ObjDesc) : Nat :=
  match d.ty with
  | 0x01 | 0x02 | 0x06 => 1
  | 0x03 | 0x07 => 2
  | 0x04 | 0x08 | 0x0A | 0x0B | 0x0F => 4
  | 0x05 | 0x09 => 8
  | 0x0E => 10
  | _ => 0

end ObjDesc

end Sys2Proof.Machine
end

