-- ==== Sys2Proof/Machine/Tab.lean ====
section
/-! DEFINITION. Reading and writing the sparse tables of the state, saturating counters, and the bit fields, byte orders and check sums the
frames and records use (R12, R44). -/

namespace Sys2Proof

/-- The entry under key `k`, or `d` when the table has none. -/
def Tab.at {α : Type} : Tab α → Nat → α → α
  | [], _, d => d
  | (j, a) :: t, k, d => if j = k then a else Tab.at t k d

/-- The entry under key `k`, if the table has one. -/
def Tab.find {α : Type} : Tab α → Nat → Option α
  | [], _ => none
  | (j, a) :: t, k => if j = k then some a else Tab.find t k

/-- The table with `a` under key `k`, keys kept rising. -/
def Tab.put {α : Type} : Tab α → Nat → α → Tab α
  | [], k, a => [(k, a)]
  | (j, b) :: t, k, a =>
    if k < j then (k, a) :: (j, b) :: t
    else if k = j then (k, a) :: t
    else (j, b) :: Tab.put t k a

/-- The table without key `k`. -/
def Tab.drop {α : Type} (t : Tab α) (k : Nat) : Tab α := List.filter (fun e => e.1 != k) t

/-- The table with `f` applied to the entry under key `k` (to `d` when it has none). -/
def Tab.mod {α : Type} (t : Tab α) (k : Nat) (d : α) (f : α → α) : Tab α := Tab.put t k (f (Tab.at t k d))

/-- The keys in rising order. -/
def Tab.keys {α : Type} (t : Tab α) : List Nat := List.map Prod.fst t

/-- A table of numbers at `k`, 0 when absent. -/
def Tab.nat (t : Tab Nat) (k : Nat) : Nat := Tab.at t k 0

/-- A table of integers at `k`, 0 when absent. -/
def Tab.int (t : Tab Int) (k : Nat) : Int := Tab.at t k 0

/-- A table of flags at `k`, false when absent. -/
def Tab.flag (t : Tab Bool) (k : Nat) : Bool := Tab.at t k false

/-- Keys strictly rising: the canonical form of a table. -/
def Tab.rising {α : Type} : Tab α → Bool
  | [] => true
  | [_] => true
  | (j, _) :: (k, b) :: t => decide (j < k) && Tab.rising ((k, b) :: t)

namespace Machine

/-! ### Saturating counters and clamps -/

/-- A 32-bit counter that saturates (R74), advanced by `n`. -/
def add32 (c n : Nat) : Nat := min (c + n) 0xFFFFFFFF

/-- A 32-bit saturating counter advanced by one. -/
def inc32 (c : Nat) : Nat := add32 c 1

/-- An 8-bit saturating counter advanced by one (R482). -/
def inc8 (c : Nat) : Nat := min (c + 1) 0xFF

/-- A 16-bit saturating counter advanced by one (R88). -/
def inc16 (c : Nat) : Nat := min (c + 1) 0xFFFF

/-- `x` held within `lo` and `hi`. -/
def clampI (lo hi x : Int) : Int := max lo (min hi x)

/-- An integer narrowed to two's complement of `w` bits (the value its low `w` bits stand for). -/
def wrapI (w : Nat) (x : Int) : Int := (BitVec.ofInt w x).toInt

/-- An integer saturated to 32-bit two's complement (R281). -/
def sat32 (x : Int) : Int := clampI (-(2 ^ 31)) (2 ^ 31 - 1) x

/-- Round a quotient to nearest, halves away from zero. -/
def divNear (a : Int) (b : Nat) : Int :=
  if b = 0 then 0
  else if a < 0 then -(((-a) * 2 + b) / (2 * b)) else (a * 2 + b) / (2 * b)

/-- Sum of a list of integers. -/
def sumI : List Int → Int
  | [] => 0
  | x :: t => x + sumI t

/-- Largest of a list of integers. -/
def maxI : List Int → Option Int
  | [] => none
  | x :: t => match maxI t with
    | none => some x
    | some y => some (max x y)

/-- Smallest of a list of integers. -/
def minI : List Int → Option Int
  | [] => none
  | x :: t => match minI t with
    | none => some x
    | some y => some (min x y)

/-- The numbers `lo`, `lo + 1`, … (`n` of them). -/
def upFrom (lo : Nat) : Nat → List Nat
  | 0 => []
  | n + 1 => lo :: upFrom (lo + 1) n

/-- The last element of `l` that is kept when at most `n` are held, newest first. -/
def keepN {α : Type} (n : Nat) (l : List α) : List α := l.take n

/-! ### Bytes -/

/-- The `w` bytes of a number, least significant first (R12). -/
def le : Nat → Nat → Bytes
  | 0, _ => []
  | w + 1, v => BitVec.ofNat 8 v :: le w (v / 256)

/-- The `w` bytes of an integer in two's complement, least significant first. -/
def leI (w : Nat) (v : Int) : Bytes := le w ((v % (2 ^ (8 * w) : Nat)).toNat)

/-- The number a byte string stands for, least significant first. -/
def unle : Bytes → Nat
  | [] => 0
  | b :: t => b.toNat + 256 * unle t

/-- The integer a byte string stands for in two's complement, least significant first. -/
def unleI (b : Bytes) : Int :=
  let n := unle b
  if 2 * n < 2 ^ (8 * b.length) then n else (n : Int) - (2 ^ (8 * b.length) : Nat)

/-- The number a byte string stands for, most significant first. -/
def unbe (b : Bytes) : Nat := unle b.reverse

/-- `n` zero bytes. -/
def zeros (n : Nat) : Bytes := List.replicate n 0

/-- The byte string padded with zeros to length `n`. -/
def padTo (n : Nat) (b : Bytes) : Bytes := b ++ zeros (n - b.length)

/-- The bytes at offset `off`, `n` of them (zeros past the end). -/
def slice (b : Bytes) (off n : Nat) : Bytes := padTo n ((b.drop off).take n)

/-- The unsigned field of `n` bytes at offset `off`. -/
def fieldN (b : Bytes) (off n : Nat) : Nat := unle (slice b off n)

/-- The two's complement field of `n` bytes at offset `off`. -/
def fieldI (b : Bytes) (off n : Nat) : Int := unleI (slice b off n)

/-- One bit step of the reflected Castagnoli CRC. -/
def crcBit (c : BitVec 32) : BitVec 32 :=
  if c.getLsbD 0 then (c >>> 1) ^^^ 0x82F63B78#32 else c >>> 1

/-- `n` bit steps. -/
def crcBits : Nat → BitVec 32 → BitVec 32
  | 0, c => c
  | n + 1, c => crcBits n (crcBit c)

/-- The CRC register after the bytes. -/
def crcRun : BitVec 32 → Bytes → BitVec 32
  | c, [] => c
  | c, b :: t => crcRun (crcBits 8 (c ^^^ b.setWidth 32)) t

/-- CRC-32C (R44): polynomial 0x1EDC_6F41 reflected, initial value and final XOR 0xFFFF_FFFF. -/
def crc32c (b : Bytes) : BitVec 32 := crcRun 0xFFFFFFFF#32 b ^^^ 0xFFFFFFFF#32

/-- The four bytes of a CRC-32C, little-endian. -/
def crcBytes (b : Bytes) : Bytes := le 4 (crc32c b).toNat

/-- Bit `i` of a number. -/
def bitN (n i : Nat) : Bool := n.testBit i

/-- The bits [hi:lo] of a number. -/
def bitsN (n hi lo : Nat) : Nat := n / 2 ^ lo % 2 ^ (hi + 1 - lo)

/-- 1 for true, 0 for false. -/
def b2n (b : Bool) : Nat := if b then 1 else 0

/-- A bit vector with bit `i` set to `v`. -/
def setBit {w : Nat} (x : BitVec w) (i : Nat) (v : Bool) : BitVec w :=
  if v then x ||| (1#w <<< i) else x &&& ~~~(1#w <<< i)

end Machine

end Sys2Proof
end

