-- ==== Sys2Proof/Machine/Ops.lean ====
section
/-! DEFINITION. The operations every family shares: time in cycles, objects in force and staged, the envelope, roles, reporting a fault
message, queueing Tally and journal records and responses, drawing a free value. -/

namespace Sys2Proof

/-- A value as a number (bytes read little-endian). -/
def ObjVal.toInt : ObjVal → Int
  | .num v => v
  | .bytes b => Machine.unle b

/-- A value as bytes; a number has none. -/
def ObjVal.toBytes : ObjVal → Bytes
  | .num _ => []
  | .bytes b => b

/-- Code of an operating state (R304 byte 30). -/
def OpState.code : OpState → Nat
  | .off => 0 | .boot => 1 | .isolated => 2 | .precheck => 3 | .closing => 4 | .online => 5 | .derated => 6
  | .tripping => 7 | .tripped => 8 | .lockout => 9 | .service => 10 | .sleep => 11

/-- Code of a severity (R467). -/
def Sev.code : Sev → Nat
  | .info => 0 | .notice => 1 | .warn => 2 | .degrade => 3 | .trip => 4 | .lockout => 5

/-- The severity of a code, the highest for codes above 5. -/
def Sev.ofCode : Nat → Sev
  | 0 => .info | 1 => .notice | 2 => .warn | 3 => .degrade | 4 => .trip | _ => .lockout

/-- Code of a role (8000.01). -/
def Role.code : Role → Nat
  | .single => 0 | .undecided => 1 | .joining => 2 | .standby => 3 | .active => 4 | .incoming => 5 | .outgoing => 6
  | .takingOver => 7 | .claiming => 8

/-- Whether two messages name the same fault: source, kind and address (R470). -/
def FaultMsg.same (a b : FaultMsg) : Bool :=
  a.source = b.source && a.kind = b.kind && a.cls = b.cls && a.val = b.val

end Sys2Proof

namespace Sys2Proof.Machine

open Sys2Proof

/-- The outcome of a meaning. -/
abbrev Out := Host.Outcome State Fault Refusal

/-! ### Time -/

/-- The cycle number as a number. -/
def State.C (s : State) : Nat := s.core.cycle.toNat

/-- Cycles since `c`, modulo 2^32 (R16). -/
def State.since (s : State) (c : Cycle) : Nat := (s.core.cycle - c).toNat

/-- Whether at least `n` cycles have passed since `c`. -/
def State.passed (s : State) (c : Cycle) (n : Nat) : Bool := n ≤ s.since c

/-- Whether a timer that runs from `o` (none: not running) has reached `n` cycles. -/
def State.ran (s : State) (o : Option Cycle) (n : Nat) : Bool :=
  match o with
  | none => false
  | some c => n ≤ s.since c

/-- Start a timer that is not running. -/
def State.start (s : State) (o : Option Cycle) : Option Cycle :=
  match o with
  | none => some s.core.cycle
  | some c => some c

/-- The entries of a list of cycles that lie within the last `n` cycles. -/
def State.recent (s : State) (n : Nat) (l : List Cycle) : List Cycle := l.filter fun c => s.since c < n

/-- The Cycle that lies `n` cycles ahead. -/
def State.ahead (s : State) (n : Nat) : Cycle := s.core.cycle + BitVec.ofNat 32 n

/-- Whether cycle a is not before cycle b (R16). -/
def notBefore (a b : Cycle) : Bool := (a - b).toNat < 2 ^ 31

/-- Draw a free value: the counter advances, so that no two draws are tied together (log entry 7). -/
def drawInt (s : State) : Int × State := (Config.freeInt s.free, { s with free := s.free + 1 })

/-- Draw a free choice. -/
def drawBool (s : State) : Bool × State := (Config.freeBool s.free, { s with free := s.free + 1 })

/-- A quotient of the lane image's arithmetic: the spec fixes it to one unit, so its rounding is free unless it divides exactly (R175, R214;
log entry 7). -/
def qdiv (a : Int) (b : Nat) : Int :=
  if b = 0 then 0 else if a % b = 0 then a / b else a / b + (if Config.laneRoundUp a b then 1 else 0)

/-! ### Objects -/

/-- The key of an object in the dictionary's tables: index and subindex. -/
def okey (idx sub : Nat) : Nat := idx * 256 + sub

/-- The value of an object in force: the last one applied, else its default. -/
def State.val (s : State) (idx sub : Nat) : ObjVal :=
  match Tab.find s.dict.vals (okey idx sub) with
  | some v => v
  | none => match objDesc idx sub with
    | some d => if d.numeric then .num d.dflt else .bytes []
    | none => .num 0

/-- The staged value of an object, or the active one when no change is staged (R147). -/
def State.stagedVal (s : State) (idx sub : Nat) : ObjVal :=
  match Tab.find s.dict.staged (okey idx sub) with
  | some v => v
  | none => s.val idx sub

/-- A numeric object in force. -/
def State.num (s : State) (idx sub : Nat) : Int := (s.val idx sub).toInt

/-- A numeric object in force, as a natural number. -/
def State.cfg (s : State) (idx sub : Nat) : Nat := (s.num idx sub).toNat

/-- A numeric object of the staged copy. -/
def State.cfgStaged (s : State) (idx sub : Nat) : Nat := (s.stagedVal idx sub).toInt.toNat

/-- A numeric object of the staged copy, signed. -/
def State.numStaged (s : State) (idx sub : Nat) : Int := (s.stagedVal idx sub).toInt

/-- An object in force as bytes. -/
def State.octets (s : State) (idx sub : Nat) : Bytes := (s.val idx sub).toBytes

/-- Put a value in force. -/
def State.setVal (s : State) (key : Nat) (v : ObjVal) : State :=
  { s with dict := { s.dict with vals := Tab.put s.dict.vals key v } }

/-- Put a numeric value in force. -/
def State.setNum (s : State) (idx sub : Nat) (v : Int) : State := s.setVal (okey idx sub) (.num v)

/-! ### The envelope (R255) -/

/-- Whether a valid envelope is in force. -/
def State.hasEnv (s : State) : Bool := s.fb.envelope.isSome

/-- An envelope field in force; an omitted field takes its default (R256). -/
def State.env (s : State) (idx sub : Nat) : Int :=
  match s.fb.envelope with
  | none => 0
  | some e => match Tab.find e (okey idx sub) with
    | some v => v
    | none => match objDesc idx sub with
      | some d => d.dflt
      | none => 0

/-! ### Roles and states -/

/-- Whether the unit runs in a pair (2100.01, R7); with the Tether link up, it counts as one until it has compared configurations with its
partner (R438). -/
def State.inPair (s : State) : Bool := s.cfg 0x2100 0x01 = 1 || (s.pair.tether != 0 && !s.pair.ready.getLsbD 2)

/-- Whether this unit is Unit B (R375). -/
def State.unitB (s : State) : Bool := s.links.strap = 1

/-- Whether a role counts as active (R436); a claiming unit counts as the role it held before. -/
def State.countsActive (s : State) : Bool :=
  match s.pair.role with
  | .single | .active | .outgoing | .takingOver => true
  | .claiming => s.pair.wasActive
  | .undecided | .joining | .standby | .incoming => false

/-- Whether the unit counts as standby (R436): the roles of a pair that do not count as active. -/
def State.countsStandby (s : State) : Bool := !s.countsActive

/-- Whether the module is in ISOLATED or SERVICE (the states of an RWI write, R382). -/
def State.idle (s : State) : Bool := s.core.opState = .isolated || s.core.opState = .service

/-- Whether the state's contactors are closed and dispatch runs (ONLINE, DERATED). -/
def State.online (s : State) : Bool := s.core.opState = .online || s.core.opState = .derated

/-! ### Reporting -/

/-- Send a message to the Ranger: it crosses into Q24 in its own step, FAULT_MESSAGE (R472). -/
def State.send (s : State) (m : FaultMsg) : State :=
  { s with ranger := { s.ranger with outbox := s.ranger.outbox ++ [{ m with cycle := s.core.cycle }] } }

/-- Report an occurrence or a condition that has just qualified. -/
def State.report (s : State) (source kind : Nat) (sev : Sev) (cls val : Nat) : State :=
  s.send { source := source, kind := kind, sev := some sev, cls := cls, val := val }

/-- Report with the injected bit of R488. -/
def State.reportInj (s : State) (inj : Bool) (source kind : Nat) (sev : Sev) (cls val : Nat) : State :=
  s.send { source := source, kind := kind, sev := some sev, cls := cls, val := val, injected := inj }

/-- Send the clear of a fault (R470). -/
def State.clearFault (s : State) (source kind cls val : Nat) : State :=
  s.send { source := source, kind := kind, sev := none, cls := cls, val := val }

/-- Whether a fault is active in the Ranger's table. -/
def State.faultActive (s : State) (source kind cls val : Nat) : Bool :=
  s.ranger.active.any fun a => a.msg.same { source := source, kind := kind, sev := none, cls := cls, val := val }

/-- The last message about a fault still on its way to the Ranger. -/
def State.faultOnWay (s : State) (source kind cls val : Nat) : Option Bool :=
  s.ranger.outbox.foldl
    (fun r m => if m.same { source := source, kind := kind, sev := none, cls := cls, val := val } then some m.sev.isSome else r)
    none

/-- Whether the source counts the fault as raised: active, or its raise is on the way and no clear after it. -/
def State.raised (s : State) (source kind cls val : Nat) : Bool :=
  match s.faultOnWay source kind cls val with
  | some b => b
  | none => s.faultActive source kind cls val

/-- Raise a lasting condition once. -/
def State.raiseOnce (s : State) (source kind : Nat) (sev : Sev) (cls val : Nat) : State :=
  if s.raised source kind cls val then s else s.report source kind sev cls val

/-- Clear a lasting condition if it is raised. -/
def State.clearOnce (s : State) (source kind cls val : Nat) : State :=
  if s.raised source kind cls val then s.clearFault source kind cls val else s

/-- A missed deadline of the third or fourth class is counted for its stream and reported as an occurrence (R29). -/
def missStream (source value : Nat) (s : State) : State :=
  { s with core := { s.core with missedStream := Tab.mod s.core.missedStream (4 * source + value) 0 inc32 } }.report source 0xB6 .notice 5 value

/-- Whether any active fault is of a kind. -/
def State.kindActive (s : State) (kind : Nat) : Bool := s.ranger.active.any fun a => a.msg.kind = kind

/-- Severity code of an active fault. -/
def ActiveFault.code (a : ActiveFault) : Nat :=
  match a.msg.sev with
  | some v => v.code
  | none => 0

/-- Highest severity code among active faults, 0 when there is none; the latched lockout counts at LOCKOUT (R470). -/
def State.maxSev (s : State) : Nat :=
  s.ranger.active.foldl (fun m a => max m a.code) (if s.core.lockoutLatched then 5 else 0)

/-- 8800.02: highest active severity at WARN and above, 0xFF when none (R496). -/
def State.highest (s : State) : Nat := if 2 ≤ s.maxSev then s.maxSev else 0xFF

/-- Whether a fault at DEGRADE or above is active (R31, R475). -/
def State.degraded (s : State) : Bool := 3 ≤ s.maxSev

/-- Whether a fault at TRIP or above is active. -/
def State.tripFault (s : State) : Bool := 4 ≤ s.maxSev

/-! ### Tally, journal, responses -/

/-- Queue a Tally record in Q25, which holds 4,096; a record that finds it full is lost and counted (R491, R493). -/
def State.tallyFlags (s : State) (flags kind : Nat) (body : Bytes) : State :=
  let r : TallyRec := { kind := kind, body := body, flags := flags, cycle := s.core.cycle, sec := s.clock.sec, ns := s.clock.ns,
                        locked := s.clock.state = .locked, opTime := s.power.opTime, power := s.power.powerCycles }
  if s.tally.q25.length < 4096 then { s with tally := { s.tally with q25 := s.tally.q25 ++ [r] } }
  else { s with tally := { s.tally with lost := add32 s.tally.lost 1, counts := Tab.mod s.tally.counts 7 0 inc32 } }

/-- Queue a Tally record of the running module: cycle and time present. -/
def State.tell (s : State) (kind : Nat) (body : Bytes) : State := s.tallyFlags 3 kind body

/-- A block-event record: event, subject, items (R494). -/
def State.tellEvent (s : State) (kind event subject : Nat) (items : Bytes) : State :=
  s.tell kind (le 1 event ++ le 1 0 ++ le 2 subject ++ items)

/-- Queue a record for a fixed journal slot (R531). -/
def State.journal (s : State) (slot kind : Nat) (payload : Bytes) : State :=
  { s with storage := { s.storage with
      queue := s.storage.queue ++ [{ slot := some slot, kind := kind, payload := payload, cycle := s.core.cycle }] } }

/-- Queue a response or notification (Q29, Q30); 0xFFFF stands for no session, and what is for it is dropped. -/
def State.answer (s : State) (r : Response) : State :=
  if r.session = 0xFFFF then s else { s with dict := { s.dict with responses := s.dict.responses ++ [r] } }

/-- The body of a response without values: a WRITE names its first failing entry, 0xFFFF when none fails (R394). -/
def replyBody (type abort : Nat) : Bytes :=
  if type = 2 then le 2 (if abort = 0 then 0xFFFF else 0) ++ le 2 0 else []

/-- The response to request `req` of type `type` with an abort code (0 = success), for the cycle it names. -/
def State.replyAt (s : State) (session req type abort : Nat) (cyc : Cycle) : State :=
  s.answer { session := session, req := req, type := type + 0x80, cycle := cyc, abort := abort, body := replyBody type abort }

/-- The response to a request that takes effect in the present cycle. -/
def State.reply (s : State) (session req type abort : Nat) : State := s.replyAt session req type abort s.core.cycle

/-- An abort code with its argument (R401). -/
def abortArg (code arg : Nat) : Nat := code + arg % 0x10000

/-! ### Sessions -/

/-- A session's context. -/
def State.session (s : State) (n : Nat) : Session := Tab.at s.dict.sessions n {}

/-- Update a session's context. -/
def State.modSession (s : State) (n : Nat) (f : Session → Session) : State :=
  { s with dict := { s.dict with sessions := Tab.mod s.dict.sessions n {} f } }

/-- Whether a session holds role bit `b` (1020.02: 0 Observer … 6 Partner). -/
def Session.has (c : Session) (b : Nat) : Bool := c.roles.getLsbD b

/-! ### Cells and points of the tables -/

/-- Configuration field `sub` of cell k (3000 + k − 1). -/
def State.cellCfg (s : State) (k sub : Nat) : Nat := s.cfg (0x3000 + k - 1) sub

/-- State part of cell k. -/
def State.cell (s : State) (k : Nat) : CellState := Tab.at s.cells k {}

/-- Update the state part of cell k. -/
def State.modCell (s : State) (k : Nat) (f : CellState → CellState) : State :=
  { s with cells := Tab.mod s.cells k {} f }

/-- Configuration field `sub` of point n (3400 + n), with the default map of R143. -/
def State.pointCfg (s : State) (n sub : Nat) : Int :=
  match Tab.find s.dict.vals (okey (0x3400 + n) sub) with
  | some v => v.toInt
  | none =>
    if n < 1024 then (match sub with | 1 => 1 | 2 => n / 16 + 1 | 3 => n % 16 + 1 | _ => s.num (0x3400 + n) sub)
    else if n < 1088 then (match sub with | 1 => 2 | 2 => n - 1024 + 1 | _ => s.num (0x3400 + n) sub)
    else if n < 1096 then (match sub with | 1 => 3 | 2 => n - 1088 + 1 | _ => s.num (0x3400 + n) sub)
    else if n < 1102 then (match sub with | 1 => 4 | 2 => n - 1096 + 1 | _ => s.num (0x3400 + n) sub)
    else if n = 1102 then (match sub with | 1 => 5 | 2 => 4 | 13 => 1088 | 15 => 1089 | _ => s.num (0x3400 + n) sub)
    else s.num (0x3400 + n) sub

/-- State part of point n. -/
def State.point (s : State) (n : Nat) : PointState := Tab.at s.points n {}

/-- Whether point n is good. -/
def State.pointGood (s : State) (n : Nat) : Bool := (s.point n).quality = .good

/-- Number of configured cell channels of head P: the entries of the cell table that name it (R139). -/
def State.channels (s : State) (p : Nat) : Nat :=
  (s.dict.vals.filter fun e => e.1 % 256 = 1 && 0x3000 ≤ e.1 / 256 && e.1 / 256 ≤ 0x31FF && e.2 = .num p).length

/-- Number of the first cell of head P (R93): one above the configured cells of the heads before it. -/
def State.firstCell (s : State) (p : Nat) : Nat :=
  1 + ((upFrom 1 (p - 1)).map s.channels).foldl (· + ·) 0

/-- Number of configured cells Nc (R139). -/
def State.cellCount (s : State) : Nat :=
  (s.dict.vals.filter fun e => e.1 % 256 = 1 && 0x3000 ≤ e.1 / 256 && e.1 / 256 ≤ 0x31FF && e.2 != .num 0).length

/-- The cell numbers of head P. -/
def State.cellsOf (s : State) (p : Nat) : List Nat := upFrom (s.firstCell p) (s.channels p)

/-- The configured cells. -/
def State.allCells (s : State) : List Nat := upFrom 1 s.cellCount

/-- The heads the configuration counts, 1 to n (2100.02). -/
def State.allHeads (s : State) : List Nat := upFrom 1 (s.cfg 0x2100 0x02)

end Sys2Proof.Machine
end

