-- ==== Sys2Proof/Machine/Operands.lean ====
section
/-! DEFINITION. The checks every written operand passes before it acts: roles (R383), types and ranges (R381, R389), scope and standby
(R385), state (R382), staging ownership (R146), and the abort codes of R401. -/

namespace Sys2Proof.Machine

open Sys2Proof

/-- Abort codes of R401 and R554 the model answers with. -/
def abNoObject : Nat := 0x01010000
def abNoSub : Nat := 0x01020000
def abReadOnly : Nat := 0x02010000
def abWriteOnly : Nat := 0x02020000
def abRole : Nat := 0x02030000
def abOwned : Nat := 0x02040000
def abNotHolder : Nat := 0x02050000
def abStagingHeld : Nat := 0x02060000
def abNotOwner : Nat := 0x02070000
def abStandby : Nat := 0x02080000
def abUnadopted : Nat := 0x02090000
def abReadRole : Nat := 0x020A0000
def abType : Nat := 0x03010000
def abLength : Nat := 0x03020000
def abRange : Nat := 0x03030000
def abEnvelope : Nat := 0x03040000
def abReserved : Nat := 0x03050000
def abTableCheck : Nat := 0x03060000
def abTable : Nat := 0x03070000
def abState : Nat := 0x04010000
def abNoRow : Nat := 0x04020000
def abHandOver : Nat := 0x04030000
def abNoProvoke : Nat := 0x04040000
def abActiveOnly : Nat := 0x04050000
def abInterlock : Nat := 0x04060000
def abNotReleased : Nat := 0x04070000
def abNoContext : Nat := 0x05010000
def abSubLimit : Nat := 0x05020000
def abIdentityLimit : Nat := 0x05030000
def abTransferOpen : Nat := 0x05040000
def abOffset : Nat := 0x06010000
def abSegment : Nat := 0x06020000
def abCrc : Nat := 0x06030000
def abTimeout : Nat := 0x06040000
def abMalformed : Nat := 0x06050000
def abTransport : Nat := 0x06060000
def abTooLong : Nat := 0x06070000
def abStorage : Nat := 0x0A090000

/-- The abort code that names the present operating state (R401: 0x0401, 0x0402). -/
def State.stateAbort (s : State) (code : Nat) : Nat := abortArg code s.core.opState.code

/-- Whether a session holds a write role (R383): the chain Observer < Operator < Engineer < Integrator; Dispatcher, Arbiter and
Partner outside it; lease holder by identity (R298), also while its claim waits for the boundary that applies claims first (R300); staging owner by session (R146). -/
def State.meets (s : State) (sess role : Nat) : Bool :=
  let c := s.session sess
  match role with
  | 1 => c.has 0 || c.has 1 || c.has 3 || c.has 4
  | 2 => c.has 1 || c.has 3 || c.has 4
  | 3 => c.has 2
  | 4 => c.has 3 || c.has 4
  | 5 => c.has 4
  | 6 => c.has 5
  | 7 => c.has 6
  | 8 => (s.sawyer.holder != 0 && c.identity = s.sawyer.holder) || s.sawyer.events.any fun e => e.kind = 2 && e.identity = c.identity
  | 9 => s.dict.owner = some sess
  | _ => false

/-- The abort code of a role that is not met (R401). -/
def roleAbort (role : Nat) : Nat :=
  match role with
  | 8 => abNotHolder
  | 9 => abNotOwner
  | _ => abortArg abRole role

/-- Ranges that the notes of an object state beyond a minimum and maximum: powers of two, multiples, lists of values. -/
def extraRange (idx sub : Nat) (v : Int) : Bool :=
  let n := v.toNat
  if 0x6860 ≤ idx && idx ≤ 0x6863 && sub = 6 then (upFrom 0 9).any fun k => n = 2 ^ k
  else if idx = 0x4800 && sub = 5 then n % 10 = 0
  else if idx = 0x4800 && sub = 3 then ((upFrom 0 8).filter fun i => n.testBit i).length = 4
  else if idx = 0x5000 && sub = 0x0A then n = 0 || 86400 ≤ n
  else if 0x3000 ≤ idx && idx ≤ 0x31FF && (sub = 6 || sub = 7) then n ≤ 2047 || n = 0xFFFF
  else if (idx = 0x7200 || idx = 0x7201) && sub = 2 then n = 125 || n = 250 || n = 500 || n = 1000
  else if (idx = 0x7200 || idx = 0x7201) && sub = 3 then n = 1000 || n = 2000 || n = 4000 || n = 5000
  else if (idx = 0x7200 || idx = 0x7201) && (sub = 4 || sub = 5) then 60 ≤ n && n ≤ 90
  else if 0x7210 ≤ idx && idx ≤ 0x730F && sub = 7 then n ≤ 15 || n = 0xFF
  else if 0x7210 ≤ idx && idx ≤ 0x730F && sub = 6 then
    n ≤ 8 || n = 12 || n = 16 || n = 20 || n = 24 || n = 32 || n = 48 || n = 64
  else if 0x6840 ≤ idx && idx ≤ 0x6845 && sub = 3 then n ≤ 1000 || n = 0xFFFF
  else if 0xA010 ≤ idx && idx ≤ 0xA016 && sub = 7 then n != 0
  else true

/-- The bits of a writable bit map that have a meaning; the others are reserved and must be written 0 (R11, R389). -/
def definedBits (idx sub : Nat) : Option Nat :=
  if 0x3000 ≤ idx && idx ≤ 0x31FF && sub = 4 then some 7
  else if 0x3400 ≤ idx && idx ≤ 0x3BFF && sub = 4 then some 3
  else if 0x6810 ≤ idx && idx ≤ 0x682F && sub = 8 then some 0x0F
  else if idx = 0x9050 && sub = 3 then some 7
  else if (idx = 0xA010 || idx = 0xA011) && sub = 0x10 then some 0x1F
  else none

/-- Whether a number written to an object sets a reserved bit. -/
def setsReserved (idx sub : Nat) (n : Int) : Bool :=
  match definedBits idx sub with
  | some m => 0 ≤ n && n ≤ 255 && n.toNat ||| m != m
  | none => false

/-- Type, length and range of a value for an object (R381, R382): a WO BOOL is a command and takes 1 only; reserved bits are 0 (R11). -/
def valueCheck (d : ObjDesc) (idx sub : Nat) (v : ObjVal) : Nat :=
  match v with
  | .num n =>
    if !d.numeric then abType
    else if d.ty = 1 && d.access = 2 && n != 1 then abRange
    else if setsReserved idx sub n then abReserved
    else if d.min ≤ n && n ≤ d.max && extraRange idx sub n then 0
    else abRange
  | .bytes b =>
    if d.numeric then abType
    else if d.ty = 0x0E then (if b.length = 10 then 0 else abLength)
    else if d.ty = 0x0C then (if b.length ≤ 255 then 0 else abLength)
    else if b.length ≤ 65536 then 0 else abLength

/-- A write to an object as the module checks it when it is served (R389): existence, access, adoption, role, standby, type and range,
envelope (R257's condition on 2012.03), state of an unstaged RWI object, staging owner of a staged one. 0 = accepted. -/
def State.writeCheck (s : State) (sess idx sub : Nat) (v : ObjVal) : Nat :=
  if highestSub idx = 0 then abNoObject
  else match objDesc idx sub with
  | none => abNoSub
  | some d =>
    if d.access = 0 || d.persist = 2 && d.access = 0 then abReadOnly
    else if !s.sec.adopted && idx != 0x7801 then abUnadopted
    else if !s.meets sess d.role then roleAbort d.role
    else if d.stringScope && s.inPair && s.countsStandby then abStandby
    else if valueCheck d idx sub v != 0 then valueCheck d idx sub v
    else if idx = 0x2012 && sub = 3 && v = .num 0 && s.hasEnv && s.env 0x5803 1 = 1 then abEnvelope
    else if d.access = 4 && !d.staged && !s.idle then s.stateAbort abState
    else if d.staged && s.dict.owner.isSome && s.dict.owner != some sess then abortArg abStagingHeld (s.dict.owner.getD 0)
    else if (s.dict.sessions.any fun e => e.1 != sess && match e.2.block with
        | some x => x.key = okey idx sub
        | none => false) then abTransferOpen
    else 0

/-- A command object written with 1 by a session (its role, scope and adoption checked as any write). -/
def State.commandCheck (s : State) (sess idx sub : Nat) : Nat := s.writeCheck sess idx sub (.num 1)

/-- Whether an object may be read by a session, as an abort code (R382, R384, R385); 8040.02 is open to both units in an overlap (R465). -/
def State.readCheck (s : State) (sess idx sub : Nat) : Nat :=
  if sub = 0 then (if highestSub idx = 0 then abNoObject else 0)
  else if highestSub idx = 0 then abNoObject
  else match objDesc idx (if 0x3000 ≤ idx && idx ≤ 0x3BFF && 0x80 ≤ sub then sub - 0x80 else sub) with
  | none => abNoSub
  | some d =>
    if d.access = 2 then abWriteOnly
    else if !s.sec.adopted && d.restricted then abUnadopted
    else if d.restricted && !s.meets sess d.readRole then abortArg abReadRole d.readRole
    else if d.activeOnly && s.inPair && s.countsStandby && !(idx = 0x8040 && s.pair.phase = 4) then abActiveOnly
    else 0

/-- The first cycle in which a write served now is in force (R27, R388): the next one, or the one after it once the cycle's data
has crossed into CD-LANE. -/
def State.effective (s : State) : Cycle := if s.core.crossed then s.ahead 2 else s.ahead 1

end Sys2Proof.Machine
end

