-- ==== Sys2Proof/Machine/Flags.lean ====
section
/-! DEFINITION. The status bits of the spec by name: front-end status (R133), discrete inputs (R134), cell flags (R138), protection causes
(R279), domains (R503), and how each is set and cleared. -/

namespace Sys2Proof.Machine

open Sys2Proof

/-! ### Front-end status, bytes 26-27 of the string record (R133) -/

/-- Bit positions of the front-end status. -/
def feStrobe : Nat := 0
def feVoltOk : Nat := 1
def feMainOk : Nat := 2
def feOver : Nat := 3
def feZeroing : Nat := 4
def feInService : Nat := 5
def feHallOk : Nat := 6
def feCross : Nat := 7
def fePath : Nat := 8
def feIsoStale : Nat := 9
def feInjecting : Nat := 10
def feHallTrip : Nat := 11
def feMatched : Nat := 12
def feRange : Nat := 13

/-- A front-end status bit. -/
def State.feBit (s : State) (i : Nat) : Bool := s.fe.status.getLsbD i

/-- Set or clear a front-end status bit. -/
def State.setFe (s : State) (i : Nat) (v : Bool) : State :=
  { s with fe := { s.fe with status := setBit s.fe.status i v } }

/-! ### Discrete inputs, bytes 28-29 (R134) -/

/-- Bit positions of the discrete inputs. -/
def diKpNo : Nat := 0
def diKpNc : Nat := 1
def diKnNo : Nat := 2
def diKnNc : Nat := 3
def diEstop : Nat := 4
def diFire : Nat := 5
def diHvil : Nat := 6
def diLoop : Nat := 7

/-- A discrete input as it stood at Ts. -/
def State.di (s : State) (i : Nat) : Bool := s.fe.discrete.getLsbD i

/-! ### Cell flags, offset 108 (R138) -/

/-- Bit positions of the cell flags. -/
def cfSenseLost : Nat := 0
def cfTapSuspect : Nat := 1
def cfDivergence : Nat := 2
def cfRelearnUp : Nat := 3
def cfRelearnDown : Nat := 4
def cfInserted : Nat := 5
def cfEndCharge : Nat := 6
def cfEndDischarge : Nat := 7
def cfDeferred : Nat := 8
def cfExcluded : Nat := 9
def cfShort : Nat := 10
def cfHealth : Nat := 11

/-- A flag of a cell. -/
def CellState.flag (c : CellState) (i : Nat) : Bool := c.flags.getLsbD i

/-- Set or clear a flag of a cell. -/
def CellState.setFlag (c : CellState) (i : Nat) (v : Bool) : CellState := { c with flags := setBit c.flags i v }

/-- Set or clear a flag of cell k. -/
def State.setCellFlag (s : State) (k i : Nat) (v : Bool) : State := s.modCell k fun c => c.setFlag i v

/-! ### Protection causes, 5810.01 (R279) -/

/-- Bit positions of the protection causes. -/
def pcOv : Nat := 0
def pcUv : Nat := 1
def pcHardOv : Nat := 2
def pcHardUv : Nat := 3
def pcOverTemp : Nat := 4
def pcUnderTemp : Nat := 5
def pcHardTemp : Nat := 6
def pcCoolant : Nat := 7
def pcStringOv : Nat := 8
def pcHall : Nat := 9
def pcI2tChg : Nat := 10
def pcI2tDis : Nat := 11
def pcInsulation : Nat := 12
def pcUnmeasured : Nat := 13
def pcEstop : Nat := 14
def pcHvil : Nat := 15
def pcFire : Nat := 16
def pcLoop : Nat := 17
def pcCurrentLost : Nat := 18
def pcConfig : Nat := 19
def pcDisconnector : Nat := 20

/-- Whether a protection cause is active. -/
def State.cause (s : State) (i : Nat) : Bool := s.fb.causes.getLsbD i

/-- Set or clear a protection cause. -/
def State.setCause (s : State) (i : Nat) (v : Bool) : State :=
  { s with fb := { s.fb with causes := setBit s.fb.causes i v } }

/-! ### Power domains, 9001.01 (R503) -/

/-- Whether domain PDn is powered. -/
def State.pd (s : State) (n : Nat) : Bool := s.power.domains.getLsbD n

/-- Switch a list of domains on or off. -/
def State.setDomains (s : State) (l : List Nat) (v : Bool) : State :=
  { s with power := { s.power with domains := l.foldl (fun d n => setBit d n v) s.power.domains } }

end Sys2Proof.Machine
end

