-- ==== Sys2Proof/Machine/Coils.lean ====
section
/-! DEFINITION. Contactor coils and the trip sequencer: confirmed positions (R128), drive and release (R124-R126, R131), the start of a trip
sequence (R269, R271, R272). -/

namespace Sys2Proof.Machine

open Sys2Proof

/-- Contactor 0 is K+, 1 is K− (R469). -/
def State.contactor (s : State) (k : Nat) : Contactor := if k = 0 then s.fe.kp else s.fe.kn

/-- Update contactor k. -/
def State.modContactor (s : State) (k : Nat) (f : Contactor → Contactor) : State :=
  if k = 0 then { s with fe := { s.fe with kp := f s.fe.kp } } else { s with fe := { s.fe with kn := f s.fe.kn } }

/-- Whether the NC contact of contactor k is wired (2013.04). -/
def State.ncWired (s : State) (k : Nat) : Bool := (s.cfg 0x2013 0x04).testBit k

/-- Confirmed open: NO open and NC closed; from NO alone when NC is not wired (R128). -/
def State.confirmedOpen (s : State) (k : Nat) : Bool :=
  let c := s.contactor k
  !c.no && (!s.ncWired k || c.nc)

/-- Confirmed closed: NO closed and NC open; from NO alone when NC is not wired (R128). -/
def State.confirmedClosed (s : State) (k : Nat) : Bool :=
  let c := s.contactor k
  c.no && (!s.ncWired k || !c.nc)

/-- Both contactors confirmed open. -/
def State.bothOpen (s : State) : Bool := s.confirmedOpen 0 && s.confirmedOpen 1

/-- Both contactors confirmed closed. -/
def State.bothClosed (s : State) : Bool := s.confirmedClosed 0 && s.confirmedClosed 1

/-- Whether this unit drives coil high sides: it counts as active, is the incoming unit of an overlap, catches a coil, or holds them
after a denial or an overlap ended by a lost heartbeat (R126). -/
def State.mayDrive (s : State) (k : Nat) : Bool :=
  s.countsActive || s.pair.holdUntil.isSome || Tab.flag s.pair.catching k
    || (s.pair.role = .incoming && s.pair.phase = 4)

/-- Drive a coil at pull-in current (R130). -/
def pullIn (k : Nat) (s : State) : State :=
  s.modContactor k fun c => { c with coil := .pullIn, commanded := true, since := s.core.cycle, closings := add32 c.closings 1 }

/-- Release both coils in one cycle: high sides off, low sides opened when `open_` says so, the weld check's auxiliary stage started
(R131). -/
def releaseCoils (open_ : Bool) (s : State) : State :=
  let rel := fun (c : Contactor) =>
    { c with coil := .off, commanded := false, since := s.core.cycle, lowSide := if open_ then false else c.lowSide }
  { s with fe := { s.fe with kp := rel s.fe.kp, kn := rel s.fe.kn, closingSince := none,
                             weldStage := .aux, weldSince := s.core.cycle, weldResult := 1, weldSums := (0, 0, 0) } }

/-- Let the low sides conduct again (R126). -/
def closeLowSides (s : State) : State :=
  { s with fe := { s.fe with kp := { s.fe.kp with lowSide := true }, kn := { s.fe.kn with lowSide := true } } }

/-- Open the low sides (R126). -/
def openLowSides (s : State) : State :=
  { s with fe := { s.fe with kp := { s.fe.kp with lowSide := false }, kn := { s.fe.kn with lowSide := false } } }

/-- Whether main current may be used: status bit [2] set and bit [3] clear (R254, R265). -/
def State.mainUsable (s : State) : Bool := s.feBit feMainOk && !s.feBit feOver

/-- The break current of the latest fast sample, none when no sensor is valid (R270). -/
def State.breakCurrent (s : State) : Option Nat :=
  let m := if s.mainUsable then some s.fe.fastMain.natAbs else none
  let h := if s.feBit feHallOk then some s.fe.fastHall.natAbs else none
  match m, h with
  | some a, some b => some (max a b)
  | some a, none => some a
  | none, some b => some b
  | none, none => none

/-- Whether the current is at or below the break current 5802.07, in A (R270: with no valid sensor it counts as above). -/
def State.belowBreak (s : State) : Bool :=
  match s.breakCurrent with
  | some i => (i : Int) ≤ s.env 0x5802 7 * 1000
  | none => false

/-- Whether the operating state has a trip sequence to run: contactors closing or closed (R31, R272). -/
def OpStateRunsTrip (st : OpState) : Bool := st = .closing || st = .online || st = .derated

/-- Whether a trip sequence still has a coil to release: a low side conducts or a high side is driven. -/
def State.coilsHeld (s : State) : Bool :=
  s.fe.kp.lowSide || s.fe.kn.lowSide || s.fe.kp.coil != .off || s.fe.kn.coil != .off

/-- A cause starts the trip sequencer (R268, R269). With the contactors closing, closed or opening TRIP-PCS opens and the sequence runs
unless one has started (R271); with them open TRIP-PCS opens, and a Firebreak cause or the trip branch of a supply loss opens the low sides too (R126, R272,
R501); BOOT, OFF and SLEEP only record the cause (R272). `wait` is the break wait in ms. -/
def startTripWait (wait : Nat) (firebreak : Bool) (s : State) : State :=
  match s.core.opState with
  | .off | .boot | .sleep => s
  | .closing | .online | .derated | .tripping =>
    if s.fb.trip.running || !s.coilsHeld then { s with fb := { s.fb with tripPcs := true } }
    else { s with fb := { s.fb with tripPcs := true, lastTrip := s.core.cycle,
                                    trip := { running := true, at_ := s.core.cycle, us := 0, released := false, wait := wait } } }
  | .isolated | .precheck | .service =>
    let s := { s with fb := { s.fb with tripPcs := true } }
    if firebreak then openLowSides s else s
  | .tripped | .lockout => { s with fb := { s.fb with tripPcs := true } }

/-- Start the trip sequencer with the envelope's break wait (5802.08), or none at a seat-detect opening (R559). -/
def startTrip (firebreak : Bool) (s : State) : State :=
  startTripWait (if s.seat.noWait then 0 else (s.env 0x5802 8).toNat) firebreak s

/-- A Firebreak cause of bit `i`, subject `subj` (cell or point, 0xFFFF none) qualifies: 5810.01 to 5810.03, and the sequencer. -/
def fbCause (i subj : Nat) (s : State) : State :=
  let s := s.setCause i true
  startTrip true { s with fb := { s.fb with lastCause := BitVec.ofNat 32 (i * 0x1000000 + subj % 0x10000), lastTrip := s.core.cycle } }

end Sys2Proof.Machine
end

