-- ==== Sys2Proof/Machine/RingOps.lean ====
section
/-! DEFINITION. The Yarder's side of the ring: its counters (R74), its command queues (R50-R53) and the asynchronous window (R25). -/

namespace Sys2Proof.Machine

open Sys2Proof

/-- Opcodes of the head commands (R86). -/
def opIdentify : Nat := 0x01
def opOpen : Nat := 0x02
def opSetPosition : Nat := 0x03
def opSetDelay : Nat := 0x04
def opConfigure : Nat := 0x05
def opUnwrap : Nat := 0x06
def opBleedSlot : Nat := 0x10
def opBleedOff : Nat := 0x11
def opOwTest : Nat := 0x12
def opSwitchTest : Nat := 0x13
def opReadStatus : Nat := 0x20
def opTestRef : Nat := 0x30
def opRestart : Nat := 0x31
def opEcho : Nat := 0x3F

/-- Response length M the Yarder uses for an opcode (R86). -/
def respLen (op payload : Nat) : Nat :=
  if op = opIdentify then 29 else if op = opReadStatus then 19 else if op = opEcho then payload + 5 else 6

/-- The source code of a ring port (R468). -/
def srcRing (port : Nat) : Nat := 0x020 + port

/-- The address of head and tap, class 2 (R469). -/
def headTap (p tap : Nat) : Nat := p * 256 + tap

/-- The key of a tap in the tables of the tap monitor. -/
def tapKey (p tap : Nat) : Nat := 32 * p + tap

/-- The Yarder's registers of head P. -/
def State.info (s : State) (p : Nat) : HeadInfo := Tab.at s.ring.heads p {}

/-- Update the Yarder's registers of head P. -/
def State.modInfo (s : State) (p : Nat) (f : HeadInfo → HeadInfo) : State :=
  { s with ring := { s.ring with heads := Tab.mod s.ring.heads p {} f } }

/-- Counter of R74, row 1 to 11, of a port. -/
def State.counter (s : State) (port row : Nat) : Nat := Tab.nat s.ring.counters (16 * port + row)

/-- Advance a counter of R74 by n. -/
def State.count (s : State) (port row n : Nat) : State :=
  { s with ring := { s.ring with counters := Tab.mod s.ring.counters (16 * port + row) 0 fun c => add32 c n } }

/-- Whether a ring port is fenced (R479; class 1 of the fenced list). -/
def State.portFenced (s : State) (port : Nat) : Bool := s.ranger.fenced.contains (1, port)

/-- Whether a port originates SYNC in the present cycle: RING-W, and RING-E too while both originate; with a fenced port only the other
one (R63, R69). -/
def State.originates (s : State) (port : Nat) : Bool :=
  s.ring.originating && !s.portFenced port && (port = 0 || s.ring.bothPorts || s.portFenced 0)

/-- Whether P counts from the far end: Unit B of a pair sits at the E end of the ring, and P counts from Unit A's (R55, R71). -/
def State.farNumbered (s : State) : Bool := s.inPair && s.links.strap = 1

/-- n, the number of heads: as enumerated, the configured count where enumeration has found fewer on a broken ring (R8, R59). -/
def State.ringN (s : State) : Nat :=
  let n := s.ring.headCount
  if n != 0 && (s.ring.enum.found.2.2 || s.cfg 0x2100 2 ≤ n) then n else s.cfg 0x2100 2

/-- The head at hop `h` from the near end, and the hop of a head: P for Unit A, n + 1 − P for Unit B. -/
def State.nearHop (s : State) (p : Nat) : Nat := if s.farNumbered then s.ringN + 1 - p else p

/-- Hops of head P from a port. -/
def State.hopFrom (s : State) (port p : Nat) : Nat := if port = 0 then s.nearHop p else s.ringN + 1 - s.nearHop p

/-- The port that serves head P. -/
def State.portOf (s : State) (p : Nat) : Nat := if (s.info p).from_ = 1 then 1 else 0

/-- The port at which originated traffic ends: in a closed ring the one that does not originate, in a ring wrapped at its far end the
originating port itself (R63, R73). -/
def State.receivePort (s : State) : Nat :=
  let near := if s.originates 0 then 0 else 1
  if s.ring.state = .wrapped && !s.ring.bothPorts then near else 1 - near

/-- Put a command on a transmit queue: urgent Q0/Q4 or routine Q1/Q5 (R53). -/
def enqueue (urgent : Bool) (c : RingCmd) (s : State) : State :=
  let r := s.ring
  if urgent then
    if c.port = 0 then { s with ring := { r with q0 := r.q0 ++ [c] } } else { s with ring := { r with q4 := r.q4 ++ [c] } }
  else
    if c.port = 0 then { s with ring := { r with q1 := r.q1 ++ [c] } } else { s with ring := { r with q5 := r.q5 ++ [c] } }

/-- Whether the Yarder may send an opcode: TEST-REF and RESTART only in ISOLATED or SERVICE (R92); a relaying unit sends none (R70, R245). -/
def State.maySend (s : State) (op : Nat) : Bool :=
  s.ring.state != .relay && (s.idle || !(op = opTestRef || op = opRestart))

/-- Queue a position-mode command for head P on its port. -/
def State.command (s : State) (urgent : Bool) (p op : Nat) (payload : Bytes) : State :=
  if !s.maySend op then s
  else enqueue urgent { port := s.portOf p, mode := .position, addr := p, opcode := op, payload := payload,
                        resp := respLen op payload.length, head := p } s

/-- BLEED-OFF as a broadcast on Q0 and Q4 (R235). -/
def broadcastBleedOff (s : State) : State :=
  if s.ring.state = .relay then s
  else
    let c : RingCmd := { port := 0, mode := .broadcast, addr := 0, opcode := opBleedOff, resp := 0 }
    enqueue true { c with port := 1 } (enqueue true c s)

/-- Whether an opcode travels on the urgent queue (R53: bleed gating, open-wire tests, wrap control). -/
def urgentOp (op : Nat) : Bool :=
  op = opBleedSlot || op = opBleedOff || op = opOwTest || op = opSwitchTest || op = opUnwrap

/-- Bytes of a command frame (R50). -/
def RingCmd.size (c : RingCmd) : Nat := 14 + c.payload.length + c.resp

/-- Bytes a command's response takes in the raw buffer: P, opcode, sequence, status, data length, data (R449). -/
def RingCmd.stored (c : RingCmd) : Nat := if c.resp = 0 then 0 else c.resp + 1

/-- Commands of a queue that fit into `left` bytes and whose responses fit into `store`: those sent, those kept, what is left of both (R25: no
frame is split; R449). -/
def takeFit : List RingCmd → Nat → Nat → List RingCmd × List RingCmd × Nat × Nat
  | [], left, store => ([], [], left, store)
  | c :: t, left, store =>
    if c.size ≤ left && c.stored ≤ store then
      let (a, b, l) := takeFit t (left - c.size) (store - c.stored)
      (c :: a, b, l)
    else ([], c :: t, left, store)

/-- Number the frames that leave a port: a new one takes the port's next sequence number, a resend keeps its own (R52). -/
def numberFrames (cycle : Cycle) : List RingCmd → Nat → List RingCmd × Nat
  | [], n => ([], n)
  | c :: t, n =>
    if c.tries = 0 then
      let (a, m) := numberFrames cycle t ((n + 1) % 0x10000)
      ({ c with seq := n, sentAt := cycle } :: a, m)
    else
      let (a, m) := numberFrames cycle t n
      ({ c with sentAt := cycle } :: a, m)

/-- Room for the responses of the commands started in the present cycle: 448 bytes in a pair (R449). -/
def State.storeLeft (s : State) : Nat :=
  if s.inPair then 448 - ((s.ring.inFlight.filter fun c => c.sentAt = s.core.cycle).map RingCmd.stored).foldl (· + ·) 0 else 100000


/-- The bleed state of head P (R252). -/
def State.thinHead (s : State) (p : Nat) : ThinHead := Tab.at s.thin.heads p {}

/-- Update the bleed state of head P. -/
def State.modThin (s : State) (p : Nat) (f : ThinHead → ThinHead) : State :=
  { s with thin := { s.thin with heads := Tab.mod s.thin.heads p {} f } }

/-- Withdraw every map and send BLEED-OFF as a broadcast (R235). -/
def withdrawBleed (s : State) : State :=
  let off := fun (e : Nat × ThinHead) => (e.1, { e.2 with map := 0, slot := none, nextSlot := none, sent := none, state := 0 })
  broadcastBleedOff { s with thin := { s.thin with heads := s.thin.heads.map off, power := 0 } }

/-- Whether balancing may run (R235). -/
def State.mayBalance (s : State) : Bool :=
  (s.core.opState = .isolated || s.online) && s.cfg 0x5000 1 = 1

/-- Change the ring state, 2101.01 and 2101.08; the segment transit times are 0 when the ring is not wrapped (R77). -/
def setRing (st : RingState) (s : State) : State :=
  if s.ring.state = st then s
  else if st = .wrapped then { s with ring := { s.ring with state := st, lastChange := s.core.cycle } }
  else { s with ring := { s.ring with state := st, lastChange := s.core.cycle, segW := 0, segE := 0 } }

/-- Give every reachable head the port it is read from, and its hop count from there (R8, 2140.02, 2140.03). -/
def assignHeads (side : Nat → Nat) (s : State) : State :=
  s.allHeads.foldl (fun s p => s.modInfo p fun h => if h.unreachable then h else { h with from_ := side p, hop := s.hopFrom (side p) p }) s

/-- Hop counts of a relaying unit are counted from the partner, which originates at the ring's other end (R8, R71). -/
def relayHops (s : State) : State :=
  s.allHeads.foldl (fun s p => s.modInfo p fun h => if h.unreachable then h else { h with hop := s.hopFrom 1 p }) s

/-- Commands that wait on the other port's queues go out on the port that now serves every head; a broadcast is not sent twice. -/
def gatherQueues (port : Nat) (s : State) : State :=
  let r := s.ring
  let move := fun (l : List RingCmd) => (l.filter fun c => c.mode != .broadcast).map fun c => { c with port := port, tries := 0 }
  { s with ring := if port = 0 then { r with q0 := r.q0 ++ move r.q4, q1 := r.q1 ++ move r.q5, q4 := [], q5 := [] }
                   else { r with q4 := r.q4 ++ move r.q0, q5 := r.q5 ++ move r.q1, q0 := [], q1 := [] } }

/-- A fenced ring port is a break at the carrier on its side: the Yarder originates on the other port alone, which serves every head; the head nearest
the fenced port loses its input and wraps (R62, R69, R162). -/
def fenceRing (unit : Nat) (s : State) : State :=
  if !s.ring.originating || !(s.ring.state = .closed || s.ring.state = .wrapped) then s
  else
    let other := 1 - unit
    let s := setRing .wrapped { s with ring := { s.ring with bothPorts := false, breakFrom := none, unwrapAt := none } }
    let s := gatherQueues other <| assignHeads (fun _ => other) { s with cruiser := { s.cruiser with assign := s.allHeads.map fun p => (p, other), portsPending := true } }
    let last := s.allHeads.filter fun p => s.hopFrom unit p = 1
    let s := last.foldl (fun s p => { s with heads := Tab.mod s.heads p {} fun h =>
      { h with wrapped := true, failedSide := some (if s.farNumbered then 1 - unit else unit), failedAt := s.core.cycle, farSide := false } }) s
    (s.count other 9 1).raiseOnce (srcRing 0) 0x2A .warn 0 0

end Sys2Proof.Machine
end

