-- ==== Sys2Proof/Machine/OpStates.lean ====
section
/-! DEFINITION. The operating states: the transition table of R31, the order of events in a cycle (R32), and what entering a state does
(R30, R31, R126, R235, R478, R483). -/

namespace Sys2Proof.Machine

open Sys2Proof

/-- Rank of an event in one cycle (R32). The two ends of an accepted open request rank as it does. -/
def SmKind.rank : SmKind → Nat
  | .lockoutFault => 0
  | .tripFault => 1
  | .supplyLost => 2
  | .openRequest | .openDone | .openTimeout => 3
  | .degrade | .degradeCleared => 4
  | .close | .service | .exit | .reset | .clear | .sleep | .supplyPresent | .bootComplete | .joinStandby | .checksPass
  | .checkFails | .auxClosed | .closeExpired | .contactorsOpen | .wake | .lockoutWake | .sessionLost => 5

/-- Whether the event is a request that a session made. -/
def SmKind.request : SmKind → Bool
  | .openRequest | .close | .service | .exit | .reset | .clear | .sleep => true
  | .lockoutFault | .tripFault | .supplyLost | .degrade | .degradeCleared | .supplyPresent | .bootComplete | .joinStandby | .checksPass
  | .checkFails | .auxClosed | .closeExpired | .openTimeout | .openDone | .contactorsOpen | .wake | .lockoutWake | .sessionLost => false

/-- Whether the module is starting: in BOOT, or in LOCKOUT after a wake that locked out (R31, R504). -/
def State.starting (s : State) : Bool := s.core.opState = .boot || (s.core.opState = .lockout && s.power.boot.getLsbD 3)

/-- Whether no axis moves (R31, exit request). -/
def State.axesStopped (s : State) : Bool := s.axes.all fun e => e.2.vel = 0

/-- Whether a fault at LOCKOUT is still active (R31, clear request). -/
def State.lockoutCause (s : State) : Bool := s.ranger.active.any fun a => 5 ≤ a.code

/-- The state a row of R31 leads to from `st` on an event, whatever its condition; none where there is no row. The open request has a row
in ONLINE and DERATED and leaves the state to the contactors. -/
def smRow (s : State) (st : OpState) (e : SmEvent) : Option OpState :=
  match e.kind, st with
  | .supplyPresent, .off => some .boot
  | .bootComplete, .boot => some (if s.core.lockoutLatched then .lockout else .isolated)
  | .joinStandby, .boot => some e.follow
  | .close, .isolated => some .precheck
  | .service, .isolated => some .service
  | .sleep, .isolated => some .sleep
  | .checksPass, .precheck => some .closing
  | .checkFails, .precheck => some .isolated
  | .auxClosed, .closing => some (if s.degraded then .derated else .online)
  | .closeExpired, .closing => some .tripping
  | .degrade, .online => some .derated
  | .degradeCleared, .derated => some .online
  | .openRequest, .online => some .online
  | .openRequest, .derated => some .derated
  | .openDone, .online => some .isolated
  | .openDone, .derated => some .isolated
  | .openTimeout, .online => some .tripping
  | .openTimeout, .derated => some .tripping
  | .tripFault, .closing => some .tripping
  | .tripFault, .online => some .tripping
  | .tripFault, .derated => some .tripping
  | .lockoutFault, .closing => some .tripping
  | .lockoutFault, .online => some .tripping
  | .lockoutFault, .derated => some .tripping
  | .lockoutFault, .isolated => some .lockout
  | .lockoutFault, .precheck => some .lockout
  | .lockoutFault, .tripped => some .lockout
  | .lockoutFault, .service => some .lockout
  | .lockoutFault, .tripping => some .lockout
  | .contactorsOpen, .tripping => some (if s.core.lockoutLatched then .lockout else .tripped)
  | .reset, .tripped => some .isolated
  | .clear, .lockout => some .isolated
  | .exit, .service => some .isolated
  | .sessionLost, .service => some .isolated
  | .wake, .sleep => some .boot
  | .lockoutWake, .sleep => some .lockout
  | .supplyLost, .off => none
  | .supplyLost, _ => some .off
  | _, _ => none

/-- Whether this unit follows its partner's state and takes no row of its own but those that open the contactors (R33). -/
def State.follows (s : State) : Bool := s.inPair && s.countsStandby

/-- The condition of the row (R31). A ring configuration mismatch keeps the module out of PRECHECK (R61). -/
def smCondition (s : State) (st : OpState) (e : SmEvent) : Bool :=
  match e.kind, st with
  | .close, .isolated => !s.raised (srcRing 0) 0x23 0 0
  | .sleep, .isolated => s.bothOpen
  | .degrade, _ => s.degraded && !s.follows
  | .degradeCleared, _ => !s.degraded && !s.follows
  | .reset, .tripped => !s.tripFault
  | .clear, .lockout => !s.lockoutCause
  | .exit, .service => s.axesStopped
  | .sessionLost, .service => s.axesStopped
  | .lockoutFault, .tripping => s.fe.kp.welded || s.fe.kn.welded
  | _, _ => true

/-- The state an event leads to from `st`: its row with the condition met. -/
def smTarget (s : State) (st : OpState) (e : SmEvent) : Option OpState :=
  match smRow s st e with
  | some t => if smCondition s st e then some t else none
  | none => none

/-- Whether the RC of CD-AO has failed: its clock fault without a crystal's, which leaves it running untrimmed (R507). -/
def State.rcFailed (s : State) : Bool := s.power.clockFaults.getLsbD 9 && !s.power.untrimmed

/-- Whether WHISTLE runs: outside OFF, SLEEP and BOOT, with no fault at TRIP or above, the watchdog served and its clock running (R483,
R507). -/
def State.mayWhistle (s : State) : Bool :=
  (match s.core.opState with
   | .off | .sleep | .boot => false
   | .isolated | .precheck | .closing | .online | .derated | .tripping | .tripped | .lockout | .service => true)
  && !s.tripFault && !s.ranger.wdExpired && !s.rcFailed

/-- Set the WHISTLE output to what R483 gives. -/
def reWhistle (s : State) : State := { s with ranger := { s.ranger with whistle := s.mayWhistle } }

/-- Whether any Firebreak cause at TRIP or LOCKOUT is active. -/
def State.fbTrip (s : State) : Bool := s.fb.causes != 0

/-- Once no cause of the Firebreak at TRIP or LOCKOUT is active the low sides conduct again (R126), and TRIP-PCS is released unless something else still holds
the loop open (R256, R272). -/
def releaseTrip (s : State) : State :=
  if s.fbTrip then s
  else if s.tripFault || (!s.hasEnv && s.countsActive) then closeLowSides s
  else closeLowSides { s with fb := { s.fb with tripPcs := false, trip := { s.fb.trip with running := false } } }

/-- The lockout latch is set (R31, R475). -/
def latchLockout (s : State) : State := { s with core := { s.core with lockoutLatched := true } }

/-- Re-arm the first-trip register (R478). -/
def rearmFirstTrip (s : State) : State := { s with ranger := { s.ranger with firstTrip := {} } }

/-- Send command 2 and discard the window (R210): the descriptor stays in the frames up to the window's last cycle. With no window it is in the next frame. A
stopped window breaks a run of amplitude discards (R212). -/
def stopPerturbation (s : State) : State :=
  let b := s.borer
  match b.state with
  | .requested => { s with borer := { b with state := .idle, desc := { b.desc with command := 2 } } }
  | .running => { s with borer := { b with state := .idle, desc := { b.desc with command := 2 }, discarded := inc32 b.discarded, cause := 3, cells := [], spoil := none, ampRun := 0 } }
  | .idle | .backedOff => { s with borer := { b with stopAt := some s.core.cycle } }

/-- The actions on entering a state from another (R31). -/
def entryActions (old new : OpState) (s : State) : State :=
  match new with
  | .off | .boot => s
  | .isolated =>
    (match old with
     | .tripped => rearmFirstTrip (closeLowSides (releaseTrip s))
     | .lockout => rearmFirstTrip (closeLowSides <| releaseTrip { s with core := { s.core with lockoutLatched := false } })
     | .boot => if s.fbTrip || (!s.hasEnv && s.countsActive) then { s with fb := { s.fb with tripPcs := true } } else s
     | _ => s)
  | .online | .derated => s
  | .precheck | .service | .sleep => withdrawBleed s
  | .closing => pullIn 1 { withdrawBleed s with fe := { (withdrawBleed s).fe with closingSince := some s.core.cycle } }
  | .tripping => startTrip false (withdrawBleed (stopPerturbation s))
  | .tripped => withdrawBleed { s with fb := { s.fb with tripPcs := true } }
  | .lockout => openLowSides (latchLockout { withdrawBleed s with fb := { s.fb with tripPcs := true } })

/-- Body of record 0x0010 (R494). -/
def stateBody (e : SmEvent) (old new : OpState) : Bytes :=
  le 1 old.code ++ le 1 new.code ++ le 1 e.fault ++ le 1 0 ++ le 2 e.source ++ le 2 e.session

/-- Enter a state: Tally record 0x0010, 1001.01 and 1001.02, the entry's actions, WHISTLE. An accepted open request goes on between ONLINE and DERATED; a
SERVICE that no session of this unit asked for ends only with the partner's. -/
def enterState (e : SmEvent) (new : OpState) (s : State) : State :=
  let old := s.core.opState
  let s := s.tell 0x0010 (stateBody e old new)
  let who := if new = .service && e.session != 0xFFFF then some e.session else none
  let opening := s.core.opening && (new = .online || new = .derated)
  let s := { s with core := { s.core with opState := new, stateEntered := s.core.cycle, opening := opening, service := who } }
  reWhistle (entryActions old new s)

/-- The open request is taken: the set-point ramps to zero and the contactors open once the current allows it (R31). -/
def startOpening (s : State) : State :=
  { s with core := { s.core with opening := true, openSince := s.core.cycle } }

/-- The answer to a served request of the state machine. -/
def stateAnswer (e : SmEvent) (c : Cycle) (abort : Nat) : Response :=
  { session := e.session, req := e.req, type := 0x82, cycle := c, abort := abort, body := replyBody 2 abort }

/-- Take an event whose row leads to `t`, noting what it leaves behind. -/
def takeEvent (e : SmEvent) (t : OpState) (s : State) : State :=
  let r : TallyRec := { kind := 0x0010, body := stateBody e s.core.opState t, flags := 3, cycle := s.core.cycle, sec := s.clock.sec, ns := s.clock.ns,
                        locked := s.clock.state = .locked, opTime := s.power.opTime, power := s.power.powerCycles }
  let u : Undo := { record := r, answer := if e.kind.request then some (stateAnswer e s.core.cycle 0) else none, firstTrip := s.ranger.firstTrip }
  let s := { s with core := { s.core with taken := some e, undo := some u } }
  if e.kind = .openRequest then startOpening s else enterState e t s

/-- An event that ranks before the one taken in this cycle withdraws it (R32): its record and its answer, as far as they have not left their queues, the coil
a close began with, and a first-trip register it re-armed. DESIGN CHOICE (log 47): the spec orders the events of a cycle and does not say when in it they act. -/
def unTake (t : SmEvent) (s : State) : State :=
  match s.core.undo with
  | none => s
  | some u =>
    let s := { s with core := { s.core with opState := s.core.cycleState, opening := s.core.opening && t.kind != .openRequest, undo := none },
                      tally := { s.tally with q25 := s.tally.q25.erase u.record },
                      dict := { s.dict with responses := match u.answer with
                        | some r => s.dict.responses.erase r
                        | none => s.dict.responses },
                      ranger := { s.ranger with firstTrip := if t.kind = .reset || t.kind = .clear then u.firstTrip else s.ranger.firstTrip } }
    if t.kind = .checksPass then releaseCoils false { s with fe := { s.fe with closingSince := none } } else s

/-- The answer to a request that has been served, its abort code 0 on success. -/
def answerRequest (e : SmEvent) (abort : Nat) (s : State) : State :=
  if e.kind.request then s.reply e.session e.req 2 abort else s

/-- The abort code of a request not taken in state `st` (R31, R401): no row, or a row whose condition fails. -/
def requestAbort (s : State) (st : OpState) (e : SmEvent) : Nat :=
  if (smRow s st e).isSome then abortArg 0x04010000 st.code else abortArg 0x04020000 st.code

/-- An event reaches the state machine (R32). The first event of the cycle with a row changes the state; one that ranks before the event
taken withdraws it, read against the state at the cycle's start, and the others wait for the next cycle. A request without a row is refused
at once (R31). -/
def smEvent (e : SmEvent) (s : State) : State :=
  match s.core.taken with
  | none =>
    match smTarget s s.core.opState e with
    | some t => answerRequest e 0 (takeEvent e t s)
    | none =>
      if e.kind.request then answerRequest e (requestAbort s s.core.opState e) s
      else { s with core := { s.core with deferred := s.core.deferred ++ [e] } }
  | some t =>
    if e.kind.rank < t.kind.rank then
      match smTarget s s.core.cycleState e with
      | some n =>
        let s := unTake t s
        answerRequest e 0 (takeEvent e n { s with core := { s.core with deferred := s.core.deferred ++ [t] } })
      | none => { s with core := { s.core with deferred := s.core.deferred ++ [e] } }
    else { s with core := { s.core with deferred := s.core.deferred ++ [e] } }

/-- Insert an event behind those that rank before it or equal it. -/
def insertEvent (e : SmEvent) : List SmEvent → List SmEvent
  | [] => [e]
  | f :: t => if e.kind.rank < f.kind.rank then e :: f :: t else f :: insertEvent e t

/-- Events in rank order. -/
def sortEvents : List SmEvent → List SmEvent
  | [] => []
  | e :: t => insertEvent e (sortEvents t)

/-- Evaluate one event left from the cycle before (R32): taken, left again, dropped, or refused. -/
def evalLeft (s : State) (e : SmEvent) : State :=
  match s.core.taken with
  | some _ => { s with core := { s.core with deferred := s.core.deferred ++ [e] } }
  | none =>
    match smTarget s s.core.opState e with
    | some t => answerRequest e 0 (takeEvent e t s)
    | none => answerRequest e (requestAbort s s.core.opState e) s

/-- At the start of a cycle the events left over are evaluated against the state now in force (R32). -/
def evalDeferred (s : State) : State :=
  let left := sortEvents s.core.deferred
  let s := { s with core := { s.core with cycleState := s.core.opState, taken := none, undo := none, deferred := [] } }
  left.foldl evalLeft s

/-- SERVICE ends once the session whose request entered it is no longer open and the axes have stopped (R31). -/
def serviceLost (s : State) : State :=
  match s.core.service with
  | none => s
  | some n =>
    if s.core.opState = .service && (s.session n).state != .isOpen && s.axesStopped then smEvent { kind := .sessionLost } s else s

/-- Once an open request is taken, the contactors open as soon as the break current allows it (R31, R270). -/
def openWhenLow (s : State) : State :=
  if s.core.opening && s.online && s.belowBreak then
    smEvent { kind := .openDone } (releaseCoils false s)
  else s

end Sys2Proof.Machine
end

