-- ==== Sys2Proof/Machine/RangerOps.lean ====
section
/-! DEFINITION. The Ranger: what a fault message does as it enters Q24 (R470-R479): reaction, active-fault table, captures, fencing. -/

namespace Sys2Proof.Machine

open Sys2Proof

/-- Severity code of a message; 7 for the clear (R467). -/
def FaultMsgCode (m : FaultMsg) : Nat :=
  match m.sev with
  | some v => v.code
  | none => 7

/-- A fault message as 64 bits (R467). -/
def messageWord (m : FaultMsg) : Nat :=
  m.source % 1024 * 2 ^ 54 + m.kind % 256 * 2 ^ 46 + FaultMsgCode m * 2 ^ 43 + b2n m.injected * 2 ^ 42
    + m.cls % 16 * 2 ^ 38 + m.val % 2 ^ 28 * 2 ^ 10 + m.cycle.toNat % 1024

/-- Body of records 0x0001 to 0x0003 (R494). -/
def faultBody (m : FaultMsg) (count prev : Nat) : Bytes := le 8 (messageWord m) ++ le 1 (min count 255) ++ le 1 prev ++ le 2 0

/-- A Tally record of the present cycle. -/
def State.record (s : State) (kind : Nat) (inj : Bool) (body : Bytes) : TallyRec :=
  { kind := kind, body := body, flags := 3 + 4 * b2n inj, cycle := s.core.cycle, sec := s.clock.sec, ns := s.clock.ns,
    locked := s.clock.state = .locked, opTime := s.power.opTime, power := s.power.powerCycles }

/-- Enter a record in Q24: 1,024 messages, the last 128 places for DEGRADE and above (R472). -/
def enterQ24 (code : Nat) (r : TallyRec) (s : State) : State :=
  if s.ranger.q24.length < (if 3 ≤ code && code ≤ 5 then 1024 else 896) then
    { s with ranger := { s.ranger with q24 := s.ranger.q24 ++ [r] } }
  else { s with ranger := { s.ranger with noRoom := inc32 s.ranger.noRoom, lostPending := true } }

/-- Capture a message in a first-fault or first-trip register (R478). -/
def capture (m : FaultMsg) (c : Capture) : Capture :=
  match c.msg with
  | none => { msg := some m, cycle := m.cycle, open_ := true }
  | some k =>
    if c.open_ && k.cycle = m.cycle &&
        (FaultMsgCode k < FaultMsgCode m || (FaultMsgCode k = FaultMsgCode m && m.source < k.source))
    then { c with msg := some m }
    else c

/-- Offer a message to both registers: the capture level of 8801.03, TRIP and above. -/
def offerCapture (m : FaultMsg) (s : State) : State :=
  let v := FaultMsgCode m
  let s := if s.cfg 0x8801 3 ≤ v then { s with ranger := { s.ranger with firstFault := capture m s.ranger.firstFault } } else s
  if 4 ≤ v then { s with ranger := { s.ranger with firstTrip := capture m s.ranger.firstTrip } } else s

/-- The fencing class of a kind (R479): 0 lane, 1 ring port, 2 Ethernet port, 3 CAN controller, 4 axis. -/
def fenceClass (kind : Nat) : Option Nat :=
  if kind = 0x51 then some 0 else if kind = 0x2C then some 1 else if kind = 0x92 then some 2
  else if kind = 0x97 then some 3 else if kind = 0x89 then some 4 else none

/-- The unit a fence message names: lane, port or controller from the source, axis from the source (R468, R469). -/
def fenceUnit (m : FaultMsg) : Nat :=
  if m.kind = 0x51 then (if m.cls = 5 then m.val else m.source - 0x030)
  else if m.kind = 0x2C then m.source - 0x020
  else if m.kind = 0x92 then m.source - 0x050
  else if m.kind = 0x97 then m.source - 0x058
  else m.source - 0x048 + 1

/-- The followers of a master axis decelerate and hold (R335, R339). -/
def stopFollowers (master : Nat) (s : State) : State :=
  { s with axes := s.axes.map fun (e : Nat × Axis) =>
      if e.1 != master && s.cfg (0x685F + e.1) 1 = 2 && s.cfg (0x688F + e.1) 1 = master && e.2.vel != 0
      then (e.1, { e.2 with ramp := .stopping }) else e }

/-- An axis that fails while another is fenced stops with its bridges off and stays unfenced (R339). -/
def cutFailedAxis (unit : Nat) (s : State) : State :=
  { s with axes := Tab.mod s.axes unit {} fun a => { a with state := .fault, vel := 0, ramp := .none, coil := 0, discCmd := .none } }

/-- A fenced axis: bridges off, position invalid, homing aborted (R336, R339). -/
def Axis.cut (a : Axis) : Axis :=
  { a with fenced := true, state := .fenced, vel := 0, ramp := .none, coil := 0, homed := false, waiting := false, discCmd := .none,
           homeResult := if a.homing = .idle then a.homeResult else 5, homing := .idle }

/-- What fencing does to the unit at once: a lane's cells are placed afresh (R159), a ring port no longer originates (R69), an Ethernet
port and a CAN controller stop (R348, R372), an axis stands (R339). -/
def fenceEffect (cls unit : Nat) (s : State) : State :=
  if cls = 0 then { s with cruiser := { s.cruiser with lanes := Tab.put s.cruiser.lanes unit .fenced, replace := s.cruiser.replace ++ [unit] } }
  else if cls = 1 then fenceRing unit s
  else if cls = 2 then
    if unit = 0 then { s with links := { s.links with ethA := { s.links.ethA with fenced := true, link := 0 } } }
    else { s with links := { s.links with ethB := { s.links.ethB with fenced := true, link := 0 } } }
  else if cls = 3 then
    if unit = 0 then { s with links := { s.links with canA := { s.links.canA with fenced := true, err := .fenced } } }
    else { s with links := { s.links with canB := { s.links.canB with fenced := true, err := .fenced } } }
  else if cls = 4 then
    stopFollowers unit { s with axes := Tab.mod s.axes unit {} Axis.cut }
  else s

/-- Whether another unit of a class is out of service already: fenced, or a lane drained or being drained (R160, R479). -/
def State.classSpent (s : State) (cls unit : Nat) : Bool :=
  (s.ranger.fenced.any fun e => e.1 = cls)
    || (cls = 0 && s.cruiser.lanes.any fun e => e.1 != unit && (e.2 = .draining || e.2 = .drained))

/-- Fence a unit, or raise the class's capacity-exhausted kind when another unit of it is out of service already (R479). -/
def fence (m : FaultMsg) (s : State) : State :=
  match fenceClass m.kind with
  | none => s
  | some cls =>
    let u := fenceUnit m
    if s.ranger.fenced.contains (cls, u) then s
    else if s.classSpent cls u then
      (match cls with
       | 0 => { s with cruiser := { s.cruiser with frozen := s.cruiser.frozen ++ [u] } }.raiseOnce 0x038 0x52 .trip 0 0
       | 1 => s.raiseOnce m.source 0x2D .trip 0 0
       | 2 => s.raiseOnce m.source 0x93 .warn 0 0
       | 3 => s.raiseOnce m.source 0x98 .warn 0 0
       | _ => (cutFailedAxis u s).raiseOnce m.source 0x8A .degrade 0 0)
    else fenceEffect cls u { s with ranger := { s.ranger with fenced := s.ranger.fenced ++ [(cls, u)] } }

/-- A lane has missed its F deadline (R159, R171): counted, and the third miss within 1,000 cycles has the lane fenced. -/
def missF (lane : Nat) (s : State) : State :=
  let at_ := s.recent 1000 (Tab.at s.cruiser.missedAt lane []) ++ [s.core.cycle]
  let s := { s with cruiser := { s.cruiser with missedF := Tab.mod s.cruiser.missedF lane 0 inc32, missedAt := Tab.put s.cruiser.missedAt lane at_ } }
  if 3 ≤ at_.length && Tab.at s.cruiser.lanes lane .active != .fenced then s.raiseOnce (0x030 + lane) 0x51 .degrade 0 0 else s

/-- The reaction when a fault becomes active at, or is raised to, a severity (R475). -/
def react (m : FaultMsg) (code : Nat) (s : State) : State :=
  let e : SmEvent := { kind := .degrade, fault := m.kind, source := m.source }
  let s := { s with sawyer := { s.sawyer with trigSev := max s.sawyer.trigSev (code + 1) } }
  let s := if 3 ≤ code then fence m s else s
  let s := if 5 ≤ code then latchLockout s else s
  let s := if 4 ≤ code then startTrip false s else s
  let s := if 5 ≤ code then smEvent { e with kind := .lockoutFault } s
           else if 4 ≤ code then smEvent { e with kind := .tripFault } s else s
  let s := if 3 ≤ code then smEvent e s else s
  reWhistle s

/-- The position of an active fault. -/
def State.findFault (s : State) (m : FaultMsg) : Option Nat := s.ranger.active.findIdx? fun a => a.msg.same m

/-- Replace the active fault at a position. -/
def State.setFault (s : State) (i : Nat) (a : ActiveFault) : State :=
  { s with ranger := { s.ranger with active := s.ranger.active.set i a } }

/-- List a new fault: 512 places; with none free it replaces the oldest active fault of lower severity (R474). INFO is not listed
(R475). -/
def listFault (m : FaultMsg) (s : State) : State :=
  let code := FaultMsgCode m
  let a : ActiveFault := { msg := m, raised := m.cycle, graceFrom := s.core.cycle, lastStamp := m.cycle }
  if code = 0 then s
  else if s.ranger.active.length < 512 then { s with ranger := { s.ranger with active := s.ranger.active ++ [a] } }
  else match s.ranger.active.findIdx? fun b => b.code < code with
    | some i =>
      { s with ranger := { s.ranger with active := s.ranger.active.eraseIdx i ++ [a], replacements := inc32 s.ranger.replacements } }
    | none => s

/-- The cycle of a message: the latest one, not after the present, whose low 10 bits equal the stamp (R473). -/
def State.stamped (s : State) (c : Cycle) : Cycle := s.core.cycle - ((s.core.cycle - c) &&& 1023#32)

/-- A message that raises a fault enters the Ranger (R470, R472-R479). -/
def receiveRaise (sent : FaultMsg) (s : State) : State :=
  let m := { sent with cycle := s.stamped sent.cycle }
  let code := FaultMsgCode m
  let r := s.ranger
  let s := { s with ranger := { r with received := inc32 r.received, last16 := keepN 16 (m :: r.last16),
                                       timesRaised := Tab.mod r.timesRaised m.kind 0 inc32 } }
  let s := offerCapture m s
  match s.findFault m with
  | some i =>
    match s.ranger.active[i]? with
    | none => s
    | some a =>
      let s := enterQ24 code (s.record 0x0001 m.injected (faultBody m (a.count + 1) a.code)) s
      if a.code < code then
        react m code (s.setFault i { a with msg := m, count := inc8 a.count, acked := false, graceFrom := s.core.cycle, lastStamp := m.cycle })
      else s.setFault i { a with count := inc8 a.count, lastStamp := m.cycle }
  | none =>
    let s := enterQ24 code (s.record 0x0001 m.injected (faultBody m 1 0xFF)) s
    react m code (listFault m s)

/-- A clear ends the active fault; clearing the last one at DEGRADE or above is an event of R31 (R470, R475). -/
def receiveClear (m : FaultMsg) (s : State) : State :=
  let r := s.ranger
  let was := s.degraded
  let s := { s with ranger := { r with received := inc32 r.received, last16 := keepN 16 (m :: r.last16) } }
  match s.findFault m with
  | none => s
  | some i =>
    match s.ranger.active[i]? with
    | none => s
    | some a =>
      let s := enterQ24 7 (s.record 0x0003 m.injected (faultBody m a.count a.code)) s
      let s := { s with ranger := { s.ranger with active := s.ranger.active.eraseIdx i } }
      let s := if was && !s.degraded then smEvent { kind := .degradeCleared, fault := m.kind, source := m.source } s else s
      -- a trip that only opened TRIP-PCS ends with its last cause (R272)
      let s := match s.core.opState with
        | .isolated | .precheck | .service => if s.fb.tripPcs then releaseTrip s else s
        | _ => s
      reWhistle s

/-- The ceiling of a kind: the value written, else the default of R477. -/
def State.ceiling (s : State) (kind cur : Nat) : Nat :=
  if 1 ≤ kind && kind ≤ 0x1D then cur
  else match Tab.find s.dict.vals (okey (0x8900 + kind) 3) with
    | some v => v.toInt.toNat
    | none => if (fenceClass kind).isSome then max cur 3 else if cur = 3 then 4 else cur

/-- The grace time of a kind in ms (R476, R477). -/
def State.grace (s : State) (kind : Nat) : Nat := if 1 ≤ kind && kind ≤ 0x1D then 0 else s.cfg (0x8900 + kind) 4

/-- Escalate an active fault by one severity (R476): record 0x0002, capture, reaction, new grace time. -/
def escalate (i : Nat) (a : ActiveFault) (s : State) : State :=
  let m := { a.msg with sev := some (Sev.ofCode (a.code + 1)), cycle := s.core.cycle }
  let s := { s with ranger := { s.ranger with escalations := inc32 s.ranger.escalations } }
  let s := offerCapture m s
  let s := enterQ24 (a.code + 1) (s.record 0x0002 m.injected (faultBody m a.count a.code)) s
  react m (a.code + 1) (s.setFault i { a with msg := { a.msg with sev := m.sev }, escalated := true, acked := false, graceFrom := s.core.cycle })

end Sys2Proof.Machine
end

