-- ==== Sys2Proof/Machine/Points.lean ====
section
/-! DEFINITION. The point table's state part (R142-R144): conversion, filter, quality, extremes and computed points. -/

namespace Sys2Proof.Machine

open Sys2Proof

/-- Update the state part of point n. -/
def State.modPoint (s : State) (n : Nat) (f : PointState → PointState) : State :=
  { s with points := Tab.mod s.points n {} f }

/-- A raw report converted through the point's gain (Q16.16) and offset (R142, R145). -/
def State.convert (s : State) (n : Nat) (raw : Int) : Int := qdiv (raw * s.pointCfg n 8) 65536 + s.pointCfg n 9

/-- Source period of a point in cycles by kind (R144). -/
def sourcePeriod (kind : Int) : Nat :=
  if kind = 1 || kind = 2 then 8 else if kind = 3 then 10 else if kind = 4 then 100 else 1

/-- Kind, source, channel, flags of a point (R142). -/
def State.pointKind (s : State) (n : Nat) : Nat := (s.pointCfg n 1).toNat
def State.pointSource (s : State) (n : Nat) : Nat := (s.pointCfg n 2).toNat
def State.pointChannel (s : State) (n : Nat) : Nat := (s.pointCfg n 3).toNat
def State.pointFlag (s : State) (n i : Nat) : Bool := (s.pointCfg n 4).toNat.testBit i

/-- The filtered value after a sample: the sample itself without a filter, else a free value between the last one and the sample (the spec
names the time constant, not the difference equation; log entry 7). -/
def filterStep (old new tau : Int) (seen : Bool) (s : State) : Int × State :=
  if tau = 0 || !seen then (new, s)
  else
    let (x, s) := drawInt s
    (clampI (min old new) (max old new) x, s)

/-- A source sample reaches a point (R142, R144): none is an open or absent channel. Implausible samples leave the filtered value and the
extremes as they are; both start with the first plausible one. -/
def samplePoint (n : Nat) (raw : Option Int) (cyc : Cycle) (s : State) : State :=
  match raw with
  | none => s.modPoint n fun p => { p with quality := .openAbsent }
  | some r =>
    let v := s.convert n r
    let p := s.point n
    let fast := p.seen && s.pointCfg n 12 * (cyc - p.updated).toNat < (v - p.raw).natAbs * 1000
    if v < s.pointCfg n 10 || s.pointCfg n 11 < v || fast then
      s.modPoint n fun p => { p with raw := v, updated := cyc, quality := .implausible, implausible := inc8 p.implausible, seen := true }
    else
      let (f, s) := filterStep p.filtered v (s.pointCfg n 7) p.begun s
      s.modPoint n fun p =>
        { p with raw := v, filtered := f, updated := cyc, quality := .good, seen := true, begun := true,
                 min := if p.begun then min p.min f else f, max := if p.begun then max p.max f else f }

/-- Rank of a quality (R144). -/
def Quality.rank : Quality → Nat
  | .good => 0 | .stale => 1 | .implausible => 2 | .openAbsent => 3 | .unreachable => 4

/-- Evaluate a computed point from its sources (R144). -/
def computePoint (s : State) (n : Nat) : State :=
  let first := (s.pointCfg n 13).toNat
  let put := fun (v : Int) => s.modPoint n fun p =>
    { p with raw := v, filtered := v, updated := s.core.cycle, quality := .good, seen := true, begun := true,
             min := if p.begun then min p.min v else v, max := if p.begun then max p.max v else v }
  if s.pointSource n = 4 then
    let a := s.point first
    let b := s.point (s.pointCfg n 15).toNat
    if a.quality = .good && b.quality = .good then put (a.filtered - b.filtered)
    else s.modPoint n fun p => { p with quality := if a.quality.rank < b.quality.rank then b.quality else a.quality }
  else
    let count := (s.pointCfg n 14).toNat
    let good := (upFrom first count).filter fun m => s.pointGood m
    let vals := good.map fun m => (s.point m).filtered
    if good.length * 2 < count || good.isEmpty then s.modPoint n fun p => { p with quality := .stale }
    else match s.pointSource n with
      | 1 => put ((maxI vals).getD 0)
      | 2 => put ((minI vals).getD 0)
      | _ => put (qdiv (sumI vals) good.length)

/-- Points whose configuration was written, and those of the default map that are computed (R143). -/
def State.computedPoints (s : State) : List Nat :=
  let written := (s.dict.vals.filter fun e => e.1 % 256 = 1 && 0x3400 ≤ e.1 / 256 && e.1 / 256 ≤ 0x3BFF && e.2 = .num 5).map fun e => e.1 / 256 - 0x3400
  if s.pointKind 1102 = 5 && !written.contains 1102 then 1102 :: written else written

/-- Evaluate every computed point. -/
def computePoints (s : State) : State := s.computedPoints.foldl computePoint s

/-- POINT_STALE: no valid source sample for three source periods (R144). A point that is implausible, open or unreachable already keeps that quality: DESIGN
CHOICE (log 48), the spec does not say which of two that hold at once is shown. -/
def execPointStale (n : Nat) (s : State) : Out :=
  let p := s.point n
  if p.quality = .good && s.passed p.updated (3 * sourcePeriod (s.pointCfg n 1)) then
    .next (s.modPoint n fun p => { p with quality := .stale })
  else .next s

/-- The points of a head's die temperature: kind 2 with its P as source (R142, R143). -/
def State.diePoints (s : State) (p : Nat) : List Nat :=
  (if s.pointKind (1023 + p) = 2 && s.pointSource (1023 + p) = p then [1023 + p] else [])
    ++ (s.dict.vals.filter fun e => e.1 % 256 = 2 && 0x3400 ≤ e.1 / 256 && e.1 / 256 ≤ 0x3BFF && e.2 = .num p).filterMap fun e =>
        let n := e.1 / 256 - 0x3400
        if s.pointKind n = 2 && n != 1023 + p then some n else none

/-- The points of a head's temperature channels: kind 1 with its P as source. -/
def State.headPoints (s : State) (p : Nat) : List Nat :=
  (upFrom (16 * (p - 1)) 16).filter (fun n => s.pointKind n = 1 && s.pointSource n = p)
    ++ (s.dict.vals.filter fun e => e.1 % 256 = 2 && 0x3400 ≤ e.1 / 256 && e.1 / 256 ≤ 0x3BFF && e.2 = .num p).filterMap fun e =>
        let n := e.1 / 256 - 0x3400
        if s.pointKind n = 1 && !(16 * (p - 1) ≤ n && n < 16 * p) then some n else none

/-- The points of kind 3 of an auxiliary input. -/
def State.auxPoints (s : State) (input : Nat) : List Nat :=
  (if s.pointKind (1087 + input) = 3 && s.pointSource (1087 + input) = input then [1087 + input] else [])
    ++ (s.dict.vals.filter fun e => e.1 % 256 = 2 && 0x3400 ≤ e.1 / 256 && e.1 / 256 ≤ 0x3BFF && e.2 = .num input).filterMap fun e =>
        let n := e.1 / 256 - 0x3400
        if s.pointKind n = 3 && n != 1087 + input then some n else none

/-- Clear a point's extremes (3400 + n.27, R169): both become the present filtered value. -/
def clearExtremes (n : Nat) (s : State) : State := s.modPoint n fun p => { p with min := p.filtered, max := p.filtered }

end Sys2Proof.Machine
end

