-- ==== Sys2Proof/Machine/FirebreakOps.lean ====
section
/-! DEFINITION. The Firebreak's comparators (R253-R273): limits by direction, qualification counters, causes and what clears them. -/

namespace Sys2Proof.Machine

open Sys2Proof

/-- Code of a direction (5810.04). -/
def Direction.code : Direction → Nat
  | .rest => 0 | .charge => 1 | .discharge => 2

/-- Direction of a cycle from its string record (R254). -/
def State.recordDirection (s : State) (r : StringRecord) : Direction :=
  let i := if r.status.getLsbD feMainOk && !r.status.getLsbD feOver then some r.main
           else if r.status.getLsbD feHallOk then some r.hall else none
  match i with
  | none => .rest
  | some i => if s.env 0x5800 8 < i then .charge else if i < -s.env 0x5800 8 then .discharge else .rest

/-- A limit of the direction: the charge object, the discharge object, or at rest the lower or the higher of the two (R254). -/
def State.dirLimit (s : State) (idx chg dis : Nat) (lower : Bool) : Int :=
  match s.fb.dir with
  | .charge => s.env idx chg
  | .discharge => s.env idx dis
  | .rest => if lower then min (s.env idx chg) (s.env idx dis) else max (s.env idx chg) (s.env idx dis)

/-- V_OV and V_UV of the present direction, in 10 µV. -/
def State.vOv (s : State) : Int := s.dirLimit 0x5800 1 3 true * 10
def State.vUv (s : State) : Int := s.dirLimit 0x5800 2 4 false * 10

/-- Cell T_max and T_min of the present direction, 0.01 °C. -/
def State.tMax (s : State) : Int := s.dirLimit 0x5801 1 3 true
def State.tMin (s : State) : Int := s.dirLimit 0x5801 2 4 true

/-- Kind code of a cause bit (R471, R279). -/
def causeKind (bit : Nat) : Nat :=
  match bit with
  | 0 => 0x01 | 1 => 0x02 | 2 => 0x03 | 3 => 0x04 | 4 => 0x05 | 5 => 0x06 | 6 => 0x07 | 7 => 0x08 | 8 => 0x09 | 9 => 0x0A
  | 10 => 0x0B | 11 => 0x0B | 12 => 0x0C | 13 => 0x12 | 14 => 0x0E | 15 => 0x0F | 16 => 0x10 | 17 => 0x11 | 18 => 0x13
  | 19 => 0x15 | _ => 0x14

/-- Severity of a cause bit (R263, R267). -/
def causeSev (bit : Nat) : Sev := if bit = 2 || bit = 3 || bit = 6 || bit = 16 then .lockout else .trip

/-- A cause qualifies: the Ranger is told and the sequencer starts at once (R268). -/
def qualify (bit cls val : Nat) (inj : Bool) (s : State) : State :=
  fbCause bit (if cls = 1 || cls = 3 then val % 0x10000 else 0xFFFF) (s.reportInj inj 0x010 (causeKind bit) (causeSev bit) cls val)

/-- Key of a cause's clearing run. -/
def runKey (bit cls val : Nat) : Nat := (bit * 16 + cls) * 2 ^ 28 + val

/-- Whether a cause of the identity is raised. -/
def State.causeRaised (s : State) (bit cls val : Nat) : Bool := s.raised 0x010 (causeKind bit) cls val

/-- Advance or reset the run of compliant samples towards clearing of a raised cause (R273). -/
def compliance (bit cls val : Nat) (ok : Bool) (s : State) : State :=
  if s.causeRaised bit cls val then
    let n := if ok then Tab.nat s.fb.clearRun (runKey bit cls val) + 1 else 0
    { s with fb := { s.fb with clearRun := Tab.put s.fb.clearRun (runKey bit cls val) n } }
  else s

/-- A cause becomes inactive: its clear is sent; its bit of 5810.01 falls when no other fault of the kind is raised; the loop that it alone
held open closes in the states of R272. -/
def clearCause (bit cls val : Nat) (s : State) : State :=
  let s := s.clearOnce 0x010 (causeKind bit) cls val
  let other := bit != 10 && bit != 11 && s.ranger.active.any fun a =>
    a.msg.source = 0x010 && a.msg.kind = causeKind bit && !(a.msg.cls = cls && a.msg.val = val) && s.raised 0x010 a.msg.kind a.msg.cls a.msg.val
  let s := if other then s else s.setCause bit false
  let s := { s with fb := { s.fb with clearRun := Tab.drop s.fb.clearRun (runKey bit cls val) } }
  match s.core.opState with
  | .isolated | .precheck | .service => if s.fb.tripPcs then releaseTrip s else s
  | _ => s

/-- A qualification counter after a valid value: beyond increments it to at most 3, within sets it to 0 (R260). -/
def nextCount (beyond : Bool) (c : Nat) : Nat := if beyond then min (c + 1) 3 else 0

/-- One comparator of a cell: counter 0 OV, 1 UV, 2 hard OV, 3 hard UV, the bits of 5810.01. -/
def cellCompare (k bit : Nat) (beyond inj : Bool) (s : State) : State :=
  let c := Tab.nat s.fb.cellCnt (8 * k + bit)
  let n := nextCount beyond c
  let s := { s with fb := { s.fb with cellCnt := Tab.put s.fb.cellCnt (8 * k + bit) n } }
  let s := if n = 3 && c < 3 then qualify bit 1 k inj s else s
  compliance bit 1 k (!beyond) s

/-- How a cell's value is compared (R95, R104, R105, R248): beyond an upper limit V when `hi ≥ g·V − m`, beyond a lower one when
`lo ≤ g·V + m`. -/
structure Treat where
  hi : Int
  lo : Int
  g : Nat := 1
  m : Int := 0
deriving DecidableEq, Repr

/-- Keep the bounds v_hi and v_lo that the voltage margins use (R290). -/
def keepBounds (k : Nat) (t : Treat) (s : State) : State :=
  { s with tap := { s.tap with bounds := Tab.put s.tap.bounds k (qdiv (t.hi + t.m) t.g, qdiv (t.lo - t.m) t.g, s.core.cycle) } }

/-- Every voltage comparator of cell k on its treatment; none is a missing sample, which leaves every counter as it is (R260, R261). -/
def compareCell (k : Nat) (t : Option Treat) (inj : Bool) (s : State) : State :=
  match t with
  | none => s
  | some t =>
    let s := keepBounds k t s
    let s := { s with fb := { s.fb with missRun := Tab.put s.fb.missRun k 0, goodRun := Tab.mod s.fb.goodRun k 0 fun n => min (n + 1) 1000 } }
    if !s.hasEnv then s
    else
      let beyond := fun (v : Int) => decide (t.g * v - t.m ≤ t.hi)
      let under := fun (v : Int) => decide (t.lo ≤ t.g * v + t.m)
      let s := cellCompare k 0 (beyond s.vOv) inj s
      let s := cellCompare k 1 (under s.vUv) inj s
      let s := cellCompare k 2 (beyond (s.env 0x5800 5 * 10)) inj s
      cellCompare k 3 (under (s.env 0x5800 6 * 10)) inj s

/-- One temperature comparator of a point: slot 0 over, 1 under, 2 hard, 3 coolant; bits 4 to 7. -/
def tempCompare (n slot : Nat) (beyond inj : Bool) (s : State) : State :=
  let bit := slot + 4
  let c := Tab.nat s.fb.tempCnt (8 * n + slot)
  let m := nextCount beyond c
  let s := { s with fb := { s.fb with tempCnt := Tab.put s.fb.tempCnt (8 * n + slot) m } }
  let s := if m = 3 && c < 3 then qualify bit 3 n inj s else s
  compliance bit 3 n (!beyond) s

/-- The Firebreak reads a raw report of point n (R261-R263); an absent report is missing. -/
def comparePoint (n : Nat) (raw : Option Int) (inj : Bool) (s : State) : State :=
  if !(s.pointFlag n 0 || s.pointFlag n 1) then s
  else match raw with
  | none => { s with fb := { s.fb with goodSince := Tab.drop s.fb.goodSince n } }
  | some r =>
    let v := s.convert n r
    let since := Tab.at s.fb.goodSince n s.core.cycle
    let s := { s with fb := { s.fb with lastReport := Tab.put s.fb.lastReport n s.core.cycle, goodSince := Tab.put s.fb.goodSince n since } }
    let s := if s.passed since 1000 then
        let s := s.clearOnce 0x010 0x1C 3 n
        if s.pointKind n = 1 && s.pointFlag n 0 then s.clearOnce 0x010 0x1D 2 (headTap (s.pointSource n) 0xFF) else s
      else s
    if !s.hasEnv then s
    else
      let s := if s.pointFlag n 0 then
          let s := tempCompare n 0 (s.tMax ≤ v) inj s
          let s := tempCompare n 1 (v ≤ s.tMin) inj s
          tempCompare n 2 (s.env 0x5801 5 ≤ v) inj s
        else s
      if s.pointFlag n 1 then tempCompare n 3 (s.env 0x5801 6 ≤ v || v ≤ s.env 0x5801 7) inj s else s

/-- A comparator that counts consecutive cycles: its run after one more cycle, qualifying at `need` (R263, R264, R267). -/
def cycleCompare (bit need : Nat) (beyond : Bool) (s : State) : State :=
  let c := Tab.nat s.fb.cnt bit
  let n := if beyond then min (c + 1) need else 0
  let s := { s with fb := { s.fb with cnt := Tab.put s.fb.cnt bit n } }
  let s := if n = need && c < need then qualify bit 0 0 false s else s
  compliance bit 0 0 (!beyond) s

/-- Restart every qualification counter and both i²t accumulators (R258). -/
def restartCounters (s : State) : State :=
  { s with fb := { s.fb with cellCnt := [], tempCnt := [], cnt := [], accChg := 0, accDis := 0 } }

/-- Insulation comparators on a completed result (R266): counters under keys 12 and 32 of the run table. -/
def compareInsulation (r : StringRecord) (s : State) : State :=
  if s.env 0x5803 1 = 0 || !s.hasEnv || r.status.getLsbD feIsoStale then s
  else
    let trip := (r.rIso : Int) ≤ s.env 0x5803 3
    let warn := (r.rIso : Int) ≤ s.env 0x5803 2
    let c := Tab.nat s.fb.cnt 12
    let n := if trip then min (c + 1) 2 else 0
    let s := { s with fb := { s.fb with cnt := Tab.put s.fb.cnt 12 n } }
    let s := if n = 2 && c < 2 then qualify 12 0 0 false s else s
    let s := compliance 12 0 0 (!trip) s
    let d := Tab.nat s.fb.cnt 32
    let m := if warn then min (d + 1) 2 else 0
    let s := { s with fb := { s.fb with cnt := Tab.put s.fb.cnt 32 m } }
    let s := if m = 2 && d < 2 then s.report 0x010 0x0D .warn 0 0 else s
    -- two results above the warning level clear *insulation low*
    let e := if warn then 0 else min (Tab.nat s.fb.cnt 33 + 1) 2
    let s := { s with fb := { s.fb with cnt := Tab.put s.fb.cnt 33 e } }
    if e = 2 then s.clearOnce 0x010 0x0D 0 0 else s

/-- A unit that counts as active and holds no valid envelope asserts TRIP-PCS; every unit without one reports it (R256). -/
def noEnvelope (s : State) : State :=
  if s.hasEnv then s
  else
    let s := s.raiseOnce 0x010 0x17 .degrade 0 0
    if s.countsActive then { s with fb := { s.fb with tripPcs := true } } else s

end Sys2Proof.Machine
end

