-- ==== Sys2Proof/Machine/TapOps.lean ====
section
/-! DEFINITION. The tap monitor (R93-R107, R248): bleed compensation, pair, head and string sums, and the treatment of each cell that
the Firebreak compares. Cell i of a head lies between its taps i − 1 and i. -/

namespace Sys2Proof.Machine

open Sys2Proof

/-- Tap state codes (2200): 0 intact, 1 untested, 2 suspected, 3 high resistance, 4 open. -/
def State.tapState (s : State) (p tap : Nat) : Nat := Tab.at s.tap.tapState (tapKey p tap) 1

/-- Set a tap's state. -/
def State.setTap (s : State) (p tap v : Nat) : State :=
  { s with tap := { s.tap with tapState := Tab.put s.tap.tapState (tapKey p tap) v } }

/-- Learned tap-wire resistance in mΩ, none where not learned. -/
def State.rw (s : State) (p tap : Nat) : Option Nat :=
  let v := Tab.at s.tap.rw (tapKey p tap) 0xFFFF
  if v = 0xFFFF then none else some v

/-- Learned resistance, 0 where not learned or beyond the head. -/
def State.rwOr0 (s : State) (p tap : Nat) : Int := ((s.rw p tap).getD 0 : Nat)

/-- The taps 0 to N of a head. -/
def State.taps (s : State) (p : Nat) : List Nat := upFrom 0 (s.channels p + 1)

/-- Whether every tap of the head has a learned resistance (R96). -/
def State.rwLearned (s : State) (p : Nat) : Bool := (s.taps p).all fun t => (s.rw p t).isSome

/-- The diagnosis bits of a head, 2180.02. -/
def State.diag (s : State) (p : Nat) : BitVec 8 := Tab.at s.tap.diag p 0

/-- Set a diagnosis bit. -/
def State.setDiag (s : State) (p i : Nat) (v : Bool) : State :=
  { s with tap := { s.tap with diag := Tab.put s.tap.diag p (setBit (s.diag p) i v) } }

/-- The open-wire test under evaluation on a head, once its OW-TEST was received. -/
def State.owTesting (s : State) (p : Nat) : Option OwEval := Tab.find s.tap.tests p

/-- Whether tap t was tested last and this is the one cycle after its source-on samples (R106). -/
def State.justTested (s : State) (p t : Nat) : Bool :=
  match Tab.find s.tap.afterTest p with
  | some a => a.1 = t && s.core.cycle = a.2
  | none => false

/-- Whether tap t of head p is under test in the present cycle: a source-on sample or the one cycle after it (R106). -/
def State.underTest (s : State) (p t : Nat) : Bool :=
  match s.owTesting p with
  | some e =>
    e.tap = t && (match e.cr with
      | some c => let d := (s.core.cycle - c).toNat; 2 ≤ d && d ≤ e.k + 2
      | none => false) || s.justTested p t
  | none => s.justTested p t

/-- Whether a tap of cell k is under test in the present cycle (R138 flag [1], R154). -/
def State.besideTest (s : State) (k : Nat) : Bool :=
  let p := s.cellCfg k 1
  let i := s.cellCfg k 2
  s.underTest p (i - 1) || s.underTest p i

/-- Whether a tap separates nothing any more: suspected, open, or under test (R104, R106). -/
def State.tapLost (s : State) (p t : Nat) : Bool :=
  let v := s.tapState p t
  v = 2 || v = 4 || s.underTest p t

/-- The bleed map of a slot that the tap monitor compensates: continuous-mode slots of the present cycle, stuck switches always on
(R95, R250). -/
def State.stuckMap (s : State) (p : Nat) : BitVec 16 :=
  (upFrom 1 (s.channels p)).foldl (fun m i => if (s.cell (s.firstCell p + i - 1)).swStuck then setBit m (i - 1) true else m) 0

/-- Whether a slot covers the present cycle. -/
def State.slotNow (s : State) (b : BleedSlot) : Bool := (s.C + 0x10000 - b.start) % 0x10000 < b.len

/-- The maps in use for a head, each with whether the residual of a continuous-mode slot applies: the acknowledged one, and the sent one too while it is
not acknowledged (R95, R242). -/
def State.bleedMaps (s : State) (p : Nat) : List (BitVec 16 × Bool) :=
  let h := s.thinHead p
  let stuck := if s.rwLearned p then s.stuckMap p else 0
  let none_ := (stuck, stuck != 0)
  let now := match h.slot with
    | some b => if b.continuous && s.slotNow b then (b.mask ||| stuck, true) else none_
    | none => none_
  match h.sent with
  | some b => [now, if b.continuous then (b.mask ||| stuck, true) else none_]
  | none => [now]

/-- Reading of cell i, none beyond the head or without a sample. -/
def readingAt (cells : List (Option Int)) (i : Nat) : Option Int :=
  if i = 0 then none
  else match cells[i - 1]? with
    | some v => v
    | none => none

/-- v_comp of cell i under a map (R95): readings in 10 µV, resistances in mΩ. -/
def State.compensate (s : State) (p : Nat) (map : BitVec 16) (cells : List (Option Int)) (i : Nat) : Option Int :=
  let r := (s.info p).rBleed
  let ib := fun (j : Nat) => if j = 0 || !map.getLsbD (j - 1) then 0 else (readingAt cells j).getD 0
  match readingAt cells i with
  | none => none
  | some v =>
    some (v + qdiv (ib i * (s.rwOr0 p (i - 1) + s.rwOr0 p i)) r - qdiv (ib (i - 1) * s.rwOr0 p (i - 1)) r - qdiv (ib (i + 1) * s.rwOr0 p i) r)

/-- The residual r of a head in a continuous-mode slot, in 10 µV (R95): 0.3 A × (4·eps + 0.04·rw_max). -/
def State.residual (s : State) (p : Nat) (inSlot : Bool) : Int :=
  if !inSlot then 0
  else
    let eps := Tab.at s.tap.rwUnc p 0xFFFF
    let rwMax := (maxI ((s.taps p).map fun t => s.rwOr0 p t)).getD 0
    qdiv (600 * eps + 6 * rwMax) 5

/-- tol_h = 0.05 % × |V_stack| + 10 mV + N × 1 mV (R98), in 10 µV; V_stack has an LSB of 100 µV. -/
def headTol (stack : Int) (n : Nat) : Int := qdiv ((stack.natAbs : Int)) 200 + 1000 + 100 * n

/-- Sum of present values; none when one is missing. -/
def sumAll : List (Option Int) → Option Int
  | [] => some 0
  | none :: _ => none
  | some v :: t => match sumAll t with
    | some x => some (v + x)
    | none => none

/-- The largest less the smallest of the last safe values of the cells (R104). After a restart none is kept and the spread is 0: DESIGN CHOICE (log 46), the
spec names no value to keep. -/
def State.safeSpread (s : State) (ks : List Nat) : Int :=
  let vs := ks.map fun k => Tab.int s.tap.vSafe k
  (maxI vs).getD 0 - (minI vs).getD 0

/-- The cells of the run that lost mid taps join to cell i: lowest and highest channel. -/
def State.groupLow (s : State) (p : Nat) : Nat → Nat
  | 0 => 1
  | i + 1 => if 1 ≤ i && s.tapLost p i then s.groupLow p i else i + 1

/-- Upper end of the run, with `left` channels above `i`. -/
def State.groupHigh (s : State) (p : Nat) (i : Nat) : Nat → Nat
  | 0 => i
  | left + 1 => if s.tapLost p i then s.groupHigh p (i + 1) left else i

/-- The sense-lost margin in 10 µV. -/
def State.mSl (s : State) : Int := s.env 0x5800 7 * 10

/-- Whether a switch test's on samples run, or the one cycle after them (R247, R248). -/
def SwEval.onNow (t : SwEval) (c : Cycle) : Bool :=
  match t.cr with
  | some r => let d := (c - r).toNat; 2 ≤ d && d ≤ t.m + 2
  | none => false

/-- The channels of a running switch test's group on a head: the tested cell and its neighbours during the on samples and one cycle after
(R248), or a stuck switch that cannot be compensated (R250). -/
def State.switchGroup (s : State) (p : Nat) : Option (Nat × Nat) :=
  let n := s.channels p
  let around := fun (i : Nat) => some (max 1 (i - 1), min n (i + 1))
  match (s.thinHead p).test with
  | some t => if t.onNow s.core.cycle then around t.cell else stuck n around
  | none => stuck n around
where
  /-- The group of a stuck switch on a head with an unlearned tap. -/
  stuck (n : Nat) (around : Nat → Option (Nat × Nat)) : Option (Nat × Nat) :=
    if s.rwLearned p then none
    else match (upFrom 1 n).find? fun i => (s.stuckMap p).getLsbD (i - 1) with
      | some i => around i
      | none => none

/-- The treatment of channel i of head p on the compensated values `v` (index i − 1) under residual r (R95, R104-R106, R248). -/
def State.treat (s : State) (p i : Nat) (v : List (Option Int)) (stack : Option Int) (r : Int) : Option Treat :=
  let n := s.channels p
  let first := s.firstCell p
  let lo := s.groupLow p i
  let hi := s.groupHigh p i (n - i)
  let g := hi + 1 - lo
  let endLost := (lo = 1 && s.tapLost p 0) || (hi = n && s.tapLost p n)
  let group := (upFrom lo g).map fun j => readingAt v j
  let rest := ((upFrom 1 n).filter fun j => j < lo || hi < j).map fun j => readingAt v j
  let ks := (upFrom lo g).map fun j => first + j - 1
  let inSw := match s.switchGroup p with
    | some (a, b) => a ≤ i && i ≤ b
    | none => false
  if inSw then
    let (a, b) := (s.switchGroup p).getD (i, i)
    let sg := b + 1 - a
    let out := ((upFrom 1 n).filter fun j => j < a || b < j).map fun j => readingAt v j
    match stack, sumAll out with
    | some st, some x =>
      some { hi := st * 10 - x, lo := st * 10 - x, g := sg,
             m := s.mSl + s.safeSpread ((upFrom a sg).map fun j => first + j - 1) + headTol st n }
    | _, _ => none
  else if g = 1 && (endLost || Tab.flag s.tap.chanFail (tapKey p i)) then
    match stack, sumAll rest with
    | some st, some x => some { hi := st * 10 - x + headTol st n, lo := st * 10 - x - headTol st n }
    | _, _ => none
  else if 1 < g && endLost then
    match stack, sumAll rest with
    | some st, some x => some { hi := st * 10 - x, lo := st * 10 - x, g := g, m := s.mSl + s.safeSpread ks + headTol st n }
    | _, _ => none
  else if 1 < g then
    match sumAll group with
    | some x => some { hi := x, lo := x, g := g, m := s.mSl + s.safeSpread ks }
    | none => none
  else match readingAt v i with
    | some x => some { hi := x + r, lo := x - r }
    | none => none

/-- The more conservative of two treatments of one cell (R95, unacknowledged map). -/
def Treat.worse (a b : Option Treat) : Option Treat :=
  match a, b with
  | some x, some y => some { x with hi := max x.hi y.hi, lo := min x.lo y.lo }
  | some x, none => some x
  | none, y => y

/-- The cells beside a tap. -/
def State.tapCells (s : State) (p tap : Nat) : List Nat :=
  (if 1 ≤ tap then [s.firstCell p + tap - 1] else []) ++ (if tap < s.channels p then [s.firstCell p + tap] else [])

/-- Whether a cell lies beside a tap that is suspected or open, or beside the one under test. -/
def State.besideLost (s : State) (p k : Nat) : Bool := let i := k + 1 - s.firstCell p; s.tapLost p (i - 1) || s.tapLost p i

/-- Remember the values of the head's cells before a tap comes under suspicion or test (R104). Cells that a lost tap already covers keep what was
remembered before that one; a tap that joins such a group leaves every value as it stands. -/
def State.keepSafe (s : State) (p tap : Nat) : State :=
  if (s.tapCells p tap).any fun k => s.besideLost p k then s
  else
    ((s.cellsOf p).filter fun k => !s.besideLost p k).foldl (fun s k => match Tab.find s.tap.vPrev k with
      | some v => { s with tap := { s.tap with vSafe := Tab.put s.tap.vSafe k v } }
      | none => s) s

/-- A test is sent to a head: its map is empty from now on, and no slot is granted up to the test's last sample, at most `n` cycles ahead
(R244). -/
def emptyMap (p n : Nat) (s : State) : State :=
  s.modThin p fun h => { h with map := 0, slot := h.slot.map fun b => { b with mask := 0 }, nextSlot := h.nextSlot.map fun b => { b with mask := 0 },
                                blockUntil := some (s.ahead n) }

/-- Send an OW-TEST now on a head that runs no test, or leave the tap in the head's list of taps to test at once (R90, R101). -/
def startOwTest (p tap : Nat) (s : State) : State :=
  if (s.owTesting p).isSome then
    { s with tap := { s.tap with testQueue := Tab.mod s.tap.testQueue p [] fun l => if l.contains tap then l else l ++ [tap] } }
  else
    let k := s.cfg 0x2103 2
    let s := emptyMap p (k + 2) (s.keepSafe p tap)
    let s := s.command true p opOwTest (le 1 tap ++ le 1 k)
    { s with tap := { s.tap with tests := Tab.put s.tap.tests p { tap := tap, k := k, sentAt := s.core.cycle } } }

/-- A mid tap comes under suspicion (R97): NOTICE, tap state 2, pair bounds, an immediate test. -/
def suspectTap (p tap : Nat) (inj : Bool) (s : State) : State :=
  let s := s.reportInj inj 0x018 0x30 .notice 2 (headTap p tap)
  let s := s.keepSafe p tap
  let s := { s with tap := { s.tap with wasHigh := Tab.put s.tap.wasHigh (tapKey p tap) (s.tapState p tap = 3) } }
  let s := s.setTap p tap 2
  let s := { s with tap := { s.tap with suspectedAt := Tab.put s.tap.suspectedAt (tapKey p tap) s.core.cycle,
                                        suspicions := inc32 s.tap.suspicions } }
  let s := (s.tapCells p tap).foldl (fun s k => s.setCellFlag k cfTapSuspect true) s
  startOwTest p tap s

/-- Pair-sum invariance at a mid tap between two cycles (R97). -/
def pairSum (p tap : Nat) (inj : Bool) (s : State) : State :=
  let a := s.firstCell p + tap - 1
  let b := a + 1
  if (s.cell a).flag cfSenseLost || (s.cell b).flag cfSenseLost || s.tapState p tap = 2 || s.tapState p tap = 4 then s
  else match Tab.find s.tap.vPrev a, Tab.find s.tap.vPrev b, Tab.find s.tap.v a, Tab.find s.tap.v b with
    | some a0, some b0, some a1, some b1 =>
      if (2000 < (a1 - a0).natAbs || 2000 < (b1 - b0).natAbs) && ((a1 + b1) - (a0 + b0)).natAbs ≤ 500 then suspectTap p tap inj s else s
    | _, _, _, _ => s

/-- The head-sum check of one cycle (R98). -/
def headSum (p : Nat) (v : List (Option Int)) (stack : Option Int) (s : State) : State :=
  match stack, sumAll v with
  | some st, some x =>
    let d := x - st * 10
    let n := s.channels p
    -- 200 × |Δh| > 200 × tol_h, in exact integers
    let bad := (st.natAbs : Int) + 200 * (1000 + 100 * n) < 200 * (d.natAbs : Int)
    let s := { s with tap := { s.tap with sumDev := Tab.put s.tap.sumDev p d,
                                          sumBad := Tab.put s.tap.sumBad p (if bad then Tab.nat s.tap.sumBad p + 1 else 0),
                                          sumGood := Tab.put s.tap.sumGood p (if bad then 0 else Tab.nat s.tap.sumGood p + 1) } }
    if 100 ≤ Tab.nat s.tap.sumGood p && (s.diag p).getLsbD 0 then (s.setDiag p 0 false).clearOnce 0x018 0x34 2 (headTap p 0xFF) else s
  | _, _ => s

/-- N × V_OV and N × V_UV limits on V_stack while a head sum mismatch has found no open tap (R103): the head's stack shares the cells'
comparators. -/
def stackTreat (s : State) (p : Nat) (stack : Option Int) : Option Treat :=
  match stack with
  | some st => some { hi := st * 10, lo := st * 10, g := s.channels p }
  | none => none

end Sys2Proof.Machine
end

