-- ==== Sys2Proof/Machine/Chem.lean ====
section
/-! DEFINITION. The lanes' arithmetic (R175) and the chemistry tables (R179-R182, R186): interpolation, slopes, implied intervals, the checks
of R181. SoC is Q2.30, voltages are in 10 µV, temperatures in 0.01 °C, currents in mA, Rdc in 0.01 µΩ. -/

namespace Sys2Proof.Machine

open Sys2Proof

/-! ### Fixed-point arithmetic of the lane image -/

/-- 1.0 in Q2.30. -/
def one30 : Int := 2 ^ 30

/-- A percentage in units of 0.01 % as Q2.30. -/
def pct30 (x : Int) : Int := qdiv (x * one30) 10000

/-- Q2.30 in units of 0.01 %, to nearest. -/
def toPct (x : Int) : Int := divNear (x * 10000) (2 ^ 30)

/-- One bit of an integer square root: `r` so far, bit `b`. -/
def sqrtBit (n r b : Nat) : Nat := if (r + 2 ^ b) * (r + 2 ^ b) ≤ n then r + 2 ^ b else r

/-- Integer square root, bits below `k`. -/
def sqrtFrom (n : Nat) : Nat → Nat → Nat
  | 0, r => r
  | k + 1, r => sqrtFrom n k (sqrtBit n r k)

/-- Square root of a number below 2^128 to one unit; the rounding is the lane image's (R175). -/
def laneSqrt (n : Int) : Int :=
  let r := sqrtFrom n.toNat 64 0
  if r * r = n.toNat then r else r + (if Config.laneRoundUp n 2 then 1 else 0)

/-- Terms of the series of e^-t in 2^-90, `t` below 1: the term index and the terms left. -/
def expSeries (t : Nat) : Nat → Nat → Nat
  | _, 0 => 2 ^ 90
  | i, n + 1 => 2 ^ 90 - t * expSeries t (i + 1) n / (i * 2 ^ 90)

/-- A square in 2^-90. -/
def square90 (y : Nat) : Nat := y * y / 2 ^ 90

/-- The lane image's exponential table: e^(-a/b) in Q2.30, from e^(-a/32b) squared five times; the last unit's rounding is the image's own (R175, R177). -/
def laneExp (a b : Nat) : Nat :=
  if b = 0 || 22 * b ≤ a then 0
  else
    let y := square90 (square90 (square90 (square90 (square90 (expSeries (a * 2 ^ 90 / (32 * b)) 1 30)))))
    y / 2 ^ 60 + (if a != 0 && Config.laneExpUp a b then 1 else 0)

/-- Terms of the sine and cosine series in 2^-60: angle `x`, present term, index, terms left. -/
def trigSeries (x : Int) : Int → Nat → Nat → Int
  | _, _, 0 => 0
  | term, i, n + 1 => term + trigSeries x (-(term * x / 2 ^ 60 * x / 2 ^ 60) / ((i + 1) * (i + 2) : Nat)) (i + 2) n

/-- An angle of `a` parts of a turn of `b` as radians in 2^-60, between −π and π. -/
def radians (a : Int) (b : Nat) : Int :=
  let r := a % b
  let r := if (b : Int) < 2 * r then r - b else r
  if b = 0 then 0 else r * 7244019458077122842 / b

/-- Cosine and sine of a part of a turn in Q2.30, to one unit (R214). -/
def cos30 (a : Int) (b : Nat) : Int := qdiv (trigSeries (radians a b) (2 ^ 60) 0 16) (2 ^ 30)
def sin30 (a : Int) (b : Nat) : Int := qdiv (trigSeries (radians a b) (radians a b) 1 16) (2 ^ 30)

/-! ### Table fields -/

/-- The active chemistry table of a slot. -/
def State.chem (s : State) (slot : Nat) : Bytes := s.octets (0x4010 + slot) 1

/-- Fields of a table (R179). -/
def chemVersion (t : Bytes) : Nat := fieldN t 0 1
def chemCode (t : Bytes) : Nat := fieldN t 1 1
def chemFull (t : Bytes) : Nat := fieldN t 12 2
def chemEmpty (t : Bytes) : Nat := fieldN t 14 2
def chemSigOcv (t : Bytes) : Nat := fieldN t 16 2
def chemEta (t : Bytes) : Nat := fieldN t 18 2
def chemR1Ratio (t : Bytes) : Nat := fieldN t 20 2
def chemTau1 (t : Bytes) : Nat := fieldN t 24 4
def chemRest (t : Bytes) : Nat := fieldN t 28 2
def chemTemp (t : Bytes) (j : Nat) : Int := fieldI t (64 + 2 * j) 2
def chemRate (t : Bytes) (r : Nat) : Nat := fieldN t (80 + 2 * r) 2
def chemOcv (t : Bytes) (sp j : Nat) : Nat := fieldN t (96 + 2 * (8 * sp + j)) 2
def chemDerate (t : Bytes) (j r : Nat) : Nat := fieldN t (1712 + 2 * (8 * j + r)) 2
def chemShape (t : Bytes) (m j : Nat) : Nat := fieldN t (1840 + 2 * (8 * m + j)) 2

/-- The temperature and C-rate axes. -/
def chemTemps (t : Bytes) : List Int := (upFrom 0 8).map (chemTemp t)
def chemRates (t : Bytes) : List Int := (upFrom 0 8).map fun r => (chemRate t r : Int)

/-- Whether a slot holds a loaded table. -/
def State.chemLoaded (s : State) (slot : Nat) : Bool := (s.chem slot).length = 2180

/-! ### Interpolation (R180) -/

/-- A place on an axis: index below, and the fraction `num / den` of the way to the next point; the end value is held. -/
structure Place where
  lo : Nat
  num : Int
  den : Nat
deriving DecidableEq, Repr

/-- Locate `x` on the points of a rising axis that start at index `i`. -/
def locate (x : Int) : Nat → List Int → Place
  | i, a :: b :: t => if x ≤ a then ⟨i, 0, 1⟩ else if x < b then ⟨i, x - a, (b - a).toNat⟩ else locate x (i + 1) (b :: t)
  | i, _ => ⟨i, 0, 1⟩

/-- Interpolate between two values, times the place's denominator. -/
def Place.mix (p : Place) (f : Nat → Int) : Int :=
  if p.num = 0 then f p.lo * p.den else f p.lo * (p.den - p.num) + f (p.lo + 1) * p.num

/-- The place of a temperature on a table's axis. -/
def chemPlace (t : Bytes) (temp : Int) : Place := locate temp 0 (chemTemps t)

/-- OCV at whole percent `sp`, in 10 µV times the denominator of the temperature's place. -/
def ocvRow (t : Bytes) (p : Place) (sp : Nat) : Int := p.mix fun j => 10 * (chemOcv t sp j : Int)

/-- The place of a SoC between whole percents. -/
def socPlace (soc : Int) : Place :=
  let x := clampI 0 one30 soc * 100
  if x = one30 * 100 then ⟨100, 0, 1⟩ else ⟨(x / one30).toNat, x % one30, 2 ^ 30⟩

/-- OCV(soc, T) in 10 µV. -/
def ocv (t : Bytes) (soc temp : Int) : Int :=
  let p := chemPlace t temp
  let q := socPlace soc
  qdiv (q.mix (ocvRow t p)) (q.den * p.den)

/-- OCV slope at (soc, T), in 10 µV per unit of SoC. -/
def ocvSlope (t : Bytes) (soc temp : Int) : Int :=
  let p := chemPlace t temp
  let sp := (clampI 0 99 (soc * 100 / one30)).toNat
  qdiv ((ocvRow t p (sp + 1) - ocvRow t p sp) * 100) p.den

/-- Rdc shape at whole percent `sp`, in 1/1,024 times 5 times the denominator of the temperature's place. -/
def shapeRow (t : Bytes) (p : Place) (sp : Nat) : Int :=
  let m := sp / 5
  let r : Int := sp % 5
  let f := fun (m : Nat) => p.mix fun j => (chemShape t m j : Int)
  if r = 0 then f m * 5 else f m * (5 - r) + f (m + 1) * r

/-- Rdc shape factor at (soc, T), in 1/1,024 times `den`: numerator and denominator. -/
def shape (t : Bytes) (soc temp : Int) : Int × Nat :=
  let p := chemPlace t temp
  let q := socPlace soc
  (q.mix (shapeRow t p), q.den * p.den * 5)

/-- Rdc(soc, T) of a cell with reference Rdc `rdc`, in 0.01 µΩ. -/
def rdcAt (t : Bytes) (rdc : Nat) (soc temp : Int) : Int :=
  let f := shape t soc temp
  qdiv (rdc * f.1) (1024 * f.2)

/-- Capacity derate at a temperature and a string current for a nominal capacity (0.01 As), LSB 0.0001. The C-rate in 0.01 C is
|i| × 36,000 / c_nom. -/
def derate (t : Bytes) (temp i : Int) (cnom : Nat) : Nat :=
  let p := chemPlace t temp
  let q := locate ((i.natAbs : Int) * 36000) 0 ((chemRates t).map fun r => r * cnom)
  let v := q.mix fun r => p.mix fun j => (chemDerate t j r : Int)
  (qdiv v (q.den * p.den)).toNat

/-! ### Inverting the tables (R182, R186) -/

/-- The lowest SoC in 0 to 100 % at which a piecewise-linear curve over whole percents reaches `x`. -/
def firstAt (f : Nat → Int) (x : Int) : Option Int :=
  if x ≤ f 0 then some 0
  else match (upFrom 0 100).find? fun sp => decide (x ≤ f (sp + 1)) with
    | some sp => some (qdiv ((sp * (f (sp + 1) - f sp) + (x - f sp)) * one30) (100 * (f (sp + 1) - f sp)).toNat)
    | none => none

/-- The highest SoC in 0 to 100 % at which a non-decreasing curve is at most `x`. -/
def lastAt (f : Nat → Int) (x : Int) : Option Int :=
  if f 100 ≤ x then some one30
  else match ((upFrom 0 100).reverse).find? fun sp => decide (f sp ≤ x) with
    | some sp => some (qdiv ((sp * (f (sp + 1) - f sp) + (x - f sp)) * one30) (100 * (f (sp + 1) - f sp)).toNat)
    | none => none

/-- The implied interval of a voltage with uncertainty `sig10` / 10 (R182), voltages in 10 µV. -/
def implied (t : Bytes) (v sig10 temp : Int) : Int × Int :=
  let p := chemPlace t temp
  let f := fun (sp : Nat) => ocvRow t p sp * 10
  match firstAt f ((v * 10 - sig10) * p.den), lastAt f ((v * 10 + sig10) * p.den) with
  | none, _ => (one30, one30)
  | _, none => (0, 0)
  | some a, some b => (a, b)

/-- The lowest SoC at which OCV + i × Rdc reaches a voltage given in 0.1 mV, or 100 % (R186). -/
def socAtLoad (t : Bytes) (rdc : Nat) (i temp : Int) (v : Nat) : Int :=
  let p := chemPlace t temp
  let f := fun (sp : Nat) => ocvRow t p sp * (5 * 1024 * 1000000) + i * rdc * shapeRow t p sp
  (firstAt f ((v * 10 : Int) * p.den * (5 * 1024 * 1000000))).getD one30

/-! ### The checks of R181 -/

/-- Whether every pair of neighbours of a list satisfies a relation. -/
def chain (r : Int → Int → Bool) : List Int → Bool
  | a :: b :: t => r a b && chain r (b :: t)
  | _ => true

/-- The fourth condition: V_full at least 20 mV below the envelope's charge V_OV, V_empty at least 20 mV above its discharge V_UV. -/
def chemWithin (full empty : Nat) (vOv vUv : Int) : Bool := (full : Int) + 200 ≤ vOv && vUv + 200 ≤ empty

/-- The shape factor at 50 % and 25 °C is 1.000 ± 0.5 %. -/
def chemUnity (t : Bytes) : Bool :=
  let f := shape t (one30 / 2) 2500
  decide ((f.1 - 1024 * f.2).natAbs * 1000 ≤ 5 * 1024 * f.2)

/-- The number of the first failed condition of R181, 0 when none fails; the table check is told apart. `env` gives the charge V_OV and the
discharge V_UV (0.1 mV) of the envelope to check against, none without one. -/
def chemCheck (t : Bytes) (env : Option (Int × Int)) : Nat :=
  let ocvOk := (upFrom 0 8).all fun j =>
    chain (fun a b => decide (a ≤ b)) ((upFrom 0 101).map fun sp => (chemOcv t sp j : Int)) && chemOcv t 0 j ≤ chemEmpty t && chemFull t ≤ chemOcv t 100 j
  let envOk := match env with
    | none => true
    | some e => chemWithin (chemFull t) (chemEmpty t) e.1 e.2
  if chemVersion t != 1 || 2 < chemCode t then 1
  else if chemFull t ≤ chemEmpty t then 2
  else if !envOk then 3
  else if !(chain (fun a b => decide (a < b)) (chemTemps t) && chain (fun a b => decide (a < b)) (chemRates t)
      && (chemTemps t).all (fun x => -4000 ≤ x && x ≤ 8500) && (chemRates t).all fun x => x ≤ 1000) then 4
  else if !ocvOk then 5
  else if !((upFrom 0 64).all fun i => 3000 ≤ chemDerate t (i / 8) (i % 8) && chemDerate t (i / 8) (i % 8) ≤ 15000) then 6
  else if chemEta t < 9000 || 10000 < chemEta t || chemRest t < 60 then 7
  else if !((upFrom 0 168).all fun i => 1024 ≤ 10 * chemShape t (i / 8) (i % 8) && chemShape t (i / 8) (i % 8) ≤ 16 * 1024) || !chemUnity t then 8
  else 0

/-- Whether the table check passes. -/
def chemCrcOk (t : Bytes) : Bool := fieldN t 2176 4 = (crc32c (t.take 2176)).toNat

/-- The envelope values of the fourth condition, as in force. -/
def State.chemEnv (s : State) : Option (Int × Int) := if s.hasEnv then some (s.env 0x5800 1, s.env 0x5800 4) else none

/-- The table of cell k's slot. -/
def State.cellChem (s : State) (k : Nat) : Bytes := s.chem (s.cellCfg k 3)

end Sys2Proof.Machine
end

