-- ==== Sys2Proof/Machine/Lanes.lean ====
section
/-! DEFINITION. The Scaler lanes (06): inputs of an update (R172-R176), the estimator (R177, R178), floors, ceilings and reported SoC (R182-R184),
sense-lost cells (R198), insertion (R199, R200), the shut-down event (R185), learned-value records (R202), the usable SoC (R186, R187). -/

namespace Sys2Proof.Machine

open Sys2Proof

/-! ### Reports and records of a cell -/

/-- Source of a cell's lane (R468). -/
def State.laneSrc (s : State) (k : Nat) : Nat := 0x030 + (s.cell k).lane.getD 0

/-- Raise a lasting condition of cell k once, whichever lane raised it. -/
def laneRaise (kind : Nat) (sev : Sev) (k : Nat) (s : State) : State :=
  if (upFrom 0x030 8).any fun src => s.raised src kind 1 k then s else s.report (s.laneSrc k) kind sev 1 k

/-- Clear a lasting condition of cell k with the identity it was raised under. -/
def laneClear (kind k : Nat) (s : State) : State := (upFrom 0x030 8).foldl (fun s src => s.clearOnce src kind 1 k) s

/-- Head and channel of a cell. -/
def State.headOf (s : State) (k : Nat) : Nat := s.cellCfg k 1
def State.channelOf (s : State) (k : Nat) : Nat := s.cellCfg k 2

/-- Nominal capacity of a cell, 0.01 As. -/
def State.cNom (s : State) (k : Nat) : Nat := s.cellCfg k 9

/-- The learned-value payload of a cell (R202). -/
def learnedPayload (cause k : Nat) (s : State) : Bytes :=
  let c := s.cell k
  le 1 0x31 ++ le 1 cause ++ le 2 k ++ le 4 s.C ++ le 4 c.cap ++ le 4 c.capUnc ++ le 4 ((c.rdc + 50) / 100) ++ le 4 ((c.r1 + 50) / 100) ++ le 4 ((c.tau1 + 50) / 100)
    ++ le 4 c.efc ++ leI 4 c.selfDis ++ le 2 c.insertions ++ le 2 c.steps ++ le 4 c.flags.toNat ++ le 4 0

/-- Queue a learned-value record of a cell (R202): in a pair only the active unit writes it. -/
def learnedRecord (cause k : Nat) (s : State) : State :=
  let s := s.modCell k fun c => { c with efcRec := c.efc, rdcRec := c.rdc, r1Rec := c.r1, tau1Rec := c.tau1 }
  if s.inPair && s.countsStandby then s else s.journal k 0x31 (learnedPayload cause k s)

/-- Advance a counter of 4002 by subindex (R206). -/
def countEst (sub : Nat) (s : State) : State :=
  { s with scaler := { s.scaler with counts := Tab.mod s.scaler.counts sub 0 inc32 } }

/-- Reset a cell's learned impedance table (R224). -/
def resetImpedance (k : Nat) (s : State) : State :=
  s.modCell k fun c =>
    { c with impTable := [],
             impHead := { slot := s.cellCfg k 3, serial := (s.info (s.headOf k)).serial, tones := BitVec.ofNat 8 (s.cfg 0x4800 3),
                          updated := c.impHead.updated, reset := s.core.cycle } }

/-- A cell's part of an open window is discarded (R215). -/
def spoilWindow (k : Nat) (s : State) : State :=
  match Tab.find s.borer.cells k with
  | some b => { s with borer := { s.borer with cells := Tab.put s.borer.cells k { b with bad := true } } }
  | none => s

/-! ### Inputs -/

/-- The string charge counter (R173): the current of the cycle and its source; Q_str advances by it. -/
def chargeCounter (s : State) : State :=
  let r := s.ring.record
  let (i, src) := if r.status.getLsbD feMainOk && !r.status.getLsbD feOver then (r.main, CurSource.main)
    else if r.status.getLsbD feHallOk then (r.hall, CurSource.hall) else (s.scaler.iValid, CurSource.gap)
  { s with scaler := { s.scaler with q := wrapI 64 (s.scaler.q + i), i := i, iValid := i, source := src,
                                     iHist := keepN 5 ((i, src = .main) :: s.scaler.iHist) } }

/-- The current error e_i in µA (R173). -/
def State.currentError (s : State) : Nat :=
  let a := s.scaler.i.natAbs
  match s.scaler.source with
  | .main => a + (if s.ring.record.status.getLsbD feInService then 500000 else 200000)
  | .hall => 15 * a + 10000000
  | .gap => 2 * (15 * a + 10000000)

/-- The present value of a cell as the tap monitor passes it. -/
def State.vNow (s : State) (k : Nat) : Option Int := Tab.find s.tap.v k

/-- Whether the head's last block had a status flag. -/
def State.blockFlag (s : State) (p i : Nat) : Bool := (s.info p).flags.getLsbD i

/-- Flag [1] of a cell (R138): a tap of it is suspected, or under test in the cycle. -/
def markTest (s : State) (k : Nat) : State :=
  let p := s.headOf k
  let i := s.channelOf k
  s.setCellFlag k cfTapSuspect (s.tapState p (i - 1) = 2 || s.tapState p i = 2 || s.besideTest k)

/-- Whether a cell's sample of the cycle is valid (R177): present, flag [4] of the block clear, flags [0] and [1] of the cell clear. -/
def State.sampleValid (s : State) (k : Nat) : Bool :=
  (s.vNow k).isSome && !s.blockFlag (s.headOf k) 4 && !(s.cell k).flag cfSenseLost && !(s.cell k).flag cfTapSuspect

/-- Resistance in a cell's bleed path: R_bleed and both learned taps, mΩ (R174). -/
def State.bleedPath (s : State) (k : Nat) : Int :=
  let p := s.headOf k
  let i := s.channelOf k
  ((s.info p).rBleed : Int) + s.rwOr0 p (i - 1) + s.rwOr0 p i

/-- The slot whose map the lanes count under: the sent one while its BLEED-OFF is pending, else the acknowledged one (R174, R242). -/
def State.countedSlot (s : State) (p : Nat) : Option BleedSlot :=
  let h := s.thinHead p
  let b := if h.state = 3 then h.sent else h.slot
  match b with
  | some b => if s.slotNow b then some b else none
  | none => none

/-- Whether a switch test's on samples of the tested cell run (R247). -/
def State.switchOn (s : State) (k : Nat) : Bool :=
  match (s.thinHead (s.headOf k)).test with
  | some t => match t.cr with
    | some r => let d := (s.core.cycle - r).toNat; t.cell = s.channelOf k && 2 ≤ d && d ≤ t.m + 1
    | none => false
  | none => false

/-- The time in µs for which a cell's switch conducts in the cycle, and whether it conducts at Ts (R174, R243, R250). -/
def State.bleedTime (s : State) (k : Nat) : Nat × Bool :=
  let p := s.headOf k
  let present := s.ring.validP.contains p
  if (present && s.blockFlag p 1) || (!present && 4 < (s.info p).missRun) then (0, false)
  else if s.switchOn k || (s.cell k).swStuck then (1000, true)
  else match s.countedSlot p with
    | some b => if b.mask.getLsbD (s.channelOf k - 1) then (if b.continuous then (1000, true) else (750, false)) else (0, false)
    | none => (0, false)

/-- The voltage that bleeding uses: the present value, else the last one. -/
def State.vBleed (s : State) (k : Nat) : Int := (s.vNow k).getD (s.cell k).lastV

/-- Bleed current at Ts in mA, and bleed charge of the cycle in µAs (R174). -/
def State.bleedNow (s : State) (k : Nat) : Int × Int :=
  let (t, ts) := s.bleedTime k
  let v := s.vBleed k
  let r := (s.bleedPath k).toNat
  (if ts then qdiv (10 * v) r else 0, qdiv (v * t) (100 * r))

/-- Count the cycle's bleed charge of a cell, and take it off its target (R174, R237). -/
def bleedCell (s : State) (k : Nat) : State :=
  let b := (s.bleedNow k).2
  if b = 0 then s
  else s.modCell k fun c =>
    { c with bleedQ := c.bleedQ + b, bleedTotal := c.bleedTotal + b,
             target := c.target - ((c.bleedTotal + b) / 10000 - c.bleedTotal / 10000).toNat,
             minute := { c.minute with bleed := c.minute.bleed + b } }

/-- A cell's temperature from good points (R140, R176), none when nothing is good. -/
def State.cellTemp (s : State) (k : Nat) : Option Int :=
  let g := fun (n : Nat) => if n ≤ 2047 && s.pointGood n then some (s.point n).filtered else none
  let w := (s.cellCfg k 8 : Int)
  match g (s.cellCfg k 6), g (s.cellCfg k 7) with
  | some a, some b => some (qdiv (a * w + b * (65536 - w)) 65536)
  | some a, none => some a
  | none, some b => some b
  | none, none =>
    let here := ((s.headPoints (s.headOf k) ++ s.diePoints (s.headOf k)).filter fun n => s.pointFlag n 0 && s.pointGood n).map fun n => (s.point n).filtered
    if here.isEmpty then maxI (((s.points.map Prod.fst).filter fun n => s.pointFlag n 0 && s.pointGood n).map fun n => (s.point n).filtered)
    else some (qdiv (sumI here) here.length)

/-- The temperature a cell's update uses: 25.00 °C before any good one since BOOT (R176). -/
def CellState.temp (c : CellState) : Int := c.lastT.getD 2500

/-- Take a cell's temperature in, or hold it (R176). -/
def takeTemp (s : State) (k : Nat) : State :=
  match s.cellTemp k with
  | some t => laneClear 0x54 k (s.modCell k fun c => { c with lastT := some t, heldSince := none })
  | none => s.modCell k fun c => { c with heldSince := s.start c.heldSince }

/-! ### The estimator -/

/-- Current through a cell at Ts: I(C) less its bleed current. -/
def State.cellCurrent (s : State) (k : Nat) : Int := s.scaler.i - (s.bleedNow k).1

/-- Derate of a cell at the present temperature and string current, LSB 0.0001. -/
def State.derateOf (s : State) (k : Nat) : Nat := derate (s.cellChem k) (s.cell k).temp s.scaler.i (s.cNom k)

/-- Effective capacity of a cell in µAs: learned capacity times derate. -/
def State.capEff (s : State) (k : Nat) : Nat := (s.cell k).cap * s.derateOf k

/-- The counted charge since a cell's last update (R177), in µAs. -/
def State.countedCharge (s : State) (k : Nat) : Int :=
  let c := s.cell k
  let dq := s.scaler.q - c.qLast - c.bleedQ
  if 0 < dq then qdiv (dq * chemEta (s.cellChem k)) 10000 else dq

/-- The counted change of SoC since a cell's last update, Q2.30. -/
def State.countedSoc (s : State) (k : Nat) : Int := qdiv (s.countedCharge k * one30) (s.capEff k)

/-- The growth of p in an update over n cycles, 2^-60: current error and process noise (R177). -/
def State.varGrowth (s : State) (k n : Nat) : Int :=
  let cap := s.capEff k * 1000
  let x := s.currentError * n
  qdiv ((x * x : Nat) * 2 ^ 60) (cap * cap) + qdiv ((s.cfg 0x4000 7 * s.cfg 0x4000 7 * n : Nat) * 2 ^ 60) 36000000000000000

/-- Equivalent full cycles (R197): 0.01 cycle per 0.02 of the learned capacity. -/
def countCycles (k : Nat) (dq : Int) (s : State) : State :=
  let c := s.cell k
  let a := c.dqAbs + dq.natAbs
  let u := c.cap * 200
  let s := s.modCell k fun c => { c with dqAbs := if u = 0 then a else a % u, efc := c.efc + a / u,
                                         hour := { c.hour with through := c.hour.through + dq.natAbs } }
  if (s.cell k).efcRec + 10 ≤ (s.cell k).efc then learnedRecord 6 k s else s

/-- The counting half of an update (R177). -/
def countCell (s : State) (k : Nat) : State :=
  let c := s.cell k
  let n := s.since c.lastUpdate
  let dq := s.countedCharge k
  let ds := s.countedSoc k
  let d := s.derateOf k
  let a := if c.tau1 = 0 then 0 else (laneExp (n * 1000) c.tau1 : Int)
  let v1 := qdiv (a * c.v1 * 1000000 + (one30 - a) * c.r1 * s.cellCurrent k) (2 ^ 30 * 1000000)
  let grow := s.varGrowth k n
  countCycles k dq (s.modCell k fun c =>
    { c with socC := c.socC + ds, soc := c.soc + ds, dqT := c.dqT + qdiv (dq * 10000) d, v1 := v1, p := c.p + grow,
             qLast := s.scaler.q, bleedQ := 0, lastUpdate := s.core.cycle })

/-- i × r of a cell, 10 µV, at its present SoC and temperature. -/
def State.drop (s : State) (k : Nat) : Int :=
  let c := s.cell k
  qdiv (s.cellCurrent k * rdcAt (s.cellChem k) c.rdc c.soc c.temp) 1000000

/-- The voltage the model expects (R177). -/
def State.vHat (s : State) (k : Nat) : Int :=
  let c := s.cell k
  ocv (s.cellChem k) c.soc c.temp + s.drop k + c.v1

/-- `extra` of R177: the residual of R95 for a head in a continuous-mode slot. -/
def State.extra (s : State) (k : Nat) : Int := s.residual (s.headOf k) ((s.bleedMaps (s.headOf k)).headD (0, false)).2

/-- Ten times sig_v (R177), for a drop and a polarisation voltage, 10 µV. -/
def State.sigTen (s : State) (k : Nat) (drop v1 : Int) : Int :=
  1000 + 100 * (chemSigOcv (s.cellChem k) : Int) + drop.natAbs + 5 * v1.natAbs + 10 * s.extra k

/-- What a lane corrects a cell against: its own reading, a derived value with tolerance, or the sum over a group with tolerance (R198). -/
inductive LaneV where
  | own (v : Int)
  | derived (v tol : Int)
  | group (cells : List Nat) (sum tol : Int)
deriving DecidableEq, Repr

/-- The value a cell is corrected against in the cycle, none without a valid sample (R177, R198). -/
def State.laneV (s : State) (k : Nat) : Option LaneV :=
  let p := s.headOf k
  let i := s.channelOf k
  let n := s.channels p
  let first := s.firstCell p
  if s.sampleValid k && !Tab.flag s.tap.chanFail (tapKey p i) then (s.vNow k).map LaneV.own
  else if !(s.cell k).flag cfSenseLost && !Tab.flag s.tap.chanFail (tapKey p i) then none
  else if s.blockFlag p 4 || !s.ring.validP.contains p then none
  else
    let lo := s.groupLow p i
    let hi := s.groupHigh p i (n - i)
    let endLost := (lo = 1 && s.tapLost p 0) || (hi = n && s.tapLost p n)
    let ks := (upFrom lo (hi + 1 - lo)).map fun j => first + j - 1
    let rest := ((upFrom 1 n).filter fun j => j < lo || hi < j).map fun j => s.vNow (first + j - 1)
    let derived := match Tab.find s.tap.stack p, sumAll rest with
      | some st, some x => some (st * 10 - x, headTol st n)
      | _, _ => none
    if lo = hi then derived.map fun d => .derived d.1 d.2
    else if endLost then derived.map fun d => .group ks d.1 d.2
    else (sumAll (ks.map s.vNow)).map fun x => .group ks x 0

/-- The innovation v − vhat of a cell in 10 µV and ten times its sig_v (R177, R198). -/
def State.innovation (s : State) (k : Nat) (l : LaneV) : Int × Int :=
  let sig := s.sigTen k (s.drop k) (s.cell k).v1
  match l with
  | .own v => (v - s.vHat k, sig)
  | .derived v tol => (v - s.vHat k, sig + 10 * tol)
  | .group ks sum tol => (qdiv (sum - sumI (ks.map s.vHat)) ks.length, sig * ks.length + 10 * tol)

/-- The voltage correction of a cell with an innovation (R177), then floor and ceiling (R182). -/
def correctCell (k : Nat) (e sig10 : Int) (s : State) : State :=
  let c := s.cell k
  let t := s.cellChem k
  let g := ocvSlope t c.soc c.temp
  let den := 100 * g * g * c.p + sig10 * sig10 * 2 ^ 60
  let v := ocv t c.soc c.temp + e
  let f := implied t v sig10 c.temp
  s.modCell k fun c =>
    { c with soc := c.soc + qdiv (100 * c.p * g * e * one30) den.toNat, p := qdiv (c.p * sig10 * sig10 * 2 ^ 60) den.toNat,
             floor := f.1, ceil := f.2, socCValid := c.socC }

/-- Limits of R178. -/
def socLow : Int := -107374182
def socHigh : Int := 1181116006
def uncLow : Int := 107374
def uncHigh : Int := 2 ^ 29
def v1Max : Int := 50000

/-- The clamps after an update (R178), their runs and the report. -/
def clampCell (k : Nat) (s : State) : State :=
  let c := s.cell k
  let u := laneSqrt c.p
  let acts := c.soc < socLow || socHigh < c.soc || c.socC < socLow || socHigh < c.socC || u < uncLow || uncHigh < u || v1Max < c.v1.natAbs
  let s := s.modCell k fun c =>
    { c with soc := clampI socLow socHigh c.soc, socC := clampI socLow socHigh c.socC, unc := clampI uncLow uncHigh u,
             p := clampI (uncLow * uncLow) (uncHigh * uncHigh) c.p, v1 := clampI (-v1Max) v1Max c.v1,
             clampRun := if acts then c.clampRun + 1 else 0, noClampRun := if acts then 0 else c.noClampRun + 1 }
  if 100 ≤ (s.cell k).clampRun then laneRaise 0x53 .notice k s
  else if 100 ≤ (s.cell k).noClampRun then laneClear 0x53 k s
  else s

/-- Floor and ceiling in force: carried with the counted change since the last valid sample (R183). -/
def CellState.floorNow (c : CellState) : Int := c.floor + (c.socC - c.socCValid)
def CellState.ceilNow (c : CellState) : Int := c.ceil + (c.socC - c.socCValid)

/-- The reported cell SoC (R183), Q2.30. -/
def CellState.rep (c : CellState) : Int := clampI 0 one30 (max c.floorNow (min c.ceilNow c.soc))

/-- Counting divergence at an update (R184): above 5 % sets the flags, at or below 2.5 % lets its time run. -/
def divergence (k : Nat) (s : State) : State :=
  let c := s.cell k
  let up := c.floorNow - c.soc
  let down := c.soc - c.ceilNow
  let five := one30 / 20
  let low := decide (up ≤ one30 / 40 && down ≤ one30 / 40)
  let s := s.modCell k fun c => { c with heldLow := if low then s.start c.heldLow else none }
  if five < up || five < down then
    let new := !c.flag cfDivergence
    let s := (s.setCellFlag k cfDivergence true).setCellFlag k (if five < up then cfRelearnUp else cfRelearnDown) true
    if new then laneRaise 0x55 .notice k (countEst 6 s) else s
  else s

/-! ### Insertion -/

/-- t_rest of a cell in ms (R200). -/
def State.restTime (s : State) (k : Nat) : Nat :=
  match (s.cell k).quietSince with
  | some c => s.since c
  | none => 0

/-- SoC and uncertainty of an inserted cell from a valid sample (R200); what was counted before no longer counts. -/
def insertSoc (k : Nat) (v : Int) (s : State) : State :=
  let c := s.cell k
  let t := s.cellChem k
  let dropV := qdiv (s.scaler.i * (s.cellCfg k 10 : Nat)) 10000
  let f := implied t (v - dropV) (s.sigTen k dropV 0) c.temp
  let sv := qdiv (f.1 + f.2) 2
  let sig0 := qdiv (f.2 - f.1) 2
  let full := chemRest t * 1000
  let rest := min (s.restTime k) full
  let unc := clampI uncLow uncHigh (if full = 0 then sig0 else qdiv (sig0 * (2 * full - rest)) full)
  s.modCell k fun c => { c with soc := sv, socC := sv, socCValid := sv, unc := unc, p := unc * unc, floor := f.1, ceil := f.2, v1 := 0,
                                qLast := s.scaler.q, bleedQ := 0, lastUpdate := s.core.cycle, awaitSample := false }

/-- A traverse that something ends before its second anchor yields no step: it is counted and recorded (R194). -/
def rejectTraverse (k : Nat) (s : State) : State :=
  match (s.cell k).anchor with
  | some a =>
    let c := s.cell k
    ((countEst 3 s).tellEvent 0x0020 3 k (leI 4 (c.soc - a.soc) ++ leI 4 0 ++ le 4 (s.since a.cycle))).modCell k fun c =>
      { c with anchor := none, dqT := 0, spoiled := false, gaps := 0 }
  | none => s

/-- The state of a cell of the slot's table `t` that an insertion sets at once (R200, R226): nominal capacity `nom`, initial Rdc `rdc`. -/
def CellState.inserted (c : CellState) (t : Bytes) (nom rdc : Nat) (now : Cycle) (serial : Nat) : CellState :=
  let clear := fun (f : BitVec 32) (i : Nat) => setBit f i false
  { c with cap := nom, capUnc := nom / 20, rdc := rdc * 100, r1 := rdc * 100 * chemR1Ratio t / 4096, tau1 := chemTau1 t * 100, v1 := 0,
           efc := 0, dqAbs := 0, selfDis := 0, bleedTotal := 0,
           flags := setBit ([cfDivergence, cfRelearnUp, cfRelearnDown, cfEndCharge, cfEndDischarge, cfShort, cfHealth].foldl clear c.flags) cfInserted true,
           insertions := inc16 c.insertions, insertedAt := some now, insertPending := false, awaitSample := true, learned := false,
           health := 0, capRet := 10000, rGrowth := 10000, rOutlier := 10000, serial := serial,
           suspicion := .none, rates := [], toneResult := none, snapshots := [], restSum := 0, restN := 0, lowRun := 0, shutOff := false, shutClear := 0 }

/-- An insertion (R200): cause 1 serial number, 2 command, 3 voltage. -/
def insertCell (cause k : Nat) (s : State) : State :=
  let c := s.cell k
  let new := (s.info (s.headOf k)).serial
  let s := s.report (s.laneSrc k) 0x56 .notice 1 k
  let s := s.tellEvent 0x0020 6 k (le 1 cause ++ le 8 c.serial ++ le 8 new ++ le 4 c.cap ++ le 4 c.efc)
  let s := rejectTraverse k (countEst 5 s)
  let s := s.modCell k fun c => c.inserted (s.cellChem k) (s.cNom k) (s.cellCfg k 10) s.core.cycle new
  let s := spoilWindow k (laneClear 0x5D k (laneClear 0x5C k (laneClear 0x55 k (resetImpedance k s))))
  let s := match s.vNow k with
    | some v => if s.sampleValid k then insertSoc k v s else s
    | none => s
  learnedRecord 2 k s

/-- Detect an insertion of a cell in the cycle (R199), and give a waiting one its SoC (R200). -/
def insertionOf (s : State) (k : Nat) : State :=
  let c := s.cell k
  let s := if c.insertPending then insertCell (if c.serial != 0 && c.serial != (s.info (s.headOf k)).serial then 1 else 2) k s
    else match s.vNow k with
      | some v =>
        if s.sampleValid k then
          if c.hasPrev && 20000 < (v - c.lastV).natAbs && s.scaler.i.natAbs * 18000 < s.cNom k then insertCell 3 k s
          else if c.awaitSample then insertSoc k v s else s
        else s
      | none => s
  let s := s.modCell k fun c => { c with serial := (s.info (s.headOf k)).serial }
  match s.vNow k with
  | some v => if s.sampleValid k then s.modCell k fun c => { c with lastV := v, hasPrev := true } else s
  | none => s

/-! ### Events of a cycle -/

/-- s_lo of a cell at the present current and temperature (R186). -/
def State.sLo (s : State) (k : Nat) : Int :=
  socAtLoad (s.cellChem k) (s.cell k).rdc (min s.scaler.i 0) (s.cell k).temp (chemEmpty (s.cellChem k))

/-- Smallest nominal capacity of the configured cells, 0.01 As. -/
def State.cNomMin (s : State) : Nat := ((minI (s.allCells.map fun k => (s.cNom k : Int))).getD 0).toNat

/-- I_taper in mA (R188). -/
def State.taper (s : State) : Int := qdiv (s.cfg 0x4000 1 * s.cNomMin : Nat) 360000

/-- s_hi of a cell (R186). -/
def State.sHi (s : State) (k : Nat) : Int :=
  socAtLoad (s.cellChem k) (s.cell k).rdc s.taper (s.cell k).temp (chemFull (s.cellChem k))

/-- Record an end event: 1 end of charge, 2 end of discharge, 3 shut-down; the published SoC follows, the empty side first (R190, R191), and from there the steps
of R187 apply. -/
def endEvent (kind : Nat) (s : State) : State :=
  let s := if s.scaler.evaluated then s else { s with scaler := { s.scaler with evaluated := true, qEval := s.scaler.q } }
  let empty := kind != 1 || (s.scaler.lastEndCycle = s.core.cycle && 2 ≤ s.scaler.lastEnd)
  { s with scaler := { s.scaler with usable := if empty then 0 else one30, lastEnd := if kind = 1 && empty then s.scaler.lastEnd else kind,
                                     lastEndCycle := s.core.cycle } }

/-- A shut-down event of a cell (R185): its detector waits to be re-armed (R191). -/
def shutDown (s : State) (k : Nat) : State :=
  let lo := s.sLo k
  let s := if lo + one30 / 20 < (s.cell k).soc then s.setCellFlag k cfRelearnDown true else s
  let s := endEvent 3 (countEst 7 (s.modCell k fun c => { c with soc := lo, shutOff := true, shutClear := 0 }))
  s.report (s.laneSrc k) 0x58 .notice 1 k

/-- The shut-down detector of a cell: 3 valid samples in a row at or below V_empty (R185); after an event it takes 60 s of samples above it (R191). -/
def shutDownOf (s : State) (k : Nat) : State :=
  match s.vNow k with
  | none => s
  | some v =>
    if !s.sampleValid k then s
    else
      let low := decide (v ≤ 10 * chemEmpty (s.cellChem k))
      let s := s.modCell k fun c =>
        let n := if low then 0 else c.shutClear + 1
        { c with lowRun := if low then c.lowRun + 1 else 0, shutClear := n, shutOff := c.shutOff && n < 60000 }
      if (s.cell k).lowRun = 3 && !(s.cell k).shutOff then shutDown s k else s

/-- Whether the mean of a cell's next rest snapshot runs: the rest has lasted t_full, and the snapshot after the last one is due at the end of the 1,000 cycles
that complete 4802.02 (R228). -/
def State.snapDue (s : State) (k : Nat) : Bool :=
  let c := s.cell k
  !c.restOver && s.ran c.restStart (chemRest (s.cellChem k) * 1000)
    && (match c.snapshots.head? with
      | some n => s.passed n.cycle (s.cfg 0x4802 2 * 1000 - 1000)
      | none => true)

/-- Rest of a cell (R155, R228), the mean of a rest snapshot that is due, and the quiet time of R200: |I| against 4700.07 and against
C_nom/50, the latter from the first valid record on. -/
def restOf (s : State) (k : Nat) : State :=
  let i := s.scaler.i.natAbs
  let rest := decide (i * 360000 ≤ s.cfg 0x4700 7 * s.cNom k)
  let quiet := decide (i * 18000 < s.cNom k)
  let s := s.modCell k fun c =>
    { c with quietSince := if !quiet then none else if s.scaler.source = .gap then c.quietSince else s.start c.quietSince,
             restStart := if rest then s.start c.restStart else none,
             restOver := c.restOver || (!rest && c.restStart.isSome && !c.snapshots.isEmpty) }
  match s.vNow k with
  | some v =>
    if rest && s.snapDue k && s.sampleValid k then
      s.modCell k fun c => if c.restN < 1000 then { c with restSum := c.restSum + v, restN := c.restN + 1 } else c
    else s.modCell k fun c => { c with restSum := 0, restN := 0 }
  | none => s.modCell k fun c => { c with restSum := 0, restN := 0 }

/-- Conditions during a traverse that spoil it (R194), among them 720 h, the longest limit 4000.06 can set, and flag [5]'s 600 s. -/
def traverseOf (s : State) (k : Nat) : State :=
  s.modCell k fun c =>
    let beyond := match c.insertedAt with
      | some x => s.passed x 600000
      | none => true
    let long := match c.anchor with
      | some a => s.passed a.cycle (720 * 3600000 + 1)
      | none => false
    { c with spoiled := c.spoiled || long || c.flag cfSenseLost || c.flag cfTapSuspect, gaps := if s.scaler.source = .gap then c.gaps + 1 else c.gaps,
             flags := if beyond then setBit c.flags cfInserted false else c.flags }

/-- Whether a lane runs: powered, not fenced, not left with a fault that could not be fenced (R159, R160, R503). -/
def State.laneRuns (s : State) (l : Nat) : Bool :=
  s.pd (2 + l / 4) && Tab.at s.cruiser.lanes l .active != .fenced && !s.cruiser.frozen.contains l

/-- Whether a cell's class gives it an update in the cycle (R151). -/
def State.classDue (s : State) (k : Nat) : Bool :=
  match (s.cell k).cls with
  | .f => true
  | .n => s.C % 10 = (k - 1) % 10
  | .s => s.C % 100 = (k - 1) % 100

/-- Whether a cell has an update in the cycle: by its class, or with another cell of its sense-lost group, whose cells are updated together (R198). -/
def State.due (s : State) (k : Nat) : Bool :=
  s.classDue k || (match s.laneV k with
    | some (.group ks _ _) => ks.any s.classDue
    | _ => false)

/-- The Cruiser's dispatch of lane jobs into Q16-Q23 (R20): each lane that runs takes the due cells placed on it (R151, R159). -/
def dispatchJobs (s : State) : State :=
  let due := s.allCells.filter s.due
  let jobs := ((upFrom 0 8).filter s.laneRuns).map fun l => (l, due.filter fun k => (s.cell k).lane = some l)
  { s with cruiser := { s.cruiser with jobs := jobs.filter fun e => !e.2.isEmpty } }

/-- Whether a lane has a job for a cell. -/
def State.hasJob (s : State) (k : Nat) : Bool :=
  match (s.cell k).lane with
  | some l => (Tab.at s.cruiser.jobs l []).contains k
  | none => false

/-- Whether a lane takes in a cell's sample: it is not one whose cells keep their last state (R160). -/
def State.takesIn (s : State) (k : Nat) : Bool :=
  match (s.cell k).lane with
  | some l => !s.cruiser.frozen.contains l
  | none => true

/-- Record the update a fenced lane did not make in the cycle of its fault (R159). -/
def missedUpdate (s : State) (k : Nat) : State :=
  match (s.cell k).lane with
  | some l => if s.due k && s.cruiser.replace.contains l then s.tellEvent 0x0020 1 k (le 4 s.C) else s
  | none => s

/-- The correction half of the update of a cell; `before` is the state with every due cell counted, from which group sums are formed. -/
def finishCell (before s : State) (k : Nat) : State :=
  let s := match before.laneV k with
    | some l => let (e, sig) := before.innovation k l; correctCell k e sig s
    | none => s
  divergence k (clampCell k s)

/-- Take a cell's cycle into its running aggregates (R164). -/
def Agg.take (a : Agg) (v : Option Int) (temp soc : Int) (f : Bool) : Agg :=
  let a := match v with
    | some v => { a with n := a.n + 1, vMin := if a.n = 0 then v else min a.vMin v, vMax := if a.n = 0 then v else max a.vMax v, vSum := a.vSum + v }
    | none => a
  let fresh := a.cycles = 0
  { a with cycles := a.cycles + 1, tSum := a.tSum + temp, tMax := if fresh then temp else max a.tMax temp,
           socMin := if fresh then soc else min a.socMin soc, socMax := if fresh then soc else max a.socMax soc,
           fCycles := a.fCycles + b2n f }

/-- The running aggregates of a cell (R164). -/
def aggregate (s : State) (k : Nat) : State :=
  let v := if s.sampleValid k then s.vNow k else none
  s.modCell k fun c =>
    { c with minute := c.minute.take v c.temp c.rep (c.cls = .f), hour := c.hour.take v c.temp c.rep (c.cls = .f) }

/-- Every lane's work of a cycle: intake of all cells, the updates due, insertions and shut-down events (R151, R172-R185, R191, R199). The cells of a lane that
could not be fenced keep their last state (R160). -/
def runLanes (s : State) : State :=
  let ks := s.allCells.filter s.takesIn
  let s := dispatchJobs (ks.foldl (fun s k => traverseOf (restOf (takeTemp (bleedCell (markTest s k) k) k) k) k) s)
  let s := ks.foldl missedUpdate s
  let due := ks.filter s.hasJob
  let s := due.foldl countCell { s with cruiser := { s.cruiser with jobs := [] } }
  let s := due.foldl (finishCell s) s
  let s := ks.foldl insertionOf s
  let s := ks.foldl shutDownOf s
  ks.foldl aggregate s

/-! ### The usable SoC -/

/-- Reported SoC of a cell advanced by the charge counted since its last update (R187). -/
def State.repNow (s : State) (k : Nat) : Int := clampI 0 one30 ((s.cell k).rep + s.countedSoc k)

/-- Qe, Qf and cap_eff of a cell in 0.01 As (R186). -/
def State.charges (s : State) (k : Nat) : Nat × Nat × Nat :=
  let cap := s.capEff k
  let rep := s.repNow k
  let q := fun (d : Int) => (qdiv (max 0 d * cap) (2 ^ 30 * 10000)).toNat
  (q (rep - s.sLo k), q (s.sHi k - rep), (qdiv cap 10000).toNat)

/-- The entry with the smallest value, the first of equals. -/
def smallest : List (Nat × Nat) → Option (Nat × Nat)
  | [] => none
  | e :: t => match smallest t with
    | none => some e
    | some f => if f.2 < e.2 then some f else some e

/-- The evaluation of R186 and R187 in a cycle with C mod 10 = 9. The first one after BOOT, with no end event before it, has no earlier u and sets u := u*:
DESIGN CHOICE (log 49), the spec gives no value to start from. -/
def usableSoc (s : State) : State :=
  let ev := s.allCells.map fun k => (k, s.charges k)
  match smallest (ev.map fun e => (e.1, e.2.1)), smallest (ev.map fun e => (e.1, e.2.2.1)) with
  | some weak, some strong =>
    let sum := weak.2 + strong.2
    let star := if sum = 0 then s.scaler.target else qdiv (weak.2 * one30) sum
    let flow := qdiv ((s.scaler.q - s.scaler.qEval) * one30) (sum * 10000)
    let lim := qdiv (5 * one30) 6000000
    let u := if s.scaler.evaluated then
        let u := s.scaler.usable + flow
        clampI 0 one30 (u + clampI (-lim) lim (star - u))
      else star
    let reps := s.allCells.map fun k => (s.cell k).rep
    { s with scaler := { s.scaler with usable := u, target := star, qeMin := weak.2, qfMin := strong.2, weakest := weak.1, strongest := strong.1,
                                       evals := ev, qEval := s.scaler.q, evaluated := true, meanSoc := qdiv (sumI reps) reps.length } }
  | _, _ => s

/-- The impedance limit of a cell (R292): charge and discharge currents in mA. -/
def State.impedanceOf (s : State) (k : Nat) : Int × Int :=
  let c := s.cell k
  let t := s.cellChem k
  let x := one30 - (laneExp (s.cfg 0x6000 4 * 1000000) c.tau1 : Int)
  let r := rdcAt t c.rdc c.rep c.temp + qdiv (c.r1 * x) (2 ^ 30)
  let o := ocv t c.rep c.temp + c.v1
  let mar := s.cfg 0x6000 5
  (max 0 (qdiv ((s.env 0x5800 1 * 10 - mar - o) * 1000000) r.toNat), max 0 (qdiv ((o - s.env 0x5800 4 * 10 - mar) * 1000000) r.toNat))

/-- The impedance limit of the string, present when every configured cell has a reference Rdc (R289, R292). -/
def impedanceLimit (s : State) : State :=
  let l := s.allCells.map s.impedanceOf
  let lim := if s.hasEnv && s.allCells.all (fun k => (s.cell k).rdc != 0) then
      match minI (l.map Prod.fst), minI (l.map Prod.snd) with
      | some a, some b => some (a, b)
      | _, _ => none
    else none
  { s with sawyer := { s.sawyer with impLim := lim } }

/-! ### The windows of end of charge and end of discharge -/

/-- Whether a cell meets the voltage condition of an end event (R188, R189): charge, or discharge. -/
def State.endVoltage (s : State) (charge : Bool) (k : Nat) : Bool :=
  match s.vNow k with
  | some v => s.sampleValid k && (if charge then 10 * (chemFull (s.cellChem k) : Int) - 500 ≤ v else v ≤ 10 * (chemEmpty (s.cellChem k) : Int) + 500)
  | none => false

/-- Advance both windows and both re-arm runs by the cycle (R188, R189, R191): a current gap stands still for the windows alone. -/
def endWindows (s : State) : State :=
  if !s.allCells.any s.sampleValid then s
  else
    let chg := s.allCells.any (s.endVoltage true)
    let dis := s.allCells.any (s.endVoltage false)
    let low := decide ((s.scaler.i.natAbs * 360000 : Nat) ≤ s.cfg 0x4000 1 * s.cNomMin)
    let gap := s.scaler.source = .gap
    let c := s.scaler
    let run := fun (v : Bool) (n : Nat) => if gap then n else if v && low then n + 1 else 0
    { s with scaler := { c with chgRun := run chg c.chgRun, disRun := run dis c.disRun,
                                chgClear := if chg then 0 else c.chgClear + 1, disClear := if dis then 0 else c.disClear + 1 } }

end Sys2Proof.Machine
end

