-- ==== Sys2Proof/Machine/Cruiser.lean ====
section
/-! DEFINITION. The Cruiser (05): F reasons, ranks and classes (R153-R155), lanes and moves (R157-R161), the table epoch's checks (R24, R93,
R139, R148, R181) and its load (R149), staging (R146), aggregates, checkpoints and wear (R164-R166). -/

namespace Sys2Proof.Machine

open Sys2Proof

/-! ### F reasons (R154) -/

/-- A cell's value for its distance to a limit: present, else the last one. -/
def State.vOrLast (s : State) (k : Nat) : Int := (s.vNow k).getD (s.cell k).lastV

/-- Distance of a cell's voltage to the nearest envelope cell voltage limit, negative beyond it, 10 µV. -/
def State.voltDist (s : State) (k : Nat) : Int := min (s.vOv - s.vOrLast k) (s.vOrLast k - s.vUv)

/-- Distance of a cell's temperature to the nearest envelope temperature limit, 0.01 °C. -/
def State.tempDist (s : State) (k : Nat) : Int := min (s.tMax - (s.cell k).temp) ((s.cell k).temp - s.tMin)

/-- The cells that hold the highest and the lowest voltage of the string, the lowest-numbered of equals (category 2). -/
def State.extremes (s : State) : List Nat :=
  let vs := s.allCells.filterMap fun k => (s.vNow k).map fun v => (k, v)
  let pick := fun (x : Option Int) => match x with
    | some x => (vs.find? fun (e : Nat × Int) => e.2 = x).map Prod.fst
    | none => none
  (pick (maxI (vs.map Prod.snd))).toList ++ (pick (minI (vs.map Prod.snd))).toList

/-- Whether a cell has an F reason of a category on the data of the cycle. `ext` are the extremes. -/
def State.hasReason (s : State) (ext : List Nat) (k cat : Nat) : Bool :=
  let c := s.cell k
  match cat with
  | 1 => c.flag cfSenseLost || c.flag cfTapSuspect || s.besideTest k
  | 2 => ext.contains k
  | 3 => s.hasEnv && s.voltDist k ≤ s.cellCfg k 11 * 100
  | 4 => s.hasEnv && s.tempDist k ≤ s.cellCfg k 12
  | 5 => c.flag cfInserted || c.flag cfDivergence || pct30 (s.cfg 0x4700 5) < c.unc
  | 6 => s.cellCfg k 5 = 2
  | _ => false

/-- The first category in which a cell has an F reason, 0 when it has none. -/
def State.fReason (s : State) (ext : List Nat) (k : Nat) : Nat := ((upFrom 1 6).find? (s.hasReason ext k)).getD 0

/-- Whether any of a list of cells has an F reason of category 1, 3 or 4 (R210, R246). -/
def State.guarded (s : State) (ks : List Nat) : Bool := ks.any fun k => s.hasReason [] k 1 || s.hasReason [] k 3 || s.hasReason [] k 4

/-- A cell as it stands for ranking: category (7 without a reason but within its hold), whether it is F already, distance, number. -/
structure Ranked where
  cat : Nat
  already : Bool
  dist : Int
  cell : Nat
deriving DecidableEq, Repr

/-- Whether `a` ranks before `b` (R154). -/
def Ranked.before (a b : Ranked) : Bool :=
  if a.cat != b.cat then a.cat < b.cat
  else if a.already != b.already then a.already
  else if a.dist != b.dist then a.dist < b.dist
  else a.cell < b.cell

/-- Insert into a ranked list. -/
def insertRanked (a : Ranked) : List Ranked → List Ranked
  | [] => [a]
  | b :: t => if a.before b then a :: b :: t else b :: insertRanked a t

/-- Sort by rank. -/
def sortRanked : List Ranked → List Ranked
  | [] => []
  | a :: t => insertRanked a (sortRanked t)

/-- Whether a cell that has no F reason now still holds its F (R155): 4700.06 cycles since its last reason. -/
def State.inHold (s : State) (k : Nat) : Bool :=
  (s.cell k).cls = .f && (match (s.cell k).lastFReason with
    | some c => s.since c < s.cfg 0x4700 6
    | none => false)

/-- The ranked cells: those with a reason, then those within their hold. -/
def State.ranking (s : State) : List Ranked :=
  let ext := s.extremes
  sortRanked (s.allCells.filterMap fun k =>
    let r := s.fReason ext k
    let dist := if !s.hasEnv then 0 else if r = 4 then s.tempDist k else s.voltDist k
    if r != 0 then some ⟨r, (s.cell k).cls = .f, dist, k⟩
    else if s.inHold k then some ⟨7, true, dist, k⟩ else none)

/-- The class of a cell without F (R155): S once the string has rested for the rest time, N otherwise, not below its minimum class. -/
def State.slowClass (s : State) (k : Nat) : CellClass :=
  let rested := match (s.cell k).restStart with
    | some c => s.passed c (s.cfg 0x4700 8 * 1000)
    | none => false
  if rested && s.cellCfg k 5 = 0 then .s else .n

/-! ### Lanes -/

/-- Lane and class of each cell as decided so far. -/
abbrev Placement := List (Nat × Nat × CellClass)

/-- Cells on a lane. -/
def lanePop (pl : Placement) (l : Nat) : Nat := (pl.filter fun e => e.2.1 = l).length

/-- F cells on a lane. -/
def laneF (pl : Placement) (l : Nat) : Nat := (pl.filter fun e => e.2.1 = l && e.2.2 = .f).length

/-- Put a cell on a lane. -/
def moveTo (k l : Nat) (pl : Placement) : Placement := pl.map fun e => if e.1 = k then (k, l, e.2.2) else e

/-- The lane with the fewest of a count among lanes that take cells, the lower of equals. -/
def fewest (f : Nat → Nat) : List Nat → Option Nat
  | [] => none
  | l :: t => match fewest f t with
    | none => some l
    | some m => if f m < f l then some m else some l

/-- Lanes that take cells: running, neither drained nor draining, below 80 cells (R152, R158, R161). -/
def State.openLanes (s : State) (pl : Placement) : List Nat :=
  (upFrom 0 8).filter fun l => Tab.at s.cruiser.lanes l .active = .active && !s.cruiser.frozen.contains l && lanePop pl l < 80

/-- Whether a lane's cells keep their last state (R160): its fault could not be fenced. -/
def State.frozenLane (s : State) (l : Nat) : Bool := s.cruiser.frozen.contains l

/-- Move the lowest-ranked excess F cells of a lane away, `n` at most (R158); those of a frozen lane stay (R160). -/
def relieveLane (s : State) (order : List Nat) (l : Nat) : Nat → Placement → Placement
  | 0, pl => pl
  | n + 1, pl =>
    if laneF pl l ≤ 24 || s.frozenLane l then pl
    else match (order.reverse).find? fun k => pl.any fun e => e.1 = k && e.2.1 = l && e.2.2 = .f with
      | none => pl
      | some k => match fewest (laneF pl) ((s.openLanes pl).filter fun m => m != l) with
        | none => pl
        | some m => relieveLane s order l n (moveTo k m pl)

/-- Move up to `n` N or S cells from the fullest lane to the emptiest while they differ by more than 16 (R158). The lowest-numbered one moves first: DESIGN
CHOICE (log 48), the spec names none. -/
def balanceLanes (s : State) : Nat → Placement → Placement
  | 0, pl => pl
  | n + 1, pl =>
    let ls := (upFrom 0 8).filter fun l => Tab.at s.cruiser.lanes l .active = .active && !s.frozenLane l
    match fewest (fun l => 600 - lanePop pl l) ls, fewest (lanePop pl) ls with
    | some a, some b =>
      if lanePop pl b + 16 < lanePop pl a then
        match pl.find? fun e => e.2.1 = a && e.2.2 != .f with
        | some e => balanceLanes s n (moveTo e.1 b pl)
        | none => pl
      else pl
    | _, _ => pl

/-- Move up to `n` cells off a lane in an order (R159, R161): each to the open lane with the fewest F cells. -/
def emptyLane (s : State) (order : List Nat) (l : Nat) : Nat → Placement → Placement
  | 0, pl => pl
  | n + 1, pl =>
    match order.find? fun k => pl.any fun e => e.1 = k && e.2.1 = l with
    | none => pl
    | some k => match fewest (laneF pl) ((s.openLanes pl).filter fun m => m != l) with
      | none => pl
      | some m => emptyLane s order l n (moveTo k m pl)

/-- All cells in rank order, F cells first (R159): the ranked ones, then the others by number. -/
def State.placeOrder (s : State) (isF : Nat → Bool) : List Nat :=
  let rank := s.ranking.map Ranked.cell
  let all := rank ++ s.allCells.filter fun k => !rank.contains k
  all.filter isF ++ all.filter fun k => !isF k

/-- Lane and class of every placed cell. -/
def State.placement (s : State) : Placement := s.allCells.filterMap fun k => (s.cell k).lane.map fun l => (k, l, (s.cell k).cls)

/-- Whether cell k sits on a lane whose cells keep their last state (R160). -/
def State.keepsLast (s : State) (k : Nat) : Bool :=
  match (s.cell k).lane with
  | some l => s.frozenLane l
  | none => false

/-- The Cruiser's decisions on the data of a cycle (R154-R158, R161): classes and lanes of the next cycle, moves, counts. The cells of a frozen lane keep
what they have (R160). -/
def cruise (s : State) : State :=
  let rank := s.ranking
  let top := (rank.take 168).map fun r => r.cell
  let order := rank.map fun r => r.cell
  let reasons := (rank.filter fun r => r.cat != 7).map fun r => (r.cell, r.cat)
  let s := (s.allCells.filter fun k => !s.keepsLast k).foldl (fun s k =>
    let r := (reasons.find? fun e => e.1 = k).map Prod.snd
    s.modCell k fun c =>
      { c with fCat := r.getD 0, lastFReason := if r.isSome then some s.core.cycle else c.lastFReason,
               flags := setBit c.flags cfDeferred (r.isSome && !top.contains k) }) s
  let cls := fun (k : Nat) => if s.keepsLast k then (s.cell k).cls else if top.contains k then CellClass.f
    else if reasons.any fun e => e.1 = k then .n else s.slowClass k
  let pl : Placement := s.allCells.filterMap fun k => (s.cell k).lane.map fun l => (k, l, cls k)
  let pl1 := (upFrom 0 8).foldl (fun pl l => relieveLane s order l 80 pl) pl
  let pl2 := balanceLanes s 4 pl1
  let pl3 := (upFrom 0 8).foldl (fun pl l => if Tab.at s.cruiser.lanes l .active = .draining then emptyLane s (s.placeOrder top.contains) l 16 pl else pl) pl2
  let s := pl3.foldl (fun s e => s.modCell e.1 fun c =>
    { c with nextClass := some e.2.2, nextLane := if c.lane = some e.2.1 then none else some e.2.1 }) s
  let n := (pl3.filter fun e => (s.cell e.1).nextLane.isSome).length
  { s with cruiser := { s.cruiser with fCells := (pl3.filter fun e => e.2.2 = .f).length, fDeferred := (reasons.filter fun e => !top.contains e.1).length,
                                       moves := add32 s.cruiser.moves n } }

/-- Step 3 of a boundary (R26, R157, R159, R161): classes and moves take effect, a fenced lane's cells are placed afresh, an emptied
draining lane is drained. -/
def completeMoves (s : State) : State :=
  let ranked := if s.cruiser.replace.isEmpty then [] else s.placeOrder fun k => ((s.cell k).nextClass.getD (s.cell k).cls) = .f
  let s := s.allCells.foldl (fun s k => s.modCell k fun c =>
    { c with cls := c.nextClass.getD c.cls, lane := match c.nextLane with
               | some l => some l
               | none => c.lane,
             nextClass := none, nextLane := none }) s
  let pl := s.placement
  let pl1 := s.cruiser.replace.foldl (fun pl l => emptyLane s ranked l 512 pl) pl
  let s := pl1.foldl (fun s e => s.modCell e.1 fun c => { c with lane := some e.2.1 }) s
  let moved := (pl1.filter fun e => !pl.contains e).length
  let lanes := (upFrom 0 8).foldl (fun t l =>
    if Tab.at t l .active = .draining && lanePop pl1 l = 0 then Tab.put t l .drained else t) s.cruiser.lanes
  { s with cruiser := { s.cruiser with replace := [], lanes := lanes, moves := add32 s.cruiser.moves moved } }

/-- Place the cells that sit on a lane of this unit that takes none afresh, in rank order with F cells first (R156, R159). -/
def replaceLanes (s : State) : State :=
  let pl := s.placement
  let shut := (upFrom 0 8).filter fun l => Tab.at s.cruiser.lanes l .active != .active || s.frozenLane l
  if pl.all fun e => !shut.contains e.2.1 then s
  else
    let order := s.placeOrder fun k => (s.cell k).cls = .f
    let pl1 := shut.foldl (fun pl l => emptyLane s order l 512 pl) pl
    pl1.foldl (fun s e => s.modCell e.1 fun c => { c with lane := some e.2.1 }) s

/-- The lane a cell newly configured by a COMMIT starts on: (k − 1) mod 8 as at BOOT while that lane takes cells, else the open lane with the fewest: DESIGN
CHOICE (log 48), R158 gives the lane at BOOT alone. -/
def State.startLane (s : State) (k : Nat) : Nat :=
  let pl := s.placement
  if (s.openLanes pl).contains ((k - 1) % 8) then (k - 1) % 8 else (fewest (lanePop pl) (s.openLanes pl)).getD ((k - 1) % 8)

/-- At BOOT cell k starts on lane (k − 1) mod 8 (R158). -/
def placeCells (s : State) : State :=
  let s := s.allCells.foldl (fun s k => s.modCell k fun c => { c with lane := some ((k - 1) % 8), nextClass := none, nextLane := none }) s
  { s with cruiser := { s.cruiser with lanes := [], frozen := [], replace := [] } }

/-! ### Staging (R146) -/

/-- Discard every staged change and free the staging. -/
def discardStaging (s : State) : State := { s with dict := { s.dict with staged := [], owner := none } }

/-- Put a staged value; the session becomes the owner. -/
def stageValue (sess key : Nat) (v : ObjVal) (s : State) : State :=
  { s with dict := { s.dict with staged := Tab.put s.dict.staged key v, owner := some sess, ownerAt := s.core.cycle } }

/-- STAGING_IDLE_TIMEOUT (R146): no staged write by the owner for 1F00.07. -/
def execStagingIdleTimeout (s : State) : Out :=
  if s.dict.owner.isSome && s.passed s.dict.ownerAt (s.cfg 0x1F00 7 * 1000) then .next (discardStaging s) else .next s

/-! ### The checks of a COMMIT (R24, R93, R139, R148) -/

/-- Head and channel of entry k in the staged copy. -/
def State.stagedEntry (s : State) (k : Nat) : Nat × Nat := (s.cfgStaged (0x3000 + k - 1) 1, s.cfgStaged (0x3000 + k - 1) 2)

/-- The entries follow R139: configured first, heads rising, channels from 1 without gaps, every head 1 to n present. -/
def entriesOk (n : Nat) : Nat × Nat → List (Nat × Nat) → Bool
  | prev, [] => prev.1 = n
  | prev, (p, c) :: t =>
    if p = 0 then prev.1 = n && t.all fun e => e.1 = 0
    else (if p = prev.1 then c = prev.2 + 1 else p = prev.1 + 1 && c = 1) && c ≤ 16 && entriesOk n (p, c) t

/-- Bytes of the data container that a staged configuration gives: every head's block (R24, R48). -/
def State.stagedContainer (s : State) : Nat :=
  let heads := (upFrom 1 512).map fun k => (s.stagedEntry k).1
  ((upFrom 1 (s.cfgStaged 0x2100 2)).map fun p =>
    let n := (heads.filter fun h => h = p).length
    (13 + (5 * n + 1) / 2 + 3) / 4 * 4).foldl (· + ·) 0

/-- The predicted container end in ns from t0 (R24): record after Ts + 10 µs, 6.4 µs of record per 32 bytes at 0.2 µs a byte, container,
transit of 40 µs. -/
def State.stagedEnd (s : State) : Nat := (s.cfgStaged 0x2100 3) * 100 + 10000 + 64 * 200 + s.stagedContainer * 200 + 40000

/-- The staged cells. -/
def State.stagedCells (s : State) : List Nat := (upFrom 1 512).filter fun k => (s.stagedEntry k).1 != 0

/-- Whether a slot holds a loaded or a staged table. -/
def State.chemStaged (s : State) (slot : Nat) : Bool := ((s.stagedVal (0x4010 + slot) 1).toBytes).length = 2180

/-- Kind of a point in the staged copy. -/
def State.stagedKind (s : State) (n : Nat) : Nat :=
  match Tab.find s.dict.staged (okey (0x3400 + n) 1) with
  | some v => v.toInt.toNat
  | none => s.pointKind n

/-- A field of a point in the staged copy. -/
def State.stagedPoint (s : State) (n sub : Nat) : Int :=
  match Tab.find s.dict.staged (okey (0x3400 + n) sub) with
  | some v => v.toInt
  | none => s.pointCfg n sub

/-- The points a computed point names in the staged copy (R142). -/
def State.stagedSources (s : State) (n : Nat) : List Nat :=
  let first := (s.stagedPoint n 13).toNat
  if s.stagedPoint n 2 = 4 then [first, (s.stagedPoint n 15).toNat] else upFrom first (min (s.stagedPoint n 14).toNat 2048)

/-- The points whose kind is computed in the staged copy. -/
def State.stagedComputed (s : State) : List Nat :=
  let written := (s.dict.staged.map Prod.fst).filterMap fun e =>
    if e % 256 = 1 && 0x3400 ≤ e / 256 && e / 256 ≤ 0x3BFF then some (e / 256 - 0x3400) else none
  (written ++ s.computedPoints).filter fun n => s.stagedKind n = 5

/-- A code of the node table of R285. -/
def nodeKnown (code : Nat) : Bool :=
  code = 0 || (0x1000 ≤ code && code ≤ 0x1F07 && code / 16 % 16 = 0 && code % 16 ≤ 7)
    || (0x2000 ≤ code && code ≤ 0x230F && code / 16 % 16 = 0)
    || (0x3000 ≤ code && code ≤ 0x3005) || (0x4000 ≤ code && code ≤ 0x4009) || (0x5000 ≤ code && code ≤ 0x57FF)
    || (0x6100 ≤ code && code ≤ 0x6403 && code % 256 ≤ 3) || (0x7000 ≤ code && code ≤ 0x71FF)

/-- A node code that COMMIT refuses for a slot: outside the table, or of a group that runs after the slot (R285, R286). -/
def nodeBad (slot code : Nat) : Bool :=
  !nodeKnown code || (0x2000 ≤ code && code ≤ 0x2FFF && (slot ≤ 1 || 2 ≤ code / 256 % 16))

/-- The staged chemistry tables that no longer meet R181 against the active envelope, as condition numbers. -/
def State.stagedChemBad (s : State) : Option Nat :=
  (upFrom 0 8).findSome? fun slot =>
    match Tab.find s.dict.staged (okey (0x4010 + slot) 1) with
    | some v => let n := chemCheck v.toBytes s.chemEnv
                if n = 0 then none else some n
    | none => none

end Sys2Proof.Machine
end

