-- ==== Sys2Proof/Machine/WinchOps.lean ====
section
/-! DEFINITION. The Winch axes: modes and settings (R324-R328), how an axis starts, stops and stands, the disconnector's state (R338). -/

namespace Sys2Proof.Machine

open Sys2Proof

/-- Axis a, 1 to 4. -/
def State.axis (s : State) (a : Nat) : Axis := Tab.at s.axes a {}

/-- Update axis a. -/
def State.modAxis (s : State) (a : Nat) (f : Axis → Axis) : State := { s with axes := Tab.mod s.axes a {} f }

/-- Setting `sub` of axis a: 6860 + a − 1, with the defaults of R341. -/
def State.axisCfg (s : State) (a sub : Nat) : Nat :=
  match Tab.find s.dict.vals (okey (0x685F + a) sub) with
  | some v => v.toInt.toNat
  | none => if sub = 1 then (match a with | 1 => 1 | 2 => 2 | 3 => 3 | _ => 0)
            else if sub = 2 && a = 1 then 0x1307
            else if sub = 0x0A && a = 1 then 4000
            else s.cfg (0x685F + a) sub

/-- Mode of axis a (R325). -/
def State.axisMode (s : State) (a : Nat) : Nat := s.axisCfg a 1

/-- Source code of an axis (R468). -/
def srcAxis (a : Nat) : Nat := 0x047 + a

/-- Whether an axis has steps commanded (R328). -/
def Axis.moving (a : Axis) : Bool := a.vel != 0 || a.ramp != .none

/-- Whether the axis has stood still for `n` cycles; an axis that has not moved since BOOT has. -/
def State.still (s : State) (a n : Nat) : Bool :=
  let x := s.axis a
  !x.moving && (match x.stillSince with
    | none => true
    | some c => s.passed c n)

/-- Qualified switch states: LIM+, LIM−, HOME (6870.09). -/
def Axis.limP (a : Axis) : Bool := a.switches.getLsbD 0
def Axis.limN (a : Axis) : Bool := a.switches.getLsbD 1
def Axis.home (a : Axis) : Bool := a.switches.getLsbD 2

/-- Confirmed closed and confirmed open (R338). -/
def State.discClosed (s : State) : Bool := (s.axis 3).limP && !(s.axis 3).limN && s.still 3 100
def State.discOpen (s : State) : Bool := !(s.axis 3).limP && (s.axis 3).limN && s.still 3 100

/-- State code 68B0.02. -/
def State.discState (s : State) : Nat :=
  let a := s.axis 3
  if a.limP && a.limN then 4
  else if a.moving then 3
  else if s.discClosed then 2
  else if s.discOpen then 1
  else 0

/-- The state an axis rests in by its mode: 6870.01. -/
def State.restState (s : State) (a : Nat) : AxisState :=
  let x := s.axis a
  if x.fenced then .fenced
  else match s.axisMode a with
    | 0 => .disabled
    | 3 | 4 => .standstill
    | m => if !x.homed then .unhomed else if m = 2 && x.follow.isSome then .following else .standstill

/-- Whether moves and homing wait: the module runs on backup, the Winch drivers are off (R327, R503), or in a pair another unit drives or the
bridges are about to change hands (R569). -/
def State.motionHeld (s : State) : Bool := s.power.onBackup || !s.pd 10 || !s.countsActive || s.pair.phase = 3 || s.pair.phase = 4

/-- Entry of an axis's friction and cogging table at its position (R331): cogging offset and friction current, mA. -/
def State.coilEntry (s : State) (a : Nat) : Int × Int :=
  let b := s.octets (0x689F + a) 1
  let span := max 1 (s.axisCfg a 0x11)
  let j := ((s.axis a).pos % span * 256 / span).toNat
  (fieldI b (4 * j) 2, fieldN b (4 * j + 2) 2)

/-- Coil current of a moving axis (R331). -/
def State.runCurrent (s : State) (a : Nat) : Nat :=
  (clampI 0 2000 (s.axisCfg a 3 + (s.coilEntry a).1 + (s.coilEntry a).2)).toNat

/-- Coil current at standstill (R327, R331). -/
def State.standCurrent (s : State) (a : Nat) : Nat :=
  (clampI 0 2000 ((s.axisCfg a 3 * s.axisCfg a 4 / 1000 : Nat) + (s.coilEntry a).1)).toNat

/-- The axis is at a stop now: no steps commanded, its rest state, the standstill timer started; it may have ended a wait. -/
def standAxis (a : Nat) (s : State) : State :=
  let s := s.modAxis a fun x => { x with vel := 0, ramp := .none, stillSince := some s.core.cycle, lastStep := s.core.cycle }
  s.modAxis a fun x => { x with state := if x.state = .fault || x.state = .fenced || x.waiting then (if x.waiting then .waiting else x.state)
                                         else s.restState a }

/-- Stop with no ramp: driver disabled (R274). -/
def cutAxis (a : Nat) (s : State) : State :=
  standAxis a (s.modAxis a fun x => { x with coil := 0, discCmd := .none, ramp := .none, vel := 0 })

/-- Start a ramp that ends in a stop: at a_max, or at a_stop when `hard` (R326, R332-R337). An axis that has no steps commanded stands. -/
def stopAxis (a : Nat) (hard : Bool) (s : State) : State :=
  if (s.axis a).moving then
    s.modAxis a fun x => { x with ramp := if hard then .hardStop else .stopping, state := .moving }
  else s

/-- Priority of an axis: 3 first, then 1 with its follower, then 4 (R328). -/
def axisRank (s : State) (a : Nat) : Nat :=
  if a = 3 then 0 else if a = 1 then 1 else if s.axisMode a = 2 then 2 else 3

/-- The axes that are moving. -/
def State.movers (s : State) : List Nat := (upFrom 1 4).filter fun a => (s.axis a).moving

/-- Axes that may move at a time: two, or one while the power-stage zone throttles (R328, R512). -/
def State.motionPlaces (s : State) : Nat := if 2 ≤ s.power.zones.toNat / 4 % 4 then 1 else 2

/-- Ask for a motion place (R328): no more than two axes move at a time, one under throttle (R512). A higher-priority request makes the lowest-priority mover
decelerate and wait; the axis itself waits until a place is free. The flag is true when the axis may move now. -/
def motionPlace (a : Nat) (s : State) : Bool × State :=
  let others := s.movers.filter fun b => b != a
  if others.length < s.motionPlaces then (true, s.modAxis a fun x => { x with waiting := false })
  else match others.find? fun b => axisRank s a < axisRank s b && others.all fun c => axisRank s c ≤ axisRank s b with
    | some b =>
      let s := (stopAxis b false s).modAxis b fun x => { x with waiting := true }
      (false, s.modAxis a fun x => { x with waiting := true, state := .waiting })
    | none => (false, s.modAxis a fun x => { x with waiting := true, state := .waiting })

/-- Whether a limit switch forbids a move of axis a by `d`: towards an active limit, outside homing and end-switch mode (R334). -/
def State.limitBars (s : State) (a : Nat) (d : Int) : Bool :=
  let x := s.axis a
  x.homing = .idle && s.axisMode a != 3 && ((0 < d && x.limP) || (d < 0 && x.limN))

/-- Begin a move of axis a to `target` from standstill at travel speed `speed` (R326-R328): on backup, and without a motion place, it
waits; towards an active limit it does not begin. -/
def beginMoveAt (a : Nat) (target : Int) (speed : Nat) (s : State) : State :=
  let d := target - (s.axis a).pos
  let s := s.modAxis a fun x => { x with target := target, speed := speed }
  if (s.axis a).fenced || d = 0 || s.limitBars a d then s
  else if s.motionHeld then s.modAxis a fun x => { x with waiting := true, state := .waiting }
  else
    let (go, s) := motionPlace a s
    if go then
      s.modAxis a fun x => { x with ramp := .toTarget, state := if x.homing = .idle then .moving else .homing, coil := s.runCurrent a,
                                    stillSince := none }
    else s

/-- Begin a move at v_max. -/
def beginMove (a : Nat) (target : Int) (s : State) : State := beginMoveAt a target (s.axisCfg a 7) s

/-- Whether a moving axis reaches `target` without passing it, decelerating at a_max (R326). -/
def State.reaches (s : State) (a : Nat) (target : Int) : Bool :=
  let x := s.axis a
  let d := target - x.pos
  x.vel = 0 || ((0 < d) = (0 < x.vel) && x.vel * x.vel ≤ 2 * (s.axisCfg a 8 : Int) * d.natAbs)

/-- A new target (R326): a standing axis begins a move; a moving one replans from its position and velocity. An axis that has been told to
hold keeps the target for its next ramp. -/
def retarget (a : Nat) (target : Int) (s : State) : State :=
  let x := s.axis a
  if !x.moving then beginMove a target s
  else if x.ramp = .stopping || x.ramp = .hardStop then s.modAxis a fun x => { x with target := target }
  else
    let direct := s.reaches a target
    s.modAxis a fun x => { x with target := target, ramp := if direct then .toTarget else .reversing }

end Sys2Proof.Machine
end

