-- ==== Sys2Proof/Machine/Canopy.lean ====
section
/-! DEFINITION. The Canopy: cell temperature statistics (R314), thresholds (R315-R318), COOL and HEAT (R320), fail-safe (R321) and the
modes it forces on its slots. -/

namespace Sys2Proof.Machine

open Sys2Proof

/-! ### Statistics and mode -/

/-- The filtered values of the good points with flag [0] (R314). -/
def State.cellTemps (s : State) : List Int :=
  (s.points.filter fun e => e.2.quality = .good && s.pointFlag e.1 0).map fun e => e.2.filtered

/-- Whether the statistics are lost: no such point is good. -/
def State.statsLost (s : State) : Bool := s.cellTemps.isEmpty

/-- The figures of R314, and COOL or HEAT (R320). Without a good point they hold, and *cell temperature statistics lost* is reported. -/
def canopyStatistics (s : State) : State :=
  let l := s.cellTemps
  match maxI l, minI l with
  | some hi, some lo =>
    let heat := if lo < s.num 0x6800 4 then true else if s.num 0x6800 5 ≤ lo then false else s.canopy.heat
    let s := s.clearOnce 0x041 0x74 0 0
    { s with canopy := { s.canopy with hottest := hi, coldest := lo, spread := hi - lo, mean := qdiv (sumI l) l.length, good := l.length,
                                       heat := heat } }
  | _, _ => { s.raiseOnce 0x041 0x74 .warn 0 0 with canopy := { s.canopy with good := 0 } }

/-! ### Thresholds -/

/-- Threshold i. -/
def State.thr (s : State) (i : Nat) : Threshold := Tab.at s.canopy.thresholds i {}

/-- Update threshold i. -/
def State.modThr (s : State) (i : Nat) (f : Threshold → Threshold) : State :=
  { s with canopy := { s.canopy with thresholds := Tab.mod s.canopy.thresholds i {} f } }

/-- A setting of threshold i. -/
def State.thrCfg (s : State) (i sub : Nat) : Int := s.num (0x6810 + i) sub

/-- Whether a value is beyond a threshold's level (R315). -/
def State.thrBeyond (s : State) (i : Nat) (v : Int) : Bool :=
  if s.thrCfg i 2 = 0 then s.thrCfg i 3 ≤ v else v ≤ s.thrCfg i 3

/-- Whether a value is clear of it. -/
def State.thrClear (s : State) (i : Nat) (v : Int) : Bool :=
  if s.thrCfg i 2 = 0 then v ≤ s.thrCfg i 3 - s.thrCfg i 4 else s.thrCfg i 3 + s.thrCfg i 4 ≤ v

/-- One good sample (R316). -/
def Threshold.sample (t : Threshold) (now : Cycle) (beyond clear : Bool) : Threshold :=
  match t.state with
  | .normal =>
    if beyond then (if t.count + 1 < 3 then { t with count := t.count + 1 } else { t with state := .pending, count := 0, since := now })
    else { t with count := 0 }
  | .pending => if beyond then t else { t with state := .normal, count := 0 }
  | .active =>
    if clear then (if t.count + 1 < 3 then { t with count := t.count + 1 } else { t with state := .clearing, count := 0, since := now })
    else { t with count := 0 }
  | .clearing => if clear then t else { t with state := .active, count := 0 }
  | .disabled => t

/-- THRESHOLD_SAMPLE (R315, R316): the Updated field of threshold i's point has advanced. -/
def execThresholdSample (j : Nat) (s : State) : Out :=
  let n := (s.thrCfg j 1).toNat
  let p := s.point n
  if 32 ≤ j || n = 0xFFFF || !p.seen || (s.thr j).seenAt = some p.updated then .next s
  else
    let s := s.modThr j fun t => { t with seenAt := some p.updated }
    if p.quality = .good then
      .next (s.modThr j fun t => t.sample s.core.cycle (s.thrBeyond j p.filtered) (s.thrClear j p.filtered))
    else .next s

/-- ENTRY_DWELL_EXPIRED (R316): ACTIVE, the fault of the threshold's severity, its actions. -/
def execEntryDwellExpired (j : Nat) (s : State) : Out :=
  let t := s.thr j
  if t.state = .pending && s.passed t.since (s.thrCfg j 5).toNat then
    let s := s.modThr j fun t => { t with state := .active, count := 0, activations := inc32 t.activations }
    let v := (s.thrCfg j 7).toNat
    .next (if v = 0 then s else s.raiseOnce 0x041 0x75 (Sev.ofCode (v - 1)) 5 j)
  else .next s

/-- EXIT_DWELL_EXPIRED (R316): NORMAL, the fault cleared, the actions removed. -/
def execExitDwellExpired (j : Nat) (s : State) : Out :=
  let t := s.thr j
  if t.state = .clearing && s.passed t.since (s.thrCfg j 6).toNat then
    .next ((s.modThr j fun t => { t with state := .normal, count := 0 }).clearOnce 0x041 0x75 5 j)
  else .next s

/-- Point or settings changed by COMMIT: NORMAL, counts and timers reset, fault cleared (R316). A threshold that COMMIT has accepted lies
within the envelope. -/
def resetThreshold (i : Nat) (s : State) : State :=
  let s := s.modThr i fun t => { t with state := .normal, count := 0, seenAt := none }
  (s.clearOnce 0x041 0x75 5 i).clearOnce 0x041 0x76 5 i

/-- Whether a threshold's level lies within the envelope's fields (R317), by its point's flags [0] and [1]. -/
def thrWithin (env : Nat → Int) (flags : Nat) (low : Bool) (level : Int) : Bool :=
  (!flags.testBit 0 || (if low then max (env 2) (env 4) ≤ level else level ≤ min (env 1) (env 3)))
    && (!flags.testBit 1 || (env 7 ≤ level && level ≤ env 6))

/-- Whether threshold i as it stands lies within the envelope in force. -/
def State.thrOk (s : State) (i : Nat) : Bool :=
  let n := (s.thrCfg i 1).toNat
  n = 0xFFFF || thrWithin (s.env 0x5801) (s.pointCfg n 4).toNat (s.thrCfg i 2 = 1) (s.thrCfg i 3)

/-- A new envelope takes effect: thresholds outside it are disabled and reported (R317). -/
def disableThresholds (s : State) : State :=
  (upFrom 0 32).foldl (fun s i =>
    if s.thrOk i || (s.thr i).state = .disabled then s
    else ((s.modThr i fun t => { t with state := .disabled, count := 0 }).clearOnce 0x041 0x75 5 i).raiseOnce 0x041 0x76 .warn 5 i) s

/-- The action bits of all thresholds ACTIVE or CLEARING, combined (R318). -/
def State.actionBit (s : State) (b : Nat) : Bool :=
  s.canopy.thresholds.any fun e => (e.2.state = .active || e.2.state = .clearing) && (s.thrCfg e.1 8).toNat.testBit b

/-! ### Fail-safe and forced modes -/

/-- A loop slot. -/
def State.slot (s : State) (n : Nat) : Slot := Tab.at s.sawyer.slots n {}

/-- Update a loop slot. -/
def State.modSlot (s : State) (n : Nat) (f : Slot → Slot) : State :=
  { s with sawyer := { s.sawyer with slots := Tab.mod s.sawyer.slots n {} f } }

/-- A setting of a loop slot; the outputs of slots 0 and 1 range from 0 to the envelope's continuous current (R312). -/
def State.slotCfg (s : State) (n sub : Nat) : Int :=
  if n ≤ 1 && sub = 0x11 then s.env 0x5802 (3 + n) * 1000 else s.num (0x6010 + n) sub

/-- Whether a measurement node refers to a good point (R321). -/
def State.nodeGood (s : State) (code : Nat) : Bool :=
  if 0x5000 ≤ code && code ≤ 0x57FF then s.pointGood (code - 0x5000)
  else if code = 0x4008 || code = 0x4009 then !s.statsLost
  else true

/-- Whether a slot's output drives a fenced axis (R321, R339). -/
def State.drivesFenced (s : State) (n : Nat) : Bool :=
  (upFrom 1 4).any fun a => (s.axis a).fenced && s.axisMode a = 1 && s.axisCfg a 2 = 0x1007 + 0x100 * n

/-- Whether a Canopy slot is without a usable measurement or drives a fenced axis. -/
def State.slotBad (s : State) (n : Nat) : Bool := !s.nodeGood (s.slotCfg n 2).toNat || s.drivesFenced n

/-- The Canopy slots (R284, R319). -/
def canopySlots : List Nat := upFrom 2 10

/-- Track a Canopy slot's measurement (R321): the fail-safe delay's start, and the return once it has been good for 1 s. -/
def watchSlot (s : State) (n : Nat) : State :=
  if s.slotBad n then s.modSlot n fun x => { x with badSince := s.start x.badSince, goodSince := none }
  else
    let s := s.modSlot n fun x => { x with goodSince := s.start x.goodSince }
    if (s.slot n).failSafe then
      if s.ran (s.slot n).goodSince 1000 then (s.modSlot n fun x => { x with failSafe := false, badSince := none }).clearOnce 0x041 0x77 5 n else s
    else s.modSlot n fun x => { x with badSince := none }

/-- CANOPY_FAIL_SAFE (R321): the fail-safe delay has passed without a good measurement. -/
def execCanopyFailSafe (n : Nat) (s : State) : Out :=
  if canopySlots.contains n && s.slotCfg n 1 != 0 && s.slotBad n && !(s.slot n).failSafe && s.ran (s.slot n).badSince (s.cfg 0x6800 6 * 1000) then
    .next ((s.modSlot n fun x => { x with failSafe := true }).raiseOnce 0x041 0x77 .warn 5 n)
  else .next s

/-- The fail-safe output of a Canopy slot (R321); slots 6 to 11 have none and hold. -/
def State.failSafeOut (s : State) (n : Nat) : Int :=
  match n with
  | 2 => 2000
  | 3 => s.slotCfg 3 0x11
  | 4 => 0
  | 5 => 1000
  | _ => (s.slot n).yApp

/-- The mode and manual output in force for a slot (R287, R318, R320, R321): its own, or what thresholds, fail-safe, the enable and
COOL or HEAT force on it. -/
def State.slotMode (s : State) (n : Nat) : Nat × Int :=
  let own := if n ≤ 1 then 1 else (s.slotCfg n 1).toNat
  let safe := canopySlots.contains n && own != 0 && ((s.slot n).failSafe || s.cfg 0x6800 1 = 0)
  if n = 4 && own != 0 && (s.actionBit 0 || s.num 0x6800 3 ≤ s.canopy.hottest) then (0, 0)
  else if n = 3 && own != 0 && s.actionBit 2 then (2, s.slotCfg 3 0x11)
  else if safe then (2, s.failSafeOut n)
  else if n = 4 && own != 0 && s.actionBit 3 then (2, s.slotCfg 4 0x11)
  else if n = 3 && own != 0 && s.canopy.heat then (2, s.slotCfg 3 0x10)
  else if n = 4 && own != 0 && !s.canopy.heat then (0, 0)
  else (own, s.slotCfg n 0x14)

/-- Whether a slot holds y_app with its integrator frozen: its measurement has gone bad and the fail-safe delay runs (R321). -/
def State.slotHeld (s : State) (n : Nat) : Bool :=
  canopySlots.contains n && (s.slot n).badSince.isSome && !(s.slot n).failSafe && (s.slotMode n).1 = 1

end Sys2Proof.Machine
end

