-- ==== Sys2Proof/Machine/PairOps.lean ====
section
/-! DEFINITION. What a unit of a pair sends over the Tether (R440-R444): frames in the order queued, and the inputs it replicates. -/

namespace Sys2Proof.Machine

open Sys2Proof

/-- The insulation value as 2012.01 reads: 0xFFFF while injection is off (R135). -/
def State.insulation (s : State) : Nat := if s.cfg 0x2012 3 = 0 then 0xFFFF else s.fe.rIso

/-- Whether the Tether is paired: keys derived, state 2 (R441, 8000.03). -/
def State.paired (s : State) : Bool := s.pair.tether = 2 && s.pair.keys.isSome

/-- Place of a frame in the order in which Q27 lets frames leave (R440). PAIR frames open a link, before any other. -/
def TetherMsg.rank : TetherMsg → Nat
  | .hello | .proof => 0
  | .heartbeat _ => 1
  | .input _ => 2
  | .missing .. => 3
  | .handOver .. => 4
  | .adoption .. => 5
  | .configuration => 6
  | .part _ => 7

/-- Put a frame behind those that leave before it and those of its own rank (R440). -/
def placeFrame (f : TetherFrame) : List TetherFrame → List TetherFrame
  | [] => [f]
  | g :: t => if f.msg.rank < g.msg.rank then f :: g :: t else g :: placeFrame f t

/-- Queue a frame in Q27 (R440). -/
def tetherSend (m : TetherMsg) (s : State) : State :=
  { s with pair := { s.pair with q27 := placeFrame { msg := m, cycle := s.core.cycle } s.pair.q27 } }

/-- The frames of Q27 leave in their order; each but a PAIR frame takes the next transmit sequence (R440, R442). -/
def drainTether (p : Pair) : Pair :=
  { p with q27 := [], txSeq := (p.txSeq + (p.q27.filter fun f => f.msg.rank != 0).length) % 2 ^ 64 }

/-- A unit that counts as active in a paired pair sends an input to its partner, with its effective cycle, and logs it itself (R444, R449). -/
def replicate (what : RepKind) (effective : Cycle) (s : State) : State :=
  if s.inPair && s.countsActive && s.paired then
    let n := (s.pair.inSeq + 1) % 65536
    let i : RepInput := { seq := n, effective := effective, what := what }
    tetherSend (.input i) { s with pair := { s.pair with inSeq := n, inputLog := s.pair.inputLog ++ [i] } }
  else s

/-- A frame of an exchange that both units take part in. A unit that counts as standby answers without an input sequence of its own: its frame repeats
the last one it has received. -/
def tetherInput (what : RepKind) (effective : Cycle) (s : State) : State :=
  if s.paired then
    let n := if s.countsActive then (s.pair.inSeq + 1) % 65536 else s.pair.inSeq
    tetherSend (.input { seq := n, effective := effective, what := what }) { s with pair := { s.pair with inSeq := n } }
  else s

/-- Whether COMMIT, envelope installs and pair hand-overs are refused for a core hand-over: from ready to Hc + 100 (R544). -/
def State.coreFrozen (s : State) : Bool := s.update.coreReady && (2 ^ 31 ≤ s.since s.update.hc || s.since s.update.hc < 100)

/-- Whether COMMIT and envelope installs are refused: from the state freeze to the end of the overlap (R150, R451), or for a core hand-over. -/
def State.frozen (s : State) : Bool := s.pair.phase = 3 || s.pair.phase = 4 || s.coreFrozen

end Sys2Proof.Machine
end

