-- ==== Sys2Proof/Machine/Inject.lean ====
section
/-! DEFINITION. Provoked faults (R485-R489): which frames of a link are affected, and how. Links 0 to 6 are objects A010 to A016. -/

namespace Sys2Proof.Machine

open Sys2Proof

/-- The injector of a link. -/
def State.injector (s : State) (link : Nat) : Inject := Tab.at s.inject link {}

/-- Update the injector of a link. -/
def State.modInject (s : State) (link : Nat) (f : Inject → Inject) : State :=
  { s with inject := Tab.mod s.inject link {} f }

/-- A setting of a link's injector: A010 + link, subindex. -/
def State.injectCfg (s : State) (link sub : Nat) : Nat := s.cfg (0xA010 + link) sub

/-- Whether arming is allowed now: ISOLATED or SERVICE, or the STANDBY role, a drill (R487). -/
def State.mayInject (s : State) : Bool := s.idle || s.pair.role = .standby

/-- One step of the 32-bit Galois LFSR with feedback mask 0x8020_0003 (R486). -/
def lfsrStep (x : BitVec 32) : BitVec 32 := if x.getLsbD 0 then (x >>> 1) ^^^ 0x80200003#32 else x >>> 1

/-- Whether an injection on a link has touched frames: what follows from them carries the injected bit (R488). -/
def State.tainted (s : State) (link : Nat) : Bool := (s.injector link).state = 2 && (s.injector link).affected != 0

/-- What an injection does to a frame. -/
inductive Injected where
  | clean | drop | corrupt | reorder
deriving DecidableEq, Repr

/-- A Tally record 0x0060 of an injection: event 1 armed, 2 started, 3 ended or stopped; subject the link's object (R488, R494). -/
def tellInject (event link : Nat) (s : State) : State :=
  s.tallyFlags 7 0x0060 (le 1 event ++ le 1 0 ++ le 2 (0xA010 + link))

/-- An injection ends in state 3 or is stopped in state 4. A drill on a ring port or the Tether has falsified what the standby recorded: its readiness
waits for an image captured from now on (R489). -/
def endInjection (st link : Nat) (s : State) : State :=
  let drill := (s.injector link).drill && (s.injector link).state = 2 && (link ≤ 1 || link = 6)
  let s := tellInject 3 link (s.modInject link fun i => { i with state := st })
  if drill then
    { s with pair := { s.pair with ready := setBit (setBit s.pair.ready 1 false) 3 false, imageAfter := some s.core.cycle } }
  else s

/-- Whether a drill that falsifies the recording runs. -/
def State.drilling (s : State) : Bool := [0, 1, 6].any fun l => (s.injector l).drill && (s.injector l).state = 2

/-- A frame of the link passes in a direction (0 receive, 1 transmit) and through the link's filter: count it while the injection runs, and
say what happens to it (R486, R487). -/
def injectFrame (link dir : Nat) (eligible : Bool) (s : State) : Injected × State :=
  let i := s.injector link
  if i.state != 2 || s.injectCfg link 3 != dir || !eligible then (.clean, s)
  else if !s.mayInject then (.clean, endInjection 4 link s)
  else
    let n := inc32 i.eligible
    let x := lfsrStep i.lfsr
    let hit := if s.injectCfg link 4 = 0 then (s.injectCfg link 5 != 0 && n % s.injectCfg link 5 = 0)
               else x.toNat % 0x10000 < s.injectCfg link 6
    let s := s.modInject link fun i =>
      { i with eligible := n, lfsr := if s.injectCfg link 4 = 0 then i.lfsr else x, affected := if hit then inc32 i.affected else i.affected,
               heldFrames := i.heldFrames.map fun h => (h.1, h.2 - 1) }
    if hit then
      ((match s.injectCfg link 2 with
        | 0 => .drop
        | 1 => .corrupt
        | _ => .reorder), s)
    else (.clean, s)

/-- Hold a frame back for the set depth (R486). -/
def holdFrame (link : Nat) (f : HeldFrame) (s : State) : State :=
  s.modInject link fun i => { i with heldFrames := i.heldFrames ++ [(f, s.injectCfg link 9)] }

/-- The held frames that are due, taken out: their depth has passed, or the injection no longer runs (R486). -/
def dueFrames (link : Nat) (s : State) : List HeldFrame × State :=
  let l := (s.injector link).heldFrames
  let due := fun (h : HeldFrame × Nat) => h.2 = 0 || (s.injector link).state != 2
  ((l.filter due).map Prod.fst, s.modInject link fun i => { i with heldFrames := l.filter fun h => !due h })

/-- Every held frame, taken out. -/
def allHeld (link : Nat) (s : State) : List HeldFrame × State :=
  (((s.injector link).heldFrames).map Prod.fst, s.modInject link fun i => { i with heldFrames := [] })

/-- The corrupt mask of a link applied to data from its first byte (R486). -/
def corruptData : Bytes → Bytes → Bytes
  | m :: ms, d :: ds => (m ^^^ d) :: corruptData ms ds
  | _, ds => ds

/-- The corrupt mask of a link. -/
def State.corruptMask (s : State) (link : Nat) : Bytes :=
  match s.octets (0xA010 + link) 8 with
  | [] => [1#8]
  | m => m

/-- Arm an injection (R486, R487): seed loaded, counters at 0, start cycle as written or the next boundary. -/
def armInjection (link : Nat) (s : State) : State :=
  let start := s.injectCfg link 10
  tellInject 1 link (s.modInject link fun i =>
    { i with state := 1, lfsr := BitVec.ofNat 32 (s.injectCfg link 7), affected := 0, eligible := 0,
             start := if start = 0 then s.core.cycle + 1 else BitVec.ofNat 32 start, drill := s.pair.role = .standby })

/-- Readiness bits [1] and [3] fall at a drill on a ring port or the Tether (R489). -/
def drillReadiness (link : Nat) (s : State) : State :=
  if (s.injector link).drill && (link ≤ 1 || link = 6) then
    { s with pair := { s.pair with ready := setBit (setBit s.pair.ready 1 false) 3 false } }
  else s

end Sys2Proof.Machine
end

