-- ==== Sys2Proof/Machine/Pdu.lean ====
section
/-! DEFINITION. The wire formats of the dictionary (R381, R387, R393, R394, R399): values, entries, metadata records, PDUs and their sizes. -/

namespace Sys2Proof.Machine

open Sys2Proof

/-- Round up to a multiple of four. -/
def up4 (n : Nat) : Nat := (n + 3) / 4 * 4

/-- Bytes padded with zeros to a multiple of four. -/
def pad4 (b : Bytes) : Bytes := padTo (up4 b.length) b

/-- The UTF-8 bytes of one character. -/
def utf8Char (c : Char) : Bytes :=
  let n := c.toNat
  if n < 0x80 then le 1 n
  else if n < 0x800 then le 1 (0xC0 + n / 64) ++ le 1 (0x80 + n % 64)
  else le 1 (0xE0 + n / 4096) ++ le 1 (0x80 + n / 64 % 64) ++ le 1 (0x80 + n % 64)

/-- A string of at most `n` bytes, zero-padded (R387). -/
def strBytes (n : Nat) (t : String) : Bytes := padTo n ((t.toList.flatMap utf8Char).take n)

/-- A value as the bytes of its type (R381). -/
def ObjDesc.encode (d : ObjDesc) (v : ObjVal) : Bytes :=
  match v with
  | .num n => leI d.width n
  | .bytes b => if d.numeric then padTo d.width (b.take d.width) else b

/-- The value bytes stand for in a type (R381). -/
def ObjDesc.decode (d : ObjDesc) (b : Bytes) : ObjVal :=
  if !d.numeric then .bytes b
  else if (6 ≤ d.ty && d.ty ≤ 0x0A) then .num (unleI b) else .num (unle b)

/-- A value entry (R393). -/
def valueEntry (idx sub ty abort : Nat) (v : Bytes) : Bytes :=
  pad4 (le 2 idx ++ le 1 sub ++ le 1 ty ++ le 4 abort ++ le 2 v.length ++ v)

/-- An address entry (R393). -/
def addrEntry (idx sub : Nat) : Bytes := le 2 idx ++ le 1 sub ++ le 1 0

/-- A PDU header (R393). -/
def pduHeader (type req length : Nat) (cyc : Cycle) (abort : Nat) : Bytes :=
  le 1 type ++ le 1 0 ++ le 2 req ++ le 4 length ++ le 4 cyc.toNat ++ le 4 abort

/-- A response as a PDU. -/
def Response.pdu (r : Response) : Bytes := pduHeader r.type r.req r.body.length r.cycle r.abort ++ r.body

/-- The declared shift of a Qn object: the state-of-charge fields are Q2.30 (R138). -/
def ObjDesc.shift (d : ObjDesc) : Nat := if d.ty = 0x0A then 30 else 0

/-- A metadata record of 84 bytes (R387). -/
def metadata (idx sub : Nat) (d : ObjDesc) : Bytes :=
  let n := fun (v : Int) => if d.numeric then leI 8 v else zeros 8
  le 2 idx ++ le 1 sub ++ le 1 d.ty ++ le 1 d.access ++ le 1 (if d.access = 0 then 0 else d.role) ++ le 1 d.persist ++ le 1 (d.flags % 32)
    ++ le 1 d.shift ++ le 1 d.readRole
    ++ le 2 (if d.width = 0 then (if d.ty = 0x0C then 255 else 0xFFFF) else d.width)
    ++ n d.min ++ n d.max ++ n d.dflt ++ strBytes 16 d.unit ++ strBytes 32 d.name

/-- Type code of a request (R394). -/
def pduType : Pdu → Nat
  | .read _ => 1 | .write _ => 2 | .readBlock .. => 3 | .writeBlock .. => 4 | .subscribe .. => 5 | .unsubscribe _ => 6
  | .commit => 8 | .describe _ => 9 | .unsupported t => t | .malformed t _ => t

/-- Bytes of a value entry's value. -/
def entrySize (e : Entry) : Nat :=
  10 + (match e.value with
        | .num _ => match objDesc e.index e.sub with
          | some d => d.width
          | none => 4
        | .bytes b => b.length)

/-- Bytes of a request PDU (R394). -/
def pduSize (p : Pdu) : Nat :=
  16 + (match p with
    | .read l => 4 + 4 * l.length
    | .write l => 4 + (l.map fun e => up4 (entrySize e)).foldl (· + ·) 0
    | .readBlock .. => 12
    | .writeBlock _ _ _ _ _ _ d => 20 + d.length
    | .subscribe _ l => 4 + 4 * l.length
    | .unsubscribe _ => 4
    | .commit => 0
    | .describe l => 4 + 4 * l.length
    | .unsupported _ => 0
    | .malformed _ _ => 0)

end Sys2Proof.Machine
end

