-- ==== Sys2Proof/Machine/Health.lean ====
section
/-! DEFINITION. Cell health (R226, R227), self-discharge at rest (R228-R231) and the internal-short suspicion (R232). -/

namespace Sys2Proof.Machine

open Sys2Proof

/-! ### Medians -/

/-- Insert into a rising list. -/
def insertI (x : Int) : List Int → List Int
  | [] => [x]
  | y :: t => if x ≤ y then x :: y :: t else y :: insertI x t

/-- A list in rising order. -/
def sortI : List Int → List Int
  | [] => []
  | x :: t => insertI x (sortI t)

/-- The median; the mean of the middle two of an even count (PRESUMED, log entry 20). -/
def medianI (l : List Int) : Int :=
  let t := sortI l
  let n := l.length
  if n % 2 = 1 then t.getD (n / 2) 0 else qdiv (t.getD (n / 2 - 1) 0 + t.getD (n / 2) 0) 2

/-! ### Health indicators (R226) -/

/-- A ratio in 0.01 %. -/
def ratio4 (a b : Nat) : Nat := if b = 0 then 10000 else (qdiv (a * 10000 : Nat) b).toNat

/-- The cells of cell k's chemistry slot that are not sense lost. -/
def State.peers (s : State) (k : Nat) : List Nat :=
  s.allCells.filter fun j => s.cellCfg j 3 = s.cellCfg k 3 && !(s.cell j).flag cfSenseLost

/-- Median reference Rdc and median learned capacity of a cell's peers. -/
def State.peerMedians (s : State) (k : Nat) : Nat × Nat :=
  ((medianI ((s.peers k).map fun j => ((s.cell j).rdc : Int))).toNat, (medianI ((s.peers k).map fun j => ((s.cell j).cap : Int))).toNat)

/-- One condition with hysteresis: `below` says on which side of the threshold it holds. -/
def hyst (was below : Bool) (x thr back : Nat) : Bool :=
  if below then (if x < thr then true else if thr + back ≤ x then false else was)
  else (if thr < x then true else if x + back ≤ thr then false else was)

/-- Health state of a cell for its figures (4C00.05): bits 0, 1 capacity, 2, 3 resistance, 4 resistance outlier, 5 capacity outlier. -/
def healthBits (old : BitVec 8) (ret growth outR outC : Nat) (t : Nat → Nat) : BitVec 8 :=
  let b := fun (i : Nat) (below : Bool) (x thr back : Nat) (h : BitVec 8) => setBit h i (hyst (old.getLsbD i) below x thr back)
  b 5 true outC (t 10) 100 (b 4 false outR (t 9) 500 (b 3 false growth (t 8) 500
    (b 2 false growth (t 7) 500 (b 1 true ret (t 6) 100 (b 0 true ret (t 5) 100 0)))))

/-- The conditions of R226 at WARN. -/
def warnBits : List Nat := [1, 3, 4, 5]

/-- Evaluate the indicators of a cell (R226): nothing is reported before its first learning step or Rdc update since its last insertion, and its values show the
nominal figure. -/
def healthOf (k : Nat) (s : State) : State :=
  let c := s.cell k
  let med := s.peerMedians k
  let ret := if c.learned then ratio4 c.cap (s.cNom k) else 10000
  let growth := if c.learned then ratio4 c.rdc (s.cellCfg k 10 * 100) else 10000
  let outR := if c.learned then ratio4 c.rdc med.1 else 10000
  let outC := ratio4 c.cap med.2
  let old := c.health
  let new := if c.learned then healthBits old ret growth outR outC (fun i => s.cfg 0x4803 i) else 0
  let s := s.modCell k fun c =>
    { c with capRet := ret, rGrowth := growth, rOutlier := outR, health := new,
             flags := setBit c.flags cfHealth (warnBits.any fun i => new.getLsbD i) }
  let s := (upFrom 0 6).foldl (fun s i =>
    if new.getLsbD i && !old.getLsbD i then s.report (s.laneSrc k) 0x5C (if warnBits.contains i then .warn else .notice) 1 k else s) s
  if new = 0 then laneClear 0x5C k s else s

/-- The string figures (R227); the median over the cells that are not sense lost (R226). -/
def healthFigures (s : State) : State :=
  let g := s.allCells.map fun k => ((s.cell k).rGrowth : Int)
  let m := (s.allCells.filter fun k => !(s.cell k).flag cfSenseLost).map fun k => ((s.cell k).rGrowth : Int)
  { s with borer := { s.borer with lowRet := ((minI (s.allCells.map fun k => ((s.cell k).capRet : Int))).getD 0).toNat,
                                   medGrowth := (medianI m).toNat, highGrowth := ((maxI g).getD 0).toNat } }

/-- The indicators of a cell after a learning step or an Rdc update, and the string figures with them (R226, R227). -/
def healthNow (k : Nat) (s : State) : State := healthFigures (healthOf k s)

/-- HEALTH_EVALUATION (R226): once per hour, every configured cell. -/
def execHealthEvaluation (s : State) : Out := .next (healthFigures (s.allCells.foldl (fun s k => healthOf k s) s))

/-! ### Rest snapshots (R228) -/

/-- Take the rest snapshot of a cell whose mean over 1,000 cycles is complete. -/
def snapCell (s : State) (k : Nat) : State :=
  let c := s.cell k
  if c.restN < 1000 || c.restStart.isNone then s
  else
    let t := s.cellChem k
    let v := qdiv c.restSum 1000
    let f := implied t v (s.sigTen k 0 0) c.temp
    let sv := qdiv (f.1 + f.2) 2
    s.modCell k fun c =>
      { c with snapshots := { cycle := s.core.cycle, v := v, temp := c.temp, sv := sv, g := ocvSlope t sv c.temp, bleed := c.bleedTotal,
                              sec := s.power.opTime / 1000 } :: c.snapshots,
               restSum := 0, restN := 0 }

/-- REST_SNAPSHOT (R228): every cell whose snapshot is due and whose 1,000 cycles are complete. -/
def execRestSnapshot (s : State) : Out :=
  let t := s.allCells.foldl snapCell s
  .next { t with borer := { t.borer with lastSnap := some s.core.cycle } }

/-! ### Evaluation of a rest (R230-R232) -/

/-- A cell's rest as it is evaluated: first and last snapshot. -/
def CellState.restEnds (c : CellState) : Option (RestSnap × RestSnap) :=
  match c.snapshots.getLast?, c.snapshots.head? with
  | some a, some b => if a.sec < b.sec then some (a, b) else none
  | _, _ => none

/-- Whether a cell's rest is to be evaluated: it has ended, or 24 h have passed since its last evaluation (or its first snapshot). -/
def State.restDue (s : State) (k : Nat) : Bool :=
  let c := s.cell k
  c.restOver || (match c.restEval, c.snapshots.getLast? with
    | some e, some _ => s.passed e 86400000
    | none, some a => 86400 ≤ s.power.opTime / 1000 - a.sec
    | _, none => false)

/-- Whether a cell takes part in its slot's median: two snapshots, within 5 °C, not sense lost, not inserted between them. -/
def State.restEligible (s : State) (k : Nat) : Bool :=
  let c := s.cell k
  match c.restEnds with
  | none => false
  | some (a, b) =>
    (b.temp - a.temp).natAbs ≤ 500 && !c.flag cfSenseLost
      && (match c.insertedAt with
        | some x => s.since a.cycle < s.since x
        | none => true)

/-- delta of a cell over its rest (R230), Q2.30. -/
def CellState.restDelta (c : CellState) : Int :=
  match c.restEnds with
  | none => 0
  | some (a, b) => b.sv - a.sv + qdiv ((b.bleed - a.bleed) * one30) (c.cap * 10000)

/-- A rate in 0.0001 % SoC per day for d over dt seconds (R230). -/
def restRate (d : Int) (dt : Nat) : Int := qdiv (-d * 86400000000) (2 ^ 30 * dt)

/-- The tests on Δt and sig_d of a qualifying result (R230): sig_d / Δt at most half the threshold, compared as squares. Between a lane's and a Lookout's snapshot
the larger sigma_v counts: DESIGN CHOICE (log 49), the formula has one sigma_v for both. -/
def restQualifies (a b : RestSnap) (thr : Nat) : Bool :=
  let dt := b.sec - a.sec
  let g := (min a.g b.g).toNat
  let x := (max a.sigma b.sigma) * 86400 * 2000000
  43200 ≤ dt && 0 < g && decide (2 * (x * x) ≤ (thr * g * dt) * (thr * g * dt))

/-- Code of a suspicion state (4C00.06). -/
def Suspicion.code : Suspicion → Nat
  | .none => 0 | .watch => 1 | .suspected => 2 | .escalated => 3

/-- The suspicion state after a qualifying result (R232). -/
def Suspicion.after (x : Suspicion) (rate : Int) (thr : Nat) : Suspicion :=
  match x with
  | .escalated => .escalated
  | .suspected => if 4 * (thr : Int) < rate then .escalated else .suspected
  | .watch => if 4 * (thr : Int) < rate then .escalated else if (thr : Int) < rate then .suspected else .none
  | .none => if 4 * (thr : Int) < rate then .escalated else if (thr : Int) < rate then .watch else .none

/-- The Tally record of a suspicion step: state, rate. -/
def suspicionRecord (k : Nat) (s : State) : State :=
  s.tellEvent 0x0020 8 k (le 1 (s.cell k).suspicion.code ++ leI 4 (s.cell k).lastRate)

/-- The suspicion table applied to a qualifying result (R232). -/
def suspect (k : Nat) (rate : Int) (s : State) : State :=
  let old := (s.cell k).suspicion
  let new := old.after rate (s.cfg 0x4802 1)
  let s := s.modCell k fun c => { c with suspicion := new }
  match old, new with
  | .none, .watch => suspicionRecord k s
  | .suspected, .suspected => suspicionRecord k s
  | .escalated, _ => suspicionRecord k s
  | _, .escalated => (s.setCellFlag k cfShort true).report (s.laneSrc k) 0x5D .degrade 1 k
  | .watch, .suspected => (s.setCellFlag k cfShort true).report (s.laneSrc k) 0x5D .warn 1 k
  | _, _ => s

/-- A qualifying result (R231, R232). -/
def restResult (k : Nat) (rate : Int) (s : State) : State :=
  let s := s.modCell k fun c =>
    { c with selfDis := c.selfDis + qdiv (rate - c.selfDis) 4, lastRate := rate, rates := keepN 3 (rate :: c.rates) }
  suspect k rate (learnedRecord 7 k s)

/-- Evaluate one cell against its slot's median. -/
def evalCell (med : Int) (k : Nat) (s : State) : State :=
  let c := s.cell k
  match c.restEnds with
  | none => s
  | some (a, b) =>
    let s := { s with borer := { s.borer with restEval := b.cycle } }
    if restQualifies a b (s.cfg 0x4802 1) then restResult k (restRate (c.restDelta - med) (b.sec - a.sec)) s else s

/-- Evaluate the due cells of one chemistry slot: at least 16 eligible cells, or none is evaluated (R230). -/
def evalSlot (due : List Nat) (s : State) (slot : Nat) : State :=
  let ks := due.filter fun k => s.cellCfg k 3 = slot && s.restEligible k
  if ks.length < 16 then s
  else
    let med := medianI (ks.map fun k => (s.cell k).restDelta)
    ks.foldl (fun s k => evalCell med k s) s

/-- REST_EVALUATION (R230): when a rest ends, and every 24 h while it continues. -/
def execRestEvaluation (s : State) : Out :=
  let due := s.allCells.filter s.restDue
  let t := (upFrom 0 8).foldl (evalSlot due) s
  .next (due.foldl (fun t k => t.modCell k fun c =>
    if c.restOver then { c with snapshots := [], restOver := false, restEval := none } else { c with restEval := some s.core.cycle }) t)

/-! ### Objects -/

/-- Condition of a write to 4802.05 (R232). -/
def condSuspicionClear (k : Nat) (s : State) : Nat :=
  let c := s.cell k
  if !s.idle then s.stateAbort abState
  else if c.rates.length = 3 && c.rates.all fun r => r ≤ (s.cfg 0x4802 1 : Int) then 0 else abortArg abNotReleased k

/-- Effect of a write to 4802.05. -/
def effSuspicionClear (k : Nat) (s : State) : State :=
  match (s.cell k).suspicion with
  | .suspected | .escalated =>
    let s := s.modCell k fun c => { c with suspicion := .none, flags := setBit c.flags cfShort false }
    suspicionRecord k (laneClear 0x5D k s)
  | .none | .watch => s

/-- Condition of a write to a cell's impedance table reset (R224). -/
def condImpedanceReset (s : State) : Nat := if s.idle then 0 else s.stateAbort abState

end Sys2Proof.Machine
end

