-- ==== Sys2Proof/Machine/Wear.lean ====
section
/-! DEFINITION. Storage units and their wear (05 R164-R166, 18 R528, R529): areas, the unit table, erase counts, bytes written. -/

namespace Sys2Proof.Machine

open Sys2Proof

/-- First logical unit of an area and its number of units, by area code 0-7 (R528, R552). -/
def areaUnits : Nat → Nat × Nat
  | 0 => (0, 256) | 1 => (256, 256) | 2 => (512, 512) | 3 => (1024, 512) | 4 => (1536, 256) | 5 => (1792, 128) | 6 => (1920, 32)
  | _ => (1952, 96)

/-- Area code of a logical unit. -/
def areaOf (u : Nat) : Nat := ((upFrom 0 8).find? fun a => (areaUnits a).1 ≤ u && u < (areaUnits a).1 + (areaUnits a).2).getD 7

/-- Bytes of a unit that hold data: 128 KB less its 32-byte head (R529). -/
def unitBytes : Nat := 131040

/-- The physical unit of a logical one (R529). -/
def State.physical (s : State) (u : Nat) : Nat := Tab.at s.cruiser.unitMap u u

/-- Erase count of a physical unit. -/
def State.erasesOf (s : State) (u : Nat) : Nat := Tab.nat s.cruiser.erases u

/-- Whether the storage works: its domain powered, POWER-GOOD, not lost (R530). -/
def State.storageOk (s : State) : Bool := s.power.good && s.pd 12 && s.storage.state != 2

/-- Of a list of logical units, the one whose physical unit has the lowest erase count, the first of equals. -/
def leastWorn (s : State) : List Nat → Option Nat
  | [] => none
  | u :: t => match leastWorn s t with
    | none => some u
    | some v => if s.erasesOf (s.physical v) < s.erasesOf (s.physical u) then some v else some u

/-- Of a list of logical units, the one whose physical unit has the highest erase count, the first of equals. -/
def mostWorn (s : State) : List Nat → Option Nat
  | [] => none
  | u :: t => match mostWorn s t with
    | none => some u
    | some v => if s.erasesOf (s.physical u) < s.erasesOf (s.physical v) then some v else some u

/-- The logical units that hold or may hold data: not those of the reserve, not retired. -/
def State.liveUnits (s : State) : List Nat := (upFrom 0 1952).filter fun u => !s.cruiser.retired.contains (s.physical u)

/-- 9880.03: highest less lowest erase count. The reserve's units, which hold nothing yet, do not count: DESIGN CHOICE (log 48), the spec does not say whether
they do. -/
def State.eraseSpread (s : State) : Nat :=
  let n := s.liveUnits.map fun u => s.erasesOf (s.physical u)
  n.foldl max 0 - (n.foldl min (n.headD 0))

/-- Erase a logical unit's physical unit `n` times. -/
def eraseUnit (u n : Nat) (s : State) : State :=
  let p := s.physical u
  { s with cruiser := { s.cruiser with erases := Tab.put s.cruiser.erases p (s.erasesOf p + n) } }

/-- Recompute 9880.03. -/
def noteSpread (s : State) : State := { s with cruiser := { s.cruiser with spread := s.eraseSpread } }

/-- Share of the rated life used (9880.01): bytes written of 60,000 times 256 MB (R165; DEDUCED, log entry 33). -/
def lifeOf (bytes : Nat) : Nat := bytes * 10000 / (60000 * 268435456)

/-- How many units of an area hold its data at most: eight checkpoints and two sets of impedance tables in the learned area, all but one elsewhere, so that a
free unit is left (R166, R528; which units are free is a DESIGN CHOICE, log 48). -/
def areaKeeps (area : Nat) : Nat := if area = 5 then 62 else (areaUnits area).2 - 1

/-- The units of an area that hold its data, oldest first. -/
def State.usedUnits (s : State) (area : Nat) : List Nat := Tab.at s.cruiser.areaUsed area []

/-- The free units of an area. -/
def State.freeUnits (s : State) (area : Nat) : List Nat :=
  (upFrom (areaUnits area).1 (areaUnits area).2).filter fun u => !(s.usedUnits area).contains u && !s.cruiser.retired.contains (s.physical u)

/-- An area begins its next unit: of its free units the one with the lowest erase count, erased as it is begun; the oldest of too many becomes free (R166). -/
def beginUnit (area : Nat) (s : State) : State :=
  match leastWorn s (s.freeUnits area) with
  | none => s
  | some u =>
    let used := keepN (areaKeeps area) (u :: (s.usedUnits area).reverse)
    eraseUnit u 1 { s with cruiser := { s.cruiser with areaUsed := Tab.put s.cruiser.areaUsed area used.reverse } }

/-- Write `n` bytes to an area: every unit they fill is followed by the next one (R166). -/
def wrote (area n : Nat) (s : State) : State :=
  let fill := Tab.nat s.cruiser.areaFill area + n
  let b := (s.cruiser.bytesWritten + n) % 2 ^ 64
  let s := { s with cruiser := { s.cruiser with bytesWritten := b, lifeUsed := min 65535 (lifeOf b),
                                                areaFill := Tab.put s.cruiser.areaFill area (fill % unitBytes) } }
  let s := if fill < unitBytes then s else noteSpread ((upFrom 0 (fill / unitBytes)).foldl (fun s _ => beginUnit area s) s)
  if 8000 ≤ s.cruiser.lifeUsed then s.raiseOnce 0x078 0xB4 .warn 0 0 else s

end Sys2Proof.Machine
end

