-- ==== Sys2Proof/Machine/Scaler.lean ====
section
/-! DEFINITION. End events, anchors and capacity learning (R188-R196, R201), cell commands (R141), re-arming and clears, minute and hour
aggregates (R164), repaired entries (R137), lane drains (R161) and the writes of the tables. -/

namespace Sys2Proof.Machine

open Sys2Proof

/-! ### Learning (R192-R195) -/

/-- A counter of 4002 by subindex. -/
def State.estCount (s : State) (sub : Nat) : Nat := Tab.nat s.scaler.counts sub

/-- A traverse as it closes: change of SoC, new capacity (0.01 As), cycles. -/
structure Traverse where
  ds : Int
  cNew : Int
  n : Nat
deriving DecidableEq, Repr

/-- The traverse from a cell's anchor to its present SoC (R193). -/
def State.traverse (s : State) (k : Nat) (a : Anchor) : Traverse :=
  let c := s.cell k
  let ds := c.soc - a.soc
  let cNew := if ds = 0 then 0 else qdiv ((if ds < 0 then -c.dqT else c.dqT) * one30) (ds.natAbs * 10000)
  { ds := ds, cNew := cNew, n := s.since a.cycle }

/-- Whether a traverse yields no step (R194). -/
def State.traverseBad (s : State) (k : Nat) (t : Traverse) : Bool :=
  let c := s.cell k
  let flagged := c.flag cfRelearnUp || c.flag cfRelearnDown
  (t.ds.natAbs : Int) < pct30 (s.cfg 0x4000 (if flagged then 4 else 3)) || t.cNew < 0 || s.cfg 0x4000 6 * 3600000 < t.n
    || c.spoiled || 1000 < c.gaps

/-- The clamp of a learning step: within 3 % of the old capacity (R193). -/
def clampCap (old : Nat) (cNew : Int) : Int := min (max cNew (qdiv (97 * old : Nat) 100)) (qdiv (103 * old : Nat) 100)

/-- Apply a learning step (R193). `unc` is σ1. -/
def learn (k : Nat) (a : Anchor) (t : Traverse) (s : State) : State :=
  let c := s.cell k
  let app := clampCap c.cap t.cNew
  let off := if c.anchorInService || s.ring.record.status.getLsbD feInService then 50 else 20
  let sig := qdiv (t.cNew * (a.unc + c.unc)) t.ds.natAbs + qdiv (off * t.n : Nat) 1000
  let s := if app = t.cNew then s else (countEst 2 s).report (s.laneSrc k) 0x57 .notice 1 k
  let s := s.modCell k fun c =>
    { c with cap := app.toNat, capUnc := sig.toNat, steps := inc16 c.steps, learned := true,
             snapshots := c.snapshots.map fun x => { x with bleed := x.bleed - c.bleedTotal }, bleedTotal := 0,
             flags := setBit (setBit c.flags cfRelearnUp false) cfRelearnDown false }
  healthNow k (learnedRecord 1 k (countEst 1 s))

/-- Evaluate a closed traverse: a step, a rejection, or a step in the other direction of a flagged cell (R193-R195). -/
def closeTraverse (k : Nat) (a : Anchor) (s : State) : State :=
  let c := s.cell k
  let t := s.traverse k a
  if s.traverseBad k t then (countEst 3 s).tellEvent 0x0020 3 k (leI 4 t.ds ++ leI 4 t.cNew ++ le 4 t.n)
  else if (c.flag cfRelearnUp && t.cNew ≤ c.cap) || (c.flag cfRelearnDown && (c.cap : Int) ≤ t.cNew) then
    s.tellEvent 0x0020 4 k (leI 4 t.ds ++ leI 4 t.cNew ++ le 4 t.n)
  else learn k a t s

/-- The condition under which a cell takes an anchor at an end event (R192). -/
def State.takesAnchor (s : State) (direct : Bool) (k : Nat) : Bool :=
  let c := s.cell k
  (direct || c.unc ≤ pct30 (s.cfg 0x4000 5)) && !c.flag cfSenseLost && (s.cellCfg k 4).testBit 1

/-- A cell takes an anchor (R192): a previous one of the other kind closes a traverse; either way a new traverse starts. -/
def takeAnchor (charge : Bool) (direct : Bool) (s : State) (k : Nat) : State :=
  if !s.takesAnchor direct k then s
  else
    let s := match (s.cell k).anchor with
      | some a => if a.charge != charge then closeTraverse k a s else s
      | none => s
    s.modCell k fun c =>
      { c with anchor := some ⟨charge, c.soc, c.unc, s.core.cycle⟩, dqT := 0, spoiled := false, gaps := 0,
               anchorInService := s.ring.record.status.getLsbD feInService }

/-- Anchor a cell directly (R190): SoC, uncertainty and flag; flag [2] clears. -/
def anchorDirect (charge : Bool) (s : State) (k : Nat) : State :=
  let c := s.cell k
  let t := s.cellChem k
  let x := if charge then s.sHi k else s.sLo k
  let f := implied t (10 * (if charge then chemFull t else chemEmpty t : Nat)) (5000 + 100 * chemSigOcv t) c.temp
  let sig0 := qdiv (f.2 - f.1) 2
  let s := s.modCell k fun c =>
    { c with soc := x, socC := x, socCValid := c.socCValid + (x - c.socC), unc := sig0, p := sig0 * sig0, heldLow := none,
             flags := setBit (setBit c.flags (if charge then cfEndCharge else cfEndDischarge) true) cfDivergence false }
  laneClear 0x55 k s

/-- Whether a cell was inserted in the present cycle: it takes no anchor from an event (R201). -/
def State.insertedNow (s : State) (k : Nat) : Bool := (s.cell k).insertedAt = some s.core.cycle

/-- An end event (R190). -/
def runEndEvent (charge : Bool) (s : State) : State :=
  let s := endEvent (if charge then 1 else 2) s
  let ks := s.allCells.filter fun k => !s.insertedNow k
  let direct := ks.filter (s.endVoltage charge)
  let s := direct.foldl (anchorDirect charge) s
  let s := ks.foldl (fun s k => takeAnchor charge (direct.contains k) s k) s
  let s := s.tellEvent 0x0020 2 (if charge then 1 else 2) (le 4 s.C ++ leI 4 s.scaler.i ++ (direct.map fun k => le 2 k).flatten)
  if charge then { s with scaler := { s.scaler with chgArmed := false } } else { s with scaler := { s.scaler with disArmed := false } }

/-- END_OF_CHARGE (R188): both conditions have held for 4000.02, the detector is armed. -/
def execEndOfCharge (s : State) : Out :=
  if s.scaler.chgArmed && s.cfg 0x4000 2 * 1000 ≤ s.scaler.chgRun then .next (runEndEvent true s) else .next s

/-- END_OF_DISCHARGE (R189). -/
def execEndOfDischarge (s : State) : Out :=
  if s.scaler.disArmed && s.cfg 0x4000 2 * 1000 ≤ s.scaler.disRun then .next (runEndEvent false s) else .next s

/-- END_EVENT_REARM (R191): the voltage condition has been false for 60 s; flag [6] or [7] clears. -/
def execEndEventRearm (charge : Bool) (s : State) : Out :=
  if charge then
    if !s.scaler.chgArmed && 60000 ≤ s.scaler.chgClear then
      let s := s.allCells.foldl (fun s k => s.setCellFlag k cfEndCharge false) s
      .next { s with scaler := { s.scaler with chgArmed := true } }
    else .next s
  else if !s.scaler.disArmed && 60000 ≤ s.scaler.disClear then
    let s := s.allCells.foldl (fun s k => s.setCellFlag k cfEndDischarge false) s
    .next { s with scaler := { s.scaler with disArmed := true } }
  else .next s

/-- COUNTING_DIVERGENCE_CLEAR (R184): the held amounts of cell k have stayed at or below 2.5 % for 600 s. -/
def execCountingDivergenceClear (k : Nat) (s : State) : Out :=
  if (s.cell k).flag cfDivergence && s.ran (s.cell k).heldLow 600000 then .next (laneClear 0x55 k (s.setCellFlag k cfDivergence false)) else .next s

/-- CELL_TEMPERATURE_UNKNOWN (R176): cell k's temperature has been held for 10 s. -/
def execCellTemperatureUnknown (k : Nat) (s : State) : Out :=
  if s.ran (s.cell k).heldSince 10000 then .next (laneRaise 0x54 .notice k s) else .next s

/-! ### Cell commands (R141, R196) -/

/-- Command 0x02 (R196). -/
def resetCapacity (k : Nat) (s : State) : State :=
  let s := (rejectTraverse k s).modCell k fun c =>
    { c with cap := s.cNom k, capUnc := s.cNom k / 20, dqT := 0, spoiled := false, gaps := 0,
             flags := setBit (setBit c.flags cfRelearnUp false) cfRelearnDown false }
  (learnedRecord 3 k (spoilWindow k s)).tellEvent 0x0020 5 k (le 1 2)

/-- Command 0x03 (R196). -/
def resetCycles (k : Nat) (s : State) : State :=
  let s := s.modCell k fun c => { c with efc := 0 }
  (learnedRecord 4 k s).tellEvent 0x0020 5 k (le 1 3)

/-- A cell command takes effect at its boundary: an insertion is taken with the cycle's data. -/
def cellCommand (k cmd : Nat) (s : State) : State :=
  match cmd with
  | 1 => s.modCell k fun c => { c with insertPending := true }
  | 2 => resetCapacity k s
  | 3 => resetCycles k s
  | _ => s

/-- Condition of a write to a cell's command object: ISOLATED or SERVICE, a defined command, a configured cell. -/
def condCellCommand (k cmd : Nat) (s : State) : Nat :=
  if !s.idle then s.stateAbort abState
  else if cmd = 0 || 3 < cmd then abRange
  else if s.cellCfg k 1 = 0 then abRange
  else 0

/-- Effect of a write to a cell's command object: the command waits for its boundary. -/
def effCellCommand (k cmd : Nat) (s : State) : State :=
  { s with dict := { s.dict with cellCmds := s.dict.cellCmds ++ [(s.effective, k, cmd)] } }

/-! ### Aggregates (R164) -/

/-- Mean of a sum. -/
def meanOf (sum : Int) (n : Nat) : Int := qdiv sum n

/-- The header of a record, `n` bytes: the spec gives its length alone, its content is free (R164; log entry 7). -/
def aggHeader (n : Nat) (s : State) : Bytes := (upFrom 0 n).map (Config.aggHeader s.C)

/-- The cell part of a minute record. -/
def minutePart (c : CellState) : List Int :=
  let a := c.minute
  [a.vMin, a.vMax, meanOf a.vSum a.n, c.rep, meanOf a.tSum a.cycles, a.tMax, a.bleed, c.rdc, c.flags.toNat, a.fCycles]

/-- The cell part of an hour record. -/
def hourPart (c : CellState) : List Int :=
  let a := c.hour
  [a.vMin, a.vMax, meanOf a.vSum a.n, a.socMin, a.socMax, a.tMax, c.rdc, a.through]

/-- MINUTE_AGGREGATE (R164): 60 s since the last record: 512 cells after a header of 104 bytes. 7,200 records are kept in storage, the latest 16 in shared SRAM. -/
def execMinuteAggregate (s : State) : Out :=
  let due := match s.cruiser.minuteSram.head? with
    | some r => s.passed r.cycle 60000
    | none => true
  if !due then .next s
  else
    let r : AggRecord := { cycle := s.core.cycle, header := aggHeader 104 s, data := ((upFrom 1 512).map fun k => minutePart (s.cell k)).flatten }
    let s := s.allCells.foldl (fun s k => s.modCell k fun c => { c with minute := {} }) s
    let s := { s with cruiser := { s.cruiser with minuteSram := keepN 16 (r :: s.cruiser.minuteSram) } }
    .next (if s.storageOk then wrote 3 9320 { s with cruiser := { s.cruiser with minutes := keepN 7200 (r :: s.cruiser.minutes) } } else s)

/-- HOUR_AGGREGATE (R164): 3,600 s since the last record: 512 cells after a header of 512 bytes; 3,855 records are kept in storage. -/
def execHourAggregate (s : State) : Out :=
  let due := match s.cruiser.hourAt with
    | some c => s.passed c 3600000
    | none => true
  if !due then .next s
  else
    let r : AggRecord := { cycle := s.core.cycle, header := aggHeader 512 s, data := ((upFrom 1 512).map fun k => hourPart (s.cell k)).flatten }
    let s := s.allCells.foldl (fun s k => s.modCell k fun c => { c with hour := {} }) s
    let s := { s with cruiser := { s.cruiser with hourAt := some s.core.cycle } }
    .next (if s.storageOk then wrote 4 8704 { s with cruiser := { s.cruiser with hours := keepN 3855 (r :: s.cruiser.hours) } } else s)

/-! ### Lane drains and table writes -/

/-- Condition of a write to 4705.01 (R161). -/
def condLaneDrain (s : State) : Nat :=
  if (upFrom 0 8).any fun l => Tab.at s.cruiser.lanes l .active != .active then s.stateAbort abState else 0

/-- Effect of a write to 4705.01. -/
def effLaneDrain (l : Nat) (s : State) : State := { s with cruiser := { s.cruiser with lanes := Tab.put s.cruiser.lanes l .draining } }

/-- Condition of a chemistry table written whole (R181): the check, then the content against the envelope in force. -/
def condChemistry (b : Bytes) (s : State) : Nat :=
  if b.length != 2180 then abLength
  else if !chemCrcOk b then abTableCheck
  else
    let n := chemCheck b s.chemEnv
    if n = 0 then 0 else abortArg abTable n

/-- TABLE_ENTRY_REPAIRED (R137): what failed: `state` the state part (restored from the last checkpoint, its charge counter kept so that
counting closes the gap), else the configuration part, repaired from dictionary persistence. -/
def execTableEntryRepaired (cellEntry state : Bool) (n : Nat) (s : State) : Out :=
  let img := s.storage.landing.head?
  let s :=
    if !state then
      let lo := if cellEntry then 0x3000 + n - 1 else 0x3400 + n
      let keep := s.dict.vals.filter fun e => e.1 / 256 != lo
      { s with dict := { s.dict with vals := (s.storage.persisted.filter fun e => e.1 / 256 = lo).foldl (fun t e => Tab.put t e.1 e.2) keep } }
    else match img with
      | some i =>
        if cellEntry then { s with cells := Tab.put s.cells n (Tab.at i.cells n {}) }
        else { s with points := Tab.put s.points n (Tab.at i.points n {}) }
      | none => s
  let s := if cellEntry then s.report (s.laneSrc n) 0x50 .warn 1 n else s.report 0x038 0x50 .warn 3 n
  .next s

end Sys2Proof.Machine
end

