-- ==== Sys2Proof/Machine/Borer.lean ====
section
/-! DEFINITION. The Borer (07): perturbation windows (R207-R212), demodulation (R213-R215), natural steps (R218), the application of results
(R217, R219-R223) and the learned impedance tables (R222-R224). -/

namespace Sys2Proof.Machine

open Sys2Proof

/-! ### Tones and descriptor (R207-R209) -/

/-- Frequencies of tones 1 to 8, in 0.5 Hz. -/
def toneFreq (k : Nat) : Nat := [0, 1, 2, 4, 10, 20, 40, 100, 400].getD k 0

/-- The tones of a mask, rising. -/
def tonesOf (mask : BitVec 8) : List Nat := (upFrom 1 8).filter fun k => mask.getLsbD (k - 1)

/-- Amplitude per tone in 10 mA (R209). -/
def State.toneAmp (s : State) (m : Nat) : Nat := if m = 0 then 0 else min (20 * s.cfg 0x4800 4) 20000 / m / 10

/-- Last cycle of the window. -/
def State.windowEnd (s : State) : Cycle := s.borer.desc.start + BitVec.ofNat 32 (s.borer.desc.length * 1000 - 1)

/-- The descriptor the frames carry: up to the last cycle of the window (R208); a command 2 sent without a window is in the next frame (R210). -/
def State.descNow (s : State) : PertDesc :=
  if s.borer.desc.command != 0 && notBefore s.windowEnd s.core.cycle then s.borer.desc
  else { seq := s.borer.desc.seq, command := match s.borer.stopAt with
                                   | some c => if s.since c ≤ 1 then 2 else 0
                                   | none => 0 }

/-- The conditions for requesting a window and for command 1 (R210). The incoming unit of a hand-over, once it computes on live data, counts as the active one does:
it computes the same descriptor (R217). -/
def State.mayPerturb (s : State) : Bool :=
  let m := (tonesOf (BitVec.ofNat 8 (s.cfg 0x4800 2))).length
  let sum : Int := (m * s.toneAmp m * 10 : Nat)
  (s.countsActive || (s.pair.role = .incoming && s.pair.warm)) && s.core.opState = .online && s.cfg 0x4800 1 = 1 && !s.guarded s.allCells
    && decide (s.scaler.i + sum ≤ s.sawyer.lChg) && decide (-s.sawyer.lDis ≤ s.scaler.i - sum) && s.cfg 0x4800 4 != 0

/-- Whether a sweep is running. -/
def State.sweeping (s : State) : Bool :=
  match s.borer.sweepUntil with
  | some c => !notBefore s.core.cycle c
  | none => false

/-- The request interval in force, ms (R210, R212). -/
def State.pertInterval (s : State) : Nat := if s.borer.extended then 86400000 else s.cfg 0x4800 6 * 1000

/-- Whether a window is due. -/
def State.pertDue (s : State) : Bool :=
  s.sweeping || (match s.borer.lastRequest with
    | some c => s.passed c s.pertInterval
    | none => true)

/-- Whether no window is requested or running. -/
def State.pertIdle (s : State) : Bool := s.borer.state = .idle || s.borer.state = .backedOff

/-- PERTURBATION_WINDOW_REQUEST (R210): a new window, its start 1,000 cycles ahead (R208). -/
def execPerturbationWindowRequest (s : State) : Out :=
  if s.pertIdle && s.pertDue && s.mayPerturb then
    let mask := BitVec.ofNat 8 (s.cfg 0x4800 2)
    let d : PertDesc := { command := 1, mask := mask, amp := s.toneAmp (tonesOf mask).length, start := s.ahead 1000, length := s.cfg 0x4800 5,
                          seq := (s.borer.desc.seq + 1) % 65536 }
    .next { s with borer := { s.borer with state := .requested, desc := d, start := d.start, lastRequest := some s.core.cycle, cells := [], spoil := none } }
  else .next s

/-- PERTURBATION_STOP (R210): a condition no longer holds. -/
def execPerturbationStop (s : State) : Out := if s.pertIdle || s.mayPerturb then .next s else .next (stopPerturbation s)

/-- Effect of a write to 4800.07: hours of back-to-back windows, 0 ends the sweep. -/
def effSweep (h : Nat) (s : State) : State :=
  { s with borer := { s.borer with sweepUntil := if h = 0 then none else some (s.ahead (h * 3600000)) } }

/-! ### Demodulation (R213, R214) -/

/-- Whether a cell's sample of the cycle enters the sums: present, flag [4] clear, the head not in TEST-REF. -/
def State.toneSample (s : State) (k : Nat) : Option Int :=
  let p := s.headOf k
  let ref := match Tab.find s.tap.refUntil p with
    | some c => notBefore c s.core.cycle
    | none => false
  if s.blockFlag p 4 || ref then none else s.vNow k

/-- Add a cycle to the sums of the masked tones: n cycles from the window's start. -/
def addTones (mask : BitVec 8) (n : Nat) (v i : Int) (t : Tab (Int × Int × Int × Int)) : Tab (Int × Int × Int × Int) :=
  (tonesOf mask).foldl (fun t k =>
    let c := cos30 (toneFreq k * n : Nat) 2000
    let d := sin30 (toneFreq k * n : Nat) 2000
    Tab.mod t k (0, 0, 0, 0) fun x => (x.1 + v * c, x.2.1 - v * d, x.2.2.1 + i * c, x.2.2.2 - i * d)) t

/-- The bleed map of a cell and its neighbours as acknowledged. -/
def State.nearMap (s : State) (k : Nat) : BitVec 16 :=
  let i := s.channelOf k
  match s.countedSlot (s.headOf k) with
  | some b => (upFrom (i - 1) 3).foldl (fun m j => if 1 ≤ j && b.mask.getLsbD (j - 1) then setBit m (j - 1) true else m) 0
  | none => 0

/-- Whether the head of a cell runs a continuous-mode slot. -/
def State.slotContinuous (s : State) (k : Nat) : Bool :=
  match s.countedSlot (s.headOf k) with
  | some b => b.continuous
  | none => false

/-- Take the cycle into a cell's window (R213, R215): `off` = the cell is not demodulated; a map that a continuous-mode slot brings or takes away has changed. -/
def demodCell (n : Nat) (s : State) (k : Nat) : State :=
  let c := s.cell k
  let fresh := n = 0 || (Tab.find s.borer.cells k).isNone
  let b := Tab.at s.borer.cells k {}
  let map := s.nearMap k
  let cont := s.slotContinuous k
  let b := { b with off := b.off || c.flag cfSenseLost || c.flag cfTapSuspect || !(s.cellCfg k 4).testBit 2 || (fresh && n != 0),
                    mapChanged := b.mapChanged || (!fresh && (cont || b.cont) && map != b.map), map := map, cont := cont,
                    soc0 := if fresh then c.soc else b.soc0, temp0 := if fresh then c.temp else b.temp0, soc1 := c.soc, temp1 := c.temp,
                    socSum := b.socSum + c.soc, tempSum := b.tempSum + c.temp }
  let b := match s.toneSample k with
    | some v => { b with used := b.used + 1, sums := addTones s.borer.desc.mask n v s.ring.record.main b.sums }
    | none => { b with left := b.left + 1 }
  { s with borer := { s.borer with cells := Tab.put s.borer.cells k b } }

/-- The string's own sums of a window, under key 0: the main current of every cycle. -/
def demodString (n : Nat) (s : State) : State :=
  let b := Tab.at s.borer.cells 0 {}
  let b := { b with used := b.used + 1, sums := addTones s.borer.desc.mask n 0 s.ring.record.main b.sums }
  { s with borer := { s.borer with cells := Tab.put s.borer.cells 0 b } }

/-- The Borer's part of a cycle: a requested window begins at its start cycle; a running one takes the cycle in, and a current gap or the
Hall current spoils it (R213-R215). -/
def demodulate (s : State) : State :=
  let s := if s.borer.state = .requested && s.core.cycle = s.borer.desc.start then
      { s with borer := { s.borer with state := .running, cells := [], spoil := none } } else s
  if s.borer.state != .running || !notBefore s.windowEnd s.core.cycle then s
  else
    let n := s.since s.borer.desc.start
    let s := if s.scaler.source = .main then s else { s with borer := { s.borer with spoil := some (s.borer.spoil.getD 4) } }
    s.allCells.foldl (demodCell n) (demodString n s)

/-! ### The end of a window (R212, R214, R215) -/

/-- Amplitude of a tone in the main current, mA. -/
def toneCurrent (b : BorerCell) (k : Nat) : Nat :=
  let x := Tab.at b.sums k (0, 0, 0, 0)
  let re := qdiv x.2.2.1 (2 ^ 30)
  let im := qdiv x.2.2.2 (2 ^ 30)
  (qdiv (2 * laneSqrt (re * re + im * im)) b.used).toNat

/-- Z of a tone for a cell in 0.01 µΩ, the group delays of head and front-end (ns) taken out (R214). -/
def toneZ (b : BorerCell) (k : Nat) (tau : Int) : Int × Int :=
  let x := Tab.at b.sums k (0, 0, 0, 0)
  let den := (x.2.2.1 * x.2.2.1 + x.2.2.2 * x.2.2.2).toNat
  let re := qdiv ((x.1 * x.2.2.1 + x.2.1 * x.2.2.2) * 1000000) den
  let im := qdiv ((x.2.1 * x.2.2.1 - x.1 * x.2.2.2) * 1000000) den
  let c := cos30 (toneFreq k * tau) 2000000000
  let d := sin30 (toneFreq k * tau) 2000000000
  (qdiv (re * c - im * d) (2 ^ 30), qdiv (re * d + im * c) (2 ^ 30))

/-- Whether a cell's part of the window is discarded (R215): left-out cycles, an insertion or reset, SoC or temperature moved. -/
def BorerCell.discarded (b : BorerCell) : Bool :=
  !b.off && (b.bad || b.used + b.left < 200 * b.left || one30 < 40 * (b.soc1 - b.soc0).natAbs || 200 < (b.temp1 - b.temp0).natAbs)

/-- The tones of a cell that count: none at multiples of 10 Hz after a change of its map in a continuous-mode slot (R215). -/
def BorerCell.tones (b : BorerCell) (mask : BitVec 8) : List Nat :=
  (tonesOf mask).filter fun k => !(b.mapChanged && toneFreq k % 20 = 0)

/-- The result of a cell's window, waiting for its application cycle (R217). -/
def State.windowResult (s : State) (k : Nat) : Option BorerResult :=
  let b := Tab.at s.borer.cells k { off := true }
  if b.off || b.discarded then none
  else
    let tau := ((s.info (s.headOf k)).groupDelay : Int) - s.num 0x2010 8
    some { cell := k, at_ := s.windowEnd + 1000, z := (b.tones s.borer.desc.mask).map fun t => (t, toneZ b t tau),
           soc := qdiv b.socSum (b.used + b.left), temp := qdiv b.tempSum (b.used + b.left) }

/-- Where the Borer stands between windows. -/
def State.pertRest (s : State) : BorerState := if s.borer.extended then .backedOff else .idle

/-- Discard the whole window for a cause; any but amplitude breaks the run of those (R212). -/
def discardWindow (cause : Nat) (s : State) : State :=
  { s with borer := { s.borer with ampRun := if cause = 1 then s.borer.ampRun else 0, discarded := inc32 s.borer.discarded, cause := cause, cells := [], spoil := none, state := s.pertRest } }

/-- A window discarded for its amplitudes; the third in a row is reported, and the interval extended (R212). -/
def amplitudeFailed (s : State) : State :=
  let n := s.borer.ampRun + 1
  let s := { s with borer := { s.borer with ampRun := n, extended := s.borer.extended || 3 ≤ n } }
  let s := if 3 ≤ n then s.raiseOnce 0x039 0x5A .notice 0 0 else s
  discardWindow 1 s

/-- Whether a cell's window, or its tones at multiples of 10 Hz, is discarded for a cause of the cell (R215). -/
def State.cellDiscards (s : State) (k : Nat) : Bool :=
  let b := Tab.at s.borer.cells k { off := true }
  b.discarded || (!b.off && (b.tones s.borer.desc.mask).length < (tonesOf s.borer.desc.mask).length)

/-- A window that succeeds: results of the cells that keep theirs; cause 5 where a cell loses its own (R215). -/
def completeWindow (s : State) : State :=
  let rs := s.allCells.filterMap s.windowResult
  let b := s.borer
  let s := { s with borer := { b with completed := inc32 b.completed, cause := if s.allCells.any s.cellDiscards then 5 else b.cause, ampRun := 0, extended := false,
                                      results := b.results ++ rs, cells := [], state := .idle } }
  s.clearOnce 0x039 0x5A 0 0

/-- WINDOW_END (R214): at the window's last cycle. Where a whole-window cause and an amplitude outside its band meet, the whole-window cause counts: DESIGN CHOICE
(log 49), the spec does not say which. -/
def execWindowEnd (s : State) : Out :=
  if s.borer.state = .running && notBefore s.core.cycle s.windowEnd then
    let str := Tab.at s.borer.cells 0 {}
    let ts := tonesOf s.borer.desc.mask
    let amps := (upFrom 1 8).map fun k => if ts.contains k then toneCurrent str k else 0
    let s := { s with borer := { s.borer with amps := amps } }
    match s.borer.spoil with
    | some c => .next (discardWindow c s)
    | none =>
      let a := s.borer.desc.amp * 10
      if ts.all fun k => decide (a ≤ 2 * toneCurrent str k) && decide (2 * toneCurrent str k ≤ 3 * a) then .next (completeWindow s)
      else .next (amplitudeFailed s)
  else .next s

/-! ### Natural steps (R218) -/

/-- Keep the last voltages of a cell, newest first. -/
def keepV (s : State) (k : Nat) : State :=
  let v := if s.sampleValid k then s.vNow k else none
  { s with borer := { s.borer with vHist := Tab.mod s.borer.vHist k [] fun l => keepN 4 (v :: l) } }

/-- The step that the cycle's current completes: I(C + 1) − I(C − 1), for the cycle two before the present one. -/
def State.naturalStep (s : State) : Option Int :=
  match s.scaler.iHist with
  | [a, b, _, d, e] =>
    let step := b.1 - d.1
    let thr := s.cfg 0x4800 9 * s.cNomMin
    if a.2 && b.2 && d.2 && e.2 && decide (thr ≤ step.natAbs * 360000) && step != 0
        && decide ((d.1 - e.1).natAbs * 50 ≤ step.natAbs) && decide ((a.1 - b.1).natAbs * 50 ≤ step.natAbs)
    then some step else none
  | _ => none

/-- The step observation of a cell (R218), 0.01 µΩ. -/
def State.stepObs (s : State) (step : Int) (k : Nat) : Option BorerResult :=
  match Tab.at s.borer.vHist k [] with
  | [_, some x, _, some y] =>
    let z := qdiv ((if step < 0 then y - x else x - y) * 1000000) step.natAbs
    some { cell := k, at_ := s.ahead 999, z := [(0, (z, 0))], soc := (s.cell k).soc, temp := (s.cell k).temp }
  | _ => none

/-- A window that ended in one of the last two cycles loses its results to a step inside it (R215). -/
def stepSpoils (s : State) : State :=
  let x := s.core.cycle - 2
  let b := s.borer
  if b.state = .running then (if notBefore x b.desc.start then { s with borer := { b with spoil := some (b.spoil.getD 2) } } else s)
  else
    let late := b.results.filter fun r => r.z.any (fun e => e.1 != 0) && notBefore (r.at_ - 1000) x
    if late.isEmpty then s
    else { s with borer := { b with results := b.results.filter (fun r => !late.contains r), completed := b.completed - 1, discarded := inc32 b.discarded,
                                    cause := 2 } }

/-- The step detector's part of a cycle. -/
def detectStep (s : State) : State :=
  let s := s.allCells.foldl keepV s
  match s.naturalStep with
  | none => s
  | some step =>
    let rs := (s.allCells.filter fun k => (s.cellCfg k 4).testBit 2).filterMap (s.stepObs step)
    let s := stepSpoils s
    { s with borer := { s.borer with results := s.borer.results ++ rs, stepObs := add32 s.borer.stepObs rs.length } }

/-! ### Results (R217, R219-R223) -/

/-- Filter an Rdc observation into a cell's reference Rdc, divisor g (R219). -/
def filterRdc (k : Nat) (obs : Int) (soc temp : Int) (g : Nat) (s : State) : State :=
  let c := s.cell k
  let f := shape (s.cellChem k) soc temp
  let ref := qdiv (obs * 1024 * f.2) f.1.toNat
  let lim := qdiv (5 * c.rdc : Nat) 100
  let step := clampI (-lim) lim (qdiv (ref - c.rdc) g)
  s.modCell k fun c => { c with rdc := (c.rdc + step).toNat, learned := true }

/-- The tone the polarisation pair is fitted from (R220): below the ohmic tone, Re above Re(z_ohm), the largest −Im, the lower of equals. -/
def fitTone (ohm : Nat) (zo : Int × Int) : Tab (Int × Int) → Option (Nat × (Int × Int))
  | [] => none
  | e :: t =>
    let rest := fitTone ohm zo t
    if e.1 < ohm && zo.1 < e.2.1 then
      match rest with
      | some r => if e.2.2 ≤ r.2.2 then some e else some r
      | none => some e
    else rest

/-- Fit R1 (0.01 µΩ) and τ1 (µs) from a window (R220). -/
def fitPair (k : Nat) (z : Tab (Int × Int)) (s : State) : State :=
  let ohm := s.cfg 0x4800 8
  match Tab.find z ohm with
  | none => s
  | some zo => match fitTone ohm zo z with
    | none => s
    | some (m, zm) =>
      let g := s.cfg 0x4800 10
      let d := zm.1 - zo.1
      let tau := qdiv (-zm.2 * 1000000 * 2 ^ 61) (toneFreq m * d.toNat * 7244019458077122842)
      let r1 := qdiv (d * d + zm.2 * zm.2) d.toNat
      s.modCell k fun c => { c with r1 := (c.r1 + qdiv (r1 - c.r1) g).toNat, tau1 := (c.tau1 + qdiv (tau - c.tau1) g).toNat }

/-- Whether a value has moved by 1 / n or more since its record. -/
def movedBy (now old n : Nat) : Bool := old ≤ ((now : Int) - old).natAbs * n

/-- Mark a resistance update for the journal (R221). -/
def markResistance (k : Nat) (s : State) : State :=
  let c := s.cell k
  let moved := (c.rdc != c.rdcRec && movedBy c.rdc c.rdcRec 100) || (c.r1 != c.r1Rec && movedBy c.r1 c.r1Rec 50)
    || (c.tau1 != c.tau1Rec && movedBy c.tau1 c.tau1Rec 50)
  if moved then learnedRecord 5 k s else s

/-- The nearest point of a list to a value, the first of equals: its index. -/
def nearestFrom (x : Int) : Nat → List Int → Option (Nat × Nat)
  | _, [] => none
  | i, a :: t =>
    let d := (x - a).natAbs
    match nearestFrom x (i + 1) t with
    | some r => if r.2 < d then some r else some (i, d)
    | none => some (i, d)

/-- An entry of the learned impedance table after an observation (R223). -/
def ImpEntry.take (e : ImpEntry) (z : Int × Int) : ImpEntry :=
  let w := e.weight + 1
  { re := e.re + qdiv (z.1 - e.re) (min w 16), im := e.im + qdiv (z.2 - e.im) (min w 16), weight := min w 255, age := 0 }

/-- Enter a window's table tones in the cell's table (R222, R223). -/
def fillTable (k : Nat) (r : BorerResult) (s : State) : State :=
  let m := ((nearestFrom (r.soc * 20) 0 ((upFrom 0 21).map fun (i : Nat) => ((i : Nat) : Int) * one30)).map Prod.fst).getD 0
  let j := ((nearestFrom r.temp 0 (chemTemps (s.cellChem k))).map Prod.fst).getD 0
  let qs := (tonesOf (BitVec.ofNat 8 (s.cfg 0x4800 3))).zip (upFrom 0 4)
  qs.foldl (fun s q => match Tab.find r.z q.1 with
    | some z => s.modCell k fun c =>
        { c with impTable := Tab.mod c.impTable (32 * m + 4 * j + q.2) {} fun e => e.take z, impHead := { c.impHead with updated := s.core.cycle } }
    | none => s) s

/-- Apply a tone result. -/
def applyTones (r : BorerResult) (s : State) : State :=
  let k := r.cell
  let s := s.modCell k fun c => { c with toneResult := some s.core.cycle }
  let s := fillTable k r (fitPair k r.z s)
  match Tab.find r.z (s.cfg 0x4800 8) with
  | some z => healthNow k (markResistance k (filterRdc k z.1 r.soc r.temp (s.cfg 0x4800 10) s))
  | none => markResistance k s

/-- Apply a step observation: only without a tone result for 24 h, with a quarter of the weight (R218). -/
def applyStep (r : BorerResult) (z : Int) (s : State) : State :=
  let k := r.cell
  let free := match (s.cell k).toneResult with
    | some c => s.passed c 86400000
    | none => true
  if free then healthNow k (markResistance k (filterRdc k z r.soc r.temp (4 * s.cfg 0x4800 10) s)) else s

/-- Apply a result; one that meets an insertion of its cell in the same cycle is discarded (R217). -/
def applyResult (s : State) (r : BorerResult) : State :=
  if s.insertedNow r.cell then s
  else match Tab.find r.z 0 with
    | some z => applyStep r z.1 s
    | none => applyTones r s

/-- RESULT_APPLICATION (R217): the results whose cycle has come. -/
def execResultApplication (s : State) : Out :=
  let due := s.borer.results.filter fun r => notBefore s.core.cycle r.at_
  let s := { s with borer := { s.borer with results := s.borer.results.filter fun r => !notBefore s.core.cycle r.at_ } }
  .next (due.foldl applyResult s)

/-- IMPEDANCE_AGE_ADVANCE (R223): once every 86,400,000 cycles, for every entry. -/
def execImpedanceAgeAdvance (s : State) : Out :=
  if s.passed s.borer.ageBase 86400000 then
    let s := { s with borer := { s.borer with ageBase := s.core.cycle } }
    .next (s.allCells.foldl (fun s k => s.modCell k fun c =>
      { c with impTable := c.impTable.map fun e => (e.1, { e.2 with age := inc8 e.2.age }), impHead := { c.impHead with days := inc8 c.impHead.days } }) s)
  else .next s

end Sys2Proof.Machine
end

