-- ==== Sys2Proof/Machine/Sawyer.lean ====
section
/-! DEFINITION. The Sawyer (chapter 10): fixed-point loop slots, the limit groups, the dispatch lease and target, the profile generator, the
fields of the converter-limit frame, the trace buffers; and the Canopy's outputs (R322, R323). -/

namespace Sys2Proof.Machine

open Sys2Proof

/-! ### Fixed-point arithmetic (R280-R282) -/

/-- x × k / 2^sh, rounded half towards plus infinity, before saturation (R281). -/
def mulRaw (x k : Int) (sh : Nat) : Int := if sh = 0 then x * k else (x * k + 2 ^ (sh - 1)) / 2 ^ sh

/-- mul(x, k, s) of R281. -/
def mulFx (x k : Int) (sh : Nat) : Int := sat32 (mulRaw x k sh)

/-- 1 when mul saturates. -/
def mulSat (x k : Int) (sh : Nat) : Nat := b2n (mulRaw x k sh != mulFx x k sh)

/-- x × k / 2^sh in Q32.32: exact up to a shift of 32, else rounded to 2^−32 (R282). -/
def incr32 (x k : Int) (sh : Nat) : Int :=
  if sh ≤ 32 then x * k * 2 ^ (32 - sh) else (x * k + 2 ^ (sh - 33)) / 2 ^ (sh - 32)

/-- The integer part of an integrator (R282). -/
def intPart (i : Int) : Int := i / 2 ^ 32

/-- A sum as an I32 signal (R280). A sum outside I32 has no stated value: it is free (log entry 7). -/
def fit32 (x : Int) (s : State) : Int × State :=
  if -(2 ^ 31) ≤ x && x < 2 ^ 31 then (x, s)
  else
    let (v, s) := drawInt s
    (wrapI 32 v, s)

/-- A sum as a Q32.32 value (R282), free outside its 64 bits. -/
def fit64 (x : Int) (s : State) : Int × State :=
  if -(2 ^ 63) ≤ x && x < 2 ^ 63 then (x, s)
  else
    let (v, s) := drawInt s
    (wrapI 64 v, s)

/-! ### Nodes (R285) -/

/-- The value that stands for an absent candidate (R311). -/
def absent : Int := -(2 ^ 31)

/-- The value of a node. -/
def State.node (s : State) (code : Nat) : Int :=
  let n := code % 16
  let u := code / 256 % 16
  if code / 4096 = 1 then
    let x := s.slot u
    (match n with
     | 0 => x.m | 1 => x.w | 2 => x.e | 3 => x.p | 4 => intPart x.integ | 5 => x.df | 6 => x.u | _ => x.yApp)
  else if code / 4096 = 2 then
    if n = 15 then (match u with | 0 => s.sawyer.lChg | 1 => s.sawyer.lDis | _ => Tab.int s.sawyer.groupOut u)
    else (match u with
      | 0 => Tab.at s.sawyer.candChg n absent
      | 1 => Tab.at s.sawyer.candDis n absent
      | _ => if (s.cfg (0x6030 + u) 1).testBit n && (s.slotMode n).1 = 1 then (s.slot n).y else absent)
  else if code / 4096 = 3 then
    (match n with
     | 0 => s.sawyer.target | 1 => s.sawyer.x | 2 => s.sawyer.rate | 3 => s.sawyer.acc | 4 => s.sawyer.xi | _ => s.sawyer.vi)
  else if code / 4096 = 4 then
    (match n with
     | 0 => s.ring.record.main | 1 => s.ring.record.hall | 2 => s.ring.record.vStr | 3 => s.ring.record.vLink | 4 => s.scaler.i | 5 => toPct s.scaler.usable
     | 6 => s.sawyer.marChg | 7 => s.sawyer.marDis | 8 => s.canopy.hottest | _ => s.canopy.coldest)
  else if code / 4096 = 5 then (s.point (code - 0x5000)).filtered
  else if code / 4096 = 6 then
    let x := s.axis u
    (match n with
     | 0 => x.pos | 1 => x.target | 2 => x.vel | _ => x.coil)
  else if code / 4096 = 7 then s.vOrLast (code - 0x6FFF)
  else 0

/-! ### Voltage margins (R290) -/

/-- The cells that take part: a bound no older than the missing-sample limit. -/
def State.marginCells (s : State) : List (Nat × Int × Int) :=
  s.allCells.filterMap fun k => match Tab.find s.tap.bounds k with
    | some (hi, lo, c) => if (s.since c : Int) ≤ s.env 0x5800 9 then some (k, hi, lo) else none
    | none => none

/-- Both margins of the cycle; with no cell taking part they hold. -/
def voltageMargins (s : State) : State :=
  let l := s.marginCells
  let chg := l.map fun (e : Nat × Int × Int) => 10 * (chemFull (s.cellChem e.1) : Int) - s.cfg 0x6000 6 - e.2.1
  let dis := l.map fun (e : Nat × Int × Int) => e.2.2 - 10 * (chemEmpty (s.cellChem e.1) : Int) - s.cfg 0x6000 7
  match minI chg, minI dis with
  | some a, some b => { s with sawyer := { s.sawyer with marChg := a, marDis := b } }
  | _, _ => s

/-! ### Loop slots (R283-R287) -/

/-- Whether a slot runs in this cycle (R286). -/
def State.slotRuns (s : State) (n : Nat) : Bool := s.C % max 1 (s.slotCfg n 0x12).toNat = 0

/-- Limits of a slot's output. -/
def State.slotSat (s : State) (n : Nat) (x : Int) : Int := clampI (s.slotCfg n 0x10) (s.slotCfg n 0x11) x

/-- Apply a value to a slot and track it (R283, R293): y_app, back-calculation, the clamp of the integrator. -/
def trackSlot (n : Nat) (y : Int) (s : State) : State :=
  let x := s.slot n
  let (d, s) := fit32 (y - x.u) s
  let (i, s) := fit64 (x.integ + incr32 d (s.slotCfg n 0x0E) (s.slotCfg n 0x0F).toNat) s
  s.modSlot n fun x => { x with yApp := y, integ := clampI (s.slotCfg n 0x10 * 2 ^ 32) (s.slotCfg n 0x11 * 2 ^ 32) i }

/-- The equations of R283 up to the slot's own output y; `auto` is the first auto cycle, in which u equals the last applied value (R287). -/
def slotEquations (n : Nat) (first : Bool) (s : State) : State :=
  let x := s.slot n
  let c := s.slotCfg n
  let m := if n ≤ 1 then 0 else s.node (c 2).toNat
  let w := if c 3 = 0 then c 5 else s.node (c 3).toNat
  let ff := if n ≤ 1 then 0 else s.node (c 4).toNat
  let (e, s) := if n = 0 then (s.sawyer.marChg, s) else if n = 1 then (s.sawyer.marDis, s) else fit32 (w - m) s
  let p := mulFx e (c 6) (c 7).toNat
  let (i, s) := fit64 (x.integ + incr32 e (c 8) (c 9).toNat) s
  let (dm, s) := fit32 (x.mPrev - m) s
  let dr := mulFx dm (c 0x0A) (c 0x0B).toNat
  let (dd, s) := fit32 (dr - x.df) s
  let (df, s) := fit32 (x.df + mulFx dd (c 0x0C) (c 0x0D).toNat) s
  let i := if first then (x.yApp - ff - p - df) * 2 ^ 32 else i
  let (u, s) := fit32 (ff + p + intPart i + df) s
  let sats := mulSat e (c 6) (c 7).toNat + mulSat dm (c 0x0A) (c 0x0B).toNat + mulSat dd (c 0x0C) (c 0x0D).toNat
  s.modSlot n fun x => { x with m := m, w := w, e := e, p := p, integ := i, df := df, u := u, mPrev := m, y := s.slotSat n u,
                                sats := add32 x.sats sats }

/-- Move towards a manual output by at most the mode-change rate (R287); a rate of 0 is no limit. -/
def towards (from_ dest rate : Int) : Int := if rate = 0 then dest else clampI (from_ - rate) (from_ + rate) dest

/-- The group among 2 and 3 that a slot is a member of. -/
def State.laterGroup (s : State) (n : Nat) : Bool := (s.cfg 0x6032 1).testBit n || (s.cfg 0x6033 1).testBit n

/-- Run slot n, 2 to 15, in its mode (R287, R321). A member of group 2 or 3 in auto takes its applied value from the group. -/
def runSlot (s : State) (n : Nat) : State :=
  if !s.slotRuns n then s
  else
    let (mode, man) := s.slotMode n
    let last := s.slot n
    let s := s.modSlot n fun x => { x with mode := mode }
    if mode = 0 then s.modSlot n fun x => { x with yApp := 0, y := 0, integ := 0 }
    else if mode = 2 then
      let s := slotEquations n false s
      trackSlot n (towards last.yApp man (s.slotCfg n 0x15 * s.slotCfg n 0x12)) s
    else if s.slotHeld n then s
    else
      let s := slotEquations n (last.mode != 1) s
      if s.laterGroup n then s else trackSlot n (s.slot n).y s

/-! ### The limit groups (R288-R295) -/

/-- A trip is in progress or latched: limits and horizon are zero (R269, R295). -/
def State.tripZero (s : State) : Bool :=
  s.fb.trip.running || s.core.opState = .tripping || s.core.opState = .tripped || s.core.opState = .lockout

/-- Whether the limits run: ONLINE or DERATED with no trip. -/
def State.limitsLive (s : State) : Bool := s.online && !s.tripZero

/-- Continuous current of group g (0 charge, 1 discharge), A. -/
def State.contCurrent (s : State) (g : Nat) : Int := s.env 0x5802 (3 + g)

/-- Default SoC curves (R291). -/
def socCurveDefault (g : Nat) : List Int :=
  if g = 0 then List.replicate 19 1000 ++ [600, 100] else [100, 600] ++ List.replicate 19 1000

/-- Default temperature curves (R291). -/
def tempCurveDefault (g : Nat) : List (Int × Int) :=
  if g = 0 then [(0, 0), (500, 300), (1500, 1000), (4000, 1000), (4500, 500), (5000, 0)]
  else [(-2000, 300), (0, 1000), (4500, 1000), (5000, 500), (5500, 0)]

/-- A SoC curve in force. -/
def State.socCurve (s : State) (g : Nat) : List Int :=
  let b := s.octets 0x6020 (g + 1)
  if b.length = 42 then (upFrom 0 21).map fun i => (fieldN b (2 * i) 2 : Int) else socCurveDefault g

/-- A temperature curve in force. -/
def State.tempCurve (s : State) (g : Nat) : List (Int × Int) :=
  let b := s.octets 0x6021 (g + 1)
  if b.length = 64 then (upFrom 0 16).map fun i => (fieldI b (4 * i) 2, (fieldN b (4 * i + 2) 2 : Int)) else tempCurveDefault g

/-- Condition of R291 a curve breaks: 0 none, 1 temperatures not strictly rising, 2 a value above 1,000. -/
def curveCheck (temp : Bool) (b : Bytes) : Nat :=
  if temp then
    let t := (upFrom 0 16).map fun i => fieldI b (4 * i) 2
    let v := (upFrom 0 16).map fun i => fieldN b (4 * i + 2) 2
    if !chain (fun x y => x < y) t then 1 else if v.any fun x => 1000 < x then 2 else 0
  else if ((upFrom 0 21).map fun i => fieldN b (2 * i) 2).any fun x => 1000 < x then 2 else 0

/-- A per-mille value `num / den` of group g's continuous current, mA. -/
def State.ofCont (s : State) (g : Nat) (num : Int) (den : Nat) : Int := qdiv (num * s.contCurrent g) den

/-- Candidate 1. -/
def State.socCandidate (s : State) (g : Nat) : Int :=
  let l := s.socCurve g
  let p := locate (toPct s.scaler.usable) 0 ((upFrom 0 21).map fun (i : Nat) => ((500 * i : Nat) : Int))
  s.ofCont g (p.mix fun i => l.getD i 0) p.den

/-- Candidate 3 at one temperature. -/
def State.tempCandidate (s : State) (g : Nat) (t : Int) : Int :=
  let l := s.tempCurve g
  let p := locate t 0 (l.map Prod.fst)
  s.ofCont g (p.mix fun i => (l.getD i (0, 0)).2) p.den

/-- The owner's request as a current, positive to charge (R297). -/
def State.ownerRequest (s : State) : Option Int :=
  if s.cfg 0x6100 1 != 0 then none
  else match s.sawyer.mode with
    | 1 => some s.sawyer.reqI
    | 2 => if s.ring.record.vStr < 150000 then some 0 else some (qdiv (s.sawyer.reqP * 1000000) s.ring.record.vStr.toNat)
    | _ => none

/-- The candidates of group g (R289), by code; an absent one is left out. -/
def State.candidates (s : State) (g : Nat) : Tab Int :=
  let one := fun (code : Nat) (v : Option Int) (t : Tab Int) => match v with
    | some x => Tab.put t code x
    | none => t
  let own := match s.ownerRequest with
    | some x => if g = 0 then (if 0 < x then some x else none) else (if x < 0 then some (-x) else none)
    | none => none
  let zero := !s.limitsLive || s.core.opening
  one 0 (some (s.contCurrent g * 1000))
    (one 1 (some (s.socCandidate g))
      (one 2 (some (s.slot g).y)
        (one 3 (some (min (s.tempCandidate g s.canopy.hottest) (s.tempCandidate g s.canopy.coldest)))
          (one 4 (s.sawyer.impLim.map fun l => if g = 0 then l.1 else l.2)
            (one 5 own
              (one 6 (if s.core.opState = .derated then some (s.cfg 0x6000 3 * s.contCurrent g) else none)
                (one 7 (if zero then some 0 else none) [])))))))

/-- The lowest entry, ties to the lower code (R288). -/
def lowest : List (Nat × Int) → Option (Nat × Int)
  | [] => none
  | e :: t => match lowest t with
    | none => some e
    | some f => if f.2 < e.2 then some f else some e

/-- What the horizons of the last 16 frames promise for this cycle (R294): `h` newest first. -/
def promised (f : Int) (h : List Int) : Option Int :=
  maxI (((upFrom 1 16).zip h).map fun (e : Nat × Int) => e.2 - 4 * (((e.1 + 3) / 4 : Nat) : Int) * f)

/-- The limit of a group (R294, R295): raw output, last limit and the history; with the flag that the promise raised it. -/
def limitOf (live : Bool) (rise f x prev : Int) (h : List Int) : Int × Bool :=
  if !live then (0, false)
  else
    let l := min x (prev + rise)
    let l := match promised f h with
      | some p => max l p
      | none => l
    let l := max l 0
    (l, x < l)

/-- Evaluate group g, 0 or 1, and track its slot (R293-R295). -/
def limitGroup (s : State) (g : Nat) : State :=
  let c := s.candidates g
  let h := if g = 0 then s.sawyer.histChg else s.sawyer.histDis
  let (code, x) := (lowest (c.filter fun e => e.1 != 5)).getD (7, 0)
  let (l, up) := limitOf s.limitsLive (s.num 0x6000 1) (s.num 0x6000 2) x (h.headD 0) h
  let win := if up then 8 else code
  let c := if up then Tab.put c 8 l else c
  let w := s.sawyer
  let w := if g = 0 then { w with lChg := l, winChg := win, candChg := c, histChg := keepN 16 (l :: h), promise := up }
           else { w with lDis := l, winDis := win, candDis := c, histDis := keepN 16 (l :: h), promise := w.promise || up }
  let s := { s with sawyer := w }
  if s.slotRuns g then trackSlot g l s else s.modSlot g fun x => { x with yApp := l }

/-- Evaluate group g, 2 or 3: the lowest output of its members in auto; every member tracks it. Without a member it holds. -/
def loopGroup (s : State) (g : Nat) : State :=
  let mask := s.cfg (0x6030 + g) 1
  let ms := (upFrom 2 14).filter fun n => mask.testBit n && (s.slotMode n).1 = 1 && !s.slotHeld n
  match lowest (ms.map fun n => (n, (s.slot n).y)) with
  | none => s
  | some (n, y) =>
    let s := { s with sawyer := { s.sawyer with groupOut := Tab.put s.sawyer.groupOut g y, groupWin := Tab.put s.sawyer.groupWin g n } }
    ms.foldl (fun s n => if s.slotRuns n then trackSlot n y s else s.modSlot n fun x => { x with yApp := y }) s

/-! ### Target and profile (R297, R301, R302) -/

/-- The target of the cycle (R295, R297). -/
def State.targetNow (s : State) : Int :=
  if !s.limitsLive || s.core.opening then 0
  else clampI (-s.sawyer.lDis) s.sawyer.lChg (s.ownerRequest.getD 0)

/-- Length n of the moving average (R301). -/
def averageLength (a j : Nat) : Nat := (2 * a + j - 1) / j

/-- Whether acceleration and jerk limits give an average length the generator takes (R301). -/
def profileOk (a j : Nat) : Bool := j != 0 && averageLength a j ≤ 64

/-- Floor of a square root, by bits. -/
def isqrt (n : Nat) : Nat := sqrtFrom n 33 0

/-- Sign of an integer. -/
def signI (x : Int) : Int := if 0 < x then 1 else if x < 0 then -1 else 0

/-- One inner step: (xi, vi) after it (R301). -/
def innerStep (r a target xi vi : Int) : Int × Int :=
  let d := target - xi
  let vstop := ((isqrt (a * a + 8 * a * d.natAbs).toNat : Nat) - a) / 2
  let vdes := signI d * min r vstop
  let v := clampI (vi - a) (vi + a) vdes
  let v := if d.natAbs < v.natAbs && signI v = signI d then d else v
  (xi + v, v)

/-- The moving average over the last n inner set-points, newest first, rounded half away from zero. -/
def average (n : Nat) (h : List Int) : Int := divNear (sumI (h.take n)) n

/-- Run the profile generator (R301, R302). -/
def profile (s : State) : State :=
  let w := s.sawyer
  let target := s.targetNow
  let n := averageLength (s.cfg 0x6200 2) (s.cfg 0x6200 3)
  let (xi, vi) := innerStep (s.num 0x6200 1) (s.num 0x6200 2) target w.xi w.vi
  let h := keepN 64 (xi :: w.hist)
  let x := average n h
  let lim := if w.lChg < x then some w.lChg else if x < -w.lDis then some (-w.lDis) else none
  let w := match lim with
    | some l => { w with xi := l, vi := 0, hist := List.replicate 64 l, held := true }
    | none => { w with xi := xi, vi := vi, hist := h, held := false }
  let x := lim.getD x
  { s with sawyer := { w with target := target, x := x, rate := x - w.x, acc := x - w.x - w.rate } }

/-! ### The converter-limit frame (R304-R308) -/

/-- Whether the module dispatches (R296). -/
def State.dispatches (s : State) : Bool := s.cfg 0x6100 1 = 0

/-- The flags of R305. -/
def State.frameFlags (s : State) : Nat :=
  b2n s.tripZero * 128 + b2n (s.core.opState = .derated) * 64 + b2n (s.pair.phase = 4) * 32 + b2n (s.sawyer.holder != 0) * 16
    + b2n s.sawyer.promise * 8 + b2n s.sawyer.held * 4 + b2n (s.sawyer.x != s.sawyer.target) * 2 + b2n s.dispatches

/-- Horizon entry q of a limit (R306), 0 when the limits do not run (R295). -/
def State.horizon (s : State) (l : Int) (q : Nat) : Int := if s.limitsLive then max 0 (l - 4 * q * s.num 0x6000 2) else 0

/-- A current in 0.1 A, rounded towards 0. -/
def tenths (l : Int) : Nat := min (l / 100).toNat 0xFFFF

/-- The perturbation descriptor's 12 bytes (R208). -/
def PertDesc.bytes (d : PertDesc) : Bytes :=
  le 1 d.command ++ le 1 d.mask.toNat ++ le 2 d.amp ++ le 4 d.start.toNat ++ le 2 d.length ++ le 2 d.seq

/-- The first 56 bytes of the frame of this cycle, the stateful record (R304, R447). -/
def State.frameBytes (s : State) : Bytes :=
  let w := s.sawyer
  le 1 1 ++ le 1 s.frameFlags ++ le 4 s.C ++ leI 4 (if s.dispatches then w.x else 0)
    ++ le 2 (tenths w.lChg) ++ le 2 (tenths w.lDis)
    ++ (upFrom 1 4).flatMap (fun q => le 2 (tenths (s.horizon w.lChg q)))
    ++ (upFrom 1 4).flatMap (fun q => le 2 (tenths (s.horizon w.lDis q)))
    ++ le 1 s.core.opState.code ++ le 1 (w.winDis * 16 + w.winChg) ++ le 2 (toPct s.scaler.usable).toNat
    ++ le 2 (min (s.ring.record.vStr / 100).toNat 0xFFFF) ++ s.descNow.bytes ++ zeros 8

/-- A frame has been sent (R308). -/
def frameSent (s : State) : State :=
  let w := s.sawyer
  let s := { s with sawyer := { w with sent := inc32 w.sent, unsentRun := 0, sentRun := w.sentRun + 1 } }
  if s.sawyer.sentRun < 16 then s else (s.clearOnce 0x040 0x72 0 0).clearOnce 0x040 0x73 0 0

/-- The frame of a cycle was not sent (R308). -/
def frameUnsent (s : State) : State :=
  let w := s.sawyer
  let n := w.unsentRun + 1
  let s := { s with sawyer := { w with unsent := inc32 w.unsent, unsentRun := n, sentRun := 0 } }
  let s := if 4 ≤ n then s.raiseOnce 0x040 0x72 .warn 0 0 else s
  if 16 ≤ n then s.raiseOnce 0x040 0x73 .trip 0 0 else s

/-! ### Trace buffers (R309, R310) -/

/-- A trace buffer. -/
def State.trace (s : State) (b : Nat) : Trace := Tab.at s.sawyer.traces b {}

/-- Update a trace buffer. -/
def State.modTrace (s : State) (b : Nat) (f : Trace → Trace) : State :=
  { s with sawyer := { s.sawyer with traces := Tab.mod s.sawyer.traces b {} f } }

/-- The trigger object's fields (R313): kind, condition, node, severity or buffer, level. -/
def State.trigger (s : State) (b : Nat) : Nat × Nat × Nat × Int :=
  let t := padTo 8 (s.octets (0x6400 + b) 0x0A)
  (fieldN t 0 1, fieldN t 1 1, fieldN t 2 2, fieldI t 4 4)

/-- Samples recorded after the trigger sample. -/
def State.postCount (s : State) (b : Nat) : Nat := 2048 - s.cfg (0x6400 + b) 0x0B

/-- The trigger of a buffer arrives: an armed one begins to record its capture, another only counts it. -/
def fireTrace (b : Nat) (s : State) : State :=
  s.modTrace b fun t =>
    if t.state = 1 then { t with state := 2, post := 0, trigger := s.core.cycle } else { t with missed := inc32 t.missed }

/-- Whether a buffer's own condition holds in this cycle; conditions of a node: 0 rising, 1 falling, 2 either way. -/
def State.traceFires (s : State) (b : Nat) : Bool :=
  let (kind, cond, arg, level) := s.trigger b
  match kind with
  | 0 =>
    let x := s.node arg
    let p := (s.trace b).last
    (cond != 1 && p < level && level ≤ x) || (cond != 0 && level < p && x ≤ level)
  | 1 => arg % 256 < s.sawyer.trigSev
  | 2 => s.sawyer.trigState != s.core.opState
  | _ => false

/-- The buffers that fire: their own conditions, then those triggered by a buffer that fires (R310). -/
def State.firing (s : State) : Nat → List Nat
  | 0 => (upFrom 0 4).filter s.traceFires
  | n + 1 =>
    let l := s.firing n
    l ++ (upFrom 0 4).filter fun b => !l.contains b && (s.trigger b).1 = 4 && l.contains ((s.trigger b).2.2.1 % 256)

/-- One sample of a buffer that records (R309). -/
def sampleTrace (s : State) (b : Nat) : State :=
  let t := s.trace b
  let recording := t.state = 1 || (t.state = 2 && t.post < s.postCount b)
  let s := if recording && s.C % max 1 (s.cfg (0x6400 + b) 9) = 0 then
      let x := (upFrom 1 8).map fun ch => s.node (s.cfg (0x6400 + b) ch)
      s.modTrace b fun t => { t with samples := keepN 2048 (x :: t.samples), newest := s.core.cycle,
                                     post := if t.state = 2 then t.post + 1 else t.post }
    else s
  s.modTrace b fun t => { t with last := s.node (s.trigger b).2.2.1 }

/-- The traces of the cycle, after the Sawyer's work: triggers, then samples. -/
def runTraces (s : State) : State :=
  let s := (s.firing 3).foldl (fun s b => fireTrace b s) s
  let s := (upFrom 0 4).foldl sampleTrace s
  { s with sawyer := { s.sawyer with trigSev := 0, trigState := s.core.opState } }

/-- Arm a buffer, once or in re-arm mode. -/
def effTraceArm (b : Nat) (rearm : Bool) (s : State) : State :=
  s.modTrace b fun t => { t with state := 1, rearm := rearm, samples := [], post := 0, last := s.node (s.trigger b).2.2.1 }

/-- Disarm a buffer. -/
def effTraceDisarm (b : Nat) (s : State) : State := s.modTrace b fun t => { t with state := 0, rearm := false }

/-- TRACE_CAPTURE_COMPLETE (R310): the samples after the trigger are recorded. -/
def execTraceCaptureComplete (b : Nat) (s : State) : Out :=
  let t := s.trace b
  if t.state = 2 && s.postCount b ≤ t.post then
    let span := (t.samples.length - 1) * max 1 (s.cfg (0x6400 + b) 9)
    .next (s.modTrace b fun t => { t with state := 3, seq := t.seq + 1, first := t.newest - BitVec.ofNat 32 span })
  else .next s

/-! ### The outputs (R322, R323) -/

/-- A node's value as a duty in per mille. -/
def State.dutyOf (s : State) (o : Nat) : Nat := (clampI 0 1000 (s.node (s.cfg (0x6840 + o) 1))).toNat

/-- Whether an enabled pulse output has taken over a PWM pin: TPO-3 that of PWM-3, TPO-4 that of PWM-4 (R360). -/
def State.tpoTakes (s : State) (o : Nat) : Bool := (o = 4 && s.cfg 0x7132 1 != 0) || (o = 5 && s.cfg 0x7133 1 != 0)

/-- The duty of output o: 0 and 1 HPO-1 and HPO-2, 2 to 5 PWM-1 to PWM-4; 0 where a pulse output has the pin. -/
def State.duty (s : State) (o : Nat) : Nat :=
  let fire := s.cfg (0x6840 + o) 3
  if s.tpoTakes o then 0
  else if s.core.opState = .off || s.core.opState = .boot || s.core.opState = .sleep then 0
  else if s.cause pcFire then (if fire = 0xFFFF then Tab.nat s.canopy.duty o else fire)
  else if o ≤ 1 && s.power.onBackup then 0
  else if (o = 1 || o = 2) && s.actionBit 1 then 1000
  else s.dutyOf o

/-- What stands at the pin of output o (684x.04): a unit that counts as standby holds its outputs off (R567). -/
def State.pinDuty (s : State) (o : Nat) : Nat := if s.countsActive then Tab.nat s.canopy.duty o else 0

/-- Put the duties of the cycle in force. -/
def setDuties (s : State) : State :=
  { s with canopy := { s.canopy with duty := (upFrom 0 6).map fun o => (o, s.duty o) } }

/-! ### The whole of it (R286) -/

/-- One cycle of Canopy and Sawyer: margins, statistics, slots and groups in the order of R286, limits, profile, outputs, traces. Nothing
runs in OFF, BOOT and SLEEP. -/
def runSawyer (s : State) : State :=
  if s.core.opState = .off || s.core.opState = .boot || s.core.opState = .sleep then s
  else
    let s := canopyStatistics (voltageMargins s)
    let s := canopySlots.foldl watchSlot s
    let s := (upFrom 0 2).foldl (fun s n => if s.slotRuns n then slotEquations n false s else s) s
    let s := (upFrom 0 2).foldl limitGroup s
    let s := (upFrom 2 14).foldl runSlot s
    let s := (upFrom 2 2).foldl loopGroup s
    runTraces (setDuties (profile s))

/-! ### Dispatch (R298-R300) -/

/-- The lease ends: IDLE, counted, recorded. -/
def endLease (s : State) : State :=
  let w := s.sawyer
  ({ s with sawyer := { w with mode := 0, holder := 0, lease := 0, leaseEnds := inc32 w.leaseEnds } }).tellEvent 0x0040 2 0xFFFF
    (le 8 w.holder)

/-- Queue a dispatch event for the boundary (R300). -/
def queueDispatch (e : DispatchEvent) (s : State) : State := { s with sawyer := { s.sawyer with events := s.sawyer.events ++ [e] } }

/-- Rank of a dispatch event: lease end, release, claim, renewal, write. -/
def DispatchEvent.order : List Nat := [0, 1, 2, 3, 4]

/-- Apply one dispatch event; the flag of the result is its abort code (R298-R300). -/
def applyDispatch (s : State) (e : DispatchEvent) : State :=
  let w := s.sawyer
  let held := w.holder != 0
  let mine := held && w.holder = e.identity
  let done := fun (abort : Nat) (s : State) => s.replyAt e.session e.req 2 abort (s.ahead 1)
  match e.kind with
  | 0 => done 0 (if held then (endLease s).report 0x040 0x71 .notice 0 0 else s)
  | 1 => if mine then done 0 (endLease s) else done abNotHolder s
  | 2 => if held then done abOwned s
         else done 0 { s with sawyer := { w with holder := e.identity, lease := s.cfg 0x6108 5 } }
  | 3 => if mine then done 0 { s with sawyer := { w with lease := s.cfg 0x6108 5 } } else done abNotHolder s
  | _ =>
    if !mine then done abNotHolder s
    else match e.key % 256 with
      | 2 => done 0 { s with sawyer := { w with mode := e.value.toNat } }
      | 3 => done 0 { s with sawyer := { w with reqI := e.value } }
      | _ => done 0 { s with sawyer := { w with reqP := e.value } }

/-- A lease whose time has run out ends before the cycle's other dispatch events (R299, R300). -/
def expireLease (s : State) : State :=
  if s.sawyer.holder != 0 && s.sawyer.lease = 0 then (endLease s).report 0x040 0x70 .notice 0 0 else s

/-- DISPATCH_LEASE_EXPIRED (R299): the remaining time has reached 0. -/
def execDispatchLeaseExpired (s : State) : Out := .next (expireLease s)

/-- The dispatch events due at this boundary (R388), in the order of R300, the end of a lease first; then the remaining lease time runs on. -/
def dispatchBoundary (s : State) : State :=
  let s := expireLease s
  let due := fun (e : DispatchEvent) => decide ((s.ahead 1 - e.effective).toNat < 2 ^ 31)
  let l := s.sawyer.events.filter due
  let s := { s with sawyer := { s.sawyer with events := s.sawyer.events.filter fun e => !due e } }
  let s := (DispatchEvent.order.flatMap fun k => l.filter fun e => e.kind = k).foldl applyDispatch s
  if s.sawyer.holder != 0 then { s with sawyer := { s.sawyer with lease := s.sawyer.lease - 1 } } else s

end Sys2Proof.Machine
end

