-- ==== Sys2Proof/Machine/LinkOps.lean ====
section
/-! DEFINITION. The host links' shared operations: Ethernet transmit queues with PRP (R344, R345), CAN message objects (R364-R367) and the CAN
security trailer with its freshness reservations (R424-R426). -/

namespace Sys2Proof.Machine

open Sys2Proof

/-! ### Ethernet -/

/-- Port 0 is ETH-A, port 1 is ETH-B. -/
def State.eth (s : State) (p : Nat) : EthPort := if p = 0 then s.links.ethA else s.links.ethB

/-- Update a port. -/
def State.modEth (s : State) (p : Nat) (f : EthPort → EthPort) : State :=
  if p = 0 then { s with links := { s.links with ethA := f s.links.ethA } }
  else { s with links := { s.links with ethB := f s.links.ethB } }

/-- Whether a port can pass frames: PD6 powered, link up, not fenced. -/
def State.ethUp (s : State) (p : Nat) : Bool := s.pd 6 && !s.power.clockFaults.getLsbD 4 && ((s.eth p).link = 1 || (s.eth p).link = 2)

/-- A port's configuration: 7001 ETH-A, 7002 ETH-B. -/
def State.ethCfg (s : State) (p sub : Nat) : Nat := s.cfg (0x7001 + p) sub

/-- Whether PRP is enabled (7010.01). -/
def State.prpOn (s : State) : Bool := s.cfg 0x7010 1 = 1

/-- Priority code point of a traffic class on a port (R344). -/
def State.ethPcp (s : State) (p cls : Nat) : Nat :=
  match cls with
  | 0 => s.cfg 0x7100 0x10
  | 1 => s.ethCfg p 0x0A
  | 2 => s.ethCfg p 9
  | _ => 0

/-- Tag of a frame a port sends: none on an untagged port, else its VLAN identifier and the class's PCP (R344). That a tagged port tags classes 2 and 3 too is
DEDUCED (log 50): without a tag 7001.09 would have no effect. -/
def State.ethTag (s : State) (p cls : Nat) : Option (Nat × Nat) :=
  if s.ethCfg p 7 = 0 then none else some (s.ethCfg p 7, s.ethPcp p cls)

/-- Put a frame into a port's transmit queue (Q8, Q10); a fenced port takes none. -/
def ethQueue (p : Nat) (f : EthFrame) (s : State) : State :=
  if (s.eth p).fenced then s else s.modEth p fun e => { e with tx := e.tx ++ [{ f with tag := s.ethTag p f.cls }] }

/-- Send a frame on a port; with PRP every frame but PTP goes out on both with a redundancy trailer (R345). -/
def ethSend (p cls kind session : Nat) (data : Bytes) (s : State) : State :=
  if s.prpOn && kind != 0 then
    let n := s.links.prpSeq
    let f : EthFrame := { cls := cls, kind := kind, session := session, trailer := some n, data := data }
    ethQueue 1 f (ethQueue 0 f { s with links := { s.links with prpSeq := (n + 1) % 65536 } })
  else ethQueue p { cls := cls, kind := kind, session := session, data := data } s

/-- A port counts a discarded frame (7001.0B). -/
def ethDiscard (p : Nat) (s : State) : State := s.modEth p fun e => { e with discarded := inc32 e.discarded }

/-- Whether an injection on an Ethernet port takes frames of a kind (R376). -/
def State.ethFilter (s : State) (p kind : Nat) : Bool := (s.injectCfg (2 + p) 0x10).testBit kind

/-- The frames of a transmit queue leave in class order (R344); an injection counts those it affects (R376). -/
def drainEth (p : Nat) (s : State) : State :=
  let out := (upFrom 0 4).flatMap fun c => (s.eth p).tx.filter fun f => f.cls = c
  let s := s.modEth p fun e => { e with tx := [] }
  out.foldl (fun s f => (injectFrame (2 + p) 1 (s.ethFilter p f.kind) s).2) s

/-! ### CAN message objects -/

/-- Controller 0 is CAN-A, 1 is CAN-B. -/
def State.can (s : State) (n : Nat) : CanCtl := if n = 0 then s.links.canA else s.links.canB

/-- Update a controller. -/
def State.modCan (s : State) (n : Nat) (f : CanCtl → CanCtl) : State :=
  if n = 0 then { s with links := { s.links with canA := f s.links.canA } }
  else { s with links := { s.links with canB := f s.links.canB } }

/-- A controller's configuration: 7200 CAN-A, 7201 CAN-B. -/
def State.canCfg (s : State) (n sub : Nat) : Nat := s.cfg (0x7200 + n) sub

/-- A message object's configuration: 7210 + o (CAN-A), 7290 + o (CAN-B). -/
def State.canObj (s : State) (n o sub : Nat) : Nat := s.cfg (0x7210 + 0x80 * n + o) sub

/-- Direction of a message object: 0 off, 1 receive, 2 transmit; objects 0 to 7 are fixed (R365, R379). -/
def State.canDir (s : State) (n o : Nat) : Nat :=
  match o with
  | 0 | 2 | 3 => 2
  | 1 => 1
  | 4 | 5 | 6 | 7 => 0
  | _ => s.canObj n o 1

/-- Identifier of a message object; object 3 of Unit B in a pair uses base + 4 (R365). -/
def State.canId (s : State) (n o : Nat) : Nat :=
  if o < 8 then s.canCfg n 0x10 + (if o = 3 && s.inPair && s.unitB then 4 else o) else s.canObj n o 2

/-- Identifier extension of a message object. -/
def State.canExt (s : State) (n o : Nat) : Bool := 8 ≤ o && s.canObj n o 3 = 1

/-- Format of a message object: 0 classic, 1 FD, 2 FD with BRS; objects 0 to 7 use FD with BRS (R365). -/
def State.canFormat (s : State) (n o : Nat) : Nat := if o < 8 then 2 else s.canObj n o 5

/-- Whether a message object replaces its pending frame (R366). -/
def State.canReplace (s : State) (n o : Nat) : Bool := o = 0 || s.canObj n o 8 = 1

/-- Retransmission limit of a message object; none is unlimited (R367). -/
def State.canLimit (s : State) (n o : Nat) : Option Nat :=
  if o = 0 || s.canObj n o 7 = 0xFF then none else some (s.canObj n o 7)

/-- Secure channel bound to a message object, if any (7210 + o.09). -/
def State.canChannel (s : State) (n o : Nat) : Option Nat := if s.canObj n o 9 < 64 then some (s.canObj n o 9) else none

/-- Whether a controller's transceiver works: PD7 powered, not off, not fenced. -/
def State.canOn (s : State) (n : Nat) : Bool := s.pd 7 && !s.power.clockFaults.getLsbD 5 && s.canCfg n 1 != 0 && !(s.can n).fenced

/-- Whether a controller takes frames to send: normal mode (R370, R372). -/
def State.canSends (s : State) (n : Nat) : Bool := s.canOn n && s.canCfg n 1 = 1

/-- Put a frame into a controller's transmit queue (Q12, Q14); a replace-pending object keeps only the newest (R366). -/
def canQueue (n : Nat) (f : CanFrame) (s : State) : State :=
  if s.canSends n then
    s.modCan n fun c => { c with tx := (if s.canReplace n f.object then c.tx.filter fun g => g.object != f.object else c.tx) ++ [f] }
  else s

/-! ### Security of CAN frames -/

/-- A secure channel. -/
def State.channel (s : State) (ch : Nat) : CanChannel := Tab.at s.sec.channels ch {}

/-- Update a secure channel. -/
def State.modChannel (s : State) (ch : Nat) (f : CanChannel → CanChannel) : State :=
  { s with sec := { s.sec with channels := Tab.mod s.sec.channels ch {} f } }

/-- The key of a channel's direction: 0 module to host, 1 host to module (R424). -/
def canKey (key d ch : Nat) : Nat :=
  Config.cmac key (le 1 1 ++ le 5 0x4E4143535A ++ le 1 0 ++ le 1 d ++ le 1 ch ++ le 1 0 ++ le 1 0x80)

/-- The five tag bytes of a frame (R424). -/
def canTag (key d ch id : Nat) (ext : Bool) (fv : Nat) (data : Bytes) : Bytes :=
  (le 16 (Config.cmac (canKey key d ch) (le 4 (id + b2n ext * 2 ^ 31) ++ le 1 ch ++ le 1 d ++ le 6 fv ++ slice data 0 56))).take 5

/-- The trailer of a frame the module sends: freshness and tag (R424); zeros on a channel without key. -/
def State.canTrailer (s : State) (ch id : Nat) (ext : Bool) (fv : Nat) (data : Bytes) : Bytes :=
  match (s.channel ch).key with
  | some k => le 3 fv ++ canTag k 0 ch id ext fv data
  | none => zeros 8

/-- Journal slot of a channel's freshness reservation in a direction (R531). -/
def freshSlot (ch d : Nat) : Nat := 533 + 2 * ch + d

/-- The next transmit freshness value of a channel; at the reservation less 2^17 a new reservation is journalled first (R426). -/
def nextFv (ch : Nat) (s : State) : Nat × State :=
  let c := s.channel ch
  let fv := c.txFv + 1
  let s := s.modChannel ch fun c => { c with txFv := fv }
  if c.txRes ≤ fv + 2 ^ 17 then
    (fv, (s.modChannel ch fun c => { c with txRes := c.txRes + 2 ^ 18 }).journal (freshSlot ch 0) 0x23 (le 8 (c.txRes + 2 ^ 18)))
  else (fv, s)

/-- Send 56 bytes on a message object with cycle freshness on its bound channel (R425). -/
def canSendCycle (n o : Nat) (data : Bytes) (s : State) : State :=
  let id := s.canId n o
  let tr := match s.canChannel n o with
    | some ch => s.canTrailer ch id (s.canExt n o) s.C data
    | none => zeros 8
  canQueue n { object := o, id := id, ext := s.canExt n o, data := slice data 0 56 ++ tr, cycle := s.core.cycle } s

/-- Send 56 bytes on a message object with counter freshness on a channel (R425). -/
def canSendCounter (n o ch : Nat) (data : Bytes) (s : State) : State :=
  let (fv, s) := nextFv ch s
  let id := s.canId n o
  canQueue n { object := o, id := id, ext := s.canExt n o, cycle := s.core.cycle,
               data := slice data 0 56 ++ s.canTrailer ch id (s.canExt n o) fv data } s

/-- The smallest freshness value above the last accepted one whose low 24 bits are `low` (R425). -/
def nextFresh (last low : Nat) : Nat :=
  let base := last / 2 ^ 24 * 2 ^ 24 + low
  if last < base then base else base + 2 ^ 24

/-- Check a received frame on a channel with counter freshness (R425, R426): accepted frames advance the channel, failed ones are counted. -/
def canVerify (ch : Nat) (f : CanRx) (s : State) : Bool × State :=
  let c := s.channel ch
  let fv := nextFresh c.rxFv (fieldN f.data 56 3)
  match c.key with
  | none => (false, s.modChannel ch fun c => { c with tagFails := inc32 c.tagFails })
  | some k =>
    if c.rxFv + 2 ^ 20 < fv then (false, s.modChannel ch fun c => { c with stale := inc32 c.stale })
    else if canTag k 1 ch f.id f.ext fv f.data = slice f.data 59 5 then
      let s := if c.rxRes ≤ fv + 2 ^ 17 then
          (s.modChannel ch fun c => { c with rxRes := c.rxRes + 2 ^ 18 }).journal (freshSlot ch 1) 0x23 (le 8 (c.rxRes + 2 ^ 18))
        else s
      (true, s.modChannel ch fun c => { c with rxFv := fv })
    else (false, s.modChannel ch fun c => { c with tagFails := inc32 c.tagFails })

end Sys2Proof.Machine
end

