-- ==== Sys2Proof/Machine/Sessions.lean ====
section
/-! DEFINITION. Session contexts and their life (R402, R403), TLS handshakes and certificates (R418, R420, R421), and what ending a session
takes with it. -/

namespace Sys2Proof.Machine

open Sys2Proof

/-- Whether a context is OPEN. -/
def State.sessOpen (s : State) (n : Nat) : Bool := (s.session n).state = .isOpen

/-- A fast channel. -/
def State.fast (s : State) (j : Nat) : FastChannel := Tab.at s.sec.fast j {}

/-- Update a fast channel. -/
def State.modFast (s : State) (j : Nat) (f : FastChannel → FastChannel) : State :=
  { s with sec := { s.sec with fast := Tab.mod s.sec.fast j {} f } }

/-- A context becomes FREE: its queues, subscriptions, transfers and read cursor go with it. -/
def freeContext (s : State) (n : Nat) : State :=
  let s := if s.dict.owner = some n then discardStaging s else s
  let q := s.dict.responses.filter fun r => r.session != n
  let s := { s with dict := { s.dict with sessions := Tab.drop s.dict.sessions n, responses := q },
                    tally := { s.tally with cursors := Tab.drop s.tally.cursors n } }
  if 128 ≤ n && n < 192 then s.modFast (n - 128) fun f => { f with isOpen := false, kept := [] } else s

/-- A session ends (R403): its staging is discarded and its fast channel ends with it; the dispatch lease stays (R299). -/
def endSession (s : State) (n : Nat) : State :=
  let kids := (s.dict.sessions.filter fun e => e.2.parent = some n).map Prod.fst
  freeContext (kids.foldl freeContext s) n

/-- End every session that a test picks. -/
def endWhere (p : Nat → Session → Bool) (s : State) : State :=
  ((s.dict.sessions.filter fun e => p e.1 e.2).map Prod.fst).foldl endSession s

/-- End every session. -/
def endAll (s : State) : State := endWhere (fun _ _ => true) s

/-- A TLS connection is lost: requests and unsent responses are discarded, subscriptions pause, an open transfer is discarded (R403). -/
def loseConnection (n : Nat) (s : State) : State :=
  let q := s.dict.responses.filter fun r => r.session != n
  ({ s with dict := { s.dict with responses := q } }).modSession n fun (c : Session) =>
    let subs := c.subs.map fun (x : Subscription) => { x with paused := true, unsent := false }
    { c with state := .dormant, dormantAt := some s.core.cycle, queue := [], paid := 0, order := [], notes := [], block := none,
             seg := none, subs := subs }

/-! ### Contexts for a new TLS session -/

/-- The contexts a session with these roles may take: 0 to 123, and 124 to 127 for Integrator, Engineer or Arbiter (R402). -/
def tlsContexts (roles : BitVec 8) : List Nat :=
  upFrom 0 124 ++ (if roles.getLsbD 4 || roles.getLsbD 3 || roles.getLsbD 5 then upFrom 124 4 else [])

/-- The first FREE context of a list. -/
def State.freeOf (s : State) (l : List Nat) : Option Nat := l.find? fun n => (s.session n).state = .free

/-- Age of a DORMANT context in cycles. -/
def State.dormantAge (s : State) (n : Nat) : Nat :=
  match (s.session n).dormantAt with
  | some c => s.since c
  | none => 0

/-- The context of a list that has been DORMANT longest. -/
def State.oldestDormant (s : State) (l : List Nat) : Option Nat :=
  (l.filter fun n => (s.session n).state = .dormant).foldl
    (fun b n => match b with
      | none => some n
      | some m => if s.dormantAge m < s.dormantAge n then some n else some m) none

/-- TLS sessions open or dormant under one client certificate (R402). -/
def State.perIdentity (s : State) (cert : Bytes) : Nat :=
  (s.dict.sessions.filter fun e => e.1 < 128 && e.2.state != .free && e.2.cert = cert).length

/-- Refuse a connection with one response of type 0x81 (R403). -/
def refuseConnection (port code : Nat) (s : State) : State :=
  ethSend port 2 1 0xFFFF (pduHeader 0x81 0 0 s.core.cycle code) { s with dict := { s.dict with refused := inc32 s.dict.refused } }

/-- Open a context. -/
def openContext (n transport : Nat) (roles : BitVec 8) (identity : Nat) (s : State) : State :=
  s.modSession n fun _ => { state := .isOpen, transport := transport, roles := roles, identity := identity }

/-- Open a TLS session: a FREE context, else the oldest DORMANT one, which ends; else the connection is refused (R403). -/
def openTls (port : Nat) (cert : ClientCert) (roles : BitVec 8) (secret : Nat) (s : State) : State :=
  let l := tlsContexts roles
  let id := unle (cert.digest.take 8)
  let put := fun (n : Nat) (s : State) =>
    (openContext n port roles id s).modSession n fun c => { c with anchor := cert.anchor.getD 0, cert := cert.digest, secret := secret }
  if s.cfg 0x1010 6 ≤ s.perIdentity cert.digest then refuseConnection port abIdentityLimit s
  else match s.freeOf l with
    | some n => put n s
    | none => match s.oldestDormant l with
      | some n => put n (endSession s n)
      | none => refuseConnection port abNoContext s

/-! ### Handshakes -/

/-- A handshake fails (7880.01). -/
def failHandshake (s : State) : State := { s with sec := { s.sec with hsFailed := inc32 s.sec.hsFailed } }

/-- Forget a handshake in progress. -/
def endHandshake (conn : Nat) (s : State) : State :=
  { s with sec := { s.sec with handshakes := s.sec.handshakes.filter fun h => h.1 != conn } }

/-- The digests of a denial list (7808.01). -/
def digestsOf : Nat → Bytes → List Bytes
  | 0, _ => []
  | _, [] => []
  | n + 1, b => b.take 32 :: digestsOf n (b.drop 32)

/-- Whether a certificate is denied (R421). -/
def State.denied (s : State) (digest : Bytes) : Bool := (digestsOf 64 (s.octets 0x7808 1)).contains digest

/-- The roles a certificate gives: those its subject names and its anchor's mask permits, never Partner, Observer always (R418); an
unadopted module grants Observer only (R421). -/
def State.grantedRoles (s : State) (cert : ClientCert) : BitVec 8 :=
  if !s.sec.adopted then 1
  else match cert.anchor with
    | some a => setBit (setBit (cert.roles &&& Tab.at s.sec.masks a 0) 6 false) 0 true
    | none => 1

/-- Whether the handshake may open a session: a P-256 certificate in a chain of at most 4 certificates of at most 2,048 bytes, and once adopted a
chain to an anchor the module holds (R420). -/
def State.certOk (s : State) (cert : ClientCert) : Bool :=
  cert.p256 && cert.depth ≤ 4 && cert.largest ≤ 2048 && (!s.sec.adopted || match cert.anchor with
    | some a => (Tab.find s.sec.anchors a).isSome
    | none => false)

/-- CLIENT_HELLO (R420): none of the supported parameters is refused with handshake_failure; any other starts the 10 s limit. -/
def execClientHello (conn port : Nat) (supported : Bool) (s : State) : Out :=
  if !s.ethUp port then .next s
  else if supported then
    .next { s with sec := { s.sec with handshakes := s.sec.handshakes ++ [(conn, s.core.cycle)] } }
  else .next (ethSend port 2 1 0xFFFF [] (failHandshake s))

/-- TLS_HANDSHAKE (R420, R421): a completed handshake opens a session, or is refused for its certificate; `secret` is the connection's exporter
secret. -/
def execTlsHandshake (conn port : Nat) (cert : ClientCert) (secret : Nat) (s : State) : Out :=
  match s.sec.handshakes.find? fun h => h.1 = conn with
  | none => .next s
  | some h =>
    let s := endHandshake conn s
    if s.passed h.2 10000 || !s.certOk cert then .next (failHandshake s)
    else if s.denied cert.digest then
      .next (failHandshake { s with sec := { s.sec with denied := inc32 s.sec.denied } })
    else if s.sec.adopted && s.clock.trusted && !cert.inPeriod then .next (failHandshake s)
    else
      let s := if s.sec.adopted && !s.clock.trusted then
          ({ s with sec := { s.sec with skipped := inc32 s.sec.skipped } }).tellEvent 0x0050 2 0x7880 []
        else s
      .next (openTls port cert (s.grantedRoles cert) secret s)

/-- TLS_HANDSHAKE_TIMEOUT (R420): not completed within 10 s of its ClientHello. -/
def execTlsHandshakeTimeout (conn : Nat) (s : State) : Out :=
  match s.sec.handshakes.find? fun h => h.1 = conn with
  | none => .next s
  | some h => if s.passed h.2 10000 then .next (failHandshake (endHandshake conn s)) else .next s

/-- CONNECTION_LOST (R403): a TCP loss without close_notify. -/
def execConnectionLost (session : Nat) (s : State) : Out :=
  if session < 128 && s.sessOpen session then .next (loseConnection session s) else .next s

/-- Whether a DORMANT session is still within the dormant window (1010.05). -/
def State.inWindow (s : State) (n : Nat) : Bool := s.dormantAge n < 1000 * s.cfg 0x1010 5

/-- SESSION_RESUMPTION (R403): subscriptions resume at their next sample. -/
def execSessionResumption (session port secret : Nat) (s : State) : Out :=
  if (s.session session).state = .dormant && s.inWindow session then
    .next (s.modSession session fun c =>
      { c with state := .isOpen, transport := port, secret := secret, dormantAt := none,
               subs := c.subs.map fun (x : Subscription) => { x with paused := false } })
  else .next s

/-- DORMANT_WINDOW_EXPIRY (R403). -/
def execDormantWindowExpiry (session : Nat) (s : State) : Out :=
  if (s.session session).state = .dormant && !s.inWindow session then .next (endSession s session) else .next s

/-- CLOSE_NOTIFY (R403). -/
def execCloseNotify (session : Nat) (s : State) : Out :=
  if session < 128 && s.sessOpen session then .next (endSession s session) else .next s

end Sys2Proof.Machine
end

