-- ==== Sys2Proof/Machine/Security.lean ====
section
/-! DEFINITION. Identity and security (R409-R435): adoption, trust anchors, the denial list, CAN channel keys, fast channels, signed snapshots
and attestation. Objects' conditions are `cond…`, what an accepted write does is `eff…`. -/

namespace Sys2Proof.Machine

open Sys2Proof

/-- Abort codes of class 0x08 (R434). -/
def abCode : Nat := 0x08010000
def abWait : Nat := 0x08020000
def abAdopted : Nat := 0x08030000
def abSignature : Nat := 0x08040000
def abSequence : Nat := 0x08050000
def abStringId : Nat := 0x08060000
def abEntry : Nat := 0x08070000
def abLimits : Nat := 0x08080000
def abSelfTest : Nat := 0x08090000
def abPartner : Nat := 0x080A0000
def abRate : Nat := 0x080B0000
def abDocument : Nat := 0x080C0000
def abNoFast : Nat := 0x080D0000
def abAnchor : Nat := 0x080F0000

/-! ### Adoption (R412-R416) -/

/-- Length of anchor i (1 to 4) of an adoption request. -/
def anchorLen (doc : Bytes) (i : Nat) : Nat := fieldN doc (92 + 2 * (i - 1)) 2

/-- Anchor i of an adoption request. -/
def anchorOf (doc : Bytes) (i : Nat) : Bytes :=
  slice doc (100 + ((upFrom 1 (i - 1)).map (anchorLen doc)).foldl (· + ·) 0) (anchorLen doc i)

/-- Bytes of all anchors of an adoption request. -/
def anchorBytes (doc : Bytes) : Nat := ((upFrom 1 4).map (anchorLen doc)).foldl (· + ·) 0

/-- Offset of the first fault in the format of an adoption request (R412), none when it is well formed. -/
def adoptionFormat (doc : Bytes) : Option Nat :=
  let n := fieldN doc 5 1
  if doc.length < 116 || doc.take 4 != strBytes 4 "ZSAD" then some 0
  else if fieldN doc 4 1 != 1 then some 4
  else if n = 0 || 4 < n then some 5
  else if fieldN doc 6 2 != 0 then some 6
  else if fieldN doc 8 16 = 0 then some 8
  else if !((upFrom 1 4).all fun i => decide (anchorLen doc i = 0) != decide (i ≤ n)) || 4096 < anchorBytes doc then some 92
  else if doc.length != 116 + anchorBytes doc then some 100
  else none

/-- The 40-bit code's key (R411), as the vault derives it from its verifier. -/
def State.codeKey (s : State) : Nat := s.sec.codeVerifier % 2 ^ 128

/-- Whether the code check of a request passes under a session binding (R412). -/
def State.codeOk (s : State) (binding doc : Bytes) : Bool :=
  let a := 100 + anchorBytes doc
  le 16 (Config.cmac s.codeKey (binding ++ doc.take a)) = slice doc a 16

/-- The first content of a request that fails after the code check (R413), 0 when none does. -/
def adoptionContent (doc : Bytes) : Nat :=
  match (upFrom 1 (fieldN doc 5 1)).find? fun i => !Config.anchorOk (anchorOf doc i) with
  | some i => abortArg abAnchor i
  | none => if Config.pointOk (slice doc 24 64) then 0 else abortArg abDocument 24

/-- The adoption wait of a count of consecutive failures, in seconds (R414). -/
def adoptionWait (failures : Nat) : Nat := if failures < 3 then 0 else min (10 * 2 ^ (failures - 3)) 3600

/-- Seconds of the adoption wait that remain (7800.06). -/
def State.waitLeft (s : State) : Nat :=
  match s.sec.waitFrom with
  | none => 0
  | some c => (s.sec.waitLen * 1000 - s.since c + 999) / 1000

/-- Keep the security counters in the journal (R414, R531). -/
def journalSecurity (s : State) : State := s.journal 661 0x24 (le 1 s.sec.failures ++ le 1 0 ++ le 2 s.sec.waitLen)

/-- A failed code check (R414). -/
def codeFailed (s : State) : State :=
  let f := inc8 s.sec.failures
  let from_ := if f < 3 then none else some s.core.cycle
  journalSecurity { s with sec := { s.sec with failures := f, waitLen := adoptionWait f, waitFrom := from_ } }

/-- Store what an accepted adoption request gives; every session ends (R413). -/
def adopt (doc : Bytes) (s : State) : State :=
  let ns := upFrom 1 (fieldN doc 5 1)
  let anchors := ns.map fun i => (i, anchorOf doc i)
  let masks := ns.map fun i => (i, BitVec.ofNat 8 (fieldN doc (87 + i) 1))
  endAll (journalSecurity { s with sec := { s.sec with adopted := true, stringId := fieldN doc 8 16, verifyKey := some (slice doc 24 64),
                                                       anchors := anchors, masks := masks, failures := 0, waitLen := 0, waitFrom := none } })

/-- What is checked of an adoption request before its code (R413-R415). -/
def condAdoption (doc : Bytes) (s : State) : Nat :=
  if s.sec.adopted then abAdopted
  else if 0 < s.waitLeft then abortArg abWait s.waitLeft
  else match adoptionFormat doc with
    | some o => abortArg abDocument o
    | none => 0

/-- Take an adoption request under a session binding: its result as an abort code (R413, R414). -/
def takeAdoption (binding doc : Bytes) (s : State) : Nat × State :=
  if s.codeOk binding doc then
    if adoptionContent doc = 0 then (0, adopt doc s) else (adoptionContent doc, s)
  else
    let s := codeFailed s
    (abortArg abCode (3 - s.sec.failures), s)

/-- The session binding of a TLS session (R412). -/
def State.binding (s : State) (sess : Nat) : Bytes := le 32 (Config.tlsExporter (s.session sess).secret 0)

/-- A write of 7801.01, which answers itself. -/
def effAdoption (sess dest req : Nat) (doc : Bytes) (s : State) : State :=
  let (r, s) := takeAdoption (s.binding sess) doc s
  if r = 0 then s else s.reply dest req 2 r

/-- ADOPTION_WAIT_EXPIRY (R414): requests are accepted again. -/
def execAdoptionWaitExpiry (s : State) : Out :=
  if s.sec.waitFrom.isSome && s.waitLeft = 0 then .next { s with sec := { s.sec with waitFrom := none } } else .next s

/-- De-adoption is permitted in ISOLATED, SERVICE and LOCKOUT (R415). -/
def condDeAdopt (s : State) : Nat := if s.idle || s.core.opState = .lockout then 0 else s.stateAbort abState

/-- De-adoption erases what adoption stored, the envelope and the CAN channel keys, and ends every session (R415). -/
def effDeAdopt (s : State) : State :=
  let channels := s.sec.channels.map fun e => (e.1, { e.2 with key := none })
  let s := { s with sec := { s.sec with adopted := false, anchors := [], masks := [], verifyKey := none, stringId := 0, channels := channels },
                    fb := { s.fb with envelope := none, envDoc := [], digest := 0, envState := 0, envSeq := 0, envPending := [] } }
  noEnvelope (endAll (journalSecurity s))

/-! ### Trust anchors and the denial list (R417, R421) -/

/-- Whether some anchor permits the Integrator role. -/
def integratorLeft (anchors : Tab Bytes) (masks : Tab (BitVec 8)) : Bool := anchors.any fun e => (Tab.at masks e.1 0).getLsbD 4

/-- A write of 7802 to 7805: anchor `i`, its certificate (01) or mask (02). -/
def condAnchor (i sub : Nat) (v : ObjVal) (s : State) : Nat :=
  let b := v.toBytes
  if sub = 1 then
    if b.length = 0 || 2048 < b.length then abLength
    else if Config.anchorOk b && integratorLeft (Tab.put s.sec.anchors i b) s.sec.masks then 0
    else abortArg abAnchor i
  else if integratorLeft s.sec.anchors (Tab.put s.sec.masks i (BitVec.ofInt 8 v.toInt)) then 0
  else abortArg abAnchor i

/-- An anchor or its mask is replaced; a replaced anchor takes its sessions with it. -/
def effAnchor (i sub : Nat) (v : ObjVal) (s : State) : State :=
  if sub = 1 then
    endWhere (fun n c => n < 128 && c.anchor = i) { s with sec := { s.sec with anchors := Tab.put s.sec.anchors i v.toBytes } }
  else { s with sec := { s.sec with masks := Tab.put s.sec.masks i (BitVec.ofInt 8 v.toInt) } }

/-- The denial list holds up to 64 digests of 32 bytes. -/
def condDenial (v : ObjVal) : Nat := if v.toBytes.length % 32 = 0 && v.toBytes.length ≤ 2048 then 0 else abLength

/-- A new denial list ends the sessions of the identities in it. -/
def effDenial (v : ObjVal) (s : State) : State :=
  endWhere (fun _ c => c.cert != [] && (digestsOf 64 v.toBytes).contains c.cert) (s.setVal (okey 0x7808 1) v)

/-! ### CAN channels (R403, R424) -/

/-- A channel key has 16 bytes. -/
def condChannelKey (v : ObjVal) : Nat := if v.toBytes.length = 16 then 0 else abLength

/-- Install a channel key. -/
def effChannelKey (ch : Nat) (v : ObjVal) (s : State) : State := s.modChannel ch fun c => { c with key := some (unle v.toBytes) }

/-- Enabling a channel opens its session with the channel's roles and identity; disabling ends it. -/
def setChannel (ch : Nat) (on : Bool) (s : State) : State :=
  if on then
    if s.sessOpen (192 + ch) then s
    else openContext (192 + ch) 4 (setBit (BitVec.ofNat 8 (s.cfg (0x7810 + ch) 2)) 6 false) (unle (s.octets (0x7810 + ch) 3)) s
  else if (s.session (192 + ch)).state = .free then s else endSession s (192 + ch)

/-- A write of 7810 + ch.04. -/
def effChannelEnable (ch : Nat) (v : ObjVal) (s : State) : State := setChannel ch (v.toInt = 1) (s.setVal (okey (0x7810 + ch) 4) v)

/-! ### Fast channels (R422) -/

/-- The fast channel of a TLS session. -/
def State.fastOf (s : State) (sess : Nat) : Option Nat :=
  (upFrom 0 64).find? fun j => (s.fast j).isOpen && (s.session (128 + j)).parent = some sess

/-- The fast channel a TLS session would get: its own, else the first that is not open. -/
def State.fastFor (s : State) (sess : Nat) : Option Nat :=
  match s.fastOf sess with
  | some j => some j
  | none => (upFrom 0 64).find? fun j => !(s.fast j).isOpen

/-- Only an OPEN TLS session has a fast channel; opening needs a free one. -/
def condFast (sess : Nat) (v : ObjVal) (s : State) : Nat :=
  if 128 ≤ sess || !s.sessOpen sess then abTransport
  else if v.toInt = 1 && (s.fastFor sess).isNone then abNoFast
  else 0

/-- Open or re-key a fast channel: the epoch advances, from 0, and both sequences start again. -/
def openFast (sess j : Nat) (s : State) : State :=
  let p := s.session sess
  let e := match (s.fast j).epoch with
    | none => 0
    | some e => (e + 1) % 256
  let s := s.modFast j fun f => { f with isOpen := true, epoch := some e, keys := Config.tlsExporter p.secret (1 + 256 * j + e),
                                         txSeq := 1, rxTop := 0, seen := [] }
  if s.sessOpen (128 + j) then s
  else
    let s := s.modFast j fun f => { f with rx := 0, tx := 0, kept := [], peer := 0 }
    (openContext (128 + j) (2 + p.transport % 2) p.roles p.identity s).modSession (128 + j) fun c => { c with parent := some sess, cert := p.cert }

/-- A write of 7860.01. -/
def effFast (sess : Nat) (v : ObjVal) (s : State) : State :=
  if v.toInt = 1 then
    match s.fastFor sess with
    | some j => openFast sess j s
    | none => s
  else match s.fastOf sess with
    | some j => endSession s (128 + j)
    | none => s

/-! ### Signed snapshots and attestation (R431, R432) -/

/-- 64 signature bytes over a message, by the device key. -/
def signBytes (b : Bytes) : Bytes := slice (Config.ecdsaSign (Config.sha256 b)) 0 64

/-- Milliseconds that a limit of one per `n` ms leaves to wait. -/
def State.rateLeft (s : State) (last : Option Cycle) (n : Nat) : Nat :=
  match last with
  | none => 0
  | some c => n - s.since c

/-- A nonce has 16 bytes, and at most one is accepted per `n` ms. -/
def condNonce (last : Option Cycle) (n : Nat) (v : ObjVal) (s : State) : Nat :=
  if v.toBytes.length != 16 then abLength
  else if 0 < s.rateLeft last n then abortArg abRate (s.rateLeft last n)
  else 0

/-- A write of 7870.01: the snapshot of the next boundary is wanted. -/
def effSnapshot (v : ObjVal) (s : State) : State :=
  { s with sec := { s.sec with snapReq := some (unle v.toBytes, s.core.cycle), snapLast := some s.core.cycle } }

/-- A TIME of 10 bytes (R381), with a flag in bit 31 of its nanoseconds. -/
def timeBytes (sec ns : Nat) (locked : Bool) : Bytes := le 6 sec ++ le 4 (ns + b2n locked * 2 ^ 31)

/-- Highest and lowest cell voltage with their cells, and hottest and coldest (R431, R447). -/
def State.extremeCells (s : State) : (Int × Nat) × (Int × Nat) :=
  let l := s.allCells.map fun k => ((s.tap.v.find? fun e => e.1 = k).elim (s.cell k).lastV Prod.snd, k)
  match l with
  | [] => ((0, 0), (0, 0))
  | a :: t => t.foldl (fun r x => (if r.1.1 < x.1 then x else r.1, if x.1 < r.2.1 then x else r.2)) (a, a)

/-- The 12 bytes of cell voltage extremes and their cells, and the 4 of the temperature extremes. -/
def State.extremeBytes (s : State) : Bytes :=
  let (h, l) := s.extremeCells
  leI 4 h.1 ++ leI 4 l.1 ++ le 2 h.2 ++ le 2 l.2 ++ leI 2 s.canopy.hottest ++ leI 2 s.canopy.coldest

/-- Usable state of charge in 0.01 %. -/
def State.usablePct (s : State) : Nat := (qdiv (s.scaler.usable * 10000) (2 ^ 30)).toNat

/-- A snapshot that is wanted is taken and signed at the boundary (R431). -/
def takeSnapshot (s : State) : State :=
  match s.sec.snapReq with
  | none => s
  | some r =>
    let b := strBytes 4 "ZSSN" ++ le 8 s.sec.serial ++ le 4 s.C
      ++ timeBytes s.ring.record.sec s.ring.record.ns s.ring.record.locked ++ le 1 s.core.opState.code ++ le 1 0 ++ le 16 r.1
      ++ leI 4 s.scaler.i ++ leI 4 s.fe.vStr ++ le 2 s.usablePct ++ le 2 s.insulation ++ le 4 s.fb.causes.toNat ++ s.extremeBytes
      ++ le 32 s.fb.digest.toNat
    { s with sec := { s.sec with snapReq := none, snapshot := b ++ signBytes b } }

/-- Attestation image type of record r (R432, R536): Lookout, lanes, Yarder, cores, Firebreak configuration. -/
def imageType (r : Nat) : Nat := if r = 0 then 1 else if r ≤ 8 then 2 else if r = 9 then 3 else if r ≤ 11 then 4 else 5

/-- The envelope fields in force as the Firebreak's limit registers hold them. -/
def State.limitBytes (s : State) : Bytes :=
  match s.fb.envelope with
  | none => []
  | some e => e.flatMap fun x => le 2 (x.1 / 256) ++ le 1 (x.1 % 256) ++ leI 4 x.2

/-- Whether the processor of an image record is a lane that is drained or fenced, or the idle core: its record shows bank 0xFF (R432). -/
def State.idleRecord (s : State) (r : Nat) : Bool :=
  (1 ≤ r && r ≤ 8 && (Tab.at s.cruiser.lanes (r - 1) .active = .drained || Tab.at s.cruiser.lanes (r - 1) .active = .fenced))
    || ((r = 10 || r = 11) && (r = 11) != s.update.core1)

/-- An image record of an attestation report. -/
def State.imageRecord (s : State) (r : Nat) : Bytes :=
  let i := if r = 12 then { version := s.fb.envSeq, gen := (Tab.at s.update.images (if s.update.core1 then 11 else 10) {}).gen, bank := 0,
                            measure := Config.sha256 s.limitBytes : ImageRec }
    else Tab.at s.update.images r {}
  le 1 (imageType r) ++ le 1 (if s.idleRecord r then 0xFF else i.bank) ++ le 2 0 ++ le 4 i.version ++ le 2 i.gen ++ le 2 0 ++ le 32 i.measure.toNat

/-- A write of 7871.01: the report is produced (R432). -/
def effAttestation (v : ObjVal) (s : State) : State :=
  let anchors := (upFrom 1 4).flatMap fun i => Tab.at s.sec.anchors i []
  let b := strBytes 4 "ZSAT" ++ le 1 1 ++ le 1 13 ++ le 2 0 ++ le 8 s.sec.serial ++ le 4 s.C
    ++ timeBytes s.clock.t0.1 s.clock.t0.2 false ++ le 2 0 ++ slice v.toBytes 0 16 ++ le 32 s.fb.digest.toNat
    ++ le 1 (b2n s.sec.adopted) ++ le 3 0 ++ le 32 (Config.sha256 (s.sec.verifyKey.getD [] ++ anchors)).toNat ++ le 4 s.power.powerCycles
    ++ (upFrom 0 13).flatMap s.imageRecord
  { s with sec := { s.sec with attestation := b ++ signBytes b, attLast := some s.core.cycle } }

end Sys2Proof.Machine
end

