-- ==== Sys2Proof/Machine/Envelope.lean ====
section
/-! DEFINITION. Envelope documents (R255-R258, R278, R427-R430): the checks of an install in their order, the Firebreak's self-test, the partner's
part, and the boundary at which an envelope takes effect. -/

namespace Sys2Proof.Machine

open Sys2Proof

/-! ### The document (R427) -/

/-- An entry: index, subindex, type code, the four value bytes. -/
structure EnvEntry where
  idx : Nat
  sub : Nat
  ty : Nat
  raw : Nat
deriving DecidableEq, Repr

/-- Number of entries. -/
def envCount (doc : Bytes) : Nat := fieldN doc 6 2

/-- Entry i, counted from 0. -/
def envEntry (doc : Bytes) (i : Nat) : EnvEntry :=
  let o := 40 + 8 * i
  { idx := fieldN doc o 2, sub := fieldN doc (o + 2) 1, ty := fieldN doc (o + 3) 1, raw := fieldN doc (o + 4) 4 }

/-- The entries in order. -/
def envEntries (doc : Bytes) : List EnvEntry := (upFrom 0 (envCount doc)).map (envEntry doc)

/-- Offset of the first fault in the format, none when it is well formed. -/
def envFormat (doc : Bytes) : Option Nat :=
  let n := envCount doc
  if doc.take 4 != strBytes 4 "ZSEV" then some 0
  else if fieldN doc 4 1 != 1 then some 4
  else if fieldN doc 5 1 != 0 then some 5
  else if n = 0 || 64 < n || doc.length != 104 + 8 * n then some 6
  else if fieldN doc 38 2 != 0 then some 38
  else none

/-- The value of an entry in an object's type: narrower types are zero- or sign-extended. -/
def EnvEntry.value (e : EnvEntry) (d : ObjDesc) : Int := if 6 ≤ d.ty && d.ty ≤ 0x0A then wrapI 32 e.raw else e.raw

/-- Whether an entry names an ENV object of its type with a value in its range. -/
def EnvEntry.ok (e : EnvEntry) : Bool :=
  match objDesc e.idx e.sub with
  | none => false
  | some d => d.persist = 2 && d.numeric && d.ty = e.ty && d.min ≤ e.value d && e.value d ≤ d.max

/-- The number, from 1, of the first entry that is invalid, out of order or repeated; `prev` is the key before. -/
def envBadEntry (n prev : Nat) : List EnvEntry → Option Nat
  | [] => none
  | e :: t => if e.ok && prev < okey e.idx e.sub then envBadEntry (n + 1) (okey e.idx e.sub) t else some n

/-- The fields of a document, by object. -/
def envFields (doc : Bytes) : Tab Int :=
  (envEntries doc).foldl (fun t e => match objDesc e.idx e.sub with
    | some d => Tab.put t (okey e.idx e.sub) (e.value d)
    | none => t) []

/-! ### The conditions of R257 -/

/-- The mandatory fields (R255). -/
def envMandatory : List Nat :=
  (upFrom 1 6).map (okey 0x5800) ++ (upFrom 1 5).map (okey 0x5801) ++ (upFrom 1 6).map (okey 0x5802)

/-- A field of an envelope, with its default where the document omits it (R256). -/
def envField (e : Tab Int) (idx sub : Nat) : Int :=
  match Tab.find e (okey idx sub) with
  | some v => v
  | none => match objDesc idx sub with
    | some d => d.dflt
    | none => 0

/-- Cell voltage limits: 1,000 mV ≤ hard V_UV < V_UV, V_UV + 200 mV ≤ V_OV, V_OV < hard V_OV ≤ 5,000 mV. -/
def envVoltsOk (f : Nat → Int) : Bool :=
  10000 ≤ f 6 && f 6 < f 2 && f 6 < f 4 && f 2 + 2000 ≤ f 1 && f 4 + 2000 ≤ f 3 && f 1 < f 5 && f 3 < f 5 && f 5 ≤ 50000

/-- Temperature limits. -/
def envTempsOk (f : Nat → Int) : Bool :=
  f 2 + 500 ≤ f 1 && f 4 + 500 ≤ f 3 && f 1 + 200 ≤ f 5 && f 3 + 200 ≤ f 5
    && ((upFrom 1 7).all fun i => decide (-4000 ≤ f i) && decide (f i ≤ 10000)) && f 7 < f 6

/-- Continuous, Hall and i²t limits of one direction. -/
def envCurrentOk (hall cont i2t : Int) : Bool :=
  1 ≤ cont && cont ≤ 2000 && 12 * cont ≤ 10 * hall && hall ≤ 12000 && 1 ≤ i2t

/-- The number of the first condition of R257 that fails, 0 when none does. -/
def State.envConditions (s : State) (e : Tab Int) : Nat :=
  let c := envField e 0x5802
  let i := envField e 0x5803
  let slots := (upFrom 0 8).filter s.chemLoaded
  if !envMandatory.all (fun k => (Tab.find e k).isSome) then 1
  else if !envVoltsOk (envField e 0x5800) then 2
  else if !envTempsOk (envField e 0x5801) then 3
  else if !(envCurrentOk (c 1) (c 3) (c 5) && envCurrentOk (c 2) (c 4) (c 6)) then 4
  else if !(1 ≤ i 3 && i 3 < i 2) then 5
  else if i 1 = 1 && s.cfg 0x2012 3 = 0 then 6
  else if !slots.all (fun n => chemCheck (s.chem n) (some (envField e 0x5800 1, envField e 0x5800 4)) = 0) then 7
  else 0

/-! ### The checks of an install (R428) -/

/-- The states in which an envelope is installed (R258). -/
def State.mayInstall (s : State) : Bool := s.idle || s.core.opState = .tripped || s.core.opState = .lockout

/-- The highest envelope sequence in force or accepted. -/
def State.envTop (s : State) : Nat := s.fb.envPending.foldl (fun m p => max m p.seq) s.fb.envSeq

/-- Whether a document of `n` signed bytes carries a valid signature of the verify key behind them. -/
def State.signedOk (s : State) (doc : Bytes) (n : Nat) : Bool :=
  match s.sec.verifyKey with
  | none => false
  | some k => Config.ecdsaVerify k (Config.sha256 (doc.take n)) (slice doc n 64)

/-- What R428 checks of a document itself, in its order, as an abort code. -/
def State.envDocument (s : State) (doc : Bytes) : Nat :=
  match envFormat doc with
  | some o => abortArg abDocument o
  | none =>
    if !s.signedOk doc (40 + 8 * envCount doc) then abSignature
    else if fieldN doc 12 16 != 0 && fieldN doc 12 16 != s.sec.stringId then abStringId
    else if fieldN doc 8 4 ≤ s.envTop then abSequence
    else match envBadEntry 1 0 (envEntries doc) with
    | some n => abortArg abEntry n
    | none => if s.envConditions (envFields doc) = 0 then 0 else abortArg abLimits (s.envConditions (envFields doc))

/-- The first seven checks of R428 in their order, as an abort code. -/
def State.envCheck (s : State) (doc : Bytes) : Nat :=
  if s.frozen then abHandOver else if !s.mayInstall then s.stateAbort abState else s.envDocument doc

/-- The result of an install is kept (7850.02, 5805.01). -/
def installResult (code : Nat) (s : State) : State :=
  let st := if s.hasEnv then 1 else if code = 0 then s.fb.envState else 2
  { s with sec := { s.sec with installResult := BitVec.ofNat 32 code }, fb := { s.fb with envState := st } }

/-- Refuse a pending envelope. -/
def refuseEnvelope (p : EnvPending) (code : Nat) (s : State) : State :=
  let s := installResult code { s with fb := { s.fb with envPending := s.fb.envPending.filter fun q => q != p } }
  if p.foreign then s else s.reply p.session p.req 2 code

/-- An envelope that passed the seven checks waits for its self-test; an active unit of a pair sends it to the partner (R429). -/
def acceptEnvelope (sess req : Nat) (foreign : Bool) (doc : Bytes) (s : State) : State :=
  let pair := s.inPair && !foreign
  let p : EnvPending := { doc := doc, fields := envFields doc, digest := Config.sha256 doc, seq := fieldN doc 8 4, session := sess, req := req,
                          partner := pair, since := s.core.cycle, foreign := foreign }
  let s := { s with fb := { s.fb with envPending := s.fb.envPending ++ [p] } }
  if pair then tetherInput (.envelope doc) s.core.cycle s else s

/-- A write of 7850.01 that passed its checks, which answers itself. -/
def effEnvelope (dest req : Nat) (doc : Bytes) (s : State) : State := acceptEnvelope dest req false doc s

/-- A refused write of 7850.01 leaves its result in 7850.02. -/
def envelopeRefused (code : Nat) (s : State) : State := installResult code s

/-- The partner sends a document: it runs the same checks, and its self-test before it answers (R429). -/
def partnerEnvelope (doc : Bytes) (s : State) : State :=
  let code := s.envCheck doc
  if code = 0 then acceptEnvelope 0xFFFF 0 true doc s else tetherInput (.envelopeAnswer false) s.core.cycle (installResult code s)

/-- Replace the first pending envelope that a test picks. -/
def modFirst (p : EnvPending → Bool) (f : EnvPending → EnvPending) : List EnvPending → List EnvPending
  | [] => []
  | e :: t => if p e then f e :: t else e :: modFirst p f t

/-- The boundary of an envelope is set once its self-test has passed and, in a pair, the partner has accepted it; never before the boundary of
an earlier one (R258, R428, R429). -/
def scheduleEnvelopes (s : State) : State :=
  match s.fb.envPending.find? fun p => p.effective.isNone with
  | none => s
  | some p =>
    if p.selfTest || p.partner || p.foreign then s
    else
      let at_ := if s.inPair then s.ahead 10 else s.ahead 1
      let s := { s with fb := { s.fb with envPending := modFirst (fun q => q = p) (fun q => { q with effective := some at_ }) s.fb.envPending } }
      if s.inPair then tetherInput .envelopeEffective at_ s else s

/-- The partner's answer (R429). -/
def envelopeAnswered (ok : Bool) (s : State) : State :=
  match s.fb.envPending.find? fun p => p.partner with
  | none => s
  | some p =>
    if ok then scheduleEnvelopes { s with fb := { s.fb with envPending := modFirst (fun q => q = p) (fun q => { q with partner := false }) s.fb.envPending } }
    else refuseEnvelope p abPartner s

/-- The active unit has set the boundary of the envelope it sent (R429). -/
def envelopeEffective (at_ : Cycle) (s : State) : State :=
  { s with fb := { s.fb with envPending := modFirst (fun q => q.foreign && q.effective.isNone) (fun q => { q with effective := some at_ })
                                             s.fb.envPending } }

/-- An envelope takes effect (R258): every counter and accumulator restarts; *no envelope* ends, and with it the TRIP-PCS it held. -/
def applyEnvelope (p : EnvPending) (s : State) : State :=
  let had := s.hasEnv
  let s := { s with fb := { s.fb with envelope := some p.fields, envDoc := p.doc, digest := p.digest, envSeq := p.seq, envCycle := s.ahead 1, envState := 1 } }
  let s := disableThresholds (restartCounters s)
  let s := (s.clearOnce 0x010 0x17 0 0).tell 0x0012 (le 4 s.dict.epoch ++ le 4 p.seq ++ le 32 p.digest.toNat)
  let s := if had then s else releaseTrip s
  let s := installResult 0 s
  if p.foreign then s else s.replyAt p.session p.req 2 0 (s.ahead 1)

/-- At the boundary the envelopes that are due take effect, in the order accepted. -/
def applyEnvelopes (s : State) : State :=
  let due := s.fb.envPending.filter fun p => p.effective.elim false fun c => (s.ahead 1 - c).toNat < 2 ^ 31
  due.foldl (fun s p => applyEnvelope p { s with fb := { s.fb with envPending := s.fb.envPending.filter fun q => q != p } }) s

/-! ### The self-test (R278) -/

/-- The Firebreak's self-test fault and 5810.0B. -/
def selfTest (pass : Bool) (s : State) : State :=
  let s := { s with fb := { s.fb with selfTestFailed := !pass } }
  if pass then s.clearOnce 0x010 0x16 0 0 else s.raiseOnce 0x010 0x16 .degrade 0 0

/-- FIREBREAK_SELF_TEST (R278): a run ends. In BOOT it makes the Firebreak active; otherwise it is the run of the first envelope that waits for
one, which it lets in or refuses, or the repetition on the previous envelope. -/
def execFirebreakSelfTest (pass : Bool) (s : State) : Out :=
  let s := selfTest pass s
  if s.starting then .next (noEnvelope { s with fb := { s.fb with active := pass } })
  else match s.fb.envPending.find? fun p => p.selfTest with
    | none => .next s
    | some p =>
      if pass then
        let s := { s with fb := { s.fb with envPending := modFirst (fun q => q = p) (fun q => { q with selfTest := false }) s.fb.envPending } }
        .next (if p.foreign then tetherInput (.envelopeAnswer true) s.core.cycle s else scheduleEnvelopes s)
      else
        let s := refuseEnvelope p abSelfTest s
        .next (if p.foreign then tetherInput (.envelopeAnswer false) s.core.cycle s else s)

/-- ENVELOPE_PARTNER_TIMEOUT (R429): no answer within 1 s refuses the install on both units. -/
def execEnvelopePartnerTimeout (s : State) : Out :=
  match s.fb.envPending.find? fun p => (p.partner || p.foreign) && p.effective.isNone && s.passed p.since 1000 with
  | none => .next s
  | some p => .next (refuseEnvelope p abPartner s)

/-! ### The key change (R430) -/

/-- What is checked of a key-change document: format, sequence, signature by the present key. -/
def condKeyChange (doc : Bytes) (s : State) : Nat :=
  if doc.take 4 != strBytes 4 "ZSEK" then abortArg abDocument 0
  else if fieldN doc 4 1 != 1 then abortArg abDocument 4
  else if fieldN doc 5 2 != 0 then abortArg abDocument 5
  else if doc.length != 139 then abortArg abDocument 7
  else if !s.signedOk doc 75 then abSignature
  else if fieldN doc 7 4 ≤ s.fb.envSeq then abSequence
  else if !Config.pointOk (slice doc 11 64) then abortArg abDocument 11
  else 0

/-- The new key is stored, and the active envelope sequence rises to the document's. 7806 is of string scope (R435), so the partner is told. -/
def effKeyChange (doc : Bytes) (s : State) : State :=
  replicate (.write (okey 0x7850 3) (.bytes doc)) s.effective { s with sec := { s.sec with verifyKey := some (slice doc 11 64) }, fb := { s.fb with envSeq := fieldN doc 7 4 } }

end Sys2Proof.Machine
end

