-- ==== Sys2Proof/Machine/Clocks.lean ====
section
/-! DEFINITION. Local time (R349-R359): the clock and its states, PTP, PPS-IN, the transmit time-stamp queue, and the pulse outputs
(R360-R362). -/

namespace Sys2Proof.Machine

open Sys2Proof

/-- Local time in nanoseconds. -/
def State.nowNs (s : State) : Int := (s.clock.sec * 1000000000 + s.clock.ns : Nat)

/-- A time in nanoseconds as seconds (48 bits) and nanoseconds below 1,000,000,000 (R349). -/
def splitNs (t : Int) : Nat × Nat := ((t / 1000000000 % (2 ^ 48 : Nat)).toNat, (t % 1000000000).toNat)

/-- A TIME value in nanoseconds (R381). -/
def timeNs (b : Bytes) : Int := (fieldN b 0 6 * 1000000000 + fieldN b 6 4 % 2 ^ 30 : Nat)

/-- Phase error of an instant: less the nearest whole millisecond, in (-500 µs, +500 µs] (R356). -/
def phaseOf (t : Int) : Int := let r := t % 1000000; if 500000 < r then r - 1000000 else r

/-! ### Pulse outputs -/

/-- A pulse output: 0 PPS-OUT, 1 SYNC-PCS, 2 TPO-3, 3 TPO-4. -/
def State.pulse (s : State) (o : Nat) : Pulse := Tab.at s.links.pulses o {}

/-- Update a pulse output. -/
def State.modPulse (s : State) (o : Nat) (f : Pulse → Pulse) : State :=
  { s with links := { s.links with pulses := Tab.mod s.links.pulses o {} f } }

/-- A pulse output's parameter: 7130 + o. -/
def State.pulseCfg (s : State) (o sub : Nat) : Nat := s.cfg (0x7130 + o) sub

/-- First scheduled instant of a periodic output that is at least `t` (R362). -/
def firstInstant (start period t : Int) : Int :=
  if t ≤ start then start else start + (t - start + period - 1) / period * period

/-- The instant an output is next scheduled for, seen from now (R362): at least 1 ms ahead. -/
def schedulePulse (o : Nat) (s : State) : State :=
  let start := timeNs (s.octets (0x7130 + o) 2)
  let ahead := s.nowNs + 1000000
  let period := max 1 (s.pulseCfg o 3)
  let next := match s.pulseCfg o 1 with
    | 1 => if ahead ≤ start then some start else none
    | 2 => some (firstInstant start period ahead)
    | _ => none
  s.modPulse o fun p => { p with next := next }

/-- A forward step that skips scheduled edges fires one at once, late; the output goes on after the new time (R362). -/
def stepPulse (s : State) (o : Nat) : State :=
  let now := s.nowNs
  let p := s.pulse o
  match p.next with
  | none => s
  | some t =>
    if t ≤ now then
      let period : Int := max 1 (s.pulseCfg o 3)
      let periodic := s.pulseCfg o 1 = 2
      let next := if periodic then some (firstInstant t period (now + 1)) else none
      let last := if periodic then firstInstant t period (now + 1) - period else t
      s.modPulse o fun p => { p with late := inc32 p.late, active := true, lastEdge := some last, next := next }
    else s

/-- Add a signed offset to local time in one tick (R349, R350): t0 of the cycle moves with it (R355, R356), skipped edges fire (R362). -/
def stepTime (d : Int) (s : State) : State :=
  let t := splitNs (s.nowNs + d)
  let z := splitNs ((s.clock.t0.1 * 1000000000 + s.clock.t0.2 : Nat) + d)
  let s := { s with clock := { s.clock with sec := t.1, ns := t.2, t0 := z, phase := phaseOf (z.2 : Nat) } }
  if 0 < d then (upFrom 0 4).foldl stepPulse s else s

/-- A written value of a pulse parameter is put in force. -/
def putPulse (o : Nat) (s : State) (w : Nat × ObjVal) : State := s.setVal (okey (0x7130 + o) w.1) w.2

/-- 7130 + o: a parameter written while the output is active waits for the end of the present pulse (R360). -/
def effPulse (o sub : Nat) (v : ObjVal) (s : State) : State :=
  if (s.pulse o).active then s.modPulse o fun p => { p with waiting := p.waiting ++ [(sub, v)] }
  else schedulePulse o (putPulse o s (sub, v))

/-- What refuses a pulse parameter (R360, R362): limits of period, width and divisor, and in mode 1 a start less than 1 ms ahead. -/
def condPulse (o sub : Nat) (v : ObjVal) (s : State) : Nat :=
  let num := fun (k : Nat) => if k = sub then v.toInt.toNat else s.pulseCfg o k
  let start := if sub = 2 then timeNs v.toBytes else timeNs (s.octets (0x7130 + o) 2)
  if sub = 3 && (num 3 < 1000 || num 3 < num 4 + 100) then abRange
  else if sub = 4 && (num 4 < 100 || (num 3 != 0 && num 3 < num 4 + 100)) then abRange
  else if sub = 6 && 60000 < num 6 then abRange
  else if (sub = 1 || sub = 2) && num 1 = 1 && start < s.nowNs + 1000000 then abRange
  else 0

/-- PULSE_EDGE: a leading edge at its scheduled instant, or in cycle-locked mode at t0 of a cycle with C mod N = 0 (R360-R362); SYNC-PCS is
driven in that mode by the originating unit only. At a trailing edge the waiting parameters come into force. -/
def execPulseEdge (o : Nat) (trailing : Bool) (s : State) : Out :=
  let p := s.pulse o
  if 4 ≤ o then .next s
  else if trailing then
    if p.active then
      let s := s.modPulse o fun p => { p with active := false, waiting := [] }
      if p.waiting.isEmpty then .next s else .next (schedulePulse o (p.waiting.foldl (putPulse o) s))
    else .next s
  else match s.pulseCfg o 1 with
    | 3 =>
      if s.C % max 1 (s.pulseCfg o 6) = 0 && (o != 1 || s.ring.originating) then .next (s.modPulse o fun p => { p with active := true })
      else .next s
    | 1 | 2 =>
      (match p.next with
       | none => .next s
       | some t =>
         if t < s.nowNs + 1000000 then
           let next := if s.pulseCfg o 1 = 2 then some (t + (max 1 (s.pulseCfg o 3) : Nat)) else none
           .next (s.modPulse o fun p => { p with active := true, lastEdge := some t, next := next })
         else .next s)
    | _ => .next s

/-! ### The clock's states (R354) -/

/-- The clock enters a state. -/
def setClock (st : ClockState) (s : State) : State :=
  let held := if st = .holdover then s.core.cycle else s.clock.heldSince
  { s with clock := { s.clock with state := st, goodRun := 0, badRun := 0, heldSince := held, trusted := s.clock.trusted || st = .locked } }

/-- Slew by rate adjustment, at most 200 ppm beyond the learned rate and within ±200,000 ppb (R350, R354); the law between is not stated
(log entry 7). -/
def slew (s : State) : State :=
  let (x, s) := drawInt s
  let l := s.clock.learned
  let r := clampI (max (-200000) (l - 200000)) (min 200000 (l + 200000)) x
  { s with clock := { s.clock with rate := r, learned := if s.clock.state = .locked then r else l } }

/-- An offset measured by the followed source (R354). -/
def applyOffset (off : Int) (s : State) : State :=
  let s := { s with clock := { s.clock with offset := off } }
  match s.clock.state with
  | .free => s
  | .acquiring =>
    if (s.cfg 0x7100 6 : Nat) < off.natAbs then
      ((stepTime (-off) { s with clock := { s.clock with goodRun := 0, steps := inc32 s.clock.steps } })).tellEvent 0x0050 1 0x7100 (leI 4 off)
    else
      let n := if off.natAbs ≤ 250 then s.clock.goodRun + 1 else 0
      let s := slew { s with clock := { s.clock with goodRun := n } }
      if 16 ≤ n then setClock .locked s else s
  | .locked =>
    let n := if 10000 < off.natAbs then s.clock.badRun + 1 else 0
    if 3 ≤ n then setClock .acquiring s else slew { s with clock := { s.clock with badRun := n } }
  | .holdover => if off.natAbs ≤ 1000 then setClock .locked s else setClock .acquiring s

/-- OFFSET_MEASURED (R354): local time less master time, from the followed PTP instance. -/
def execOffsetMeasured (offset : Int) (s : State) : Out :=
  if s.cfg 0x7100 1 = 0 && s.clock.port < 2 then .next (applyOffset offset s) else .next s

/-- PPS_IN_EDGE (R351, R354): a rising edge marks a whole second; `ns` is the local nanoseconds it was stamped with. -/
def execPpsInEdge (ns : Nat) (s : State) : Out :=
  if s.cfg 0x7100 1 != 1 then .next s
  else
    let s := { s with clock := { s.clock with ppsEdges := s.clock.ppsEdges + 1 } }
    if s.clock.state = .free then
      if 2 ≤ s.clock.ppsEdges then .next (setClock .acquiring s) else .next s
    else .next (applyOffset (if 500000000 < ns then (ns : Int) - 1000000000 else (ns : Int)) s)

/-! ### PTP (R352, R353) -/

/-- A data set in the order of the default BMCA. -/
def PtpRank (m : PtpMaster) : List Nat :=
  [m.priority1, m.clockClass, m.accuracy, m.variance, m.priority2, m.identity, m.steps]

/-- Lexicographic order. -/
def lexLt : List Nat → List Nat → Bool
  | a :: l, b :: m => a < b || (a = b && lexLt l m)
  | _, _ => false

/-- Whether one data set is better than another. -/
def betterMaster (a b : PtpMaster) : Bool := lexLt (PtpRank a) (PtpRank b)

/-- The module's own data set when master-capable: class 248, accuracy 0xFE (R352); variance and identity are not stated. -/
def State.ownMaster (s : State) : PtpMaster :=
  { priority1 := s.cfg 0x7100 8, clockClass := 248, accuracy := 0xFE, variance := 0xFFFF, priority2 := s.cfg 0x7100 9,
    identity := unbe (s.octets 0x7001 1), steps := 0 }

/-- The port whose selected master is better; a tie goes to ETH-A (R353). -/
def State.bestPort (s : State) : Nat :=
  match (s.eth 0).master, (s.eth 1).master with
  | none, none => 0xFF
  | some _, none => 0
  | none, some _ => 1
  | some a, some b => if betterMaster b a then 1 else 0

/-- Follow the better instance: a change is a new source (R353), the first source ends FREE (R354). -/
def refollow (s : State) : State :=
  if s.cfg 0x7100 1 != 0 then s
  else
    let old := s.clock.port
    let p := s.bestPort
    let s := { s with clock := { s.clock with port := p } }
    if p = 0xFF then s
    else if s.clock.state = .free || (old != p && old != 0xFF) || (old != p && s.clock.state = .locked) then setClock .acquiring s
    else s

/-- An Announce of the right domain reaches a port's instance. -/
def announceIn (p : Nat) (m : PtpMaster) (s : State) : State :=
  if s.cfg 0x7100 0xA = 1 && betterMaster s.ownMaster m then s.modEth p fun e => { e with isMaster := e.master.isNone }
  else
    let take := match (s.eth p).master with
      | none => true
      | some k => k.identity = m.identity || betterMaster m k
    if take then refollow (s.modEth p fun e => { e with master := some m, isMaster := false }) else s

/-- A PTP message acts on the port's instance (R352). Sync and Follow_Up lead to OFFSET_MEASURED; Pdelay_Req is answered; management
messages are ignored. -/
def ptpIn (p domain : Nat) (m : PtpMsg) (s : State) : State :=
  if domain != s.cfg 0x7100 7 then s
  else match m with
    | .announce d => announceIn p d s
    | .pdelayReq q => ethSend p 0 0 0 (le 1 3 ++ le 2 q) s
    | .sync | .followUp | .pdelayResp | .management => s

/-- The oldest PTP message of a receive queue. -/
def firstPtp : List EthRx → Option (Nat × PtpMsg)
  | [] => none
  | f :: t => match f.content with
    | .ptp d m => some (d, m)
    | _ => firstPtp t

/-- A receive queue without its oldest PTP message. -/
def dropPtp : List EthRx → List EthRx
  | [] => []
  | f :: t => match f.content with
    | .ptp _ _ => t
    | _ => f :: dropPtp t

/-- PTP_MESSAGE_RECEIVE (R352): the instance of a port takes the oldest PTP message its receive queue holds. -/
def execPtpMessageReceive (port : Nat) (s : State) : Out :=
  match firstPtp (s.eth port).rx with
  | none => .next s
  | some (d, m) => .next (ptpIn port d m (s.modEth port fun e => { e with rx := dropPtp e.rx }))

/-- ANNOUNCE_RECEIPT_TIMEOUT (R354): the port's master is lost, or with `sync` three Sync of the followed source are missing (or three PPS-IN
edges, with source 1). -/
def execAnnounceReceiptTimeout (port : Nat) (sync : Bool) (s : State) : Out :=
  let lost := fun (s : State) => if s.clock.state = .locked then setClock .holdover s else s
  if sync then
    if s.cfg 0x7100 1 = 1 then .next (lost { s with clock := { s.clock with ppsEdges := 0 } })
    else if s.cfg 0x7100 1 = 0 && port = s.clock.port then .next (lost s)
    else .next s
  else
    let s := s.modEth port fun e => { e with master := none, isMaster := s.cfg 0x7100 0xA = 1 }
    let s := refollow s
    if s.cfg 0x7100 1 = 0 && s.clock.port = 0xFF then .next (lost s) else .next s

/-- HOLDOVER_EXPIRY (R354). -/
def execHoldoverExpiry (s : State) : Out :=
  if s.clock.state = .holdover && s.passed s.clock.heldSince (1000 * s.cfg 0x7100 0xB) then .next (setClock .free s) else .next s

/-- PTP_MESSAGE_INTERVAL (R352, R353): each instance sends its Pdelay_Req, and as master its Sync and Announce while neither port has a better
master. -/
def ptpInterval (s : State) (p : Nat) : State :=
  if !s.ethUp p then s
  else
    let q := (s.eth p).ptpSeq
    let s := s.modEth p fun e => { e with ptpSeq := (q + 1) % 65536 }
    let s := ethSend p 0 0 0 (le 1 2 ++ le 2 q) s
    if (s.eth p).isMaster && s.cfg 0x7100 0xA = 1 && s.bestPort = 0xFF then
      ethSend p 0 0 0 (le 1 11 ++ le 2 q) (ethSend p 0 0 0 (le 1 0 ++ le 2 q) s)
    else s

/-- PTP_MESSAGE_INTERVAL: every 1 s. -/
def execPtpMessageInterval (s : State) : Out :=
  if s.cfg 0x7100 1 = 0 then .next ((upFrom 0 2).foldl ptpInterval s) else .next s

/-! ### Q26 (R358, R359) -/

/-- TRANSMIT_TIME_STAMP: a stamp enters Q26; with 16 entries it is discarded, the flag is set, and the overflow is reported once per
setting. -/
def execTransmitTimeStamp (port sequence msgType sec ns : Nat) (s : State) : Out :=
  let c := s.clock
  if c.q26.length < 16 then
    .next { s with clock := { c with q26 := c.q26 ++ [{ port := port, sequence := sequence, msgType := msgType, sec := sec, ns := ns }] } }
  else
    let s' := { s with clock := { c with overflow := true, occurrences := inc8 c.occurrences, discarded := inc32 c.discarded } }
    if c.overflow then .next s' else .next (s'.report 0x052 0x94 .warn 0 0)

/-- 7120.03: the flag clears unless a set reaches the clear, which wins (R481); the occurrence counter is not changed (R482). -/
def effOverflowClear (race : Bool) (s : State) : State :=
  if race then { s with clock := { s.clock with overflow := true, occurrences := inc8 s.clock.occurrences, discarded := inc32 s.clock.discarded } }
  else ({ s with clock := { s.clock with overflow := false } }).clearOnce 0x052 0x94 0 0

/-- The follow-up a stamp calls for: Sync (0) a Follow_Up (8), Pdelay_Resp (3) a Pdelay_Resp_Follow_Up (10); others none. -/
def followUp (s : State) (t : TimeStamp) : State :=
  match t.msgType with
  | 0 => ethSend t.port 0 0 0 (le 1 8 ++ le 2 t.sequence ++ le 6 t.sec ++ le 4 t.ns) s
  | 3 => ethSend t.port 0 0 0 (le 1 10 ++ le 2 t.sequence ++ le 6 t.sec ++ le 4 t.ns) s
  | _ => s

/-- The PTP engine reads Q26 and sends the follow-ups (R358). -/
def drainQ26 (s : State) : State :=
  let l := s.clock.q26
  l.foldl followUp { s with clock := { s.clock with q26 := [] } }

/-! ### Objects of the clock -/

/-- 7100.01: the source is selected and the clock goes to FREE (R351, R354). -/
def effTimeSource (v : Int) (s : State) : State :=
  let s := setClock .free (s.setNum 0x7100 1 v)
  { s with clock := { s.clock with port := 0xFF, ppsEdges := 0 } }

/-- 7100.03: sets the seconds value (R351). -/
def effLocalTime (b : Bytes) (s : State) : State :=
  let d : Int := ((fieldN b 0 6 : Nat) : Int) - (s.clock.sec : Nat)
  let s := stepTime (d * 1000000000) s
  { s with clock := { s.clock with trusted := true } }

/-- 7100.03 is accepted only with source 1 or 2 (R351). -/
def condLocalTime (s : State) : Nat := if s.cfg 0x7100 1 = 0 then s.stateAbort abState else 0

/-- Symbols of 20 ns, at most 5, that bring an error of `n` ns nearest to 0. -/
def steerSymbols (n : Nat) : Nat := min 5 ((n + 9) / 20)

/-- Steering of t0 onto whole milliseconds in one cycle (R356): the guard is longer or shorter by up to 5 symbols while LOCKED or HOLDOVER and originating. -/
def State.steering (s : State) : Int :=
  if (s.clock.state = .locked || s.clock.state = .holdover) && s.ring.originating then
    (if 0 < s.clock.phase then -20 else 20) * (steerSymbols s.clock.phase.natAbs : Int)
  else 0

/-- Time passes to t0 of the next cycle: 1 ms and the steering; e and the aligned flag follow (R349, R356). -/
def advanceTime (s : State) : State :=
  let d := s.steering
  let t := splitNs (s.nowNs + 1000000 + d)
  let e := phaseOf (t.2 : Nat)
  { s with clock := { s.clock with sec := t.1, ns := t.2, t0 := t, phase := e, aligned := e.natAbs ≤ 1000 } }

/-- At the first boundary after each whole second the relation record is published (R357). -/
def publishRelation (s : State) : State :=
  if s.clock.ns < 1000000 then
    let st := match s.clock.state with
      | .free => 0 | .acquiring => 1 | .locked => 2 | .holdover => 3
    { s with clock := { s.clock with pubCycle := s.core.cycle, pubTime := s.clock.t0, relation := (st, s.clock.phase) } }
  else s

end Sys2Proof.Machine
end

