-- ==== Sys2Proof/Machine/Links.lean ====
section
/-! DEFINITION. Ethernet ports and CAN controllers (R342-R348, R363-R377): receiving, sending, link state, error states. -/

namespace Sys2Proof.Machine

open Sys2Proof

/-! ### Receiving Ethernet frames -/

/-- Whether a port's VLAN setting accepts a frame (R344). -/
def State.vlanOk (s : State) (p : Nat) (v : Option Nat) : Bool :=
  let id := s.ethCfg p 7
  match v with
  | none => id = 0 || s.ethCfg p 8 = 1
  | some t => t = 0 || (id != 0 && t = id)

/-- The kind bit of R376 of a frame. -/
def ethKind (c : EthContent) : Nat :=
  match c with
  | .ptp .. => 0 | .tls .. => 1 | .fast _ => 2 | .supervision => 3 | .arp | .icmp | .pause | .other => 4

/-- What the corrupt mask does to a frame (R376): it is valid at the link layer and fails the check of the session it belongs to; a PTP frame or
another one is no longer what it was. -/
def corruptEth (f : EthRx) : EthRx :=
  match f.content with
  | .tls n _ l => { f with content := .tls n false l }
  | .fast d => { f with content := .fast { d with tagOk := false } }
  | .ptp d _ => { f with content := .ptp d .management }
  | .arp | .icmp | .supervision | .pause | .other => { f with content := .other }

/-- Requests received of a session and not yet answered (R397). -/
def Session.outstanding (c : Session) : Nat := c.queue.length + c.order.length

/-- Put requests into Q28 while the session has fewer than 16 outstanding; those left over are answered back. -/
def takeRequests (n : Nat) : List (Nat × Pdu) → State → List (Nat × Pdu) × State
  | [], s => ([], s)
  | r :: t, s =>
    if (s.session n).outstanding < 16 then
      takeRequests n t (s.modSession n fun c => { c with queue := c.queue ++ [{ req := r.1, pdu := r.2, at_ := s.core.cycle }] })
    else (r :: t, s)

/-- Take the requests of one waiting frame as far as there is room; what is left of the frame stays (R397). -/
def pumpFrame (acc : List EthRx × State) (f : EthRx) : List EthRx × State :=
  match f.content with
  | .tls n true l =>
    if acc.2.sessOpen n then
      let (rest, s) := takeRequests n l acc.2
      (if rest.isEmpty then acc.1 else acc.1 ++ [{ f with content := .tls n true rest }], s)
    else acc
  | _ => (acc.1 ++ [f], acc.2)

/-- Read on the connections of a port: requests waiting in its receive queue enter Q28. -/
def pumpPort (s : State) (p : Nat) : State :=
  let (l, s) := (s.eth p).rx.foldl pumpFrame ([], s)
  s.modEth p fun e => { e with rx := l }

/-- A frame that has passed the link's checks is delivered by protocol, or discarded and counted (R343). -/
def deliverEth (p : Nat) (f : EthRx) (s : State) : State :=
  let keep := s.modEth p fun e => { e with rx := e.rx ++ [f] }
  match f.content with
  | .ptp _ _ => keep
  | .fast _ => keep
  | .tls n ok _ =>
    if 128 ≤ n || !s.sessOpen n then ethDiscard p s
    else if ok then pumpPort keep p
    else loseConnection n s
  | .arp => ethSend p 3 4 0 [] s
  | .icmp => ethSend p 3 4 0 [] s
  | .supervision => if s.prpOn then s else ethDiscard p s
  | .pause => ethDiscard p s
  | .other => ethDiscard p s

/-- PRP (R345): a duplicate within the entry forget time is discarded; a frame of the wrong LAN is counted. PTP carries no trailer. -/
def prpCheck (p : Nat) (f : EthRx) (s : State) : Bool × State :=
  match f.trailer with
  | none => (true, s)
  | some (src, seq, lan) =>
    if !s.prpOn || ethKind f.content = 0 then (true, s)
    else
      let g := s.links
      let g := if lan = p then g else { g with prpCounts := Tab.mod g.prpCounts (4 + p) 0 inc32 }
      let live := g.prp.filter fun e => s.since e.2.2 < s.cfg 0x7010 2
      if live.any fun e => e.1 = src && e.2.1 = seq then
        (false, { s with links := { g with prp := live, prpCounts := Tab.mod g.prpCounts 3 0 inc32 } })
      else (true, { s with links := { g with prp := live ++ [(src, seq, s.core.cycle)] } })

/-- Deliver a frame an injection held back. -/
def deliverHeldEth (s : State) (f : HeldFrame) : State :=
  match f with
  | .eth p f => deliverEth p f s
  | .can _ _ => s
  | .tether _ _ _ => s
  | .block .. | .answer .. | .relayed .. | .command .. => s

/-- ETHERNET_FRAME_RECEIVE (R342-R345, R376): length, VLAN, PRP, injection, protocol. -/
def execEthernetFrameReceive (port : Nat) (frame : EthRx) (s : State) : Out :=
  if !s.ethUp port then .next s
  else if frame.length < 64 || 1522 < frame.length || !s.vlanOk port frame.vlan then .next (ethDiscard port s)
  else
    let (fresh, s) := prpCheck port frame s
    if !fresh then .next s
    else
      let (what, s) := injectFrame (2 + port) 0 (s.ethFilter port (ethKind frame.content)) s
      let (due, s) := dueFrames (2 + port) s
      let s := match what with
        | .clean => deliverEth port frame s
        | .drop => s
        | .corrupt => deliverEth port (corruptEth frame) s
        | .reorder => holdFrame (2 + port) (.eth port frame) s
      .next (due.foldl deliverHeldEth s)

/-! ### Link state -/

/-- Source code of an Ethernet port, and of a CAN controller (R468). -/
def srcEth (p : Nat) : Nat := 0x050 + p
def srcCan (n : Nat) : Nat := 0x058 + n

/-- LINK_LOSS (R347): NOTICE on one port, host network lost on both. -/
def execLinkLoss (port : Nat) (s : State) : Out :=
  let e := s.eth port
  if e.link = 1 || e.link = 2 then
    let s := (s.modEth port fun e => { e with link := 0 }).raiseOnce (srcEth port) 0x90 .notice 0 0
    if s.ethUp (1 - port) then .next s else .next (s.raiseOnce 0x050 0x91 .warn 0 0)
  else .next s

/-- ETHERNET_LINK_UP (R342, R347): the PHY gains link, at the forced speed where one is set. -/
def execEthernetLinkUp (port speed : Nat) (s : State) : Out :=
  let e := s.eth port
  if e.fenced || !s.pd 6 || speed = 0 || 2 < speed then .next s
  else
    let v := if s.ethCfg port 6 = 0 then speed else s.ethCfg port 6
    .next (((s.modEth port fun e => { e with link := v }).clearOnce (srcEth port) 0x90 0 0).clearOnce 0x050 0x91 0 0)

/-- PRP_SUPERVISION (R345): every 2 s. -/
def execPrpSupervision (s : State) : Out := if s.prpOn then .next (ethSend 0 3 3 0 [] s) else .next s

/-! ### CAN: receiving -/

/-- Whether a receive object admits a frame (R364). -/
def State.canAdmits (s : State) (n : Nat) (f : CanRx) (o : Nat) : Bool :=
  let mask := if o < 8 then 0x1FFFFFFF else s.canObj n o 4
  s.canDir n o = 1 && (Nat.xor f.id (s.canId n o)) &&& mask = 0 && f.ext = s.canExt n o
    && (match s.canFormat n o with
        | 0 => !f.fd
        | 1 => f.fd && !f.brs
        | _ => f.fd && f.brs)

/-- The receive object that accepts a frame: the lowest enabled one that matches (R364). -/
def State.canAcceptor (s : State) (n : Nat) (f : CanRx) : Option Nat := (upFrom 0 128).find? (s.canAdmits n f)

/-- Count a frame on an object: 0x0A transferred, 0x0B abandoned or discarded (R379). -/
def canCount (n o sub : Nat) (s : State) : State :=
  s.modCan n fun c => if sub = 0x0A then { c with moved := Tab.mod c.moved o 0 inc32 } else { c with lost := Tab.mod c.lost o 0 inc32 }

/-- An accepted frame enters the receive queue, or is discarded and counted when it holds 64 (R364). -/
def canEnqueue (n o : Nat) (f : CanRx) (s : State) : State :=
  if (s.can n).rx.length < 64 then
    canCount n o 0x0A (s.modCan n fun c =>
      { c with rx := c.rx ++ [{ object := o, id := f.id, ext := f.ext, fd := f.fd, brs := f.brs, data := f.data, cycle := s.core.cycle }] })
  else canCount n o 0x0B s

/-- The channel a frame is secured on: the request channel of byte 1 for object 1, else the one bound to the object (R399, R425). -/
def State.rxChannel (s : State) (n o : Nat) (f : CanRx) : Option Nat :=
  if o = 1 then some (fieldN f.data 1 1) else s.canChannel n o

/-- A frame passes acceptance, the security check of its channel, and enters the queue. A request needs an enabled channel (R403). -/
def canTake (n : Nat) (f : CanRx) (s : State) : State :=
  match s.canAcceptor n f with
  | none => s.modCan n fun c => { c with unaccepted := inc32 c.unaccepted }
  | some o =>
    match s.rxChannel n o f with
    | none => canEnqueue n o f s
    | some ch =>
      if 64 ≤ ch || (o = 1 && !s.sessOpen (192 + ch)) then canCount n o 0x0B s
      else
        let (ok, s) := canVerify ch f s
        if ok then canEnqueue n o f s else s

/-- Deliver a CAN frame an injection held back. -/
def deliverHeldCan (s : State) (f : HeldFrame) : State :=
  match f with
  | .can n f => canTake n f s
  | .eth _ _ => s
  | .tether _ _ _ => s
  | .block .. | .answer .. | .relayed .. | .command .. => s

/-- The acceptance number an injection's filter compares with: the object that would accept the frame. -/
def State.canFilter (s : State) (n o : Nat) : Bool :=
  (s.injectCfg (4 + n) 0x10 = 0xFF || s.injectCfg (4 + n) 0x10 = o) && !(o = 0 && s.pair.phase = 4)

/-- The converter frames every unit records (R457): object-0 frames of either unit on the bus, without the trailer. -/
def recordFrame (n : Nat) (f : CanRx) (s : State) : State :=
  if s.inPair && f.fd && !f.ext && f.id = s.canId n 0 then
    let c : Cycle := BitVec.ofNat 32 (fieldN f.data 2 4)
    let newer := match s.pair.x with
      | none => true
      | some x => (c - x.cycle).toNat < 2 ^ 31 && c != x.cycle
    if newer then { s with pair := { s.pair with x := some { cycle := c, data := f.data.take 56 } } } else s
  else s

/-- The receive error counter after a frame (ISO 11898-1): one more on an error, one less on a good frame. -/
def rxErrStep (ok : Bool) (n : Nat) : Nat := if ok then (if 127 < n then 127 else n - 1) else min (n + 1) 255

/-- CAN_FRAME_RECEIVE (R363, R364, R424-R426): remote frames are discarded and counted. -/
def execCanFrameReceive (n : Nat) (frame : CanRx) (s : State) : Out :=
  if !s.canOn n || (s.can n).err = .busOff then .next s
  else
    let s := if s.canCfg n 1 = 2 then s else s.modCan n fun c =>
        let r := rxErrStep frame.ok c.rxErr
        { c with rxErr := r, err := if 127 < r || 127 < c.txErr then .passive else .active }
    if !frame.ok then .next s
    else if frame.remote then .next (s.modCan n fun c => { c with unaccepted := inc32 c.unaccepted })
    else
      let s := recordFrame n frame s
      let (what, s) := injectFrame (4 + n) 0 (s.canFilter n ((s.canAcceptor n frame).getD 0x100)) s
      let (due, s) := dueFrames (4 + n) s
      let s := match what with
        | .clean => canTake n frame s
        | .drop => s
        | .corrupt => canTake n { frame with data := corruptData (s.corruptMask (4 + n)) frame.data } s
        | .reorder => holdFrame (4 + n) (.can n frame) s
      .next (due.foldl deliverHeldCan s)

/-! ### CAN: sending -/

/-- Arbitration value of a frame: the base identifier decides first, then the standard frame wins. -/
def CanFrame.arbitration (f : CanFrame) : Nat :=
  if f.ext then f.id / 2 ^ 18 * 2 ^ 20 + 2 ^ 19 + f.id % 2 ^ 18 else f.id * 2 ^ 20

/-- Whether one pending frame goes before another (R364). -/
def CanFrame.before (a b : CanFrame) : Bool :=
  a.arbitration < b.arbitration || (a.arbitration = b.arbitration && a.object < b.object)

/-- The frame that goes first; among frames of one object the oldest. -/
def firstFrame : List CanFrame → Option CanFrame
  | [] => none
  | f :: t => match firstFrame t with
    | none => some f
    | some g => if g.before f then some g else some f

/-- Take out the first occurrence of a frame. -/
def dropFrame (f : CanFrame) : List CanFrame → List CanFrame
  | [] => []
  | g :: t => if g = f then t else g :: dropFrame f t

/-- A frame has been transferred (R367, R368): counters, acknowledge state; a converter frame counts as sent (R308). -/
def canSentFrame (n : Nat) (f : CanFrame) (s : State) : State :=
  let s := canCount n f.object 0x0A (s.modCan n fun c =>
    let t := c.txErr - 1
    { c with inTx := none, ackErrs := 0, noAck := false, txErr := t, err := if 127 < t || 127 < c.rxErr then .passive else .active })
  let s := s.clearOnce (srcCan n) 0x95 0 0
  if f.object = 0 && f.cycle = s.sawyer.frame.cycle && !s.sawyer.frameOk then
    frameSent { s with sawyer := { s.sawyer with frameOk := true } }
  else s

/-- A frame's attempt has failed: it is tried again, with the newest content of a replace-pending object, or abandoned at the limit (R366,
R367). -/
def canRetry (n : Nat) (f : CanFrame) (failed : Bool) (s : State) : State :=
  let tries := if failed then f.tries + 1 else f.tries
  let beyond := match s.canLimit n f.object with
    | none => false
    | some l => failed && l < tries
  let s := s.modCan n fun c => { c with inTx := none }
  if beyond then canCount n f.object 0x0B s
  else if s.canReplace n f.object && (s.can n).tx.any fun g => g.object = f.object then
    s.modCan n fun c => { c with tx := c.tx.map fun g => if g.object = f.object then { g with tries := tries } else g }
  else s.modCan n fun c => { c with tx := { f with tries := tries } :: c.tx }

/-- The transmit error counter after a failed attempt (R368, ISO 11898-1): an error-passive transmitter without an acknowledge stays. -/
def txErrStep (noAck : Bool) (c : CanCtl) : Nat := if noAck && 127 < c.txErr then c.txErr else c.txErr + 8

/-- An attempt without an acknowledge: after 16 in a row the module reports it (R368). -/
def canAckError (n : Nat) (s : State) : State :=
  let k := (s.can n).ackErrs + 1
  let s := s.modCan n fun c => { c with ackErrs := min k 0xFFFF, noAck := c.noAck || 16 ≤ k }
  if 16 ≤ k then s.raiseOnce (srcCan n) 0x95 .warn 0 0 else s

/-- An attempt has ended in an error. -/
def canFailed (n : Nat) (f : CanFrame) (noAck : Bool) (s : State) : State :=
  let s := s.modCan n fun c =>
    let t := txErrStep noAck c
    { c with txErr := t, err := if 127 < t || 127 < c.rxErr then .passive else .active, ackErrs := if noAck then c.ackErrs else 0 }
  canRetry n f true (if noAck then canAckError n s else s)

/-- CAN_TRANSMIT_ATTEMPT (R364, R366-R368): the frame in arbitration, or the one that goes first, is sent, loses arbitration or fails. -/
def execCanTransmitAttempt (n : Nat) (result : CanResult) (s : State) : Out :=
  if !s.canSends n || (s.can n).err = .busOff then .next s
  else
    let pick := match (s.can n).inTx with
      | some f => some f
      | none => firstFrame (s.can n).tx
    match pick with
    | none => .next s
    | some f =>
      let began := (s.can n).inTx.isNone
      let s := s.modCan n fun c => { c with inTx := some f, tx := if began then dropFrame f c.tx else c.tx }
      let (what, s) := injectFrame (4 + n) 1 (began && s.canFilter n f.object) s
      -- a dropped frame counts as sent and is not sent (R376)
      if what = .drop then .next (canSentFrame n f s)
      else match result with
        | .begun => .next s
        | .sent => .next (canSentFrame n f s)
        | .lostArbitration => .next (canRetry n f false s)
        | .error => .next (canFailed n f false s)
        | .noAck => .next (canFailed n f true s)

/-- BUS_OFF (R369): a transmit error counter above 255. Pending frames are discarded but for those of replace-pending objects. -/
def execBusOff (n : Nat) (s : State) : Out :=
  let c := s.can n
  if s.canSends n && c.err != .busOff && 255 < c.txErr then
    let all := (match c.inTx with
      | some f => [f]
      | none => []) ++ c.tx
    let gone := all.filter fun f => !s.canReplace n f.object
    let s := s.modCan n fun c =>
      { c with err := .busOff, recovering := false, offAt := some s.core.cycle, busOffs := inc32 c.busOffs, inTx := none,
               tx := all.filter fun f => s.canReplace n f.object }
    let s := gone.foldl (fun s f => canCount n f.object 0x0B s) s
    .next (s.report (srcCan n) 0x96 .warn 0 0)
  else .next s

/-- Start recovery: the controller waits for 128 occurrences of 11 recessive bits (R369). -/
def startRecovery (n : Nat) (s : State) : State :=
  if (s.can n).err = .busOff then s.modCan n fun c => { c with recovering := true, offAt := none } else s

/-- BUS_OFF_RECOVERY_DELAY (R369): the firmware's request, at most 3 in any 60 s, none with a delay of 0. -/
def execBusOffRecoveryDelay (n : Nat) (s : State) : Out :=
  let c := s.can n
  let d := s.canCfg n 0xA
  if c.err = .busOff && d != 0 && s.ran c.offAt d && (s.recent 60000 c.recent).length < 3 then
    .next (startRecovery n (s.modCan n fun c => { c with recent := s.core.cycle :: s.recent 60000 c.recent }))
  else .next s

/-- BUS_OFF_RECOVERY_COMPLETE (R369). -/
def execBusOffRecoveryComplete (n : Nat) (s : State) : Out :=
  if (s.can n).err = .busOff && (s.can n).recovering then
    .next ((s.modCan n fun c => { c with err := .active, recovering := false, txErr := 0, rxErr := 0 }).clearOnce (srcCan n) 0x96 0 0)
  else .next s

/-- ROLE_STRAP_CHANGED (R375): ignored and reported. -/
def execRoleStrapChanged (s : State) : Out :=
  if s.links.strapRead && s.core.opState != .boot && s.core.opState != .off then .next (s.report 0x020 0x9B .warn 0 0) else .next s

/-! ### Dictionary PDUs in CAN frames (R399) -/

/-- Control byte: kind, abort or last bit, segment sequence. -/
def canControl (kind : Nat) (flag : Bool) (seq : Nat) : Nat := kind * 32 + b2n flag * 16 + seq % 16

/-- Send a frame of the dictionary protocol on object 2 of the controller a session uses. -/
def canReplyFrame (n ch : Nat) (data : Bytes) (s : State) : State := canSendCounter n 2 ch data s

end Sys2Proof.Machine
end

