-- ==== Sys2Proof/Machine/Storage.lean ====
section
/-! DEFINITION. The managed storage and the MRAM journal (18 R528-R535, 05 R164-R166, 13 R386): Landing images, checkpoints, the
dictionary's persistence, journal writes, wear and failures of units. -/

namespace Sys2Proof.Machine

open Sys2Proof

/-! ### Formats of persistent blocks (R546) -/

/-- The image in a bank. -/
def State.bankImage (s : State) (bank t : Nat) : BankImage := Tab.at s.update.banks (8 * bank + t) {}

/-- The format version an image writes of block type t. -/
def BankImage.writes (i : BankImage) (t : Nat) : Nat := i.formats.getD (t - 1) 1

/-- An image reads the version it writes and the one before it. -/
def BankImage.reads (i : BankImage) (t v : Nat) : Bool := v = i.writes t || v + 1 = i.writes t

/-- The image of the control core that runs, or that BOOT starts: the one of its recorded bank. -/
def State.coreImage (s : State) : BankImage :=
  let b := (Tab.at s.update.images (if s.update.core1 then 11 else 10) {}).bank
  s.bankImage (if b = 0xFF then Tab.nat s.update.bank 4 else b) 4

/-- Format version of the stored blocks of type t. -/
def State.formatOf (s : State) (t : Nat) : Nat := Tab.at s.update.formats t 1

/-- Whether the running image reads the stored blocks of type t, or those of the kept set (R547). -/
def State.readsBlock (s : State) (t : Nat) : Bool :=
  s.coreImage.reads t (s.formatOf t) || s.update.kept.any fun k => k.1 = t && s.coreImage.reads t k.2.1

/-- Whether an image reads a journal frame's payload. -/
def BankImage.readsFrame (i : BankImage) (f : JournalFrame) : Bool := f.payload.isEmpty || i.reads 5 f.format

/-! ### Landing images -/

/-- The stateful image of the unit as of the end of the present cycle (R26, R163). -/
def State.makeImage (s : State) : Image :=
  { cycle := s.core.cycle, opState := s.core.opState, cells := s.cells, points := s.points, scaler := s.scaler, cruiser := s.cruiser,
    borer := s.borer, thin := s.thin, sawyer := s.sawyer, canopy := s.canopy, axes := s.axes, dictVals := s.dict.vals, epoch := s.dict.epoch,
    seq := s.storage.seq }

/-- The Landing captures an image: the latest two are kept (R164). -/
def captureImage (s : State) : State := { s with storage := { s.storage with landing := keepN 2 (s.makeImage :: s.storage.landing) } }

/-- The image a storage checkpoint takes: the latest Landing checkpoint, else the state as it stands. -/
def State.checkpointImage (s : State) : Image := s.storage.landing.headD s.makeImage

/-! ### Dictionary persistence (R386, R533) -/

/-- Put the values of log records over a set of values, oldest first. -/
def applyLog (set : Tab ObjVal) (log : List JournalRec) : Tab ObjVal :=
  log.foldl (fun t r => match r.value with
    | some v => Tab.put t r.key v
    | none => t) set

/-- An area with a failed read has been written afresh: it reads well again. -/
def healArea (area : Nat) (s : State) : State :=
  if s.storage.readErrors.contains area then
    let l := s.storage.readErrors.filter fun a => a != area
    let st := if s.storage.state = 2 then 2 else if l.isEmpty then 0 else 1
    { s with storage := { s.storage with readErrors := l, state := st } }.clearOnce 0x078 0xE2 5 area
  else s

/-- Refresh: the log records above the refresh point go into dictionary persistence, and the refresh point advances (R533). Until confirmation they
go into the kept set too, which then holds the same values (R547). -/
def refreshDictionary (s : State) : State :=
  let n := s.storage.log.length
  if n = 0 then s
  else
    let s := { s with storage := { s.storage with persisted := applyLog s.storage.persisted s.storage.log, log := [] } }
    healArea 6 ((wrote 6 (512 * n * if s.update.kept.any fun k => k.1 = 1 then 2 else 1) s).clearOnce 0x078 0xE4 0 0)

/-- LOG_REFRESH: 1,032 records above the refresh point (R533). -/
def execLogRefresh (s : State) : Out :=
  if 1032 ≤ s.storage.log.length && s.storageOk then .next (refreshDictionary s) else .next s

/-- Write a storage checkpoint, eight in rotation, with the dictionary's refresh (R164, R528, R533). -/
def storeCheckpoint (s : State) : State :=
  let (n, s) := drawInt s
  let s := { s with storage := { s.storage with checkpoints := keepN 8 (s.checkpointImage :: s.storage.checkpoints), lastCp := s.core.cycle } }
  refreshDictionary (healArea 5 ((wrote 5 (n.toNat % 270337) s).clearOnce 0x078 0xE8 0 0))

/-- Payload of part j of a SoC snapshot (R202): 28 cells, 8 in part 18. -/
def snapshotPart (img : Image) (j : Nat) : Bytes :=
  let ks := upFrom (28 * j + 1) (if j = 18 then 8 else 28)
  le 1 0x32 ++ le 1 j ++ le 2 (28 * j + 1) ++ le 4 img.cycle.toNat ++ leI 8 img.scaler.q ++ leI 4 img.scaler.i
    ++ le 1 (if j = 0 then (qdiv (img.scaler.usable * 200) (2 ^ 30)).toNat else 0) ++ le 3 0
    ++ ks.flatMap fun k =>
      let c := Tab.at img.cells k {}
      leI 4 c.soc ++ leI 4 c.socC ++ leI 4 c.unc ++ leI 4 c.lastV

/-- A SoC snapshot of the latest Landing image is queued, written by the active unit alone (R202). -/
def queueSnapshot (s : State) : State :=
  if s.countsActive then
    (upFrom 0 19).foldl (fun s j => s.journal (513 + j) 0x32 (snapshotPart s.checkpointImage j)) s
  else s

/-- The active unit of a pair sends its learned impedance tables with each storage checkpoint (R449). -/
def sendTables (s : State) : State := if s.inPair && s.countsActive && s.paired then tetherSend .configuration s else s

/-- STORAGE_CHECKPOINT: every 60 s, at SLEEP entry and before a core hand-over (R164); `failed` = its write failed (R552). -/
def execStorageCheckpoint (failed : Bool) (s : State) : Out :=
  if !s.storageOk then .next s
  else if failed then .next (s.raiseOnce 0x078 0xE8 .warn 0 0)
  else .next (sendTables (storeCheckpoint s))

/-! ### The journal (R531-R534) -/

/-- The slot's value: its valid frame with the higher sequence (R533). -/
def FixedSlot.newest (f : FixedSlot) : Option JournalFrame :=
  if f.f0.valid && f.f1.valid then some (if f.f1.seq < f.f0.seq then f.f0 else f.f1)
  else if f.f0.valid then some f.f0
  else if f.f1.valid then some f.f1
  else none

/-- Overwrite the frame that failed, else the one with the lower sequence (R533). -/
def FixedSlot.write (f : FixedSlot) (n : JournalFrame) : FixedSlot :=
  if !f.f0.valid then { f with f0 := n }
  else if !f.f1.valid then { f with f1 := n }
  else if f.f1.seq < f.f0.seq then { f with f1 := n }
  else { f with f0 := n }

/-- A fixed slot. -/
def State.fixedSlot (s : State) (n : Nat) : FixedSlot := Tab.at s.storage.fixed n {}

/-- The commit record is complete: the new epoch's values join dictionary persistence, the set before becomes the previous one (R386). -/
def commitRecorded (s : State) : State :=
  match s.storage.newSet with
  | none => s
  | some (n, c, v) =>
    { s with storage := { s.storage with previous := s.storage.persisted, epoch := (n, c), newSet := none,
                                         persisted := v.foldl (fun t e => Tab.put t e.1 e.2) s.storage.persisted } }

/-- Write a record to its fixed slot; a cut-off write leaves a failed frame (R532, R533). -/
def writeFixed (slot : Nat) (r : JournalRec) (cut : Bool) (s : State) : State :=
  let n := s.storage.seq + 1
  let f : JournalFrame := { valid := !cut, seq := n, kind := r.kind, format := s.coreImage.writes 5, payload := r.payload }
  let s := { s with storage := { s.storage with fixed := Tab.put s.storage.fixed slot ((s.fixedSlot slot).write f),
                                                seq := if cut then s.storage.seq else n } }
  if slot = 532 && !cut then commitRecorded s else s

/-- Write a record to the log: valid once either copy is; the response follows copy 1 (R533, R392). `cut` = 1 in copy 0, 2 in copy 1. -/
def writeLog (r : JournalRec) (cut : Nat) (s : State) : State :=
  if cut = 1 then s
  else
    let n := s.storage.seq + 1
    let s := { s with storage := { s.storage with log := s.storage.log ++ [{ r with seq := n, format := s.coreImage.writes 5, release := none }], seq := n } }
    match cut, r.release with
    | 0, some a => s.answer a
    | _, _ => s

/-- Queue a dictionary record (R386): type code, index, subindex, length, effective cycle, value; `release` is the response that waits for
it. -/
def queueDictionary (idx sub ty : Nat) (shown : Bytes) (v : ObjVal) (effective : Cycle) (release : Option Response) (s : State) : State :=
  let p := le 1 0x21 ++ le 1 ty ++ le 2 idx ++ le 1 sub ++ le 1 0 ++ le 2 shown.length ++ le 4 effective.toNat ++ shown
  let r : JournalRec := { slot := none, kind := 0x21, payload := p, key := okey idx sub, value := some v, cycle := s.core.cycle, release := release }
  { s with storage := { s.storage with queue := s.storage.queue ++ [r] } }

/-- A learning step is lost: report, count, record with the cause byte (R205, R549). -/
def lostStep (k cause : Nat) (s : State) : State :=
  (countEst 4 (s.report (s.laneSrc k) 0x59 .notice 1 k)).tellEvent 0x0020 7 k (le 1 cause)

/-! ### Wear and failures (R166, R530) -/

/-- WEAR_SWAP: erase counts more than 2,000 apart: the least-written unit's content moves into the most-worn unit (R166). -/
def execWearSwap (s : State) : Out :=
  if !s.storageOk || s.eraseSpread ≤ 2000 then .next s
  else match leastWorn s s.liveUnits, mostWorn s s.liveUnits with
    | some a, some b =>
      let pa := s.physical a
      let pb := s.physical b
      let s := eraseUnit b 1 s
      .next (noteSpread { s with cruiser := { s.cruiser with unitMap := Tab.put (Tab.put s.cruiser.unitMap a pb) b pa } })
    | _, _ => .next s

/-- Retire a unit: a spare one takes its place, with record and reports (R166, R530). -/
def retireUnit (u : Nat) (s : State) : State :=
  let p := s.physical u
  let area := areaOf u
  let spare := leastWorn s ((upFrom 1952 96).filter fun v => !s.cruiser.retired.contains (s.physical v) && v != u)
  let left := s.cruiser.spare - 1
  let s := (s.report 0x078 0xE1 .notice 5 area).tellEvent 0x0090 8 area (le 2 p ++ le 4 (s.erasesOf p))
  let map := match spare with
    | some v => Tab.put (Tab.put s.cruiser.unitMap u (s.physical v)) v p
    | none => s.cruiser.unitMap
  let s := { s with cruiser := { s.cruiser with retired := p :: s.cruiser.retired, unitMap := map, spare := left },
                    storage := { s.storage with retired := inc16 s.storage.retired } }
  if left < 16 then s.raiseOnce 0x038 0xB3 .warn 0 0 else s

/-- An uncorrectable read of an area: what stands in for it (R530). -/
def fallBack (area : Nat) (s : State) : State :=
  let st := s.storage
  match area with
  | 0 | 1 =>
    { s with storage := { st with bankBad := Tab.put st.bankBad area true },
             update := { s.update with banks := s.update.banks.filter fun e => e.1 / 8 != area } }
  | 5 => { s with storage := { st with checkpoints := st.checkpoints.tail } }
  | 6 => { s with storage := { st with persisted := st.previous } }
  | _ => s

/-- STORAGE_UNIT_FAILURE: a program, erase (unit given) or uncorrectable read (area given) fails (R530). -/
def execStorageUnitFailure (read : Bool) (n : Nat) (s : State) : Out :=
  if !s.storageOk then .next s
  else if read then
    if n ≤ 6 then
      let s := fallBack n s
      let l := if s.storage.readErrors.contains n then s.storage.readErrors else n :: s.storage.readErrors
      .next ({ s with storage := { s.storage with readErrors := l, state := 1 } }.raiseOnce 0x078 0xE2 .warn 5 n)
    else .next s
  else if n < 2048 && !s.cruiser.retired.contains (s.physical n) then .next (retireUnit n s)
  else .next s

end Sys2Proof.Machine
end

