-- ==== Sys2Proof/Machine/UpdateOps.lean ====
section
/-! DEFINITION. A field update's bookkeeping (18 R540, R544, R545, R548-R550): its cycles, what is unconfirmed, the update state of the
journal, and the rollback the module starts on its own. -/

namespace Sys2Proof.Machine

open Sys2Proof

/-- The first cycle at least `n` ahead whose number mod 1,000 is 500 (Ha of R540, Hc of R544). -/
def State.firstHalf (s : State) (n : Nat) : Cycle :=
  let c := (s.ahead n).toNat
  BitVec.ofNat 32 (c + (1500 - c % 1000) % 1000)

/-- Whether an update or an advance of G waits for confirmation (R548). -/
def State.unconfirmed (s : State) : Bool := s.update.confirmFrom.isSome

/-- Whether steps of an update remain to be run (R542). -/
def State.updateRuns (s : State) : Bool := s.update.next != 0

/-- Bank in force for a lane. -/
def State.laneBank (s : State) (l : Nat) : Nat := Tab.nat s.update.laneBank l

/-- Bank in force for an image type as 9812 shows it: 0xFF when the lanes differ. -/
def State.bankOf (s : State) (t : Nat) : Nat :=
  if t = 2 then (if (upFrom 1 7).all fun l => s.laneBank l = s.laneBank 0 then s.laneBank 0 else 0xFF) else Tab.nat s.update.bank t

/-- Queue the update state for slot 662: the bank in force of each type and of each lane (R545). -/
def journalUpdate (s : State) : State :=
  s.journal 662 0x25 ((upFrom 1 4).flatMap (fun t => le 1 (s.bankOf t)) ++ (upFrom 0 8).flatMap fun l => le 1 (s.laneBank l))

/-- Versions in force as Tally records name them (R553). -/
def State.versions (s : State) : Bytes := (upFrom 1 4).flatMap fun t => le 4 (Tab.at s.update.running t (0, 0)).1

/-- Schedule a change of G for the boundary before Ha, and tell the partner (R540). -/
def scheduleGeneration (g : Nat) (s : State) : State :=
  let h := s.firstHalf 2000
  replicate (.generation g) h { s with update := { s.update with ha := some (h, g) } }

/-- Begin a rollback (R549): a raised G is lowered first, then the steps run in reverse. -/
def beginRollback (auto : Bool) (s : State) : State :=
  let s := { s with update := { s.update with reverse := true, paused := false, started := false, next := 11, auto := auto, ha := none,
                                              coreReady := false } }
  if s.update.oldG < s.update.g then scheduleGeneration s.update.oldG s else s

/-- The module rolls back on its own (R550). -/
def rollBackOwn (s : State) : State :=
  if s.update.reverse || !(s.unconfirmed || s.updateRuns) then s
  else (beginRollback true s).raiseOnce 0x079 0xE7 .warn 0 0

/-- A watchdog expiry within 1,000 cycles after Hc (R550): the next BOOT starts the previous control core image. -/
def watchdogAfterHandOver (s : State) : State :=
  if s.update.started && s.update.step = 11 && s.update.idleLoaded && s.since s.update.hc < 1000 then
    rollBackOwn { s with update := { s.update with core1 := !s.update.core1, idleLoaded := false } }
  else s

end Sys2Proof.Machine
end

