-- ==== Sys2Proof/Machine/Update.lean ====
section
/-! DEFINITION. Images, staging and the field update (18 R536-R551). -/

namespace Sys2Proof.Machine

open Sys2Proof

/-! ### Images (R536-R539) -/

/-- Processor an update step concerns: 1 the Lookout (0), 2-9 the lanes (1-8), 10 the Yarder (9), 11 the idle core (10, 11). -/
def State.stepProc (s : State) (i : Nat) : Nat := if i ≤ 10 then i - 1 else if s.update.core1 then 10 else 11

/-- Whether an image of generation g is started (R539). -/
def State.startsGen (s : State) (g : Nat) : Bool := g = s.update.g || g = s.update.g + 1 || (s.update.reverse && g + 1 = s.update.g)

/-- The vault's check of an image (R410, R537): the signature over its header under the vendor image anchor, then the body, whose digest as the bank
reads now is `body`, against the header's. -/
def BankImage.verifies (i : BankImage) (body : Digest) : Bool :=
  Config.ecdsaVerify Config.imageAnchor (Config.sha256 i.header) i.signature && body = i.measure

/-- The image that a boot from a bank starts, none when it is rejected (R537, R539). -/
def verifyImage (bank t : Nat) (body : Digest) (s : State) : Option BankImage :=
  let i := s.bankImage bank t
  if i.verifies body && !Tab.flag s.storage.bankBad bank && s.startsGen i.gen then some i else none

/-- Bank the present step moves its image to. -/
def State.stepBank (s : State) : Nat := if s.update.reverse then 1 - s.update.target else s.update.target

/-- Bank recorded for a processor (R545). -/
def State.recordedBank (s : State) (p : Nat) : Nat :=
  if 1 ≤ p && p ≤ 8 then s.laneBank (p - 1) else Tab.nat s.update.bank (imageType p)

/-- Record the bank in force of a processor. -/
def recordBank (p bank : Nat) (s : State) : State :=
  let u := s.update
  journalUpdate (if 1 ≤ p && p ≤ 8 then { s with update := { u with laneBank := Tab.put u.laneBank (p - 1) bank } }
                 else { s with update := { u with bank := Tab.put u.bank (imageType p) bank } })

/-- Address of an image in messages: its type, or the lane plus 0x10 (R552). -/
def imageAddr (p : Nat) : Nat := if 1 ≤ p && p ≤ 8 then p - 1 + 0x10 else imageType p

/-- An image is rejected (R537): message and record. -/
def rejectImage (p bank : Nat) (s : State) : State :=
  (s.raiseOnce 0x079 0xE5 .warn 5 (imageAddr p)).tellEvent 0x0090 3 (imageType p)
    (le 4 (s.bankImage bank (imageType p)).version ++ le 1 bank ++ le 3 0)

/-- A processor starts an image: 9810, 9811 and the record that attestation shows. -/
def startImage (p bank : Nat) (i : BankImage) (s : State) : State :=
  let u := s.update
  let run := if p = 10 || p = 11 then (if (p = 11) = u.core1 then Tab.put u.running 4 (i.version, i.gen) else u.running)
             else Tab.put u.running (imageType p) (i.version, i.gen)
  { s with update := { u with images := Tab.put u.images p { version := i.version, gen := i.gen, bank := bank, measure := i.measure },
                              running := run } }

/-- A processor stays stopped: both images failed. A lane that does not run is fenced (R159: its self-test decides). -/
def stopProcessor (p : Nat) (s : State) : State :=
  let s := { s with update := { s.update with images := Tab.mod s.update.images p {} fun i => { i with bank := 0xFF } } }
  if 1 ≤ p && p ≤ 8 then s.report (0x030 + p - 1) 0x51 .degrade 0 0 else s

/-- Boot a processor from a bank, or from the other one when its image is rejected (R537). -/
def bootImage (p bank : Nat) (body other : Digest) (s : State) : State :=
  let t := imageType p
  match verifyImage bank t body s with
  | some i => (startImage p bank i s).clearOnce 0x079 0xE5 5 (imageAddr p)
  | none =>
    let s := rejectImage p bank s
    match verifyImage (1 - bank) t other s with
    | some i => startImage p (1 - bank) i s
    | none => stopProcessor p (rejectImage p (1 - bank) s)

/-- Whether a processor boots its image now because of the update's step in progress. -/
def State.stepBoots (s : State) (p : Nat) : Bool :=
  s.update.started && s.stepProc s.update.step = p && !s.update.coreReady
    && (p = 0 || 9 ≤ p || Tab.at s.cruiser.lanes (p - 1) .active = .drained)

/-- Whether a processor boots now because the module does. -/
def State.moduleBoots (s : State) (p : Nat) : Bool :=
  s.starting && (Tab.at s.update.images p {}).bank = 0xFF && (p < 10 || (p = 11) = s.update.core1)

/-- Block type x migrates: the old blocks become the kept set, the new ones stand in the version the image writes (R547). -/
def migrateBlock (i : BankImage) (s : State) (x : Nat) : State :=
  let u := s.update
  let old := s.formatOf x
  if old = i.writes x then s
  else { s with update := { u with kept := u.kept ++ [(x, old, i.writes x)], formats := Tab.put u.formats x (i.writes x) } }.tellEvent
    0x0090 4 x (le 2 old ++ le 2 (i.writes x))

/-- What the control core's image does at its first start: blocks that it writes in another version migrate (R546, R547). -/
def migrate (i : BankImage) (s : State) : State := (upFrom 1 5).foldl (migrateBlock i) s

/-- The processor that runs an image type as its `number`th: the Lookout 0, the lanes 1 to 8, the Yarder 9, the cores 10 and 11 (R536). -/
def processorOf (type number : Nat) : Option Nat :=
  match type with
  | 1 => if number = 0 then some 0 else none
  | 2 => if number < 8 then some (1 + number) else none
  | 3 => if number = 0 then some 9 else none
  | 4 => if number < 2 then some (10 + number) else none
  | _ => none

/-- A processor boots an image (R537). `body` and `other` are the digests of the bodies that the wanted bank and the other bank
read now. -/
def bootProcessor (processor : Nat) (body other : Digest) (s : State) : Out :=
  if s.stepBoots processor then
    let s := bootImage processor s.stepBank body other s
    if (Tab.at s.update.images processor {}).bank != s.stepBank then .next s
    else
      if processor = 9 then .next { s with cruiser := { s.cruiser with portsPending := true } }
      else if 10 ≤ processor then
        let s := if s.update.reverse then s else migrate (s.bankImage s.stepBank 4) s
        .next { s with update := { s.update with coreReady := true, hc := s.firstHalf 2000 } }
      else .next s
  else if s.moduleBoots processor then
    let b := s.recordedBank processor
    let s := bootImage processor b body other s
    let n := (Tab.at s.update.images processor {}).bank
    .next (if n = b || n = 0xFF then s else recordBank processor n s)
  else .next s

/-- IMAGE_VERIFICATION (R537): the processor that runs the type as its `number`th boots an image. -/
def execImageVerification (type number : Nat) (body other : Digest) (s : State) : Out :=
  match processorOf type number with
  | some p => bootProcessor p body other s
  | none => .next s

/-! ### Staging (R541) -/

/-- The bank that runs no image. -/
def State.idleBank (s : State) : Nat := 1 - Tab.nat s.update.bank 4

/-- Whether a session is a TLS session (1100.02). -/
def State.isTls (s : State) (sess : Nat) : Bool := (s.session sess).transport ≤ 1

/-- Conditions common to the writes of 9820 (R530, R541). -/
def condStaging (sess : Nat) (s : State) : Nat :=
  if !s.isTls sess then abTransport
  else if s.updateRuns || s.unconfirmed then 0x0A050000
  else if !s.storageOk then abStorage
  else 0

/-- Effect of a write to 9820.02: staging begins and the inactive bank is invalid. -/
def effPackageLength (n : Nat) (s : State) : State :=
  let b := s.idleBank
  { s with storage := { s.storage with bankBad := Tab.put s.storage.bankBad b true },
           update := { s.update with banks := s.update.banks.filter (fun e => e.1 / 8 != b), staging := 1, length := n, received := 0,
                                     data := [], result := 0 } }

/-- Condition of a chunk: staging begun, its offset next in order, its length as stated, within the package. -/
def condChunk (sess : Nat) (v : ObjVal) (s : State) : Nat :=
  let b := v.toBytes
  let off := fieldN b 0 4
  let n := fieldN b 4 4
  if condStaging sess s != 0 then condStaging sess s
  else if s.update.staging != 1 then 0x0A060000
  else if b.length < 8 || off != s.update.received || n != b.length - 8 || s.update.length < off + n then
    abortArg 0x0A010000 off
  else 0

/-- Effect of a chunk. -/
def effChunk (v : ObjVal) (s : State) : State :=
  let d := v.toBytes.drop 8
  wrote s.idleBank d.length { s with update := { s.update with data := s.update.data ++ d, received := s.update.received + d.length } }

/-- An image in a package: offset of its header, type, generation, version, body length, body digest, hardware issue. -/
structure PackImage where
  at_ : Nat
  type : Nat
  gen : Nat
  version : Nat
  body : Nat
  digest : Nat
  issue : Nat
deriving DecidableEq, Repr

/-- Largest body of an image type (R536). -/
def maxBody : Nat → Nat
  | 1 => 65536 | 2 => 262144 | 3 => 131072 | 4 => 25165824 | _ => 0

/-- Read up to `n` image headers from offset `o`, or the offset of the first fault (R541, R554). -/
def readPackage (b : Bytes) : Nat → Nat → List Nat → Except Nat (List PackImage)
  | 0, o, _ => if o = b.length then .ok [] else .error o
  | n + 1, o, seen =>
    if o = b.length then (if seen.isEmpty then .error o else .ok [])
    else if b.length < o + 128 || slice b o 4 != strBytes 4 "ZSIM" || fieldN b (o + 4) 1 != 1 then .error o
    else
      let t := fieldN b (o + 5) 1
      let len := fieldN b (o + 12) 4
      if t = 0 || 4 < t || seen.contains t then .error (o + 5)
      else if maxBody t < len || b.length < o + 128 + len then .error (o + 12)
      else
        match readPackage b n (o + 128 + len) (t :: seen) with
        | .error e => .error e
        | .ok l => .ok ({ at_ := o, type := t, gen := fieldN b (o + 6) 2, version := fieldN b (o + 8) 4, body := len,
                          digest := fieldN b (o + 16) 32, issue := fieldN b (o + 48) 2 } :: l)

/-- Images numbered from 1. -/
def numbered (l : List PackImage) : List (Nat × PackImage) := (upFrom 1 l.length).zip l

/-- The first failure of the checks of a package, as an abort code: digest, headers, body digests, hardware issue, generation (R541). -/
def packageFault (digest : Nat) (s : State) : Nat × List PackImage :=
  let b := s.update.data
  if s.update.received != s.update.length then (abortArg 0x0A010000 s.update.received, [])
  else if (Config.sha256 b).toNat != digest then (0x0A020000, [])
  else match readPackage b 4 0 [] with
    | .error o => (abortArg 0x0A010000 o, [])
    | .ok l =>
      match (numbered l).find? fun e => (Config.sha256 (slice b (e.2.at_ + 128) e.2.body)).toNat != e.2.digest with
      | some e => (0x0A020000 + e.1, [])
      | none =>
        match (numbered l).find? fun e => unle (Config.manufacture (okey 0x1000 5)) % 2 ^ 16 < e.2.issue with
        | some e => (0x0A030000 + e.1, [])
        | none =>
          match l.find? fun i => i.gen != s.update.g && i.gen != s.update.g + 1 with
          | some i => (0x0A040000 + i.type, [])
          | none => (0, l)

/-- Condition of a write to 9820.03. -/
def condDigest (sess : Nat) (v : ObjVal) (s : State) : Nat :=
  if condStaging sess s != 0 then condStaging sess s
  else if v.toBytes.length != 32 then abLength
  else if s.update.staging != 1 then 0x0A060000
  else 0

/-- Effect of a write to 9820.03: the checks; the staged bank is completed from the active one, or stays invalid (R541). -/
def effDigest (sess : Nat) (v : ObjVal) (s : State) : State :=
  let (code, l) := packageFault (unle v.toBytes) s
  if code != 0 then { s with update := { s.update with staging := 3, result := BitVec.ofNat 32 code, data := [] } }
  else
    let b := s.idleBank
    let img := fun (t : Nat) => match l.find? fun i => i.type = t with
      | some i =>
        let d := s.update.data
        let m : Digest := BitVec.ofNat 256 i.digest
        ({ version := i.version, gen := i.gen, measure := m, header := slice d i.at_ 64, signature := slice d (i.at_ + 64) 64,
           formats := (upFrom 1 5).map (Config.blockFormat m) } : BankImage)
      | none => s.bankImage (1 - b) t
    let banks := (upFrom 1 4).foldl (fun t k => Tab.put t (8 * b + k) (img k)) s.update.banks
    let s := { s with update := { s.update with staging := 2, result := 0, data := [], banks := banks },
                      storage := { s.storage with bankBad := Tab.put s.storage.bankBad b false } }
    healArea b (s.tellEvent 0x0090 1 sess (slice v.toBytes 0 32))

/-! ### Update requests, 9830.02 (R540, R542, R548, R549) -/

/-- The first image type of this unit, or of its partner, that is not at G + 1 (R540); the partner's are known from its CONFIGURATION. -/
def State.notAtNext (s : State) : Option Nat :=
  let own := (upFrom 1 4).find? fun t => (Tab.at s.update.running t (0, 0)).2 != s.update.g + 1
  let other := if s.inPair then (upFrom 1 4).find? fun t => Tab.find s.pair.gens t != some (s.update.g + 1) else none
  match own with
  | some t => some t
  | none => other

/-- Condition of a write of `v` to 9830.02. -/
def condUpdate (v : Nat) (s : State) : Nat :=
  let u := s.update
  match v with
  | 0 => 0
  | 1 =>
    if s.updateRuns then (if u.paused && !u.started then 0 else 0x0A050000)
    else if s.unconfirmed then 0x0A050000
    else if !s.storageOk then abStorage
    else if u.staging != 2 || Tab.flag s.storage.bankBad s.idleBank then 0x0A060000
    else 0
  | 2 =>
    if s.inPair && s.countsStandby then abStandby
    else if u.ha.isSome || (s.updateRuns && !u.paused) then 0x0A050000
    else match s.notAtNext with
      | some t => 0x0A070000 + t
      | none => 0
  | 3 => if s.updateRuns && !u.paused then 0x0A050000 else if s.unconfirmed then 0 else 0x0A080000
  | 4 => if !s.unconfirmed && !s.updateRuns then 0x0A080000 else if u.reverse || u.started then 0x0A050000 else 0
  | _ => abRange

/-- A first start of an update: what a rollback returns to is noted. -/
def startUpdate (s : State) : State :=
  let u := s.update
  { s with update := { u with next := 1, reverse := false, started := false, paused := false, auto := false, target := s.idleBank,
                              oldG := u.g, old := u.running, restarts := 0, skipped := 0, last := 0, kept := [], idleLoaded := false } }

/-- Confirmation: the kept set is freed, the new banks are the only ones, staging is permitted (R548). -/
def confirmUpdate (s : State) : State :=
  let u := s.update
  let b := if s.unconfirmed && u.step != 0 then u.target else Tab.nat u.bank 4
  let s := { s with update := { u with kept := [], confirmFrom := none, next := 0, started := false, paused := false, step := 13,
                                       staging := 0, last := 0,
                                       bank := (upFrom 1 4).foldl (fun t k => Tab.put t k b) u.bank,
                                       laneBank := (upFrom 0 8).foldl (fun t l => Tab.put t l b) u.laneBank } }
  (journalUpdate (s.tellEvent 0x0090 6 0 s.versions)).clearOnce 0x079 0xE7 0 0

/-- Effect of a write of `v` to 9830.02. -/
def effUpdate (v : Nat) (s : State) : State :=
  let u := s.update
  match v with
  | 0 => if s.updateRuns then { s with update := { u with paused := true, step := if u.started then u.step else 15 } } else s
  | 1 => if s.updateRuns then { s with update := { u with paused := false } } else startUpdate s
  | 2 => scheduleGeneration (u.g + 1) s
  | 3 => confirmUpdate s
  | _ => beginRollback false s

/-- A change of G at its boundary (R540, R549): conversion, record, and a raised G starts the confirmation period. -/
def applyGeneration (s : State) : State :=
  match s.update.ha with
  | none => s
  | some (h, g) =>
    if h != s.ahead 1 then s
    else
      let u := s.update
      let up := u.g < g
      let s := s.tellEvent 0x0090 5 g (le 2 u.g ++ le 4 h.toNat)
      { s with update := { u with g := g, ha := none,
                                  oldG := if up && u.confirmFrom.isNone then u.g else u.oldG,
                                  old := if up && u.confirmFrom.isNone then u.running else u.old,
                                  kept := if up then u.kept ++ [(0, u.g, g)] else u.kept,
                                  confirmFrom := if up then some s.power.opTime else u.confirmFrom } }

/-! ### Steps (R542-R545) -/

/-- The states in which a step starts. -/
def State.stepState (s : State) : Bool :=
  match s.core.opState with
  | .isolated | .online | .derated | .service | .tripped | .lockout => true
  | .off | .boot | .precheck | .closing | .tripping | .sleep => false

/-- Whether a pair hand-over is between acceptance and H + 99. -/
def State.handingOver (s : State) : Bool := 1 ≤ s.pair.phase && s.pair.phase ≤ 4

/-- Whether a step is skipped: forward, its processor already runs the staged version; in reverse, its bank is the old one. -/
def State.skipsStep (s : State) (i : Nat) : Bool :=
  let p := s.stepProc i
  let t := imageType p
  if s.update.reverse then s.recordedBank p = 1 - s.update.target
  else
    let v := if 1 ≤ p && p ≤ 8 then (Tab.at s.update.images p {}).version else (Tab.at s.update.running t (0, 0)).1
    v = (s.bankImage s.update.target t).version

/-- The steps from `i` on in the present direction. -/
def State.stepsFrom (s : State) (i : Nat) : List Nat := if s.update.reverse then (upFrom 1 i).reverse else upFrom i (12 - i)

/-- The next step that is not skipped. -/
def State.findStep (s : State) (i : Nat) : Option Nat := (s.stepsFrom i).find? fun j => !s.skipsStep j

/-- The last step is done: unconfirmed, or rolled back (R548, R549). -/
def finishUpdate (s : State) : State :=
  let u := s.update
  if u.reverse then
    let s := { s with update := { u with next := 0, step := 14, reverse := false, auto := false, paused := false, kept := [], confirmFrom := none,
                                         last := 0 } }
    (s.tellEvent 0x0090 7 0 s.versions).clearOnce 0x079 0xE7 0 0
  else { s with update := { u with next := 0, step := 12, paused := false, last := 0, confirmFrom := some s.power.opTime } }

/-- The partner learns by CONFIGURATION whether a step is running, and the generations of the images (R540, R551). -/
def tellStep (s : State) : State := if s.paired then tetherSend .configuration s else s

/-- A step starts on its processor. -/
def startStep (i : Nat) (s : State) : State :=
  let s := tellStep { s with update := { s.update with step := i, next := i, started := true, since := s.core.cycle, coreReady := false } }
  if i = 1 then { s with update := { s.update with images := Tab.mod s.update.images 0 {} fun r => { r with bank := 0xFF } } }
  else if i ≤ 9 then { s with cruiser := { s.cruiser with lanes := Tab.put s.cruiser.lanes (i - 2) .draining } }
  else if i = 11 && s.update.reverse && s.update.idleLoaded then
    { s with update := { s.update with coreReady := true, idleLoaded := false, hc := s.firstHalf 2000 } }
  else if i = 11 then { s with update := { s.update with idleLoaded := false } }
  else s

/-- Whether another lane is out of service, which forbids a lane step (R161, R543). -/
def State.laneOut (s : State) : Bool := (upFrom 0 8).any fun l => Tab.at s.cruiser.lanes l .active != .active

/-- UPDATE_STEP: the next step starts where R542 allows it; steps of equal versions are skipped. -/
def execUpdateStep (s : State) : Out :=
  let u := s.update
  if !s.updateRuns || u.started || u.paused || u.ha.isSome then .next s
  else if !s.stepState || s.power.onBackup || s.handingOver || !s.storageOk then .next s
  else match s.findStep u.next with
    | none => .next (finishUpdate s)
    | some i => if 2 ≤ i && i ≤ 9 && s.laneOut then .next s else .next (startStep i s)

/-- Whether the step in progress has reached what R542 calls done. -/
def State.stepDone (s : State) : Bool :=
  let i := s.update.step
  let r := (Tab.at s.update.images (s.stepProc i) {}).bank = s.stepBank
  if i = 1 then r
  else if i ≤ 9 then r && Tab.at s.cruiser.lanes (i - 2) .active = .drained
  else if i = 10 then r && !s.cruiser.portsPending
  else s.update.idleLoaded && 1000 ≤ s.since s.update.hc && s.since s.update.hc < 2 ^ 31

/-- Whether the step's processor came back on its old image. -/
def State.stepRejected (s : State) : Bool :=
  s.update.step ≤ 10 && (Tab.at s.update.images (s.stepProc s.update.step) {}).bank = 1 - s.stepBank
    && (s.update.step = 1 || s.update.step = 10 || Tab.at s.cruiser.lanes (s.update.step - 2) .active = .drained)

/-- A lane of a step returns to service. -/
def returnLane (s : State) : State :=
  let i := s.update.step
  if 2 ≤ i && i ≤ 9 && Tab.at s.cruiser.lanes (i - 2) .active != .fenced then
    { s with cruiser := { s.cruiser with lanes := Tab.put s.cruiser.lanes (i - 2) .active } }
  else s

/-- The step stops the update (R543): update aborted with the code that it reports (9830.08), the step to be run again on a resume. -/
def abortStep (code : Nat) (s : State) : State :=
  let i := s.update.step
  let s := returnLane s
  { s with update := { s.update with started := false, paused := true, step := 15, coreReady := false, last := BitVec.ofNat 32 code } }.raiseOnce
    0x079 0xE6 .warn 5 i |> tellStep

/-- Cells whose learned-value record the core's image in bank b does not read. -/
def State.unreadCells (s : State) (b : Nat) : List Nat :=
  (s.storage.fixed.filter fun e => 1 ≤ e.1 && e.1 ≤ 512 && e.2.newest.any fun f => !(s.bankImage b 4).readsFrame f).map fun e => e.1

/-- Journal records that the core's image in bank b does not read. -/
def State.unreadRecords (s : State) (b : Nat) : Nat :=
  (s.storage.fixed.filter fun e => e.2.newest.any fun f => !(s.bankImage b 4).readsFrame f).length
    + (s.storage.log.filter fun r => !(s.bankImage b 4).reads 5 r.format).length

/-- The previous control core image resumes from the kept set: what it cannot read of the journal is skipped and counted, and a skipped learned-value
record is a lost learning step (R549). -/
def resumeKept (s : State) : State :=
  let b := s.stepBank
  let u := s.update
  (s.unreadCells b).foldl (fun s k => lostStep k 0 s)
    { s with update := { u with skipped := add32 u.skipped (s.unreadRecords b),
                                formats := u.kept.foldl (fun t k => if k.1 = 0 then t else Tab.put t k.1 k.2.1) u.formats } }

/-- The step is complete: bank in force recorded, record, next step (R545, R553). -/
def completeStep (s : State) : State :=
  let i := s.update.step
  let p := if i = 11 then (if s.update.core1 then 11 else 10) else s.stepProc i
  let b := s.stepBank
  let t := imageType p
  let s := recordBank p b (returnLane s)
  let s := s.tellEvent 0x0090 2 i (le 4 (s.bankImage (1 - b) t).version ++ le 4 (s.bankImage b t).version ++ le 1 b ++ le 3 0)
  let s := if s.update.reverse && i = 11 then resumeKept s else s
  let s := tellStep
    ({ s with update := { s.update with started := false, coreReady := false, confirmFrom := some s.power.opTime } }.clearOnce 0x079 0xE6 5 i)
  match (s.stepsFrom i).tail.find? fun j => !s.skipsStep j with
  | none => finishUpdate s
  | some j => { s with update := { s.update with next := j, step := if s.update.paused then 15 else i } }

/-- UPDATE_STEP_COMPLETE (R542, R545): the step in progress is done or has failed (`ok` false) with a code; another step's report changes nothing. -/
def execUpdateStepComplete (step : Nat) (ok : Bool) (code : Nat) (s : State) : Out :=
  if !s.update.started || step != s.update.step then .next s
  else if !ok || s.stepRejected then .next (abortStep code s)
  else if s.stepDone then .next (completeStep s)
  else .next s

/-- CORE_HAND_OVER: at Hc the incoming core takes the hand-over area, the queues, the watchdog and the outputs (R544). -/
def execCoreHandOver (s : State) : Out :=
  let u := s.update
  if u.started && u.step = 11 && u.coreReady && u.hc = s.core.cycle && u.handArea = some s.core.cycle then
    let old := if u.core1 then 11 else 10
    let new := s.stepProc 11
    let b := s.stepBank
    let i := s.bankImage b 4
    .next { s with update := { u with core1 := !u.core1, idleLoaded := true, handArea := none,
                                      running := Tab.put u.running 4 (i.version, i.gen),
                                      images := Tab.put (Tab.mod u.images old {} fun r => { r with bank := 0xFF }) new
                                        { version := i.version, gen := i.gen, bank := b, measure := i.measure } } }
  else .next s

/-- What a boundary does for an update (R26, R540, R544): G changes; a storage checkpoint before Hc − 500; the hand-over area before Hc;
the Yarder's microcode bank switches. -/
def updateBoundary (s : State) : State :=
  let s := applyGeneration s
  let u := s.update
  if u.started && u.step = 11 && u.coreReady && !u.idleLoaded then
    if s.ahead 501 = u.hc && s.storageOk then storeCheckpoint s
    else if s.ahead 1 = u.hc then { s with update := { u with handArea := some u.hc } }
    else s
  else s

/-- CONFIRMATION_PERIOD_EXPIRY: 9830.06 has run from the last step or advance (R548). -/
def execConfirmationPeriodExpiry (s : State) : Out :=
  match s.update.confirmFrom with
  | none => .next s
  | some t =>
    if s.cfg 0x9830 6 != 0 && t + s.cfg 0x9830 6 * 3600000 ≤ s.power.opTime && !(s.updateRuns && !s.update.paused) && !s.update.reverse then
      .next (confirmUpdate s)
    else .next s

end Sys2Proof.Machine
end

