-- ==== Sys2Proof/Machine/Blocks.lean ====
section
/-! DEFINITION. Head blocks (R49): the Yarder's checks, the tap monitor and the Firebreak on one block, and the blocks that a cycle
lacks. -/

namespace Sys2Proof.Machine

open Sys2Proof

/-- Header and status flags of a received block, 2140.0B (R48). -/
def HeadBlockFlags (b : HeadBlock) : BitVec 16 :=
  BitVec.ofNat 16 ((b.p - 1) % 64 * 1024 + b2n b.delayOk * 512 + b2n b.converted * 256 + b2n b.wrapped * 128 + b2n b.farSide * 64
    + b2n b.bleedOn * 32 + b2n b.owOn * 16 + b2n b.charErr * 8 + b2n b.pending * 4 + b2n b.dieHot * 2 + b2n b.changed)

/-- Whether P is a configured head of the segment that the port reads: with one port originating all heads are read at the receive port, with both each at
its own; in the cycle of a break, and until both ports originate after one, and in relay either port (R49, R64, R70, R162). -/
def State.expects (s : State) (port p : Nat) : Bool :=
  1 ≤ p && p ≤ s.cfg 0x2100 2 &&
    (s.ring.state = .relay || s.ring.breakCycle || s.ring.breakFrom.isSome || (if s.ring.bothPorts then s.portOf p else s.receivePort) = port)

/-- Keep the latest valid block of a head for the partner (R72). -/
def recordBlock (port : Nat) (b : HeadBlock) (s : State) : State :=
  let r : BlockRec := { cycle := s.core.cycle, port := port, block := b }
  let g := s.ring
  { s with ring := { g with blocks := g.blocks ++ [r],
                            q3 := if port = 0 then g.q3 ++ [r] else g.q3, q7 := if port = 0 then g.q7 else g.q7 ++ [r] } }

/-- The Yarder's registers of a head after a valid block: flags, run counters, block check failures cleared, wrap heads (R74, R77). A head that was
unreachable is read again from the port it is heard on (R162). -/
def noteBlock (port : Nat) (b : HeadBlock) (s : State) : State :=
  let s := s.modInfo b.p fun h => { h with flags := HeadBlockFlags b, missRun := 0, failRun := 0, unreachable := false,
                                           from_ := if h.unreachable then port else h.from_, hop := if h.unreachable then s.hopFrom port b.p else h.hop }
  let s := s.clearOnce (srcRing port) 0x28 2 (headTap b.p 0xFF)
  let s := { s with ring := { s.ring with seenP := s.ring.seenP ++ [b.p], validP := s.ring.validP ++ [b.p] } }
  if s.ring.bothPorts && b.wrapped then
    { s with ring := { s.ring with wrapW := if port = 0 then b.p else s.ring.wrapW, wrapE := if port = 1 then b.p else s.ring.wrapE } }
  else s

/-- A head whose valid blocks have begun to arrive on the other port is assigned to it at the next boundary (R162). -/
def reassignHead (port p : Nat) (s : State) : State :=
  let s := s.modInfo p fun h => { h with unreachable := false }
  { s with cruiser := { s.cruiser with assign := Tab.put s.cruiser.assign p port, portsPending := true } }

/-- Whether the head's cells are passed as missing samples: a bleed gate that failed in clean mode (R96), or a TEST-REF cycle (R92). -/
def State.clean (s : State) (p : Nat) : Bool :=
  match (s.thinHead p).slot with
  | some b => !(b.continuous && s.slotNow b)
  | none => true

/-- The bleed gate check of one block (R96): after 3 clean-mode cycles with flag [5], bleed gate failure. -/
def gateCheck (b : HeadBlock) (inj : Bool) (s : State) : Bool × State :=
  if b.bleedOn && s.clean b.p && (s.switchGroup b.p).isNone && s.stuckMap b.p = 0 then
    let n := Tab.nat s.tap.gateRun b.p + 1
    let s := { s with tap := { s.tap with gateRun := Tab.put s.tap.gateRun b.p n } }
    if n = 3 then
      let s := (s.setDiag b.p 1 true).reportInj inj 0x018 0x37 .warn 2 (headTap b.p 0xFF)
      (true, (s.modThin b.p fun h => { h with excluded := true }).command true b.p opBleedOff [])
    else (true, s)
  else (false, { s with tap := { s.tap with gateRun := Tab.put s.tap.gateRun b.p 0 } })

/-- 2180.02 bit [2]: a *head channel fault* of the head, from a test of a tap or from TEST-REF, is active (R102, R108). -/
def chanDiag (p : Nat) (s : State) : State :=
  s.setDiag p 2 ((0xFF :: s.taps p).any fun t => s.raised 0x018 0x36 2 (headTap p t))

/-- A TEST-REF has ended: a channel failed in it or not; one in which every channel lay within its band clears the fault (R92, R102). -/
def refEnd (p : Nat) (s : State) : State :=
  let bad := Tab.at s.tap.refBad p []
  let fail := (upFrom 1 (s.channels p)).foldl (fun t i => Tab.put t (tapKey p i) (bad.contains i)) s.tap.chanFail
  let s := { s with tap := { s.tap with refUntil := Tab.drop s.tap.refUntil p, refBad := Tab.drop s.tap.refBad p, chanFail := fail } }
  if bad.isEmpty then chanDiag p (s.clearOnce 0x018 0x36 2 (headTap p 0xFF)) else s

/-- The TEST-REF check of a block (R92): each reading against 2.5 V ± 2 mV; a channel outside it fails at once. -/
def refCheck (b : HeadBlock) (inj : Bool) (s : State) : Bool × State :=
  match Tab.find s.tap.refUntil b.p with
  | none => (false, s)
  | some u =>
    if (u - s.core.cycle).toNat < 2 ^ 31 then
      let bad := (upFrom 1 (s.channels b.p)).filter fun i => match readingAt b.cells i with
        | some v => 200 < (v - 250000).natAbs
        | none => false
      let s := { s with tap := { s.tap with refBad := Tab.mod s.tap.refBad b.p [] fun l => l ++ bad,
                                            chanFail := bad.foldl (fun t i => Tab.put t (tapKey b.p i) true) s.tap.chanFail } }
      (true, if bad.isEmpty then s
             else chanDiag b.p (if s.raised 0x018 0x36 2 (headTap b.p 0xFF) then s else s.reportInj inj 0x018 0x36 .degrade 2 (headTap b.p 0xFF)))
    else (false, refEnd b.p s)

/-- Keep the samples an open-wire test is evaluated on: cycles Cr + 1 and Cr + 1 + k (R102). The first block with flag [4] is that of Cr + 2 (R90): it dates the
test where the answer came only after a resend. -/
def owSample (b : HeadBlock) (prevOw : Bool) (s : State) : State :=
  match s.owTesting b.p with
  | none => s
  | some e =>
    let h : HeadSample := { cells := b.cells, stack := b.stack }
    let now := s.core.cycle
    let e := match e.prev with
      | some (c, g) => if b.owOn && !prevOw && c + 1 = now then { e with cr := some (now - 2), base := some g } else e
      | none => e
    let e := match e.cr with
      | none => e
      | some c =>
        let d := (now - c).toNat
        if d = 1 then { e with base := some h } else if d = e.k + 1 then { e with last := some h } else e
    { s with tap := { s.tap with tests := Tab.put s.tap.tests b.p { e with prev := some (now, h) } } }

/-- Keep a sample of a head whose switch test is wanted or runs (R247). -/
def swSample (b : HeadBlock) (s : State) : State :=
  match (s.thinHead b.p).test with
  | none => s
  | some t =>
    s.modThin b.p fun h => { h with test := some { t with samples := keepN 64 ((s.core.cycle, s.ring.record.main, b.cells) :: t.samples) } }

/-- N × limits on V_stack while a head sum mismatch holds and every tap of the head has tested intact (R103). -/
def stackCompare (b : HeadBlock) (inj : Bool) (s : State) : State :=
  if !(s.diag b.p).getLsbD 0 || !((s.taps b.p).all fun t => s.tapState b.p t = 0) || !s.hasEnv then s
  else match stackTreat s b.p b.stack with
  | none => s
  | some t =>
    let one := fun (bit : Nat) (beyond : Bool) (s : State) =>
      let key := 8 * (1000 + b.p) + bit
      let c := Tab.nat s.fb.cellCnt key
      let n := nextCount beyond c
      let s := { s with fb := { s.fb with cellCnt := Tab.put s.fb.cellCnt key n } }
      let s := if n = 3 && c < 3 then qualify bit 2 (headTap b.p 0xFF) inj s else s
      compliance bit 2 (headTap b.p 0xFF) (!beyond) s
    one 1 (t.lo ≤ t.g * s.vUv) (one 0 (t.g * s.vOv ≤ t.hi) s)

/-- The cells of a block: compensated values, the pair sums, the head sum and every comparator (R94-R98, R104-R106, R260). -/
def cellsOfBlock (b : HeadBlock) (prevOw inj : Bool) (s : State) : State :=
  let p := b.p
  let n := s.channels p
  let first := s.firstCell p
  let maps := s.bleedMaps p
  let comp := fun (m : BitVec 16) => (upFrom 1 n).map fun i => s.compensate p m b.cells i
  let v := comp (maps.headD (0, false)).1
  let put := fun (t : Tab Int) (e : Nat × Option Int) => match e.2 with
    | some x => Tab.put t (first + e.1 - 1) x
    | none => t
  let s := { s with tap := { s.tap with v := ((upFrom 1 n).zip v).foldl put s.tap.v,
                                        stack := match b.stack with
                                          | some x => Tab.put s.tap.stack p x
                                          | none => s.tap.stack } }
  let s := if b.owOn || prevOw then s else (upFrom 1 (n - 1)).foldl (fun s t => pairSum p t inj s) s
  let s := if b.owOn then s else headSum p v b.stack s
  let s := (upFrom 1 n).foldl (fun s i =>
    let t := (maps.map fun m => s.treat p i (comp m.1) b.stack (s.residual p m.2)).foldl Treat.worse none
    compareCell (first + i - 1) t inj s) s
  stackCompare b inj s

/-- The two rotating temperatures of a block (R48): the Firebreak's raw compare and the point table. -/
def tempsOfBlock (b : HeadBlock) (inj : Bool) (s : State) : State :=
  let one := fun (ch : Nat) (v : Option Int) (s : State) =>
    ((s.headPoints b.p).filter fun n => s.pointChannel n = ch).foldl (fun s n => samplePoint n v s.core.cycle (comparePoint n v inj s)) s
  one (s.C % 8 + 9) b.tempB (one (s.C % 8 + 1) b.tempA s)

/-- A block that passed R49. -/
def acceptBlock (port : Nat) (b : HeadBlock) (inj : Bool) (s : State) : State :=
  let prevOw := (s.info b.p).flags.getLsbD 4
  let s := recordBlock port b (noteBlock port b s)
  let (gate, s) := gateCheck b inj s
  let (ref, s) := refCheck b inj s
  let s := swSample b (owSample b prevOw s)
  let s := if gate || ref then s else cellsOfBlock b prevOw inj s
  tempsOfBlock b inj s

/-- A block that failed R49: counted; NOTICE when one head fails 3 consecutive cycles (R74). -/
def rejectBlock (port : Nat) (b : HeadBlock) (inj : Bool) (s : State) : State :=
  let s := s.count port 5 1
  let first := !s.ring.failedP.contains b.p
  let n := (s.info b.p).failRun + b2n first
  let s := s.modInfo b.p fun h => { h with blockFails := inc32 h.blockFails, failRun := n }
  let s := { s with ring := { s.ring with failedP := if first then b.p :: s.ring.failedP else s.ring.failedP } }
  if first && n = 3 then s.reportInj inj (srcRing port) 0x28 .notice 2 (headTap b.p 0xFF) else s

/-- Code violations and disparity errors that a port's receiver has counted (R37, R74): WARN above 10 in any 1,000 cycles. -/
def countViolations (port code disparity : Nat) (s : State) : State :=
  if code + disparity = 0 then s
  else
    let s := (s.count port 1 code).count port 2 disparity
    let v := s.recent 1000 (Tab.at s.ring.violations port []) ++ List.replicate (min 11 (code + disparity)) s.core.cycle
    let s := { s with ring := { s.ring with violations := Tab.put s.ring.violations port v } }
    if 10 < v.length then s.raiseOnce (srcRing port) 0x26 .warn 5 port else s

/-- The checks of R49 on a block: its check, a P not seen before in the cycle, the segment it arrived on. A valid block on the other segment moves the head's
assignment (R162). -/
def takeBlock (port : Nat) (b : HeadBlock) (inj : Bool) (s : State) : State :=
  let s := countViolations port b.code b.disparity s
  if !b.checkOk then rejectBlock port b inj s
  else if s.ring.seenP.contains b.p then
    (rejectBlock port b inj s).reportInj inj (srcRing port) 0x20 .warn 2 (headTap b.p 0xFF)
  else if !s.expects port b.p then
    let s := rejectBlock port b inj s
    let s := { s with ring := { s.ring with seenP := s.ring.seenP ++ [b.p] } }
    if s.ring.bothPorts && s.allHeads.contains b.p then reassignHead port b.p s else s
  else acceptBlock port b inj s

/-- Whether the injection of a ring port acts on a frame kind ([0] header … [4] response) of a head in a direction (0 receive, 1 transmit): the masks of R77, and
the frames R75 names: records, blocks and responses received, headers, records and commands sent; reordering on commands sent, blocks and responses. -/
def State.ringFilter (s : State) (port dir kind p : Nat) : Bool :=
  (s.injectCfg port 0x10).testBit kind && (s.injectCfg port 0x11 = 0 || s.injectCfg port 0x11 = p)
    && (if s.injectCfg port 2 = 2 then (if dir = 0 then [2, 4] else [3]) else if dir = 0 then [1, 2, 4] else [0, 1, 3]).contains kind

/-- Whether a corrupt mask changes a frame: a mask of zeros leaves it as it is (R75). Any other mask is taken to fail the CRC-32C. -/
def State.maskBites (s : State) (port : Nat) : Bool := (s.corruptMask port).any (· != 0)

/-- A configured head sent no valid block in this cycle: counted, towards unreachable only while wrapped with both ports originating; runs of failed checks and of
flag [5] that this cycle does not go on end (R65, R74, R96, R261, R262). -/
def missingHead (s : State) (p : Nat) : State :=
  let s := s.count (s.portOf p) 6 1
  let both := s.ring.state = .wrapped && s.ring.bothPorts
  let s := s.modInfo p fun h => { h with missing := inc32 h.missing, missRun := if both then h.missRun + 1 else 0,
                                         failRun := if s.ring.failedP.contains p then h.failRun else 0 }
  { s with tap := { s.tap with gateRun := Tab.put s.tap.gateRun p 0 } }

/-- Cells without a value in this cycle count towards cells unmeasured, from the first cycle in CLOSED or WRAPPED on, TEST-REF cycles
apart (R262). -/
def missingCell (s : State) (k : Nat) : State :=
  { s with fb := { s.fb with missRun := Tab.mod s.fb.missRun k 0 (· + 1), goodRun := Tab.put s.fb.goodRun k 0 } }

/-- Close the cycle's blocks once container end has passed: heads and cells that are missing. -/
def endOfBlocks (s : State) : State :=
  let up := s.ring.state = .closed || s.ring.state = .wrapped
  let s := if up && s.core.opState != .boot then { s with fb := { s.fb with armed := true } } else s
  let lost := s.allHeads.filter fun p => !s.ring.validP.contains p
  let s := if up then lost.foldl missingHead s else s
  if s.fb.armed then
    let inRef := fun (p : Nat) => match Tab.find s.tap.refUntil p with
      | some u => decide ((u - s.core.cycle).toNat < 2 ^ 31)
      | none => false
    let cells := (s.allHeads.filter fun p => !inRef p).flatMap fun p => s.cellsOf p
    (cells.filter fun k => (Tab.find s.tap.v k).isNone).foldl missingCell s
  else s

end Sys2Proof.Machine
end

