-- ==== Sys2Proof/Machine/Heads.lean ====
section
/-! DEFINITION. The sense heads as agents on the ring: SYNC reception and sampling (R56, R80, R83), container filling (R47, R48), the loss
of SYNC (R85, R58), wrap (R62, R66), and the head commands (R86-R92, R247). -/

namespace Sys2Proof.Machine

open Sys2Proof

/-- The head at a place on the ring. -/
def State.head (s : State) (place : Nat) : Head := Tab.at s.heads place {}

/-- Update the head at a place. -/
def State.modHead (s : State) (place : Nat) (f : Head → Head) : State :=
  { s with heads := Tab.mod s.heads place {} f }

/-- The head's present cycle: that of the last valid SYNC. -/
def Head.cycle (h : Head) : Cycle := h.lastSync.getD 0

/-- Cycles from `a` to `b`, modulo 2^32. -/
def cyclesFrom (a b : Cycle) : Nat := (b - a).toNat

/-- Whether a slot runs in cycle `c`: it began at the SYNC whose number has its low 16 bits, or begins with this one (R91). -/
def BleedSlot.covers (b : BleedSlot) (c : Cycle) : Bool :=
  match b.from_ with
  | some a => cyclesFrom a c < b.len
  | none => c.toNat % 0x10000 = b.start

/-- A slot at the SYNC of cycle `c`: begun when the number is its own. -/
def BleedSlot.atSync (b : BleedSlot) (c : Cycle) : BleedSlot :=
  if b.from_.isNone && c.toNat % 0x10000 = b.start then { b with from_ := some c } else b

/-- Whether two slots share a cycle. -/
def BleedSlot.overlaps (a b : BleedSlot) : Bool :=
  (b.start + 0x10000 - a.start) % 0x10000 < a.len || (a.start + 0x10000 - b.start) % 0x10000 < b.len

/-- The slot that runs in the head's present cycle: one that has begun. -/
def Head.slotNow (h : Head) : Option BleedSlot := h.slots.find? fun b => b.from_.isSome && b.covers h.cycle

/-- The slot in whose cycle the quiet window's sample lies: the next cycle's where the window opens before t0 (R22, R83). -/
def Head.windowSlot (h : Head) : Option BleedSlot :=
  h.slots.find? fun b => b.covers (if h.ts < 1500 then h.cycle + 1 else h.cycle)

/-- Whether an open-wire test holds the switches off: from the SYNC of Cr + 1 through the sample of Cr + 2 + k (R90). -/
def Head.owHolds (h : Head) : Bool :=
  match h.owTest with
  | some t => let d := cyclesFrom t.cr h.cycle; 1 ≤ d && d ≤ t.k + 2
  | none => false

/-- Whether the open-wire source is on at the sample of the present cycle: Cr + 2 to Cr + 1 + k. -/
def Head.owOn (h : Head) : Bool :=
  match h.owTest with
  | some t => let d := cyclesFrom t.cr h.cycle; 2 ≤ d && d ≤ t.k + 1
  | none => false

/-- Whether a switch test holds the other switches off: from the SYNC of Cr + 1 to the last on sample (R247). -/
def Head.swHolds (h : Head) : Bool :=
  match h.swTest with
  | some t => let d := cyclesFrom t.cr h.cycle; 1 ≤ d && d ≤ t.m + 1
  | none => false

/-- The tested switch while it is on: samples of Cr + 2 to Cr + 1 + m. -/
def Head.swOn (h : Head) : BitVec 16 :=
  match h.swTest with
  | some t => let d := cyclesFrom t.cr h.cycle
              if 2 ≤ d && d ≤ t.m + 1 then 1#16 <<< (t.cell - 1) else 0
  | none => 0

/-- The tested switch as it conducts: only with SYNC valid in this cycle and the die cool (R22, R81). -/
def Head.testSwitch (h : Head) : BitVec 16 := if h.syncPort.isSome && !h.dieHot then h.swOn else 0

/-- Whether bleed may conduct now: SYNC valid in this cycle, die cool, no test (R81, R83, R90, R247). -/
def Head.bleedFree (h : Head) : Bool := h.syncPort.isSome && !h.dieHot && !h.owHolds && !h.swHolds

/-- The switches a running slot turns on outside the quiet window. -/
def Head.slotSwitches (h : Head) : BitVec 16 :=
  match h.slotNow with
  | some b => if h.bleedFree then b.mask else 0
  | none => 0

/-- Every switch off and every accepted slot discarded. -/
def Head.bleedOff (h : Head) : Head := { h with switches := 0, slots := [] }

/-- What a valid SYNC does to the head's cycle: number, port, sample instant, CONFIGURE and UNWRAP that take effect with it (R56, R66, R85, R86). A delay
register that holds no valid value counts as 0, DESIGN CHOICE (log 46): the spec gives no sample instant without one. -/
def Head.beginCycle (h : Head) (port : Nat) (hdr : SyncHeader) (now : Cycle) : Head :=
  let d := (if port = 0 then h.dW else h.dE).getD 0
  let through := h.unwrapAt = some hdr.cycle
  { h with lastSync := some hdr.cycle, syncPort := some port, syncAt := some now, missing := 0, sampled := false, ts := hdr.ts, container := hdr.length,
           state := if h.state = HeadState.syncLost then HeadState.enumerated else h.state,
           sampleAt := (hdr.ts : Int) * 100 - hdr.entry - d,
           n := match h.pendingCfg with
             | some c => c.1
             | none => h.n,
           tempMask := match h.pendingCfg with
             | some c => c.2
             | none => h.tempMask,
           pendingCfg := none,
           wrapped := if through then false else h.wrapped,
           failedSide := if through then none else h.failedSide,
           farSide := if through then false else h.farSide,
           unwrapAt := if through then none else h.unwrapAt }

/-- The slots and tests of the head at the SYNC of cycle `c`: slots whose cycles are over end, one begins at its own number, tests end (R90, R91, R247). -/
def Head.slotsAtSync (h : Head) (c : Cycle) : Head :=
  { h with slots := (h.slots.map fun b => b.atSync c).filter fun b => b.from_.isNone || b.covers c,
           owTest := match h.owTest with
             | some t => if t.k + 2 < cyclesFrom t.cr c then none else some t
             | none => none,
           swTest := match h.swTest with
             | some t => if t.m + 1 < cyclesFrom t.cr c then none else some t
             | none => none }

/-- Switches at a SYNC: those of a slot that goes on stay, a test holds them off, a slot that begins turns its own on in its own event (R83, R90, R91). -/
def Head.switchesAtSync (h : Head) : BitVec 16 :=
  if h.swHolds then h.testSwitch
  else match h.slotNow with
    | some b => if h.bleedFree && b.from_ != h.lastSync then h.switches else 0
    | none => 0

/-- A wrapped head sends BRK on the lane it returns traffic on, once per cycle, after the SYNC set of its segment (R37, R62). -/
def Head.sendBreak (h : Head) : Head :=
  if h.wrapped && h.failedSide.isSome && h.state = .enumerated then { h with brkAt := h.lastSync } else h

/-- Character errors met on an input since the header before (R48, R88). -/
def Head.countErrors (h : Head) (n : Nat) : Head :=
  { h with charErrors := add32 h.charErrors n, inboundErr := h.inboundErr || n != 0 }

/-- HEAD_SYNC_RECEIVE: the head at `place` meets a SYNC on the eastbound (port 0) or westbound (port 1) lane (R56, R57, R85). One whose header check fails gives
no sample (R44); a second valid one on the other port within a cycle is an inbound error (R57). -/
def execHeadSyncReceive (place port : Nat) (hdr : SyncHeader) (s : State) : Out :=
  let h := (s.head place).countErrors hdr.errors
  let now := s.core.cycle
  let second := h.syncPort.isSome && h.syncPort != some port && (h.lastSync = some hdr.cycle || h.syncAt = some now)
  if h.state = .lowPower then .next s
  else if !hdr.checkOk then
    let h := { h with inboundErr := true }
    .next { s with heads := Tab.put s.heads place (if second then h else { h with sampled := false, syncPort := none }) }
  else if second then
    .next ({ s with heads := Tab.put s.heads place { h with inboundErr := true } }.raiseOnce (srcRing 0) 0x25 .warn 0 0)
  else
    let h := ((h.beginCycle port hdr now).slotsAtSync hdr.cycle).sendBreak
    .next { s with heads := Tab.put s.heads place { h with switches := h.switchesAtSync } }

/-- Bit i of a list of optional readings' cells that switches cover. -/
def maskCells (mask : BitVec 16) (n : Nat) : List Nat := (upFrom 1 n).filter fun i => mask.getLsbD (i - 1)

/-- HEAD_SAMPLE: at its compensated instant the head holds every channel (R80); `temps` are the channels converted, `die` the die
temperature (R81). -/
def execHeadSample (place : Nat) (cells : List (Option Int)) (stack : Option Int) (temps : List (Option Int)) (die : Int) (s : State) : Out :=
  let h := s.head place
  if h.syncPort.isNone || h.state = .lowPower || h.state = .syncLost then .next s
  else
    let hot := if 10500 ≤ die then true else if die < 9500 then false else h.dieHot
    let ow := h.owOn
    let last := if ow then h.switches else h.switches ||| h.testSwitch
    .next (s.modHead place fun h =>
      { h with sampled := true, cells := cells.take h.n, stack := stack, temps := temps, die := die, dieHot := hot,
               lastSwitches := last, switches := if hot then 0 else h.switches,
               refCycles := h.refCycles - 1 })

/-- Bytes of a block with N cell channels (R48). -/
def blockLen (n : Nat) : Nat := (13 + (5 * n + 1) / 2 + 3) / 4 * 4

/-- The 20-bit field of a cell, 0x8_0000 for no sample. -/
def cellField : Option Int → Nat
  | some v => (v % (2 ^ 20 : Nat)).toNat
  | none => 0x80000

/-- The cells packed 20 bits each, least significant first. -/
def packCells : List (Option Int) → Nat
  | [] => 0
  | v :: t => cellField v + 2 ^ 20 * packCells t

/-- The rotating temperature of slot A (offset 1) or B (offset 9) in cycle C, 0x8000 when absent (R48). -/
def tempSlot (h : Head) (off : Nat) : Nat :=
  let ch := h.cycle.toNat % 8 + off
  if h.tempMask.getLsbD (ch - 1) then
    (match h.temps[ch - 1]? with
     | some (some v) => (v % (2 ^ 16 : Nat)).toNat
     | _ => 0x8000)
  else 0x8000

/-- Whether a test is running in a head (R86 status 6). -/
def Head.testing (h : Head) : Bool := h.owTest.isSome || h.swTest.isSome || h.refCycles != 0

/-- Whether every configured channel was converted at Ts (R48 flag [8]). -/
def Head.allConverted (h : Head) : Bool :=
  h.sampled && h.stack.isSome && (upFrom 0 h.n).all fun i => match h.cells[i]? with
    | some (some _) => true
    | _ => false

/-- Header and status flags of the head's block (R48). Flag [2], a command whose result is pending, is a test that runs: DEDUCED (log 46). -/
def Head.flags (h : Head) : Nat :=
  ((h.p.getD 1 - 1) % 64) * 1024 + b2n h.delaySet * 512 + b2n h.allConverted * 256 + b2n h.wrapped * 128
    + b2n h.farSide * 64 + b2n (h.lastSwitches != 0) * 32 + b2n h.owOn * 16 + b2n h.inboundErr * 8 + b2n h.testing * 4 + b2n h.dieHot * 2
    + b2n h.changed

/-- The head's block as bytes (R48). -/
def Head.block (h : Head) : Bytes :=
  let wc := (5 * h.n + 1) / 2
  let body := le 2 h.flags ++ le wc (packCells (h.cells ++ List.replicate (h.n - h.cells.length) none))
    ++ le 3 (match h.stack with
             | some v => (v % (2 ^ 24 : Nat)).toNat
             | none => 0x800000)
    ++ le 2 (tempSlot h 1) ++ le 2 (tempSlot h 9)
  let padded := padTo (blockLen h.n - 4) body
  padded ++ crcBytes padded

/-- CONTAINER_PASS: the container passes the head with `fil` FIL characters left, of the B that the header states at most; the head fills its block in, or
counts that it does not fit (R46, R47). -/
def execContainerPass (place fil : Nat) (s : State) : Out :=
  let h := s.head place
  let fil := min fil h.container
  if !h.sampled || h.p.isNone || h.state != .enumerated then .next s
  else if blockLen h.n ≤ fil then
    .next (s.modHead place fun h => { h with lastBlock := h.block, inboundErr := false })
  else .next (s.modHead place fun h => { h with noFit := inc16 h.noFit })

/-- QUIET_WINDOW_OPEN: a head in a clean-mode slot turns its switches off; a running switch test ignores the window (R22, R83, R86). -/
def execQuietWindowOpen (place : Nat) (s : State) : Out :=
  .next (s.modHead place fun h =>
    { h with quiet := true,
             switches := match h.windowSlot with
               | some b => if b.continuous then h.switches else h.testSwitch
               | none => h.testSwitch })

/-- QUIET_WINDOW_CLOSE: the slot's switches turn on again if the present SYNC was valid (R83). -/
def execQuietWindowClose (place : Nat) (s : State) : Out :=
  .next (s.modHead place fun h =>
    { h with quiet := false, switches := if h.swHolds then h.testSwitch else h.slotSwitches })

/-- HEAD_WRAP: an enumerated head that declares LOS on an input wraps there (R62). LOS or a code violation on the failed
input of a head that wraps starts its qualification again (R66). -/
def execHeadWrap (input : HeadInput) (s : State) : Out :=
  if (s.head input.place).state = .enumerated then
    .next (s.modHead input.place fun h => { h with wrapped := true, failedSide := some input.side, failedAt := s.core.cycle, farSide := false })
  else .next s

/-- HEAD_CYCLE_MISSING: no valid SYNC within 1,010 µs: no sample, no block, bleed off from the quiet window on (R85). -/
def execHeadCycleMissing (place : Nat) (s : State) : Out :=
  .next (s.modHead place fun h =>
    { h with missing := h.missing + 1, missingSync := inc16 h.missingSync, syncPort := none, sampled := false, switches := 0 })

/-- HEAD_SYNC_LOST: after 5 missing cycles bleed and sources are off and slots and tests discarded (R85). -/
def execHeadSyncLost (place : Nat) (s : State) : Out :=
  let h := s.head place
  if h.state = .enumerated && 5 ≤ h.missing then
    .next (s.modHead place fun h => { h.bleedOff with state := .syncLost, owTest := none, swTest := none })
  else .next s

/-- A head's initial state: no P, no delays, wrapped (R58). -/
def Head.initial (h : Head) : Head :=
  { h.bleedOff with state := .initial, wrapped := true, p := none, dW := none, dE := none, owTest := none, swTest := none,
                    unwrapAt := none, farSide := false, refCycles := 0, pendingCfg := none, failedSide := none, brkAt := none,
                    delaySet := false }

/-- HEAD_INITIAL_STATE: 100 ms without valid SYNC (R58, R85). -/
def execHeadInitialState (place : Nat) (s : State) : Out :=
  let h := s.head place
  if h.state = .lowPower || h.missing < 99 then .next s
  else .next (s.modHead place Head.initial)

/-- HEAD_LOW_POWER: 10 s without valid SYNC in INITIAL; wrap is kept (R85). -/
def execHeadLowPower (place : Nat) (s : State) : Out :=
  if (s.head place).state = .initial && 9999 ≤ (s.head place).missing then .next (s.modHead place fun h => { h with state := .lowPower, syncPort := none, sampled := false })
  else .next s

/-- HEAD_WAKE: any valid character wakes a low-power head to INITIAL (R85). -/
def execHeadWake (place : Nat) (s : State) : Out :=
  if (s.head place).state = .lowPower then .next (s.modHead place fun h => { h with state := .initial, missing := 0 })
  else .next s

/-! ### Commands -/

/-- Whether the head executes a frame (R51): check passed; hop address 1, its own P, or broadcast; awake. -/
def Head.takes (h : Head) (f : Frame) : Bool :=
  f.checkOk && h.state != .lowPower &&
    (match f.mode with
     | .hop => f.addr = 1
     | .position => h.p = some f.addr
     | .broadcast => true)

/-- The response of a command without data: its opcode echoed (R86). -/
def echoOp (op : Nat) : Bytes := le 1 op

/-- The address byte a head passes on (R51): in hop mode 1 becomes 0 and n becomes n − 1. -/
def onwardAddress (f : Frame) : Nat :=
  match f.mode with
  | .hop => f.addr - 1
  | .position | .broadcast => f.addr

/-- The port a frame leaves by: the one it came in on where the head wraps, else the other (R58, R62). -/
def Head.exit (h : Head) (port : Nat) : Nat := if h.wrapped then port else 1 - port

/-- The response area of a frame (R50): status, data, CRC-32C over both. -/
def answerArea (r : HeadResponse) : Bytes := (le 1 r.status ++ r.data) ++ crcBytes (le 1 r.status ++ r.data)

/-- A command frame at a head (R51, R52): every head that is awake passes it on. One it is not addressed by, or whose check fails, does nothing else; a repeated
sequence number gives the stored response again; else `act` runs on a head in an accepted state with the right payload length, and its response is stored
and written into the response area. A head keeps one last sequence number, whichever port it came in on: DESIGN CHOICE (log 46). -/
def headCommand (place : Nat) (f : Frame) (lenOk : Bool) (states : List HeadState) (act : Head → HeadResponse × Head) (s : State) : State :=
  let h := s.head place
  if h.state = .lowPower then s
  else
    let h := { h with passedOn := some (onwardAddress f, h.exit f.port), returned := [] }
    if !h.takes f then { s with heads := Tab.put s.heads place h }
    else match h.lastSeq with
      | some (q, r) => if q = f.seq then answer h r else run h
      | none => run h
where
  /-- Write a response into the area, where the frame has one. -/
  answer (h : Head) (r : HeadResponse) : State :=
    { s with heads := Tab.put s.heads place { h with lastSeq := some (f.seq, r), returned := if f.mode = .broadcast then [] else answerArea r } }
  /-- Execute and store the response: an unlisted opcode, a wrong payload length, a state in which it is not accepted (R86, R88), the command. -/
  run (h : Head) : State :=
    if f.unlisted then answer h { status := 2 }
    else if !lenOk || f.extra != 0 then answer h { status := 1 }
    else if !states.contains h.state then answer h { status := 3 }
    else answer (act h).2 (act h).1

/-- All head states that hear commands (a low-power head is asleep). -/
def anyHead : List HeadState := [.initial, .enumerated, .syncLost]

/-- IDENTIFY (R87). -/
def execIdentify (place : Nat) (f : Frame) (s : State) : Out :=
  .next (headCommand place f true anyHead (fun h =>
    ({ status := 0, data := le 8 h.serial ++ le 1 h.cellCh ++ le 1 h.tempCh ++ le 2 h.lf ++ le 2 h.lr ++ le 2 h.lt ++ le 1 h.contract
        ++ le 1 (b2n (h.state = .initial) + 2 * b2n h.p.isSome + 4 * b2n (h.dW.isSome || h.dE.isSome))
        ++ le 2 h.rBleed ++ le 2 h.groupDelay ++ le 2 0 }, h)) s)

/-- OPEN (R86): the head stops wrapping and forwards on. -/
def execOpenHead (place : Nat) (f : Frame) (s : State) : Out :=
  .next (headCommand place f true [.initial] (fun h => ({ status := 0, data := echoOp opOpen }, { h with wrapped := false })) s)

/-- SET-POSITION (R86). -/
def execSetPosition (place : Nat) (f : Frame) (payload : Bytes) (s : State) : Out :=
  .next (headCommand place f (payload.length = 1) [.initial, .enumerated] (fun h =>
    let p := fieldN payload 0 1
    if 1 ≤ p && p ≤ 64 then ({ status := 0, data := echoOp opSetPosition }, { h with p := some p }) else ({ status := 4 }, h)) s)

/-- A delay register: 0xFFFF is unknown (R86). -/
def delayReg (v : Nat) : Option Nat := if v = 0xFFFF then none else some v

/-- SET-DELAY (R86): with P held the head enters ENUMERATED and sets header flag [9] (R85). -/
def execSetDelay (place : Nat) (f : Frame) (payload : Bytes) (s : State) : Out :=
  .next (headCommand place f (payload.length = 4) [.initial, .enumerated] (fun h =>
    ({ status := 0, data := echoOp opSetDelay },
     { h with dW := delayReg (fieldN payload 0 2), dE := delayReg (fieldN payload 2 2),
              state := if h.p.isSome then .enumerated else h.state, delaySet := h.p.isSome })) s)

/-- CONFIGURE (R86): taken at the next SYNC; sets flag [0]. -/
def execConfigure (place : Nat) (f : Frame) (payload : Bytes) (s : State) : Out :=
  .next (headCommand place f (payload.length = 4) [.initial, .enumerated] (fun h =>
    let n := fieldN payload 0 1
    if 1 ≤ n && n ≤ 16 then
      ({ status := 0, data := echoOp opConfigure }, { h with pendingCfg := some (n, BitVec.ofNat 16 (fieldN payload 2 2)), changed := true })
    else ({ status := 4 }, h)) s)

/-- UNWRAP (R66, R86): through operation from the SYNC of the cycle after next. -/
def execUnwrap (place : Nat) (f : Frame) (s : State) : Out :=
  .next (headCommand place f true [.enumerated] (fun h =>
    if h.wrapped then ({ status := 0, data := echoOp opUnwrap }, { h with unwrapAt := some (h.cycle + 2) }) else ({ status := 3 }, h)) s)

/-- The latest reading of cell i of the head, 0 when it has none. -/
def Head.reading (h : Head) (i : Nat) : Int :=
  match h.cells[i - 1]? with
  | some (some v) => v
  | _ => 0

/-- Sum of squares of the latest readings over a mask, in (10 µV)². -/
def Head.heat (h : Head) (mask : BitVec 16) : Int := sumI ((maskCells mask h.n).map fun i => h.reading i * h.reading i)

/-- Whether a mask holds two adjacent cells. -/
def adjacent (mask : BitVec 16) : Bool := (mask &&& (mask <<< 1)) != 0

/-- Whether the head refuses a slot with status 5 (R91): adjacent cells in clean mode, heat above 4.0 W, a cell above 300 mA. -/
def Head.refuses (h : Head) (mask : BitVec 16) (continuous : Bool) : Bool :=
  (!continuous && adjacent mask) || (4 * 10000000 * (h.rBleed : Int) < h.heat mask)
    || (maskCells mask h.n).any fun i => 30 * (h.rBleed : Int) < h.reading i

/-- BLEED-SLOT (R91). -/
def execBleedSlot (place : Nat) (f : Frame) (payload : Bytes) (s : State) : Out :=
  .next (headCommand place f (payload.length = 6) [.enumerated] (fun h =>
    let b : BleedSlot := { start := fieldN payload 0 2, mask := BitVec.ofNat 16 (fieldN payload 2 2), len := fieldN payload 4 1,
                           continuous := fieldN payload 5 1 = 1 }
    if b.len = 0 || 100 < b.len || 1 < fieldN payload 5 1 || 2 ^ h.n ≤ b.mask.toNat then ({ status := 4 }, h)
    else if h.refuses b.mask b.continuous then ({ status := 5 }, h)
    else ({ status := 0, data := echoOp opBleedSlot }, { h with slots := h.slots.filter (fun o => !o.overlaps b) ++ [b] })) s)

/-- BLEED_SLOT_START: at the SYNC with the stated start cycle the slot's switches begin to conduct, in clean mode outside the quiet
window (R83, R91). -/
def execBleedSlotStart (place : Nat) (s : State) : Out :=
  .next (s.modHead place fun h =>
    match h.slotNow with
    | some b => if b.continuous || !h.quiet then { h with switches := if h.swHolds then h.testSwitch else h.slotSwitches } else h
    | none => h)

/-- BLEED-OFF (R86). -/
def execBleedOff (place : Nat) (f : Frame) (s : State) : Out :=
  .next (headCommand place f true anyHead (fun h => ({ status := 0, data := echoOp opBleedOff }, h.bleedOff)) s)

/-- OW-TEST (R90): one test at a time. -/
def execOwTest (place : Nat) (f : Frame) (payload : Bytes) (s : State) : Out :=
  .next (headCommand place f (payload.length = 2) [.enumerated] (fun h =>
    let tap := fieldN payload 0 1
    let k := fieldN payload 1 1
    if h.testing then ({ status := 6 }, h)
    else if h.n < tap || k = 0 || 8 < k then ({ status := 4 }, h)
    else ({ status := 0, data := echoOp opOwTest }, { h with owTest := some { tap := tap, k := k, cr := h.cycle } })) s)

/-- SWITCH-TEST (R247): the accepted slots are discarded. -/
def execSwitchTest (place : Nat) (f : Frame) (payload : Bytes) (s : State) : Out :=
  .next (headCommand place f (payload.length = 2) [.enumerated] (fun h =>
    let i := fieldN payload 0 1
    let m := fieldN payload 1 1
    if h.testing then ({ status := 6 }, h)
    else if i = 0 || h.n < i || m = 0 || 20 < m then ({ status := 4 }, h)
    else ({ status := 0, data := echoOp opSwitchTest }, { h with swTest := some { cell := i, m := m, cr := h.cycle }, slots := [] })) s)

/-- READ-STATUS (R88): clears flag [0]. -/
def execReadStatus (place : Nat) (f : Frame) (s : State) : Out :=
  .next (headCommand place f true anyHead (fun h =>
    ({ status := 0, data := leI 2 h.die ++ le 2 h.flags ++ le 4 h.charErrors ++ le 2 h.missingSync ++ le 2 h.noFit ++ le 2 h.lastSwitches.toNat },
     { h with changed := false })) s)

/-- TEST-REF at the head (R92): the cell channels convert the internal reference for the stated cycles. -/
def testRefHead (h : Head) (payload : Bytes) : HeadResponse × Head :=
  let n := fieldN payload 0 1
  if h.testing then ({ status := 6 }, h)
  else if n = 0 || 16 < n then ({ status := 4 }, h)
  else ({ status := 0, data := echoOp opTestRef }, { h with refCycles := n })

/-- TEST-REF (R92): where the head accepts it, the tap monitor treats its cycles as those of a TEST-REF; the Yarder sends it in ISOLATED or SERVICE alone. -/
def execTestRef (place : Nat) (f : Frame) (payload : Bytes) (s : State) : Out :=
  let t := headCommand place f (payload.length = 1) [.enumerated] (fun h => testRefHead h payload) s
  match (t.head place).p with
  | some p =>
    if (s.head place).refCycles = 0 && (t.head place).refCycles != 0 && s.maySend opTestRef then
      .next { t with tap := { t.tap with refUntil := Tab.put t.tap.refUntil p (s.ahead (fieldN payload 0 1)), refBad := Tab.drop t.tap.refBad p } }
    else .next t
  | none => .next t

/-- RESTART (R86): into INITIAL after the response; its counters start again. -/
def execRestart (place : Nat) (f : Frame) (payload : Bytes) (s : State) : Out :=
  .next (headCommand place f (payload.length = 2) anyHead (fun h =>
    if payload = [0x5A#8, 0xA5#8] then
      ({ status := 0, data := echoOp opRestart },
       { h.initial with missing := 0, charErrors := 0, missingSync := 0, noFit := 0, syncPort := none, sampled := false })
    else ({ status := 4 }, h)) s)

/-- ECHO (R86). -/
def execEcho (place : Nat) (f : Frame) (payload : Bytes) (s : State) : Out :=
  .next (headCommand place f (1 ≤ payload.length && payload.length ≤ 123) anyHead (fun h => ({ status := 0, data := payload }, h)) s)

end Sys2Proof.Machine
end

