-- ==== Sys2Proof/Machine/Wire.lean ====
section
/-! DEFINITION. What leaves a ring port, character by character: SYNC and header (R44), string record (R45), container (R46), command frames (R50), as the
injection on the transmitter leaves them (R75); and the times of the asynchronous window (R25, R42). -/

namespace Sys2Proof.Machine

open Sys2Proof

/-! ### Characters (R37, R44, R45, R50) -/

/-- Data bytes as characters. -/
def dataChars (b : Bytes) : List RingChar := b.map .data

/-- n equal control characters. -/
def ctlChars (c : Control) (n : Nat) : List RingChar := List.replicate n (.ctl c)

/-- Bytes with their CRC-32C after them. -/
def withCrc (b : Bytes) : Bytes := b ++ crcBytes b

/-- Bytes 4 to 23 of a SYNC header. -/
def headerBody (h : SyncHeader) : Bytes :=
  le 4 h.cycle.toNat ++ le 1 1 ++ le 1 h.flags.toNat ++ le 2 h.ts ++ le 2 h.entry ++ le 2 h.length ++ le 1 h.heads ++ le 1 h.ringHeads ++ le 2 h.pre
    ++ zeros 4

/-- The 32 characters of SYNC and header. -/
def headerChars (h : SyncHeader) : List RingChar :=
  ctlChars .idl 1 ++ ctlChars .syn 3 ++ dataChars (withCrc (headerBody h)) ++ ctlChars .eof 1 ++ ctlChars .idl 3

/-- Bytes 1 to 55 of a string record. -/
def recordBody (r : StringRecord) : Bytes :=
  le 1 0x10 ++ le 4 r.cycle.toNat ++ leI 4 r.main ++ leI 4 r.hall ++ leI 4 r.vStr ++ leI 4 r.vLink ++ le 2 r.rIso ++ le 2 r.isoSeq ++ le 2 r.status.toNat
    ++ le 2 r.discrete.toNat ++ zeros 2 ++ le 4 (r.ns + 2 ^ 31 * b2n r.locked) ++ le 6 r.sec ++ zeros 14

/-- The 64 characters of a string record. -/
def recordChars (r : StringRecord) : List RingChar :=
  ctlChars .sof 1 ++ dataChars (withCrc (recordBody r)) ++ ctlChars .eof 1 ++ ctlChars .idl 2 ++ ctlChars .soc 1

/-- Address mode byte of a command frame. -/
def modeByte : AddrMode → Nat
  | .hop => 0
  | .position => 1
  | .broadcast => 0xFF

/-- The characters of a command frame; its check leaves the address byte out. -/
def RingCmd.chars (c : RingCmd) : List RingChar :=
  let type := le 1 (if c.mode = .broadcast then 0x21 else 0x20)
  let rest := le 2 c.seq ++ le 1 c.opcode ++ le 1 c.payload.length ++ le 1 c.resp ++ c.payload
  let check := crcBytes (type ++ le 1 (modeByte c.mode) ++ rest)
  ctlChars .sof 1 ++ dataChars (type ++ le 1 (modeByte c.mode) ++ le 1 c.addr ++ rest ++ check) ++ ctlChars .fil c.resp ++ ctlChars .eof 1

/-! ### Transmission (R75) -/

/-- A corrupt mask on the data characters of a frame. -/
def maskChars : Bytes → List RingChar → List RingChar
  | m :: ms, .data b :: t => .data (m ^^^ b) :: maskChars ms t
  | ms, c :: t => c :: maskChars ms t
  | _, [] => []

/-- A frame of a kind and head leaves a port: the injection on its transmitter sees it, and counts what it touches. -/
def transmit (port kind p : Nat) (s : State) : Injected × State :=
  let (what, s) := injectFrame port 1 (s.ringFilter port 1 kind p) s
  (what, if what = .clean then s else s.count port 11 1)

/-- Characters on a port's wire in the present cycle. -/
def wireOn (port : Nat) (i : WireItem) (s : State) : State :=
  { s with ring := { s.ring with wire := Tab.mod s.ring.wire port [] (· ++ [i]) } }

/-- A frame on the wire: dropped, it is IDL; corrupted, its data characters carry the mask. -/
def sendChars (what : Injected) (port : Nat) (l : List RingChar) (s : State) : State :=
  wireOn port (.chars (match what with
    | .clean | .reorder => l
    | .drop => ctlChars .idl l.length
    | .corrupt => maskChars (s.corruptMask port) l)) s

/-- A frame that is not held back leaves a port. -/
def launch (port kind p : Nat) (l : List RingChar) (s : State) : State :=
  let (what, s) := transmit port kind p s
  sendChars what port l s

/-- Command frames that leave a port one after another within one step of an enumeration or a readmission: numbered and sent (R52, R59, R67). -/
def launchAll (port : Nat) (cmds : List RingCmd) (s : State) : State :=
  let (frames, n) := numberFrames s.core.cycle cmds (Tab.nat s.ring.seq port)
  let s := { s with ring := { s.ring with seq := Tab.put s.ring.seq port n } }
  frames.foldl (fun s c => launch port 3 c.head c.chars s) s

/-! ### The asynchronous window (R25, R42) -/

/-- Container length of a port's segment, and its heads (R44, R48, R162). -/
def State.segment (s : State) (port : Nat) : Nat × Nat :=
  let hs := s.allHeads.filter fun p => !(s.info p).unreachable && s.portOf p = port
  ((hs.map fun p => blockLen (s.channels p)).foldl (· + ·) 0, hs.length)

/-- Transit time to a port's receive port in ns: of the closed ring, or of the port's segment; 64 µs, the bound of R41, before it is learned. -/
def State.transitOf (s : State) (port : Nat) : Nat :=
  match s.ring.state with
  | .wrapped => if port = 0 then s.ring.segW else s.ring.segE
  | .closed => s.ring.transit
  | .down | .enum | .relay => 64000

/-- Bytes the post-container part of the window can take: from the container's last byte on, every symbol at the receive port 10 µs before the next SYNC. -/
def State.postRoom (s : State) (port : Nat) : Nat :=
  min 1500 ((990000 - s.transitOf port - (s.cfg 0x2100 3 * 100 + 22800 + 200 * (s.segment port).1)) / 200)

/-- Bytes of the pre-sample part: what the last cycle's post-container part had no room for, between the end of SYNC and Ts − 5 µs. -/
def State.preSample (s : State) (port : Nat) : Nat :=
  min (Tab.nat s.ring.asyncLeft port) ((s.cfg 0x2100 3 * 100 - 11400) / 200)

/-- The header of a port (R44). In ENUM the wrapped flag is set and the entry delay 0 (R59). The entry delay is 0 at the ring end's own port; the far end
of a pair's ring lies behind the end path. -/
def State.header (s : State) (port : Nat) : SyncHeader :=
  let (len, heads) := s.segment port
  let enum := s.ring.state = .enum
  { cycle := s.core.cycle,
    flags := BitVec.ofNat 8 (b2n s.unitB * 128 + port * 64 + b2n (enum || s.ring.state = .wrapped) * 32 + b2n s.inPair * 16),
    ts := s.cfg 0x2100 3, entry := if port = 1 && s.inPair && !enum then s.ring.endPath else 0, length := len, heads := heads,
    ringHeads := s.ringN, pre := s.preSample port }

end Sys2Proof.Machine
end

