-- ==== Sys2Proof/Machine/Ring.lean ====
section
/-! DEFINITION. The Yarder (02): LOS and breaks (R38, R63-R65), wrap and unwrap (R66), readmission (R67), enumeration (R59-R61, R68), and
the return of command frames (R52). -/

namespace Sys2Proof.Machine

open Sys2Proof

/-- A break is declared (R63, R68): both ports originate from the next cycle, or from the one after when it comes after t0 + 990 µs; blocks
of either port count in the cycle of the break (R64). -/
def declareBreak (late : Bool) (s : State) : State :=
  if s.ring.originating && (s.ring.state = .closed || (s.ring.state = .wrapped && !s.ring.bothPorts && s.ring.breakFrom.isNone)) then
    let s := s.count s.receivePort 9 1
    let s := setRing .wrapped s
    let s := { s with ring := { s.ring with breakFrom := some (s.core.cycle + (if late then 2 else 1)), breakCycle := true } }
    if s.raised (srcRing 0) 0x2A 0 0 then s else s.reportInj (s.tainted 0 || s.tainted 1) (srcRing 0) 0x2A .warn 0 0
  else s

/-- LOS_DECLARED (R38, R63): the receiver at a port has lost its signal; `code` and `disparity` are the violations it counted. `late` is a
declaration after t0 + 990 µs. -/
def execLosDeclared (port code disparity : Nat) (late : Bool) (s : State) : Out :=
  let s := (countViolations port code disparity s).count port 3 1
  let s := { s with ring := { s.ring with los := Tab.put s.ring.los port true } }
  let s := s.report (srcRing port) 0x27 .notice 5 port
  .next (if port = s.receivePort then declareBreak late s else s)

/-- LOS_CLEARED (R38): 1,000 consecutive valid characters. -/
def execLosCleared (port : Nat) (s : State) : Out :=
  let s := { s with ring := { s.ring with los := Tab.put s.ring.los port false } }
  .next (s.clearOnce (srcRing port) 0x27 5 port)

/-- SYNC_NOT_RETURNED (R63): a break cause in the second consecutive cycle. -/
def execSyncNotReturned (port : Nat) (late : Bool) (s : State) : Out :=
  let n := if s.ring.syncMissAt + 1 = s.core.cycle then s.ring.syncMissRun + 1 else 1
  let s := s.count port 4 1
  let s := { s with ring := { s.ring with syncMissRun := n, syncMissAt := s.core.cycle } }
  .next (if 2 ≤ n then declareBreak late s else s)

/-- BREAK_NOTICE (R63): a BRK character on any port. -/
def execBreakNotice (late : Bool) (s : State) : Out := .next (if s.ring.state = .closed then declareBreak late s else s)

/-- HEAD_UNREACHABLE (R65): no valid block for 3 consecutive cycles while both ports originate: a Firebreak cause. -/
def execHeadUnreachable (p : Nat) (s : State) : Out :=
  if s.ring.state = .wrapped && s.ring.bothPorts && 3 ≤ (s.info p).missRun && !(s.info p).unreachable then
    .next (qualify 13 2 (headTap p 0xFF) false (s.modInfo p fun h => { h with unreachable := true, from_ := 255, hop := 0 }))
  else .next s

/-! ### Unwrap -/

/-- Whether a wrap head, if there is one, shows its far side restored. -/
def State.farSideOk (s : State) (p : Nat) : Bool := p = 0 || (s.head p).farSide

/-- Both wrap heads show flag [6]: UNWRAP goes to both (R66). Where one does not acknowledge, it is tried again after another qualification period. -/
def tryUnwrap (s : State) : State :=
  let r := s.ring
  let waits := match r.unwrapTry with
    | some c => s.since c < s.cfg 0x2100 4
    | none => false
  if r.state != .wrapped || !r.originating || r.unwrapHold || r.unwrapAt.isSome || waits || (r.wrapW = 0 && r.wrapE = 0)
      || !s.farSideOk r.wrapW || !s.farSideOk r.wrapE then s
  else
    let s := { s with ring := { r with unwrapAcked := [], unwrapTry := some s.core.cycle } }
    let s := if r.wrapW = 0 then s else s.command true r.wrapW opUnwrap []
    if r.wrapE = 0 || r.wrapE = r.wrapW then s else s.command true r.wrapE opUnwrap []

/-- FAR_SIDE_RESTORED (R66): a wrapped head's failed input has been clean for the qualification time 2100.04. A cable delay measured over the hop
that has healed is kept for the closing of the ring (R60). -/
def execFarSideRestored (far : FarSide) (s : State) : Out :=
  let h := s.head far.place
  if h.state = .enumerated && h.wrapped && s.passed h.failedAt (s.cfg 0x2100 4) then
    let s := s.modHead far.place fun h => { h with farSide := true }
    .next (tryUnwrap { s with ring := { s.ring with healed := if far.delay.isSome then far.delay else s.ring.healed } })
  else .next s

/-- A wrap head acknowledged UNWRAP; once all have, the second port stops at the boundary before the cycle after next (R66). -/
def ackUnwrap (p : Nat) (sent : Cycle) (s : State) : State :=
  let acked := if s.ring.unwrapAcked.contains p then s.ring.unwrapAcked else s.ring.unwrapAcked ++ [p]
  let all := (s.ring.wrapW = 0 || acked.contains s.ring.wrapW) && (s.ring.wrapE = 0 || acked.contains s.ring.wrapE)
  { s with ring := { s.ring with unwrapAcked := acked, unwrapAt := if all then some (sent + 2) else s.ring.unwrapAt } }

/-- The sum of some numbers. -/
def sumN (l : List Nat) : Nat := l.foldl (· + ·) 0

/-- D_W and D_E of head P from the cable delays and the latencies of the heads before it on either side (R59). -/
def State.delayW (s : State) (p : Nat) : Nat :=
  sumN ((upFrom 1 p).map fun k => Tab.nat s.ring.cable k) + sumN ((upFrom 1 (p - 1)).map fun q => (s.info q).lf)
def State.delayE (s : State) (p : Nat) : Nat :=
  sumN ((upFrom (p + 1) (s.ringN + 1 - p)).map fun k => Tab.nat s.ring.cable k) + sumN ((upFrom (p + 1) (s.ringN - p)).map fun q => (s.info q).lf)

/-- A hop that had never carried traffic has healed (R60): its delay completes the cable delays, and with them the ring transit time and the far register
of every head, which SET-DELAY loads. -/
def learnHop (s : State) : State :=
  match s.ring.healed, (upFrom 1 (s.ringN + 1)).filter fun k => (Tab.find s.ring.cable k).isNone with
  | some d, [k] =>
    let n := s.ringN
    let s := { s with ring := { s.ring with cable := Tab.put s.ring.cable k d } }
    let total := sumN ((upFrom 1 (n + 1)).map fun k => Tab.nat s.ring.cable k) + sumN ((upFrom 1 n).map fun q => (s.info q).lf)
      + (if s.inPair then s.ring.endPath else 0)
    let s := { s with ring := { s.ring with transit := total } }
    (s.allHeads.filter fun p => (s.info p).dW = 0xFFFF || (s.info p).dE = 0xFFFF).foldl (fun s p =>
      let s := s.modInfo p fun h => { h with dW := s.delayW p, dE := s.delayE p }
      s.command false p opSetDelay (le 2 (s.info p).dW ++ le 2 (s.info p).dE)) s
  | _, _ => s

/-- The ring closes again at a boundary (R66, R68): one port originates and every head is read as in a closed ring (R8, R162). After as many unwraps as
2100.05 allows within 10 minutes the Yarder stops unwrapping. -/
def closeRing (s : State) : State :=
  let s := setRing .closed (s.count s.receivePort 10 1)
  let l := s.recent 600000 s.ring.unwraps ++ [s.core.cycle]
  let s := { s with ring := { s.ring with bothPorts := false, unwrapAt := none, unwrapAcked := [], unwrapTry := none, wrapW := 0, wrapE := 0,
                                          breakFrom := none, unwraps := l } }
  let near := if s.originates 0 then 0 else 1
  let s := assignHeads (fun _ => near) { s with cruiser := { s.cruiser with assign := s.allHeads.map fun p => (p, near) } }
  let s := learnHop (gatherQueues near s)
  let s := { s with ring := { s.ring with healed := none } }
  let s := (s.clearOnce (srcRing 0) 0x2A 0 0).report (srcRing 0) 0x2B .notice 0 0
  if s.cfg 0x2100 5 ≤ l.length then ({ s with ring := { s.ring with unwrapHold := true } }).raiseOnce (srcRing 0) 0x24 .warn 0 0 else s

/-- The side of the ring that head P lies on once the head of block b has wrapped. -/
def State.sideOf (s : State) (b : BlockRec) (p : Nat) : Nat :=
  let near := fun (q : Nat) => s.hopFrom b.port q
  if near p ≤ near b.block.p then b.port else 1 - b.port

/-- Heads are assigned to ports after a break: those with the wrap flag and the heads before them to the port they arrived on, every other
head to the other port (R64). Where no block carried the flag, every head came in at the receive port and goes to the other one. Both ports originate, but
RING-W alone when its far head has wrapped (R73). -/
def assignAfterBreak (s : State) : State :=
  let near := if s.originates 0 then 0 else 1
  match s.ring.blocks.find? fun b => b.block.wrapped with
  | none =>
    assignHeads (fun _ => near) { s with ring := { s.ring with bothPorts := true },
                                         cruiser := { s.cruiser with assign := s.allHeads.map fun p => (p, near) } }
  | some b =>
    let s := { s with cruiser := { s.cruiser with assign := s.allHeads.map fun p => (p, s.sideOf b p) },
                      ring := { s.ring with bothPorts := !(b.port = 0 && s.allHeads.all fun p => s.sideOf b p = 0) } }
    assignHeads (s.sideOf b) s

/-- Cable delay of hop k counted from the near end. -/
def State.nearCable (s : State) (k : Nat) : Nat := Tab.nat s.ring.cable (if s.farNumbered then s.ringN + 2 - k else k)

/-- Transit times of the two segments of a wrapped ring, 2101.04 and 2101.05: out to the wrap head, its turnaround, and back. -/
def segmentTransits (s : State) : State :=
  let n := s.ringN
  let place := s.nearHop
  let near := fun (h : HeadInfo) => if s.farNumbered then h.dE else h.dW
  let far := fun (h : HeadInfo) => if s.farNumbered then h.dW else h.dE
  let hops := fun (port : Nat) => (s.allHeads.filter fun p => (s.info p).from_ = port).map s.nearHop
  let w := (hops 0).foldl max 0
  let tw := if w = 0 then 0
    else near (s.info (place w)) + (s.info (place w)).lt + sumN ((upFrom 1 w).map s.nearCable) + sumN ((upFrom 1 (w - 1)).map fun q => (s.info (place q)).lr)
  let te := match hops 1 with
    | [] => 0
    | a :: t =>
      let e := t.foldl min a
      2 * s.ring.endPath + far (s.info (place e)) + (s.info (place e)).lt + sumN ((upFrom (e + 1) (n + 1 - e)).map s.nearCable)
        + sumN ((upFrom (e + 1) (n - e)).map fun q => (s.info (place q)).lr)
  { s with ring := { s.ring with segW := tw, segE := te } }

/-- Step 4 of a boundary (R26, R63, R66, R162): origination and assignments that are due for cycle `next`. -/
def switchBank (next : Cycle) (s : State) : State :=
  let s := if s.ring.breakFrom = some next then
      segmentTransits (assignAfterBreak { s with ring := { s.ring with breakFrom := none } })
    else s
  let s := if s.ring.unwrapAt = some next then closeRing s else if s.ring.unwrapTry.isSome then tryUnwrap s else s
  if s.cruiser.portsPending then
    let s := { s with cruiser := { s.cruiser with portsPending := false } }
    let s : State := s.cruiser.assign.foldl (fun (s : State) (e : Nat × Nat) => s.modInfo e.1 fun h =>
      if h.unreachable then h else { h with from_ := e.2, hop := s.hopFrom e.2 e.1 }) s
    if s.ring.state = .wrapped then segmentTransits s else s
  else s

/-! ### Enumeration -/

/-- This unit's own relay latency (R40), measured inside it, reported at enumeration. -/
def State.ownRelay (s : State) : Nat := min 300 (Config.relayLatency s.sec.serial)

/-- Enumeration starts: the ring is in ENUM and the heads answer by wrap (R59, R68). -/
def startEnumeration (s : State) : State :=
  let s := setRing .enum s
  { s with ring := { s.ring with originating := true, originB := s.unitB, bothPorts := false, unwrapHold := false, wrapW := 0, wrapE := 0,
                                 unwrapAt := none, unwrapTry := none, breakFrom := none, healed := none, lRelay := s.ownRelay,
                                 enum := { running := true, since := s.core.cycle,
                                           oldSerials := s.ring.heads.map fun e => (e.1, e.2.serial) } } }

/-- A hop-mode command of an enumeration or readmission (R59, R67). -/
def hopCommand (port hop op : Nat) (payload : Bytes) : RingCmd :=
  { port := port, mode := .hop, addr := hop, opcode := op, payload := payload, resp := respLen op payload.length }

/-- The frames that find the heads from one port (R59 steps 2-5): IDENTIFY and OPEN at each hop, then three IDENTIFY that nothing answers. -/
def findFrames (port found : Nat) : List RingCmd :=
  ((upFrom 1 found).flatMap fun h => [hopCommand port h opIdentify [], hopCommand port h opOpen []])
    ++ List.replicate 3 (hopCommand port (found + 1) opIdentify [])

/-- A delay register as SET-DELAY carries it: 0xFFFF unknown (R86). -/
def regOf (d : Option Nat) : Bytes := le 2 (d.getD 0xFFFF)

/-- The frames that load one head (R59 step 8): SET-POSITION by its hop, SET-DELAY by the position it then holds. -/
def loadFrames (port hop p : Nat) (dW dE : Option Nat) : List RingCmd :=
  [hopCommand port hop opSetPosition (le 1 p),
   { port := port, mode := .position, addr := p, opcode := opSetDelay, payload := regOf dW ++ regOf dE, resp := 6, head := p }]

/-- The cable delays from successive round trips on one side (R59): RT(h) − RT(h − 1) less the head latencies, halved. -/
def cableDelays : Option HeadIdent → List HeadIdent → List Int
  | _, [] => []
  | none, h :: t => qdiv ((h.roundTrip : Int) - h.lt) 2 :: cableDelays (some h) t
  | some g, h :: t => qdiv ((h.roundTrip : Int) - g.roundTrip - g.lf - g.lr - h.lt + g.lt) 2 :: cableDelays (some h) t

/-- Delays of one side's heads from its ring end (R59): sums of c and of Lf of the heads before. -/
def sideDelays : Int → List (Int × HeadIdent) → List Nat
  | _, [] => []
  | acc, (c, h) :: t => (acc + c).toNat :: sideDelays (acc + c + h.lf) t

/-- Give an identified head its position, its delays and its registers (R59 step 8, R77, R108). -/
def loadHead (p from_ hop : Nat) (i : HeadIdent) (dW dE : Option Nat) (s : State) : State :=
  let s := launchAll from_ (loadFrames from_ hop p dW dE) s
  let s := s.modInfo p fun h =>
    { h with serial := i.serial, hop := hop, from_ := from_, dW := dW.getD 0xFFFF, dE := dE.getD 0xFFFF, lf := i.lf, lr := i.lr, lt := i.lt,
             cellCh := i.cellCh, tempCh := i.tempCh, contract := i.contract, rBleed := i.rBleed, groupDelay := i.groupDelay,
             unreachable := false, missRun := 0 }
  s.modHead p fun h =>
    { h with serial := i.serial, cellCh := i.cellCh, tempCh := i.tempCh, lf := i.lf, lr := i.lr, lt := i.lt, contract := i.contract,
             rBleed := i.rBleed, groupDelay := i.groupDelay, p := some p, dW := dW, dE := dE, state := .enumerated, wrapped := false,
             failedSide := none, delaySet := true }

/-- The temperature channel mask of a head: its channels that a point of kind 1 names (R143). -/
def State.tempMaskOf (s : State) (p : Nat) : Nat :=
  ((s.headPoints p).filter fun n => 1 ≤ s.pointChannel n).foldl (fun m n => m ||| 2 ^ (s.pointChannel n - 1)) 0

/-- Send CONFIGURE to a head: its cell channels and temperature mask (R86, R139). -/
def configureHead (s : State) (p : Nat) : State :=
  s.command false p opConfigure (le 1 (s.channels p) ++ le 1 0 ++ le 2 (s.tempMaskOf p))

/-- The far delay of the head at hop h in a closed ring (R59): sum of c_(h+1) … c_(n+1) and of Lf over the heads beyond it. -/
def closedDelay (cables : List Int) (heads : List HeadIdent) (endHop h : Nat) : Nat :=
  (sumI (cables.drop h) + sumI ((heads.drop h).map fun x => (x.lf : Int)) + endHop).toNat

/-- Keep learned cable delays: those of the near side from hop 1 up, those of the far side from hop n + 1 down (2102). -/
def keepCables (near far : List Int) (n endHop : Nat) (closed flip : Bool) (t : Tab Nat) : Tab Nat :=
  let key := fun (k : Nat) => if flip then n + 2 - k else k
  let t := (far.zip (upFrom 1 far.length)).foldl (fun t e => Tab.put t (key (n + 2 - e.2)) e.1.toNat) t
  let t := (near.zip (upFrom 1 near.length)).foldl (fun t e => Tab.put t (key e.2) e.1.toNat) t
  if closed then Tab.put t (key (n + 1)) endHop else t

/-- ENUMERATION (R59): the heads found from RING-W and from RING-E in hop order, whether the ring is closed, the end hop and, in a pair, the
end path. Positions and delays are computed and loaded into every head. RING-W is the W end for Unit A and for a single unit; Unit B's is the
E end. -/
def execEnumeration (near far : List HeadIdent) (closed : Bool) (endHop endPath : Nat) (s : State) : Out :=
  if s.ring.state != .enum then .next s
  else
    let m := near.length
    let s := launchAll 0 (findFrames 0 m) s
    let s := if closed then s else launchAll 1 (findFrames 1 far.length) s
    let n := if closed then m else max (s.cfg 0x2100 2) (m + far.length)
    let flip := s.farNumbered
    let place := fun (h : Nat) => if flip then n + 1 - h else h
    let cN := cableDelays none near
    let cF := match cableDelays none far with
      | [] => []
      | c :: t => (if s.inPair then c - endPath else c) :: t
    let dN := sideDelays 0 (cN.zip near)
    let dF := sideDelays 0 (cF.zip far)
    let s := { s with ring := { s.ring with headCount := if closed then m else m + far.length, endPath := endPath } }
    let s := { s with ring := { s.ring with cable := keepCables cN cF n endHop closed flip s.ring.cable } }
    let total := (sumI cN).toNat + endHop + (near.map fun h => h.lf).foldl (· + ·) 0 + (if s.inPair then endPath else 0)
    let s := { s with ring := { s.ring with transit := if closed then total else s.ring.transit } }
    let load := fun (p from_ hop : Nat) (i : HeadIdent) (nearD farD : Option Nat) (s : State) =>
      if flip then loadHead p from_ hop i farD nearD s else loadHead p from_ hop i nearD farD s
    let other := fun (h : Nat) => if closed then some (closedDelay cN near endHop h) else none
    let s := ((near.zip dN).zip (upFrom 1 m)).foldl (fun s e => load (place e.2) 0 e.2 e.1.1 (some e.1.2) (other e.2) s) s
    let s := if closed then s
      else ((far.zip dF).zip (upFrom 1 far.length)).foldl (fun s e => load (place (n + 1 - e.2)) 1 e.2 e.1.1 none (some e.1.2) s) s
    let s := { s with cruiser := { s.cruiser with assign := s.ring.heads.map fun (e : Nat × HeadInfo) => (e.1, b2n (e.2.from_ = 1)) } }
    let found := (upFrom 1 m).map place ++ (if closed then [] else (upFrom 1 far.length).map fun h => place (n + 1 - h))
    .next { s with ring := { s.ring with enum := { s.ring.enum with found := (m, far.length, closed), heads := found } } }

/-- A head whose serial number changed at its position: its cells count as inserted (R61, R199), and its switches are tested (R246). -/
def headInserted (s : State) (p : Nat) : State :=
  let s := (s.cellsOf p).foldl (fun s k => s.modCell k fun c => { c with insertPending := true }) s
  s.modThin p fun h => { h with testWanted := true }

/-- Whether a head's channel counts differ from the committed configuration (R61): its cell channels are not those configured, or a configured temperature
point names a channel beyond those it has (DEDUCED, log 46: the configuration holds no count of temperature channels). -/
def State.channelMismatch (s : State) (p : Nat) : Bool :=
  (s.info p).cellCh != s.channels p || (s.headPoints p).any fun n => (s.info p).tempCh < s.pointChannel n

/-- Whether the enumerated heads differ from the committed configuration (R61): count, channel count, or a serial number that has moved
from another position. -/
def State.ringMismatch (s : State) : Bool :=
  let old := s.ring.enum.oldSerials
  s.ring.headCount != s.cfg 0x2100 2
    || s.ring.enum.heads.any fun p => s.channelMismatch p || (old.any fun e => e.1 != p && e.2 != 0 && e.2 = (s.info p).serial)

/-- Report or clear *ring configuration mismatch* (R61). -/
def checkConfiguration (s : State) : State :=
  if s.ringMismatch then s.raiseOnce (srcRing 0) 0x23 .degrade 0 0 else s.clearOnce (srcRing 0) 0x23 0 0

/-- A head that enumeration did not find (R65, R68): unreachable, *cells unmeasured*. -/
def headNotFound (s : State) (p : Nat) : State :=
  if (s.info p).unreachable then s
  else qualify 13 2 (headTap p 0xFF) false (s.modInfo p fun h => { h with unreachable := true, from_ := 255, hop := 0 })

/-- ENUMERATION_COMPLETE (R59 step 9, R61, R68). -/
def execEnumerationComplete (s : State) : Out :=
  if s.ring.state = .enum && s.ring.enum.running then
    let closed := s.ring.enum.found.2.2
    let old := s.ring.enum.oldSerials
    let s := { s with ring := { s.ring with bothPorts := !closed, enum := { s.ring.enum with running := false } } }
    let s := setRing (if closed then .closed else .wrapped) s
    let s := if closed then s else ((segmentTransits s).count s.receivePort 9 1).raiseOnce (srcRing 0) 0x2A .warn 0 0
    let lost := s.allHeads.filter fun p => !s.ring.enum.heads.contains p
    let s := lost.foldl headNotFound s
    let s := checkConfiguration s
    let changed := s.ring.enum.heads.filter fun p => Tab.nat old p != 0 && Tab.nat old p != (s.info p).serial
    let s := changed.foldl headInserted s
    .next (s.ring.enum.heads.foldl configureHead s)
  else .next s

/-- HEAD_READMISSION (R67): IDENTIFY answers from a head that restarted; its serial number is compared, P and delays restored, and the
ring unwraps as R66 gives. A segment whose heads are all found in the initial state is enumerated instead (R59). -/
def execHeadReadmission (p : Nat) (ident : HeadIdent) (s : State) : Out :=
  if s.ring.originating && s.ring.state = .wrapped && (s.head p).state = .initial then
    if (s.allHeads.filter fun q => s.portOf q = s.portOf p).all fun q => (s.head q).state = .initial || (s.head q).state = .lowPower then
      .next (startEnumeration s)
    else
      let i := s.info p
      let changed := i.serial != 0 && i.serial != ident.serial
      let reg := fun (d : Nat) => if d = 0xFFFF then none else some d
      let s := launchAll (s.portOf p) [hopCommand (s.portOf p) (s.hopFrom (s.portOf p) p) opIdentify []] s
      let s := loadHead p (s.portOf p) (s.hopFrom (s.portOf p) p) ident (reg i.dW) (reg i.dE) s
      let s := s.modHead p fun h => { h with wrapped := true, failedAt := s.core.cycle }
      let s := if s.channelMismatch p then s.raiseOnce (srcRing 0) 0x23 .degrade 0 0 else s
      let s := if changed then headInserted s p else s
      .next (tryUnwrap (configureHead s p))
  else .next s

/-! ### Command frames on return -/

/-- Repeat an OW-TEST that was refused, failed or gave no valid sample, once; then the head's next waiting tap (R102). The cycle after the source-on
samples of the first attempt keeps its bounds (R106). -/
def owAgain (p : Nat) (s : State) : State :=
  match s.owTesting p with
  | none => s
  | some e =>
    let after := match e.cr with
      | some c => Tab.put s.tap.afterTest p (e.tap, c + BitVec.ofNat 32 (e.k + 2))
      | none => s.tap.afterTest
    let s := { s with tap := { s.tap with tests := Tab.drop s.tap.tests p, afterTest := after } }
    if e.retried then
      match Tab.at s.tap.testQueue p [] with
      | [] => s
      | t :: rest => startOwTest p t { s with tap := { s.tap with testQueue := Tab.put s.tap.testQueue p rest } }
    else
      let s := startOwTest p e.tap s
      { s with tap := { s.tap with tests := Tab.mod s.tap.tests p e fun n => { n with retried := true } } }

/-- A switch test that did not give a valid result: repeated up to 3 times, then postponed by 1 h (R249). -/
def swAgain (p : Nat) (s : State) : State :=
  s.modThin p fun h => match h.test with
    | none => h
    | some t =>
      if t.tries < 3 then { h with test := some { t with sent := false, cr := none, tries := t.tries + 1, samples := [] } }
      else { h with test := some { t with sent := false, cr := none, tries := 0, samples := [], notBefore := s.core.cycle + 3600000 } }

/-- A command that failed after its third attempt (R52, R74). -/
def commandFailed (c : RingCmd) (inj : Bool) (s : State) : State :=
  let s := s.count c.port 8 1
  let l := ((Tab.at s.ring.cmdFails c.port []).filter fun e => s.since e.1 < 1000) ++ [(s.core.cycle, c.head)]
  let s := { s with ring := { s.ring with cmdFails := Tab.put s.ring.cmdFails c.port l } }
  let s := s.reportInj inj (srcRing c.port) 0x22 .warn 2 (headTap c.head 0xFF)
  let s := if l.any fun e => e.2 != c.head then s.raiseOnce (srcRing c.port) 0x29 .warn 5 c.port else s
  if c.opcode = opOwTest then owAgain c.head s else if c.opcode = opSwitchTest then swAgain c.head s else s

/-- The bleed slot a BLEED-SLOT command carries. -/
def RingCmd.slot (c : RingCmd) : BleedSlot :=
  { start := fieldN c.payload 0 2, mask := BitVec.ofNat 16 (fieldN c.payload 2 2), len := fieldN c.payload 4 1, continuous := fieldN c.payload 5 1 = 1 }

/-- What the Yarder and the scheduler do with a head's answer, by opcode (R66, R88, R89, R90, R92, R242, R247). -/
def answerEffect (c : RingCmd) (r : HeadResponse) (s : State) : State :=
  let p := c.head
  if c.opcode = opBleedSlot then
    s.modThin p fun h =>
      if h.state = 3 then h
      else if r.status = 0 then { h with nextSlot := some c.slot, sent := none, state := 1 }
      else { h with sent := none, nextSlot := none, refused := inc32 h.refused, state := 0 }
  else if c.opcode = opBleedOff then
    s.modThin p fun h => if h.state = 3 then { h with sent := none, slot := none, nextSlot := none, map := 0, state := 0 } else h
  else if c.opcode = opOwTest then
    if r.status = 0 then
      { s with tap := { s.tap with tests := s.tap.tests.map fun e =>
        if e.1 = p && e.2.cr.isNone then (e.1, { e.2 with cr := some c.sentAt }) else e } }
    else owAgain p s
  else if c.opcode = opSwitchTest then
    if r.status = 0 then s.modThin p fun h => { h with test := h.test.map fun t => { t with cr := some c.sentAt } } else swAgain p s
  else if c.opcode = opReadStatus then
    let die := fieldI r.data 0 2
    let s := s.modInfo p fun h => { h with die := die }
    (s.diePoints p).foldl (fun s n => samplePoint n (some die) c.sentAt s) s
  else if c.opcode = opUnwrap then (if r.status = 0 then ackUnwrap p c.sentAt s else s)
  else if c.opcode = opTestRef then
    (if r.status = 0 then
      { s with tap := { s.tap with refUntil := Tab.put s.tap.refUntil p (c.sentAt + BitVec.ofNat 32 (fieldN c.payload 0 1)) } }
     else s)
  else s

/-- A command frame is back at its port (R52): the address byte of a hop frame, then the response area; none is a response that is still
FIL or fails its check. -/
def takeAnswer (port seq addr : Nat) (answer : Option HeadResponse) (inj : Bool) (s : State) : State :=
  match s.ring.inFlight.find? fun c => c.port = port && c.seq = seq with
  | none => s
  | some c =>
    let s := { s with ring := { s.ring with inFlight := s.ring.inFlight.filter fun d => !(d.port = port && d.seq = seq) } }
    let s := if c.mode = .hop && addr != 0 then s.reportInj inj (srcRing port) 0x21 .warn 5 port else s
    if c.mode = .broadcast then s
    else match answer with
      | none =>
        if c.tries < 2 then enqueue (urgentOp c.opcode) { c with tries := c.tries + 1 } (s.count port 7 1) else commandFailed c inj s
      | some r =>
        let s := s.clearOnce (srcRing port) 0x22 2 (headTap c.head 0xFF)
        let g := s.ring
        let resp : RingResp := { cmd := c, answer := r }
        let s := { s with ring := if port = 0 then { g with q2 := g.q2 ++ [resp] } else { g with q6 := g.q6 ++ [resp] } }
        answerEffect c r s

/-- The last entry of head P taken out of a list of blocks. -/
def dropLast (p : Nat) (l : List BlockRec) : List BlockRec :=
  (l.reverse.eraseP fun r => r.block.p = p).reverse

/-- Take the block of P that came last out of the recording of the cycle: blocks kept for replay and for the lanes. -/
def unrecord (p : Nat) (s : State) : State :=
  { s with ring := { s.ring with blocks := dropLast p s.ring.blocks, q3 := dropLast p s.ring.q3, q7 := dropLast p s.ring.q7 } }

/-- Put a block that a drill held back into the recording. -/
def rerecord (port : Nat) (b : HeadBlock) (s : State) : State := recordBlock port b s

/-- A relaying unit records the command frames it decodes, with the responses in them (R70, R449). -/
def recordAnswer (port : Nat) (c : RingCmd) (answer : Option HeadResponse) (s : State) : State :=
  if s.ring.state != .relay then s
  else
    let s := { s with ring := { s.ring with heardCmds := s.ring.heardCmds ++ [{ port := port, cmd := c, answer := answer }] } }
    match answer with
    | none => s
    | some r =>
      let x : RingResp := { cmd := c, answer := r }
      { s with ring := if port = 0 then { s.ring with q2 := s.ring.q2 ++ [x] } else { s.ring with q6 := s.ring.q6 ++ [x] } }

/-- Deliver what an injection has held back on a ring port; a drill held it back from the recording alone (R76, R489). -/
def deliverHeld (s : State) (f : HeldFrame) : State :=
  match f with
  | .block port b => if (s.injector port).drill then rerecord port b s else takeBlock port b true s
  | .answer port seq addr r => takeAnswer port seq addr r true s
  | .relayed port c r => recordAnswer port c r s
  | .command port c => sendChars .clean port c.chars s
  | .eth _ _ => s
  | .can _ _ => s
  | .tether _ _ _ => s

/-- A block under a drill: everything acts on it as it came, and the recording shows what the injection made of it (R76, R489). -/
def drillBlock (what : Injected) (port : Nat) (b : HeadBlock) (s : State) : State :=
  let had := s.ring.validP.contains b.p
  let s := takeBlock port b false s
  if what = .clean || had || !s.ring.validP.contains b.p || (what = .corrupt && !s.maskBites port) then s
  else if what = .reorder then holdFrame port (.block port b) (unrecord b.p s) else unrecord b.p s

/-- HEAD_BLOCK_RECEIVE (R49): a block arrives at a port. Injection acts before the checks (R75), a drill on the recording alone. -/
def execHeadBlockReceive (port : Nat) (blk : HeadBlock) (s : State) : Out :=
  let (what, s) := injectFrame port 0 (s.ringFilter port 0 2 blk.p) s
  let s := if what = .clean then s else s.count port 11 1
  let (due, s) := dueFrames port s
  let s := if (s.injector port).drill then drillBlock what port blk s else
    match what with
    | .clean => takeBlock port blk (s.tainted port) s
    | .drop => s
    | .corrupt => takeBlock port { blk with checkOk := blk.checkOk && !s.maskBites port } true s
    | .reorder => holdFrame port (.block port blk) s
  .next (due.foldl deliverHeld s)

/-- Injection on the responses that reach the unit that sent the commands (R75). -/
def injectAnswer (what : Injected) (port seq addr : Nat) (answer : Option HeadResponse) (s : State) : State :=
  match what with
  | .clean => takeAnswer port seq addr answer (s.tainted port) s
  | .drop => takeAnswer port seq addr none true s
  | .corrupt => takeAnswer port seq addr (if s.maskBites port then none else answer) true s
  | .reorder => holdFrame port (.answer port seq addr answer) s

/-- Injection on the frames that a relaying unit records (R75, R76): without its response, without it if the mask bites, or later in the cycle. -/
def injectRelayed (what : Injected) (port : Nat) (c : RingCmd) (answer : Option HeadResponse) (s : State) : State :=
  match what with
  | .clean => recordAnswer port c answer s
  | .drop => recordAnswer port c none s
  | .corrupt => recordAnswer port c (if s.maskBites port then none else answer) s
  | .reorder => holdFrame port (.relayed port c answer) s

/-- COMMAND_FRAME_RETURN (R52): a command frame returns with its address byte and its response area; `relayed` is the command as a relaying
unit decodes it from the frame, with an answer or without. -/
def execCommandFrameReturn (port seq addr : Nat) (answer : Option HeadResponse) (relayed : Option RingCmd) (s : State) : Out :=
  let head := match relayed with
    | some c => c.head
    | none => ((s.ring.inFlight.find? fun c => c.port = port && c.seq = seq).map RingCmd.head).getD 0
  let (what, s) := injectFrame port 0 (s.ringFilter port 0 4 head && answer.isSome) s
  let s := if what = .clean then s else s.count port 11 1
  let (due, s) := dueFrames port s
  let s := match relayed with
    | some c => injectRelayed what port c answer s
    | none => injectAnswer what port seq addr answer s
  .next (due.foldl deliverHeld s)

/-! ### Command frames on their way out (R25, R53, R75) -/

/-- One command frame leaves a port; a reordering injection holds it back by its depth. -/
def launchCommand (port : Nat) (s : State) (c : RingCmd) : State :=
  let (what, s) := transmit port 3 c.head s
  let (due, s) := dueFrames port s
  let s := if what = .reorder then holdFrame port (.command port c) s else sendChars what port c.chars s
  due.foldl deliverHeld s

/-- Send one part of a port's asynchronous window: the urgent queue before the routine one, as many whole frames as `room` bytes hold (R25, R53). -/
def sendPart (port room : Nat) (s : State) : State :=
  let r := s.ring
  let urgent := if port = 0 then r.q0 else r.q4
  let routine := if port = 0 then r.q1 else r.q5
  let (u, ku, left, store) := takeFit urgent room s.storeLeft
  let (n, kn, _, _) := if ku.isEmpty then takeFit routine left store else ([], routine, left, store)
  let (frames, q) := numberFrames s.core.cycle (u ++ n) (Tab.nat r.seq port)
  let r := if port = 0 then { r with q0 := ku, q1 := kn } else { r with q4 := ku, q5 := kn }
  frames.foldl (launchCommand port) { s with ring := { r with seq := Tab.put r.seq port q, inFlight := r.inFlight ++ frames } }

/-- A port that does not originate sends nothing: a broadcast that waits on it is not sent later either. -/
def idlePort (port : Nat) (s : State) : State :=
  let keep := fun (l : List RingCmd) => l.filter fun c => c.mode != .broadcast
  { s with ring := if port = 0 then { s.ring with q0 := keep s.ring.q0 } else { s.ring with q4 := keep s.ring.q4 } }

/-! ### Effects of the ring's objects -/

/-- 2100.06: release the unwrap hold (R66). -/
def effUnwrapRelease (s : State) : State :=
  tryUnwrap ({ s with ring := { s.ring with unwrapHold := false, unwraps := [], unwrapTry := none } }.clearOnce (srcRing 0) 0x24 0 0)

/-- 2100.07: re-enumeration, refused outside ISOLATED and SERVICE (R68). -/
def condReEnumerate (s : State) : Nat := if s.idle then 0 else s.stateAbort abState

/-- 2110.0C and 2111.0C: clear a port's counters (R74). -/
def effCounterClear (port : Nat) (s : State) : State :=
  { s with ring := { s.ring with counters := s.ring.counters.filter fun e => e.1 / 16 != port } }

end Sys2Proof.Machine
end

