-- ==== Sys2Proof/Machine/Tap.lean ====
section
/-! DEFINITION. The tap monitor's qualified checks, the open-wire tests and their evaluation (R96-R103, R107). -/

namespace Sys2Proof.Machine

open Sys2Proof

/-- HEAD_SUM_MISMATCH (R98): 10 consecutive cycles beyond tolerance; unless an open end tap explains it, DEGRADE and every tap of the head
is tested, end taps first, in place of its scheduled tests of the present period (R101). -/
def execHeadSumMismatch (p : Nat) (s : State) : Out :=
  let n := s.channels p
  if Tab.nat s.tap.sumBad p < 10 || (s.diag p).getLsbD 0 || s.tapState p 0 = 4 || s.tapState p n = 4 then .next s
  else
    let s := (s.setDiag p 0 true).raiseOnce 0x018 0x34 .degrade 2 (headTap p 0xFF)
    let order := [0, n] ++ upFrom 1 (n - 1)
    let s := { s with tap := { s.tap with nextTap := Tab.put s.tap.nextTap p 0,
                                          dueAt := Tab.put s.tap.dueAt p (s.ahead (s.cfg 0x2103 1 * 1000)) } }
    .next (order.foldl (fun s t => startOwTest p t s) s)

/-- The string-sum check of one cycle (R99): run in every cycle in which every configured block is valid and whose own record holds a valid V_STR. Δs in
10 µV; the limit is 0.2 % of V_STR + 2 V. -/
def stringSum (s : State) : State :=
  let vals := s.allCells.map fun k => Tab.find s.tap.v k
  let own := s.ring.record.cycle = s.core.cycle && s.ring.record.status.getLsbD feVoltOk
  if !own || !(s.allHeads.all fun p => s.ring.validP.contains p) then s
  else match sumAll vals with
  | none => s
  | some x =>
    let vs := s.ring.record.vStr
    let d := x - vs * 100
    let bad := vs * 100 * 2 + 200000 * 1000 < 1000 * (d.natAbs : Int)
    let s := { s with tap := { s.tap with strDev := qdiv d 100, strBad := if bad then s.tap.strBad + 1 else 0,
                                          strGood := if bad then 0 else s.tap.strGood + 1 } }
    if 100 ≤ s.tap.strGood then s.clearOnce 0x018 0x35 0 0 else s

/-- STRING_SUM_MISMATCH (R99): 10 consecutive cycles beyond tolerance. -/
def execStringSumMismatch (s : State) : Out :=
  if 10 ≤ s.tap.strBad then .next (s.raiseOnce 0x018 0x35 .warn 0 0) else .next s

/-! ### Open-wire tests -/

/-- Whether the head's next scheduled test is due (R101); the first one is when it is first asked for. -/
def State.owDue (s : State) (p : Nat) : Bool :=
  match Tab.find s.tap.dueAt p with
  | some c => decide ((s.core.cycle - c).toNat < 2 ^ 31)
  | none => true

/-- OPEN_WIRE_TEST_SCHEDULE (R101): the head's next scheduled tap, every tap once per period 2103.01, spread evenly over it; a head with a test in progress
or taps waiting is left alone. -/
def execOpenWireTestSchedule (p : Nat) (s : State) : Out :=
  let n := s.channels p
  if !s.ring.originating || (s.owTesting p).isSome || Tab.at s.tap.testQueue p [] != [] || n = 0 || !s.owDue p then .next s
  else
    let t := Tab.nat s.tap.nextTap p
    let t := if n < t then 0 else t
    let due := Tab.at s.tap.dueAt p s.core.cycle + BitVec.ofNat 32 (s.cfg 0x2103 1 * 1000 / (n + 1))
    .next (startOwTest p t { s with tap := { s.tap with nextTap := Tab.put s.tap.nextTap p ((t + 1) % (n + 1)), dueAt := Tab.put s.tap.dueAt p due } })

/-- The change of reading i between the two samples of a test. -/
def OwEval.delta (e : OwEval) (i : Nat) : Option Int :=
  match e.base, e.last with
  | some a, some b => (match readingAt a.cells i, readingAt b.cells i with
    | some x, some y => some (y - x)
    | _, _ => none)
  | _, _ => none

/-- The change of the stack channel, in 10 µV. -/
def OwEval.deltaStack (e : OwEval) : Option Int :=
  match e.base, e.last with
  | some a, some b => (match a.stack, b.stack with
    | some x, some y => some (10 * (y - x))
    | _, _ => none)
  | _, _ => none

/-- Twice the drive d of a test in 10 µV (R102): mid tap, end tap 0, end tap N of a head with N channels. -/
def OwEval.twiceD (e : OwEval) (n : Nat) : Option Int :=
  let others := fun (i : Nat) => sumAll (((upFrom 1 n).filter fun j => j != i).map fun j => e.delta j)
  let at_ := fun (i : Nat) => match e.delta i, e.deltaStack, others i with
    | some a, some st, some o => some (2 * (a - (st - o)))
    | _, _, _ => none
  if e.tap = 0 then (at_ 1).map fun d => -d
  else if e.tap = n then at_ n
  else match e.delta e.tap, e.delta (e.tap + 1) with
    | some a, some b => some (a - b)
    | _, _ => none

/-- Set or clear the flags that a tap's state gives its cells: sense lost beside an open tap, tap suspect beside a suspected one, and the
end of either when no tap of the cell has the state any more. -/
def tapFlags (p tap : Nat) (s : State) : State :=
  (s.tapCells p tap).foldl (fun s k =>
    let i := k + 1 - s.firstCell p
    let open_ := s.tapState p (i - 1) = 4 || s.tapState p i = 4
    let susp := s.tapState p (i - 1) = 2 || s.tapState p i = 2
    (s.setCellFlag k cfSenseLost open_).setCellFlag k cfTapSuspect susp) s

/-- A tap is found open (R102, R103): sense lost at DEGRADE. -/
def tapOpen (p tap : Nat) (inj : Bool) (s : State) : State :=
  let s := tapFlags p tap (s.setTap p tap 4)
  if s.raised 0x018 0x33 2 (headTap p tap) then s else s.reportInj inj 0x018 0x33 .degrade 2 (headTap p tap)

/-- A suspicion that ended intact (R103): more than 3 on one tap within an hour recur. -/
def transient (p tap : Nat) (s : State) : State :=
  let l := s.recent 3600000 (Tab.at s.tap.transients (tapKey p tap) []) ++ [s.core.cycle]
  let s := { s with tap := { s.tap with transients := Tab.put s.tap.transients (tapKey p tap) l } }
  if 3 < l.length then s.raiseOnce 0x018 0x31 .warn 2 (headTap p tap) else s

/-- A tap tested intact: the test counts for R107, a suspicion ends, and a state of 3 or 4 stays until a session clears it (R107). -/
def tapIntact (p tap : Nat) (s : State) : State :=
  let key := tapKey p tap
  let s := { s with tap := { s.tap with intactTests := Tab.put s.tap.intactTests key (keepN 3 (s.core.cycle :: Tab.at s.tap.intactTests key [])) } }
  match s.tapState p tap with
  | 2 => transient p tap (tapFlags p tap ((s.setTap p tap (if Tab.flag s.tap.wasHigh key then 3 else 0)).clearOnce 0x018 0x30 2 (headTap p tap)))
  | 1 => s.setTap p tap 0
  | _ => s

/-- Classify a tap by twice its drive, in 10 µV (R102). The flag is false when the result was implausible. -/
def classify (p tap : Nat) (d2 : Int) (inj : Bool) (s : State) : Bool × State :=
  let addr := headTap p tap
  let key := tapKey p tap
  let notIntact := fun (s : State) => { s with tap := { s.tap with intactTests := Tab.drop s.tap.intactTests key } }
  if d2 < -400 then
    (false, chanDiag p (if s.raised 0x018 0x36 2 addr then notIntact s else (notIntact s).reportInj inj 0x018 0x36 .warn 2 addr))
  else
    let s := chanDiag p (s.clearOnce 0x018 0x36 2 addr)
    if d2 ≤ 400 then (true, tapIntact p tap s)
    else
      let s := (notIntact s).clearOnce 0x018 0x30 2 addr
      if d2 < 20000 then
        if s.tapState p tap = 4 then (true, s)
        else
          let s := tapFlags p tap (s.setTap p tap 3)
          (true, if s.raised 0x018 0x32 2 addr then s else s.reportInj inj 0x018 0x32 .warn 2 addr)
      else (true, tapOpen p tap inj s)

/-- After a test: the head's next waiting tap. -/
def nextOwTest (p : Nat) (e : OwEval) (s : State) : State :=
  let s := match e.cr with
    | some c => { s with tap := { s.tap with afterTest := Tab.put s.tap.afterTest p (e.tap, c + BitVec.ofNat 32 (e.k + 2)) } }
    | none => s
  let s := { s with tap := { s.tap with tests := Tab.drop s.tap.tests p, lastTest := Tab.put s.tap.lastTest p s.core.cycle } }
  match Tab.at s.tap.testQueue p [] with
  | [] => s
  | t :: rest => startOwTest p t { s with tap := { s.tap with testQueue := Tab.put s.tap.testQueue p rest } }

/-- OPEN_WIRE_EVALUATION (R102): from the baseline and last source-on samples of the head's test; without them by Cr + 10 the test is
repeated once. The pass after the last source-on sample ends the pair bounds one cycle later (R106). -/
def execOpenWireEvaluation (p : Nat) (s : State) : Out :=
  match s.owTesting p with
  | none => .next s
  | some e =>
    match e.cr with
    | none => .next s
    | some c =>
      match e.twiceD (s.channels p) with
      | none => if s.passed c 10 then .next (owAgain p s) else .next s
      | some d =>
        let inj := s.tainted (s.portOf p)
        let (ok, s) := classify p e.tap d inj s
        if ok || e.retried then .next (nextOwTest p e s) else .next (owAgain p s)

/-- TAP_SUSPICION_TIMEOUT (R102): no result 1 s after the suspicion. -/
def execTapSuspicionTimeout (p tap : Nat) (s : State) : Out :=
  if s.tapState p tap = 2 && s.ran (Tab.find s.tap.suspectedAt (tapKey p tap)) 1000 then
    .next (tapOpen p tap (s.tainted (s.portOf p)) (s.clearOnce 0x018 0x30 2 (headTap p tap)))
  else .next s

/-- A tap that has gone an hour without a suspicion no longer recurs (R103). -/
def recurringEnds (s : State) : State :=
  (s.ranger.active.filter fun a => a.msg.kind = 0x31).foldl (fun s a =>
    let p := a.msg.val / 256
    let t := a.msg.val % 256
    let last := match Tab.find s.tap.suspectedAt (tapKey p t) with
      | some c => s.passed c 3600000
      | none => true
    if last then s.clearOnce 0x018 0x31 2 a.msg.val else s) s

/-! ### Effects of the measurement objects -/

/-- 2103.06: an on-demand test of a tap, or of every tap of a head (R101). -/
def effOwRequest (v : Nat) (s : State) : State :=
  let p := v / 256 % 256
  let t := v % 256
  if t = 0xFF then (s.taps p).foldl (fun s t => startOwTest p t s) s else startOwTest p t s

/-- The value of 2103.06 names a configured head and one of its taps. -/
def condOwRequest (v : Nat) (s : State) : Nat :=
  let p := v / 256 % 256
  if s.allHeads.contains p && (v % 256 = 0xFF || v % 256 ≤ s.channels p) then 0 else abRange

/-- Whether the tap's last 3 tests were intact and at least 10 s apart (R107). -/
def State.intact3 (s : State) (key : Nat) : Bool :=
  match Tab.at s.tap.intactTests key [] with
  | [a, b, c] => 10000 ≤ (a - b).toNat && 10000 ≤ (b - c).toNat
  | _ => false

/-- 2103.05: sense lost and tap states 3 and 4 are cleared in ISOLATED or SERVICE after 3 intact tests (R107). -/
def condSenseLostClear (v : Nat) (s : State) : Nat :=
  let p := v / 256 % 256
  let t := v % 256
  if !s.allHeads.contains p || s.channels p < t then abRange
  else if !s.idle then s.stateAbort abState
  else if s.intact3 (tapKey p t) then 0 else abortArg abNotReleased v

/-- Clear a tap's mark (R107). -/
def effSenseLostClear (v : Nat) (s : State) : State :=
  let p := v / 256 % 256
  let t := v % 256
  let s := tapFlags p t (s.setTap p t 0)
  (s.clearOnce 0x018 0x33 2 (headTap p t)).clearOnce 0x018 0x32 2 (headTap p t)

/-- 2103.08: bleed gate failure of a head, in ISOLATED or SERVICE (R96). -/
def condGateClear (v : Nat) (s : State) : Nat := if !s.allHeads.contains v then abRange else if s.idle then 0 else s.stateAbort abState

/-- Clear bleed gate failure (R96). -/
def effGateClear (p : Nat) (s : State) : State :=
  let s := (s.setDiag p 1 false).clearOnce 0x018 0x37 2 (headTap p 0xFF)
  let s := { s with tap := { s.tap with gateRun := Tab.put s.tap.gateRun p 0 } }
  s.modThin p fun h => { h with excluded := false }

end Sys2Proof.Machine
end

