-- ==== Sys2Proof/Machine/Firebreak.lean ====
section
/-! DEFINITION. The Firebreak's timed causes (R262), the clearing of causes (R273), the trip sequence (R269-R271), the Hall comparator
(R115, R264), the disconnector interlock (R274) and the comparison of protection summaries (R275, R276). -/

namespace Sys2Proof.Machine

open Sys2Proof

/-- CELLS_UNMEASURED (R262): cell k without a valid value for the missing-sample limit. -/
def execCellsUnmeasured (k : Nat) (s : State) : Out :=
  if s.hasEnv && s.fb.armed && s.env 0x5800 9 ≤ Tab.nat s.fb.missRun k && !s.causeRaised 13 1 k then
    .next (qualify 13 1 k (s.tainted 0 || s.tainted 1) s)
  else .next s

/-- Whether point n reports to the Firebreak: kind 1 or 3 with flag [0] or [1] (R253). -/
def State.watchedPoint (s : State) (n : Nat) : Bool :=
  (s.pointKind n = 1 || s.pointKind n = 3) && (s.pointFlag n 0 || s.pointFlag n 1)

/-- Whether a point has had no valid report for `t` cycles. -/
def State.reportLost (s : State) (n t : Nat) : Bool :=
  match Tab.find s.fb.lastReport n with
  | some c => s.passed c t
  | none => s.fb.armed

/-- TEMPERATURE_POINT_LOST (R262): no valid report for 100 ms. -/
def execTemperaturePointLost (n : Nat) (s : State) : Out :=
  if s.watchedPoint n && s.reportLost n 100 then
    .next ({ s with fb := { s.fb with goodSince := Tab.drop s.fb.goodSince n } }.raiseOnce 0x010 0x1C .warn 3 n)
  else .next s

/-- The cell-temperature points that name a head: kind 1 with flag [0] (R262). -/
def State.headCellPoints (s : State) (p : Nat) : List Nat := (s.headPoints p).filter fun n => s.pointFlag n 0

/-- Watched heads in the condition *head temperature lost*. -/
def State.headsLost (s : State) : Nat := (s.allHeads.filter fun p => s.raised 0x010 0x1D 2 (headTap p 0xFF)).length

/-- HEAD_TEMPERATURE_LOST (R262): no valid point of a watched head for 1 s; more such heads than 5801.08 raise *cells unmeasured*. -/
def execHeadTemperatureLost (p : Nat) (s : State) : Out :=
  let pts := s.headCellPoints p
  if s.allHeads.contains p && !pts.isEmpty && pts.all (fun n => s.reportLost n 1000) then
    let s := s.raiseOnce 0x010 0x1D .degrade 2 (headTap p 0xFF)
    if s.hasEnv && s.env 0x5801 8 < s.headsLost && !s.causeRaised 13 0 0 then .next (qualify 13 0 0 false s) else .next s
  else .next s

/-- Whether the condition of a raised cause has been absent as R273 states. -/
def State.causeGone (s : State) (bit cls val : Nat) : Bool :=
  let run := Tab.nat s.fb.clearRun (runKey bit cls val)
  if bit ≤ 3 || bit = 8 then 1000 ≤ run
  else if bit ≤ 7 then 1000 ≤ run * sourcePeriod (s.pointCfg val 1)
  else if bit = 9 then 1000 ≤ run
  else if bit = 10 then s.fb.accChg = 0
  else if bit = 11 then s.fb.accDis = 0
  else if bit = 13 then
    (match cls with
     | 1 => 1000 ≤ Tab.nat s.fb.goodRun val
     | 2 => (s.cellsOf (val / 256)).all fun k => 1000 ≤ Tab.nat s.fb.goodRun k
     | _ => s.headsLost ≤ s.env 0x5801 8)
  else if bit = 18 then 1000 ≤ run
  else if bit = 19 then false
  else 2 ≤ run

/-- FIREBREAK_CAUSE_CLEAR (R273): a raised cause whose condition has been absent long enough; a passed self-test clears the configuration
fault in its own step. -/
def execFirebreakCauseClear (bit cls val : Nat) (s : State) : Out :=
  if s.causeRaised bit cls val && s.causeGone bit cls val then
    let s := clearCause bit cls val s
    if bit = 13 && cls = 2 then
      .next (s.modInfo (val / 256) fun h =>
        let port := Tab.at s.cruiser.assign (val / 256) 0
        if h.unreachable then { h with unreachable := false, from_ := port, hop := s.hopFrom port (val / 256) } else h)
    else .next s
  else .next s

/-! ### The trip sequence -/

/-- Release both coils and keep what 5810.07 and 5810.08 show of it. -/
def tripRelease (us : Nat) (s : State) : State :=
  let i := s.breakCurrent.getD 0xFFFFFFFF
  let s := releaseCoils true s
  { s with fb := { s.fb with breakCur := i, toRelease := us, trip := { s.fb.trip with released := true, us := us } } }

/-- *Over-current break* (R269): WARN, an occurrence; 2013.09. -/
def overBreak (s : State) : State :=
  { s with fe := { s.fe with openAbove := add32 s.fe.openAbove 1 } }.report 0x011 0x18 .warn 0 0

/-- The lead before the first break decision, µs. -/
def State.tripLead (s : State) : Nat := (s.env 0x5802 9).toNat

/-- BREAK_DECISION (R269, R270): a fast sample `us` µs after t_trip. Released at or below the break current; with a break wait of 0 the
first decision is the last. -/
def execBreakDecision (us : Nat) (s : State) : Out :=
  if s.fb.trip.running && !s.fb.trip.released && s.tripLead ≤ us then
    if s.belowBreak then .next (tripRelease us s)
    else if s.fb.trip.wait = 0 then .next (overBreak (tripRelease us s))
    else .next { s with fb := { s.fb with trip := { s.fb.trip with us := us } } }
  else .next s

/-- BREAK_WAIT_EXPIRY (R269): at t_trip + lead + break wait. -/
def execBreakWaitExpiry (us : Nat) (s : State) : Out :=
  if s.fb.trip.running && !s.fb.trip.released && s.tripLead + s.fb.trip.wait * 1000 ≤ us then .next (overBreak (tripRelease us s))
  else .next s

/-- HALL_COMPARATOR_TRIP (R115, R263, R264): the Hall signal crosses a threshold while PD8 is powered and an envelope sets one. -/
def execHallComparatorTrip (s : State) : Out :=
  if s.pd 8 && s.hasEnv then
    let s := { s with fe := { s.fe with hallOperated := true } }
    .next ((qualify pcHall 0 0 false s).setFe feHallTrip true)
  else .next s

/-! ### The disconnector interlock -/

/-- Whether every condition of R274 holds. -/
def State.interlockOk (s : State) : Bool :=
  let m := s.feBit feMainOk
  let h := s.feBit feHallOk
  s.bothOpen && s.ran s.fe.bothOpenSince 100 && (m || h) && (!m || s.fe.fastMain.natAbs ≤ 5000) && (!h || s.fe.fastHall.natAbs ≤ 5000)

/-- The interlock on each fast sample (R274): a condition lost during a move stops the axis without a ramp. -/
def interlock (s : State) : State :=
  let ok := s.interlockOk
  let s := { s with fb := { s.fb with axis3 := ok } }
  if ok then s.clearOnce 0x010 0x19 0 0
  else if (s.axis 3).moving then (cutAxis 3 s).raiseOnce 0x010 0x19 .warn 0 0
  else s

/-! ### The i²t integrator -/

/-- One accumulator in mA² × 50 µs: the sample's square less the continuous current's, never below 0 (R265). -/
def i2tStep (acc : Nat) (i ic : Nat) : Nat := (max 0 ((acc : Int) + (i * i : Nat) - (ic * ic : Nat))).toNat

/-- A limit in A²s as an accumulator value. -/
def i2tLimit (k : Int) : Nat := k.toNat * 20000 * 1000000

/-- The i²t integrator on one fast sample pair (R265): a positive sample charges; the direction is that of the larger magnitude. -/
def i2tSample (s : State) : State :=
  let m := if s.mainUsable then some s.fe.fastMain else none
  let h := if s.feBit feHallOk then some s.fe.fastHall else none
  let pick := match m, h with
    | some a, some b => some (if b.natAbs ≤ a.natAbs then a else b)
    | some a, none => some a
    | none, some b => some b
    | none, none => none
  if !s.hasEnv then s
  else match pick with
  | none => s
  | some i =>
    let icC := (s.env 0x5802 3).toNat * 1000
    let icD := (s.env 0x5802 4).toNat * 1000
    let pos := decide (0 < i)
    let s := { s with fb := { s.fb with accChg := i2tStep s.fb.accChg (if pos then i.natAbs else 0) icC,
                                        accDis := i2tStep s.fb.accDis (if pos then 0 else i.natAbs) icD } }
    let s := if i2tLimit (s.env 0x5802 5) ≤ s.fb.accChg && !s.causeRaised 10 5 1 then qualify 10 5 1 false s else s
    if i2tLimit (s.env 0x5802 6) ≤ s.fb.accDis && !s.causeRaised 11 5 2 then qualify 11 5 2 false s else s

/-! ### Protection summaries -/

/-- The counters of a cell as one byte (R275). -/
def State.cellByte (s : State) (k : Nat) : Byte :=
  let c := fun (b : Nat) => Tab.nat s.fb.cellCnt (8 * k + b)
  BitVec.ofNat 8 (c 2 * 64 + c 3 * 16 + c 0 * 4 + c 1)

/-- The compared points, in order. -/
def State.comparedPoints (s : State) : List Nat := (upFrom 0 2048).filter fun n => s.watchedPoint n

/-- The temperature counters of a point as one byte, over, under, hard, coolant from the top (DESIGN CHOICE, log entry 14). -/
def State.pointByte (s : State) (n : Nat) : Byte :=
  let c := fun (b : Nat) => Tab.nat s.fb.tempCnt (8 * n + b)
  BitVec.ofNat 8 (c 0 * 64 + c 1 * 16 + c 2 * 4 + c 3)

/-- This unit's summary of the present cycle (R275). -/
def State.ownSummary (s : State) : Summary :=
  { own := true, cycle := s.core.cycle, cellCrc := (crc32c (s.allCells.map s.cellByte)).toNat,
    tempCrc := (crc32c (s.comparedPoints.map s.pointByte)).toNat,
    causes := s.fb.causes.toNat % 512 + (if s.cause 13 then 0x2000 else 0), hall := s.fe.hall, vStr := s.fe.vStr }

/-- Whether the cell parts of two summaries match: both check sums and the bits (R276). -/
def cellPartOk (a b : Summary) : Bool := a.cellCrc = b.cellCrc && a.tempCrc = b.tempCrc && a.causes = b.causes

/-- Whether the front-end parts match: Hall within 2 % + 20 A, V_STR within 0.3 % + 3 V of this unit's value (R276). -/
def frontPartOk (own other : Summary) : Bool :=
  100 * (own.hall - other.hall).natAbs ≤ 2 * own.hall.natAbs + 2000000
    && 1000 * (own.vStr - other.vStr).natAbs ≤ 3 * own.vStr.natAbs + 3000000

/-- Compare one cycle's summaries (R276). -/
def compareSummaries (own other : Summary) (s : State) : State :=
  let f := s.fb
  let c := if cellPartOk own other then 0 else f.cellMis + 1
  let e := if frontPartOk own other then 0 else f.feMis + 1
  let s := { s with fb := { f with cellMis := c, feMis := e,
                                   mismatches := if c = 3 || e = 10 then inc32 f.mismatches else f.mismatches } }
  if 3 ≤ c || 10 ≤ e then s.raiseOnce 0x010 0x1A .degrade 0 0
  else if c = 0 && e = 0 then s.clearOnce 0x010 0x1A 0 0
  else s

/-- PROTECTION_SUMMARY_COMPARE (R276): the partner's summary of a cycle, if one arrives, and what becomes comparable with it; a cycle not
comparable within 5 cycles counts in 5810.0A. -/
def execProtectionSummaryCompare (partner : Option Summary) (s : State) : Out :=
  if !s.inPair then .next s
  else
    let add := match partner with
      | some p => [{ p with own := false }]
      | none => []
    let l := s.pair.summaries ++ add
    let owns := l.filter fun x => x.own
    let others := l.filter fun x => !x.own
    let pairs := owns.filterMap fun o => (others.find? fun x => x.cycle = o.cycle).map fun x => (o, x)
    let s := pairs.foldl (fun s e => compareSummaries e.1 e.2 s) s
    let rest := l.filter fun x => !pairs.any fun e => e.1.cycle = x.cycle
    let late := rest.filter fun x => 5 < s.since x.cycle && s.since x.cycle < 2 ^ 31
    .next { s with pair := { s.pair with summaries := rest.filter fun x => !late.contains x },
                   fb := { s.fb with late := add32 s.fb.late late.length } }

end Sys2Proof.Machine
end

