-- ==== Sys2Proof/Machine/Winch.lean ====
section
/-! DEFINITION. The Winch (R324-R339): targets and gearing, standstill, chopper fall-back, step loss, switches, homing, the disconnector, and
motion on the HV backup supply. How far an axis has come along its ramp is an operand of its events (log entry 32). -/

namespace Sys2Proof.Machine

open Sys2Proof

/-! ### Position, encoder and gearing -/

/-- Encoder position in microsteps (6870.05): the home reference plus the counts since, scaled (R332). -/
def State.encoderPos (s : State) (a : Nat) : Int :=
  let x := s.axis a
  if s.axisCfg a 0x0A = 0 then 0 else x.encBase + qdiv ((x.encoder - x.encZero) * s.axisCfg a 0x0B) (s.axisCfg a 0x0A)

/-- The adaptive offset after the mean errors of some blocks of 64 chopper periods (R329). -/
def adaptOffset (band : Nat) (o : Int) (means : List Int) : Int :=
  means.foldl (fun o e => clampI (-(band / 2 : Nat)) (band / 2 : Nat) (o + qdiv e 8)) o

/-- Take in where an axis stands: position and velocity while it moves, encoder, adaptive offset, and the time since which position and
encoder differ by more than the window (R332). -/
def seeAxis (a : Nat) (now : AxisNow) (s : State) : State :=
  let s := s.modAxis a fun x =>
    { x with pos := if x.moving then now.pos else x.pos, vel := if x.moving then now.vel else x.vel, encoder := now.enc,
             chopOffset := adaptOffset (s.axisCfg a 0x0D) x.chopOffset now.means }
  let off := s.axisCfg a 0x0A != 0 && (s.axis a).homed && decide (s.axisCfg a 0x0C < ((s.axis a).pos - s.encoderPos a).natAbs)
  s.modAxis a fun x => { x with lossSince := if off then s.start x.lossSince else none, coil := if x.moving then s.runCurrent a else x.coil }

/-- Master axis of a follower. -/
def State.masterOf (s : State) (a : Nat) : Nat := s.cfg (0x688F + a) 1

/-- The master count m of a follower (R335). -/
def State.masterCount (s : State) (a : Nat) : Int := (s.axis (s.masterOf a)).encoder - (s.axis (s.masterOf a)).encZero

/-- The breakpoints of a follower: master position, numerator, denominator (R335, R341). -/
def State.breakpoints (s : State) (a : Nat) : List (Int × Int × Nat) :=
  let b := s.octets (0x688F + a) 5
  (upFrom 0 (s.cfg (0x688F + a) 4)).map fun j => (fieldI b (12 * j) 4, fieldI b (12 * j + 4) 4, fieldN b (12 * j + 8) 4)

/-- trunc(num × d / den). -/
def gear (num d : Int) (den : Nat) : Int := (num * d).tdiv den

/-- Position gained from the first breakpoint `b` on to m, along the segments (R335). -/
def alongSegments (m : Int) : List (Int × Int × Nat) → Int
  | [] => 0
  | [(b, num, den)] => gear num (m - b) den
  | (b, num, den) :: (b2, n2, d2) :: t =>
    if m < b2 then gear num (m - b) den else gear num (b2 - b) den + alongSegments m ((b2, n2, d2) :: t)

/-- f(m) of R335 for a follower that began at position f0 and master m0. -/
def followAt (num : Int) (den : Nat) (bs : List (Int × Int × Nat)) (f0 m0 m : Int) : Int :=
  match bs with
  | [] => f0 + gear num (m - m0) den
  | (b, n, d) :: t =>
    let f1 := if m0 < b then f0 + gear num (b - m0) den else f0 - alongSegments m0 ((b, n, d) :: t)
    if m < b then (if m0 < b then f0 + gear num (m - m0) den else f1 + gear num (m - b) den)
    else f1 + alongSegments m ((b, n, d) :: t)

/-- The commanded position of a follower, once it follows. -/
def State.followTarget (s : State) (a : Nat) : Option Int :=
  (s.axis a).follow.map fun f =>
    followAt (s.num (0x688F + a) 2) (s.cfg (0x688F + a) 3) (s.breakpoints a) f.1 f.2 (s.masterCount a)

/-- Update a follower's lag and the time since which it exceeds the window (R335). -/
def seeLag (a : Nat) (s : State) : State :=
  match s.followTarget a with
  | some f =>
    let lag := f - (s.axis a).pos
    s.modAxis a fun x => { x with lag := lag, lagSince := if s.cfg (0x688F + a) 6 < lag.natAbs then s.start x.lagSince else none }
  | none => s

/-- The fire target of an axis, if it has one (R323). -/
def State.fireTarget (s : State) (a : Nat) : Option Int :=
  let t := s.num (0x685F + a) 0x13
  if t = -(2 ^ 31) then none else some t

/-- The target that an axis's mode gives it now (R325, R323): none where it has none of its own. -/
def State.wantedTarget (s : State) (a : Nat) : Option Int :=
  if s.cause pcFire then s.fireTarget a
  else match s.axisMode a with
    | 1 => if (s.axis a).homed then some (s.node (s.axisCfg a 2)) else none
    | 2 => if (s.axis a).homed && !(s.axis a).lagHold then s.followTarget a else none
    | _ => none

/-- AXIS_TARGET_CHANGE (R323, R325, R326, R335): axis a reads its target and replans from its present position and velocity. -/
def execAxisTargetChange (a : Nat) (now : AxisNow) (s : State) : Out :=
  if a = 0 || 4 < a then .next s
  else
    let s := seeLag a (seeAxis a now s)
    if (s.axis a).fenced || (s.axis a).homing != .idle then .next s
    else match s.wantedTarget a with
      | some t => .next (if t = (s.axis a).target && ((s.axis a).moving || (s.axis a).pos = t) then s else retarget a t s)
      | none => .next (if s.cause pcFire then stopAxis a false (s.modAxis a fun x => { x with discCmd := .none }) else s)

/-- STANDSTILL_DELAY (R327): the coil current falls to the standstill level. -/
def execStandstillDelay (a : Nat) (s : State) : Out :=
  let x := s.axis a
  if !x.moving && s.ran x.stillSince (s.axisCfg a 5) && !x.fenced && x.state != .disabled then
    .next (s.modAxis a fun x => { x with coil := s.standCurrent a })
  else .next s

/-! ### Chopper -/

/-- CHOPPER_FALL_BACK (R330): `fails` consecutive chopper periods have failed the comparator's check. -/
def execChopperFallBack (a fails : Nat) (s : State) : Out :=
  let x := s.axis a
  if 1 ≤ a && a ≤ 4 && 4 ≤ fails && !x.fallBack && !x.fenced then
    .next (((s.modAxis a fun x => { x with fallBack := true }).tellEvent 0x0040 3 a []).raiseOnce (srcAxis a) 0x81 .notice 5 a)
  else .next s

/-- The chopper is restored at standstill only. -/
def condChopperRestore (a : Nat) (s : State) : Nat := if (s.axis a).moving then s.stateAbort abState else 0
def effChopperRestore (a : Nat) (s : State) : State := (s.modAxis a fun x => { x with fallBack := false }).clearOnce (srcAxis a) 0x81 5 a

/-! ### Homing (R336) -/

/-- The target that ends a homing search in a direction: what is left of the run's maximum travel, 6880 + a.05, when `used` is travelled (R336). -/
def State.searchTarget (s : State) (a : Nat) (positive : Bool) (used : Nat) : Int :=
  let t : Int := s.cfg (0x687F + a) 5 - used
  (s.axis a).pos + if positive then t else -t

/-- v_home. -/
def State.vHome (s : State) (a : Nat) : Nat := s.cfg (0x687F + a) 2

/-- Start a homing run; on backup it waits for AUX (R327). -/
def startHoming (a : Nat) (s : State) : State :=
  if !(s.axisMode a = 1 || s.axisMode a = 2 || s.axisMode a = 4) || (s.axis a).fenced then s
  else if s.motionHeld then s.modAxis a fun x => { x with homeWait := true }
  else
    let dir := s.cfg (0x687F + a) 1 = 0
    let s := s.modAxis a fun x => { x with homing := .search, homed := false, homeLimit := false, homeDir := dir, homeFrom := x.pos,
                                           homeWait := false, lagHold := false, lagSince := none, follow := none, state := .homing }
    beginMoveAt a (s.searchTarget a dir 0) (s.vHome a) (s.clearOnce (srcAxis a) 0x85 5 a)

/-- Whether a home request is taken. -/
def condHome (a : Nat) (s : State) : Nat :=
  if (s.axisMode a = 1 || s.axisMode a = 2 || s.axisMode a = 4) && !(s.axis a).fenced then 0 else s.stateAbort abState

/-- A homing run ends without a home: result, stop, *homing fault* at WARN (R336). -/
def homingFault (a result : Nat) (hard : Bool) (s : State) : State :=
  let s := s.modAxis a fun x => { x with homing := .idle, homed := false, homeResult := result, state := .fault }
  let s := if (s.axis a).moving then s.modAxis a fun x => { x with ramp := if hard then .hardStop else .stopping } else s
  s.raiseOnce (srcAxis a) 0x86 .warn 5 a

/-- A homing run is aborted (R336): result 5, unhomed. -/
def abortHoming (a : Nat) (s : State) : State :=
  if (s.axis a).homing = .idle then s
  else stopAxis a false (s.modAxis a fun x => { x with homing := .idle, homed := false, homeResult := 5 })

/-- HOME found in the slow approach: the latched position becomes the home offset (R336). -/
def homedAt (a : Nat) (latched : Int) (s : State) : State :=
  let off := s.num (0x687F + a) 4
  let s := s.modAxis a fun x => { x with pos := x.pos - latched + off, homing := .final, homed := true, homeResult := 1, ramp := .stopping,
                                         encZero := x.encoder, encBase := x.pos - latched + off }
  (s.clearOnce (srcAxis a) 0x86 5 a).clearOnce (srcAxis a) 0x82 5 a

/-- A qualified switch becomes active during homing (R336): 0 LIM+, 1 LIM−, 2 HOME. -/
def homingSwitch (a input : Nat) (latched : Int) (s : State) : State :=
  let x := s.axis a
  let along := input = 0 && x.homeDir || input = 1 && !x.homeDir
  match x.homing with
  | .search =>
    if input = 2 then s.modAxis a fun x => { x with homing := .backOff, ramp := .stopping }
    else if !along then homingFault a 2 true s
    else if x.homeLimit then homingFault a 3 true s
    else s.modAxis a fun x => { x with homeLimit := true, homeDir := !x.homeDir, ramp := .stopping }
  | .slow => if input = 2 then homedAt a latched s else homingFault a (if along then 3 else 2) true s
  | .idle | .backOff | .final => s

/-! ### Step loss and gearing lag -/

/-- STEP_LOSS (R332): position and encoder have differed beyond the window for 10 ms. -/
def execStepLoss (a : Nat) (now : AxisNow) (s : State) : Out :=
  let s := seeAxis a now s
  let x := s.axis a
  if s.ran x.lossSince 10 then
    let again := s.cfg (0x687F + a) 6 = 1 && (match x.lastLoss with
      | some c => !decide (s.since c < 3600000)
      | none => true)
    let s := s.modAxis a fun x => { x with homed := false, follow := none, lossSince := none, lastLoss := some s.core.cycle,
                                           losses := inc32 x.losses, homeWait := again }
    let s := (stopAxis a true s).raiseOnce (srcAxis a) 0x82 .warn 5 a
    .next (if again && !(s.axis a).moving then startHoming a s else s)
  else .next s

/-- GEARING_LAG (R335): the follower has lagged beyond the window for 100 ms. -/
def execGearingLag (a : Nat) (now : AxisNow) (s : State) : Out :=
  let s := seeLag a (seeAxis a now s)
  let x := s.axis a
  if s.axisMode a = 2 && x.follow.isSome && !x.lagHold && s.ran x.lagSince 100 then
    .next ((stopAxis a false (s.modAxis a fun x => { x with lagHold := true })).raiseOnce (srcAxis a) 0x85 .warn 5 a)
  else .next s

/-! ### Switches (R333, R334, R337, R338) -/

/-- What a newly active switch does outside homing: a limit in the direction of motion stops the axis (R334); the target switch of the
disconnector ends its move (R337). -/
def switchActive (a input : Nat) (s : State) : State :=
  let x := s.axis a
  if s.axisMode a = 3 then
    (if (x.discCmd = .close && input = 0) || (x.discCmd = .open_ && input = 1) then
       (stopAxis a false (s.modAxis a fun x => { x with discCmd := .none })).clearOnce (srcAxis a) 0x87 5 a
     else s)
  else if (input = 0 && 0 < x.vel) || (input = 1 && x.vel < 0) then (stopAxis a true s).raiseOnce (srcAxis a) 0x84 .warn 5 a
  else s

/-- Both end switches of the disconnector active at once (R338): DEGRADE, cleared once they have not both been active for 100 ms. -/
def bothSwitches (s : State) : State :=
  let x := s.axis 3
  if s.axisMode 3 != 3 then s
  else if x.limP && x.limN then
    (s.modAxis 3 fun x => { x with switchOkSince := none }).raiseOnce (srcAxis 3) 0x88 .degrade 5 3
  else s.modAxis 3 fun x => { x with switchOkSince := s.start x.switchOkSince }

/-- Per cycle: the clear of *disconnector switch fault*. -/
def switchFaultClear (s : State) : State :=
  if s.ran (s.axis 3).switchOkSince 100 then s.clearOnce (srcAxis 3) 0x88 5 3 else s

/-- SWITCH_EDGE (R333): an input edge of axis a has held for 2 ms: input 0 LIM+, 1 LIM−, 2 HOME, its level, the position latched at its
raw edge, and the raw edges within 20 ms. -/
def execSwitchEdge (a input : Nat) (level : Bool) (latched : Int) (edges : Nat) (now : AxisNow) (s : State) : Out :=
  if a = 0 || 4 < a || 2 < input then .next s
  else
    let s := seeAxis a now s
    let chatter := decide (3 ≤ edges)
    let s := s.modAxis a fun x => { x with switches := setBit (setBit x.switches input level) 3 chatter, latched := latched }
    let s := if chatter then s.raiseOnce (srcAxis a) 0x83 .notice 5 a else s.clearOnce (srcAxis a) 0x83 5 a
    let s := bothSwitches s
    if (s.axis a).homing != .idle then .next (if level then homingSwitch a input latched s else s)
    else if level then .next (switchActive a input s)
    else .next (if (s.axis a).limP || (s.axis a).limN then s else s.clearOnce (srcAxis a) 0x84 5 a)

/-! ### The end of a ramp -/

/-- The axes that wait take the motion places that are free, in rank order (R328). -/
def resumeWaiting (s : State) : State :=
  let go := fun (s : State) (a : Nat) =>
    let x := s.axis a
    if x.waiting && !x.moving && s.movers.length < s.motionPlaces && !s.motionHeld then
      beginMoveAt a x.target x.speed (s.modAxis a fun x => { x with waiting := false })
    else s
  let order := (upFrom 0 4).flatMap fun r => (upFrom 1 4).filter fun a => axisRank s a = r
  order.foldl go s

/-- What follows a stop of an axis in homing (R336). -/
def homingStop (a : Nat) (reached : Bool) (s : State) : State :=
  let x := s.axis a
  let away : Int := if x.homeDir then -(s.cfg (0x687F + a) 3 : Int) else s.cfg (0x687F + a) 3
  match x.homing with
  | .search => if reached then homingFault a 4 false s else beginMoveAt a (s.searchTarget a x.homeDir (x.pos - x.homeFrom).natAbs) (s.vHome a) s
  | .backOff =>
    if reached && !x.home then
      beginMoveAt a (s.searchTarget a x.homeDir 0) (s.vHome a / 8) (s.modAxis a fun x => { x with homing := .slow })
    else beginMoveAt a (x.pos + away) (s.vHome a) s
  | .slow => if reached then homingFault a 4 false s else s
  | .final =>
    let s := s.modAxis a fun x => { x with homing := .idle }
    let s := if s.axisMode a = 2 then s.modAxis a fun x => { x with follow := some (x.pos, s.masterCount a) } else s
    s.modAxis a fun x => { x with state := s.restState a }
  | .idle => s

/-- MOVE_COMPLETE (R326, R328, R336): axis a has come to the end of its ramp: at its target, or at the stop `now` says. -/
def execMoveComplete (a : Nat) (now : AxisNow) (s : State) : Out :=
  if a = 0 || 4 < a || !(s.axis a).moving then .next s
  else
    let s := seeAxis a now s
    let x := s.axis a
    let reached := x.ramp = .toTarget
    let back := x.ramp = .reversing
    let s := standAxis a (s.modAxis a fun x => { x with pos := if reached then x.target else x.pos })
    let s := if x.homing != .idle then homingStop a reached s
      else if back then beginMove a (s.axis a).target s
      else if (s.axis a).homeWait then startHoming a s
      else s.modAxis a fun x => { x with discCmd := if reached then .none else x.discCmd }
    .next (resumeWaiting s)

/-! ### Commands (R325, R337) -/

/-- The disconnector command codes of 68B0.01. -/
def condDisc (cmd : Nat) (s : State) : Nat :=
  if cmd = 0 then 0
  else if !s.idle || s.axisMode 3 != 3 || (s.axis 3).fenced then s.stateAbort abState
  else if s.interlockOk then 0 else abInterlock

/-- Close (1) or open (2): move at v_max towards the switch of the target end; a switch that is active already ends the command. -/
def moveDisc (close : Bool) (s : State) : State :=
  let done := if close then (s.axis 3).limP else (s.axis 3).limN
  let s := s.modAxis 3 fun x => { x with operations := inc32 x.operations, discSince := s.core.cycle,
                                         discCmd := if done then .none else if close then .close else .open_ }
  if done then s.clearOnce (srcAxis 3) 0x87 5 3
  else retarget 3 (if close then 2 ^ 31 - 1 else -(2 ^ 31)) s

/-- Stop (0). -/
def stopDisc (s : State) : State := stopAxis 3 false (s.modAxis 3 fun x => { x with discCmd := .none })

/-- TRAVEL_TIMEOUT (R337): no target switch within the time-out. -/
def execTravelTimeout (s : State) : Out :=
  let x := s.axis 3
  if x.discCmd != .none && s.passed x.discSince (s.cfg 0x68B0 3) then .next ((stopDisc s).raiseOnce (srcAxis 3) 0x87 .degrade 5 3)
  else .next s

/-- A manual target is taken in mode 4 in SERVICE, and not towards an active limit (R325, R334). -/
def condManual (a : Nat) (v : Int) (s : State) : Nat :=
  if s.core.opState = .service && s.axisMode a = 4 && !(s.axis a).fenced && !s.limitBars a (v - (s.axis a).pos) then 0
  else s.stateAbort abState
def effManual (a : Nat) (v : Int) (s : State) : State := retarget a v s

/-! ### The HV backup supply (R327) -/

/-- The module has gone over to the backup supply: moving axes decelerate and wait, a homing run is aborted and restarts on AUX. -/
def motionToBackup (s : State) : State :=
  let one := fun (s : State) (a : Nat) =>
    if (s.axis a).homing != .idle then (abortHoming a s).modAxis a fun x => { x with homeWait := true }
    else if (s.axis a).moving then (stopAxis a false s).modAxis a fun x => { x with waiting := true }
    else s
  ((upFrom 1 4).foldl one s).raiseOnce 0x048 0x80 .notice 0 0

/-- AUX has returned. -/
def motionFromBackup (s : State) : State :=
  let one := fun (s : State) (a : Nat) => if (s.axis a).homeWait && !(s.axis a).moving then startHoming a s else s
  resumeWaiting (((upFrom 1 4).foldl one s).clearOnce 0x048 0x80 0 0)

/-- A mode change by COMMIT (R325, R335, R336): homing aborted, the lag hold ended, the state the new mode gives. -/
def axisModeChanged (a : Nat) (s : State) : State :=
  let s := (abortHoming a s).modAxis a fun x => { x with lagHold := false, lagSince := none }
  let s := s.clearOnce (srcAxis a) 0x85 5 a
  let s := s.modAxis a fun x =>
    { x with follow := if s.axisMode a = 2 && x.homed then some (x.pos, s.masterCount a) else none, coil := if s.axisMode a = 0 then 0 else x.coil }
  s.modAxis a fun x => { x with state := s.restState a }

end Sys2Proof.Machine
end

