-- ==== Sys2Proof/Machine/Boot.lean ====
section
/-! DEFINITION. Start-up (17 R504, 18 R535, 06 R204, 13 R386): what a start keeps and what it sets afresh, the domains at t_A, the reading of
the journal and the rebuild of cell state. -/

namespace Sys2Proof.Machine

open Sys2Proof

/-! ### What a start keeps (R386) -/

/-- The registers of a head that last (2140, 2180: PERS). -/
def HeadInfo.atStart (h : HeadInfo) : HeadInfo :=
  { serial := h.serial, dW := h.dW, dE := h.dE, lf := h.lf, lr := h.lr, lt := h.lt, contract := h.contract, rBleed := h.rBleed,
    groupDelay := h.groupDelay }

/-- A contactor at start-up: coil unpowered, low side conducting, its contacts as they stand (R30, R126, R128). -/
def Contactor.atStart (c : Contactor) : Contactor := { no := c.no, nc := c.nc, welded := c.welded, closings := c.closings }

/-- The Firebreak at start-up: its envelope and the record of the last trip (R256, R279). -/
def Firebreak.atStart (f : Firebreak) : Firebreak :=
  { envelope := f.envelope, envDoc := f.envDoc, envState := f.envState, digest := f.digest, envSeq := f.envSeq, envCycle := f.envCycle, lastCause := f.lastCause,
    lastTrip := f.lastTrip, breakCur := f.breakCur, toRelease := f.toRelease, mismatches := f.mismatches }

/-- Identity and security at start-up; a fault count of 3 or more starts its wait anew (R414; log entry 40). -/
def Security.atStart (x : Security) (now : Cycle) : Security :=
  { adopted := x.adopted, stringId := x.stringId, failures := x.failures, waitLen := x.waitLen,
    waitFrom := if x.failures < 3 then none else some now, anchors := x.anchors, masks := x.masks, verifyKey := x.verifyKey, serial := x.serial,
    codeVerifier := x.codeVerifier, installResult := x.installResult,
    channels := x.channels.map fun e => (e.1, { key := e.2.key, txRes := e.2.txRes, rxRes := e.2.rxRes }) }

/-- The Ranger at start-up: what PD0 retains and the counts (R492, R506). -/
def Ranger.atStart (r : Ranger) (now : Cycle) : Ranger :=
  { escalations := r.escalations, firstFault := r.firstFault, firstTrip := r.firstTrip, last16 := r.last16, wdExpiries := r.wdExpiries,
    wdServed := now, timesRaised := r.timesRaised, wdExpired := r.wdExpired }

/-- The supplies at start-up: measurements are taken afresh, counts and the thermal latch stay; after SLEEP the sensors ran on (R510). -/
def Power.atStart (p : Power) (woken : Bool) : Power :=
  { aux1 := p.aux1, aux2 := p.aux2, bus := p.bus, source := p.source, vHvb := p.vHvb, backupAvail := p.backupAvail, backupFault := p.backupFault,
    onBackup := p.onBackup, good := p.good, holdUp := p.holdUp, falls := p.falls, changeovers := p.changeovers, restartCause := p.restartCause,
    thermalLatch := p.thermalLatch, latchZone := p.latchZone, throttles := p.throttles, opTime := p.opTime, powerCycles := p.powerCycles,
    note := p.note, sensors := if woken then p.sensors else [], zones := if woken then p.zones else 0,
    zonesNext := if woken then p.zonesNext else 0, clockFaults := if woken then p.clockFaults else 0, rc := p.rc,
    untrimmed := woken && p.untrimmed, boot := if woken then 9 else 1 }

/-- The update at start-up: a step that had not completed is run again; the update stays paused unless the module rolls back on its own
(R545, R550); staging that had not ended is void (R541). -/
def Update.atStart (u : Update) : Update :=
  let swapped := u.started && u.step = 11 && u.idleLoaded
  { u with images := u.images.map fun e => (e.1, { e.2 with bank := 0xFF }), staging := if u.staging = 1 then 0 else u.staging, received := 0,
           data := [], ha := none, started := false, since := 0, hc := 0, coreReady := false, handArea := none, idleLoaded := false,
           core1 := if swapped then !u.core1 else u.core1, paused := u.next != 0 && !u.auto }

/-- Storage at start-up: what was not yet written is gone (R203). -/
def Storage.atStart (x : Storage) : Storage :=
  { x with state := 0, queue := [], landing := [], logWaits := 0, unknown := 0, newSet := none, readErrors := [] }

/-- The Lookout at start-up: its records and rests; after SLEEP all it holds. -/
def Lookout.atStart (l : Lookout) (woken : Bool) : Lookout :=
  if woken then l
  else { restStart := l.restStart, largest := l.largest, entered := l.entered, wakeCause := l.wakeCause }

/-- What the module holds as it starts: PERS values, what PD0 retains and what lies in storage and the journal; all else at its reset
value (R386, R504). -/
def bootBody (woken : Bool) (s : State) : Body :=
  let now := s.core.cycle
  let b := s.toBody
  { core := { cycle := now, opState := b.core.opState, stateEntered := b.core.stateEntered, cycleState := b.core.opState,
              lockoutLatched := b.core.lockoutLatched },
    ring := { cable := b.ring.cable, endPath := b.ring.endPath, heads := b.ring.heads.map fun e => (e.1, e.2.atStart) },
    heads := b.heads,
    tap := { tapState := b.tap.tapState, rw := b.tap.rw, rwUnc := b.tap.rwUnc },
    fe := { offset := b.fe.offset, zeroTemp := b.fe.zeroTemp, kp := b.fe.kp.atStart, kn := b.fe.kn.atStart, weldResult := b.fe.weldResult,
            weldRepeat := b.fe.weldRepeat, openAbove := b.fe.openAbove },
    scaler := { lastEnd := b.scaler.lastEnd, lastEndCycle := b.scaler.lastEndCycle, counts := b.scaler.counts, slotState := b.scaler.slotState },
    cruiser := { lifeUsed := b.cruiser.lifeUsed, spare := b.cruiser.spare, spread := b.cruiser.spread, bytesWritten := b.cruiser.bytesWritten,
                 erases := b.cruiser.erases, areaFill := b.cruiser.areaFill, areaUsed := b.cruiser.areaUsed, unitMap := if s.readsBlock 2 then b.cruiser.unitMap else [], retired := b.cruiser.retired,
                 minutes := b.cruiser.minutes, hours := b.cruiser.hours },
    borer := { completed := b.borer.completed, discarded := b.borer.discarded, stepObs := b.borer.stepObs, restEval := b.borer.restEval, ageBase := b.borer.ageBase },
    thin := { lastRound := b.thin.lastRound },
    fb := b.fb.atStart,
    sawyer := { leaseEnds := b.sawyer.leaseEnds },
    canopy := { thresholds := b.canopy.thresholds.map fun e => (e.1, { activations := e.2.activations }) },
    axes := b.axes.map fun e => (e.1, { losses := e.2.losses, operations := e.2.operations, switches := e.2.switches }),
    links := { strap := b.links.strap, canA := { busOffs := b.links.canA.busOffs }, canB := { busOffs := b.links.canB.busOffs } },
    clock := if woken then b.clock else { rate := b.clock.rate, learned := b.clock.learned, steps := b.clock.steps },
    dict := { vals := applyLog (if s.readsBlock 1 then b.storage.persisted else []) (b.storage.log.filter fun r => s.coreImage.reads 5 r.format), epoch := b.storage.epoch.1, epochCycle := b.storage.epoch.2 },
    sec := b.sec.atStart now,
    pair := { changes := b.pair.changes, lastChange := b.pair.lastChange, catches := b.pair.catches, abort := b.pair.abort },
    ranger := { b.ranger.atStart now with outbox := if woken then b.ranger.outbox else [] },
    tally := { keep := b.tally.keep, circ := b.tally.circ, seq := b.tally.seq, keepFull := b.tally.keepFull, counts := b.tally.counts,
               q25 := if woken then b.tally.q25 else [] },
    power := b.power.atStart woken,
    lookout := b.lookout.atStart woken,
    storage := b.storage.atStart,
    update := b.update.atStart,
    seat := { b.seat with noWait := false } }

/-! ### The domains at t_A (R504) -/

/-- Whether the unit may originate (R438). -/
def State.mayOriginate (s : State) : Bool :=
  s.sec.adopted && s.dict.epoch != 0 && !s.power.clockFaults.getLsbD 7 &&
    (match s.pair.role with
     | .single | .active | .takingOver => true
     | .undecided | .joining | .standby | .incoming | .outgoing | .claiming => false)

/-- Whether the module holds in BOOT for its strap (R375, R562). -/
def State.strapBad (s : State) : Bool := s.links.strap = 0xFF || s.pair.tether = 3

/-- Put the message of a thermal latch back (R514): the shut-down fault of its zone. -/
def latchAgain (s : State) : State :=
  if s.power.thermalLatch then s.raiseOnce 0x071 0xC9 .trip 5 s.power.latchZone else s

/-- The module starts at t_A: its domains come up, the strap is read, CAN channels open, pulses are scheduled, a single unit that may originate
enumerates and others relay (R375, R438, R504; the timeline in one step, log entry 41). -/
def startDomains (s : State) : State :=
  let s := s.setDomains [1, 2, 3, 4, 5, 6, 7, 8, 11, 12] true
  let s := { s with power := { s.power with boot := s.power.boot ||| 2 }, links := { s.links with strapRead := true },
                    pair := { s.pair with role := if s.inPair then .undecided else .single, phyAt := s.core.cycle } }
  let s := if s.links.strap = 0xFF then s.raiseOnce 0x020 0x9A .warn 0 0 else s
  let s := (upFrom 0 64).foldl (fun s ch => if s.cfg (0x7810 + ch) 4 = 1 then setChannel ch true s else s) s
  let s := (upFrom 0 4).foldl (fun s o => schedulePulse o s) s
  let s := if s.mayOriginate && !s.strapBad then startEnumeration s else setRing .relay { s with ring := { s.ring with originB := s.inPair && !s.unitB, lRelay := s.ownRelay } }
  latchAgain s

/-! ### Reading the journal (R535) -/

/-- Payload kind of a fixed slot (R531). -/
def slotKind (n : Nat) : Nat :=
  if n = 0 then 0x01 else if n ≤ 512 then 0x31 else if n ≤ 531 then 0x32 else if n = 532 then 0x22 else if n ≤ 660 then 0x23
  else if n = 661 then 0x24 else 0x25

/-- Whether a slot holds a failed frame: an interrupted write (R532). -/
def FixedSlot.failed (f : FixedSlot) : Bool := !f.f0.valid || !f.f1.valid

/-- What an interrupted write means (R205, R535). -/
def interruptedWrite (n : Nat) (s : State) : State :=
  match slotKind n with
  | 0x31 => let (b, s) := drawInt s
            lostStep n (b.toNat % 256) s
  | 0x23 =>
    let ch := (n - 533) / 2
    let bump := fun (c : CanChannel) =>
      if (n - 533) % 2 = 0 then { c with txRes := c.txRes + 2 ^ 18 } else { c with rxRes := c.rxRes + 2 ^ 18 }
    let s := s.modChannel ch bump
    s.journal n 0x23 (le 8 (if (n - 533) % 2 = 0 then (s.channel ch).txRes else (s.channel ch).rxRes))
  | _ => { s with storage := { s.storage with interrupted := inc16 s.storage.interrupted } }.report 0x078 0xE3 .notice 4 n

/-- Load the value of a slot that is not a cell's (R426, R535, R545). -/
def loadSlot (n : Nat) (b : Bytes) (s : State) : State :=
  match slotKind n with
  | 0x23 =>
    let v := fieldN b 0 8
    s.modChannel ((n - 533) / 2) fun c => if (n - 533) % 2 = 0 then { c with txRes := v } else { c with rxRes := v }
  | 0x24 => { s with sec := { s.sec with failures := fieldN b 0 1, waitLen := fieldN b 2 2 } }
  | 0x25 =>
    { s with update := { s.update with bank := (upFrom 1 4).foldl (fun t k => Tab.put t k (fieldN b (k - 1) 1)) s.update.bank,
                                       laneBank := (upFrom 0 8).foldl (fun t l => Tab.put t l (fieldN b (4 + l) 1)) s.update.laneBank } }
  | _ => s

/-- `n` blocks or records are in a format that the image does not read: skipped and counted in 9800.08 (R529, R546). -/
def skipUnread (n : Nat) (s : State) : State := { s with storage := { s.storage with unknown := add32 s.storage.unknown n } }

/-- A journal frame whose payload format the image does not read: in a rollback it counts in 9830.0A, and a learned-value record is a lost learning
step (R549). -/
def skipFrame (n : Nat) (s : State) : State :=
  if s.update.reverse then
    let s := { s with update := { s.update with skipped := add32 s.update.skipped 1 } }
    if slotKind n = 0x31 then lostStep n 0 s else s
  else skipUnread 1 s

/-- The value of a fixed slot, none when its payload format is not one that the image reads. -/
def State.slotValue (s : State) (n : Nat) : Option JournalFrame := (s.fixedSlot n).newest.filter fun f => s.coreImage.readsFrame f

/-- Read one slot at BOOT: its newest valid frame, and what a failed one means. -/
def readSlot (s : State) (e : Nat × FixedSlot) : State :=
  let s := match e.2.newest with
    | some f => if f.payload.isEmpty then s else if s.coreImage.reads 5 f.format then loadSlot e.1 f.payload s else skipFrame e.1 s
    | none => s
  if e.2.failed then interruptedWrite e.1 s else s

/-- The journal scan of BOOT (R535); afterwards every CAN channel resumes at its reservations (R426). -/
def scanJournal (s : State) : State :=
  let s := { s with storage := { s.storage with interrupted := 0 } }
  let s := s.storage.fixed.foldl readSlot s
  { s with sec := { s.sec with channels := s.sec.channels.map fun e => (e.1, { e.2 with txFv := e.2.txRes, rxFv := e.2.rxRes }) } }

/-! ### Cell state (R204) -/

/-- The learned fields of a learned-value payload (R202), which are also those of the last record (R197, R221). -/
def learnedFields (b : Bytes) (c : CellState) : CellState :=
  { c with cap := fieldN b 8 4, capUnc := fieldN b 12 4, rdc := fieldN b 16 4 * 100, r1 := fieldN b 20 4 * 100, tau1 := fieldN b 24 4 * 100,
           efc := fieldN b 28 4, efcRec := fieldN b 28 4, rdcRec := fieldN b 16 4 * 100, r1Rec := fieldN b 20 4 * 100, tau1Rec := fieldN b 24 4 * 100, selfDis := fieldI b 32 4, insertions := fieldN b 36 2, steps := fieldN b 38 2,
           flags := BitVec.ofNat 32 (fieldN b 40 4) }

/-- Step 2: learned-value records newer than the checkpoint. -/
def restoreLearned (seq : Nat) (s : State) (k : Nat) : State :=
  match s.slotValue k with
  | some f => if seq < f.seq && !f.payload.isEmpty then s.modCell k (learnedFields f.payload) else s
  | none => s

/-- Whether cycle a is newer than b (R16). -/
def newer (a b : Cycle) : Bool := let d := (a - b).toNat; 0 < d && d < 2 ^ 31

/-- The newest snapshot part j, when it is newer than the checkpoint: its payload. -/
def State.snapPart (s : State) (img : Option Image) (j : Nat) : Option Bytes :=
  match s.slotValue (513 + j) with
  | none => none
  | some f =>
    if f.payload.isEmpty then none
    else match img with
      | none => some f.payload
      | some i => if newer (BitVec.ofNat 32 (fieldN f.payload 4 4)) i.cycle then some f.payload else none

/-- The growth of an uncertainty over `ms` milliseconds at a current (mA), Q2.30 (step 5). -/
def State.restartGrowth (s : State) (k : Nat) (i : Int) (ms : Nat) : Int := qdiv ((i.natAbs * ms : Nat) * one30) (s.capEff k)

/-- A cell's uncertainty after the restart. -/
def widen (k : Nat) (i : Int) (ms : Nat) (s : State) : State :=
  let g := s.restartGrowth k i ms
  s.modCell k fun c => { c with unc := c.unc + g, p := (c.unc + g) * (c.unc + g) }

/-- Steps 3 and 5 for a cell: its entry in the newest part that holds it, else the checkpoint's age is added. -/
def restoreSoc (img : Option Image) (s : State) (k : Nat) : State :=
  let j := (k - 1) / 28
  match s.snapPart img j with
  | some b =>
    let o := 24 + 16 * ((k - 1) % 28)
    let q := fieldI b 8 8
    let c0 := BitVec.ofNat 32 (fieldN b 4 4)
    widen k (fieldI b 16 4) 2000 (s.modCell k fun c =>
      { c with soc := fieldI b o 4, socC := fieldI b (o + 4) 4, unc := fieldI b (o + 8) 4, lastV := fieldI b (o + 12) 4, qLast := q, bleedQ := 0,
               lastUpdate := c0 })
  | none =>
    match img with
    | some i => widen k i.scaler.i (2000 + s.since i.cycle) s
    | none => s

/-- Step 4: the newest restored charge counter. -/
def State.restoredCharge (s : State) (img : Option Image) : Int :=
  let parts := (upFrom 0 19).filterMap fun j => (s.snapPart img j).map fun b => (BitVec.ofNat 32 (fieldN b 4 4), fieldI b 8 8)
  let base : Option (Cycle × Int) := img.map fun i => (i.cycle, i.scaler.q)
  match parts.foldl (fun r e => match r with
    | none => some e
    | some x => if newer e.1 x.1 then some e else r) base with
  | some x => x.2
  | none => 0

/-- What a restart ends in a cell: its traverse (R194), held temperature (R176), rests as the lanes saw them, pending decisions. A SoC that waits for the first
valid sample goes on waiting (R200). -/
def CellState.restarted (c : CellState) : CellState :=
  { c with anchor := none, dqT := 0, spoiled := false, gaps := 0, lastT := none, heldSince := none, tempHeld := false, restStart := none,
           quietSince := none, restSum := 0, restN := 0, nextClass := none, nextLane := none, hasPrev := true,
           minute := {}, hour := {} }

/-- A restart of a cell: a traverse it ends is rejected (R194). -/
def restartCell (s : State) (k : Nat) : State := (rejectTraverse k s).modCell k CellState.restarted

/-- The cycle that lies some seconds back, at most 2^31 cycles. -/
def State.secondsBack (s : State) (sec : Nat) : Cycle := s.core.cycle - BitVec.ofNat 32 (min (sec * 1000) (2 ^ 31))

/-- A Lookout snapshot as a rest snapshot of cell k (R229): s_v and g computed after the wake, sigma_v 0.3 mV. -/
def State.wakeSnap (s : State) (k : Nat) (x : LookoutSnap) : Option RestSnap :=
  match x.cells.find? fun e => e.1 = k with
  | none => none
  | some (_, v, t) =>
    let tab := s.cellChem k
    let f := implied tab v (s.sigTen k 0 0) t
    let sv := qdiv (f.1 + f.2) 2
    some { cycle := s.secondsBack (s.power.opTime / 1000 - x.sec), v := v, temp := t, sv := sv, g := ocvSlope tab sv t,
           bleed := (s.cell k).bleedTotal, sigma := 30, sec := x.sec }

/-- After SLEEP a cell's rest goes on from the Lookout's record, with the first and the latest snapshot (R200, R517). -/
def continueRest (s : State) (k : Nat) : State :=
  let back := s.secondsBack (s.power.opTime / 1000 - s.lookout.restStart)
  let own := (s.cell k).snapshots
  let first := if own.isEmpty then (s.lookout.firstSnap.bind (s.wakeSnap k)).toList else own
  let last := (s.lookout.lastSnap.bind (s.wakeSnap k)).toList
  s.modCell k fun c => { c with restStart := some back, quietSince := some back, snapshots := last ++ first }

/-- A table whose checks fail is reset (R225). -/
def repairTable (s : State) (k : Nat) : State := (resetImpedance k s).report 0x039 0x5B .notice 1 k

/-- The marks that open taps leave on their cells persist with the tap states (R107): every cell beside a tap in state 4 is sense lost. -/
def tapMarks (s : State) : State :=
  s.allHeads.foldl (fun s p => (s.taps p).foldl (fun s t => if s.tapState p t = 4 then tapFlags p t s else s) s) s

/-- A cell whose learned fields the image does not read starts with those of a cell that was never written. -/
def CellState.unlearned (c : CellState) : CellState :=
  let d : CellState := {}
  { c with cap := d.cap, capUnc := d.capUnc, rdc := d.rdc, r1 := d.r1, tau1 := d.tau1, efc := d.efc, selfDis := d.selfDis, insertions := d.insertions,
           steps := d.steps }

/-- Blocks in a format version that the image does not read are skipped and counted (R529, R546): cells go without their learned fields, or with empty
impedance tables. -/
def skipBlocks (s : State) : State :=
  let s := skipUnread ((upFrom 1 4).filter fun t => !s.readsBlock t).length s
  let s := if s.readsBlock 3 then s else { s with cells := s.cells.map fun e => (e.1, { e.2 with impTable := [], impHead := {} }) }
  if s.readsBlock 4 then s else { s with cells := s.cells.map fun e => (e.1, e.2.unlearned) }

/-- STATE_REBUILD: at BOOT the journal is read and every cell's state rebuilt (R204, R535). `badTables` are the cells whose impedance table
fails its checks (R225). -/
def execStateRebuild (badTables : List Nat) (s : State) : Out :=
  if !s.starting || !s.pd 1 || s.power.boot.getLsbD 2 then .next s
  else
    let s := scanJournal { s with power := { s.power with boot := s.power.boot ||| 4 } }
    let img := s.storage.checkpoints.head?
    let s := match img with
      | some i => { s with cells := i.cells, scaler := { s.scaler with i := i.scaler.i } }
      | none => s
    let s := skipBlocks s
    let s := s.allCells.foldl (restoreLearned (match img with
      | some i => i.seq
      | none => 0)) s
    let s := { s with scaler := { s.scaler with q := s.restoredCharge img } }
    let s := s.allCells.foldl (restoreSoc img) s
    let s := s.allCells.foldl restartCell s
    let s := if s.power.boot.getLsbD 3 then s.allCells.foldl continueRest s else s
    let s := badTables.foldl repairTable (placeCells s)
    let s := s.lookout.changedHeads.foldl (fun s p => (s.cellsOf p).foldl (fun s k => s.modCell k fun c => { c with insertPending := true }) s) s
    .next { tapMarks s with lookout := { s.lookout with changedHeads := [] } }

end Sys2Proof.Machine
end

