-- ==== Sys2Proof/Machine/Commit.lean ====
section
/-! DEFINITION. COMMIT: its checks (R24, R139, R148, R285, R317, R335) and the loading of the new table epoch at its boundary (R26, R27, R149). -/

namespace Sys2Proof.Machine

open Sys2Proof

/-! ### The checks, in the order of R148 -/

/-- The first cell whose entry breaks the order of R139. -/
def State.orderBreak (s : State) : Option Nat :=
  let es := (upFrom 1 512).map s.stagedEntry
  let n := s.cfgStaged 0x2100 2
  if entriesOk n (0, 0) es then none
  else
    match (upFrom 1 512).find? fun k =>
      let e := s.stagedEntry k
      let prev := if k = 1 then (0, 0) else s.stagedEntry (k - 1)
      !(if e.1 = 0 then prev.1 = n || (k != 1 && prev.1 = 0)
        else (if e.1 = prev.1 then e.2 = prev.2 + 1 else e.1 = prev.1 + 1 && e.2 = 1) && e.2 ≤ 16) with
    | some k => some k
    | none => some 512

/-- A temperature point a cell names must be of kind 1 to 5 (R148). -/
def State.tempPointBad (s : State) (k : Nat) : Bool :=
  [6, 7].any fun f =>
    let n := s.cfgStaged (0x3000 + k - 1) f
    n != 0xFFFF && (s.stagedKind n = 0 || 5 < s.stagedKind n)

/-- A computed point that names a point not of kind 1 to 4. -/
def State.computedBad (s : State) (n : Nat) : Bool := (s.stagedSources n).any fun m => s.stagedKind m = 0 || 4 < s.stagedKind m

/-- A slot with a node outside the table, or of a group that runs after it (R285). -/
def State.slotNodeBad (s : State) (n : Nat) : Bool := [2, 3, 4].any fun f => nodeBad n (s.cfgStaged (0x6010 + n) f)

/-- The breakpoints of an axis rise strictly (R335). -/
def risingOk : List Int → Bool
  | a :: b :: t => decide (a < b) && risingOk (b :: t)
  | _ => true

/-- Axis a's staged breakpoints do not rise. -/
def State.gearingBad (s : State) (a : Nat) : Bool :=
  let b := (s.stagedVal (0x688F + a) 5).toBytes
  !risingOk ((upFrom 0 (min 8 (s.cfgStaged (0x688F + a) 4))).map fun j => fieldI b (12 * j) 4)

/-- A staged threshold lies outside the envelope in force (R317). -/
def State.thresholdBad (s : State) (i : Nat) : Bool :=
  let n := s.cfgStaged (0x6810 + i) 1
  s.hasEnv && n != 0xFFFF &&
    !thrWithin (s.env 0x5801) (s.stagedPoint n 4).toNat (s.cfgStaged (0x6810 + i) 2 = 1) (s.numStaged (0x6810 + i) 3)

/-- Cells of minimum class F in the staged copy. -/
def State.stagedF (s : State) : Nat := (s.stagedCells.filter fun k => s.cfgStaged (0x3000 + k - 1) 5 = 2).length

/-- The first of a list of checks that fails. -/
def firstOf : List Nat → Nat
  | [] => 0
  | a :: t => if a = 0 then firstOf t else a

/-- The abort code of a check over a list: that of its first failing member. -/
def firstBad (code : Nat) (bad : Nat → Bool) (l : List Nat) : Nat :=
  match l.find? bad with
  | some k => abortArg code k
  | none => 0

/-- Whether changes touch a field marked RWI (R148). -/
def touchesRwi (vals : Tab ObjVal) : Bool :=
  vals.any fun e => match objDesc (e.1 / 256) (e.1 % 256) with
    | some d => d.access = 4
    | none => false

/-- Whether a committed epoch may not be loaded at its boundary: it changes an RWI field and the module has left ISOLATED and SERVICE (R148). -/
def State.epochRefused (s : State) (vals : Tab ObjVal) : Bool := touchesRwi vals && !s.idle

/-- The checks of R148 over the whole staged copy. -/
def State.commitCheck (s : State) : Nat :=
  let cells := s.stagedCells
  firstOf
    [if 2560 < s.stagedContainer then abortArg 0x07010000 s.stagedContainer else 0,
     if 850000 < s.stagedEnd then abortArg 0x07020000 (s.stagedEnd / 1000) else 0,
     match s.orderBreak with
       | some k => abortArg 0x07030000 k
       | none => 0,
     firstBad 0x07040000 (fun k => !s.chemStaged (s.cfgStaged (0x3000 + k - 1) 3)) cells,
     firstBad 0x07050000 s.tempPointBad cells,
     firstBad 0x07060000 s.computedBad s.stagedComputed,
     firstBad 0x07070000 (fun k => s.cfgStaged (0x3000 + k - 1) 9 = 0) cells,
     if 84 < s.stagedF then abortArg 0x07080000 s.stagedF else 0,
     match s.stagedChemBad with
       | some n => abortArg abTable n
       | none => 0,
     if s.epochRefused s.dict.staged then 0x07090000 else 0,
     firstBad 0x070A0000 s.slotNodeBad (upFrom 0 16),
     firstBad 0x070B0000 s.gearingBad (upFrom 1 4),
     firstBad 0x070C0000 s.thresholdBad (upFrom 0 32)]

/-- The conditions of a COMMIT (R146, R148, R150, R547). -/
def condCommit (sess : Nat) (s : State) : Nat :=
  if s.dict.staged.isEmpty then 0x070D0000
  else if s.dict.owner != some sess then abNotOwner
  else if s.frozen then abHandOver
  else if !s.update.kept.isEmpty then 0x0A050000
  else s.commitCheck

/-- A COMMIT is accepted: the staged changes as they stand become the new epoch at the boundary R27 gives, and the partner is told (R149). -/
def effCommit (sess req type : Nat) (s : State) : State :=
  let eff := s.effective
  let c : CommitReq := { effective := eff, vals := s.dict.staged, session := sess, req := req, type := type }
  let s := { s with dict := { s.dict with commit := s.dict.commit ++ [c] } }
  replicate (.epoch (add32 s.dict.epoch 1) s.dict.staged) eff s

/-! ### The boundary -/

/-- The answer to a COMMIT: the epoch's first cycle, and the new table epoch (R27, R394). -/
def answerCommit (abort : Nat) (s : State) (c : CommitReq) : State :=
  s.answer { session := c.session, req := c.req, type := c.type + 0x80, cycle := c.effective, abort := abort,
             body := if c.type = 8 then (if abort = 0 then le 4 s.dict.epoch else []) else replyBody c.type abort }

/-- Whether a new epoch changes an object. -/
def State.changes (s : State) (vals : Tab ObjVal) (idx sub : Nat) : Bool :=
  match Tab.find vals (okey idx sub) with
  | some v => v != s.val idx sub
  | none => false

/-- Whether the temperature axis of cell k's slot changes (R224). -/
def State.axisChanged (s : State) (vals : Tab ObjVal) (k : Nat) : Bool :=
  match Tab.find vals (okey (0x4010 + s.cellCfg k 3) 1) with
  | some v => chemTemps v.toBytes != chemTemps (s.octets (0x4010 + s.cellCfg k 3) 1)
  | none => false

/-- A cell of the new epoch before it is loaded: a change of its slot or nominal capacity ends its traverse (R194), a change of its slot its
window (R215), a change of its slot or the slot's temperature axis its table (R224). `slot` = its slot changes, `nom` = its nominal
capacity, `axis` = its axis or the table's tones, `new` = it was not configured before: it starts on the lane State.startLane gives (log 48). -/
def epochCell (slot nom axis new : Bool) (k : Nat) (s : State) : State :=
  let s := if slot || nom then s.modCell k fun c => { c with spoiled := true } else s
  let s := if slot then spoilWindow k s else s
  let s := if slot || axis then resetImpedance k s else s
  if new || (s.cell k).lane.isNone then
    let l := (s.modCell k fun c => { c with lane := none }).startLane k
    s.modCell k fun c => { c with lane := some l }
  else s

/-- Load the values of a new epoch (R26 step 2): values, epoch number, commit record, and what a change of configuration resets. -/
def loadEpoch (vals : Tab ObjVal) (first : Cycle) (s : State) : State :=
  let old := s
  let tones := s.changes vals 0x4800 3
  let thr := (upFrom 0 32).filter fun i => (upFrom 1 8).any fun f => s.changes vals (0x6810 + i) f
  let modes := (upFrom 1 4).filter fun a => s.changes vals (0x685F + a) 1
  let n := add32 s.dict.epoch 1
  let s := { s with dict := { s.dict with vals := vals.foldl (fun t (e : Nat × ObjVal) => Tab.put t e.1 e.2) s.dict.vals, epoch := n, epochCycle := first },
                    storage := { s.storage with newSet := some (n, first, vals) } }
  let s := s.journal 532 0x22 (le 1 0x22 ++ le 3 0 ++ le 4 n ++ le 4 first.toNat ++ le 4 0)
  let s := s.tell 0x0012 (le 4 n ++ le 4 s.fb.envSeq ++ le 32 s.fb.digest.toNat)
  let s := s.allCells.foldl (fun s k =>
    epochCell (old.changes vals (0x3000 + k - 1) 3) (old.changes vals (0x3000 + k - 1) 9) (tones || old.axisChanged vals k) (old.cellCfg k 1 = 0) k s) s
  let s := { s with scaler := { s.scaler with slotState := (upFrom 0 8).foldl (fun t j =>
    if (Tab.find vals (okey (0x4010 + j) 1)).isSome then Tab.put t j 2 else t) s.scaler.slotState } }
  let s := thr.foldl (fun s i => resetThreshold i s) s
  let s := modes.foldl (fun s a => axisModeChanged a s) s
  let heads := s.allHeads.filter fun p => old.channels p != s.channels p || old.tempMaskOf p != s.tempMaskOf p
  if s.ring.originating then heads.foldl configureHead s else s

/-- Whether the first cycle `c` in force of something that waits has come. -/
def dueBy (first c : Cycle) : Bool := (first - c).toNat < 2 ^ 31

/-- Take committed changes out of the staging: what was staged after the acceptance stays, with its owner. -/
def unstage (vals : Tab ObjVal) (s : State) : State :=
  let left := s.dict.staged.filter fun e => !vals.contains e
  { s with dict := { s.dict with staged := left, owner := if left.isEmpty then none else s.dict.owner } }

/-- The COMMITs whose boundary this is: the state condition of R148 alone is checked again; the epoch advances once, with the changes as they were accepted, and
each COMMIT is answered with the cycle. -/
def commitBoundary (s : State) : State :=
  let first := s.ahead 1
  let due := s.dict.commit.filter fun c => dueBy first c.effective
  let s := { s with dict := { s.dict with commit := s.dict.commit.filter fun c => !dueBy first c.effective } }
  let bad := due.filter fun c => s.epochRefused c.vals
  let good := due.filter fun c => !s.epochRefused c.vals
  let s := bad.foldl (answerCommit 0x07090000) s
  if good.isEmpty then s
  else
    let vals := good.foldl (fun (t : Tab ObjVal) c => c.vals.foldl (fun t e => Tab.put t e.1 e.2) t) []
    good.foldl (answerCommit 0) (loadEpoch vals first (unstage vals s))

end Sys2Proof.Machine
end

