-- ==== Sys2Proof/Machine/FrontEnd.lean ====
section
/-! DEFINITION. The front-end (04): sampling and its checks (R109-R118), auto-zero (R113, R114), the insulation monitor (R119-R123), the
contactors and the weld check (R124-R132), and the close sequence's conditions (R31, R129). -/

namespace Sys2Proof.Machine

open Sys2Proof

/-! ### Auto-zero -/

/-- The first two conditions of a full auto-zero (R113): contactors confirmed open for 1 s, and a permitted state. -/
def State.zeroAllowed (s : State) : Bool :=
  s.bothOpen && s.ran s.fe.bothOpenSince 1000 &&
    (match s.core.opState with
     | .isolated | .tripped | .lockout | .service | .boot => true
     | .off | .precheck | .closing | .online | .derated | .tripping | .sleep => false)

/-- 2010.06: refused when the first two conditions of R113 do not hold. -/
def condAutoZero (s : State) : Nat := if s.zeroAllowed then 0 else s.stateAbort abState

/-- A full auto-zero becomes due (R113). -/
def effAutoZero (s : State) : State := { s with fe := { s.fe with zeroDue := true } }

/-- AUTO_ZERO_TIMER: every 10 min in ISOLATED (R113). -/
def execAutoZeroTimer (s : State) : Out :=
  if s.core.opState = .isolated && s.passed s.fe.zeroTimer 600000 then
    .next { s with fe := { s.fe with zeroDue := true, zeroTimer := s.core.cycle } }
  else .next s

/-- AUTO_ZERO_START (R113): due, allowed, Hall valid and within ±20 A. -/
def execAutoZeroStart (s : State) : Out :=
  if s.fe.zeroDue && s.fe.zeroing.isNone && s.zeroAllowed && s.feBit feHallOk && s.fe.hall.natAbs ≤ 20000 then
    .next ({ s with fe := { s.fe with zeroDue := false, zeroing := some s.core.cycle } }.setFe feZeroing true)
  else .next s

/-- Whether a running full auto-zero ends without a result (R113): the contactors, the state, or the Hall value of a sample no longer allow it. -/
def State.zeroFails (s : State) (hallOk : Bool) (hall : Int) : Bool := !s.zeroAllowed || !hallOk || 20000 < hall.natAbs

/-- AUTO_ZERO_COMPLETE (R113): after 200 ms the measured offsets, the cycle and the baseplate temperature are stored. -/
def execAutoZeroComplete (mainOffset hallOffset baseplate : Int) (s : State) : Out :=
  if s.ran s.fe.zeroing 200 then
    .next (({ s with fe := { s.fe with offset := mainOffset, hallOffset := hallOffset, zeroCycle := s.core.cycle, zeroTemp := baseplate,
                                       zeroing := none, zeroTimer := s.core.cycle } }.setFe feZeroing false).setFe feInService false)
  else .next s

/-- IN_SERVICE_ZERO (R114): every 10 s with the contactors closed, a 2 ms reversal. -/
def execInServiceZero (s : State) : Out :=
  if s.bothClosed && s.passed s.fe.inServiceLast 10000 then
    .next { s with fe := { s.fe with inService := some s.core.cycle, inServiceLast := s.core.cycle } }
  else .next s

/-- Whether the main sensor's reversal of R114 runs. -/
def State.inServiceNow (s : State) : Bool :=
  match s.fe.inService with
  | some c => s.since c < 2
  | none => false

/-! ### The Ts sample -/

/-- A run counter: one more when the condition holds, else 0. -/
def runOf (c : Bool) (n : Nat) : Nat := if c then n + 1 else 0

/-- The main sensor's range (R112): clamp, bit [3], its 10 cycles back in range, and its report. The clamp limits: a reading between ±2,000 A and ±2,050 A
keeps its value (DEDUCED from "clamped at", log 50). -/
def mainRange (main : Int) (s : State) : Int × State :=
  if 2000000 < main.natAbs then
    (clampI (-2050000) 2050000 main, ({ s with fe := { s.fe with inRange := 0 } }.setFe feOver true).raiseOnce 0x028 0x40 .notice 0 0)
  else if s.feBit feOver then
    let n := s.fe.inRange + 1
    let s := { s with fe := { s.fe with inRange := n } }
    (main, if 10 ≤ n then (s.setFe feOver false).clearOnce 0x028 0x40 0 0 else s)
  else (main, s)

/-- What the record carries of the main sensor (R113, R114): the held value during a full auto-zero; during the reversal of an in-service zero the held value,
in its second cycle one interpolated between it and the reading, whose place between them is free (log 50). -/
def heldMain (hold : Bool) (main : Int) (s : State) : Int × State :=
  if hold then (s.fe.main, s)
  else match s.fe.inService with
    | some c =>
      if s.since c = 0 then (s.fe.main, s)
      else if s.since c = 1 then
        let (x, s) := drawInt s
        (clampI (min s.fe.main main) (max s.fe.main main) x, s)
      else (main, s)
    | none => (main, s)

/-- The current cross-check of one cycle (R116): |Δi| > 2 % × |I_main| + 20 A; a cycle with the main sensor over range or in its reversal is skipped. -/
def currentCheck (s : State) : State :=
  let d := s.fe.main - s.fe.hall
  let s := { s with fe := { s.fe with crossDev := d } }
  if 2000000 < s.fe.main.natAbs || s.inServiceNow then s
  else
    let bad := 2 * s.fe.main.natAbs + 2000000 < 100 * d.natAbs
    let s := { s with fe := { s.fe with crossBad := runOf bad s.fe.crossBad, crossGood := runOf (!bad) s.fe.crossGood } }
    if s.fe.crossBad = 10 then (s.setFe feCross true).raiseOnce 0x028 0x41 .degrade 0 0
    else if 100 ≤ s.fe.crossGood && s.feBit feCross then (s.setFe feCross false).clearOnce 0x028 0x41 0 0
    else s

/-- The voltage cross-check of one cycle (R118): V_STR against its poles, 0.3 % × |V_STR| + 3 V. -/
def voltageCheck (s : State) : State :=
  let d := s.fe.vStr - (s.fe.vStrP - s.fe.vStrN)
  let bad := 3 * s.fe.vStr.natAbs + 3000000 < 1000 * d.natAbs
  let s := { s with fe := { s.fe with voltDev := d, pathBad := runOf bad s.fe.pathBad, pathGood := runOf (!bad) s.fe.pathGood } }
  if s.fe.pathBad = 10 then (s.setFe fePath true).raiseOnce 0x028 0x42 .degrade 0 0
  else if 100 ≤ s.fe.pathGood && s.feBit fePath then (s.setFe fePath false).clearOnce 0x028 0x42 0 0
  else s

/-- Link matched to string within 2 % (R129). -/
def State.linkMatched (s : State) : Bool := 100 * (s.fe.vLink - s.fe.vStr).natAbs ≤ 2 * s.fe.vStr.natAbs

/-- Link below 50 % of the string voltage (R131). -/
def State.linkLow (s : State) : Bool := 2 * s.fe.vLink.natAbs < s.fe.vStr.natAbs

/-- Insulation may be decided on (R132): injection enabled, result not stale, strictly above the warning level. -/
def State.insulationKnown (s : State) : Bool := s.cfg 0x2012 3 = 1 && !s.feBit feIsoStale && s.env 0x5803 2 < s.fe.rIso

/-- The weld check's voltage stage on one cycle (R131, R132): its start where it is to be repeated, and its sums. -/
def weldCycle (s : State) : State :=
  let again := ((s.fe.kp.welded && s.confirmedOpen 0) || (s.fe.kn.welded && s.confirmedOpen 1)) && s.passed s.fe.weldSince (s.cfg 0x2013 0x0A * 1000)
  let pre := s.core.opState = .precheck && s.fe.weldRepeat && s.fe.weldSince != s.core.stateEntered
  let s := if s.fe.weldStage = .idle && s.linkLow && (again || pre) then
      { s with fe := { s.fe with weldStage := .volt, weldSince := if pre then s.core.stateEntered else s.core.cycle, weldSums := (0, 0, 0) } }
    else s
  if s.fe.weldStage = .volt && s.linkLow then
    let (a, b, n) := s.fe.weldSums
    if n < 10 then
      { s with fe := { s.fe with weldSums := (a + (s.fe.vStrP - s.fe.vLinkP), b + (s.fe.vStrN - s.fe.vLinkN), n + 1) } }
    else s
  else { s with fe := { s.fe with weldSums := (0, 0, 0) } }

/-- What a contactor's position ends: its coil's fault once the coil is released, its unexpected opening once it is no longer commanded closed (R127). -/
def positionClears (k : Nat) (s : State) : State :=
  let c := s.contactor k
  let s := if c.coil = .off && s.confirmedOpen k then s.clearOnce 0x02A 0x44 5 k else s
  if !c.commanded && s.confirmedOpen k then s.clearOnce 0x02A 0x45 5 k else s

/-- Contactor conditions that end by themselves: plausibility restored for 50 ms (R128), a released contactor confirmed open (R127). -/
def contactorClears (s : State) : State :=
  (upFrom 0 2).foldl (fun s k =>
    positionClears k (if s.ran (s.contactor k).oppositeSince 50 then s.clearOnce 0x02A 0x46 5 k else s)) s

/-- The state's contactor bits of the discrete inputs, and bits [7:4] as sampled; the reserved bits read 0 (R134). -/
def State.discreteWord (s : State) (x : BitVec 16) : BitVec 16 :=
  setBit (setBit (setBit (setBit (x &&& 0x00FF) diKpNo s.fe.kp.no) diKpNc s.fe.kp.nc) diKnNo s.fe.kn.no) diKnNc s.fe.kn.nc

/-- The Firebreak's comparators on the unit's own front-end, once per cycle (R263, R264, R267). -/
def ownCompare (limitsOk : Bool) (s : State) : State :=
  if !s.hasEnv then s
  else
    let used := fun (b : Nat) => (s.env 0x5804 1).toNat.testBit b
    let s := if s.feBit feVoltOk then cycleCompare pcStringOv 3 (s.env 0x5800 0x0A * 1000 ≤ s.fe.vStr) s else s
    -- protection current lost: Hall invalid in 10 consecutive cycles with the contactors not both confirmed open
    let hallBad := !s.feBit feHallOk
    let c := Tab.nat s.fb.cnt pcCurrentLost
    let n := if hallBad && !s.bothOpen then min (c + 1) 10 else 0
    let s := { s with fb := { s.fb with cnt := Tab.put s.fb.cnt pcCurrentLost n } }
    let s := if n = 10 && c < 10 then qualify pcCurrentLost 0 0 false s else s
    let s := compliance pcCurrentLost 0 0 (!hallBad) s
    let s := compliance pcHall 0 0 (!s.fe.hallOperated) s
    let s := cycleCompare pcEstop 2 (used 0 && !s.di diEstop) s
    let s := cycleCompare pcHvil 2 (used 1 && !s.di diHvil) s
    let s := cycleCompare pcFire 2 (used 2 && s.di diFire) s
    let s := cycleCompare pcLoop 2 (!s.di diLoop && !s.fb.tripPcs) s
    let s := cycleCompare pcDisconnector 2 (!s.discClosed && !s.bothOpen) s
    if limitsOk then s else if s.causeRaised pcConfig 0 0 then s else qualify pcConfig 0 0 false s

/-- In CLOSING K+ is driven once K− is confirmed closed and the link matches (R130), never on the backup supply (R129). -/
def closeKp (s : State) : State :=
  if s.core.opState = .closing && s.confirmedClosed 1 && !s.fe.kp.commanded && s.linkMatched && s.mayDrive 0 && !s.power.onBackup then pullIn 0 s else s

/-- Whether this unit is the one that injects (R119, R122, R451): the unit that counts as active; from H + 50 of a hand-over the incoming unit, and no longer
the outgoing one. -/
def State.injects (s : State) : Bool :=
  let late := s.pair.phase = 4 && notBefore s.core.cycle (s.pair.h + 50)
  match s.pair.role with
  | .incoming => late
  | .outgoing => !late
  | .single | .undecided | .joining | .standby | .active | .takingOver | .claiming => s.countsActive

/-- Whether the wait of R122 for the other unit's last half-period is over. -/
def State.injectNow (s : State) : Bool :=
  match s.fe.injectFrom with
  | some c => notBefore s.core.cycle c
  | none => true

/-- Injection starts in the unit that injects, once enabled (R119, R122, R123); the time without a result runs in every unit (R121). -/
def startInjection (s : State) : State :=
  if s.cfg 0x2012 3 = 0 || s.power.faulted.getLsbD 9 then s
  else match s.core.opState with
    | .off | .boot | .sleep => s
    | .isolated | .precheck | .closing | .online | .derated | .tripping | .tripped | .lockout | .service =>
      let s := { s with fe := { s.fe with isoLast := s.start s.fe.isoLast } }
      if s.fe.injecting || !s.injects || !s.injectNow then s
      else
        { s.setDomains [9] true with
          fe := { s.fe with injecting := true, halfPositive := true, iPos := none, iNeg := none, settled := 0, halfStart := s.core.cycle,
                            halfVoid := false, injectFrom := none } }

/-- The auxiliary stage of the weld check ends with both contactors confirmed open (R131), which ends TRIPPING (R31). -/
def auxStage (s : State) : State :=
  if s.bothOpen && s.fe.weldStage = .aux then
    let s := { s with fe := { s.fe with weldStage := .volt, weldSince := s.core.cycle } }
    if s.core.opState = .tripping then smEvent { kind := .contactorsOpen } s else s
  else s

/-- FRONT_END_SAMPLE (R109): the Ts strobe, the per-cycle checks, the point table's auxiliary inputs (kind 3) and the Firebreak's own
comparators. -/
def execFrontEndSample (x : StrobeSample) (aux : List (Nat × Option Int)) (s : State) : Out :=
  if !s.pd 8 then .next s
  else
    let s := { s with fe := { s.fe with bothOpenSince := if s.bothOpen then s.start s.fe.bothOpenSince else none } }
    let s := if s.fe.zeroing.isSome && s.zeroFails x.hallOk (x.hall - s.fe.hallOffset) then
        { s with fe := { s.fe with zeroing := none, zeroDue := true } }.setFe feZeroing false
      else s
    let (main, s) := mainRange (x.main - s.fe.offset) s
    let hold := s.fe.zeroing.isSome
    let (main, s) := heldMain hold main s
    let s := { s with fe := { s.fe with
      main := main, hall := if hold then s.fe.hall else x.hall - s.fe.hallOffset,
      vStr := x.vStr, vLink := x.vLink, vStrP := x.vStrP, vStrN := x.vStrN, vLinkP := x.vLinkP, vLinkN := x.vLinkN,
      discrete := s.discreteWord x.discrete } }
    let s := ((s.setFe feStrobe x.strobeOk).setFe feVoltOk x.voltOk).setFe feMainOk x.mainOk
    let s := (s.setFe feHallOk x.hallOk).setFe feInService (1000 < (x.baseplate - s.fe.zeroTemp).natAbs)
    let far := fun (v : Int) => decide (2200000 < v.natAbs)
    let s := s.setFe feRange (far x.vStr || far x.vLink || far x.vStrP || far x.vStrN || far x.vLinkP || far x.vLinkN)
    let s := s.setFe feMatched s.linkMatched
    let s := { s with fe := { s.fe with linkRun := runOf (s.linkMatched && x.voltOk) s.fe.linkRun } }
    let s := voltageCheck (currentCheck s)
    let s := startInjection s
    let s := (s.setFe feInjecting s.fe.injecting).setFe feIsoStale (s.fe.isoStale || s.cfg 0x2012 3 = 0)
    let s := s.setFe feHallTrip s.fe.hallOperated
    let s := contactorClears (weldCycle s)
    let s := auxStage (closeKp (ownCompare x.limitsOk s))
    .next (aux.foldl (fun s e => (s.auxPoints e.1).foldl (fun s n => samplePoint n e.2 s.core.cycle (comparePoint n e.2 false s)) s) s)

/-- FAST_SAMPLE (R110): one 20 kHz pair, for the i²t integrator (R265), the disconnector interlock (R274) and the open request's comparison
with the break current (R31, R270). During the reversal of an in-service zero the main sample is held (R114). -/
def execFastSample (main hall : Int) (s : State) : Out :=
  if !s.pd 8 then .next s
  else
    let s := if s.fe.zeroing.isSome then s
      else { s with fe := { s.fe with fastMain := if s.inServiceNow then s.fe.fastMain else main - s.fe.offset, fastHall := hall - s.fe.hallOffset } }
    .next (openWhenLow (interlock (i2tSample s)))

/-! ### Contactors -/

/-- k of R119 changes during a half-period: it is void. -/
def voidHalf (s : State) : State := if s.fe.injecting then { s with fe := { s.fe with halfVoid := true } } else s

/-- AUX_CONTACT_CHANGE (R128): the debounced inputs of contactor k, and what follows: an unexpected opening (R127), the next step of the
close sequence (R130, R31), the auxiliary stage of the weld check (R131), a due auto-zero (R113). -/
def execAuxContactChange (k : Nat) (no nc : Bool) (s : State) : Out :=
  let was := s.bothOpen
  let wasOpen := s.confirmedOpen k
  let old := s.contactor k
  let s := s.modContactor k fun c =>
    { c with no := no, nc := nc,
             sameSince := if no = nc then s.start (if old.no = old.nc then c.sameSince else none) else none,
             oppositeSince := if no = nc then none else s.start (if old.no = old.nc then none else c.oppositeSince) }
  let s := if old.commanded && old.no && !no then s.raiseOnce 0x02A 0x45 .trip 5 k else s
  let s := if wasOpen != s.confirmedOpen k then voidHalf s else s
  let s := { s with fe := { s.fe with bothOpenSince := if s.bothOpen then s.start s.fe.bothOpenSince else none,
                                      zeroDue := s.fe.zeroDue || (!was && s.bothOpen) } }
  let s := positionClears k s
  let s := closeKp s
  let s := if s.core.opState = .closing && s.bothClosed && (match s.fe.closingSince with
        | some c => decide (s.since c ≤ 150)
        | none => false) then
      smEvent { kind := .auxClosed } { s with fe := { s.fe with closingSince := none } }
    else s
  .next (auxStage s)

/-- AUXILIARY_CONTACT_FAULT (R128): NO and NC in the same state for more than 50 ms; not for a contactor whose NC is not wired. -/
def execAuxiliaryContactFault (k : Nat) (s : State) : Out :=
  if s.ncWired k && s.ran (s.contactor k).sameSince 51 then .next (s.raiseOnce 0x02A 0x46 .degrade 5 k) else .next s

/-- COIL_DRIVE_FAULT (R127): the regulated hold current has been outside ±20 % of its target for 100 ms, or (`within`) inside it again for
100 ms. -/
def execCoilDriveFault (k : Nat) (within : Bool) (s : State) : Out :=
  if within then .next (s.clearOnce 0x02A 0x44 5 k)
  else if (s.contactor k).coil = .hold then .next (s.raiseOnce 0x02A 0x44 .trip 5 k)
  else .next s

/-- PULL_IN_END (R130): at command + pull-in time the coil drops to its hold current. -/
def execPullInEnd (k : Nat) (s : State) : Out :=
  if (s.contactor k).coil = .pullIn && s.passed (s.contactor k).since (s.cfg 0x2013 1) then
    .next (s.modContactor k fun c => { c with coil := .hold })
  else .next s

/-- CLOSE_TIMEOUT (R130, R31): closure not confirmed within 150 ms. -/
def execCloseTimeout (s : State) : Out :=
  if s.core.opState = .closing && s.ran s.fe.closingSince 150 && !s.bothClosed then
    .next (smEvent { kind := .closeExpired } (releaseCoils true s))
  else .next s

/-- OPEN_REQUEST_TIMEOUT (R31): the current has stayed above the break current for 2 s. -/
def execOpenRequestTimeout (s : State) : Out :=
  if s.core.opening && s.online && s.passed s.core.openSince 2000 then .next (smEvent { kind := .openTimeout } s) else .next s

/-! ### The weld check -/

/-- 2013.06 for the contactors declared welded. -/
def State.weldCode (s : State) : Nat :=
  if s.fe.kp.welded && s.fe.kn.welded then 5 else if s.fe.kn.welded then 4 else if s.fe.kp.welded then 3 else 0

/-- Declare contactor k welded (R131): LOCKOUT. -/
def declareWelded (s : State) (k : Nat) : State :=
  (s.modContactor k fun c => { c with welded := true, weldNew := true }).raiseOnce 0x02A 0x47 .lockout 5 k

/-- WELD_CHECK_AUX_TIMEOUT (R131): 100 ms after the release a contactor is not confirmed open. -/
def execWeldCheckAuxTimeout (s : State) : Out :=
  if s.fe.weldStage = .aux && s.passed s.fe.weldSince 100 then
    let bad := (upFrom 0 2).filter fun k => !s.confirmedOpen k
    if bad.isEmpty then .next s
    else
      let s := bad.foldl declareWelded s
      .next { s with fe := { s.fe with weldStage := .volt, weldSince := s.core.cycle, weldResult := s.weldCode } }
  else .next s

/-- A weld check is over: what it has declared, a later one may clear (R131). -/
def weldOver (s : State) : State :=
  { s with fe := { s.fe with kp := { s.fe.kp with weldNew := false }, kn := { s.fe.kn with weldNew := false } } }

/-- The voltage stage cannot decide (R132). -/
def weldInconclusive (s : State) : State :=
  let s := weldOver s
  { s with fe := { s.fe with weldStage := .idle, weldResult := 2, weldRepeat := true } }.raiseOnce 0x02A 0x48 .warn 0 0

/-- Decide contactor k on the sum of its 10 voltages (R131): |V_K| < 2 % of |V_STR| is a weld; a pass ends a weld that an earlier check declared and whose
contactor is confirmed open. -/
def decideWeld (k : Nat) (sum : Int) (s : State) : State :=
  if 10 * sum.natAbs < 2 * s.fe.vStr.natAbs then declareWelded s k
  else if s.confirmedOpen k && !(s.contactor k).weldNew then (s.modContactor k fun c => { c with welded := false }).clearOnce 0x02A 0x47 5 k
  else s

/-- WELD_CHECK_VOLTAGE_STAGE (R131, R132): ten cycles with the link low have been summed. -/
def execWeldCheckVoltageStage (s : State) : Out :=
  let (a, b, n) := s.fe.weldSums
  if s.fe.weldStage = .volt && 10 ≤ n then
    if !s.insulationKnown then .next (weldInconclusive s)
    else
      let s := weldOver (decideWeld 1 b (decideWeld 0 a s))
      .next ({ s with fe := { s.fe with weldStage := .idle, weldResult := s.weldCode, weldRepeat := false,
                                        weldSince := s.core.cycle } }.clearOnce 0x02A 0x48 0 0)
  else .next s

/-- WELD_WAIT_EXPIRY (R132): the link has not fallen within the weld wait. -/
def execWeldWaitExpiry (s : State) : Out :=
  if s.fe.weldStage = .volt && s.passed s.fe.weldSince (s.cfg 0x2013 0x0A * 1000) && s.fe.weldSums.2.2 < 10 then .next (weldInconclusive s)
  else .next s

/-! ### The insulation monitor -/

/-- Units inserted (R119, R563): 2 with a partner. -/
def State.unitsIn (s : State) : Nat := if s.inPair && s.pair.sense != .absent then 2 else 1

/-- Contactors not confirmed open. -/
def State.notOpen (s : State) : Nat := b2n (!s.confirmedOpen 0) + b2n (!s.confirmedOpen 1)

/-- r_iso in kΩ from the settled currents in nA (R119): Rc 1,000 kΩ, 80 V, pole chains 20,000 kΩ / k; above the range 0xFFFF, below it
1 kΩ. -/
def insulationResult (iPos iNeg : Int) (k : Nat) : Nat :=
  let dI := iPos - iNeg
  let v := 80000000 - 1000 * dI
  let den := 20000 * dI - k * v
  if dI ≤ 0 || den ≤ 0 then 0xFFFF
  else
    let r := qdiv (20000 * v) den.toNat
    if r < 1 then 1 else if 0xFFFF ≤ r then 0xFFFF else r.toNat

/-- Whether a half-period is over (R119): not before 1 s; once the current has changed over the last 500 ms (`drift`, nA) by less than 1 % of the half-period's
step; at 60 s in any case. -/
def State.halfSettled (s : State) (leak : Int) (drift : Nat) : Bool :=
  s.passed s.fe.halfStart 1000 && (100 * drift < (leak - s.fe.settled).natAbs || s.passed s.fe.halfStart 60000)

/-- INSULATION_HALF_PERIOD_END (R119): the measured current in nA, its change over the last 500 ms, and the capacitance and fault position the monitor has
estimated from its settling. After a full period the result is published; a half-period during which k changed is discarded; the unit that no longer injects
stops after its full period (R122). -/
def execInsulationHalfPeriodEnd (leak : Int) (drift cap pos : Nat) (s : State) : Out :=
  if !s.fe.injecting || !s.halfSettled leak drift then .next s
  else
    let next := { s with fe := { s.fe with halfPositive := !s.fe.halfPositive, halfStart := s.core.cycle, lastHalf := s.since s.fe.halfStart, settled := leak,
                                           halfVoid := false } }
    if s.fe.halfVoid then .next { next with fe := { next.fe with iPos := none, iNeg := none } }
    else if s.fe.halfPositive then .next { next with fe := { next.fe with iPos := some leak } }
    else match s.fe.iPos with
      | none => .next next
      | some p =>
        let r := insulationResult p leak (s.unitsIn * (2 + s.notOpen))
        let s := { next with fe := { next.fe with iPos := none, iNeg := some leak, rIso := r, isoSeq := (s.fe.isoSeq + 1) % 0x10000, leakCap := cap,
                                                  faultPos := pos, isoLast := some s.core.cycle, isoStale := false,
                                                  injecting := s.injects } }
        .next ((s.setFe feIsoStale false).clearOnce 0x029 0x43 0 0)

/-- INSULATION_RESULT_STALE (R121): 120 s without a completed result while injection is enabled, whichever unit injects. -/
def execInsulationResultStale (s : State) : Out :=
  if s.cfg 0x2012 3 = 1 && s.ran s.fe.isoLast 120000 then
    .next (({ s with fe := { s.fe with isoStale := true } }.setFe feIsoStale true).raiseOnce 0x029 0x43 .warn 0 0)
  else .next s

/-- 2012.03 has been written (R121, R123): disabled, the source is off, bit [9] is set and no stale fault stays. -/
def effInjection (on : Bool) (s : State) : State :=
  if on then { s with fe := { s.fe with isoLast := some s.core.cycle } }
  else
    ({ s.setDomains [9] false with
       fe := { s.fe with injecting := false, iPos := none, iNeg := none, isoStale := true, isoLast := none } }.setFe feIsoStale true).clearOnce
      0x029 0x43 0 0

/-! ### The close conditions -/

/-- Whether every cell has a valid value within the envelope and no compared temperature is beyond it: no qualification counter runs. -/
def State.cellsWithin (s : State) : Bool :=
  (s.allCells.all fun k => (Tab.find s.tap.v k).isSome) && (s.fb.cellCnt.all fun e => e.2 = 0) && (s.fb.tempCnt.all fun e => e.2 = 0)

/-- The first close condition that fails, 0 when all hold (R31, R129, R132, R256, R266): 1 envelope, 2 fault, 3 insulation, 4 cells,
5 disconnector, 6 link, 7 on backup supply, 8 weld check pending. -/
def State.closeCheck (s : State) : Nat :=
  if !s.hasEnv then 1
  else if s.degraded then 2
  else if s.env 0x5803 1 = 1 && (s.feBit feIsoStale || (s.fe.rIso : Int) ≤ s.env 0x5803 2) then 3
  else if !s.cellsWithin then 4
  else if !s.discClosed then 5
  else if s.fe.linkRun < 20 then 6
  else if s.power.onBackup then 7
  else if s.fe.weldRepeat && (s.fe.weldStage != .idle || s.fe.weldSince != s.core.stateEntered) then 8
  else 0

/-- CHECKS_PASS (R31): every close condition holds in PRECHECK. -/
def execChecksPass (s : State) : Out :=
  if s.core.opState = .precheck && s.countsActive && s.closeCheck = 0 then .next (smEvent { kind := .checksPass } s) else .next s

/-- PRECHECK_TIMEOUT (R31): a check is still false after 10 s; a record names it. -/
def execPrecheckTimeout (s : State) : Out :=
  if s.core.opState = .precheck && s.passed s.core.stateEntered 10000 && s.closeCheck != 0 then
    .next (smEvent { kind := .checkFails } (s.tellEvent 0x0040 1 s.closeCheck []))
  else .next s

end Sys2Proof.Machine
end

