-- ==== Sys2Proof/Machine/Faults.lean ====
section
/-! DEFINITION. Fault messages, captures, the watchdog and the Tally (16): the commands of R467 to R495 that no session writes. -/

namespace Sys2Proof.Machine

open Sys2Proof

/-- Take the oldest message sent by the blocks. -/
def popOutbox (s : State) : State := { s with ranger := { s.ranger with outbox := s.ranger.outbox.tail } }

/-- FAULT_MESSAGE: a message enters Q24 (R472). `msg` is a message of a block that the model does not run; none takes the oldest message
its own blocks have sent. -/
def execFaultMessage (msg : Option FaultMsg) (s : State) : Out :=
  match msg with
  | some m =>
    (match m.sev with
     | some _ => .next (receiveRaise m s)
     | none => .next s)
  | none =>
    match s.ranger.outbox with
    | [] => .next s
    | m :: _ =>
      (match m.sev with
       | some _ => .next (receiveRaise m (popOutbox s))
       | none => .next s)

/-- FAULT_CLEAR: a clear message enters Q24 (R470). -/
def execFaultClear (msg : Option FaultMsg) (s : State) : Out :=
  match msg with
  | some m => .next (receiveClear { m with sev := none } s)
  | none =>
    match s.ranger.outbox with
    | [] => .next s
    | m :: _ =>
      (match m.sev with
       | some _ => .next s
       | none => .next (receiveClear m (popOutbox s)))

/-- FAULT_ACKNOWLEDGE: the control core has applied what the fault's present severity requires (R476). -/
def execFaultAcknowledge (fault : FaultMsg) (s : State) : Out :=
  match s.findFault fault with
  | none => .next s
  | some i =>
    match s.ranger.active[i]? with
    | none => .next s
    | some a => .next (s.setFault i { a with acked := true })

/-- GRACE_EXPIRY: an unacknowledged fault below its ceiling is raised one severity at the end of its grace time (R476). -/
def execGraceExpiry (fault : FaultMsg) (s : State) : Out :=
  match s.findFault fault with
  | none => .next s
  | some i =>
    match s.ranger.active[i]? with
    | none => .next s
    | some a =>
      if !a.acked && a.code < s.ceiling a.msg.kind a.code && s.passed a.graceFrom (s.grace a.msg.kind) then .next (escalate i a s)
      else .next s

/-- Close a capture: record 0x0004 (R478, R494). -/
def closeCapture (reg : Nat) (c : Capture) (s : State) : Capture × State :=
  match c.msg with
  | none => (c, s)
  | some m =>
    if c.open_ && s.passed c.cycle 2 then
      ({ c with open_ := false }, s.tell 0x0004 (le 1 reg ++ le 3 0 ++ le 8 (messageWord m)))
    else (c, s)

/-- FIRST_FAULT_CAPTURE_CLOSE: at t0 two cycles after its cycle a capture closes (R478). -/
def execFirstFaultCaptureClose (s : State) : Out :=
  let (c, s) := closeCapture 0 s.ranger.firstFault s
  let s := { s with ranger := { s.ranger with firstFault := c } }
  let (d, s) := closeCapture 1 s.ranger.firstTrip s
  .next { s with ranger := { s.ranger with firstTrip := d } }

/-- WATCHDOG_SERVICE: 0x5A5A and 0xA5A5 in turn; a wrong value is a missed service (R484). -/
def execWatchdogService (value : Nat) (s : State) : Out :=
  if value = (if s.ranger.wdAlt then 0xA5A5 else 0x5A5A) then
    .next { s with ranger := { s.ranger with wdAlt := !s.ranger.wdAlt, wdServed := s.core.cycle } }
  else .next s

/-- Whether the control core runs: some domain powered and the state past OFF and SLEEP. -/
def State.coreRuns (s : State) : Bool := s.core.opState != .off && s.core.opState != .sleep

/-- WATCHDOG_EXPIRED: in a pair the unit lets go of the coils, WHISTLE and the ring (R439); a single unit starts the trip sequencer; the
expiry is recorded and a restart follows (R484, R506); after a core hand-over it starts a rollback (R550). -/
def execWatchdogExpired (s : State) : Out :=
  if s.coreRuns && s.passed s.ranger.wdServed (s.cfg 0x8802 2) then
    let s := watchdogAfterHandOver { s with ranger := { s.ranger with wdExpired := true, wdExpiries := inc32 s.ranger.wdExpiries, whistle := false },
                                            power := { s.power with restartPending := some (1, 0xFFFF) } }
    if s.inPair then
      let rel := fun (c : Contactor) => { c with coil := .off, commanded := false, since := s.core.cycle }
      .next (setRing .relay { s with fe := { s.fe with kp := rel s.fe.kp, kn := rel s.fe.kn },
                                     ring := { s.ring with originating := false, bothPorts := false } })
    else .next (startTrip false s)
  else .next s

/-! ### The Tally -/

/-- Bytes of a record: header, cycle and time when present, body, check; a multiple of 4 (R493). -/
def TallyRec.size (r : TallyRec) : Nat :=
  (20 + (if bitN r.flags 0 then 4 else 0) + (if bitN r.flags 1 then 10 else 0) + r.body.length + 3) / 4 * 4 + 4

/-- A record as bytes (R493). -/
def TallyRec.bytes (r : TallyRec) : Bytes :=
  let b := le 2 r.size ++ le 2 r.kind ++ le 4 r.seq ++ le 6 r.opTime ++ le 4 r.power ++ le 2 r.flags
    ++ (if bitN r.flags 0 then le 4 r.cycle.toNat else [])
    ++ (if bitN r.flags 1 then le 6 r.sec ++ le 4 (r.ns + b2n r.locked * 2 ^ 31) else []) ++ r.body
  let p := padTo (r.size - 4) b
  p ++ crcBytes p

/-- Put a record into an area of `units` units of 128 KB: into its newest unit when it fits there, else into a new one; none when the area
has no room (R490). -/
def putRecord (units : Nat) (r : TallyRec) (area : List TallyUnit) : Option (List TallyUnit) :=
  match area.getLast? with
  | some u =>
    if u.used + r.size ≤ 131072 then some (area.dropLast ++ [{ used := u.used + r.size, recs := u.recs ++ [r] }])
    else if area.length < units then some (area ++ [{ used := r.size, recs := [r] }])
    else none
  | none => some [{ used := r.size, recs := [r] }]

/-- Write one record to storage: keep area until it is full, then the circulating area, which erases its oldest unit for room (R490,
R491). -/
def writeRecord (s : State) (r : TallyRec) : State :=
  let s := wrote 2 r.size s
  let r := { r with seq := s.tally.seq }
  let t := { s.tally with seq := (s.tally.seq + 1) % 2 ^ 32 }
  match (if t.keepFull then none else putRecord 32 r t.keep) with
  | some k => { s with tally := { t with keep := k } }
  | none =>
    let c := match putRecord 480 r t.circ with
      | some c => c
      | none => t.circ.tail ++ [{ used := r.size, recs := [r] }]
    let s' := { s with tally := { t with circ := c, keepFull := true } }
    if t.keepFull then s' else s'.report 0x089 0xB5 .info 0 0

/-- Messages move from Q24 into Q25 as records; once room has returned, lost messages are reported (R472). -/
def drainQ24 (s : State) : State :=
  let room := 4096 - s.tally.q25.length
  let s := { s with tally := { s.tally with q25 := s.tally.q25 ++ s.ranger.q24.take room },
                    ranger := { s.ranger with q24 := s.ranger.q24.drop room } }
  if s.ranger.lostPending && s.ranger.q24.length < 896 then
    { s with ranger := { s.ranger with lostPending := false } }.report 0x088 0xB0 .warn 0 0
  else s

/-- Whether Tally writes go on: storage domain PD12 powered, POWER-GOOD holding (R492, R530). -/
def State.tallyWrites (s : State) : Bool := s.power.good && s.pd 12

/-- TALLY_WRITE: queued records are written in order; after a loss a records-lost record follows (R491, R492). -/
def execTallyWrite (s : State) : Out :=
  if s.tallyWrites then
    let q := s.tally.q25
    let s := q.foldl writeRecord { s with tally := { s.tally with q25 := [] } }
    if s.tally.lost = 0 then .next s
    else
      let n := s.tally.lost
      let s := { s with tally := { s.tally with lost := 0 } }
      .next ((s.tell 0x0070 (le 1 2 ++ le 1 0 ++ le 2 0xFFFF ++ le 4 n)).report 0x089 0xB2 .warn 0 0)
  else .next s

/-- Whether one sequence lies before another, modulo 2^32 (R491). -/
def seqBefore (a b : Nat) : Bool := 2 ^ 31 ≤ (a + 2 ^ 32 - b) % 2 ^ 32

/-- Every record in storage in sequence order: those of the keep area stand together between older and newer ones of the circulating area (R490). -/
def State.tallyRecords (s : State) : List TallyRec :=
  let k := s.tally.keep.flatMap fun u => u.recs
  let c := s.tally.circ.flatMap fun u => u.recs
  match k.head? with
  | none => c
  | some f => (c.filter fun r => seqBefore r.seq f.seq) ++ k ++ c.filter fun r => !seqBefore r.seq f.seq

/-- Records from the cursor on, as many whole ones as `room` bytes hold. -/
def fitRecords : List TallyRec → Nat → List TallyRec
  | [], _ => []
  | r :: t, room => if r.size ≤ room then r :: fitRecords t (room - r.size) else []

/-- Read the Tally at a session's cursor (R495): reply header and records, cursor advanced past the last record returned. -/
def readTally (session room : Nat) (s : State) : Bytes × State :=
  let cur := Tab.nat s.tally.cursors session
  let recs := s.tallyRecords
  let at_ := recs.filter fun r => !seqBefore r.seq cur
  let hit := at_.any fun r => r.seq = cur
  let got := fitRecords at_ (room - 8)
  match got with
  | [] => (le 1 2 ++ le 1 0 ++ le 2 0 ++ le 4 0, s)
  | r :: _ =>
    let last := (got.getLast?.getD r).seq
    (le 1 (if hit then 0 else 1) ++ le 1 got.length ++ le 2 0 ++ le 4 r.seq ++ got.flatMap TallyRec.bytes,
     { s with tally := { s.tally with cursors := Tab.put s.tally.cursors session ((last + 1) % 2 ^ 32) } })

/-- Clear the keep area: its content is discarded and a keep-cleared record becomes its first record (R490). -/
def clearKeep (session : Nat) (s : State) : State :=
  let s := { s with tally := { s.tally with keep := [], keepFull := false } }.clearOnce 0x089 0xB5 0 0
  writeRecord s (s.record 0x0070 false (le 1 1 ++ le 1 0 ++ le 2 session ++ le 4 0))

end Sys2Proof.Machine
end

