-- ==== Sys2Proof/Machine/Power.lean ====
section
/-! DEFINITION. Supplies, domains, clocks, restarts and module temperature (17 R498-R514), and the seat (19 R558, R559). -/

namespace Sys2Proof.Machine

open Sys2Proof

/-- An event of the supplies: it changes the state at once, whatever the cycle has taken (no cycle runs in OFF; log entry 42). -/
def freshEvent (e : SmEvent) (s : State) : State :=
  smEvent e { s with core := { s.core with taken := none, cycleState := s.core.opState } }

/-! ### Sources (R498-R500) -/

/-- Source code of the present inputs (R526): 0 AUX-1, 1 AUX-2, 2 both, 3 backup. An input counts from 18 V. -/
def sourceOf (aux1 aux2 : Nat) : Nat :=
  if 18000 ≤ aux1 then (if 18000 ≤ aux2 then 2 else 0) else if 18000 ≤ aux2 then 1 else 3

/-- The supply source changes: 9000.04 and Tally record 0x0080 event 1. -/
def setSource (n : Nat) (s : State) : State :=
  if s.power.source = n then s
  else
    let old := s.power.source
    let s := { s with power := { s.power with source := n } }
    s.tellEvent 0x0080 1 0 (le 1 old ++ le 1 n ++ le 2 s.power.vHvb)

/-- The backup supplies the bus: *on backup supply*, and motion waits (R323, R327, R499). -/
def toBackup (s : State) : State :=
  setSource 3 ({ s with power := { s.power with onBackup := true, changeover := none } }.raiseOnce 0x070 0xC1 .notice 0 0)

/-- Domains of a start that wait for AUX: the Winch drivers come up past BOOT, on AUX, unless their switch has faulted (R503, R504). -/
def motionDomain (s : State) : State :=
  match s.core.opState with
  | .off | .boot | .sleep => s
  | .isolated | .precheck | .closing | .online | .derated | .tripping | .tripped | .lockout | .service =>
    if s.power.onBackup || s.power.faulted.getLsbD 10 || s.power.shutDown then s else s.setDomains [10] true

/-- The Tally holds a record of this kind whose body begins with these bytes. -/
def State.written (s : State) (kind : Nat) (body : Bytes) : Bool :=
  s.tallyRecords.any fun r => r.kind = kind && r.body.take body.length == body

/-- The records PD0 retained (R492): the last 16 messages, oldest first, and the two registers, each unless it is written already. -/
def State.recovered (s : State) : List TallyRec :=
  let rec_ := fun (kind : Nat) (m : FaultMsg) (body : Bytes) =>
    { s.record kind m.injected body with flags := 0x11 + 4 * b2n m.injected, cycle := m.cycle }
  let msg := fun (m : FaultMsg) =>
    let kind := if m.sev.isSome then 1 else 3
    if s.written kind (le 8 (messageWord m)) then none else some (rec_ kind m (faultBody m 1 0xFF))
  let reg := fun (n : Nat) (c : Capture) =>
    match c.msg with
    | none => none
    | some m =>
      let body := le 1 n ++ le 3 0 ++ le 8 (messageWord m)
      if s.written 4 body then none else some (rec_ 4 m body)
  s.ranger.last16.reverse.filterMap msg ++ (reg 0 s.ranger.firstFault).toList ++ (reg 1 s.ranger.firstTrip).toList

/-- Put records in Q25 as they are; those for which it has no room are lost (R491). -/
def queueRecords (l : List TallyRec) (s : State) : State :=
  let room := 4096 - s.tally.q25.length
  { s with tally := { s.tally with q25 := s.tally.q25 ++ l.take room, lost := add32 s.tally.lost (l.length - room),
                                   counts := Tab.mod s.tally.counts 7 0 fun n => add32 n (l.length - room) } }

/-- What the Tally is told at a start: a watchdog expiry first (R484), then what PD0 recovered, announced by event 3 of 0x0070 (R492, R494), then
the restart (R506, R526). -/
def tellStart (s : State) : State :=
  let back := s.recovered
  let src := if s.update.core1 then 0x081 else 0x080
  let s := if s.ranger.wdExpired then
      (drainQ24 (receiveRaise { source := src, kind := 0xB1, sev := some .trip, cycle := s.core.cycle }
        { s with ranger := { s.ranger with wdExpired := false } })).clearFault src 0xB1 0 0
    else s
  let s := if back.isEmpty then s
    else queueRecords back (s.tellEvent 0x0070 3 0xFFFF (le 4 back.length))
  match s.power.note with
  | none => s
  | some (cause, sess) =>
    ({ s with power := { s.power with note := none } }.tellEvent 0x0080 3 cause (le 2 sess)).report 0x070 0xCD .info 5 cause

/-- The open outputs of a unit that holds no envelope (R256). -/
def guardEnvelope (s : State) : State := if s.hasEnv then s else disableThresholds s

/-- SUPPLY_PRESENT: a supply able to run PD0 (an AUX input at 18 V, or V_HVB at 150 V) moves OFF to BOOT: PD0 runs, the power-cycle count
advances, the supplies are checked, and a seated module's domains follow (R31, R498, R504). `backupOk` is the result of the backup test,
`strap` what ROLE-STRAP reads. -/
def execSupplyPresent (aux1 aux2 bus vHvb strap : Nat) (backupOk : Bool) (s : State) : Out :=
  if s.core.opState != .off || (aux1 < 18000 && aux2 < 18000 && vHvb < 150) then .next s
  else
    let s := { s with toBody := bootBody false s }
    let s := { s with power := { s.power with powerCycles := add32 s.power.powerCycles 1, good := true, aux1 := aux1, aux2 := aux2, bus := bus,
                                              vHvb := vHvb, backupFault := 150 ≤ vHvb && !backupOk, backupAvail := 150 ≤ vHvb && backupOk,
                                              onBackup := sourceOf aux1 aux2 = 3, source := sourceOf aux1 aux2, domains := 1 },
                      links := { s.links with strap := strap } }
    let s := tellStart s
    let s := if s.power.onBackup then s.raiseOnce 0x070 0xC1 .notice 0 0 else s
    let s := if s.power.backupFault then s.raiseOnce 0x070 0xC2 .warn 0 0 else s
    let s := freshEvent { kind := .supplyPresent } (guardEnvelope s)
    .next (if s.seat.state = 2 then startDomains s else s)

/-- Bank the running control-core image was started from; 0xFF: none runs. -/
def State.coreBank (s : State) : Nat := (Tab.at s.update.images (if s.update.core1 then 11 else 10) {}).bank

/-- What every path out of BOOT asks (R31, R375, R504): Firebreak active, control core booted, state rebuilt, strap valid. -/
def State.booted (s : State) : Bool := s.fb.active && s.coreBank != 0xFF && s.power.boot.getLsbD 2 && !s.strapBad

/-- Past BOOT: the Winch drivers come up, injection is powered, and axes with auto-home set home (R336, R503, R504). -/
def bootOutputs (s : State) : State :=
  let s := motionDomain { s with power := { s.power with boot := setBit s.power.boot 3 false } }
  let s := if s.countsActive && s.cfg 0x2012 3 = 1 then s.setDomains [9] true else s
  (upFrom 1 4).foldl (fun s a =>
    if s.countsActive && s.axisMode a != 0 && s.cfg (0x687F + a) 6 = 1 && condHome a s = 0 then startHoming a s else s) s

/-- A standby that has booted and holds an image leaves BOOT for its partner's state (R31). -/
def joinPartner (s : State) : State :=
  if s.core.opState != .boot || !s.booted || s.pair.role != .standby || s.pair.images.isEmpty then s
  else match s.pair.hb with
    | some h =>
      let st := if h.opState = .precheck || h.opState = .closing then .isolated else h.opState
      bootOutputs (freshEvent { kind := .joinStandby, follow := st } s)
    | none => s

/-- BOOT_COMPLETE: with the role known the unit leaves BOOT for ISOLATED or LOCKOUT, or, as a standby that holds an image, for its partner's
state (R31, R504). After a lockout decision in SLEEP it stays in LOCKOUT. -/
def execBootComplete (s : State) : Out :=
  if !s.starting || !s.booted then .next s
  else if s.core.opState = .lockout then
    .next (if s.pair.role = .undecided || s.pair.role = .joining then s else bootOutputs s)
  else
    match s.pair.role with
    | .single | .active | .takingOver => .next (bootOutputs (freshEvent { kind := .bootComplete } s))
    | .standby => .next (joinPartner s)
    | .undecided | .joining | .incoming | .outgoing | .claiming => .next s

/-- A coil in pull-in drops to hold current (R499). -/
def dropPullIn (s : State) : State :=
  let f := fun (c : Contactor) => if c.coil = .pullIn then { c with coil := .hold } else c
  { s with fe := { s.fe with kp := f s.fe.kp, kn := f s.fe.kn } }

/-- SOURCE_LOSS: with the backup available and not in use the changeover begins and motion comes to rest, else POWER-GOOD is about to fall (R499,
R500). -/
def execSourceLoss (vHvb : Nat) (backupFault : Bool) (s : State) : Out :=
  if !s.power.good || s.power.lost || s.power.changeover.isSome then .next s
  else
    let s := { s with power := { s.power with vHvb := vHvb, backupFault := backupFault, backupAvail := 150 ≤ vHvb && !backupFault } }
    let s := if backupFault then s.raiseOnce 0x070 0xC2 .warn 0 0 else s.clearOnce 0x070 0xC2 0 0
    if s.power.backupAvail && !s.power.onBackup then
      .next (motionToBackup (dropPullIn { s with power := { s.power with changeover := some s.core.cycle } }))
    else .next { s with power := { s.power with lost := true } }

/-- BACKUP_REGULATING: the backup has reached regulation within the changeover (R499). -/
def execBackupRegulating (bus : Nat) (s : State) : Out :=
  if s.power.changeover.isNone || !s.power.good then .next s
  else .next (toBackup { s with power := { s.power with bus := bus, changeovers := add32 s.power.changeovers 1 } })

/-- AUX_RETURN: an AUX input has held 18 V for 100 ms: the backup stops and motion goes on (R327, R499). -/
def execAuxReturn (aux1 aux2 : Nat) (s : State) : Out :=
  if !s.power.onBackup || !s.power.good || sourceOf aux1 aux2 = 3 then .next s
  else
    let s := { s with power := { s.power with aux1 := aux1, aux2 := aux2, onBackup := false } }
    .next (motionFromBackup (motionDomain (setSource (sourceOf aux1 aux2) (s.clearOnce 0x070 0xC1 0 0))))

/-- AUX_INPUT_OUT_OF_RANGE: an AUX input has lain outside 18-32 V, or back inside, for 100 ms while another source supplies the bus (R525). -/
def execAuxInputOutOfRange (input mV : Nat) (s : State) : Out :=
  if input != 1 && input != 2 then .next s
  else
    let s := { s with power := if input = 1 then { s.power with aux1 := mV } else { s.power with aux2 := mV } }
    let other := s.power.onBackup || 18000 ≤ (if input = 1 then s.power.aux2 else s.power.aux1)
    if mV < 18000 || 32000 < mV then .next (if s.power.good && other then s.raiseOnce 0x070 0xC0 .warn 5 input else s)
    else .next (s.clearOnce 0x070 0xC0 5 input)

/-! ### The fall of POWER-GOOD (R500, R501) -/

/-- The partner can go on: its heartbeat was accepted within 5 cycles and its sense is ALIVE. -/
def State.partnerGoesOn (s : State) : Bool :=
  s.inPair && s.pair.sense = .alive && (match s.pair.hb with
    | some h => s.since h.cycle ≤ 5
    | none => false)

/-- The high sides of both coils off, the low sides left as they are. -/
def dropHighSides (s : State) : State :=
  let rel := fun (c : Contactor) => { c with coil := .off, commanded := false, since := s.core.cycle }
  { s with fe := { s.fe with kp := rel s.fe.kp, kn := rel s.fe.kn } }

/-- The ring ports are off (R68): nothing is originated or relayed. -/
def ringOff (s : State) : State := setRing .down { s with ring := { s.ring with originating := false, bothPorts := false } }

/-- POWER_GOOD_FALL: writes stop, domains are shed, and the yield or the trip branch is taken, or neither with the contactors open (R203, R492,
R501, R559). -/
def execPowerGoodFall (s : State) : Out :=
  if !s.power.good || !(s.power.lost || s.power.changeover.isSome) then .next s
  else
    let branch := if s.partnerGoesOn then 0 else if s.bothOpen then 2 else 1
    let kept := if s.core.opState = .sleep then [] else s.lookout.buffer
    let s := { s with power := { s.power with good := false, lost := true, changeover := none, branch := some branch,
                                              falls := add32 s.power.falls 1 },
                      storage := { s.storage with queue := [] }, lookout := { s.lookout with buffer := kept } }
    let s := s.tellEvent 0x0080 2 0 (le 1 branch ++ le 1 0 ++ le 2 s.power.bus)
    let s := ringOff (s.setDomains [2, 3, 4, 5, 6, 7, 9, 10, 12] false)
    match branch with
    | 0 =>
      let s := dropHighSides s
      .next { s with ranger := { s.ranger with whistle := false } }
    | 1 =>
      let s := if s.seat.noWait then { s with seat := { s.seat with withdrawals := add32 s.seat.withdrawals 1 } } else s
      let s := s.raiseOnce 0x070 0xC3 .trip 0 0
      .next (startTripWait (if s.seat.noWait then 0 else min 15 (s.env 0x5802 8).toNat) true s)
    | _ => .next s

/-- Every domain is off: OFF. The coils are unpowered and their low sides conduct, as does TRIP-PCS (R30, R126, R374). -/
def powerOff (s : State) : State :=
  let s := closeLowSides (dropHighSides (ringOff s))
  let s := { s with power := { s.power with domains := 0, boot := 0, good := false, lost := false, changeover := none },
                    fb := { s.fb with active := false, tripPcs := false, trip := { s.fb.trip with running := false } },
                    canopy := { s.canopy with duty := [] } }
  freshEvent { kind := .supplyLost } s

/-- HOLD_UP_EXPIRY: at the end of hold-up every domain is off (R501). -/
def execHoldUpExpiry (s : State) : Out :=
  if s.power.good || s.core.opState = .off then .next s else .next (powerOff s)

/-- HOLD_UP_TEST: the hold-up time is published, *hold-up store low* below 20 ms (R502). -/
def execHoldUpTest (time : Nat) (s : State) : Out :=
  if s.core.opState = .off then .next s
  else
    let s := { s with power := { s.power with holdUp := time } }
    .next (if time < 200 then s.raiseOnce 0x070 0xC4 .warn 0 0 else s.clearOnce 0x070 0xC4 0 0)

/-! ### Domain and clock faults (R503, R507) -/

/-- The PD0 backstop: the loop opens, both coils are released at once (R503). -/
def backstop (s : State) : State := releaseCoils false { s with fb := { s.fb with tripPcs := true } }

/-- *Protection current lost*, as a cause of the Firebreak (R263, R503). -/
def currentGone (s : State) : State := if s.causeRaised 18 0 0 then s else qualify 18 0 0 false s

/-- Lanes lost with their domain: their cells keep their last state (R160, R503). -/
def lanesGone (l : List Nat) (s : State) : State :=
  { s with cruiser := { s.cruiser with frozen := s.cruiser.frozen ++ l } }.raiseOnce 0x038 0x52 .trip 0 0

/-- Every bridge off. -/
def bridgesOff (s : State) : State := ((upFrom 1 4).foldl (fun s a => cutFailedAxis a s) s).raiseOnce 0x048 0x8A .degrade 0 0

/-- Severity of *power domain fault* by domain, that of its reaction; none for PD0 and PD1, whose reaction ends the run (log entry 43). -/
def domainSev (d : Nat) : Option Sev :=
  if d = 2 || d = 3 || d = 8 || d = 11 then some .trip
  else if d = 4 || d = 5 || d = 10 then some .degrade
  else if d = 6 || d = 7 || d = 9 || d = 12 then some .warn else none

/-- The reaction to a domain fault (R503). -/
def domainReaction (d : Nat) (s : State) : State :=
  match d with
  | 0 => { s with power := { s.power with lost := true } }
  | 1 => { s with power := { s.power with restartPending := some (2, 0xFFFF) } }
  | 2 => lanesGone [0, 1, 2, 3] s
  | 3 => lanesGone [4, 5, 6, 7] s
  | 4 => s.raiseOnce (srcRing 0) 0x2C .degrade 0 0
  | 5 => s.raiseOnce (srcRing 1) 0x2C .degrade 0 0
  | 6 => s.raiseOnce 0x050 0x91 .warn 0 0
  | 7 => s.raiseOnce 0x058 0x98 .warn 0 0
  | 8 => currentGone (backstop s)
  | 9 => { s with fe := { s.fe with injecting := false, iPos := none, iNeg := none, isoStale := true } }.raiseOnce 0x029 0x43 .warn 0 0
  | 10 => bridgesOff s
  | 11 => ((backstop s).raiseOnce 0x02A 0x44 .trip 5 0).raiseOnce 0x02A 0x44 .trip 5 1
  | 12 => { s with storage := { s.storage with state := 2 } }.raiseOnce 0x078 0xE0 .warn 0 0
  | _ => s

/-- POWER_DOMAIN_FAULT: a domain switch opens until the next restart, with the reaction of its domain (R503). -/
def execPowerDomainFault (d : Nat) (s : State) : Out :=
  if 12 < d || !s.pd d then .next s
  else
    let s := { s with power := { s.power with faulted := setBit s.power.faulted d true } }.setDomains [d] false
    let s := match domainSev d with
      | some v => s.raiseOnce 0x070 0xC5 v 5 d
      | none => s
    .next (domainReaction d s)

/-- Severity of *clock fault* by position: that of its reaction; none for CD-CORE, whose reaction is a restart (log entry 43). -/
def clockSev (n : Nat) : Option Sev :=
  if n = 1 || n = 6 || n = 7 then some .trip
  else if n = 2 || n = 3 || n = 8 then some .degrade
  else if n = 4 || n = 5 || n = 9 then some .warn else none

/-- The reaction to a clock fault (R507). -/
def clockReaction (n : Nat) (crystal : Bool) (s : State) : State :=
  match n with
  | 0 => { s with power := { s.power with restartPending := some (3, 0xFFFF) } }
  | 1 => lanesGone (upFrom 0 8) s
  | 2 => s.raiseOnce (srcRing 0) 0x2C .degrade 0 0
  | 3 => s.raiseOnce (srcRing 1) 0x2C .degrade 0 0
  | 4 => s.raiseOnce 0x050 0x91 .warn 0 0
  | 5 => s.raiseOnce 0x058 0x98 .warn 0 0
  | 6 => currentGone (backstop s)
  | 7 => setRing (if s.inPair then .relay else .down) { s with ring := { s.ring with originating := false, bothPorts := false } }
  | 8 => bridgesOff s
  | 9 => reWhistle { s with power := { s.power with untrimmed := crystal } }
  | _ => s

/-- Whether the check of a position applies: the recovered ring clocks only while LOS is clear. -/
def State.clockChecked (s : State) (n : Nat) : Bool :=
  if n = 2 then !Tab.flag s.ring.los 0 else if n = 3 then !Tab.flag s.ring.los 1 else true

/-- One clock's check: 3 consecutive counts out of band are a clock fault. -/
def checkClock (bad : List Nat) (crystal : Bool) (s : State) (n : Nat) : State :=
  let c := if bad.contains n && s.clockChecked n then min 3 (Tab.nat s.power.clockBad n + 1) else 0
  let s := { s with power := { s.power with clockBad := Tab.put s.power.clockBad n c } }
  if c < 3 || s.power.clockFaults.getLsbD n then s
  else
    let s := { s with power := { s.power with clockFaults := setBit s.power.clockFaults n true } }
    let s := match clockSev n with
      | some v => s.raiseOnce 0x072 0xC6 v 5 n
      | none => s
    clockReaction n crystal s

/-- CLOCK_CHECK: once per millisecond every clock is counted against CD-AO; `bad` are the positions out of band, `crystal` whether it is CD-AO's
crystal that fails. The Lookout's own update pauses the checks (R507, R544). -/
def execClockCheck (bad : List Nat) (crystal : Bool) (hz : Nat) (s : State) : Out :=
  if s.core.opState = .off || s.core.opState = .sleep || (s.update.started && s.update.step = 1) then .next s
  else .next ((upFrom 0 10).foldl (checkClock bad crystal) { s with power := { s.power with rc := hz } })

/-! ### Restarts (R506) -/

/-- Sensors of a zone (R510). -/
def zoneSensors (z : Nat) : List Nat := if z = 1 then [1, 2, 3] else if z = 2 then [4, 5] else [6]

/-- A module temperature sensor. -/
def State.sensor (s : State) (n : Nat) : TempSensor := Tab.at s.power.sensors n {}

/-- Whether every sensor of a zone has shown 3 consecutive samples below 110 °C (R514). -/
def State.zoneCool (s : State) (z : Nat) : Bool := (zoneSensors z).all fun n => 3 ≤ (s.sensor n).cool

/-- A write to 9010.01 (R506, R514). -/
def condRestart (s : State) : Nat :=
  match s.core.opState with
  | .isolated | .service | .tripped | .lockout => if s.power.thermalLatch && !s.zoneCool s.power.latchZone then abState else 0
  | .off | .boot | .precheck | .closing | .online | .derated | .tripping | .sleep => s.stateAbort abState

/-- The restart is requested: cause 4, or 5 when it ends a thermal latch. -/
def effRestart (sess : Nat) (s : State) : State :=
  { s with power := { s.power with restartPending := some (if s.power.thermalLatch then 5 else 4, sess) } }

/-- A restart with cause 1 or 2 counts against an unconfirmed update; the second starts a rollback (R550). -/
def countRestart (cause : Nat) (s : State) : State :=
  if s.unconfirmed && (cause = 1 || cause = 2) then
    let s := { s with update := { s.update with restarts := inc8 s.update.restarts } }
    if 2 ≤ s.update.restarts then rollBackOwn s else s
  else s

/-- MODULE_RESTART: PD0 stores the cause, every domain is disconnected and the module is OFF (R506); a coil release that a watchdog expiry asks for
comes first (R484); a cool zone ends the thermal latch (R514). -/
def execModuleRestart (s : State) : Out :=
  match s.power.restartPending with
  | none => .next s
  | some (cause, sess) =>
    if s.core.opState = .off || (s.fb.trip.running && !s.fb.trip.released) then .next s
    else
      let s := countRestart cause s
      let latch := s.power.thermalLatch && !s.zoneCool s.power.latchZone
      let s := { s with power := { s.power with restartPending := none, restartCause := cause, note := some (cause, sess), thermalLatch := latch,
                                                shutDown := false, faulted := 0 } }
      .next (powerOff s)

/-! ### Module temperature (R510-R514) -/

/-- Zone of a sensor. -/
def sensorZone (n : Nat) : Nat := if n ≤ 3 then 1 else if n ≤ 5 then 2 else 3

/-- Threshold and hysteresis of a level, 0.01 °C (R511). -/
def levelLimits (l : Nat) : Int × Int := if l = 1 then (9500, 500) else if l = 2 then (10500, 500) else (12000, 1000)

/-- A sensor's counts for one level after a sample. -/
def TempSensor.count (fast : Bool) (t : Int) (x : TempSensor) (l : Nat) : TempSensor :=
  let (thr, hyst) := levelLimits l
  let b := if thr ≤ t && fast then min 3 (Tab.nat x.beyond l + 1) else 0
  let c := if t ≤ thr - hyst then min 3 (Tab.nat x.clear l + 1) else 0
  let x := { x with beyond := Tab.put x.beyond l b, clear := Tab.put x.clear l c }
  if b = 3 then { x with level := max x.level l } else x

/-- A level the sensor stands at falls when its clearing has qualified. -/
def TempSensor.fall (x : TempSensor) (l : Nat) : TempSensor :=
  if x.level = l && 3 ≤ Tab.nat x.clear l then { x with level := l - 1 } else x

/-- A sensor after a sample: readings below −60 °C or above 160 °C only count towards *broken* (R513; log entry 44). -/
def TempSensor.sample (t : Int) (x : TempSensor) : TempSensor :=
  let fast := decide (9000 ≤ x.temp)
  if t < -6000 || 16000 < t then
    let w := min 3 (x.wild + 1)
    { x with temp := t, wild := w, broken := x.broken || w = 3, beyond := [], clear := [], cool := 0 }
  else
    let x := (upFrom 1 3).foldl (TempSensor.count fast t) { x with wild := 0, temp := t, cool := if t < 11000 then min 3 (x.cool + 1) else 0 }
    [3, 2, 1].foldl TempSensor.fall x

/-- Level of a zone: the highest of its sensors, a broken one counting as throttle, two as shut-down (R511, R513). -/
def State.zoneLevel (s : State) (z : Nat) : Nat :=
  let l := (zoneSensors z).map s.sensor
  if 2 ≤ (l.filter fun x => x.broken).length then 3
  else l.foldl (fun m x => max m (if x.broken then max 2 x.level else x.level)) 0

/-- Level of a zone in force, 9020.07. -/
def zoneField (v : BitVec 8) (z : Nat) : Nat := v.toNat / 4 ^ (z - 1) % 4

/-- The zone levels that take effect at the next boundary. -/
def nextZones (s : State) : State :=
  { s with power := { s.power with zonesNext := BitVec.ofNat 8 (s.zoneLevel 1 + 4 * s.zoneLevel 2 + 16 * s.zoneLevel 3) } }

/-- The point table takes a slow sensor's every sample and a fast one's every hundredth (R144, R510). -/
def sensorPoint (n : Nat) (t : Int) (s : State) : State :=
  let x := s.sensor n
  let f := if 9000 ≤ t then x.fast + 1 else 0
  let s := { s with power := { s.power with sensors := Tab.put s.power.sensors n { x with fast := if f = 100 then 0 else f } } }
  if f = 0 || f = 1 then samplePoint (1095 + n) (some t) s.core.cycle s else s

/-- TEMPERATURE_SENSOR_SAMPLE: a sample advances the level counts of its sensor (R511, R513); a change of its level is recorded (R526). -/
def execTemperatureSensorSample (n : Nat) (t : Int) (s : State) : Out :=
  if n = 0 || 6 < n || !s.pd 0 || (s.sensor n).broken then .next s
  else
    let old := s.sensor n
    let new := old.sample t
    let s := sensorPoint n t { s with power := { s.power with sensors := Tab.put s.power.sensors n new } }
    let s := if new.level = old.level then s else s.tellEvent 0x0080 4 n (le 1 old.level ++ le 1 new.level ++ leI 2 t)
    let s := if new.broken then s.raiseOnce 0x071 0xCA .warn 5 n else s
    .next (nextZones s)

/-- Kind and severity of a level. -/
def levelFault (l : Nat) : Nat × Sev := if l = 1 then (0xC7, .warn) else if l = 2 then (0xC8, .warn) else (0xC9, .trip)

/-- One level of a zone at the boundary: raised or cleared; a shut-down that has set the latch stays (R511, R514). -/
def zoneEdge (z old new : Nat) (s : State) (l : Nat) : State :=
  let (kind, sev) := levelFault l
  if l ≤ new && old < l then
    let s := s.raiseOnce 0x071 kind sev 5 z
    if l = 2 then { s with power := { s.power with throttles := add32 s.power.throttles 1 } } else s
  else if new < l && l ≤ old then
    if l = 3 && s.power.thermalLatch && s.power.latchZone = z then s else s.clearOnce 0x071 kind 5 z
  else s

/-- Under throttle of the power stage only the highest-priority mover goes on (R328, R512). -/
def throttleAxes (s : State) : State :=
  if s.motionPlaces = 2 then s
  else
    let best := s.movers.foldl (fun m a => max m (axisRank s a)) 0
    let keep := s.movers.find? fun a => axisRank s a = best
    s.movers.foldl (fun s a => if some a = keep then s else (stopAxis a false s).modAxis a fun x => { x with waiting := true }) s

/-- At a boundary the zone levels take effect (R511). -/
def applyZones (s : State) : State :=
  let old := s.power.zones
  let new := s.power.zonesNext
  if old = new then s
  else
    let s := { s with power := { s.power with zones := new } }
    throttleAxes ((upFrom 1 3).foldl (fun s z => (upFrom 1 3).foldl (zoneEdge z (zoneField old z) (zoneField new z)) s) s)

/-- THERMAL_SHUT_DOWN: after a shut-down trip, once TRIPPED or with the contactors open, what is not needed goes off and the thermal latch is set
(R514). -/
def execThermalShutDown (s : State) : Out :=
  match (upFrom 1 3).find? fun z => zoneField s.power.zones z = 3 with
  | none => .next s
  | some z =>
    if s.power.shutDown || s.core.opState = .off || !(s.core.opState = .tripped || s.bothOpen) then .next s
    else
      let s := { s with power := { s.power with shutDown := true, thermalLatch := true, latchZone := z } }
      .next (ringOff (s.setDomains [2, 3, 4, 5, 9, 10, 12] false))

/-! ### The seat (R558, R559) -/

/-- SEAT_DETECT: seat detect has held closed for 100 ms: the module is seated, and with PD0 running the start begins (t_A, R504, R558). -/
def execSeatDetect (s : State) : Out :=
  if s.seat.state = 2 then .next s
  else
    let s := { s with seat := { s.seat with state := 2, insertions := add32 s.seat.insertions 1 } }
    .next (if s.core.opState = .boot && s.pd 0 && !s.power.boot.getLsbD 1 then startDomains s else s)

/-- SEAT_DETECT_OPENING: an opening of 0.5 ms counts as a source loss with the backup unavailable, with no break wait (R559); one before
qualification only starts the 100 ms again. -/
def execSeatDetectOpening (s : State) : Out :=
  if s.seat.state != 2 then .next { s with seat := { s.seat with state := 0 } }
  else
    let s := { s with seat := { s.seat with state := 0 } }
    if s.power.good then
      .next { s with seat := { s.seat with noWait := true }, power := { s.power with lost := true, changeover := none, backupAvail := false } }
    else .next s

end Sys2Proof.Machine
end

