-- ==== Sys2Proof/Machine/Lookout.lean ====
section
/-! DEFINITION. The Lookout (17 R515-R524): entering SLEEP, its bursts, its records, its rules, and waking. -/

namespace Sys2Proof.Machine

open Sys2Proof

/-! ### The rule table (R519-R522) -/

/-- A rule as 16 bytes. -/
def ruleBytes (r : LookoutRule) : Bytes :=
  le 1 r.input ++ le 1 r.cmp ++ le 1 r.action ++ le 1 r.sev ++ leI 4 r.level ++ le 4 r.hyst ++ le 2 r.filter ++ le 2 r.dwell

/-- Rule j of a table. -/
def ruleOf (t : Bytes) (j : Nat) : LookoutRule :=
  { input := fieldN t (16 * j) 1, cmp := fieldN t (16 * j + 1) 1, action := fieldN t (16 * j + 2) 1, sev := fieldN t (16 * j + 3) 1,
    level := fieldI t (16 * j + 4) 4, hyst := fieldN t (16 * j + 8) 4, filter := fieldN t (16 * j + 12) 2, dwell := fieldN t (16 * j + 14) 2 }

/-- The level that stands for the envelope reference. -/
def refLevel : Int := 0x7FFFFFFF

/-- The default rules 0 to 6 (R522). -/
def defaultRules : List LookoutRule :=
  [{ input := 12, cmp := 1, action := 2, sev := 5, level := 1 },
   { input := 2, cmp := 1, action := 1, sev := 2, level := 5000, dwell := 10 },
   { input := 3, cmp := 2, action := 1, sev := 2, level := refLevel },
   { input := 5, cmp := 2, action := 1, sev := 2, level := refLevel, dwell := 60 },
   { input := 4, cmp := 1, action := 1, sev := 2, level := refLevel, dwell := 60 },
   { input := 6, cmp := 1, action := 1, sev := 2, level := refLevel, dwell := 60 },
   { input := 8, cmp := 1, action := 0, sev := 1, level := 500 }]

/-- The default table's bytes: rules 7 to 31 off, and the check. -/
def defaultTable : Bytes :=
  let b := padTo 512 (defaultRules.flatMap ruleBytes)
  b ++ crcBytes b

/-- The table 9040.01: the one written, else the default. -/
def State.ruleTable (s : State) : Bytes :=
  if (s.octets 0x9040 1).isEmpty then defaultTable else s.octets 0x9040 1

/-- 9040.02: its check. -/
def State.ruleCheck (s : State) : Nat := fieldN s.ruleTable 512 4

/-- Inputs with an envelope reference (R520). -/
def hasReference (input : Nat) : Bool := 3 ≤ input && input ≤ 7

/-- Whether a rule may stand in a table: an action 2 only at LOCKOUT, the reference only where the input has one (R519). -/
def ruleOk (r : LookoutRule) : Bool :=
  !(r.action = 2 && r.sev < 5) && !(r.level = refLevel && !hasReference r.input)

/-- A write of 9040.01 (R519). -/
def condRuleTable (t : Bytes) : Nat :=
  if t.length != 516 then abLength
  else if fieldN t 512 4 != (crc32c (t.take 512)).toNat || !((upFrom 0 32).all fun j => ruleOk (ruleOf t j)) then abTable
  else 0

/-- The rest-direction limits by input code, read at SLEEP entry (R254, R520); none without an envelope. -/
def State.references (s : State) : Tab Int :=
  if s.hasEnv then
    [(3, s.env 0x5803 3), (4, min (s.env 0x5800 1) (s.env 0x5800 3) * 10), (5, max (s.env 0x5800 2) (s.env 0x5800 4) * 10),
     (6, min (s.env 0x5801 1) (s.env 0x5801 3)), (7, min (s.env 0x5801 2) (s.env 0x5801 4))]
  else []

/-- The rules loaded at SLEEP entry: default rules 0 and 2 are off where R522 skips them. -/
def State.loadRules (s : State) : List LookoutRule :=
  let own := !(s.octets 0x9040 1).isEmpty
  (upFrom 0 32).map fun j =>
    if !own && ((j = 0 && !(s.env 0x5804 1).toNat.testBit 2) || (j = 2 && s.env 0x5803 1 = 0)) then {} else ruleOf s.ruleTable j

/-! ### Entering SLEEP (R523) -/

/-- Whether the Lookout is the module: SLEEP with PD1 off. -/
def State.asleep (s : State) : Bool := s.core.opState = .sleep && !s.pd 1 && s.pd 0

/-- Seconds of operating time. -/
def State.opSeconds (s : State) : Nat := s.power.opTime / 1000

/-- What is queued for the journal and the Tally is written while it still can be. -/
def flushQueues (s : State) : State :=
  let put := fun (s : State) (r : JournalRec) => match r.slot with
    | some n => writeFixed n r false s
    | none => writeLog r 0 s
  let q := s.storage.queue
  let s := q.foldl put { s with storage := { s.storage with queue := [] } }
  let s := drainQ24 s
  let t := s.tally.q25
  t.foldl writeRecord { s with tally := { s.tally with q25 := [] } }

/-- SLEEP entry: BLEED-OFF went out as the state was entered; then the checkpoint and a SoC snapshot, the rule table, and the domains go off
(R523). Connections and the control core's volatile state end with PD1. -/
def sleepDown (s : State) : State :=
  let s := s.tellEvent 0x0080 5 0 (le 4 (s.cfg 0x9050 2) ++ le 4 s.ruleCheck)
  let s := if condRuleTable s.ruleTable = 0 then s else s.raiseOnce 0x072 0xCC .warn 0 0
  let s := captureImage s
  let s := queueSnapshot (if s.storageOk then storeCheckpoint s else s)
  let s := flushQueues s
  let l := s.lookout
  let s := { s with lookout := { l with rules := [], fired := 0, table := s.loadRules, inputs := [], firstSnap := none, lastSnap := none, largest := 0,
                                        slept := 0, entered := (s.clock.sec, s.clock.ns), wasActive := s.countsActive, reference := s.references,
                                        changedHeads := [] } }
  let s := closeLowSides (dropHighSides (ringOff s))
  { s with power := { s.power with domains := 1 }, fb := { s.fb with active := false, tripPcs := false },
           dict := { s.dict with sessions := [], responses := [] } }

/-- The module goes down once what it still has to answer has been sent, within 2 s (R523). -/
def settleSleep (s : State) : State :=
  if s.core.opState = .sleep && s.pd 1 && (s.dict.responses.isEmpty || s.passed s.core.stateEntered 1900) then sleepDown s else s

/-! ### Records (R518) -/

/-- A record into the 16 KB buffer, marked as the Lookout's. -/
def lookoutTell (event subject : Nat) (items : Bytes) (s : State) : State :=
  let r := { s.record 0x0080 false (le 1 event ++ le 1 0 ++ le 2 subject ++ items) with flags := 0x0A }
  let used := (s.lookout.buffer.map TallyRec.size).foldl (· + ·) 0
  if used + r.size ≤ 16384 then { s with lookout := { s.lookout with buffer := s.lookout.buffer ++ [r] } } else s

/-- LOG_FLUSH: the buffer is 75 % full: a burst of PD12 writes it to the Tally (R515, R518). -/
def execLogFlush (s : State) : Out :=
  let used := (s.lookout.buffer.map TallyRec.size).foldl (· + ·) 0
  if !s.asleep || !s.power.good || used < 12288 then .next s
  else
    let b := s.lookout.buffer
    .next (b.foldl writeRecord { s with lookout := { s.lookout with buffer := [] } })

/-! ### Bursts (R515-R517) -/

/-- Set the latest value of an input. -/
def setInput (code : Nat) (v : Int) (s : State) : State := { s with lookout := { s.lookout with inputs := Tab.put s.lookout.inputs code v } }

/-- Whether a current (mA) is above the rest threshold of the smallest nominal capacity (R517). -/
def State.aboveRest (s : State) (i : Int) : Bool :=
  match s.allCells with
  | [] => false
  | k :: t =>
    let least := t.foldl (fun m j => min m (s.cNom j)) (s.cNom k)
    decide (s.cfg 0x4700 7 * least < i.natAbs * 360000)

/-- The current record (R517): a current above the threshold ends the rest. -/
def recordCurrent (i : Int) (s : State) : State :=
  let l := { s.lookout with largest := max s.lookout.largest i.natAbs }
  if s.aboveRest i then { s with lookout := { l with restStart := s.opSeconds, firstSnap := none, lastSnap := none } }
  else { s with lookout := l }

/-- SENSE_BURST: PD8 runs: string voltage and current, and the current record (R515, R517). -/
def execSenseBurst (vStr current : Int) (s : State) : Out :=
  if !s.asleep then .next s
  else
    let s := recordCurrent current { s with fe := { s.fe with vStr := vStr, main := current } }
    .next (setInput 2 current.natAbs (setInput 1 vStr s))

/-- Whether this unit runs ring polls and insulation bursts (R515). -/
def State.pollsRing (s : State) : Bool := s.asleep && (!s.inPair || s.lookout.wasActive)

/-- INSULATION_BURST: one full insulation period, its settled currents in nA (R119, R515). -/
def execInsulationBurst (iPos iNeg : Int) (s : State) : Out :=
  if !s.pollsRing || s.cfg 0x2012 3 = 0 then .next s
  else
    let r := insulationResult iPos iNeg (s.unitsIn * (2 + s.notOpen))
    .next (setInput 3 r { s with fe := { s.fe with rIso := r, isoSeq := (s.fe.isoSeq + 1) % 0x10000 } })

/-- Input 8 (R229): the largest fall of a cell's snapshot voltage relative to the median fall since the first snapshot. -/
def relativeFall (first last : LookoutSnap) : Int :=
  let falls := last.cells.filterMap fun (e : Nat × Int × Int) =>
    (first.cells.find? fun f => f.1 = e.1).map fun f => f.2.1 - e.2.1
  match falls with
  | [] => 0
  | f :: t => t.foldl max f - medianI falls

/-- A snapshot is due: 4802.07 after the latest one, or after SLEEP entry (R229). -/
def State.pollSnapDue (s : State) : Bool :=
  let since := match s.lookout.lastSnap with
    | some x => s.opSeconds - x.sec
    | none => s.lookout.slept
  s.cfg 0x4802 7 ≤ since

/-- Keep the first and the latest snapshot of the rest (R517). -/
def keepSnap (cells : List (Nat × Int × Int)) (s : State) : State :=
  let x : LookoutSnap := { sec := s.opSeconds, cells := cells }
  match s.lookout.firstSnap with
  | none => setInput 8 0 { s with lookout := { s.lookout with firstSnap := some x, lastSnap := some x } }
  | some f => setInput 8 (relativeFall f x) { s with lookout := { s.lookout with lastSnap := some x } }

/-- RING_POLL: the heads are woken and 16 cycles of blocks collected; `cells` are the means, cell, voltage (10 µV), temperature (0.01 °C), `points`
the cell temperatures seen, `changed` the heads whose serial number has changed, `cycles` how far C advanced (R515, R516). -/
def execRingPoll (cells : List (Nat × Int × Int)) (points : List Int) (changed : List Nat) (cycles : Nat) (s : State) : Out :=
  if !s.pollsRing then .next s
  else
    let s := { s with core := { s.core with cycle := s.ahead cycles },
                      lookout := { s.lookout with changedHeads := s.lookout.changedHeads ++ changed } }
    let vs := cells.map fun e => e.2.1
    let s := match vs with
      | [] => s
      | v :: t =>
        let hi := t.foldl max v
        let lo := t.foldl min v
        setInput 5 lo (setInput 4 hi { s with lookout := { s.lookout with pollCells := (hi, lo) } })
    let s := match points with
      | [] => s
      | p :: t => setInput 7 (t.foldl min p) (setInput 6 (t.foldl max p) s)
    let s := lookoutTell 8 0 (leI 4 s.fe.vStr ++ leI 4 s.fe.main ++ le 2 s.fe.rIso ++ le 2 0 ++ leI 4 s.lookout.pollCells.1
      ++ leI 4 s.lookout.pollCells.2) s
    .next (if s.pollSnapDue then keepSnap cells s else s)

/-! ### Waking (R31, R524) -/

/-- A wake, or a lockout decision: the cause is stored, the module starts as R504 gives with PD0 already up, and the Lookout's records follow to the
Tally (R518, R524, R526). -/
def wakeUp (cause rule : Nat) (lockout : Bool) (s : State) : State :=
  let s := { s with toBody := bootBody true s }
  let b := s.lookout.buffer
  let s := { s with lookout := { s.lookout with wakeCause := cause, buffer := [] }, power := { s.power with domains := 1 } }
  let s := queueRecords b s
  let s := s.tellEvent 0x0080 6 cause (le 1 rule ++ le 3 0)
  startDomains (freshEvent { kind := if lockout then .lockoutWake else .wake } (guardEnvelope s))

/-- WAKE_TIMER: 9050.02 seconds after SLEEP entry (R524). -/
def execWakeTimer (s : State) : Out :=
  if s.asleep && s.cfg 0x9050 2 != 0 && (s.cfg 0x9050 3).testBit 0 && s.cfg 0x9050 2 ≤ s.lookout.slept then .next (wakeUp 2 0xFF false s)
  else .next s

/-- PPS_IN_HOLD: PPS-IN has been held high for 2 s (R524). -/
def execPpsInHold (s : State) : Out :=
  if s.asleep && (s.cfg 0x9050 3).testBit 1 then .next (wakeUp 3 0xFF false s) else .next s

/-- CAN_WAKE_UP_PATTERN: the wake-up pattern on CAN-A (R524). -/
def execCanWakeUpPattern (s : State) : Out :=
  if s.asleep && (s.cfg 0x9050 3).testBit 2 then .next (wakeUp 4 0xFF false s) else .next s

/-- TETHER_LINE_ENERGY: a waking partner (R524). -/
def execTetherLineEnergy (s : State) : Out := if s.asleep && s.inPair then .next (wakeUp 5 0xFF false s) else .next s

/-! ### Rules (R521) -/

/-- The level of a rule: its own, or the envelope reference of its input (R520). -/
def State.ruleLevel (s : State) (r : LookoutRule) : Option Int :=
  if r.level = refLevel then Tab.find s.lookout.reference r.input else some r.level

/-- Whether a rule's comparison holds. -/
def ruleHolds (r : LookoutRule) (level v : Int) : Bool := if r.cmp = 1 then level ≤ v else if r.cmp = 2 then v ≤ level else false

/-- Whether the value has passed the level in the opposite sense by the hysteresis. -/
def rulePassed (r : LookoutRule) (level v : Int) : Bool :=
  if r.cmp = 1 then decide (v < level) && decide (v ≤ level - r.hyst) else decide (level < v) && decide (level + r.hyst ≤ v)

/-- A firing: bit of 9040.03, record event 7, *Lookout rule fired* at the rule's severity (R521, R526). -/
def fireRule (j : Nat) (r : LookoutRule) (v : Int) (s : State) : State :=
  let s := { s with lookout := { s.lookout with fired := setBit s.lookout.fired j true } }
  let s := lookoutTell 7 j (leI 4 v ++ le 1 r.action ++ le 3 0) s
  s.report 0x072 0xCB (Sev.ofCode r.sev) 5 j

/-- Evaluate rule j on an update of its input; the state, and the rules fired so far with their actions. -/
def evalRule (codes : List Nat) (acc : List (Nat × Nat) × State) (j : Nat) : List (Nat × Nat) × State :=
  let s := acc.2
  let r := s.lookout.table.getD j {}
  if r.input = 0 || r.cmp = 0 || !codes.contains r.input then acc
  else match Tab.find s.lookout.inputs r.input, s.ruleLevel r with
    | some raw, some level =>
      let x := Tab.at s.lookout.rules j {}
      let (v, s) := filterStep (x.filtered.getD raw) raw (r.filter * 1000) x.filtered.isSome s
      let x := { x with filtered := some v }
      let keep := fun (y : Rule) (s : State) => { s with lookout := { s.lookout with rules := Tab.put s.lookout.rules j y } }
      if !x.armed then (acc.1, keep { x with armed := rulePassed r level v } s)
      else if !ruleHolds r level v then (acc.1, keep { x with held := none } s)
      else
        let since := x.held.getD s.lookout.slept
        if r.dwell ≤ s.lookout.slept - since then
          (acc.1 ++ [(j, r.action)], fireRule j r v (keep { x with held := none, armed := false } s))
        else (acc.1, keep { x with held := some since } s)
    | _, _ => acc

/-- The Lookout's second: time in SLEEP, operating time and the local clock go on (R349, R503, R520; log entry 45). -/
def sleepSecond (s : State) : State :=
  setInput 11 (s.lookout.slept + 1)
    { s with lookout := { s.lookout with slept := s.lookout.slept + 1 }, power := { s.power with opTime := s.power.opTime + 1000 },
             clock := { s.clock with sec := s.clock.sec + 1 } }

/-- The inputs the Lookout reads itself: supply bus, hottest sensor, time in SLEEP, FIRE-IN (R520). -/
def ownInput (bus : Int) (fire : Bool) (s : State) (code : Nat) : State :=
  match code with
  | 9 => setInput 9 bus s
  | 10 =>
    match s.power.sensors with
    | [] => s
    | e :: t => setInput 10 (t.foldl (fun m f => max m f.2.temp) e.2.temp) s
  | 11 => sleepSecond s
  | 12 => setInput 12 (if fire then 1 else 0) s
  | _ => s

/-- RULE_EVALUATION: the inputs `codes` have been updated: 1 to 8 by the burst before, 9 to 12 now. Every rule on them is evaluated; lockout acts
before wake, wake before log (R31, R521). -/
def execRuleEvaluation (codes : List Nat) (bus : Int) (fire : Bool) (s : State) : Out :=
  if !s.asleep then .next s
  else
    let s := codes.foldl (ownInput bus fire) s
    let (fired, s) := (upFrom 0 32).foldl (evalRule codes) ([], s)
    match fired.find? fun e => e.2 = 2 with
    | some e => .next (wakeUp 1 e.1 true s)
    | none =>
      match fired.find? fun e => e.2 = 1 with
      | some e => .next (wakeUp 1 e.1 false s)
      | none => .next s

end Sys2Proof.Machine
end

