-- ==== Sys2Proof/Machine/Streams.lean ====
section
/-! DEFINITION. The streams of a unit: stateless record, stateful record and converter-limit frame (R304-R308, R447), bridge frames and the clamp
after a takeover (R457), the heartbeat and the data a partner's relay path misses (R72, R443). -/

namespace Sys2Proof.Machine

open Sys2Proof

/-! ### The stateless record (R447) -/

/-- Own string current under R173. -/
def State.ownCurrent (s : State) : Int :=
  if s.feBit feMainOk && !s.feBit feOver then s.fe.main else if s.feBit feHallOk then s.fe.hall else s.scaler.iValid

/-- The cell with the highest or lowest value of the cycle, the first of equals, and its value. -/
def State.extremeCell (s : State) (high : Bool) : Nat × Int :=
  s.allCells.foldl (fun (b : Nat × Int) k => match Tab.find s.tap.v k with
    | none => b
    | some v => if b.1 = 0 || (if high then b.2 < v else v < b.2) then (k, v) else b) (0, 0)

/-- The 56 bytes of the stateless record (8040.01). -/
def State.statelessRecord (s : State) : Bytes :=
  let hi := s.extremeCell true
  let lo := s.extremeCell false
  let ts := s.cellTemps
  le 1 1 ++ le 1 (b2n s.unitB + 2 * b2n s.countsActive + 4 * b2n (s.pair.phase = 4)) ++ le 4 s.C ++ le 1 s.core.opState.code
    ++ le 1 s.highest ++ leI 4 s.ownCurrent ++ leI 4 s.fe.vStr ++ le 4 s.fb.causes.toNat ++ leI 4 hi.2 ++ leI 4 lo.2 ++ le 2 hi.1 ++ le 2 lo.1
    ++ leI 2 ((maxI ts).getD 0) ++ leI 2 ((minI ts).getD 0) ++ le 2 s.insulation ++ le 2 0
    ++ le 8 (match s.ranger.firstFault.msg with
        | some m => messageWord m
        | none => 0)
    ++ le 1 (match s.pair.sense with
        | .alive => 0 | .stopped => 1 | .absent => 2 | .stale => 3) ++ zeros 7

/-- Object 3 of both controllers in the cycles of 8041.01; a unit that is off, starting or asleep sends none. -/
def sendStateless (s : State) : State :=
  if s.C % max 1 (s.cfg 0x8041 1) = 0 && s.core.opState != .off && s.core.opState != .sleep then
    canSendCycle 1 3 s.statelessRecord (canSendCycle 0 3 s.statelessRecord s)
  else s

/-! ### The frame that is sent (R304, R457) -/

/-- Whether the unit sends the stateful streams (R447): it counts as active, with bridge frames once they have started; or in the overlap. -/
def State.sendsStateful (s : State) : Bool :=
  (s.countsActive && (s.pair.role != .takingOver || s.pair.bridging)) || (s.pair.role = .incoming && s.pair.phase = 4)

/-- Fields of a frame: charge and discharge limit, set-point (mA), flags, entry of the horizon for the j-th cycle after it, 0.1 A. -/
def ConvFrame.lChg (f : ConvFrame) : Nat := fieldN f.data 10 2
def ConvFrame.lDis (f : ConvFrame) : Nat := fieldN f.data 12 2
def ConvFrame.setPoint (f : ConvFrame) : Int := fieldI f.data 6 4
def ConvFrame.flags (f : ConvFrame) : Nat := fieldN f.data 1 1
def ConvFrame.ahead (f : ConvFrame) (charge : Bool) (j : Nat) : Nat :=
  fieldN f.data ((if charge then 14 else 22) + 2 * (min ((j + 3) / 4) 4 - 1)) 2

/-- A horizon applied to a limit in 0.1 A (R306). -/
def State.horizonOf (s : State) (l : Nat) : Bytes :=
  (upFrom 1 4).flatMap fun (q : Nat) => le 2 (tenths (max 0 ((l : Int) * 100 - 4 * (q : Int) * s.num 0x6000 2)))

/-- Put limits, set-point and flag [2] into a frame; the horizon follows the limits. -/
def State.withLimits (s : State) (data : Bytes) (chg dis : Nat) (x : Int) (held : Bool) : Bytes :=
  let f := fieldN data 1 1
  data.take 1 ++ le 1 (if held && !f.testBit 2 then f + 4 else f) ++ slice data 2 4 ++ leI 4 x ++ le 2 chg ++ le 2 dis
    ++ s.horizonOf chg ++ s.horizonOf dis ++ slice data 30 26

/-- The bridge frame of the present cycle (R457): the limits X promised for it, its set-point clamped into them. -/
def State.bridgeBytes (s : State) : Bytes :=
  let trip := s.tripZero
  let own := b2n trip * 128 + b2n (s.core.opState = .derated) * 64
  match s.pair.x with
  | none =>
    s.withLimits (le 1 1 ++ le 1 own ++ le 4 s.C ++ zeros 24 ++ le 1 s.core.opState.code ++ le 1 0x88 ++ le 2 0
      ++ le 2 (min (s.ring.record.vStr / 100).toNat 0xFFFF) ++ le 1 2 ++ zeros 19) 0 0 0 false
  | some x =>
    let j := s.since x.cycle
    let chg := if trip then 0 else x.ahead true j
    let dis := if trip then 0 else x.ahead false j
    let sp := clampI (-(dis * 100 : Nat)) (chg * 100 : Nat) x.setPoint
    let keep := x.flags % 2 + b2n (x.flags.testBit 1) * 2 + b2n (x.flags.testBit 4) * 16
    s.withLimits (le 1 1 ++ le 1 (own + keep) ++ le 4 s.C ++ zeros 24 ++ le 1 s.core.opState.code ++ le 1 0x88 ++ slice x.data 32 2
      ++ le 2 (min (s.ring.record.vStr / 100).toNat 0xFFFF) ++ le 1 2 ++ slice x.data 37 11 ++ zeros 8) chg dis sp (sp != x.setPoint)

/-- The highest promise that frames sent in the last 16 cycles make for the present one. -/
def State.promises (s : State) (charge : Bool) : Nat :=
  s.pair.sentFrames.foldl (fun m f =>
    let j := s.since f.cycle
    if 1 ≤ j && j ≤ 16 then max m (f.ahead charge j) else m) 0

/-- A limit under the clamp after catch-up: at most the previous sent limit and the rise rate, at least every promise. -/
def State.clamped (s : State) (charge : Bool) (prev l : Nat) : Nat :=
  max (s.promises charge) (min l (prev + s.cfg 0x6000 1 / 100))

/-- The frame of the present cycle, and whether the clamp goes on. -/
def State.frameData (s : State) : Bytes × Bool :=
  if s.pair.role = .takingOver then (s.bridgeBytes, s.pair.riseClamp)
  else
    let data := s.frameBytes
    if !s.pair.riseClamp || s.tripZero then (data, s.pair.riseClamp)
    else
      let f : ConvFrame := { cycle := s.core.cycle, data := data }
      let chg := s.clamped true s.sawyer.frame.lChg f.lChg
      let dis := s.clamped false s.sawyer.frame.lDis f.lDis
      if chg = f.lChg && dis = f.lDis then (data, false)
      else
        let sp := clampI (-(dis * 100 : Nat)) (chg * 100 : Nat) f.setPoint
        (s.withLimits data chg dis sp (sp != f.setPoint), true)

/-- Whether a frame that has not gone out counts as unsent (R368): CLOSING, ONLINE, DERATED. -/
def State.countsUnsent (s : State) : Bool := s.core.opState = .closing || s.online

/-- The converter-limit frame of the cycle (R304, R308, R368). One that is `late` is not sent. -/
def sendFrame (late : Bool) (s : State) : State :=
  if !s.sendsStateful || s.core.opState = .off || s.core.opState = .boot || s.core.opState = .sleep then s
  else
    let s := if !s.sawyer.frameOk && s.countsUnsent then frameUnsent s else s
    let s := { s with sawyer := { s.sawyer with frameOk := true } }
    if late then frameUnsent s
    else
      let (data, clamp) := s.frameData
      let f : ConvFrame := { cycle := s.core.cycle, data := data }
      let s := { s with sawyer := { s.sawyer with frame := f, frameOk := false },
                        pair := { s.pair with riseClamp := clamp, sentFrames := keepN 16 (f :: s.pair.sentFrames) } }
      let s := canSendCycle 0 0 data s
      if s.cfg 0x6300 2 = 1 then canSendCycle 1 0 data s else s

/-! ### The heartbeat (R443) -/

/-- The heartbeat's flags. -/
def State.hbFlags (s : State) : BitVec 16 :=
  BitVec.ofNat 16 (b2n s.ranger.whistle + 2 * b2n (s.fe.kp.coil != .off && s.fe.kn.coil != .off) + 4 * b2n (s.fe.kp.commanded && s.fe.kn.commanded)
    + 8 * b2n s.ring.originating + 16 * b2n (s.feBit feCross) + 32 * b2n (s.feBit fePath) + 64 * b2n (s.pair.ready.getLsbD 0)
    + 128 * b2n (s.pair.ready.getLsbD 1) + 256 * b2n (s.pair.role = .claiming) + 512 * b2n (s.pair.catching.any fun e => e.2))

/-- The heartbeat of the present cycle. The frame check is that of the own frame of the cycle before. -/
def State.heartbeat (s : State) : Heartbeat :=
  let m := s.ownSummary
  { cycle := s.core.cycle, unitB := s.unitB, role := s.pair.role, opState := s.core.opState, phase := s.pair.phase, severity := s.highest,
    flags := s.hbFlags, inSeq := if s.countsStandby then s.pair.inGood else s.pair.inSeq, h := s.pair.h, cellCrc := m.cellCrc, tempCrc := m.tempCrc, causes := m.causes, hall := m.hall,
    vStr := m.vStr,
    frameCrc := if s.sawyer.frame.cycle + 1 = s.core.cycle && !s.sawyer.frame.data.isEmpty then (crc32c s.sawyer.frame.data).toNat else 0,
    epoch := s.dict.epoch,
    slot := if s.C % 1000 = 0 then some s.fb.digest else if s.core.cycle + 49 = s.pair.h && s.pair.phase = 3 then s.pair.digest else none }

/-- Send the heartbeat of the cycle; keep the own summary for the comparison (R275, R276). -/
def sendHeartbeat (s : State) : State :=
  if !s.inPair then s
  else
    let h := s.heartbeat
    let s := { s with pair := { s.pair with ownHb := some h, summaries := s.pair.summaries ++ [s.ownSummary] } }
    if s.paired then tetherSend (.heartbeat h) s else s

/-- An originating unit whose ring is wrapped sends its partner the blocks and command responses of the side that the partner does not relay
(R72): those of RING-W, in the cycle of the break too. -/
def sendMissing (s : State) : State :=
  if s.inPair && s.paired && s.ring.originating && s.ring.state = .wrapped then
    let b := s.ring.blocks.filter fun r => r.port = 0
    if b.isEmpty && s.ring.q2.isEmpty then s else tetherSend (.missing b s.ring.q2) s
  else s

end Sys2Proof.Machine
end

