-- ==== Sys2Proof/Machine/Thinning.lean ====
section
/-! DEFINITION. The Thinning scheduler (08): targets (R236, R237), slots and budgets (R238-R243), the balancing-switch test (R246-R251). -/

namespace Sys2Proof.Machine

open Sys2Proof

/-! ### Eligibility and targets -/

/-- Whether a cell is eligible for bleed (R236). -/
def State.eligible (s : State) (k : Nat) : Bool :=
  let c := s.cell k
  let p := s.headOf k
  let i := s.channelOf k
  (s.cellCfg k 4).testBit 0 && !c.flag cfSenseLost && !c.flag cfTapSuspect && !c.flag cfExcluded
    && s.tapState p (i - 1) = 0 && s.tapState p i = 0
    && !(s.diag p).getLsbD 1 && !(s.diag p).getLsbD 2 && !s.blockFlag p 1
    && !s.hasReason [] k 4
    && decide (10 * (chemEmpty (s.cellChem k) : Int) + 5000 < c.lastV)
    && decide (c.lastV * 10 ≤ 300 * (s.info p).rBleed)

/-- The charge a cell should shed by the last evaluation (R237), 0.01 As. -/
def State.toShed (s : State) (qfRef : Nat) (q : Nat × Nat × Nat) : Nat :=
  if s.cfg 0x5000 3 = 0 then min (q.1 - s.scaler.qeMin) (qfRef - q.2.1) else qfRef - q.2.1

/-- The target of a cell after a recomputation (R237, R250). -/
def State.newTarget (s : State) (qfRef k : Nat) (q : Nat × Nat × Nat) : Nat :=
  let c := s.cell k
  let x := s.toShed qfRef q
  let dead := s.cfg 0x5000 4
  let on := dead + (qdiv (2 * c.unc * q.2.2) (2 ^ 30)).toNat
  if c.swStuck then 0
  else if c.target = 0 && on < x then x
  else if 0 < c.target && dead < 2 * x then x
  else 0

/-- TARGET_RECOMPUTE (R237): in the cycle with C mod 10,000 = 9,999. A cell that is not eligible keeps its target (R236): DEDUCED (log 49), the recomputation
passes it over. -/
def execTargetRecompute (s : State) : Out :=
  if s.C % 10000 != 9999 then .next s
  else
    let qfRef := ((s.scaler.evals.filter fun e => s.eligible e.1).map fun e => e.2.2.1).foldl max 0
    .next ((s.scaler.evals.filter fun e => s.eligible e.1).foldl (fun t e => t.modCell e.1 fun c => { c with target := s.newTarget qfRef e.1 e.2 }) s)

/-! ### Slots -/

/-- Clamped share of the head budget that the die temperature leaves: numerator and denominator (R239). -/
def State.dieShare (s : State) (p : Nat) : Nat × Nat :=
  let den := (10000 - s.num 0x5000 6).toNat
  (min den (10000 - (s.info p).die).toNat, den)

/-- The head budget in mW (5040.02). -/
def State.budgetOf (s : State) (p : Nat) : Nat :=
  let d := s.dieShare p
  (qdiv (s.cfg 0x5000 5 * d.1 : Nat) d.2).toNat

/-- Whether a head's slots run in continuous mode (R240). -/
def State.mayContinuous (s : State) (p : Nat) : Bool :=
  s.cfg 0x5000 2 = 1 && s.rwLearned p && !((s.cellsOf p).any fun k => s.hasReason [] k 3)

/-- A cell's power in its bleed path as V², (10 µV)². -/
def State.vSquare (s : State) (k : Nat) : Nat := ((s.cell k).lastV * (s.cell k).lastV).toNat

/-- Insert a cell into a list ranked by target, largest first, the lower cell first of equals. -/
def insertTarget (s : State) (k : Nat) : List Nat → List Nat
  | [] => [k]
  | j :: t => if (s.cell j).target < (s.cell k).target then k :: j :: t else j :: insertTarget s k t

/-- Cells in the order in which slots are granted. -/
def rankTargets (s : State) (ks : List Nat) : List Nat := ks.foldl (fun l k => insertTarget s k l) []

/-- Grant cells in rank order while the sum of V² times the share's denominator stays within the limit; one that does not fit is skipped. -/
def grantFrom (s : State) (limit den : Nat) : Nat → List Nat → List Nat
  | _, [] => []
  | used, k :: t =>
    if (used + s.vSquare k) * den ≤ limit then k :: grantFrom s limit den (used + s.vSquare k) t else grantFrom s limit den used t

/-- The cells granted on a head in slot n (R238, R239, R250). -/
def State.granted (s : State) (p n : Nat) (continuous : Bool) : List Nat :=
  let ks := (s.cellsOf p).filter fun k =>
    s.eligible k && (s.cell k).target != 0 && (continuous || (s.channelOf k + n) % 2 = 1)
  let stuck := (((s.cellsOf p).filter fun k => (s.cell k).swStuck).map s.vSquare).foldl (· + ·) 0
  let d := s.dieShare p
  grantFrom s (s.cfg 0x5000 5 * d.1 * 10000 * (s.info p).rBleed) d.2 stuck (rankTargets s ks)

/-- Whether a test keeps a head from being granted a slot that begins `lead` cycles ahead (R244, R247). -/
def State.testBlocks (s : State) (p lead : Nat) : Bool :=
  let h := s.thinHead p
  (match h.blockUntil with
    | some c => notBefore c (s.ahead lead)
    | none => false)
    || (match h.test with
      | some t => t.sent || !notBefore t.notBefore (s.ahead 300)
      | none => false)

/-- Decide slot n of head p, which begins `lead` cycles ahead (R239-R241). A head whose BLEED-OFF is pending is granted none, and a BLEED-OFF that has failed
all its resends is not sent again: DESIGN CHOICE (log 49), R242 says neither. -/
def decideSlot (n lead : Nat) (s : State) (p : Nat) : State :=
  let cont := s.mayContinuous p
  let ks := if s.testBlocks p lead || (s.thinHead p).state = 3 then [] else s.granted p n cont
  let mask : BitVec 16 := ks.foldl (fun m k => setBit m (s.channelOf k - 1) true) 0
  let budget := s.budgetOf p
  let s := s.modThin p fun h => { h with budget := budget }
  if ks.isEmpty then s
  else
    let b : BleedSlot := { start := (s.ahead lead).toNat % 0x10000, mask := mask, len := 100, continuous := cont }
    let s := s.command true p opBleedSlot (le 2 b.start ++ le 2 mask.toNat ++ le 1 100 ++ le 1 (b2n cont))
    s.modThin p fun h => { h with sent := some b, state := 2 }

/-- SLOT_DECISION (R241): L cycles before a slot; while balancing may not run the maps are withdrawn (R235). -/
def execSlotDecision (s : State) : Out :=
  let lead := s.cfg 0x5000 7
  if (s.C + lead) % 100 != 0 then .next s
  else if s.mayBalance then .next (s.allHeads.foldl (decideSlot ((s.C + lead) / 100) lead) s)
  else if s.thin.heads.any fun e => e.2.map != 0 || e.2.sent.isSome || e.2.nextSlot.isSome then .next (withdrawBleed s)
  else .next s

/-- BLEED_SLOT_UNACKNOWLEDGED (R242): no acknowledgement by cycle 100s − 1. -/
def execBleedSlotUnacknowledged (p : Nat) (s : State) : Out :=
  let h := s.thinHead p
  if h.sent.isSome && h.state = 2 && s.C % 100 = 99 then
    .next ((s.command true p opBleedOff []).modThin p fun h => { h with state := 3 })
  else .next s

/-- Power of a map on a head, mW. -/
def State.mapPower (s : State) (p : Nat) (m : BitVec 16) : Nat :=
  let v2 := (((s.cellsOf p).filter fun k => m.getLsbD (s.channelOf k - 1)).map s.vSquare).foldl (· + ·) 0
  (qdiv (v2 : Nat) (10000 * (s.info p).rBleed)).toNat

/-- A head's slot begins: the acknowledged map is the one of the slot (R242). -/
def beginSlot (s : State) (p : Nat) : State :=
  s.modThin p fun h =>
    match h.nextSlot with
    | some b => { h with slot := some b, nextSlot := none, map := b.mask, continuous := b.continuous, state := if h.state = 3 then 3 else 1 }
    | none => if h.state = 3 then h else { h with slot := none, map := 0, continuous := false, state := if h.sent.isSome then h.state else 0 }

/-- The beginning of slots at C mod 100 = 0: maps and the string's bleed power (R242, 5000.0E). -/
def beginSlots (s : State) : State :=
  if s.C % 100 != 0 then s
  else
    let s := s.allHeads.foldl beginSlot s
    { s with thin := { s.thin with power := (s.allHeads.map fun p => s.mapPower p (s.thinHead p).map).foldl (· + ·) 0 } }

/-! ### The balancing-switch test (R246-R251) -/

/-- Whether a switch test may run on a head (R246). -/
def State.mayTest (s : State) (p : Nat) : Bool :=
  (s.core.opState = .isolated || s.online) && !s.guarded (s.cellsOf p) && !(s.info p).unreachable

/-- The end of a head's present and next slots. -/
def State.slotsEnd (s : State) (p : Nat) : Cycle :=
  let h := s.thinHead p
  if h.slot.isSome || h.nextSlot.isSome || h.sent.isSome then s.ahead 200 else s.core.cycle

/-- Begin a round of the switch test on a head: channel 1 first, after k cycles without a slot (R246, R247). -/
def startRound (s : State) (p : Nat) : State :=
  let k := s.cfg 0x5000 12
  let h := s.thinHead p
  if h.test.isSome || s.channels p = 0 then s
  else s.modThin p fun h =>
    { h with testWanted := false, test := some { cell := 1, m := k, left := upFrom 2 (s.channels p - 1), notBefore := s.slotsEnd p + BitVec.ofNat 32 k } }

/-- Send a test that is due on a head. -/
def sendTest (s : State) (p : Nat) : State :=
  match (s.thinHead p).test with
  | none => s
  | some t =>
    if t.sent || !notBefore s.core.cycle t.notBefore || !s.mayTest p || s.ring.state = .relay then s
    else
      let s := emptyMap p (2 * t.m + 1) s
      let s := s.command true p opSwitchTest (le 1 t.cell ++ le 1 t.m)
      s.modThin p fun h => { h with test := some { t with sent := true, sentAt := s.core.cycle } }

/-- SWITCH_TEST_SCHEDULE (R246): once per test interval on every head, and on a head whose test is wanted; tests that are due are sent. -/
def execSwitchTestSchedule (s : State) : Out :=
  let iv := s.cfg 0x5000 10
  let all := iv != 0 && s.passed s.thin.lastRound (iv * 1000)
  let s := (s.allHeads.filter fun p => all || (s.thinHead p).testWanted).foldl startRound s
  .next (s.allHeads.foldl sendTest s)

/-- Keep a head's samples for its test: cycle, string current, readings (R247). -/
def collectTest (s : State) (p : Nat) : State :=
  s.modThin p fun h =>
    match h.test with
    | some t => { h with test := some { t with samples := keepN 64 ((s.core.cycle, s.scaler.i, (s.cellsOf p).map s.vNow) :: t.samples) } }
    | none => h

/-- The samples of cycles first, first + 1, … (n of them); none when one is absent. -/
def SwEval.span (t : SwEval) (first : Cycle) (n : Nat) : Option (List (Int × List (Option Int))) :=
  let l := ((upFrom 0 n).filterMap fun j => t.samples.find? fun e => e.1 = first + BitVec.ofNat 32 j).map fun e => e.2
  if l.length = n then some l else none

/-- Sum of a channel's readings over samples; none when one is missing. -/
def sumOf (l : List (Int × List (Option Int))) (i : Nat) : Option Int := sumAll (l.map fun e => readingAt e.2 i)

/-- What a completed test shows (R249): the sums over k samples of each channel, baseline, on and off. -/
structure SwSums where
  base : Nat → Option Int
  on : Nat → Option Int
  off : Nat → Option Int
  spread : Int

/-- The sums of a test received in cycle Cr with m = k. -/
def SwEval.sums (t : SwEval) : Option SwSums :=
  match t.cr with
  | none => none
  | some cr =>
    match t.span (cr + 2 - BitVec.ofNat 32 t.m) t.m, t.span (cr + 2) t.m, t.span (cr + 2 + BitVec.ofNat 32 t.m) t.m with
    | some a, some b, some c =>
      let is := (a ++ b ++ c).map fun e => e.1
      some { base := sumOf a, on := sumOf b, off := sumOf c, spread := (maxI is).getD 0 - (minI is).getD 0 }
    | _, _, _ => none

/-- The change of a channel, on less baseline, times k. -/
def SwSums.delta (x : SwSums) (i : Nat) : Option Int :=
  match x.base i, x.on i with
  | some a, some b => some (b - a)
  | _, _ => none

/-- The resistances a valid test gives, as (tap, mΩ) (R249): on sum v of the tested cell, changes d. -/
def tapObs (n i : Nat) (r : Nat) (von : Int) (d : Nat → Option Int) : List (Nat × Int) :=
  let q := fun (x : Int) => qdiv (x * r) von.toNat
  let low := if 2 ≤ i then ((d (i - 1)).map fun x => (i - 1, q x)).toList else []
  let high := if i < n then ((d (i + 1)).map fun x => (i, q x)).toList else []
  let end0 := if i = 1 then (match d 1, high with
    | some x, e :: _ => [(0, q (-x) - e.2)]
    | _, _ => []) else []
  let endN := if i = n then (match d n, low with
    | some x, e :: _ => [(n, q (-x) - e.2)]
    | _, _ => []) else []
  low ++ high ++ end0 ++ endN

/-- Learn a tap's resistance (R251). -/
def learnRw (p : Nat) (s : State) (o : Nat × Int) : State :=
  let new : Int := match s.rw p o.1 with
    | none => o.2
    | some w => w + qdiv (o.2 - w) 2
  { s with tap := { s.tap with rw := Tab.put s.tap.rw (tapKey p o.1) (min 65534 new.toNat) } }

/-- Result of a valid test (R249): 3 stuck, 2 open, 4 changed, 1 pass; sums over k. -/
def classifySwitch (k r : Nat) (base on off dSum : Int) (expect : Option Int) : Nat :=
  -- d is the drop times k; i_b × 2 Ω = on × 2,000 / r
  if 100 * (k : Int) < base - off then 3
  else if dSum < 200 * k then 2
  else if on * 2000 < dSum * r then 2
  else match expect with
    | some e => if 3 * e + 1000 * (k : Int) < 10 * (dSum - e).natAbs then 4 else 1
    | none => 1

/-- The head's uncertainty after a round (R251), mΩ. -/
def State.roundUnc (s : State) (p : Nat) : Nat :=
  let t := laneSqrt (qdiv 180000000000 (s.cfg 0x5000 12))
  let i := ((minI ((s.cellsOf p).map fun k => qdiv ((s.cell k).lastV * 10) (s.info p).rBleed)).getD 1).toNat
  let per := (s.taps p).map fun tap => qdiv (t * 100 + s.rwOr0 p tap * 1000 * i) (100000 * i)
  ((maxI per).getD 0 + 1).toNat

/-- After a valid test: the next channel, or the end of the head's round. -/
def nextTest (p : Nat) (t : SwEval) (s : State) : State :=
  match t.left with
  | c :: rest => s.modThin p fun h => { h with test := some { cell := c, m := s.cfg 0x5000 12, left := rest, notBefore := s.core.cycle } }
  | [] =>
    let s := s.modThin p fun h => { h with test := none }
    let s := { s with tap := { s.tap with rwUnc := Tab.put s.tap.rwUnc p (min 65534 (s.roundUnc p)) } }
    if s.thin.heads.any fun e => e.2.test.isSome then s else { s with thin := { s.thin with lastRound := s.core.cycle } }

/-- What a result does to the cell (R249, R250). -/
def switchResult (p k res : Nat) (drop : Int) (s : State) : State :=
  let s := s.modCell k fun c => { c with swResult := res, swDrop := drop, swLast := s.core.cycle }
  if res = 3 then
    (s.modCell k fun c => { c with swStuck := true, target := 0, flags := setBit c.flags cfExcluded true }).raiseOnce 0x03A 0x5E .degrade 1 k
  else if res = 2 then (s.setCellFlag k cfExcluded true).raiseOnce 0x03A 0x5F .warn 1 k
  else if res = 4 then s.report 0x03A 0x60 .notice 2 (headTap p (s.channelOf k))
  else s

/-- A completed test with its sums: validity, classification, learning (R249, R251). -/
def evalTest (p : Nat) (t : SwEval) (x : SwSums) (s : State) : State :=
  let n := s.channels p
  let i := t.cell
  let k := s.firstCell p + i - 1
  let r := (s.info p).rBleed
  let g := (upFrom (max 1 (i - 1)) 3).filter fun j => j ≤ min n (i + 1)
  match sumAll (g.map x.delta), x.base i, x.on i, x.off i with
  | some sum, some base, some on, some off =>
    if 1000 < x.spread || 150 * t.m < sum.natAbs then swAgain p (s.modCell k fun c => { c with swResult := 5 })
    else
      let d := base - on
      let expect := match s.rw p (i - 1), s.rw p i with
        | some a, some b => some (qdiv (on * (a + b : Nat)) r)
        | _, _ => none
      let res := classifySwitch t.m r base on off d expect
      let s := switchResult p k res (qdiv d t.m) s
      let s := if res = 1 || res = 4 then (tapObs n i r on x.delta).foldl (learnRw p) s else s
      nextTest p t s
  | _, _, _, _ => swAgain p (s.modCell k fun c => { c with swResult := 5 })

/-- SWITCH_TEST_EVALUATION (R249): once the k cycles after the test's last on sample are past; a sample that is missing makes it invalid. -/
def execSwitchTestEvaluation (p : Nat) (s : State) : Out :=
  match (s.thinHead p).test with
  | some t =>
    (match t.cr with
     | some cr =>
       if s.passed cr (2 * t.m + 1) then
         (match t.sums with
          | some x => .next (evalTest p t x s)
          | none => .next (swAgain p (s.modCell (s.firstCell p + t.cell - 1) fun c => { c with swResult := 5 })))
       else .next s
     | none => .next s)
  | none => .next s

/-! ### Objects -/

/-- Condition and effect of a write to 5000.0B: P, or 0xFF for all heads (R246). -/
def condSwitchTest (v : Nat) (s : State) : Nat := if v = 0xFF || s.allHeads.contains v then 0 else abRange
def effSwitchTest (v : Nat) (s : State) : State :=
  (if v = 0xFF then s.allHeads else [v]).foldl (fun s p => s.modThin p fun h => { h with testWanted := true }) s

/-- Condition and effect of a write to 5000.0F: ISOLATED or SERVICE (R250). -/
def condExclusionClear (s : State) : Nat := if s.idle then 0 else s.stateAbort abState
def effExclusionClear (k : Nat) (s : State) : State :=
  let s := s.modCell k fun c => { c with swStuck := false, flags := setBit c.flags cfExcluded false }
  (s.clearOnce 0x03A 0x5E 1 k).clearOnce 0x03A 0x5F 1 k

end Sys2Proof.Machine
end

