-- ==== Sys2Proof/Machine/Cycle.lean ====
section
/-! DEFINITION. The base cycle (01): what SYNC sends and hears, the string record, and the crossing of the cycle data into the lanes, with everything
that follows from it in the cycle. SYNC itself and the cycle boundary are in Machine/Boundary.lean. -/

namespace Sys2Proof.Machine

open Sys2Proof

/-! ### SYNC (R16, R44) -/

/-- Whether base cycles run: the control core is powered. -/
def State.cycling (s : State) : Bool := s.pd 1 && s.core.opState != .off

/-- The ports this unit originates on in the cycle. -/
def State.originPorts (s : State) : List Nat := (upFrom 0 2).filter fun p => s.originates p && s.pd (4 + p)

/-- A SYNC header that is heard: one whose header check passes (R44, R70). -/
def goodHeader (heard : Option SyncHeader) : Option SyncHeader := heard.filter SyncHeader.checkOk

/-- The next cycle number (R16): its own count; a unit that does not originate takes the one it hears at RING-W. -/
def State.nextCycle (s : State) (heard : Option SyncHeader) : Cycle :=
  if s.ring.originating then s.ahead 1 else (heard.map SyncHeader.cycle).getD (s.ahead 1)

/-- What a unit hears of its partner's SYNC (R437, R461): an originating unit counts the cycles in which it hears it at its own receive port,
another unit keeps the last cycle in which it heard it. A unit that relays records the header (R70). -/
def hearPartner (heard : Option SyncHeader) (s : State) : State :=
  if s.ring.originating then { s with pair := { s.pair with syncRun := if heard.isSome then s.pair.syncRun + 1 else 0 } }
  else match heard with
    | some h => { s with pair := { s.pair with lastSync := some s.core.cycle, syncRun := 0 }, ring := { s.ring with heardHeader := some h } }
    | none => s

/-- The heartbeat of the ending cycle is missed when none was accepted (R443). -/
def missHeartbeat (s : State) : State :=
  let p := s.pair
  if s.inPair && p.hb.isSome && !p.hbSeen then
    { s with pair := { p with missed := inc32 p.missed, missRun := p.missRun + 1, lastMiss := some s.core.cycle } }
  else { s with pair := { p with hbSeen := false } }

/-- What the cycle that ends leaves behind: its blocks, answers and cell values; frames of the Tether have left. -/
def clearCycle (s : State) : State :=
  { s with ring := { s.ring with seenP := [], validP := [], failedP := [], blocks := [], breakCycle := false, recordGone := false, q2 := [], q3 := [],
                                 q6 := [], q7 := [], wire := [], heardHeader := none, heardCmds := [] },
           tap := { s.tap with vPrev := s.tap.v, v := [], stack := [] },
           pair := drainTether s.pair }

/-- READ-STATUS to the reachable heads of the cycle (R89). -/
def pollStatus (s : State) : State :=
  if s.ring.state = .closed || s.ring.state = .wrapped then
    (s.allHeads.filter fun p => s.C % 8 = (p - 1) % 8 && !(s.info p).unreachable).foldl (fun s p => s.command false p opReadStatus []) s
  else s

/-- SYNC and header leave every originating port; then the pre-sample part of the asynchronous window (R25, R44, R53). -/
def sendSync (s : State) (port : Nat) : State :=
  let h := s.header port
  let s := launch port 0 0 (headerChars h) { s with ring := { s.ring with headers := Tab.put s.ring.headers port h } }
  sendPart port h.pre s

/-- The post-container part of a port's window; what it has no room for is left to the next cycle's pre-sample part (R25). -/
def sendPost (s : State) (port : Nat) : State :=
  let room := s.postRoom port
  let s := sendPart port room s
  { s with ring := { s.ring with asyncLeft := Tab.put s.ring.asyncLeft port (1500 - room) } }

/-! ### The string record (R45) -/

/-- The front-end's record of the cycle, with the time of Ts (R45, R357). -/
def State.ownRecord (s : State) : StringRecord :=
  let t := splitNs (s.nowNs + (s.cfg 0x2100 3 * 100 : Nat))
  { cycle := s.core.cycle, main := s.fe.main, hall := s.fe.hall, vStr := s.fe.vStr, vLink := s.fe.vLink, rIso := s.fe.rIso, isoSeq := s.fe.isoSeq,
    status := s.fe.status, discrete := s.fe.discrete, locked := s.clock.state = .locked, ns := t.2, sec := t.1 }

/-- A record of the cycle is used: direction (R254), and the insulation result when its sequence has advanced (R266). -/
def takeRecord (r : StringRecord) (s : State) : State :=
  let new := r.isoSeq != s.ring.record.isoSeq
  let s := { s with ring := { s.ring with record := r }, fb := { s.fb with dir := s.recordDirection r } }
  if new then compareInsulation r s else s

/-- A cycle without a record: no valid current, rest (R173, R254). -/
def noRecord (s : State) : State :=
  { s with ring := { s.ring with record := { s.ring.record with cycle := s.core.cycle, status := 0 } }, fb := { s.fb with dir := .rest } }

/-- The record of the cycle leaves a port, and the container after it as B FIL characters (R45, R46). -/
def sendRecord (r : StringRecord) (s : State) (port : Nat) : State :=
  wireOn port (.fill (s.segment port).1) (launch port 1 0 (recordChars r) s)

/-- A heard record passes the receive side of a port's injection (R75). -/
def hearRecord (port : Nat) (s : State) : Injected × State :=
  let (what, s) := injectFrame port 0 (s.ringFilter port 0 1 0) s
  (what, if what = .clean then s else s.count port 11 1)

/-- STRING_RECORD: the originating unit launches the record of its front-end and the container; another unit uses the one it hears whose check passes. -/
def execStringRecord (heard : Option StringRecord) (s : State) : Out :=
  if !s.cycling then .next s
  else if s.ring.originating then
    let s := s.originPorts.foldl (sendRecord s.ownRecord) s
    .next (takeRecord s.ownRecord { s with fe := { s.fe with hallOperated := false } })
  else
    let s := { s with fe := { s.fe with hallOperated := false } }
    match heard.filter StringRecord.checkOk with
    | none => .next (noRecord s)
    | some r =>
      let (what, s) := hearRecord 0 s
      let lost := what = .drop || (what = .corrupt && s.maskBites 0)
      if (s.injector 0).drill then .next (takeRecord r { s with ring := { s.ring with recordGone := lost } })
      else .next (if lost then noRecord s else takeRecord r s)

/-! ### The crossing (R20, R163) -/

/-- Whether this unit computes on live cycle data (R449, R451): alone, as the active unit, or warm in a hand-over. -/
def State.computes (s : State) : Bool :=
  match s.pair.role with
  | .single | .active | .outgoing => true
  | .claiming => s.pair.wasActive
  | .incoming => s.pair.warm
  | .undecided | .joining | .standby | .takingOver => false

/-- The work of lanes, Cruiser, Borer, Thinning and Sawyer on the data of one cycle, in its order (R152, R173, R187, R213, R218, R286). -/
def laneWork (s : State) : State :=
  let s := endWindows (runLanes (chargeCounter s))
  let s := detectStep (demodulate s)
  let s := cruise (s.allHeads.foldl collectTest s)
  let s := if s.C % 10 = 9 then impedanceLimit (usableSoc s) else s
  runSawyer s

/-- A T-20µs (value 1) or T-1ms (2) deadline missed by the block of a source is a fault of it; one of the third or fourth class, such as a checkpoint's or a
lease's, is counted for the stream and reported as an occurrence (R29). A lane's missed F deadline counts for the lane too (R159). -/
def missDeadline (s : State) (m : Nat × Nat) : State :=
  if 3 ≤ m.2 then missStream m.1 m.2 s
  else
  let s := if 0x030 ≤ m.1 && m.1 ≤ 0x037 then missF (m.1 - 0x030) s else s
  let s := { s with core := { s.core with deadlineRun := Tab.put s.core.deadlineRun (4 * m.1 + m.2) 0 } }
  s.raiseOnce m.1 0xB6 .degrade 5 m.2

/-- The runs of cycles in which a deadline once missed has been met; after 1,000 the fault clears (R29). -/
def deadlineRuns (s : State) : State :=
  let l := s.core.deadlineRun.map fun (e : Nat × Nat) => (e.1, e.2 + 1)
  let s := (l.filter fun e => 1000 ≤ e.2).foldl (fun s e => s.clearOnce (e.1 / 4) 0xB6 5 (e.1 % 4)) s
  { s with core := { s.core with deadlineRun := l.filter fun e => e.2 < 1000 } }

/-- CYCLE_DATA_CROSSING: container end has passed. `missed` are the deadlines of the first two classes missed in the cycle, by source and
class value; the Sawyer's is that of the converter frame (R28, R29). -/
def execCycleDataCrossing (missed : List (Nat × Nat)) (s : State) : Out :=
  if !s.cycling || s.core.crossed then .next s
  else
    let s := s.originPorts.foldl sendPost (sendMissing (sendHeartbeat (stringSum (endOfBlocks s))))
    let s := { s with core := { s.core with crossed := true } }
    let s := if s.computes then laneWork (computePoints s) else s
    let s := sendStateless (sendFrame (missed.contains (0x040, 2)) s)
    let s := switchFaultClear (recurringEnds s)
    let s := if s.mainUsable then recordCurrent s.fe.main s else if s.feBit feHallOk then recordCurrent s.fe.hall s else s
    .next (missed.foldl missDeadline (deadlineRuns s))

end Sys2Proof.Machine
end

