-- ==== Sys2Proof/Machine/Roles.lean ====
section
/-! DEFINITION. Roles of a pair (15 R436-R437, R452-R462): changing a role, giving origination up and taking it, aborting a hand-over, claim rounds, and
what a lost heartbeat leads to. -/

namespace Sys2Proof.Machine

open Sys2Proof

/-- Source code of Tether and redundancy (R468). -/
def srcPair : Nat := 0x060

/-- Report a fault of the pair. It carries the injected bit when frames of the Tether have been affected (R488). -/
def raisePair (kind : Nat) (s : State) : State :=
  if s.raised srcPair kind 0 0 then s else s.reportInj (s.tainted 6) srcPair kind .warn 0 0

/-! ### Changing a role -/

/-- Change the role: 8000.08, 8000.09 and Tally record 0x0011. Its cause is 0 planned, 1 takeover, 2 grant, 3 denial, 4 double origin; the spec
names none for another change, whose cause is free (R494). -/
def setRole (r : Role) (cause : Option Nat) (s : State) : State :=
  if s.pair.role = r then s
  else
    let (c, s) := match cause with
      | some n => (n, s)
      | none => let (n, s) := drawInt s
                (n.toNat % 256, s)
    let s := s.tell 0x0011 (le 1 s.pair.role.code ++ le 1 r.code ++ le 1 c ++ le 1 0)
    { s with pair := { s.pair with role := r, changes := inc32 s.pair.changes, lastChange := s.core.cycle } }

/-- The swap interval of R453 runs afresh from a completed change between active and standby. -/
def swapDone (s : State) : State :=
  { s with pair := { s.pair with swapFrom := s.power.opTime, refusedSince := none, lastTry := none } }.clearOnce srcPair 0xA3 0 0

/-- High sides of a unit that may no longer drive them are released, the low sides conducting (R126, R451). -/
def releaseHighSides (s : State) : State :=
  let off := fun (s : State) (k : Nat) => if s.mayDrive k then s
    else s.modContactor k fun c => { c with coil := .off, commanded := false, since := s.core.cycle }
  [0, 1].foldl off s

/-- Drive both coils at hold current, when the partner has them commanded closed (R125, R126, R451). -/
def driveCoils (s : State) : State :=
  let on := match s.pair.hb with
    | some h => h.flags.getLsbD 2
    | none => false
  if on then
    let f := fun (c : Contactor) => { c with coil := .hold, commanded := true, since := s.core.cycle }
    { s with fe := { s.fe with kp := f s.fe.kp, kn := f s.fe.kn } }
  else s

/-! ### Origination (R71, R73) -/

/-- Give origination up: relay from this boundary on. -/
def giveOrigination (s : State) : State :=
  let s := { s with ring := { s.ring with originating := false, bothPorts := false, breakFrom := none, unwrapAt := none } }
  if s.ring.state = .down then s else relayHops (setRing .relay { s with ring := { s.ring with originB := !s.unitB, lRelay := s.ownRelay } })

/-- Hops from the near end up to the first head that shows its wrap flag in the present cycle; none in a closed ring. -/
def State.nearWrap (s : State) : Option Nat :=
  match (s.ring.blocks.filter fun b => b.block.wrapped).map fun b => s.nearHop b.block.p with
  | [] => none
  | a :: t => some (t.foldl min a)

/-- Heads up to hop `k` from the near end are served by RING-W, the others by RING-E. -/
def splitHeads (k : Nat) (s : State) : State :=
  let side := fun (p : Nat) => if s.nearHop p ≤ k then 0 else 1
  assignHeads side { s with cruiser := { s.cruiser with assign := s.allHeads.map fun p => (p, side p) } }

/-- This unit originates from the next cycle on (R68, R71): with both ports, or with one. -/
def beginOrigination (both : Bool) (s : State) : State :=
  { s with ring := { s.ring with originating := true, originB := s.unitB, bothPorts := both },
           pair := { s.pair with originateAt := none } }

/-- Take origination over from a partner that goes on: the ring as this unit has heard it, with the learned delays (R68, R71). -/
def takeOrigination (s : State) : State :=
  match s.nearWrap with
  | none => setRing .closed (splitHeads s.ringN (beginOrigination false s))
  | some k => segmentTransits (setRing .wrapped (splitHeads k (beginOrigination true s)))

/-- Originate after a takeover: the partner is a break at the carrier, so every head is reached from RING-W and the far head wraps (R73, R455). -/
def originateAlone (s : State) : State :=
  (segmentTransits (setRing .wrapped (splitHeads s.ringN (beginOrigination false s)))).raiseOnce (srcRing 0) 0x2A .warn 0 0

/-- A unit that has become ACTIVE at start-up enumerates, if it may originate (R60, R437, R438). -/
def originateFresh (s : State) : State := if s.mayOriginate && !s.ring.originating then startEnumeration s else s

/-! ### Ends of a hand-over (R451, R452) -/

/-- A hand-over is over: *hand-over aborted* at WARN, 8020.03 and 8020.04. -/
def endHandOver (cause : Nat) (s : State) : State :=
  { s with pair := { s.pair with phase := 6, abort := cause, h := 0, digest := none, warm := false } }.reportInj (s.tainted 6) srcPair 0xA2 .warn 0 0

/-- Abort before the overlap: INCOMING returns to STANDBY, OUTGOING to ACTIVE; the partner is told. -/
def abortHandOver (cause : Nat) (tell : Bool) (s : State) : State :=
  let s := if tell && s.paired then tetherSend (.handOver 2 s.pair.h cause) s else s
  let s := endHandOver cause s
  match s.pair.role with
  | .incoming => releaseHighSides (setRole .standby (some 0) s)
  | .outgoing => setRole .active (some 0) s
  | .single | .undecided | .joining | .standby | .active | .takingOver | .claiming => s

/-- End of an overlap that one unit wins: it becomes ACTIVE and originates from the next boundary; the other stops its streams there and becomes
STANDBY (R452). -/
def settleOverlap (cause : Nat) (mine : Bool) (s : State) : State :=
  let s := endHandOver cause s
  if mine then
    let s := setRole .active (some 0) s
    if s.ring.originating then s else { s with pair := { s.pair with originateAt := some (s.ahead 1) } }
  else { s with pair := { s.pair with stepDown := some (some 0) } }

/-! ### Claim rounds (R459-R460) -/

/-- A claim round opens (R437, R459). -/
def openRound (active : Bool) (s : State) : State :=
  let old := s.pair.role
  let s := setRole .claiming none s
  { s with pair := { s.pair with before := old, wasActive := active, roundOpened := true, claim := 1, round := s.core.cycle } }

/-- The previously active unit goes on as ACTIVE. -/
def claimWon (cause : Option Nat) (s : State) : State := originateFresh (setRole .active cause s)

/-- A unit enters TAKING-OVER; what it takes over follows in its own step, TAKEOVER (R455). -/
def beginTakeover (cause : Nat) (s : State) : State :=
  let s := if s.handingOver then endHandOver 3 s else s
  setRole .takingOver (some cause) { s with fe := { s.fe with injectFrom := none }, pair := { s.pair with takeover := s.core.cycle, bridging := false } }

/-- The previously standby unit that got no grant stays STANDBY: *partner state unknown* at WARN (R437). -/
def claimLost (cause : Option Nat) (s : State) : State := raisePair 0xA1 (setRole .standby cause s)

/-- Whether a round given by number is the open one, within 200 ms (R459). -/
def State.roundOpen (s : State) (n : Nat) : Bool := s.pair.role = .claiming && s.pair.claim = 1 && s.pair.round.toNat = n && s.since s.pair.round ≤ 200

/-- A grant or a denial for a closed or unknown round is refused (R459, R466). -/
def condRound (n : Nat) (s : State) : Nat := if s.roundOpen n then 0 else 0x09050000

/-- A grant (R437). -/
def effGrant (s : State) : State :=
  let s := { s with pair := { s.pair with claim := 2 } }
  if s.pair.wasActive then claimWon (some 2) s else beginTakeover 2 s

/-- A denial (R437, R460): a previously active unit keeps its high sides for 100 cycles and steps down at the next boundary. -/
def effDenied (s : State) : State :=
  let s := { s with pair := { s.pair with claim := 3 } }
  if s.pair.wasActive then
    { s with pair := { s.pair with holdUntil := some (s.ahead 100), stepDown := some (some 3) } }
  else claimLost (some 3) s

/-- CLAIM_TIMEOUT (R437): 200 ms without grant or denial. -/
def execClaimTimeout (s : State) : Out :=
  if s.pair.role = .claiming && s.pair.claim = 1 && s.passed s.pair.round 200 then
    let s := { s with pair := { s.pair with claim := 4 } }
    .next (if s.pair.wasActive then claimWon none s else claimLost none s)
  else .next s

/-! ### The heartbeat is lost (R437, R443) -/

/-- Whether the partner reads as gone: STOPPED or ABSENT (R446). -/
def State.partnerGone (s : State) : Bool := s.pair.sense = .stopped || s.pair.sense = .absent

/-- Whether SYNC of the partner has been heard within the last 3 cycles. -/
def State.hearsSync (s : State) : Bool :=
  match s.pair.lastSync with
  | some c => s.since c < 3
  | none => false

/-- A unit that waits takes over once heartbeat, sense and SYNC of its partner are gone; a claiming one once the sense says so (R437). -/
def takeOverIfGone (s : State) : State :=
  if !s.pair.lost || !s.partnerGone then s
  else match s.pair.role with
    | .standby | .joining => if s.hearsSync then s else beginTakeover 1 s
    | .claiming => if s.pair.wasActive then s else beginTakeover 1 s
    | .single | .undecided | .active | .incoming | .outgoing | .takingOver => s

/-- *Partner lost* on a unit that is ACTIVE alone (R437, R464). -/
def partnerLost (s : State) : State :=
  if s.pair.role = .active && s.pair.lost && s.partnerGone then raisePair 0xA0 s else s

/-- The rows of R437 for a heartbeat that has just been lost. -/
def lostRows (s : State) : State :=
  match s.pair.role with
  | .standby | .joining => if s.partnerGone then takeOverIfGone s else openRound false s
  | .active => if s.partnerGone then partnerLost s else openRound true s
  | .single | .undecided | .incoming | .outgoing | .takingOver | .claiming => s

/-- A lost heartbeat ends a hand-over (R452): before H it aborts with cause 3, and the rows of R437 follow. In the overlap the unit that originates
becomes ACTIVE and the other steps down; high sides stay driven for 100 cycles, and then both follow R437. -/
def lostHeartbeat (s : State) : State :=
  if s.pair.phase = 4 then
    settleOverlap 3 s.ring.originating { s with pair := { s.pair with holdUntil := some (s.ahead 100), claim := 0 } }
  else if s.handingOver then lostRows (abortHandOver 3 false s)
  else lostRows s

/-- DENIAL_HOLD_END (R452, R460): after 100 cycles the high sides of a unit that no longer counts as active are released; after an overlap that a lost
heartbeat ended, R437 is followed from here. -/
def execDenialHoldEnd (s : State) : Out :=
  match s.pair.holdUntil with
  | none => .next s
  | some c =>
    if 2 ^ 31 ≤ s.since c then .next s
    else
      let s := releaseHighSides { s with pair := { s.pair with holdUntil := none } }
      .next (if s.pair.lost && s.pair.claim = 0 then lostRows s else s)

/-- HEARTBEAT_LOST (R443): the fifth consecutive missed heartbeat. -/
def execHeartbeatLost (s : State) : Out :=
  if !s.inPair || s.pair.lost || s.pair.missRun < 5 then .next s
  else
    .next (lostHeartbeat { s with pair := { s.pair with lost := true } })

/-- PARTNER_SENSE_CHANGE (R446): a new classification. A partner that comes or goes voids the insulation half-period (R563), and one withdrawn ends a
refusal for its strap (R562). -/
def execPartnerSenseChange (sense : Sense) (s : State) : Out :=
  let old := s.pair.sense
  let stopped := if sense = .stopped then (if old = .stopped then s.pair.stoppedSince else some s.core.cycle) else none
  let s := { s with pair := { s.pair with sense := sense, stoppedSince := stopped } }
  let s := if (old = .absent) != (sense = .absent) then voidHalf s else s
  let s := if sense = .absent && s.pair.tether = 3 && !s.starting then
      { s with pair := { s.pair with tether := 0 } }.clearOnce 0x020 0x9A 0 0
    else s
  .next (partnerLost (takeOverIfGone s))

/-- ROLE_DECISION_TIMEOUT (R437): 2 s or 10 s after the Tether PHY is enabled without a heartbeat. -/
def execRoleDecisionTimeout (s : State) : Out :=
  let p := s.pair
  if p.role != .undecided || p.hb.isSome || !s.inPair || !s.passed p.phyAt 2000 then .next s
  else
    let active := fun (s : State) => raisePair 0xA0 (originateFresh (setRole .active none s))
    match p.sense with
    | .absent => .next (active s)
    | .stopped =>
      if !s.unitB then .next (active s)
      else if s.passed p.phyAt 10000 && s.ran p.stoppedSince 8000 then .next (active s)
      else .next s
    | .alive | .stale => .next (openRound (!s.hearsSync && !s.unitB) s)

/-- PARTNER_SYNC_DETECTED (R461): partner SYNC at the own receive port in 3 consecutive cycles; the unit that was standby in the last round, or Unit B
when there was none, stops originating at the next boundary. -/
def execPartnerSyncDetected (s : State) : Out :=
  let loser := if s.pair.roundOpened then !s.pair.wasActive else s.unitB
  if (s.pair.role = .active || s.pair.role = .takingOver) && 3 ≤ s.pair.syncRun && loser then
    .next { s with pair := { s.pair with stepDown := some (some 4) } }
  else .next s

/-! ### At a boundary -/

/-- A unit steps down at the boundary: its streams stop, it relays and counts as standby; high sides stay only while it holds them (R452, R460,
R461). -/
def stepDownBoundary (s : State) : State :=
  match s.pair.stepDown with
  | none => s
  | some cause =>
    let s := { s with pair := { s.pair with stepDown := none, bridging := false, riseClamp := false, ready := 0, imageAfter := some s.core.cycle } }
    releaseHighSides (giveOrigination (setRole .standby cause s))

/-- Origination due from the next cycle on. -/
def originationBoundary (s : State) : State :=
  match s.pair.originateAt with
  | none => s
  | some c =>
    if c != s.ahead 1 then s
    else if s.pair.role = .takingOver then { originateAlone s with pair := { (originateAlone s).pair with bridging := true } }
    else takeOrigination s

end Sys2Proof.Machine
end

