-- ==== Sys2Proof/Machine/Pair.lean ====
section
/-! DEFINITION. The Tether as received (15 R440-R444, R449, R463): pairing, heartbeats and what they decide, missing data, replicated inputs,
checkpoint parts, configuration and adoption. -/

namespace Sys2Proof.Machine

open Sys2Proof

/-! ### Pairing (R438, R441, R562) -/

/-- The Tether refuses the partner: state 3. -/
def refusePartner (s : State) : State := { s with pair := { s.pair with tether := 3, keys := none } }

/-- Whether both units are adopted, under different string identifiers (R416, R441). -/
def State.foreignString (s : State) (h : Hello) : Bool := s.sec.adopted && h.stringId != 0 && h.stringId != s.sec.stringId

/-- What a hello is refused for: its certificate, the same strap (R562), another string (R416). -/
def checkHello (h : Hello) (s : State) : State :=
  if !h.certOk then refusePartner s
  else if h.strap = s.links.strap then
    let s := refusePartner { s with seat := { s.seat with conflicts := inc32 s.seat.conflicts } }
    if s.starting then s else s.raiseOnce 0x020 0x9A .warn 0 0
  else if s.foreignString h then
    let s := refusePartner { s with pair := { s.pair with join := 3 } }
    if s.countsStandby then s.raiseOnce srcPair 0xA6 .warn 0 0 else s
  else s

/-- PAIR_HELLO (R441): a Tether link has come up. Hello and proof go out; a single unit still in BOOT waits for its role (R438). -/
def execPairHello (hello : Hello) (s : State) : Out :=
  if !s.cycling then .next s
  else
    let wait := s.pair.role = .single && s.core.opState = .boot
    let s := { s with pair := { s.pair with tether := 1, keys := none, txSeq := 1, rxSeq := 0, hello := some hello, q27 := [],
                                            role := if wait then .undecided else s.pair.role, phyAt := if wait then s.core.cycle else s.pair.phyAt } }
    .next (checkHello hello (tetherSend .proof (tetherSend .hello s)))

/-- Send the string-scope configuration, tables and generations (R463). A unit that counts as active has then compared configurations (R438). -/
def sendConfiguration (s : State) : State :=
  let s := tetherSend .configuration s
  if s.countsActive then { s with pair := { s.pair with ready := setBit s.pair.ready 2 true } } else s

/-- A unit that waits starts its readiness afresh: only an image captured from now on counts (R462). -/
def restartReadiness (s : State) : State := { s with pair := { s.pair with ready := 0, imageAfter := some s.core.cycle } }

/-- Both units are paired under one string identifier: the Partner role holds (R441). -/
def joinPair (s : State) : State :=
  let s := { s with pair := { s.pair with tether := 2 } }
  sendConfiguration (if s.countsActive then s else restartReadiness s)

/-- The session binding of a request over the Tether: T of its pairing (R463). -/
def State.pairBinding (s : State) : Bytes := le 32 (s.pair.keys.getD 0)

/-- The key of an adoption code (R411). -/
def adoptKey (serial code : Nat) : Nat := unle ((le 32 (Config.sha256 (strBytes 11 "ZS512-ADOPT" ++ le 8 serial ++ le 8 code)).toNat).take 16)

/-- The adoption request this unit makes for its partner: its own anchors, masks, key and identifier (R412, R463). -/
def State.adoptionRequest (s : State) (serial code : Nat) : Bytes :=
  let ns := upFrom 1 4
  let anchors := ns.map fun i => Tab.at s.sec.anchors i []
  let head := strBytes 4 "ZSAD" ++ le 1 1 ++ le 1 (anchors.filter fun a => !a.isEmpty).length ++ le 2 0 ++ le 16 s.sec.stringId
    ++ padTo 64 (s.sec.verifyKey.getD []) ++ (ns.flatMap fun i => le 1 (Tab.at s.sec.masks i 0).toNat)
    ++ (anchors.flatMap fun a => le 2 a.length) ++ anchors.flatten
  head ++ le 16 (Config.cmac (adoptKey serial code) (s.pairBinding ++ head))

/-- An active unit that holds the label code of an unadopted partner sends the ADOPTION frame (R463). -/
def sendAdoption (s : State) : State :=
  match s.pair.hello, s.pair.code with
  | some h, some code =>
    if s.countsActive && s.sec.adopted && s.pair.tether = 1 && s.pair.keys.isSome && h.stringId = 0 then
      tetherSend (.adoption (s.adoptionRequest h.identity code) s.fb.envDoc 0) s
    else s
  | _, _ => s

/-- PAIR_PROOF (R441): the partner's signature over both hellos. The keys follow from them; equal identifiers pair the units. -/
def execPairProof (ok : Bool) (s : State) : Out :=
  match s.pair.hello with
  | none => .next s
  | some h =>
    if s.pair.tether != 1 then .next s
    else if !ok then .next (refusePartner s)
    else
      let (n, s) := drawInt s
      let (e, s) := drawInt s
      let k := if s.unitB then Config.tetherKeys h.nonce h.ephemeral n.toNat e.toNat else Config.tetherKeys n.toNat e.toNat h.nonce h.ephemeral
      let s := { s with pair := { s.pair with keys := some k } }
      .next (if s.sec.adopted && h.stringId = s.sec.stringId then joinPair s else sendAdoption s)

/-- 8050.01 holds 8 characters (R465). -/
def condPartnerCode (v : ObjVal) : Nat := if v.toBytes.length = 8 then 0 else abLength

/-- A write of 8050.01: the code is held until the partner has answered (R463). -/
def effPartnerCode (v : ObjVal) (s : State) : State := sendAdoption { s with pair := { s.pair with code := some (unle v.toBytes), join := 0 } }

/-! ### The heartbeat (R437, R443) -/

/-- Whether a role counts as active in the rows of R437 and R33. -/
def roleLeads : Role → Bool
  | .active | .outgoing | .takingOver => true
  | .single | .undecided | .joining | .standby | .incoming | .claiming => false

/-- Rows of R437 for a heartbeat received. -/
def heartbeatRole (h : Heartbeat) (s : State) : State :=
  match s.pair.role with
  | .undecided =>
    if roleLeads h.role then setRole .joining none s
    else if h.role = .undecided then (if s.unitB then setRole .joining none s else originateFresh (setRole .active none s))
    else s
  | .claiming => { setRole s.pair.before none s with pair := { (setRole s.pair.before none s).pair with claim := 0 } }
  | .single | .joining | .standby | .active | .incoming | .outgoing | .takingOver => s

/-- A state of the active unit that its standby follows: every one but those only the active unit enters (R33). -/
def stateFollowed : OpState → Bool
  | .isolated | .online | .derated | .tripping | .tripped | .lockout | .service | .sleep => true
  | .off | .boot | .precheck | .closing => false

/-- The standby follows a change of the active unit's state (R33). -/
def followState (before : Option Heartbeat) (h : Heartbeat) (s : State) : State :=
  let changed := match before with
    | some b => b.opState != h.opState
    | none => true
  let mayEnter := h.opState != .sleep || (s.core.opState = .isolated && s.bothOpen)
  if s.countsStandby && roleLeads h.role && changed && stateFollowed h.opState && mayEnter && h.opState != s.core.opState && !s.starting
      && s.core.opState != .sleep then
    enterState { kind := .joinStandby, source := srcPair, follow := h.opState } h.opState s
  else s

/-- The envelope digest of a heartbeat in a cycle with C mod 1,000 = 0 (R277). -/
def compareEnvelope (h : Heartbeat) (s : State) : State :=
  if h.cycle.toNat % 1000 = 0 then
    let same := h.slot = some s.fb.digest
    let s := { s with fb := { s.fb with envMatch := same } }
    if same then s.clearOnce 0x010 0x1B 0 0 else s.raiseOnce 0x010 0x1B .degrade 0 0
  else s

/-- The state digest of a heartbeat in cycle H − 49 (R451). -/
def compareDigest (h : Heartbeat) (s : State) : State :=
  if s.pair.phase = 3 && h.cycle + 49 = s.pair.h && h.slot != s.pair.digest then abortHandOver 1 true s else s

/-- Whether the frame check of a heartbeat of the overlap differs from the own frame's; frames with flag [7] are not compared (R452). -/
def State.frameMismatch (s : State) (h : Heartbeat) : Bool :=
  let n := (h.cycle - s.pair.h).toNat
  let own := s.pair.sentFrames.find? fun f => f.cycle + 1 = h.cycle
  let crc := match own with
    | some f => (crc32c f.data).toNat
    | none => 0
  let trip := fun (f : Option ConvFrame) => match f with
    | some f => f.cycle + 1 = h.cycle && f.flags.testBit 7
    | none => false
  s.pair.phase = 4 && 1 ≤ n && n ≤ 99 && !trip own && !trip s.pair.x && crc != h.frameCrc

/-- Whether this unit goes on after a mismatch: not the unit whose cross-check fails, else not the incoming one (R452). -/
def State.goesOn (s : State) (h : Heartbeat) : Bool :=
  let own := s.feBit feCross || s.feBit fePath
  let other := h.flags.getLsbD 4 || h.flags.getLsbD 5
  if own != other then other else s.pair.role != .incoming

/-- The frame checks of the overlap are compared (R452). -/
def compareFrames (h : Heartbeat) (s : State) : State := if s.frameMismatch h then settleOverlap 2 (s.goesOn h) s else s

/-- The run of heartbeats that show the partner's high sides driven while this unit catches a coil (R454). -/
def countCatch (h : Heartbeat) (s : State) : State :=
  let on := (s.pair.catching.any fun e => e.2) && h.flags.getLsbD 1
  { s with pair := { s.pair with catchRun := if on then s.pair.catchRun + 1 else 0 } }

/-- A heartbeat that returns after it was lost: the faults of the loss clear, and both units re-pair (R437, R462). -/
def heartbeatBack (s : State) : State :=
  if s.pair.lost then
    let s := ({ s with pair := { s.pair with lost := false } }.clearOnce srcPair 0xA0 0 0).clearOnce srcPair 0xA1 0 0
    if !s.paired then s
    else if s.pair.role = .claiming then (if s.pair.wasActive then sendConfiguration s else restartReadiness s)
    else sendConfiguration (if s.countsActive then s else restartReadiness s)
  else s

/-- A heartbeat is accepted. -/
def takeHeartbeat (h : Heartbeat) (s : State) : State :=
  let before := s.pair.hb
  let s := heartbeatBack { s with pair := { s.pair with hbSeen := true, missRun := 0 } }
  let m : Summary := { own := false, cycle := h.cycle, cellCrc := h.cellCrc, tempCrc := h.tempCrc, causes := h.causes, hall := h.hall, vStr := h.vStr }
  let s := { s with pair := { s.pair with hb := some h, summaries := s.pair.summaries ++ [m] } }
  let s := (heartbeatRole h s).clearOnce srcPair 0xA0 0 0
  let s := followState before h s
  countCatch h (compareFrames h (compareDigest h (compareEnvelope h s)))

/-! ### Data for the standby -/

/-- MISSING DATA (R72): blocks and answers that the relay path of cycle `c` did not carry. -/
def takeMissing (c : Cycle) (blocks : List BlockRec) (answers : List RingResp) (s : State) : State :=
  if c = s.core.cycle then
    let s := blocks.foldl (fun s b => if s.ring.validP.contains b.block.p then s else acceptBlock b.port b.block false s) s
    { s with ring := { s.ring with q2 := s.ring.q2 ++ answers } }
  else
    let f := fun (r : RawCycle) => if r.cycle = c then
        { r with blocks := r.blocks ++ blocks.filter (fun b => !r.blocks.any fun d => d.block.p = b.block.p), answers := r.answers ++ answers }
      else r
    { s with pair := { s.pair with rawBuf := s.pair.rawBuf.map f } }

/-- A gap in the input sequence (R444): readiness bit [3] falls until an image captured after it; it aborts a hand-over of this unit (cause 4). -/
def inputGap (s : State) : State :=
  let s := { s with pair := { s.pair with ready := setBit s.pair.ready 3 false, imageAfter := some s.core.cycle } }
  if s.pair.role = .incoming && s.pair.phase != 4 then abortHandOver 4 true s else s

/-- The sequence of an input that a standby receives (R443, R444). -/
def countInput (n : Nat) (s : State) : State :=
  let p := s.pair
  if n != (p.inSeq + 1) % 65536 then inputGap { s with pair := { p with inSeq := n } }
  else { s with pair := { p with inSeq := n, inGood := if p.ready.getLsbD 3 then n else p.inGood } }

/-- What a replicated input does on arrival: envelope exchanges act at once, the others wait for their cycle (R429, R444, R540). -/
def takeInput (i : RepInput) (s : State) : State :=
  let s := if s.countsStandby then countInput i.seq s else s
  match i.what with
  | .envelope doc => partnerEnvelope doc s
  | .envelopeAnswer ok => envelopeAnswered ok s
  | .envelopeEffective => envelopeEffective i.effective s
  | .generation g => { s with update := { s.update with ha := some (i.effective, g) } }
  | .write .. | .epoch .. | .cellCommand .. | .dispatch .. | .request .. =>
    if s.countsStandby then { s with pair := { s.pair with inputLog := s.pair.inputLog ++ [i], inputs := s.pair.inputs ++ [i] } } else s

/-- An image is held: it counts towards readiness once captured after what it must follow (R444, R449, R462, R489). -/
def holdImage (img : Image) (s : State) : State :=
  let fits := match s.pair.imageAfter with
    | none => true
    | some c => newer img.cycle c
  let p := { s.pair with images := keepN 2 (img :: s.pair.images), image := img.cycle, partial_ := none }
  { s with pair := if fits && !s.drilling then { p with ready := setBit (setBit p.ready 0 true) 3 true, imageAfter := none, inGood := p.inSeq } else p }

/-- A checkpoint part (R449): the image is held once all its parts have come. -/
def takePart (capture : Cycle) (part total : Nat) (image : Option Image) (s : State) : State :=
  let have_ := match s.pair.partial_ with
    | some p => if p.cycle = capture then p.parts else []
    | none => []
  let parts := if have_.contains part then have_ else have_ ++ [part]
  let s := { s with pair := { s.pair with partial_ := some { cycle := capture, parts := parts, total := total } } }
  match image with
  | none => s
  | some img => if total ≤ parts.length then joinPartner (holdImage img s) else s

/-- The registers of heads and the learned delays that a standby takes over (R60). -/
def takeHeads (c : ConfigRx) (s : State) : State :=
  let s := { s with ring := { s.ring with headCount := max s.ring.headCount c.heads.length, originB := !s.unitB,
                                          cable := c.cables.foldl (fun t e => Tab.put t e.1 e.2) s.ring.cable,
                                          endPath := if c.cables.isEmpty then s.ring.endPath else c.endPath } }
  relayHops <| c.heads.foldl (fun s e => s.modInfo e.1 fun h =>
    { h with serial := e.2.serial, dW := e.2.dW, dE := e.2.dE, lf := e.2.lf, lr := e.2.lr, lt := e.2.lt, cellCh := e.2.cellCh, tempCh := e.2.tempCh,
             contract := e.2.contract, rBleed := e.2.rBleed, groupDelay := e.2.groupDelay, from_ := 1, unreachable := false }) s

/-- String-scope values of a CONFIGURATION frame are put in force; the last frame of the item brings the epoch, kept as a commit would (R386, R463). -/
def takeValues (c : ConfigRx) (s : State) : State :=
  let s := { s with dict := { s.dict with vals := c.values.foldl (fun (t : Tab ObjVal) (e : Nat × ObjVal) => Tab.put t e.1 e.2) s.dict.vals } }
  if !c.last || c.epoch = s.dict.epoch then s
  else
    let s := { s with dict := { s.dict with epoch := c.epoch, epochCycle := c.first },
                      storage := { s.storage with newSet := some (c.epoch, c.first, s.dict.vals) } }
    s.journal 532 0x22 (le 1 0x22 ++ le 3 0 ++ le 4 c.epoch ++ le 4 c.first.toNat ++ le 4 0)

/-- A CONFIGURATION frame (R463): the active unit takes only the generations of its partner's images and whether an update step runs there
(R540, R551). -/
def takeConfiguration (c : ConfigRx) (s : State) : State :=
  let s := { s with pair := { s.pair with gens := c.gens.foldl (fun (t : Tab Nat) (e : Nat × Nat) => Tab.put t e.1 e.2) s.pair.gens, stepping := c.stepping } }
  if s.countsActive then s
  else
    let s := takeHeads c (takeValues c s)
    let s := c.tables.foldl (fun (s : State) (e : Nat × Tab ImpEntry × ImpHeader) => s.modCell e.1 fun k => { k with impTable := e.2.1, impHead := e.2.2 }) s
    if c.last then { s with pair := { s.pair with ready := setBit s.pair.ready 2 true } } else s

/-! ### Adoption over the Tether (R416, R463) -/

/-- The new unit takes the request and the envelope: 1 joined, 2 code failed, 3 identifier mismatch, 4 envelope refused. The self-test that R428 asks for
is the one the unit has run at its start (log 52). -/
def adoptHere (request document : Bytes) (s : State) : Nat × State :=
  if s.sec.adopted then
    if fieldN request 8 16 = s.sec.stringId then (1, s) else (3, s.raiseOnce srcPair 0xA6 .warn 0 0)
  else if condAdoption request s != 0 then (2, s)
  else
    let (r, s) := takeAdoption s.pairBinding request s
    if r != 0 then (2, s)
    else if document.isEmpty then (1, s)
    else if s.envDocument document != 0 || s.fb.selfTestFailed then (4, s)
    else
      let p : EnvPending := { doc := document, fields := envFields document, digest := Config.sha256 document, seq := fieldN document 8 4,
                              session := 0xFFFF, req := 0, foreign := true }
      (1, applyEnvelope p s)

/-- An ADOPTION frame: the request at the new unit, or its result at the active one. -/
def takeAdoptionFrame (request document : Bytes) (result : Option Nat) (s : State) : State :=
  match result with
  | none =>
    let (r, s) := adoptHere request document s
    let s := tetherSend (.adoption [] [] r) { s with pair := { s.pair with join := r } }
    if r = 1 then joinPair s else s
  | some r =>
    let s := { s with pair := { s.pair with join := r, code := none } }
    if r = 1 then joinPair s else s

/-! ### Hand-over frames -/

/-- A HAND-OVER frame: an acceptance makes a standby INCOMING; an abort ends the hand-over, in the overlap as a frame mismatch would (R451, R452). -/
def takeHandOver (kind : Nat) (h : Cycle) (cause : Nat) (s : State) : State :=
  if kind = 1 then
    if s.pair.role = .standby then
      setRole .incoming (some 0) { s with pair := { s.pair with h := h, phase := 1, warm := false, digest := none } }
    else s
  else if kind = 2 && s.handingOver then
    if s.pair.phase = 4 then
      match s.pair.hb with
      | some b => settleOverlap cause (s.goesOn b) s
      | none => s
    else abortHandOver cause false s
  else s

/-! ### Frames as they arrive (R376, R442, R489) -/

/-- Type code of a frame (R442). -/
def TetherRx.code : TetherRx → Nat
  | .heartbeat _ => 0x10
  | .missing .. => 0x11
  | .input _ => 0x12
  | .part .. => 0x13
  | .handOver .. => 0x14
  | .configuration _ => 0x15
  | .adoption .. => 0x16

/-- What an accepted frame does. -/
def takeTether (f : TetherRx) (s : State) : State :=
  match f with
  | .heartbeat h => takeHeartbeat h s
  | .missing c b a => takeMissing c b a s
  | .input i => takeInput i s
  | .part c p n i => takePart c p n i s
  | .handOver k h c => takeHandOver k h c s
  | .configuration c => takeConfiguration c s
  | .adoption r d n => takeAdoptionFrame r d n s

/-- A frame counts in 8000.0B. -/
def discardTether (s : State) : State := { s with pair := { s.pair with discarded := inc32 s.pair.discarded } }

/-- A frame whose tag verifies and whose sequence has risen is accepted; one that is not, and any but ADOPTION from an unadopted peer, is discarded
(R441, R442). -/
def deliverTether (seq : Nat) (ok : Bool) (f : TetherRx) (s : State) : State :=
  if s.pair.keys.isNone || !(s.pair.tether = 2 || (s.pair.tether = 1 && f.code = 0x16)) then s
  else if !ok || seq ≤ s.pair.rxSeq then discardTether s
  else takeTether f { s with pair := { s.pair with rxSeq := seq } }

/-- A heartbeat that a drill drops or corrupts still counts as received (R489). -/
def drillTether (f : TetherRx) (s : State) : State :=
  match f with
  | .heartbeat h => if (s.injector 6).drill then takeHeartbeat h s else s
  | .missing .. | .input _ | .part .. | .handOver .. | .configuration _ | .adoption .. => s

/-- Deliver a Tether frame that an injection held back: its sequence decides whether it is still accepted. -/
def deliverHeldTether (s : State) (f : HeldFrame) : State :=
  match f with
  | .tether seq ok f => deliverTether seq ok f s
  | .block .. | .answer .. | .relayed .. | .command .. | .eth .. | .can .. => s

/-- A Tether frame arrives; provoked faults act before it is used (R376). -/
def receiveTether (seq : Nat) (ok : Bool) (f : TetherRx) (s : State) : State :=
  let (what, s) := injectFrame 6 0 (s.injectCfg 6 0x10 = 0xFF || s.injectCfg 6 0x10 = f.code) s
  let (due, s) := dueFrames 6 s
  let s := match what with
    | .clean => deliverTether seq ok f s
    | .drop => drillTether f s
    | .corrupt => drillTether f (deliverTether seq false f s)
    | .reorder => drillTether f (holdFrame 6 (.tether seq ok f) s)
  due.foldl deliverHeldTether s

/-- HEARTBEAT_RECEIVE (R443). -/
def execHeartbeatReceive (seq : Nat) (ok : Bool) (hb : Heartbeat) (s : State) : Out :=
  if s.cycling then .next (receiveTether seq ok (.heartbeat hb) s) else .next s

/-- MISSING_DATA (R72). -/
def execMissingData (seq : Nat) (ok : Bool) (cycle : Cycle) (blocks : List BlockRec) (answers : List RingResp) (s : State) : Out :=
  if s.cycling then .next (receiveTether seq ok (.missing cycle blocks answers) s) else .next s

/-- REPLICATED_INPUT (R444). -/
def execReplicatedInput (seq : Nat) (ok : Bool) (input : RepInput) (s : State) : Out :=
  if s.cycling then .next (receiveTether seq ok (.input input) s) else .next s

/-- CHECKPOINT_PART (R449): part `part` of `total`; the last to come carries the image as the parts build it. -/
def execCheckpointPart (seq : Nat) (ok : Bool) (capture : Cycle) (part total : Nat) (image : Option Image) (s : State) : Out :=
  if s.cycling then .next (receiveTether seq ok (.part capture part total image) s) else .next s

/-- CONFIGURATION (R463). -/
def execConfiguration (seq : Nat) (ok : Bool) (frame : ConfigRx) (s : State) : Out :=
  if s.cycling then .next (receiveTether seq ok (.configuration frame) s) else .next s

/-- ADOPTION (R463). -/
def execAdoption (seq : Nat) (ok : Bool) (request document : Bytes) (result : Option Nat) (s : State) : Out :=
  if s.cycling then .next (receiveTether seq ok (.adoption request document result) s) else .next s

/-- HAND_OVER (R442). -/
def execHandOver (seq : Nat) (ok : Bool) (kind : Nat) (h : Cycle) (cause : Nat) (s : State) : Out :=
  if s.cycling then .next (receiveTether seq ok (.handOver kind h cause) s) else .next s

/-! ### The raw buffer and readiness (R449) -/

/-- Whether the raw buffer holds every cycle after an image up to the present one. -/
def State.spans (s : State) (c : Cycle) : Bool :=
  s.since c ≤ 1250 && (upFrom 1 (s.since c)).all fun j => s.pair.rawBuf.any fun r => r.cycle = c + BitVec.ofNat 32 j

/-- At a boundary of a unit in a pair the cycle enters the raw buffer, which keeps 1,250; the input log keeps what belongs to them; readiness bit [1]
follows. -/
def rawBoundary (s : State) : State :=
  if !s.inPair then s
  else
    let rec_ := if s.ring.recordGone then { cycle := s.core.cycle : StringRecord } else s.ring.record
    let r : RawCycle := { cycle := s.core.cycle, record := rec_, blocks := s.ring.blocks, answers := s.ring.q2 ++ s.ring.q6 }
    let buf := keepN 1250 (r :: s.pair.rawBuf)
    let log := s.pair.inputLog.filter fun i => !(s.since i.effective < 2 ^ 31 && 1250 < s.since i.effective)
    let s := { s with pair := { s.pair with rawBuf := buf, buffered := buf.length, inputLog := log } }
    let ok := !s.drilling && s.pair.imageAfter.isNone && s.pair.ready.getLsbD 0 && s.spans s.pair.image
    { s with pair := { s.pair with ready := setBit s.pair.ready 1 ok } }

/-- READINESS_COMPLETE (R437): a joining unit with all readiness bits is STANDBY. -/
def execReadinessComplete (s : State) : Out :=
  if s.pair.role = .joining && s.pair.ready.toNat % 16 = 15 then .next (setRole .standby none s) else .next s

end Sys2Proof.Machine
end

