-- ==== Sys2Proof/Machine/Provoked.lean ====
section
/-! DEFINITION. Provoked faults from arming to their end (16 R485-R489, 12 R376-R377). What they do to a frame is in Machine/Inject.lean and where
the frames of each link pass. -/

namespace Sys2Proof.Machine

open Sys2Proof

/-- Frames held back on a link are delivered (R486, R75). -/
def releaseHeld (link : Nat) (s : State) : State :=
  let (l, s) := allHeld link s
  if link ≤ 1 then l.foldl deliverHeld s
  else if link ≤ 3 then l.foldl deliverHeldEth s
  else if link ≤ 5 then l.foldl deliverHeldCan s
  else l.foldl deliverHeldTether s

/-- Arming is accepted in ISOLATED or SERVICE, or as a drill (R487); the Tether takes receive-side faults only (R376, R377). -/
def condArm (link : Nat) (s : State) : Nat := if s.mayInject && !(link = 6 && s.injectCfg 6 3 = 1) then 0 else abNoProvoke

/-- A write of 0: an armed or running injection stops. -/
def stopInjection (link : Nat) (s : State) : State :=
  let st := (s.injector link).state
  if st = 1 || st = 2 then releaseHeld link (endInjection 4 link s) else s

/-- PROVOKED_FAULT_START (R486): the start cycle of an armed injection. -/
def execProvokedFaultStart (link : Nat) (s : State) : Out :=
  let i := s.injector link
  if 6 < link || i.state != 1 || 2 ^ 31 ≤ s.since i.start then .next s
  else if !s.mayInject then .next (endInjection 4 link s)
  else .next (drillReadiness link (tellInject 2 link (s.modInject link fun i => { i with state := 2 })))

/-- PROVOKED_FAULT_END (R486): its duration has passed. -/
def execProvokedFaultEnd (link : Nat) (s : State) : Out :=
  let i := s.injector link
  if link ≤ 6 && i.state = 2 && s.injectCfg link 11 ≤ s.since i.start && s.since i.start < 2 ^ 31 then
    .next (releaseHeld link (endInjection 3 link s))
  else .next s

end Sys2Proof.Machine
end

