-- ==== Sys2Proof/Machine/HandOver.lean ====
section
/-! DEFINITION. Planned hand-overs (15 R450-R453), coil catches (R454) and takeovers (R455-R457, 19 R569). Each step of a hand-over is an event of the
cycle the spec gives it. -/

namespace Sys2Proof.Machine

open Sys2Proof

/-! ### Acceptance (R450, R453) -/

/-- Readiness bits of the partner as its heartbeat shows them: bits [0] and [1] its flags [6] and [7]; a STANDBY has all (R437, R443). -/
def State.partnerReady (s : State) : Nat :=
  match s.pair.hb with
  | none => 0
  | some h => b2n (h.flags.getLsbD 6) + 2 * b2n (h.flags.getLsbD 7) + 12 * b2n (h.role = .standby)

/-- An operating state in which a hand-over is accepted (R450). -/
def handOverState : OpState → Bool
  | .isolated | .online | .derated | .tripped | .lockout | .service => true
  | .off | .boot | .precheck | .closing | .tripping | .sleep => false

/-- Whether a heartbeat was missed within the last 1,000 cycles. -/
def State.missedLately (s : State) : Bool :=
  match s.pair.lastMiss with
  | some c => s.since c < 1000
  | none => false

/-- The conditions of a hand-over, with the class 0x09 codes of R466. While the unit that would become active has an update step running, none is accepted
(R551); its CONFIGURATION tells (log 51). -/
def condHandOver (s : State) : Nat :=
  if s.handingOver then 0x09040000
  else if s.pair.stepping then s.stateAbort 0x09020000
  else if s.pair.role != .active || !handOverState s.core.opState || s.coreFrozen then s.stateAbort 0x09020000
  else if !s.paired || s.partnerReady != 15 || s.pair.lost || s.missedLately then abortArg 0x09010000 s.partnerReady
  else if !s.fb.envMatch || s.kindActive 0x1A || s.kindActive 0x1B then 0x09030000
  else 0

/-- A hand-over is accepted: H is fixed, and the partner is told (R450, R451). -/
def effHandOver (s : State) : State :=
  let h := s.firstHalf 2500
  let s := setRole .outgoing (some 0) { s with pair := { s.pair with h := h, phase := 1, abort := 0, digest := none, warm := false } }
  tetherSend (.handOver 1 h 0) s

/-- Cancelling is possible before H − 50. -/
def condCancel (s : State) : Nat :=
  let d := (s.pair.h - s.core.cycle).toNat
  if s.handingOver && 50 < d && d < 2 ^ 31 then 0 else 0x09040000

/-- A cancelled hand-over aborts with cause 6. -/
def effCancel (s : State) : State := abortHandOver 6 true s

/-- ROLE_SWAP_TIMER (R453): 8010.01 days of operation since the last completed role change. A refused swap is tried again every 60 s; after 24 h of
refusals it is overdue. -/
def execRoleSwapTimer (s : State) : Out :=
  let due := s.pair.swapFrom + s.cfg 0x8010 1 * 86400000 ≤ s.power.opTime
  let wait := match s.pair.lastTry with
    | some c => s.since c < 60000
    | none => false
  if !s.inPair || s.pair.role != .active || !due || wait then .next s
  else if condHandOver s = 0 then .next (effHandOver s)
  else
    let s := { s with pair := { s.pair with lastTry := some s.core.cycle, refusedSince := s.start s.pair.refusedSince } }
    .next (if s.ran s.pair.refusedSince 86400000 then s.raiseOnce srcPair 0xA3 .warn 0 0 else s)

/-! ### The course of a hand-over (R451) -/

/-- NOT_WARM_ABORT: the incoming unit is not warm by H − 100. -/
def execNotWarmAbort (s : State) : Out :=
  if s.pair.role = .incoming && s.pair.phase = 1 && (s.pair.h - s.core.cycle).toNat ≤ 100 then .next (abortHandOver 5 true s) else .next s

/-- The outgoing unit's moving axes come to a standstill; what is left of their moves waits (R569). -/
def holdAxes (s : State) : State :=
  s.movers.foldl (fun s a => (stopAxis a false s).modAxis a fun x => { x with waiting := true }) s

/-- STATE_FREEZE: the boundary before H − 50. -/
def execStateFreeze (s : State) : Out :=
  let ready := (s.pair.role = .outgoing && (s.pair.phase = 1 || s.pair.phase = 2)) || (s.pair.role = .incoming && s.pair.phase = 2)
  if ready && s.ahead 51 = s.pair.h then
    let s := { s with pair := { s.pair with phase := 3, digest := some (Config.imageDigest s.makeImage) } }
    .next (if s.pair.role = .outgoing then holdAxes s else s)
  else .next s

/-- OVERLAP_START: cycle H. The incoming unit drives the coil high sides and starts its stateful streams. -/
def execOverlapStart (s : State) : Out :=
  if s.pair.phase = 3 && s.core.cycle = s.pair.h then
    let s := { s with pair := { s.pair with phase := 4 } }
    .next (if s.pair.role = .incoming then driveCoils s else s)
  else .next s

/-- The incoming unit begins its injection with the next half-period, at least 10 ms after the other source is off (R122): when that is only the other unit
knows, so the cycle is a free value within its last full period (log 50). -/
def waitToInject (s : State) : State :=
  let (x, s) := drawInt s
  { s with fe := { s.fe with injectFrom := some (s.ahead (61 + x.toNat % 120000)) } }

/-- ORIGINATION_CHANGE: the boundary before H + 50. -/
def execOriginationChange (s : State) : Out :=
  if s.pair.phase = 4 && s.ahead 1 = s.pair.h + 50 then
    .next (if s.pair.role = .outgoing then giveOrigination s else if s.pair.role = .incoming then waitToInject (takeOrigination s) else s)
  else .next s

/-- The bridge legs of every axis are off: another unit drives them (R569). -/
def legsOff (s : State) : State := (upFrom 1 4).foldl (fun s a => s.modAxis a fun x => { x with coil := 0 }) s

/-- HAND_OVER_COMPLETE: the boundary before H + 100. The outgoing unit's own images and raw buffer make it a ready standby. -/
def execHandOverComplete (s : State) : Out :=
  if s.pair.phase = 4 && s.ahead 1 = s.pair.h + 100 then
    let s := { s with pair := { s.pair with phase := 5, h := 0, digest := none, warm := false } }
    if s.pair.role = .outgoing then
      let s := { s with pair := { s.pair with images := s.storage.landing, image := s.checkpointImage.cycle, ready := s.pair.ready ||| 13 } }
      .next (swapDone (legsOff (releaseHighSides (setRole .standby (some 0) s))))
    else if s.pair.role = .incoming then
      .next (swapDone (resumeWaiting (motionDomain (noEnvelope (setRole .active (some 0) s)))))
    else .next s
  else .next s

/-! ### Coil catch (R454) -/

/-- COIL_CATCH: the current of coil k at this unit's low side has stayed below 60 % of the hold target for 200 µs, with the TRIP-PCS loop closed. -/
def execCoilCatch (k : Nat) (s : State) : Out :=
  let on := match s.pair.hb with
    | some h => h.flags.getLsbD 2
    | none => false
  if !s.inPair || 1 < k || !s.countsStandby || s.mayDrive k || !on || !s.di diLoop || s.fb.causes != 0 || !s.online then .next s
  else
    let s := s.modContactor k fun c => { c with coil := .hold, commanded := true, since := s.core.cycle }
    let s := { s with pair := { s.pair with catching := Tab.put s.pair.catching k true, catchRun := 0, catches := inc32 s.pair.catches } }
    .next (s.report srcPair 0xA4 .warn 0 0)

/-- COIL_CATCH_END: the path of coil k is open, or the partner's heartbeats show its high sides driven again for 100 cycles. -/
def execCoilCatchEnd (k : Nat) (openPath : Bool) (s : State) : Out :=
  if Tab.flag s.pair.catching k && (openPath || 100 ≤ s.pair.catchRun) then
    .next (releaseHighSides { s with pair := { s.pair with catching := Tab.put s.pair.catching k false } })
  else .next s

/-! ### Takeover (R455, R456, R569) -/

/-- An axis as the image knows it; what it was told since stays. A unit that takes over by itself knows the position only of an axis with an
encoder. -/
def takeAxis (keep : Bool) (img : Image) (s : State) (a : Nat) : State :=
  let i := Tab.at img.axes a {}
  let sure := keep || s.axisCfg a 0x0A != 0
  let s := s.modAxis a fun x =>
    { x with pos := i.pos, homed := i.homed && sure, encZero := i.encZero, encBase := i.encBase, follow := i.follow,
             target := if x.waiting then x.target else i.target, waiting := x.waiting || i.waiting || i.moving }
  let s := if sure && s.axisCfg a 0x0A != 0 && (s.axis a).homed then s.modAxis a fun x => { x with pos := s.encoderPos a } else s
  s.modAxis a fun x => { x with state := if x.state = .fault || x.state = .fenced then x.state else s.restState a }

/-- The axes at a takeover: those without an encoder are unhomed, and home where auto-home is set; moves that waited go on (R569). -/
def axesOver (s : State) : State :=
  let s := match s.pair.images.head? with
    | some img => (upFrom 1 4).foldl (takeAxis false img) s
    | none => (upFrom 1 4).foldl (fun s a => if s.axisCfg a 0x0A = 0 then s.modAxis a fun x => { x with homed := false } else s) s
  let s := motionDomain s
  let home := fun (s : State) (a : Nat) =>
    if s.axisCfg a 0x0A = 0 && s.axisMode a != 0 && s.cfg (0x687F + a) 6 = 1 && condHome a s = 0 then startHoming a s else s
  resumeWaiting ((upFrom 1 4).foldl home s)

/-- X is used only if recorded within the 16 cycles before the first bridge frame (R457). -/
def State.freshX (s : State) (first : Cycle) : Option ConvFrame := s.pair.x.filter fun f => (first - f.cycle).toNat ≤ 16

/-- TAKEOVER: what a unit that has entered TAKING-OVER does. It originates, with its first bridge frame, from the next boundary, or from the one after it
where the decision falls too late in the cycle (R63). -/
def execTakeover (late : Bool) (s : State) : Out :=
  if s.pair.role != .takingOver || s.pair.originateAt.isSome || s.pair.bridging then .next s
  else
    let first := s.ahead (if late then 2 else 1)
    let origin := s.sec.adopted && s.dict.epoch != 0
    let s := { s with pair := { s.pair with x := s.freshX first, catching := [], catchRun := 0,
                                            originateAt := if origin then some first else none, bridging := !origin },
                      sawyer := { s.sawyer with unsentRun := 0, frameOk := true } }
    let s := if s.pair.ready.toNat % 16 = 15 then s else s.reportInj (s.tainted 6) srcPair 0xA5 .warn 0 0
    .next (axesOver (noEnvelope (driveCoils s)))

end Sys2Proof.Machine
end

