-- ==== Sys2Proof/Machine/Kinds.lean ====
section
/-! DEFINITION. The fault kinds (R471, R525, R552): name and severity of each code, as 8900 + kind shows them; 0xFF = set per message. -/

namespace Sys2Proof.Machine

open Sys2Proof

/-- Kinds 0x1 to 0x2a. -/
def kindRows0 : List (Nat × Nat × String) :=
  [(0x01, 4, "Cell over-voltage"),
   (0x02, 4, "Cell under-voltage"),
   (0x03, 5, "Cell hard over-voltage"),
   (0x04, 5, "Cell hard under-voltage"),
   (0x05, 4, "Cell over-temperature"),
   (0x06, 4, "Cell under-temperature"),
   (0x07, 5, "Cell hard over-temperature"),
   (0x08, 4, "Coolant out of limits"),
   (0x09, 4, "String over-voltage"),
   (0x0A, 4, "Overcurrent"),
   (0x0B, 4, "Overcurrent i²t"),
   (0x0C, 4, "Insulation fault"),
   (0x0D, 2, "Insulation low"),
   (0x0E, 4, "ESTOP open"),
   (0x0F, 4, "HVIL open"),
   (0x10, 5, "Fire alarm"),
   (0x11, 4, "TRIP-PCS loop open"),
   (0x12, 4, "Cells unmeasured"),
   (0x13, 4, "Protection current lost"),
   (0x14, 4, "Disconnector moved"),
   (0x15, 4, "Firebreak configuration fault"),
   (0x16, 3, "Firebreak self-test failed"),
   (0x17, 3, "No envelope"),
   (0x18, 2, "Over-current break"),
   (0x19, 2, "Disconnector interlock"),
   (0x1A, 3, "Protection mismatch"),
   (0x1B, 3, "Envelope mismatch"),
   (0x1C, 2, "Temperature point lost"),
   (0x1D, 3, "Head temperature lost"),
   (0x20, 2, "Position conflict"),
   (0x21, 2, "Hop beyond segment"),
   (0x22, 2, "Head not responding"),
   (0x23, 3, "Ring configuration mismatch"),
   (0x24, 2, "Ring hop unstable"),
   (0x25, 2, "Double origin"),
   (0x26, 2, "Code violations"),
   (0x27, 1, "Loss of signal"),
   (0x28, 1, "Block check failures"),
   (0x29, 2, "Commands failed"),
   (0x2A, 2, "Wrap entered")]

/-- Kinds 0x2b to 0x72. -/
def kindRows1 : List (Nat × Nat × String) :=
  [(0x2B, 1, "Unwrap"),
   (0x2C, 3, "Ring port fenced"),
   (0x2D, 4, "Ring capacity exhausted"),
   (0x30, 1, "Tap suspected"),
   (0x31, 2, "Tap suspicion recurring"),
   (0x32, 2, "Tap resistance high"),
   (0x33, 3, "Sense lost"),
   (0x34, 3, "Head sum mismatch"),
   (0x35, 2, "String sum mismatch"),
   (0x36, 255, "Head channel fault"),
   (0x37, 2, "Bleed gate failure"),
   (0x40, 1, "Main sensor over-range"),
   (0x41, 3, "Current sensor disagreement"),
   (0x42, 3, "String voltage path fault"),
   (0x43, 2, "Insulation result stale"),
   (0x44, 4, "Coil drive fault"),
   (0x45, 4, "Contactor opened unexpectedly"),
   (0x46, 3, "Auxiliary contact fault"),
   (0x47, 5, "Contactor welded"),
   (0x48, 2, "Weld check inconclusive"),
   (0x50, 2, "Table entry repaired"),
   (0x51, 3, "Lane fenced"),
   (0x52, 4, "Estimation capacity exhausted"),
   (0x53, 1, "Estimator clamp"),
   (0x54, 1, "Cell temperature unknown"),
   (0x55, 1, "Counting divergence"),
   (0x56, 1, "Cell insertion"),
   (0x57, 1, "Learning step clamped"),
   (0x58, 1, "Shut-down event"),
   (0x59, 1, "Learning step lost"),
   (0x5A, 1, "Perturbation not applied"),
   (0x5B, 1, "Impedance table repaired"),
   (0x5C, 255, "Cell health"),
   (0x5D, 255, "Internal short suspected"),
   (0x5E, 3, "Bleed switch stuck"),
   (0x5F, 2, "Bleed switch open"),
   (0x60, 1, "Tap resistance changed"),
   (0x70, 1, "Dispatch lease expired"),
   (0x71, 1, "Dispatch lease revoked"),
   (0x72, 2, "Converter frame late")]

/-- Kinds 0x73 to 0xb4. -/
def kindRows2 : List (Nat × Nat × String) :=
  [(0x73, 4, "Converter stream lost"),
   (0x74, 2, "Cell temperature statistics lost"),
   (0x75, 255, "Canopy threshold"),
   (0x76, 2, "Threshold outside envelope"),
   (0x77, 2, "Coolant loop measurement lost"),
   (0x80, 1, "Motion inhibited on backup"),
   (0x81, 1, "Chopper fall-back"),
   (0x82, 2, "Step loss"),
   (0x83, 1, "Switch chatter"),
   (0x84, 2, "Limit reached"),
   (0x85, 2, "Gearing lag"),
   (0x86, 2, "Homing fault"),
   (0x87, 3, "Disconnector travel fault"),
   (0x88, 3, "Disconnector switch fault"),
   (0x89, 3, "Axis fenced"),
   (0x8A, 3, "Motion capacity exhausted"),
   (0x90, 1, "Ethernet link lost"),
   (0x91, 2, "Host network lost"),
   (0x92, 3, "Ethernet port fenced"),
   (0x93, 2, "Host network capacity exhausted"),
   (0x94, 2, "Time-stamp queue overflow"),
   (0x95, 2, "No acknowledge"),
   (0x96, 2, "CAN bus-off"),
   (0x97, 3, "CAN controller fenced"),
   (0x98, 2, "CAN capacity exhausted"),
   (0x99, 2, "Fire input line fault"),
   (0x9A, 2, "Role strap invalid"),
   (0x9B, 2, "Role strap changed"),
   (0xA0, 2, "Partner lost"),
   (0xA1, 2, "Partner state unknown"),
   (0xA2, 2, "Hand-over aborted"),
   (0xA3, 2, "Role swap overdue"),
   (0xA4, 2, "Coil catch"),
   (0xA5, 2, "Takeover without exact replay"),
   (0xA6, 2, "Partner adoption mismatch"),
   (0xB0, 2, "Ranger messages lost"),
   (0xB1, 4, "Watchdog expired"),
   (0xB2, 2, "Tally records lost"),
   (0xB3, 2, "Wear reserve low"),
   (0xB4, 2, "Storage life 80 % used")]

/-- Kinds 0xb5 to 0xe8. -/
def kindRows3 : List (Nat × Nat × String) :=
  [(0xB5, 0, "Keep area full"),
   (0xB6, 255, "Deadline missed"),
   (0xC0, 2, "AUX input out of range"),
   (0xC1, 1, "On backup supply"),
   (0xC2, 2, "Backup converter fault"),
   (0xC3, 4, "Supply lost"),
   (0xC4, 2, "Hold-up store low"),
   (0xC5, 255, "Power domain fault"),
   (0xC6, 255, "Clock fault"),
   (0xC7, 2, "Module temperature warning"),
   (0xC8, 2, "Module temperature throttle"),
   (0xC9, 4, "Module temperature shut-down"),
   (0xCA, 2, "Module temperature sensor broken"),
   (0xCB, 255, "Lookout rule fired"),
   (0xCC, 2, "Lookout fault"),
   (0xCD, 0, "Restart"),
   (0xE0, 2, "Storage lost"),
   (0xE1, 1, "Storage unit retired"),
   (0xE2, 2, "Storage read error"),
   (0xE3, 1, "Journal interrupted write"),
   (0xE4, 1, "Journal log full"),
   (0xE5, 2, "Image rejected"),
   (0xE6, 2, "Update aborted"),
   (0xE7, 2, "Update unconfirmed"),
   (0xE8, 2, "Checkpoint write failed")]

/-- Every kind: code, severity, name. -/
def kindRows : List (Nat × Nat × String) := kindRows0 ++ kindRows1 ++ kindRows2 ++ kindRows3

/-- Severity and name of a kind; reserved codes have none. -/
def kindRow (kind : Nat) : Nat × String :=
  match kindRows.find? fun r => r.1 = kind with
  | some r => r.2
  | none => (0xFF, "")

end Sys2Proof.Machine
end

