-- ==== Sys2Proof/Machine/Readout.lean ====
section
/-! DEFINITION. What every object reads as (R380-R385, R391): the registers and measurements of each chapter's object tables, as bytes or numbers.
Functions are of the state as it stood at the boundary a read shows. -/

namespace Sys2Proof.Machine

open Sys2Proof

/-! ### Codes -/

/-- Code of a ring state (2101.01). -/
def RingState.code : RingState → Nat
  | .down => 0 | .enum => 1 | .closed => 2 | .wrapped => 3 | .relay => 4

/-- Code of an update class (R138). -/
def CellClass.code : CellClass → Nat
  | .s => 0 | .n => 1 | .f => 2

/-- Code of a lane state (4701). -/
def LaneState.code : LaneState → Nat
  | .active => 0 | .draining => 1 | .drained => 2 | .fenced => 3

/-- Code of a point quality (R144). -/
def Quality.code : Quality → Nat
  | .good => 0 | .stale => 1 | .implausible => 2 | .openAbsent => 3 | .unreachable => 4

/-- Code of the perturbation state (4801.01). -/
def BorerState.code : BorerState → Nat
  | .idle => 0 | .requested => 1 | .running => 2 | .backedOff => 3

/-- Code of a threshold state (6810.09). -/
def ThrState.code : ThrState → Nat
  | .normal => 0 | .pending => 1 | .active => 2 | .clearing => 3 | .disabled => 4

/-- Code of an axis state (6870.01). -/
def AxisState.code : AxisState → Nat
  | .disabled => 0 | .unhomed => 1 | .homing => 2 | .standstill => 3 | .moving => 4 | .waiting => 5 | .following => 6 | .fault => 7 | .fenced => 8

/-- Code of a CAN error state (7200.06). -/
def CanErr.code : CanErr → Nat
  | .active => 0 | .passive => 1 | .busOff => 2 | .fenced => 3

/-- Code of a clock state (7100.02). -/
def ClockState.code : ClockState → Nat
  | .free => 0 | .acquiring => 1 | .locked => 2 | .holdover => 3

/-- Code of a session state (1100.01). -/
def SessState.code : SessState → Nat
  | .free => 0 | .isOpen => 1 | .dormant => 2

/-- Code of the partner sense (8000.02). -/
def senseCode : Sense → Nat
  | .alive => 0 | .stopped => 1 | .absent => 2 | .stale => 3

/-- A number as a value. -/
def natVal (n : Nat) : Option ObjVal := some (.num n)

/-- An integer as a value. -/
def intVal (n : Int) : Option ObjVal := some (.num n)

/-- A flag as a value. -/
def boolVal (b : Bool) : Option ObjVal := some (.num (b2n b))

/-- A cycle number as a value. -/
def cycVal (c : Cycle) : Option ObjVal := some (.num c.toNat)

/-- Bytes as a value. -/
def octVal (b : Bytes) : Option ObjVal := some (.bytes b)

/-! ### Ring, heads, taps (R77, R108) -/

/-- Contactor state (2013.05): 0 open, 1 closing, 2 closed, 3 fault; from NO alone when NC is not wired (R128, 2013.04). -/
def Contactor.shown (wired : Bool) (c : Contactor) : Nat :=
  if c.welded || (wired && c.no && c.nc) then 3 else if c.no then 2 else if c.commanded then 1 else if c.nc || !wired then 0 else 3

/-- 2140 + P − 1. -/
def State.readHeadInfo (b : State) (p sub : Nat) : Option ObjVal :=
  let h := b.info p
  match sub with
  | 1 => natVal h.serial
  | 2 => natVal (if h.unreachable then 0 else h.hop)
  | 3 => natVal (if h.unreachable then 255 else h.from_)
  | 4 => natVal h.dW
  | 5 => natVal h.dE
  | 6 => natVal h.lf
  | 7 => natVal h.lr
  | 8 => natVal h.lt
  | 9 => natVal h.blockFails
  | 10 => natVal h.missing
  | _ => natVal h.flags.toNat

/-- 2180 + P − 1. -/
def State.readHeadTest (b : State) (p sub : Nat) : Option ObjVal :=
  match sub with
  | 1 => intVal (Tab.int b.tap.sumDev p)
  | 2 => natVal (Tab.at b.tap.diag p 0).toNat
  | 3 => intVal (b.info p).die
  | 4 => natVal (b.info p).contract
  | 5 => natVal (b.info p).rBleed
  | 6 => natVal (b.info p).groupDelay
  | 7 => natVal (Tab.at b.tap.rwUnc p 0xFFFF)
  | _ => cycVal (Tab.at b.tap.lastTest p 0)

/-- Objects 2101 to 223F that are read-only. -/
def State.readRing (b : State) (idx sub : Nat) : Option ObjVal :=
  let r := b.ring
  if idx = 0x2101 then
    match sub with
    | 1 => natVal r.state.code
    | 2 => natVal r.headCount
    | 3 => natVal r.transit
    | 4 => natVal r.segW
    | 5 => natVal r.segE
    | 6 => natVal (r.wrapW * 256 + r.wrapE)
    | 7 => natVal (2 * b2n r.originB + b2n r.bothPorts)
    | _ => cycVal r.lastChange
  else if idx = 0x2102 then natVal (if sub = 0x42 then r.endPath else Tab.nat r.cable sub)
  else if idx = 0x2110 || idx = 0x2111 then natVal (Tab.nat r.counters (16 * (idx - 0x2110) + sub))
  else if 0x2140 ≤ idx && idx ≤ 0x217F then b.readHeadInfo (idx - 0x213F) sub
  else if idx = 0x2103 then
    match sub with
    | 3 => natVal (b.allCells.filter fun k => (b.cell k).flag cfSenseLost).length
    | 4 => intVal b.tap.strDev
    | 7 => natVal b.tap.suspicions
    | _ => none
  else if 0x2180 ≤ idx && idx ≤ 0x21BF then b.readHeadTest (idx - 0x217F) sub
  else if 0x21C0 ≤ idx && idx ≤ 0x21FF then natVal (Tab.at b.tap.rw (32 * (idx - 0x21BF) + sub - 1) 0xFFFF)
  else if 0x2200 ≤ idx && idx ≤ 0x223F then natVal (Tab.at b.tap.tapState (32 * (idx - 0x21FF) + sub - 1) 1)
  else none

/-! ### Front-end and contactors (R135) -/

/-- Objects 2010 to 2014 that are read-only. -/
def State.readFrontEnd (b : State) (idx sub : Nat) : Option ObjVal :=
  let f := b.fe
  match idx, sub with
  | 0x2010, 1 => intVal f.main
  | 0x2010, 2 => intVal f.hall
  | 0x2010, 3 => intVal f.offset
  | 0x2010, 4 => cycVal f.zeroCycle
  | 0x2010, 5 => intVal f.zeroTemp
  | 0x2010, 7 => intVal f.crossDev
  | 0x2011, 1 => intVal f.vStr
  | 0x2011, 2 => intVal f.vLink
  | 0x2011, 3 => intVal f.vStrP
  | 0x2011, 4 => intVal f.vStrN
  | 0x2011, 5 => intVal f.vLinkP
  | 0x2011, 6 => intVal f.vLinkN
  | 0x2011, 7 => intVal f.voltDev
  | 0x2012, 1 => natVal b.insulation
  | 0x2012, 2 => natVal f.isoSeq
  | 0x2012, 4 => natVal f.lastHalf
  | 0x2012, 5 => natVal f.leakCap
  | 0x2012, 6 => natVal f.faultPos
  | 0x2013, 5 => natVal (4 * f.kn.shown (b.ncWired 1) + f.kp.shown (b.ncWired 0))
  | 0x2013, 6 => natVal f.weldResult
  | 0x2013, 7 => natVal f.kp.closings
  | 0x2013, 8 => natVal f.kn.closings
  | 0x2013, 9 => natVal f.openAbove
  | 0x2014, 1 => natVal f.discrete.toNat
  | 0x2014, 2 => natVal f.status.toNat
  | _, _ => none

/-! ### Cell channel table and point table (R138, R168, R169) -/

/-- A value of the state part of cell k, by subindex: 20 to 29 offsets 64 to 103, 2A flags, 2B to 36 offsets 112 to 155. -/
def State.readCellState (b : State) (k sub : Nat) : Option ObjVal :=
  let c := b.cell k
  match sub with
  | 0x20 => intVal c.soc
  | 0x21 => intVal c.socC
  | 0x22 => intVal c.unc
  | 0x23 => natVal c.cap
  | 0x24 => natVal c.capUnc
  | 0x25 => intVal (divNear (c.rdc : Int) 100)
  | 0x26 => intVal (divNear (c.r1 : Int) 100)
  | 0x27 => intVal (divNear (c.tau1 : Int) 100)
  | 0x28 => intVal c.v1
  | 0x29 => natVal c.efc
  | 0x2A => natVal c.flags.toNat
  | 0x2B => natVal c.cls.code
  | 0x2C => natVal (c.lane.getD ((k - 1) % 8))
  | 0x2D => cycVal c.lastUpdate
  | 0x2E => intVal c.qLast
  | 0x2F => intVal c.lastV
  | 0x30 => cycVal (c.restStart.getD 0)
  | 0x31 => intVal (divNear c.bleedTotal 10000)
  | 0x32 => natVal c.target
  | 0x33 => natVal (unle (Config.manufacture (okey (0x2FFF + k) 0x33)) % 2 ^ 32)
  | 0x34 => natVal (k * 1024)
  | 0x35 => natVal c.insertions
  | 0x36 => natVal c.steps
  | 0x37 => intVal c.selfDis
  | 0x40 => intVal (toPct c.rep)
  | _ => none

/-- The bytes of a field of an entry, narrowed to `w` bytes. -/
def valBytes (w : Nat) (v : Option ObjVal) : Bytes :=
  match v with
  | some (.num n) => leI w n
  | some (.bytes x) => slice x 0 w
  | none => zeros w

/-- The configuration part of the entry of cell k: bytes 0 to 59 and their check. -/
def State.entryConfig (b : State) (k : Nat) : Bytes :=
  let c := b.cellCfg k
  let x := le 1 (c 1) ++ le 1 (c 2) ++ le 1 (c 3) ++ le 1 (c 4) ++ le 1 (c 5) ++ le 1 0 ++ le 2 (c 6) ++ le 2 (c 7) ++ le 2 (c 8) ++ le 4 (c 9)
    ++ le 4 (c 0x0A) ++ le 2 (c 0x0B) ++ le 2 (c 0x0C) ++ slice (b.octets (0x2FFF + k) 0x0D) 0 8 ++ zeros 28
  x ++ crcBytes x

/-- The state part: bytes 64 to 251 and their check. -/
def State.entryState (b : State) (k : Nat) : Bytes :=
  let f := b.readCellState k
  let x := ((upFrom 0x20 10).flatMap fun n => valBytes 4 (f n)) ++ valBytes 4 (f 0x37) ++ valBytes 4 (f 0x2A) ++ valBytes 1 (f 0x2B)
    ++ valBytes 1 (f 0x2C) ++ zeros 2 ++ valBytes 4 (f 0x2D) ++ valBytes 8 (f 0x2E) ++ ((upFrom 0x2F 6).flatMap fun n => valBytes 4 (f n))
    ++ valBytes 2 (f 0x35) ++ valBytes 2 (f 0x36) ++ slice (Config.workingState (b.cell k)) 0 96
  x ++ crcBytes x

/-- Objects 3000 to 3BFF that are read-only, and the point configuration with its defaults (R143). -/
def State.readTables (b : State) (idx sub : Nat) : Option ObjVal :=
  if idx ≤ 0x31FF then
    if sub = 0x42 then octVal (b.entryConfig (idx - 0x2FFF) ++ b.entryState (idx - 0x2FFF)) else b.readCellState (idx - 0x2FFF) sub
  else
    let p := b.point (idx - 0x3400)
    match sub with
    | 0x20 => intVal p.raw
    | 0x21 => intVal p.filtered
    | 0x22 => cycVal p.updated
    | 0x23 => intVal p.min
    | 0x24 => intVal p.max
    | 0x25 => natVal p.quality.code
    | 0x26 => natVal p.implausible
    | _ => intVal (b.pointCfg (idx - 0x3400) sub)

/-- Objects 1F00, 4700 to 4704 and 9880 that are read-only (R170, R171). -/
def State.readPlacement (b : State) (idx sub : Nat) : Option ObjVal :=
  let c := b.cruiser
  let on := fun (l : Nat) => b.allCells.filter fun k => (b.cell k).lane = some l
  match idx, sub with
  | 0x1F00, 2 => natVal b.dict.epoch
  | 0x1F00, 4 => natVal (b.dict.owner.getD 0xFFFF)
  | 0x1F00, 5 => natVal b.dict.staged.length
  | 0x1F00, 6 => cycVal b.dict.epochCycle
  | 0x4700, 1 => natVal 168
  | 0x4700, 2 => natVal c.fCells
  | 0x4700, 3 => natVal c.fDeferred
  | 0x4700, 9 => natVal c.moves
  | 0x4701, _ => natVal (Tab.at c.lanes (sub - 1) .active).code
  | 0x4702, _ => natVal (on (sub - 1)).length
  | 0x4703, _ => natVal ((on (sub - 1)).filter fun k => (b.cell k).cls = .f).length
  | 0x4704, _ => natVal (Tab.nat c.missedF (sub - 1))
  | 0x9880, 1 => natVal c.lifeUsed
  | 0x9880, 2 => natVal c.spare
  | 0x9880, 3 => natVal c.spread
  | 0x9880, 4 => natVal c.bytesWritten
  | _, _ => none

/-! ### Estimation, impedance, health, balancing (R206, R233, R234, R252) -/

/-- Mean reported SoC and similar values of 4001, 4002, 4010. -/
def State.readEstimation (b : State) (idx sub : Nat) : Option ObjVal :=
  let x := b.scaler
  if 0x4010 ≤ idx && idx ≤ 0x4017 then
    let t := b.chem (idx - 0x4010)
    match sub with
    | 2 => natVal (2 * b2n (!t.isEmpty) + b2n (Tab.find b.dict.staged (okey idx 1)).isSome)
    | 3 => natVal (if t.isEmpty then 0 else (crc32c (t.take 2176)).toNat)
    | 4 => natVal (chemFull t)
    | 5 => natVal (chemEmpty t)
    | 6 => natVal (chemCode t)
    | _ => none
  else
    match idx, sub with
    | 0x4001, 1 => intVal (toPct x.usable)
    | 0x4001, 2 => intVal (toPct x.target)
    | 0x4001, 3 => natVal x.qeMin
    | 0x4001, 4 => natVal x.qfMin
    | 0x4001, 5 => natVal x.weakest
    | 0x4001, 6 => natVal x.strongest
    | 0x4001, 7 => intVal x.q
    | 0x4001, 8 => natVal x.lastEnd
    | 0x4001, 9 => cycVal x.lastEndCycle
    | 0x4001, 10 => natVal (x.chgRun / 1000)
    | 0x4001, 11 => natVal (x.disRun / 1000)
    | 0x4001, 12 => intVal (toPct x.meanSoc)
    | 0x4002, _ => natVal (Tab.nat x.counts sub)
    | _, _ => none

/-- The entry bytes of a learned impedance table (R222); an entry not changed since the reset has the age `days` (R223). -/
def impEntryBytes (days : Nat) (t : Tab ImpEntry) : Bytes :=
  (upFrom 0 672).flatMap fun n =>
    let e := Tab.at t n { age := days }
    leI 3 e.re ++ leI 3 e.im ++ le 1 e.weight ++ le 1 e.age

/-- The learned impedance table of cell k, 5,632 bytes (R222). -/
def State.impTableBytes (b : State) (k : Nat) : Bytes :=
  let c := b.cell k
  let h := c.impHead
  let e := impEntryBytes h.days c.impTable
  let x := le 1 1 ++ le 1 h.slot ++ le 2 k ++ le 8 h.serial ++ le 1 h.tones.toNat ++ zeros 3 ++ le 4 h.updated.toNat ++ le 4 h.reset.toNat
    ++ le 2 (c.impTable.filter fun n => n.2.weight != 0).length ++ zeros 222 ++ crcBytes e
  x ++ crcBytes x ++ e

/-- Objects 4801 to 4DFF that are read-only. -/
def State.readHealth (b : State) (idx sub : Nat) : Option ObjVal :=
  let x := b.borer
  if 0x4C00 ≤ idx && idx ≤ 0x4DFF then
    let c := b.cell (idx - 0x4BFF)
    match sub with
    | 1 => octVal (b.impTableBytes (idx - 0x4BFF))
    | 2 => natVal c.capRet
    | 3 => natVal c.rGrowth
    | 4 => natVal c.rOutlier
    | 5 => natVal c.health.toNat
    | 6 => natVal c.suspicion.code
    | 7 => intVal c.lastRate
    | _ => none
  else
    match idx, sub with
    | 0x4801, 1 => natVal x.state.code
    | 0x4801, 2 => cycVal x.start
    | 0x4801, 3 => natVal x.completed
    | 0x4801, 4 => natVal x.discarded
    | 0x4801, 5 => natVal x.cause
    | 0x4801, 6 => octVal ((upFrom 0 8).flatMap fun i => le 2 (x.amps.getD i 0))
    | 0x4801, 7 => natVal x.stepObs
    | 0x4802, 3 => natVal (b.allCells.filter fun k => (b.cell k).suspicion = .watch).length
    | 0x4802, 4 => natVal (b.allCells.filter fun k => (b.cell k).flag cfShort).length
    | 0x4802, 6 => cycVal x.restEval
    | 0x4803, 1 => natVal x.lowRet
    | 0x4803, 2 => natVal x.medGrowth
    | 0x4803, 3 => natVal x.highGrowth
    | 0x4803, 4 => natVal (b.allCells.filter fun k => (b.cell k).flag cfHealth).length
    | _, _ => none

/-- Objects 5000 to 527F that are read-only. -/
def State.readBalancing (b : State) (idx sub : Nat) : Option ObjVal :=
  if idx = 0x5000 then
    match sub with
    | 8 => natVal (b.allCells.filter fun k => (b.cell k).target != 0).length
    | 9 => natVal (add32 0 (sumN (b.allCells.map fun k => (b.cell k).target)))
    | 0x0D => cycVal b.thin.lastRound
    | 0x0E => natVal b.thin.power
    | _ => none
  else if idx ≤ 0x507F then
    let h := b.thinHead (idx - 0x503F)
    match sub with
    | 1 => boolVal h.continuous
    | 2 => natVal h.budget
    | 3 => natVal h.map.toNat
    | 4 => natVal h.state
    | 5 => natVal h.refused
    | _ => none
  else
    let c := b.cell (idx - 0x507F)
    match sub with
    | 1 => natVal c.swResult
    | 2 => intVal c.swDrop
    | 3 => cycVal c.swLast
    | _ => none

/-! ### Protection (R255, R279) -/

/-- Objects 5800 to 5810. -/
def State.readProtection (b : State) (idx sub : Nat) : Option ObjVal :=
  let f := b.fb
  match idx, sub with
  | 0x5805, 1 => natVal f.envState
  | 0x5805, 2 => octVal (le 32 f.digest.toNat)
  | 0x5805, 3 => natVal f.envSeq
  | 0x5805, 4 => cycVal f.envCycle
  | 0x5805, 5 => boolVal (f.envMatch || !b.inPair)
  | 0x5810, 1 => natVal f.causes.toNat
  | 0x5810, 2 => natVal f.lastCause.toNat
  | 0x5810, 3 => cycVal f.lastTrip
  | 0x5810, 4 => natVal f.dir.code
  | 0x5810, 5 => natVal (min (f.accChg / 20000000000) 0xFFFFFFFF)
  | 0x5810, 6 => natVal (min (f.accDis / 20000000000) 0xFFFFFFFF)
  | 0x5810, 7 => natVal f.breakCur
  | 0x5810, 8 => natVal f.toRelease
  | 0x5810, 9 => natVal f.mismatches
  | 0x5810, 10 => natVal f.late
  | 0x5810, 11 => boolVal f.selfTestFailed
  | _, _ => if idx ≤ 0x5804 then intVal (b.env idx sub) else none

/-! ### Sawyer, dispatch, profile, traces (R311-R313) -/

/-- The capture of a trace buffer: 8 channels of 2,048 samples, channel by channel, oldest first. -/
def Trace.capture (t : Trace) : Bytes :=
  let l := t.samples.reverse
  (upFrom 0 8).flatMap fun ch => padTo 8192 (l.flatMap fun x => leI 4 (x.getD ch 0))

/-- The default curves as tables (R291). -/
def State.curveBytes (b : State) (idx sub : Nat) : Bytes :=
  if idx = 0x6020 then (b.socCurve (sub - 1)).flatMap fun v => leI 2 v
  else padTo 64 ((b.tempCurve (sub - 1)).flatMap fun e => leI 2 e.1 ++ leI 2 e.2)

/-- Objects 6001 to 6403 that are read-only, with the requests of the lease holder and the curves. -/
def State.readSawyer (b : State) (idx sub : Nat) : Option ObjVal :=
  let w := b.sawyer
  if idx = 0x6001 then
    if 0x10 ≤ sub && sub ≤ 0x18 then intVal (Tab.at w.candChg (sub - 0x10) absent)
    else if 0x20 ≤ sub && sub ≤ 0x28 then intVal (Tab.at w.candDis (sub - 0x20) absent)
    else match sub with
      | 1 => intVal w.lChg
      | 2 => intVal w.lDis
      | 3 => natVal w.winChg
      | 4 => natVal w.winDis
      | 0x30 => intVal w.marChg
      | _ => intVal w.marDis
  else if 0x6010 ≤ idx && idx ≤ 0x601F then
    let x := b.slot (idx - 0x6010)
    match sub with
    | 0x20 => intVal x.e
    | 0x21 => intVal x.u
    | 0x22 => intVal (intPart x.integ)
    | 0x23 => intVal x.yApp
    | 0x24 => natVal x.sats
    | 0x11 => if idx ≤ 0x6011 then intVal (b.slotCfg (idx - 0x6010) 0x11) else none
    | _ => none
  else if idx = 0x6020 || idx = 0x6021 then octVal (b.curveBytes idx sub)
  else if 0x6400 ≤ idx && idx ≤ 0x6403 then
    let t := b.trace (idx - 0x6400)
    match sub with
    | 0x0D => natVal t.state
    | 0x0E => octVal t.capture
    | 0x0F => natVal t.missed
    | 0x10 => octVal (le 4 t.first.toNat ++ le 4 t.trigger.toNat ++ le 2 (max 1 (b.cfg idx 9)) ++ le 1 8 ++ le 1 t.state ++ le 4 t.seq)
    | _ => none
  else
    match idx, sub with
    | 0x6030, 2 => intVal w.lChg
    | 0x6031, 2 => intVal w.lDis
    | 0x6030, 3 => natVal w.winChg
    | 0x6031, 3 => natVal w.winDis
    | 0x6032, 2 => intVal (Tab.int w.groupOut 2)
    | 0x6033, 2 => intVal (Tab.int w.groupOut 3)
    | 0x6032, 3 => natVal (Tab.nat w.groupWin 2)
    | 0x6033, 3 => natVal (Tab.nat w.groupWin 3)
    | 0x6100, 2 => natVal w.mode
    | 0x6100, 3 => intVal w.reqI
    | 0x6100, 4 => intVal w.reqP
    | 0x6100, 5 => intVal w.target
    | 0x6100, 6 => intVal w.x
    | 0x6108, 4 => octVal (le 8 w.holder)
    | 0x6108, 6 => natVal w.lease
    | 0x6108, 8 => natVal w.leaseEnds
    | 0x6200, 4 => natVal (averageLength (b.cfg 0x6200 2) (b.cfg 0x6200 3))
    | 0x6200, 5 => intVal w.rate
    | 0x6200, 6 => intVal w.acc
    | 0x6200, 7 => intVal w.xi
    | 0x6300, 1 => natVal w.sent
    | 0x6300, 3 => natVal w.unsent
    | 0x6300, 4 => octVal (padTo 64 w.frame.data)
    | _, _ => none

/-! ### Canopy and Winch (R340, R341) -/

/-- Objects 6800 to 68B0 that are read-only. -/
def State.readThermal (b : State) (idx sub : Nat) : Option ObjVal :=
  let c := b.canopy
  if idx = 0x6800 then
    match sub with
    | 2 => boolVal c.heat
    | 7 => intVal c.hottest
    | 8 => intVal c.coldest
    | 9 => intVal c.mean
    | 10 => intVal c.spread
    | 11 => natVal c.good
    | _ => none
  else if 0x6810 ≤ idx && idx ≤ 0x682F then
    match sub with
    | 9 => natVal (b.thr (idx - 0x6810)).state.code
    | 10 => natVal (b.thr (idx - 0x6810)).activations
    | _ => none
  else if 0x6840 ≤ idx && idx ≤ 0x6845 then if sub = 4 then natVal (b.pinDuty (idx - 0x6840)) else none
  else if 0x6870 ≤ idx && idx ≤ 0x6873 then
    let a := b.axis (idx - 0x686F)
    match sub with
    | 1 => natVal a.state.code
    | 2 => intVal a.pos
    | 3 => intVal a.target
    | 4 => intVal a.vel
    | 5 => intVal (b.encoderPos (idx - 0x686F))
    | 6 => boolVal a.fallBack
    | 8 => intVal a.chopOffset
    | 9 => natVal a.switches.toNat
    | 10 => natVal a.losses
    | _ => none
  else if 0x6880 ≤ idx && idx ≤ 0x6883 then if sub = 8 then natVal (b.axis (idx - 0x687F)).homeResult else none
  else if 0x6890 ≤ idx && idx ≤ 0x6893 then if sub = 7 then intVal (b.axis (idx - 0x688F)).lag else none
  else if idx = 0x68B0 then
    match sub with
    | 2 => natVal b.discState
    | 4 => natVal (b.axis 3).operations
    | _ => none
  else none

/-! ### Host links (R378, R379) -/

/-- The relation record: published cycle, time of its t0, phase error, aligned flag, clock state, as 7110.01 to .04 and 7100.02 stand together. -/
def Clock.relationBytes (c : Clock) : Bytes :=
  le 4 c.pubCycle.toNat ++ timeBytes c.pubTime.1 c.pubTime.2 false ++ leI 4 c.relation.2 ++ le 1 (b2n c.aligned) ++ le 1 c.relation.1

/-- Objects of the clock, the pulse outputs and the Ethernet ports. -/
def State.readClock (b : State) (idx sub : Nat) : Option ObjVal :=
  let c := b.clock
  match idx, sub with
  | 0x7001, 1 => octVal (slice (Config.manufacture (okey 0x7001 1)) 0 6)
  | 0x7002, 1 => octVal (slice (Config.manufacture (okey 0x7002 1)) 0 6)
  | 0x7001, 5 => natVal (if b.links.ethA.fenced then 3 else b.links.ethA.link)
  | 0x7002, 5 => natVal (if b.links.ethB.fenced then 3 else b.links.ethB.link)
  | 0x7001, 0x0B => natVal b.links.ethA.discarded
  | 0x7002, 0x0B => natVal b.links.ethB.discarded
  | 0x7010, 3 => natVal (Tab.nat b.links.prpCounts 3)
  | 0x7010, 4 => natVal (Tab.nat b.links.prpCounts 4)
  | 0x7010, 5 => natVal (Tab.nat b.links.prpCounts 5)
  | 0x7100, 2 => natVal c.state.code
  | 0x7100, 3 => octVal (timeBytes c.sec c.ns false)
  | 0x7100, 4 => intVal c.offset
  | 0x7100, 5 => intVal c.rate
  | 0x7100, 0x0C => natVal c.steps
  | 0x7100, 0x0D => natVal c.port
  | 0x7110, 1 => cycVal c.pubCycle
  | 0x7110, 2 => octVal (timeBytes c.pubTime.1 c.pubTime.2 false)
  | 0x7110, 3 => intVal c.phase
  | 0x7110, 4 => boolVal c.aligned
  | 0x7110, 5 => octVal c.relationBytes
  | 0x7120, 2 => natVal c.q26.length
  | 0x7120, 3 => boolVal c.overflow
  | 0x7120, 4 => natVal c.occurrences
  | 0x7120, 5 => natVal c.discarded
  | _, _ =>
    if 0x7130 ≤ idx && idx ≤ 0x7133 && sub = 7 then natVal (Tab.at b.links.pulses (idx - 0x7130) {}).late else none

/-- Objects of the CAN controllers and their message objects; what objects 0 to 7 are fixed at shows here (R365). -/
def State.readCan (b : State) (idx sub : Nat) : Option ObjVal :=
  if idx ≤ 0x7201 then
    let c := b.can (idx - 0x7200)
    match sub with
    | 6 => natVal c.err.code
    | 7 => natVal c.txErr
    | 8 => natVal c.rxErr
    | 0x0B => natVal c.ackErrs
    | 0x0C => boolVal c.noAck
    | 0x0D => natVal c.busOffs
    | _ => none
  else
    let n := (idx - 0x7210) / 0x80
    let o := (idx - 0x7210) % 0x80
    match sub with
    | 0x0A => natVal (Tab.nat (b.can n).moved o)
    | 0x0B => natVal (Tab.nat (b.can n).lost o)
    | 1 => if o < 8 then natVal (b.canDir n o) else none
    | 2 => if o < 8 then natVal (b.canId n o) else none
    | _ => none

/-! ### Dictionary, sessions, security (R408, R435) -/

/-- The weight of a session (R405). -/
def Session.weight (c : Session) : Nat :=
  if c.state = .free then 0
  else if c.has 2 || c.has 5 || c.has 6 then 4 else if c.has 4 || c.has 3 || c.has 1 then 2 else 1

/-- 1100 + s. -/
def State.readSession (b : State) (n sub : Nat) : Option ObjVal :=
  let c := b.session n
  match sub with
  | 1 => natVal c.state.code
  | 2 => natVal c.transport
  | 3 => natVal c.roles.toNat
  | 4 => octVal (le 8 c.identity)
  | 5 => natVal c.weight
  | 6 => natVal c.deficit
  | 7 => natVal c.bytes
  | 8 => natVal c.served
  | 9 => natVal c.refused
  | 10 => natVal c.subs.length
  | 11 => natVal (if c.state = .dormant then b.cfg 0x1010 5 - b.dormantAge n / 1000 else 0)
  | 13 => natVal c.overruns
  | 14 => natVal c.misses
  | _ => none

/-- Contexts in use among sessions `lo` to `lo + n − 1`. -/
def State.inUse (b : State) (lo n : Nat) : Nat :=
  (b.dict.sessions.filter fun e => lo ≤ e.1 && e.1 < lo + n && e.2.state != .free).length

/-- The bytes of a text without padding. -/
def textBytes (t : String) : Bytes := t.toList.flatMap utf8Char

/-- Objects 1000 to 1FFF that are read-only, as session `sess` reads them. -/
def State.readService (b : State) (sess idx sub : Nat) : Option ObjVal :=
  let d := b.dict
  if 0x1100 ≤ idx && idx ≤ 0x11FF then b.readSession (idx - 0x1100) sub
  else
    match idx, sub with
    | 0x1000, 1 => octVal (textBytes "Hjeltinan")
    | 0x1000, 2 => octVal (textBytes "Bolant ZS-512")
    | 0x1000, 3 => octVal (Config.manufacture (okey 0x1000 3))
    | 0x1000, 4 => natVal b.sec.serial
    | 0x1000, 5 => natVal (unle (Config.manufacture (okey 0x1000 5)) % 2 ^ 16)
    | 0x1000, 6 => natVal b.links.strap
    | 0x1000, 7 => natVal 1
    | 0x1001, 1 => natVal b.core.opState.code
    | 0x1001, 2 => cycVal b.core.stateEntered
    | 0x1001, 3 => cycVal b.core.cycle
    | 0x1010, 1 => natVal (d.sessions.filter fun e => e.2.state = .isOpen).length
    | 0x1010, 2 => natVal (b.inUse 0 128)
    | 0x1010, 3 => natVal (b.inUse 128 64)
    | 0x1010, 4 => natVal (b.inUse 192 64)
    | 0x1010, 7 => natVal d.load
    | 0x1010, 8 => natVal d.refused
    | 0x1010, 9 => natVal d.longest
    | 0x1020, 1 => natVal sess
    | 0x1020, 2 => natVal (b.session sess).roles.toNat
    | 0x1020, 3 => octVal (le 8 (b.session sess).identity)
    | _, _ => none

/-- Objects 7800 to 7880 that are not plain values, as session `sess` reads them. -/
def State.readSecurity (b : State) (sess idx sub : Nat) : Option ObjVal :=
  let x := b.sec
  if 0x7802 ≤ idx && idx ≤ 0x7805 then
    if sub = 1 then octVal (Tab.at x.anchors (idx - 0x7801) []) else natVal (Tab.at x.masks (idx - 0x7801) 0).toNat
  else if 0x7810 ≤ idx && idx ≤ 0x784F then
    let c := b.channel (idx - 0x7810)
    match sub with
    | 5 => natVal c.txFv
    | 6 => natVal c.rxFv
    | 7 => natVal c.tagFails
    | 8 => natVal c.stale
    | _ => none
  else
    let own := b.fastOf sess
    match idx, sub with
    | 0x7800, 1 => natVal (if x.adopted then 1 else if 0 < b.waitLeft then 2 else 0)
    | 0x7800, 2 => octVal (Config.manufacture (okey 0x7800 2))
    | 0x7800, 3 => octVal (Config.manufacture (okey 0x7800 3))
    | 0x7800, 4 => octVal (le 16 x.stringId)
    | 0x7800, 5 => natVal x.failures
    | 0x7800, 6 => natVal b.waitLeft
    | 0x7806, 1 => octVal (x.verifyKey.getD [])
    | 0x7808, 2 => natVal x.denied
    | 0x7850, 2 => natVal x.installResult.toNat
    | 0x7860, 2 => natVal (match own with
        | some j => ((b.fast j).epoch.getD 0) * 256 + j
        | none => 0xFFFF)
    | 0x7860, 3 => natVal (own.elim 0 fun j => (b.fast j).rx)
    | 0x7860, 4 => natVal (own.elim 0 fun j => (b.fast j).tx)
    | 0x7860, 5 => natVal x.datagramsDiscarded
    | 0x7870, 2 => octVal x.snapshot
    | 0x7871, 2 => octVal x.attestation
    | 0x7880, 1 => natVal x.hsFailed
    | 0x7880, 2 => natVal x.skipped
    | _, _ => none

/-! ### Pair, Ranger, Tally (R465, R485, R496, R497) -/

/-- Objects 8000 to 8050 that are read-only. -/
def State.readPair (b : State) (idx sub : Nat) : Option ObjVal :=
  let p := b.pair
  match idx, sub with
  | 0x8000, 1 => natVal p.role.code
  | 0x8000, 2 => natVal (senseCode p.sense)
  | 0x8000, 3 => natVal p.tether
  | 0x8000, 4 => natVal p.missed
  | 0x8000, 5 => natVal p.ready.toNat
  | 0x8000, 6 => cycVal p.image
  | 0x8000, 7 => natVal p.buffered
  | 0x8000, 8 => natVal p.changes
  | 0x8000, 9 => cycVal p.lastChange
  | 0x8000, 10 => natVal p.catches
  | 0x8000, 11 => natVal p.discarded
  | 0x8010, 2 => natVal ((p.swapFrom + b.cfg 0x8010 1 * 86400000 - b.power.opTime) / 1000)
  | 0x8020, 2 => cycVal p.h
  | 0x8020, 3 => natVal p.phase
  | 0x8020, 4 => natVal p.abort
  | 0x8030, 1 => natVal p.claim
  | 0x8030, 2 => cycVal p.round
  | 0x8040, 1 => octVal b.statelessRecord
  | 0x8040, 2 => octVal (slice b.sawyer.frame.data 0 56)
  | 0x8050, 2 => natVal p.join
  | _, _ => none

/-- An entry of 8800.03. -/
def State.faultEntry (b : State) (a : ActiveFault) : Bytes :=
  let left := if a.acked || a.graceOver then 0 else b.grace a.msg.kind - b.since a.graceFrom
  le 8 (messageWord a.msg) ++ le 4 a.raised.toNat ++ le 1 a.count ++ le 1 (b2n a.acked + 2 * b2n a.escalated) ++ le 2 left

/-- Bit of a fenced unit in 8803.01. -/
def fencedBit (e : Nat × Nat) : Nat :=
  match e.1 with
  | 0 => e.2
  | 1 => 8 + e.2
  | 2 => 10 + e.2
  | 3 => 12 + e.2
  | _ => 13 + e.2

/-- A captured message as 8801 shows it. -/
def Capture.word (c : Capture) : Nat :=
  match c.msg with
  | some m => messageWord m
  | none => 0

/-- Sequence of the first record of an area. -/
def firstSeq (l : List TallyUnit) : Nat := ((l.flatMap fun u => u.recs).head?.elim 0 fun r => r.seq)

/-- Sequence of the last record of an area. -/
def lastSeq (l : List TallyUnit) : Nat := ((l.flatMap fun u => u.recs).getLast?.elim 0 fun r => r.seq)

/-- Objects 8800 to 8A00 that are read-only. -/
def State.readRanger (b : State) (idx sub : Nat) : Option ObjVal :=
  let r := b.ranger
  let t := b.tally
  if 0x8900 ≤ idx && idx ≤ 0x89FF then
    let k := idx - 0x8900
    match sub with
    | 1 => octVal (textBytes (kindRow k).2)
    | 2 => natVal (kindRow k).1
    | 3 => natVal (b.ceiling k (if (kindRow k).1 = 0xFF then 0 else (kindRow k).1))
    | 5 => natVal (Tab.nat r.timesRaised k)
    | 6 => natVal (r.active.filter fun a => a.msg.kind = k).length
    | _ => none
  else
    match idx, sub with
    | 0x8800, 1 => natVal r.active.length
    | 0x8800, 2 => natVal b.highest
    | 0x8800, 3 => octVal (r.active.flatMap b.faultEntry)
    | 0x8800, 4 => natVal r.received
    | 0x8800, 5 => natVal r.noRoom
    | 0x8800, 6 => natVal r.escalations
    | 0x8800, 7 => natVal r.replacements
    | 0x8801, 1 => natVal r.firstFault.word
    | 0x8801, 2 => cycVal r.firstFault.cycle
    | 0x8801, 5 => natVal r.firstTrip.word
    | 0x8801, 6 => cycVal r.firstTrip.cycle
    | 0x8802, 1 => boolVal r.whistle
    | 0x8802, 3 => natVal r.wdExpiries
    | 0x8803, 1 => natVal ((r.fenced.map fun e => 2 ^ fencedBit e).foldl (· ||| ·) 0)
    | 0x8A00, 1 => natVal ((t.seq + 2 ^ 32 - 1) % 2 ^ 32)
    | 0x8A00, 2 => natVal (firstSeq t.circ)
    | 0x8A00, 3 => natVal ((t.keep.map fun u => u.used).foldl (· + ·) 0)
    | 0x8A00, 4 => natVal (firstSeq t.keep)
    | 0x8A00, 5 => natVal (lastSeq t.keep)
    | 0x8A00, 7 => natVal (Tab.nat t.counts 7)
    | 0x8A00, 8 => natVal b.power.powerCycles
    | 0x8A00, 9 => natVal (b.power.opTime % 2 ^ 48)
    | 0x8A00, 10 => natVal t.q25.length
    | _, _ => none

/-- Objects A010 to A016 that are read-only. -/
def State.readInject (b : State) (link sub : Nat) : Option ObjVal :=
  match sub with
  | 0x0C => natVal (b.injector link).state
  | 0x0D => natVal (b.injector link).affected
  | 0x0E => natVal (b.injector link).eligible
  | _ => none

/-! ### Power, Lookout, storage, update, slot (R527, R555, R577) -/

/-- Objects 9000 to 9060 that are read-only, and the rule table with its default. -/
def State.readPower (b : State) (idx sub : Nat) : Option ObjVal :=
  let p := b.power
  match idx, sub with
  | 0x9000, 1 => natVal p.aux1
  | 0x9000, 2 => natVal p.aux2
  | 0x9000, 3 => natVal p.bus
  | 0x9000, 4 => natVal p.source
  | 0x9000, 5 => natVal p.vHvb
  | 0x9000, 6 => boolVal p.backupAvail
  | 0x9000, 7 => natVal p.holdUp
  | 0x9000, 8 => natVal p.falls
  | 0x9000, 9 => natVal p.changeovers
  | 0x9000, 10 => natVal p.input
  | 0x9001, 1 => natVal p.domains.toNat
  | 0x9001, 2 => natVal p.faulted.toNat
  | 0x9010, 2 => natVal p.restartCause
  | 0x9020, 7 => natVal p.zones.toNat
  | 0x9020, 8 => natVal (((upFrom 1 6).map fun n => b2n (b.sensor n).broken * 2 ^ (n - 1)).foldl (· + ·) 0)
  | 0x9020, 9 => boolVal p.thermalLatch
  | 0x9020, 10 => natVal p.throttles
  | 0x9020, n => intVal (b.sensor n).temp
  | 0x9030, 1 => natVal p.clockFaults.toNat
  | 0x9030, 2 => natVal p.rc
  | 0x9040, 1 => octVal b.ruleTable
  | 0x9040, 2 => natVal b.ruleCheck
  | 0x9040, 3 => natVal b.lookout.fired.toNat
  | 0x9050, 7 => natVal b.lookout.wakeCause
  | 0x9050, 8 => octVal (timeBytes b.lookout.entered.1 b.lookout.entered.2 false)
  | 0x9050, 9 => octVal (timeBytes (b.clock.sec - (b.opSeconds - b.lookout.restStart)) 0 false)
  | 0x9050, 10 => natVal b.lookout.largest
  | 0x9060, 1 => natVal b.seat.state
  | 0x9060, 2 => natVal b.seat.insertions
  | 0x9060, 3 => natVal b.seat.withdrawals
  | 0x9060, 4 => natVal b.seat.conflicts
  | _, _ => none

/-- Hours of the confirmation period that remain (9830.07). -/
def State.confirmLeft (b : State) : Nat :=
  match b.update.confirmFrom with
  | none => 0
  | some t => (t + b.cfg 0x9830 6 * 3600000 - b.power.opTime + 3599999) / 3600000

/-- Objects 9800 to 9830 that are read-only. -/
def State.readStorage (b : State) (idx sub : Nat) : Option ObjVal :=
  let x := b.storage
  let u := b.update
  match idx, sub with
  | 0x9800, 1 => natVal x.state
  | 0x9800, 2 => natVal x.retired
  | 0x9800, 3 => cycVal x.lastCp
  | 0x9800, 4 => natVal x.seq
  | 0x9800, 5 => natVal x.logWaits
  | 0x9800, 6 => natVal x.log.length
  | 0x9800, 7 => natVal x.interrupted
  | 0x9800, 8 => natVal x.unknown
  | 0x9810, t => natVal (Tab.at u.running t (0, 0)).1
  | 0x9811, t => natVal (Tab.at u.running t (0, 0)).2
  | 0x9812, t => natVal (b.bankOf t)
  | 0x9813, t => natVal (if Tab.flag x.bankBad b.idleBank then 0 else (b.bankImage b.idleBank t).version)
  | 0x9820, 4 => natVal u.staging
  | 0x9820, 5 => natVal u.received
  | 0x9820, 6 => natVal u.result.toNat
  | 0x9830, 1 => natVal u.g
  | 0x9830, 3 => natVal u.step
  | 0x9830, 4 => cycVal u.since
  | 0x9830, 5 => cycVal u.hc
  | 0x9830, 7 => natVal b.confirmLeft
  | 0x9830, 8 => natVal u.last.toNat
  | 0x9830, 9 => natVal u.restarts
  | 0x9830, 10 => natVal u.skipped
  | _, _ => none

/-! ### Every object -/

/-- Length of an OCTETS, TABLE or TIME object whose default is all zeros. -/
def fixedLength (idx sub : Nat) : Nat :=
  if 0x3000 ≤ idx && idx ≤ 0x31FF && sub = 0x0D then 8
  else if 0x6400 ≤ idx && idx ≤ 0x6403 && sub = 0x0A then 8
  else if 0x6890 ≤ idx && idx ≤ 0x6893 && sub = 5 then 96
  else if 0x68A0 ≤ idx && idx ≤ 0x68A3 && sub = 1 then 1024
  else if 0x7130 ≤ idx && idx ≤ 0x7133 && sub = 2 then 10
  else if 0x7810 ≤ idx && idx ≤ 0x784F && sub = 3 then 8
  else 0

/-- An object that is kept as written, with its default. -/
def State.readPlain (b : State) (idx sub : Nat) : ObjVal :=
  match b.val idx sub with
  | .bytes [] => .bytes (if 0xA010 ≤ idx && idx ≤ 0xA016 && sub = 8 then [1] else zeros (fixedLength idx sub))
  | v => v

/-- What the object tables of the chapters show for an object, none where it reads as written. -/
def State.readShown (b : State) (sess idx sub : Nat) : Option ObjVal :=
  if idx < 0x1F00 then b.readService sess idx sub
  else if idx < 0x2000 then b.readPlacement idx sub
  else if idx < 0x2100 then b.readFrontEnd idx sub
  else if idx < 0x3000 then b.readRing idx sub
  else if idx < 0x3C00 then b.readTables idx sub
  else if idx < 0x4700 then b.readEstimation idx sub
  else if idx < 0x4800 then b.readPlacement idx sub
  else if idx < 0x5000 then b.readHealth idx sub
  else if idx < 0x5800 then b.readBalancing idx sub
  else if idx < 0x6000 then b.readProtection idx sub
  else if idx < 0x6800 then b.readSawyer idx sub
  else if idx < 0x7000 then b.readThermal idx sub
  else if idx < 0x7200 then b.readClock idx sub
  else if idx < 0x7800 then b.readCan idx sub
  else if idx < 0x8000 then b.readSecurity sess idx sub
  else if idx < 0x8800 then b.readPair idx sub
  else if idx < 0x9000 then b.readRanger idx sub
  else if idx < 0x9800 then b.readPower idx sub
  else if idx < 0xA000 then (if idx = 0x9880 then b.readPlacement idx sub else b.readStorage idx sub)
  else b.readInject (idx - 0xA010) sub

/-- The staged copy of an object (R147): its staged value, else the active one. -/
def State.readStaged (b : State) (idx sub : Nat) : ObjVal :=
  match Tab.find b.dict.staged (okey idx sub) with
  | some v => v
  | none => (b.readShown 0xFFFF idx sub).getD (b.readPlain idx sub)

/-- The value of an object in a state, as session `sess` reads it. Subindex 0 holds the highest one; 80 and above of the tables' entries is the
staged copy (R147, R380). -/
def State.readVal (b : State) (sess idx sub : Nat) : ObjVal :=
  if sub = 0 then .num (highestSub idx)
  else if 0x3000 ≤ idx && idx ≤ 0x3BFF && 0x80 ≤ sub then b.readStaged idx (sub - 0x80)
  else match b.readShown sess idx sub with
    | some v => v
    | none => b.readPlain idx sub

/-- The state that reads and notifications show: the latest boundary's (R391). -/
def State.shown (s : State) : State := { s with toBody := s.boundary }

end Sys2Proof.Machine
end

