-- ==== Sys2Proof/Machine/Objects.lean ====
section
/-! DEFINITION. What a write to each object of the dictionary asks for and does: the conditions of its rule beyond access, role, type and range
(R389), and its effect once it is in force. -/

namespace Sys2Proof.Machine

open Sys2Proof

/-! ### Conditions -/

/-- Objects of ring, taps, front-end and staging (02 to 05). -/
def lowCondition (sess idx sub n : Nat) (s : State) : Nat :=
  match idx, sub with
  | 0x1F00, 1 => condCommit sess s
  | 0x2010, 6 => condAutoZero s
  | 0x2100, 7 => condReEnumerate s
  | 0x2103, 5 => condSenseLostClear n s
  | 0x2103, 6 => condOwRequest n s
  | 0x2103, 8 => condGateClear n s
  | _, _ => 0

/-- Objects of estimation, impedance and balancing (05 to 08). The tone mask contains the table tones, and the ohmic tone is one of them (R233;
DEDUCED that other values are out of range). -/
def cellCondition (idx sub n : Nat) (v : ObjVal) (s : State) : Nat :=
  let tones := s.cfg 0x4800 3
  if idx ≤ 0x31FF then (if sub = 0x41 then condCellCommand (idx - 0x3000 + 1) n s else 0)
  else if 0x4010 ≤ idx && idx ≤ 0x4017 then (if sub = 1 then condChemistry v.toBytes s else 0)
  else if 0x4C00 ≤ idx && idx ≤ 0x4DFF then (if sub = 8 then condImpedanceReset s else 0)
  else match idx, sub with
    | 0x4705, 1 => condLaneDrain s
    | 0x4800, 2 => if n &&& tones = tones then 0 else abRange
    | 0x4800, 8 => if tones.testBit (n - 1) then 0 else abRange
    | 0x4802, 5 => condSuspicionClear n s
    | 0x5000, 0x0B => condSwitchTest n s
    | 0x5000, 0x0F => condExclusionClear s
    | _, _ => 0

/-- A curve written whole (R291). -/
def condCurve (temp : Bool) (b : Bytes) : Nat :=
  if b.length != (if temp then 64 else 42) then abLength
  else if curveCheck temp b = 0 then 0 else abortArg abTable (curveCheck temp b)

/-- Objects of the Sawyer, the Canopy and the Winch (10, 11). Acceleration and jerk limits that give an average above 64 are refused (R301); heat off
lies above heat on (R340). -/
def controlCondition (idx sub n : Nat) (v : ObjVal) (s : State) : Nat :=
  if 0x6840 ≤ idx && idx ≤ 0x6845 then
    (if sub = 2 && !(if idx ≤ 0x6841 then 1 ≤ n && n ≤ 1000 else 10 ≤ n && n ≤ 25000) then abRange else 0)
  else if 0x6860 ≤ idx && idx ≤ 0x6863 then (if sub = 0x10 then condChopperRestore (idx - 0x685F) s else 0)
  else if 0x6870 ≤ idx && idx ≤ 0x6873 then (if sub = 7 then condManual (idx - 0x686F) v.toInt s else 0)
  else if 0x6880 ≤ idx && idx ≤ 0x6883 then (if sub = 7 then condHome (idx - 0x687F) s else 0)
  else match idx, sub with
    | 0x6020, _ => condCurve false v.toBytes
    | 0x6021, _ => condCurve true v.toBytes
    | 0x6200, 2 => if profileOk n (s.cfg 0x6200 3) then 0 else abortArg abTable 1
    | 0x6200, 3 => if profileOk (s.cfg 0x6200 2) n then 0 else abortArg abTable 1
    | 0x6800, 4 => if v.toInt < s.num 0x6800 5 then 0 else abRange
    | 0x6800, 5 => if s.num 0x6800 4 < v.toInt then 0 else abRange
    | 0x68B0, 1 => condDisc n s
    | _, _ => 0

/-- Objects of links and security (12, 14). -/
def linkCondition (sess idx sub : Nat) (v : ObjVal) (s : State) : Nat :=
  if 0x7130 ≤ idx && idx ≤ 0x7133 then condPulse (idx - 0x7130) sub v s
  else if 0x7802 ≤ idx && idx ≤ 0x7805 then condAnchor (idx - 0x7801) sub v s
  else if 0x7810 ≤ idx && idx ≤ 0x784F then (if sub = 1 then condChannelKey v else 0)
  else match idx, sub with
    | 0x7100, 3 => condLocalTime s
    | 0x7801, 1 => condAdoption v.toBytes s
    | 0x7801, 2 => condDeAdopt s
    | 0x7808, 1 => condDenial v
    | 0x7850, 1 => s.envCheck v.toBytes
    | 0x7850, 3 => condKeyChange v.toBytes s
    | 0x7860, 1 => condFast sess v s
    | 0x7870, 1 => condNonce s.sec.snapLast 1000 v s
    | 0x7871, 1 => condNonce s.sec.attLast 10000 v s
    | _, _ => 0

/-- A ceiling lies between the kind's own severity and LOCKOUT (R477); a kind whose severity is set per message has no lower bound. -/
def condCeiling (kind n : Nat) : Nat :=
  let own := (kindRow kind).1
  if (own ≤ n || own = 0xFF) && n ≤ 5 then 0 else abRange

/-- Objects of pair, faults, power, update and self-tests (15 to 18). -/
def systemCondition (sess idx sub n : Nat) (v : ObjVal) (s : State) : Nat :=
  if 0xA010 ≤ idx && idx ≤ 0xA016 then
    (if sub = 1 && n = 1 then condArm (idx - 0xA010) s
     else if sub = 8 && (v.toBytes.length = 0 || 64 < v.toBytes.length) then abLength else 0)
  else if 0x8900 ≤ idx && idx ≤ 0x89FF && sub = 3 then condCeiling (idx - 0x8900) n
  else match idx, sub with
    | 0x8020, 1 => if n = 1 then condHandOver s else condCancel s
    | 0x8030, _ => condRound n s
    | 0x8050, 1 => condPartnerCode v
    | 0x9010, 1 => condRestart s
    | 0x9040, 1 => condRuleTable v.toBytes
    | 0x9820, 1 => condChunk sess v s
    | 0x9820, 2 => if 33554432 < n then abRange else condStaging sess s
    | 0x9820, 3 => condDigest sess v s
    | 0x9830, 2 => condUpdate n s
    | _, _ => 0

/-- A PERS value that is kept as a long value: over 464 bytes and not staged (R386). -/
def longValue (d : ObjDesc) (v : ObjVal) : Bool := d.persist = 1 && !d.staged && 464 < (d.encode v).length

/-- A TIME has nanoseconds below 10^9, its two highest bits reserved (R381). -/
def condTime (b : Bytes) : Nat := if 2 ^ 30 ≤ fieldN b 6 4 then abReserved else if 1000000000 ≤ fieldN b 6 4 then abRange else 0

/-- What an object's own rule asks of a write that has passed the checks of `writeCheck` (R389). -/
def objectCondition (sess idx sub : Nat) (v : ObjVal) (s : State) : Nat :=
  let n := v.toInt.toNat
  match objDesc idx sub with
  | none => 0
  | some d =>
    if !d.numeric && fixedLength idx sub != 0 && v.toBytes.length != fixedLength idx sub then abLength
    else if d.ty = 0x0E && condTime v.toBytes != 0 then condTime v.toBytes
    else if longValue d v && !(0x7801 ≤ idx && idx ≤ 0x7805) && d.access != 2 && !s.storageOk then abStorage
    else if idx < 0x3000 then lowCondition sess idx sub n s
    else if idx < 0x6000 then cellCondition idx sub n v s
    else if idx < 0x7000 then controlCondition idx sub n v s
    else if idx < 0x8000 then linkCondition sess idx sub v s
    else systemCondition sess idx sub n v s

/-! ### Dispatch objects -/

/-- Objects whose writes are dispatch events (R300): mode and requests, claim, renewal, release, revocation. -/
def dispatchObject (idx sub : Nat) : Bool := (idx = 0x6100 && 2 ≤ sub && sub ≤ 4) || (idx = 0x6108 && (sub ≤ 3 || sub = 7))

/-- The event a write to such an object is; `to` is the session that is answered. -/
def dispatchEvent (sess dest req idx sub : Nat) (v : ObjVal) (eff : Cycle) (s : State) : DispatchEvent :=
  let kind := if idx = 0x6100 then 4 else match sub with
    | 1 => 2 | 2 => 3 | 3 => 1 | _ => 0
  { kind := kind, session := dest, req := req, identity := (s.session sess).identity, key := okey idx sub, value := v.toInt, effective := eff }

/-- Queue it, and tell the partner (R300, R444). -/
def sendDispatch (e : DispatchEvent) (s : State) : State :=
  replicate (.dispatch e.kind e.identity e.key e.value) e.effective (queueDispatch e s)

/-- What the lease says of an event as it stands (R298, R299). -/
def dispatchCondition (e : DispatchEvent) (s : State) : Nat :=
  let held := s.sawyer.holder != 0
  let mine := held && s.sawyer.holder = e.identity
  match e.kind with
  | 0 => 0
  | 2 => if held then abOwned else 0
  | _ => if mine then 0 else abNotHolder

/-! ### Effects -/

/-- Objects of ring, taps, front-end, staging and sessions. -/
def lowEffect (sess dest req idx sub n : Nat) (s : State) : State :=
  if 0x1100 ≤ idx && idx ≤ 0x11FF then endSession s (idx - 0x1100)
  else match idx, sub with
    | 0x1F00, 1 => effCommit dest req 2 s
    | 0x1F00, 3 => if s.dict.owner = some sess then discardStaging s else s
    | 0x2010, 6 => effAutoZero s
    | 0x2012, 3 => effInjection (n = 1) s
    | 0x2100, 6 => effUnwrapRelease s
    | 0x2100, 7 => startEnumeration s
    | 0x2103, 5 => effSenseLostClear n s
    | 0x2103, 6 => effOwRequest n s
    | 0x2103, 8 => effGateClear n s
    | 0x2110, 0x0C => effCounterClear 0 s
    | 0x2111, 0x0C => effCounterClear 1 s
    | _, _ => s

/-- Objects of tables, estimation, impedance and balancing. -/
def cellEffect (idx sub n : Nat) (s : State) : State :=
  if idx ≤ 0x31FF then (if sub = 0x41 then cellCommand (idx - 0x3000 + 1) n s else s)
  else if idx ≤ 0x3BFF then (if sub = 0x27 then clearExtremes (idx - 0x3400) s else s)
  else if 0x4C00 ≤ idx && idx ≤ 0x4DFF then (if sub = 8 then resetImpedance (idx - 0x4C00 + 1) s else s)
  else match idx, sub with
    | 0x4705, 1 => effLaneDrain n s
    | 0x4800, 7 => effSweep n s
    | 0x4802, 5 => effSuspicionClear n s
    | 0x5000, 0x0B => effSwitchTest n s
    | 0x5000, 0x0F => effExclusionClear n s
    | _, _ => s

/-- Arm codes of a trace buffer (6400 + b.0C). -/
def effTrace (b n : Nat) (s : State) : State :=
  match n with
  | 0 => effTraceDisarm b s
  | 1 => effTraceArm b false s
  | 2 => effTraceArm b true s
  | _ => fireTrace b s

/-- Objects of the Sawyer and the Winch. -/
def controlEffect (idx sub n : Nat) (v : ObjVal) (s : State) : State :=
  if 0x6400 ≤ idx && idx ≤ 0x6403 then (if sub = 0x0C then effTrace (idx - 0x6400) n s else s)
  else if 0x6860 ≤ idx && idx ≤ 0x6863 then (if sub = 0x10 then effChopperRestore (idx - 0x685F) s else s)
  else if 0x6870 ≤ idx && idx ≤ 0x6873 then (if sub = 7 then effManual (idx - 0x686F) v.toInt s else s)
  else if 0x6880 ≤ idx && idx ≤ 0x6883 then (if sub = 7 then startHoming (idx - 0x687F) s else s)
  else if idx = 0x68B0 && sub = 1 then (if n = 0 then stopDisc s else moveDisc (n = 1) s)
  else s

/-- Objects of links and security. -/
def linkEffect (sess dest req idx sub : Nat) (v : ObjVal) (s : State) : State :=
  if 0x7130 ≤ idx && idx ≤ 0x7133 then effPulse (idx - 0x7130) sub v s
  else if idx = 0x7200 || idx = 0x7201 then (if sub = 9 then startRecovery (idx - 0x7200) s else s)
  else if 0x7802 ≤ idx && idx ≤ 0x7805 then effAnchor (idx - 0x7801) sub v s
  else if 0x7810 ≤ idx && idx ≤ 0x784F then
    (if sub = 1 then effChannelKey (idx - 0x7810) v s else if sub = 4 then effChannelEnable (idx - 0x7810) v s else s)
  else match idx, sub with
    | 0x7100, 1 => effTimeSource v.toInt s
    | 0x7100, 3 => effLocalTime v.toBytes s
    | 0x7120, 3 => if v.toInt = 1 then effOverflowClear false s else s
    | 0x7801, 1 => effAdoption sess dest req v.toBytes s
    | 0x7801, 2 => effDeAdopt s
    | 0x7808, 1 => effDenial v s
    | 0x7850, 1 => effEnvelope dest req v.toBytes s
    | 0x7850, 3 => effKeyChange v.toBytes s
    | 0x7860, 1 => effFast sess v s
    | 0x7870, 1 => effSnapshot v s
    | 0x7871, 1 => effAttestation v s
    | _, _ => s

/-- 8801.04: the registers re-armed read 0 until the next capture (R478). -/
def effRearm (n : Nat) (s : State) : State :=
  let s := if n.testBit 0 then { s with ranger := { s.ranger with firstFault := {} } } else s
  if n.testBit 1 then { s with ranger := { s.ranger with firstTrip := {} } } else s

/-- A session's read cursor of the Tally (8A10.01). -/
def effCursor (sess n : Nat) (s : State) : State := { s with tally := { s.tally with cursors := Tab.put s.tally.cursors sess n } }

/-- Objects of pair, faults, power, update and self-tests. -/
def systemEffect (sess dest req idx sub n : Nat) (v : ObjVal) (s : State) : State :=
  if 0xA010 ≤ idx && idx ≤ 0xA016 then
    (if sub = 1 then (if n = 1 then armInjection (idx - 0xA010) s else stopInjection (idx - 0xA010) s) else s)
  else match idx, sub with
    | 0x8020, 1 => if n = 1 then effHandOver s else effCancel s
    | 0x8030, 3 => effGrant s
    | 0x8030, 4 => effDenied s
    | 0x8050, 1 => effPartnerCode v s
    | 0x8801, 4 => effRearm n s
    | 0x8A00, 6 => clearKeep sess s
    | 0x8A10, 1 => effCursor sess n s
    | 0x9010, 1 => effRestart sess s
    | 0x9050, 1 => smEvent { kind := .sleep, session := dest, req := req } s
    | 0x9820, 1 => effChunk v s
    | 0x9820, 2 => effPackageLength n s
    | 0x9820, 3 => effDigest sess v s
    | 0x9830, 2 => effUpdate n s
    | _, _ => s

/-- Objects kept in the dictionary as written: RW and RWI ones but those another part of the state holds. -/
def dictObject (idx sub : Nat) (d : ObjDesc) : Bool :=
  (d.access = 1 || d.access = 4) && !dispatchObject idx sub && !(idx = 0x7100 && sub = 3) && !(0x7802 ≤ idx && idx ≤ 0x7805)
    && !(idx = 0x8A10 && sub = 1)

/-- Objects that put their own value in force. -/
def storesItself (idx sub : Nat) : Bool :=
  (0x7130 ≤ idx && idx ≤ 0x7133) || (idx = 0x7100 && sub = 1) || (idx = 0x7808 && sub = 1) || (0x7810 ≤ idx && idx ≤ 0x784F && sub = 4)

/-- A write that is in force: the value is kept, and the object acts. `sess` wrote it; `to` is answered by the objects that answer for themselves,
for request `req`. -/
def objectEffect (sess dest req idx sub : Nat) (v : ObjVal) (s : State) : State :=
  let n := v.toInt.toNat
  let keep := match objDesc idx sub with
    | some d => dictObject idx sub d && !storesItself idx sub
    | none => false
  let s := if keep then s.setVal (okey idx sub) v else s
  if dispatchObject idx sub then s
  else if idx < 0x3000 then lowEffect sess dest req idx sub n s
  else if idx < 0x6000 then cellEffect idx sub n s
  else if idx < 0x7000 then controlEffect idx sub n v s
  else if idx < 0x8000 then linkEffect sess dest req idx sub v s
  else systemEffect sess dest req idx sub n v s

/-- Objects whose writes queue or answer themselves: COMMIT, dispatch, adoption, envelope install, sleep. -/
def ownAnswer (idx sub : Nat) : Bool :=
  (idx = 0x1F00 && sub = 1) || dispatchObject idx sub || (idx = 0x7801 && sub = 1) || (idx = 0x7850 && sub = 1) || (idx = 0x9050 && sub = 1)

end Sys2Proof.Machine
end

