-- ==== Sys2Proof/Machine/Serve.lean ====
section
/-! DEFINITION. How the dictionary engine serves a request (R386-R398): reads, single writes, atomic writes, block transfers, subscriptions, metadata;
and what a write does at its boundary. -/

namespace Sys2Proof.Machine

open Sys2Proof

/-! ### Checks of a write (R389) -/

/-- Everything a write is checked for when it is served. -/
def State.entryCheck (s : State) (sess idx sub : Nat) (v : ObjVal) : Nat :=
  let w := s.writeCheck sess idx sub v
  if w = 0 then objectCondition sess idx sub v s else w

/-- The type code and length of an entry agree with its object's (R381); numbers of a wrong length come as bytes. -/
def typeAbort (e : Entry) : Nat :=
  match objDesc e.index e.sub with
  | none => 0
  | some d =>
    if e.typeCode != d.ty then abType
    else match e.value with
      | .bytes _ => if d.numeric then abLength else 0
      | .num _ => 0

/-- The check of an entry as a PDU carries it: type before range. -/
def State.pduCheck (s : State) (sess : Nat) (e : Entry) : Nat :=
  let c := s.entryCheck sess e.index e.sub e.value
  if typeAbort e != 0 && (c = 0 || c / 2 ^ 24 = 3) then typeAbort e else c

/-- What is checked again at the boundary (R382, R389). -/
def State.recheck (s : State) (sess idx sub : Nat) (v : ObjVal) : Nat :=
  match objDesc idx sub with
  | none => 0
  | some d =>
    if idx = 0x2012 && sub = 3 && v = .num 0 && s.hasEnv && s.env 0x5803 1 = 1 then abEnvelope
    else if d.access = 4 && !d.staged && !s.idle then s.stateAbort abState
    else if d.staged && s.dict.owner.isSome && s.dict.owner != some sess then abortArg abStagingHeld (s.dict.owner.getD 0)
    else objectCondition sess idx sub v s

/-! ### Values in force and their records -/

/-- Whether an object's value is kept by a dictionary record (R386). -/
def persists (idx sub : Nat) : Bool :=
  match objDesc idx sub with
  | some d => d.persist = 1 && !d.staged && dictObject idx sub d
  | none => false

/-- Whether a value waits for its record before it is in force (R386). -/
def waitsForRecord (idx sub : Nat) (v : ObjVal) : Bool :=
  persists idx sub && match objDesc idx sub with
    | some d => longValue d v
    | none => false

/-- Queue the dictionary record of a value; a long value goes to dictionary persistence in storage first (R386). -/
def recordValue (key : Nat) (v : ObjVal) (cyc : Cycle) (release : Option Response) (s : State) : State :=
  let idx := key / 256
  let sub := key % 256
  match objDesc idx sub with
  | none => s
  | some d =>
    let b := d.encode v
    if longValue d v then
      let s := queueDictionary idx sub 0x0D (le 4 b.length ++ crcBytes b) v cyc release (wrote 6 b.length s)
      { s with storage := { s.storage with queue := s.storage.queue.dropLast ++ (s.storage.queue.getLast?.map fun r => { r with late := true }).toList } }
    else queueDictionary idx sub d.ty b v cyc release s

/-- The answer to a write in force: at once, or with the last record it waits for (R386, R392). -/
def finishWrite (dest req : Nat) (cyc : Cycle) (abort : Nat) (entries : List (Nat × ObjVal)) (s : State) : State :=
  let p := if abort = 0 then entries.filter fun e => persists (e.1 / 256) (e.1 % 256) else []
  match p.getLast? with
  | none => s.replyAt dest req 2 abort cyc
  | some l =>
    let s := p.dropLast.foldl (fun (s : State) (e : Nat × ObjVal) => recordValue e.1 e.2 cyc none s) s
    recordValue l.1 l.2 cyc (some { session := dest, req := req, type := 0x82, cycle := cyc, body := replyBody 2 0 }) s

/-- The result of an effect that has one of its own: the checks of a package (R541). -/
def State.resultOf (s : State) (idx sub : Nat) : Nat := if idx = 0x9820 && sub = 3 then s.update.result.toNat else 0

/-- Put a value in force, unless it waits for its record. -/
def enforce (sess dest req idx sub : Nat) (v : ObjVal) (s : State) : State :=
  if waitsForRecord idx sub v then s else objectEffect sess dest req idx sub v s

/-! ### A single write (R386, R388) -/

/-- Whether an object is a cell's command object (R141). -/
def cellCommandObject (idx sub : Nat) : Bool := 0x3000 ≤ idx && idx ≤ 0x31FF && sub = 0x41

/-- A string-scope write waits for its boundary, and the partner is told (R385, R388); a cell command keeps its place there (R141). -/
def queueWrite (sess req idx sub : Nat) (v : ObjVal) (s : State) : State :=
  let eff := s.effective
  let put := fun (l : List (Nat × ObjVal)) (s : State) =>
    { s with dict := { s.dict with pending := s.dict.pending ++ [{ session := sess, req := req, entries := l, effective := eff }] } }
  if cellCommandObject idx sub then
    let k := idx - 0x3000 + 1
    let s := put [] (effCellCommand k v.toInt.toNat s)
    replicate (.cellCommand k v.toInt.toNat) eff s
  else replicate (.write (okey idx sub) v) eff (put [(okey idx sub, v)] s)

/-- A refused write; a refused envelope leaves its result (7850.02). -/
def refuseWrite (sess req idx sub code : Nat) (v : ObjVal) (s : State) : State :=
  let s := if idx = 0x7850 && sub = 1 && s.writeCheck sess idx sub v = 0 then envelopeRefused code s else s
  s.reply sess req 2 code

/-- A write that has passed its checks: staged, a dispatch event, one that answers itself, one that waits for its boundary, or one that takes effect
now. -/
def acceptWrite (sess req idx sub : Nat) (v : ObjVal) (s : State) : State :=
  match objDesc idx sub with
  | none => s
  | some d =>
    if d.staged then (stageValue sess (okey idx sub) v s).reply sess req 2 0
    else if dispatchObject idx sub then sendDispatch (dispatchEvent sess sess req idx sub v s.effective s) s
    else if ownAnswer idx sub then objectEffect sess sess req idx sub v s
    else if d.stringScope then queueWrite sess req idx sub v s
    else
      let s := enforce sess sess req idx sub v s
      finishWrite sess req s.core.cycle (s.resultOf idx sub) [(okey idx sub, v)] s

/-- A write of one value, its check given. -/
def writeChecked (sess req idx sub : Nat) (v : ObjVal) (code : Nat) (s : State) : State :=
  if code = 0 then acceptWrite sess req idx sub v s else refuseWrite sess req idx sub code v s

/-- A write of one value, as the command objects and the single-entry WRITE carry it. -/
def serveWrite (sess req idx sub : Nat) (v : ObjVal) (s : State) : State :=
  writeChecked sess req idx sub v (s.entryCheck sess idx sub v) s

/-! ### Atomic writes (R389) -/

/-- What an entry does on a copy of the state, for the checks of the entries behind it. -/
def tryEntry (sess idx sub : Nat) (v : ObjVal) (s : State) : State :=
  match objDesc idx sub with
  | none => s
  | some d =>
    if d.staged then stageValue sess (okey idx sub) v s
    else if dispatchObject idx sub then applyDispatch s (dispatchEvent sess 0xFFFF 0 idx sub v s.core.cycle s)
    else objectEffect sess 0xFFFF 0 idx sub v s

/-- The lease's condition of an entry of an atomic write. -/
def State.leaseCheck (s : State) (sess idx sub : Nat) (v : ObjVal) : Nat :=
  if dispatchObject idx sub then dispatchCondition (dispatchEvent sess 0xFFFF 0 idx sub v s.core.cycle s) s else 0

/-- The first entry that fails a check, each checked as the state stands after those before it: its position and abort code. -/
def firstFailing (check : State → Nat → Nat → ObjVal → Nat) (sess : Nat) : Nat → List (Nat × ObjVal) → State → Option (Nat × Nat)
  | _, [], _ => none
  | n, e :: t, s =>
    let idx := e.1 / 256
    let sub := e.1 % 256
    let c := check s idx sub e.2
    let c := if c = 0 then s.leaseCheck sess idx sub e.2 else c
    if c != 0 then some (n, c) else firstFailing check sess (n + 1) t (tryEntry sess idx sub e.2 s)

/-- The refusal of an atomic write names the entry. -/
def refuseEntry (sess req n code : Nat) (s : State) : State :=
  s.answer { session := sess, req := req, type := 0x82, cycle := s.core.cycle, abort := code, body := le 2 n ++ le 2 0 }

/-- An entry as the partner is told of it; the staged ones come with their epoch. -/
def tellEntry (sess : Nat) (eff : Cycle) (s : State) (e : Nat × ObjVal) : State :=
  let idx := e.1 / 256
  let sub := e.1 % 256
  match objDesc idx sub with
  | none => s
  | some d =>
    if d.staged || !d.stringScope || ownAnswer idx sub && !dispatchObject idx sub then s
    else if dispatchObject idx sub then
      let ev := dispatchEvent sess 0xFFFF 0 idx sub e.2 eff s
      replicate (.dispatch ev.kind ev.identity ev.key ev.value) eff s
    else if cellCommandObject idx sub then replicate (.cellCommand (idx - 0x3000 + 1) e.2.toInt.toNat) eff s
    else replicate (.write e.1 e.2) eff s

/-- A WRITE of several entries: refused for its first failing entry, or waiting for one boundary. -/
def serveAtomic (sess req : Nat) (l : List Entry) (s : State) : State :=
  let kv := l.map fun e => (okey e.index e.sub, e.value)
  let bad := ((upFrom 0 l.length).zip l).find? fun e => typeAbort e.2 != 0 && s.writeCheck sess e.2.index e.2.sub e.2.value / 2 ^ 24 ∈ [0, 3]
  match bad, firstFailing (fun s i b v => s.entryCheck sess i b v) sess 0 kv s with
  | some e, some f => if e.1 ≤ f.1 then refuseEntry sess req e.1 (typeAbort e.2) s else refuseEntry sess req f.1 f.2 s
  | some e, none => refuseEntry sess req e.1 (typeAbort e.2) s
  | none, some f => refuseEntry sess req f.1 f.2 s
  | none, none =>
    let eff := s.effective
    let s := { s with dict := { s.dict with pending := s.dict.pending ++ [{ session := sess, req := req, entries := kv, effective := eff }] } }
    kv.foldl (tellEntry sess eff) s

/-- A WRITE PDU: 1 to 16 entries. -/
def serveWritePdu (sess req : Nat) (l : List Entry) (s : State) : State :=
  match l with
  | [e] => writeChecked sess req e.index e.sub e.value (s.pduCheck sess e) s
  | _ => if l.isEmpty || 16 < l.length then s.reply sess req 2 (abortArg abMalformed 16) else serveAtomic sess req l s

/-! ### The boundary -/

/-- An entry of an atomic write acts at its boundary; dispatch events take their place there (R300), answered with the write. -/
def applyEntry (sess : Nat) (s : State) (e : Nat × ObjVal) : State :=
  let idx := e.1 / 256
  let sub := e.1 % 256
  match objDesc idx sub with
  | none => s
  | some d =>
    if d.staged then stageValue sess e.1 e.2 s
    else if dispatchObject idx sub then queueDispatch (dispatchEvent sess 0xFFFF 0 idx sub e.2 (s.ahead 1) s) s
    else enforce sess 0xFFFF 0 idx sub e.2 s

/-- The lease as the dispatch events of the boundary that come before writes leave it: lease ends, releases, claims, renewals (R300). -/
def State.afterLeaseEvents (s : State) : State :=
  let due := s.sawyer.events.filter fun e => dueBy (s.ahead 1) e.effective
  ([0, 1, 2, 3].flatMap fun k => due.filter fun e => e.kind = k).foldl (fun s e => applyDispatch s { e with session := 0xFFFF }) s

/-- The result of the entries: that of a package digest among them. -/
def State.resultOfAll (s : State) (l : List (Nat × ObjVal)) : Nat :=
  match l.find? fun e => s.resultOf (e.1 / 256) (e.1 % 256) != 0 with
  | some e => s.resultOf (e.1 / 256) (e.1 % 256)
  | none => 0

/-- A write whose boundary has come: checked again, applied whole and answered, or refused (R388, R389, R392). -/
def applyPending (s : State) (p : PendingWrite) : State :=
  match firstFailing (fun t i b v => t.recheck p.session i b v) p.session 0 p.entries s.afterLeaseEvents with
  | some f => refuseEntry p.session p.req f.1 f.2 s
  | none =>
    let s := p.entries.foldl (applyEntry p.session) s
    finishWrite p.session p.req p.effective (s.resultOfAll p.entries) p.entries s

/-- The writes due at this boundary, in the order served (R388). -/
def writesBoundary (s : State) : State :=
  let due := s.dict.pending.filter fun p => dueBy (s.ahead 1) p.effective
  due.foldl applyPending { s with dict := { s.dict with pending := s.dict.pending.filter fun p => !dueBy (s.ahead 1) p.effective } }

/-- JOURNAL_WRITE: the oldest queued record is written, while POWER-GOOD holds (R203, R533). `cut` says where the write is cut off when the hold-up
fails (R534): 0 nowhere, 1 in its first copy, 2 in its second. A long value takes effect with its record (R386). -/
def execJournalWrite (cut : Nat) (s : State) : Out :=
  match s.storage.queue with
  | [] => .next s
  | r :: q =>
    if !(s.power.good && s.pd 1) then .next s
    else match r.slot with
      | some n => .next (writeFixed n r (cut != 0) { s with storage := { s.storage with queue := q } })
      | none =>
        if 1376 ≤ s.storage.log.length then
          if s.raised 0x078 0xE4 0 0 then .next s
          else .next ({ s with storage := { s.storage with logWaits := inc32 s.storage.logWaits } }.report 0x078 0xE4 .notice 0 0)
        else
          let s := { s with storage := { s.storage with queue := q } }
          match r.value with
          | some v =>
            if r.late && cut = 0 then
              let s := objectEffect 0xFFFF 0xFFFF 0 (r.key / 256) (r.key % 256) v s
              .next (writeLog { r with release := r.release.map fun a => { a with cycle := s.core.cycle } } cut s)
            else .next (writeLog r cut s)
          | none => .next (writeLog r cut s)

/-! ### Reads (R391, R394) -/

/-- The row of an object, also of the staged copies and of subindex 0 (R147, R380). -/
def descOf (idx sub : Nat) : Option ObjDesc :=
  if sub = 0 then
    (if highestSub idx = 0 then none
     else some { lo := idx, hi := idx, subLo := 0, subHi := 0, ty := 2, access := 0, role := 0, dflt := 0, persist := 0, flags := 0,
                 min := 0, max := 255, unit := "", name := "Highest subindex" })
  else objDesc idx (if 0x3000 ≤ idx && idx ≤ 0x3BFF && 0x80 ≤ sub then sub - 0x80 else sub)

/-- The value of an object as the latest boundary shows it, in bytes. -/
def State.valueBytes (s : State) (sess idx sub : Nat) : Bytes :=
  match descOf idx sub with
  | some d => d.encode (s.shown.readVal sess idx sub)
  | none => []

/-- A capture in re-arm mode that has been read arms its buffer again (R310). -/
def captureRead (idx sub : Nat) (s : State) : State :=
  if 0x6400 ≤ idx && idx ≤ 0x6403 && sub = 0x0E && (s.trace (idx - 0x6400)).state = 3 && (s.trace (idx - 0x6400)).rearm then
    effTraceArm (idx - 0x6400) true s
  else s

/-- Read one object: its abort code, its value, and the state after: the Tally's cursor, the counter cleared on read, a capture read (R310, R391,
R482, R495). -/
def readObject (sess idx sub : Nat) (s : State) : Nat × Bytes × State :=
  let c := s.readCheck sess idx sub
  if c != 0 then (c, [], s)
  else if idx = 0x8A10 && sub = 2 then
    let (b, s) := readTally sess 1016 s
    (0, b, s)
  else if idx = 0x7120 && sub = 4 then
    (0, le 1 s.clock.occurrences, { s with clock := { s.clock with occurrences := 0 } })
  else
    let b := s.valueBytes sess idx sub
    if 1024 < b.length then (abTooLong, [], s) else (0, b, captureRead idx sub s)

/-- The type code an entry shows. -/
def typeCodeOf (idx sub : Nat) : Nat :=
  match descOf idx sub with
  | some d => d.ty
  | none => 0

/-- The entries of a READ, one after another. -/
def readEntries (sess : Nat) : List (Nat × Nat) → State → Bytes × State
  | [], s => ([], s)
  | a :: t, s =>
    let (c, b, s) := readObject sess a.1 a.2 s
    let (rest, s) := readEntries sess t s
    (valueEntry a.1 a.2 (typeCodeOf a.1 a.2) c b ++ rest, s)

/-- Whether a session is a CAN channel's, or a fast channel's. -/
def isCan (sess : Nat) : Bool := 192 ≤ sess
def isFast (sess : Nat) : Bool := 128 ≤ sess && sess < 192

/-- A READ of 1 to 64 objects; on CAN of one, its value alone (R399). -/
def serveRead (sess req : Nat) (l : List (Nat × Nat)) (s : State) : State :=
  let cyc := s.boundary.core.cycle
  if isCan sess then
    match l with
    | a :: _ =>
      let (c, b, s) := readObject sess a.1 a.2 s
      s.answer { session := sess, req := req, type := 0x81, cycle := cyc, abort := c, body := b }
    | [] => s.reply sess req 1 (abortArg abMalformed 16)
  else if l.isEmpty || 64 < l.length then s.reply sess req 1 (abortArg abMalformed 16)
  else
    let (b, s) := readEntries sess l s
    s.answer { session := sess, req := req, type := 0x81, cycle := cyc, body := le 2 l.length ++ le 2 0 ++ b }

/-- A READ-BLOCK (R394, R495). -/
def serveReadBlock (sess req idx sub off len : Nat) (s : State) : State :=
  let c := s.readCheck sess idx sub
  let done := fun (b : Bytes) (s : State) =>
    s.answer { session := sess, req := req, type := 0x83, cycle := s.boundary.core.cycle,
               body := addrEntry idx sub ++ le 4 off ++ le 4 b.length ++ b }
  if isFast sess || isCan sess then s.reply sess req 3 abTransport
  else if c != 0 then s.reply sess req 3 c
  else if len = 0 || 65536 < len then s.reply sess req 3 abOffset
  else if idx = 0x8A10 && sub = 2 then
    if off != 0 then s.reply sess req 3 abOffset
    else
      let (b, s) := readTally sess len s
      done b s
  else
    let b := s.valueBytes sess idx sub
    if b.length < off then s.reply sess req 3 abOffset
    else
      let part := (b.drop off).take len
      done part (if b.length ≤ off + len then captureRead idx sub s else s)

/-! ### Block transfers (R395) -/

/-- Discard a session's open transfer. -/
def dropBlock (sess : Nat) (s : State) : State := s.modSession sess fun c => { c with block := none }

/-- A WRITE-BLOCK part that has its place: kept, or with the final part the whole value written once its length and check agree. -/
def takeBlockPart (sess req idx sub : Nat) (b : BlockXfer) (final : Bool) (data : Bytes) (s : State) : State :=
  let whole := b.data ++ data
  if !final then
    let s := s.modSession sess fun c => { c with block := some { b with data := whole, last := s.core.cycle } }
    s.answer { session := sess, req := req, type := 0x84, cycle := s.core.cycle, body := le 4 whole.length }
  else
    let s := dropBlock sess s
    if whole.length != b.total || (crc32c whole).toNat != b.crc then s.reply sess req 4 abCrc
    else serveWrite sess req idx sub (.bytes whole) (s.modSession sess fun c => { c with addrs := Tab.put c.addrs req whole.length })

/-- A WRITE-BLOCK part: of a TABLE or OCTETS object, at offset 0 or behind the part before, within the total (R390, R395). -/
def serveWriteBlock (sess req idx sub off total crc : Nat) (final : Bool) (data : Bytes) (s : State) : State :=
  let c := s.writeCheck sess idx sub (.bytes [])
  let open_ := (s.session sess).block
  let fits := match open_ with
    | none => off = 0
    | some b => b.key = okey idx sub && b.total = total && b.crc = crc && off = b.data.length
  if isFast sess || isCan sess then s.reply sess req 4 abTransport
  else if c != 0 then s.reply sess req 4 c
  else if !(typeCodeOf idx sub = 0x0D || typeCodeOf idx sub = 0x10) then s.reply sess req 4 abType
  else if !fits || 65536 < data.length || 65536 < total || total < off + data.length then s.reply sess req 4 abOffset
  else takeBlockPart sess req idx sub (open_.getD { key := okey idx sub, total := total, crc := crc }) final data s

/-- BLOCK_TRANSFER_TIMEOUT (R395): no part for 60 s. -/
def execBlockTransferTimeout (session : Nat) (s : State) : Out :=
  match (s.session session).block with
  | some b => if s.passed b.last 60000 then .next (dropBlock session s) else .next s
  | none => .next s

/-! ### Subscriptions (R396) and metadata (R387) -/

/-- The value entry of an object in a NOTIFY, with its abort code where it is refused. -/
def State.noteEntry (s : State) (sess key : Nat) : Bytes :=
  let idx := key / 256
  let sub := key % 256
  let c := s.readCheck sess idx sub
  let b := if c = 0 then s.valueBytes sess idx sub else []
  if 1024 < b.length then valueEntry idx sub (typeCodeOf idx sub) abTooLong [] else valueEntry idx sub (typeCodeOf idx sub) c b

/-- The packed value of an object in a CAN notification: its bytes, zeros of its width where it is refused. -/
def State.packedValue (s : State) (sess key : Nat) : Bytes :=
  let idx := key / 256
  let sub := key % 256
  if s.readCheck sess idx sub = 0 then s.valueBytes sess idx sub
  else zeros (match descOf idx sub with
    | some d => d.width
    | none => 0)

/-- The body of a notification of a subscription. -/
def State.noteBody (s : State) (sess seq : Nat) (objects : List Nat) : Bytes :=
  if isCan sess then objects.flatMap (s.packedValue sess)
  else le 2 seq ++ le 2 objects.length ++ objects.flatMap (s.noteEntry sess)

/-- The free transmit object bound to a session's CAN channel, on the controller it uses (R399). -/
def State.noteObject (s : State) (sess : Nat) : Option Nat :=
  let n := (s.session sess).transport - 4
  (upFrom 8 120).find? fun o => s.canDir n o = 2 && s.canChannel n o = some (sess - 192)

/-- The period in ms, 0 taking the transport's default, and whether it is allowed. -/
def notePeriod (sess period : Nat) : Nat × Bool :=
  let lo := if isCan sess then 100 else 10
  let p := if period = 0 then (if isCan sess then 1000 else 100) else period
  (p, p % 10 = 0 && lo ≤ p && p ≤ 60000)

/-- The lowest subscription identifier a session does not use. -/
def Session.freeSub (c : Session) : Nat := ((upFrom 1 9).find? fun i => !c.subs.any fun x => x.id = i).getD 1

/-- Whether a notification of these objects fits the session's transport (R398, R399). -/
def State.noteFits (s : State) (sess : Nat) (objects : List Nat) : Bool :=
  let n := (s.noteBody sess 0 objects).length
  if isCan sess then n ≤ 48 && (s.noteObject sess).isSome else !isFast sess || n + 16 ≤ 1400

/-- SUBSCRIBE. -/
def serveSubscribe (sess req period : Nat) (l : List (Nat × Nat)) (s : State) : State :=
  let (p, ok) := notePeriod sess period
  let objects := l.map fun a => okey a.1 a.2
  let bad := l.findSome? fun a =>
    let c := s.readCheck sess a.1 a.2
    if c = 0 || c = abActiveOnly then none else some c
  if !s.sec.adopted then s.reply sess req 5 abUnadopted
  else if l.isEmpty || 64 < l.length then s.reply sess req 5 (abortArg abMalformed 18)
  else if !ok then s.reply sess req 5 abRange
  else match bad with
    | some c => s.reply sess req 5 c
    | none =>
      if 8 ≤ (s.session sess).subs.length || !s.noteFits sess objects then s.reply sess req 5 abSubLimit
      else
        let id := (s.session sess).freeSub
        let s := s.modSession sess fun c => { c with subs := c.subs ++ [{ id := id, period := p, objects := objects }] }
        s.answer { session := sess, req := req, type := 0x85, cycle := s.core.cycle, body := le 2 id }

/-- UNSUBSCRIBE. -/
def serveUnsubscribe (sess req id : Nat) (s : State) : State :=
  if !s.sec.adopted then s.reply sess req 6 abUnadopted
  else if (s.session sess).subs.any fun x => x.id = id then
    (s.modSession sess fun c => { c with subs := c.subs.filter (fun x => x.id != id), notes := c.notes.filter fun r => r.req != id }).reply sess req 6 0
  else s.reply sess req 6 abRange

/-- DESCRIBE of 1 to 16 objects; one that does not exist refuses it. -/
def serveDescribe (sess req : Nat) (l : List (Nat × Nat)) (s : State) : State :=
  let gone := l.find? fun a => (descOf a.1 a.2).isNone
  if isCan sess then s.reply sess req 9 abTransport
  else if !s.sec.adopted then s.reply sess req 9 abUnadopted
  else if l.isEmpty || 16 < l.length then s.reply sess req 9 (abortArg abMalformed 16)
  else match gone with
    | some a => s.reply sess req 9 (if highestSub a.1 = 0 then abNoObject else abNoSub)
    | none =>
      let m := l.flatMap fun a => match descOf a.1 a.2 with
        | some d => metadata a.1 a.2 d
        | none => []
      s.answer { session := sess, req := req, type := 0x89, cycle := s.core.cycle, body := le 2 l.length ++ le 2 0 ++ m }

/-- COMMIT: a write of 1 to 1F00.01 (R394). -/
def serveCommit (sess req : Nat) (s : State) : State :=
  let c := s.entryCheck sess 0x1F00 1 (.num 1)
  if c = 0 then effCommit sess req 8 s else s.reply sess req 8 c

/-! ### Any request -/

/-- Serve a request (R394, R397-R399). -/
def servePdu (sess req : Nat) (p : Pdu) (s : State) : State :=
  match p with
  | .read l => serveRead sess req l s
  | .write l => serveWritePdu sess req l s
  | .readBlock i b o n => serveReadBlock sess req i b o n s
  | .writeBlock i b o t c f d => serveWriteBlock sess req i b o t c f d s
  | .subscribe t l => serveSubscribe sess req t l s
  | .unsubscribe id => serveUnsubscribe sess req id s
  | .commit => serveCommit sess req s
  | .describe l => serveDescribe sess req l s
  | .unsupported t => s.reply sess req t abTransport
  | .malformed t o => s.reply sess req t (abortArg abMalformed o)

/-- A request of a session enters service: it is counted, and its answer is due in order (R397, 1100.08). -/
def beginService (sess req : Nat) (at_ : Cycle) (s : State) : State :=
  s.modSession sess fun c => { c with served := inc32 c.served, order := c.order ++ [(req, at_)] }

/-- Serve a request of an open session now. -/
def serveNow (sess req : Nat) (p : Pdu) (s : State) : Out :=
  if s.sessOpen sess then .next (servePdu sess req p (beginService sess req s.core.cycle s)) else .next s

/-- Serve the write of one object by an open session now. -/
def writeNow (sess req idx sub : Nat) (v : ObjVal) (s : State) : Out :=
  if s.sessOpen sess then .next (serveWrite sess req idx sub v (beginService sess req s.core.cycle s)) else .next s

end Sys2Proof.Machine
end

