-- ==== Sys2Proof/Machine/Requests.lean ====
section
/-! DEFINITION. Transports and scheduling of requests (R396-R406, R423): responses leave in the order of their requests, datagrams of fast channels,
dictionary frames on CAN with segmented transfers, notifications, and the deficit round robin of the dictionary engine. -/

namespace Sys2Proof.Machine

open Sys2Proof

/-! ### Sending -/

/-- Source of the dictionary (R468). -/
def srcDict : Nat := 0x068

/-- A PDU leaves on a fast channel: header, PDU, tag (R423). A sequence that reaches 2^32 is not used. -/
def fastSend (j : Nat) (pdu : Bytes) (s : State) : State :=
  let f := s.fast j
  let port := (s.session (128 + j)).transport % 2
  if 2 ^ 32 ≤ f.txSeq then s
  else
    let data := le 1 j ++ le 1 (f.epoch.getD 0) ++ le 6 f.txSeq ++ pdu ++ le 16 (Config.gcmTag f.keys f.txSeq pdu)
    ethSend port 1 2 (128 + j) data (s.modFast j fun f => { f with txSeq := f.txSeq + 1, tx := inc32 f.tx })

/-- Send a frame of the dictionary protocol for a CAN session, on object 2 of its controller. -/
def canDictFrame (sess : Nat) (data : Bytes) (s : State) : State :=
  canReplyFrame ((s.session sess).transport - 4) (sess - 192) (padTo 56 data) s

/-- The first 8 bytes of a frame of kind 0 or 1 (R399). -/
def canHead (kind : Nat) (abort : Bool) (sess type req key n : Nat) : Bytes :=
  le 1 (canControl kind abort 0) ++ le 1 (sess - 192) ++ le 1 type ++ le 1 req ++ le 2 (key / 256) ++ le 1 (key % 256) ++ le 1 n

/-- The value of a response as CAN carries it: an abort code, the effective cycle of a WRITE or COMMIT, the body (R399). -/
def Response.canValue (r : Response) : Bytes :=
  if r.abort != 0 then le 4 r.abort else if r.type = 0x82 || r.type = 0x88 then le 4 r.cycle.toNat else r.body

/-- A response on CAN: expedited up to 48 bytes, else the initiate frame of a segmented transfer (R399, R400). -/
def canRespond (sess : Nat) (r : Response) (s : State) : State :=
  let key := Tab.nat (s.session sess).addrs r.req
  let v := r.canValue
  let s := s.modSession sess fun c => { c with addrs := Tab.drop c.addrs r.req }
  if v.length ≤ 48 then canDictFrame sess (canHead 0 (r.abort != 0) sess r.type r.req key v.length ++ padTo 48 v) s
  else
    let x : SegXfer := { write := false, reqType := r.type, reqId := r.req, key := key, total := v.length, crc := (crc32c v).toNat, data := v,
                         waiting := true, last := s.core.cycle }
    let s := s.modSession sess fun c => { c with seg := some x }
    canDictFrame sess (canHead 1 false sess r.type r.req key 0xFF ++ le 4 x.total ++ le 4 x.crc ++ v.take 40) s

/-- The response of the final part of a WRITE-BLOCK (R394): the answer to its write, with the bytes held. -/
def blockAnswer (c : Session) (r : Response) : Response :=
  match Tab.find c.addrs r.req with
  | some n => if r.type = 0x82 then { r with type := 0x84, body := if r.abort = 0 then le 4 n else [] } else r
  | none => r

/-- Send a response on its session's transport; a fast channel keeps its last 16 (R397-R399). -/
def sendResponse (sess : Nat) (r : Response) (s : State) : State :=
  let s := if r.abort = 0 then s else s.modSession sess fun c => { c with refused := inc32 c.refused }
  if isCan sess then canRespond sess r s
  else if isFast sess then
    let j := sess - 128
    fastSend j r.pdu (s.modFast j fun f => { f with kept := keepN 16 (r :: f.kept) })
  else
    let c := s.session sess
    let s := s.modSession sess fun c => { c with addrs := Tab.drop c.addrs r.req }
    ethSend (c.transport % 2) 2 1 sess (blockAnswer c r).pdu s

/-- Whether a session's transmit queue can take a response. `full` lists the sessions whose transport is stalled. -/
def State.canTransmit (s : State) (full : List Nat) (sess : Nat) : Bool :=
  let c := s.session sess
  c.state = .isOpen && !full.contains sess &&
    (if isCan sess then s.canSends (c.transport - 4) && (s.can (c.transport - 4)).err != .busOff && (c.seg.elim true fun x => x.write)
     else s.ethUp (c.transport % 2))

/-- A missed T-100ms (3) or T-1s (4) deadline is counted per session and per stream and reported (R29). -/
def missSession (sess value : Nat) (s : State) : State :=
  missStream srcDict value (s.modSession sess fun c => { c with misses := inc32 c.misses })

/-- Take the first response that answers a request of a session out of the queue. -/
def takeResponse (sess req : Nat) (s : State) : Option (Response × State) :=
  match s.dict.responses.find? fun r => r.session = sess && r.req = req with
  | none => none
  | some r => some (r, { s with dict := { s.dict with responses := s.dict.responses.erase r } })

/-- Responses of a session leave in the order its requests came (R397); up to `n` of them. Writes and commits answered after 100 ms have missed their deadline;
reads and block transfers are of the slower classes, which have none (R28, R29). -/
def sendInOrder (full : List Nat) (sess : Nat) : Nat → State → State
  | 0, s => s
  | n + 1, s =>
    match (s.session sess).order with
    | [] => s
    | (req, at_) :: t =>
      if !s.canTransmit full sess then s
      else match takeResponse sess req s with
        | none => s
        | some (r, s) =>
          let s := sendResponse sess r (s.modSession sess fun c => { c with order := t })
          sendInOrder full sess n (if 100 < s.since at_ && (r.type = 0x82 || r.type = 0x88) then missSession sess 3 s else s)

/-- Responses to requests that are no longer awaited leave at once. -/
def sendStray (full : List Nat) (s : State) (r : Response) : State :=
  let c := s.session r.session
  if c.state = .isOpen && !(c.order.any fun o => o.1 = r.req) && s.canTransmit full r.session then
    sendResponse r.session r { s with dict := { s.dict with responses := s.dict.responses.erase r } }
  else s

/-- The open sessions, in session order. -/
def State.openSessions (s : State) : List Nat := (upFrom 0 256).filter s.sessOpen

/-- Responses move to the transports. -/
def sendResponses (full : List Nat) (s : State) : State :=
  let s := s.openSessions.foldl (fun s n => sendInOrder full n 17 s) s
  s.dict.responses.foldl (sendStray full) s

/-! ### Notifications (R396, R399) -/

/-- A notification as its transport carries it. -/
def sendNote (sess : Nat) (r : Response) (s : State) : State :=
  if isCan sess then
    let c := s.session sess
    match s.noteObject sess with
    | some o =>
      let seq := ((c.subs.find? fun x => x.id = r.req).elim 0 fun x => x.seq) % 256
      canSendCounter (c.transport - 4) o (sess - 192)
        (padTo 56 (le 1 (canControl 4 false 0) ++ le 1 (sess - 192) ++ le 1 r.req ++ le 1 seq ++ le 4 r.cycle.toNat ++ padTo 48 r.body)) s
    | none => s
  else if isFast sess then fastSend (sess - 128) r.pdu s
  else ethSend ((s.session sess).transport % 2) 2 1 sess r.pdu s

/-- A notification leaves; one later than 1 s after its sample has missed its deadline (R29). -/
def finishNote (sess : Nat) (r : Response) (s : State) : State :=
  let s := sendNote sess r (s.modSession sess fun c =>
    { c with notes := c.notes.tail, subs := c.subs.map fun (x : Subscription) => if x.id = r.req then { x with unsent := false } else x })
  if 1000 < s.since r.cycle then missSession sess 4 s else s

/-- One subscription is sampled; a notification not yet sent is replaced and counted (R396). -/
def sampleSub (sess : Nat) (s : State) (x : Subscription) : State :=
  if x.paused || s.C % max 1 x.period != 0 then s
  else
    let seq := (x.seq + 1) % 65536
    let r : Response := { session := sess, req := x.id, type := 7, cycle := s.core.cycle, body := s.noteBody sess seq x.objects }
    s.modSession sess fun c =>
      { c with overruns := if x.unsent then inc32 c.overruns else c.overruns,
               notes := (c.notes.filter fun q => q.req != x.id) ++ [r],
               subs := c.subs.map fun (y : Subscription) => if y.id = x.id then { y with seq := seq, unsent := true } else y }

/-- The subscriptions of the open sessions are sampled at a boundary. -/
def sampleSubs (s : State) : State := s.openSessions.foldl (fun s n => (s.session n).subs.foldl (sampleSub n) s) s

/-! ### Requests on CAN (R399, R400) -/

/-- The request a type, object and value stand for on CAN. -/
def canPdu (type key : Nat) (v : Bytes) : Pdu :=
  let idx := key / 256
  let sub := key % 256
  match type with
  | 1 => .read [(idx, sub)]
  | 2 =>
    let (ty, val) := match objDesc idx sub with
      | some d => (d.ty, if d.numeric && v.length = d.width then d.decode v else .bytes v)
      | none => (0, .bytes v)
    .write [{ index := idx, sub := sub, typeCode := ty, value := val }]
  | 5 => .subscribe (fieldN v 0 2) ((upFrom 0 (min 64 (fieldN v 2 2))).map fun i => (fieldN v (4 + 4 * i) 2, fieldN v (6 + 4 * i) 1))
  | 6 => .unsubscribe (fieldN v 0 2)
  | 8 => .commit
  | t => .unsupported t

/-- A CAN request enters Q28; with 16 outstanding it is not taken. -/
def canRequest (sess req type key : Nat) (v : Bytes) (s : State) : State :=
  let s := s.modSession sess fun c => { c with addrs := Tab.put c.addrs req key }
  (takeRequests sess [(req, canPdu type key v)] s).2

/-- Abort a segmented transfer: an abort frame, and the transfer is gone (R400). -/
def abortSegment (sess code : Nat) (x : SegXfer) (s : State) : State :=
  let type := if x.write then x.reqType + 0x80 else x.reqType
  canDictFrame sess (canHead 0 true sess type x.reqId x.key 4 ++ padTo 48 (le 4 code)) (s.modSession sess fun c => { c with seg := none })

/-- The segment acknowledge: bytes held (R399, R400). -/
def sendAck (sess : Nat) (x : SegXfer) (s : State) : State :=
  canDictFrame sess (le 1 (canControl 3 false 0) ++ le 1 (sess - 192) ++ le 1 x.reqType ++ le 1 x.reqId ++ le 4 x.data.length) s

/-- The initiate frame of a write: total length, check, the first 40 bytes. -/
def startSegments (sess : Nat) (f : Bytes) (s : State) : State :=
  let total := fieldN f 8 4
  let x : SegXfer := { write := true, reqType := fieldN f 2 1, reqId := fieldN f 3 1, key := okey (fieldN f 4 2) (fieldN f 6 1), total := total,
                       crc := fieldN f 12 4, data := (slice f 16 40).take total, last := s.core.cycle }
  if 65536 < total then abortSegment sess abOffset x s
  else sendAck sess x (s.modSession sess fun c => { c with seg := some x })

/-- A segment of a write: in sequence it extends the transfer, and the last one makes the request; a gap aborts it (R400). -/
def takeSegment (sess : Nat) (f : Bytes) (x : SegXfer) (s : State) : State :=
  let c := fieldN f 0 1
  let last := c.testBit 4
  if c % 16 != x.next % 16 then abortSegment sess (abortArg abSegment (x.next % 16)) x s
  else
    let data := (x.data ++ slice f 4 52).take x.total
    let n := x.sinceAck + 1
    let y := { x with data := data, next := x.next + 1, sinceAck := n % 16, last := s.core.cycle }
    if last then
      if data.length = x.total && (crc32c data).toNat = x.crc then
        canRequest sess x.reqId x.reqType x.key data (s.modSession sess fun c => { c with seg := none })
      else abortSegment sess abCrc x s
    else
      let s := s.modSession sess fun c => { c with seg := some y }
      if n = 16 then sendAck sess y s else s

/-- The module sends up to `n` segments and then waits for their acknowledge (R400). -/
def sendSegments (sess : Nat) : Nat → SegXfer → State → State
  | 0, x, s => s.modSession sess fun c => { c with seg := some { x with waiting := true, last := s.core.cycle } }
  | n + 1, x, s =>
    let off := 40 + 52 * x.next
    let last := x.total ≤ off + 52
    let s := canDictFrame sess (le 1 (canControl 2 last x.next) ++ le 1 (sess - 192) ++ le 1 x.reqType ++ le 1 x.reqId
      ++ slice x.data off 52) s
    if last then s.modSession sess fun c => { c with seg := none } else sendSegments sess n { x with next := x.next + 1 } s

/-- A segment acknowledge from the host: the bytes it holds are those sent, or segments are missing. -/
def takeAck (sess held : Nat) (x : SegXfer) (s : State) : State :=
  if !x.waiting then s
  else if held = min x.total (40 + 52 * x.next) then sendSegments sess 16 { x with waiting := false } s
  else abortSegment sess (abortArg abSegment (x.next % 16)) x s

/-- A dictionary frame of an open channel as the host sends it (R399). -/
def takeCanFrame (n : Nat) (f : Bytes) (s : State) : State :=
  let kind := fieldN f 0 1 / 32
  let sess := 192 + fieldN f 1 1
  if 256 ≤ sess || !s.sessOpen sess then s
  else
    let s := s.modSession sess fun c => { c with transport := 4 + n }
    match kind, (s.session sess).seg with
    | 0, _ => canRequest sess (fieldN f 3 1) (fieldN f 2 1) (okey (fieldN f 4 2) (fieldN f 6 1)) (slice f 8 (min 48 (fieldN f 7 1))) s
    | 1, _ => if fieldN f 2 1 = 2 || fieldN f 2 1 = 5 then startSegments sess f s
              else canRequest sess (fieldN f 3 1) (fieldN f 2 1) (okey (fieldN f 4 2) (fieldN f 6 1)) [] s
    | 2, some x => if x.write then takeSegment sess f x s else s
    | 3, some x => if x.write then s else takeAck sess (fieldN f 4 4) x s
    | _, _ => s

/-- The request frames a controller holds enter the engine; frames of other objects stay. -/
def drainCan (s : State) (n : Nat) : State :=
  let l := (s.can n).rx.filter fun f => f.object = 1
  let s := s.modCan n fun c => { c with rx := c.rx.filter fun f => f.object != 1 }
  l.foldl (fun s f => takeCanFrame n (slice f.data 0 56) s) s

/-- CAN_SEGMENT (R400): an initiate or segment frame of a channel arrives. -/
def execCanSegment (controller : Nat) (frame : Bytes) (s : State) : Out :=
  let kind := fieldN frame 0 1 / 32
  if kind = 1 || kind = 2 then .next (takeCanFrame (controller % 2) frame s) else .next s

/-- SEGMENT_ACKNOWLEDGE (R400): the host holds `held` bytes. -/
def execSegmentAcknowledge (channel held : Nat) (s : State) : Out :=
  match (s.session (192 + channel)).seg with
  | some x => if x.write then .next s else .next (takeAck (192 + channel) held x s)
  | none => .next s

/-- TRANSFER_TIMEOUT (R400): more than 1 s without the expected frame. -/
def execTransferTimeout (channel : Nat) (s : State) : Out :=
  match (s.session (192 + channel)).seg with
  | some x => if s.passed x.last 1001 then .next (abortSegment (192 + channel) abTimeout x s) else .next s
  | none => .next s

/-! ### Fast channels (R398, R423) -/

/-- Whether a datagram is accepted: its channel open, its epoch, its length, its tag, a sequence below 2^32, in the window and not seen. -/
def State.datagramOk (s : State) (d : Datagram) : Bool :=
  let f := s.fast d.channel
  d.channel < 64 && f.isOpen && f.epoch = some d.epoch && d.length ≤ 1424 && d.tagOk && 0 < d.seq && d.seq < 2 ^ 32
    && (f.rxTop < d.seq || (f.rxTop - d.seq < 64 && !f.seen.contains d.seq))

/-- An accepted sequence moves the window. -/
def FastChannel.note (f : FastChannel) (d : Datagram) : FastChannel :=
  let top := max f.rxTop d.seq
  { f with rxTop := top, seen := (d.seq :: f.seen).filter fun q => top - q < 64, rx := inc32 f.rx, peer := d.peer }

/-- An accepted datagram: a kept response is sent again, a request still outstanding is not repeated, another enters Q28. -/
def takeDatagram (d : Datagram) (s : State) : State :=
  let n := 128 + d.channel
  let s := s.modFast d.channel fun f => f.note d
  match (s.fast d.channel).kept.find? fun r => r.req = d.req with
  | some r => fastSend d.channel r.pdu s
  | none =>
    let c := s.session n
    if (c.queue.any fun q => q.req = d.req) || (c.order.any fun o => o.1 = d.req) then s
    else (takeRequests n [(d.req, d.pdu)] s).2

/-- The first datagram of a receive queue, and the frames without it. -/
def splitDatagram : List EthRx → Option (Datagram × List EthRx)
  | [] => none
  | f :: t => match f.content with
    | .fast d => some (d, t)
    | _ => match splitDatagram t with
      | some (d, r) => some (d, f :: r)
      | none => none

/-- FAST_CHANNEL_DATAGRAM (R423): the oldest datagram a port holds is authenticated and taken, or discarded and counted. -/
def execFastChannelDatagram (port : Nat) (s : State) : Out :=
  match splitDatagram (s.eth port).rx with
  | none => .next s
  | some (d, rest) =>
    let s := s.modEth port fun e => { e with rx := rest }
    if s.datagramOk d then .next (takeDatagram d s)
    else .next { s with sec := { s.sec with datagramsDiscarded := inc32 s.sec.datagramsDiscarded } }

/-! ### The dictionary engine (R404-R406) -/

/-- Cost of an item: at least 64, request and response bytes together. -/
def itemCost (request response : Nat) : Nat := max 64 (request + response)

/-- Whether an item is paid for in steps of at most 4,096 bytes: block data. -/
def inSteps : Pdu → Bool
  | .readBlock .. => true
  | .writeBlock .. => true
  | .read _ | .write _ | .subscribe .. | .unsubscribe _ | .commit | .describe _ | .unsupported _ | .malformed _ _ => false

/-- Serve the head request of a session: the state after it, and its cost. A response that is not there yet counts as a WRITE's, 20 bytes. -/
def serveHead (sess : Nat) (q : QItem) (s : State) : Nat × State :=
  let s0 := beginService sess q.req q.at_ (s.modSession sess fun c => { c with queue := c.queue.tail, paid := 0 })
  let t := servePdu sess q.req q.pdu s0
  let answer := if s0.dict.responses.length < t.dict.responses.length then
      (match t.dict.responses.getLast? with
       | some r => 16 + r.body.length
       | none => 20)
    else 20
  (itemCost (pduSize q.pdu) answer, t)

/-- Charge a session. -/
def charge (sess n : Nat) (s : State) : State :=
  let s := s.modSession sess fun c => { c with deficit := c.deficit - n, bytes := (c.bytes + n) % 2 ^ 64 }
  { s with dict := { s.dict with served := s.dict.served + n } }

/-- The next step of a session: what it costs, the state once it is paid. Requests come before notifications. -/
def nextStep (sess : Nat) (s : State) : Option (Nat × State) :=
  let c := s.session sess
  let step := fun (cost : Nat) (t : State) =>
    if c.paid + 4096 < cost then some (4096, s.modSession sess fun c => { c with paid := c.paid + 4096 })
    else some (cost - c.paid, t.modSession sess fun c => { c with paid := 0 })
  match c.queue, c.notes with
  | q :: _, _ =>
    let (cost, t) := serveHead sess q s
    if inSteps q.pdu then step cost t else some (cost, t)
  | [], r :: _ => step (itemCost 0 (16 + r.body.length)) (finishNote sess r s)
  | [], [] => none

/-- Serve a session as far as its deficit covers the next step (R404). -/
def serveDeficit (sess : Nat) : Nat → State → State
  | 0, s => s
  | n + 1, s =>
    match nextStep sess s with
    | none => s.modSession sess fun c => { c with deficit := 0 }
    | some (cost, t) => if cost ≤ (s.session sess).deficit then serveDeficit sess n (charge sess cost t) else s

/-- Whether a session is active: something waits and its transport can take a response. -/
def State.engineActive (s : State) (full : List Nat) (sess : Nat) : Bool :=
  (!(s.session sess).queue.isEmpty || !(s.session sess).notes.isEmpty) && s.canTransmit full sess

/-- A session's turn: its deficit grows by 1,024 bytes per unit of weight. -/
def sessionTurn (full : List Nat) (s : State) (sess : Nat) : State :=
  if s.engineActive full sess then
    serveDeficit sess 512 (s.modSession sess fun c => { c with deficit := c.deficit + 1024 * c.weight })
  else s

/-- ENGINE_ROUND (R404): requests that have come enter Q28, every active session has its turn, responses leave. `full` are the sessions whose transmit
queue is full. -/
def execEngineRound (full : List Nat) (s : State) : Out :=
  if !s.pd 1 then .next s
  else
    let s := (upFrom 0 2).foldl drainCan ((upFrom 0 2).foldl pumpPort s)
    let before := s.dict.served
    let s := s.openSessions.foldl (sessionTurn full) s
    let s := { s with dict := { s.dict with longest := max s.dict.longest ((s.dict.served - before) / 32) } }
    .next (sendResponses full s)

/-- The engine load of the second that ends (1010.07). -/
def engineLoad (s : State) : State := { s with dict := { s.dict with load := s.dict.served / 32000, served := 0 } }

/-! ### Requests served at once -/

/-- READ (R391). -/
def execRead (session req : Nat) (objects : List (Nat × Nat)) (s : State) : Out := serveNow session req (.read objects) s

/-- WRITE (R389). -/
def execWrite (session req : Nat) (entries : List Entry) (s : State) : Out := serveNow session req (.write entries) s

/-- OBJECT_WRITE (R388): a write to any object. -/
def execObjectWrite (session req index sub : Nat) (value : ObjVal) (s : State) : Out := writeNow session req index sub value s

/-- READ_BLOCK (R394). -/
def execReadBlock (session req index sub offset length : Nat) (s : State) : Out := serveNow session req (.readBlock index sub offset length) s

/-- WRITE_BLOCK (R395). -/
def execWriteBlock (session req index sub offset total crc : Nat) (final : Bool) (data : Bytes) (s : State) : Out :=
  serveNow session req (.writeBlock index sub offset total crc final data) s

/-- SUBSCRIBE (R396). -/
def execSubscribe (session req period : Nat) (objects : List (Nat × Nat)) (s : State) : Out := serveNow session req (.subscribe period objects) s

/-- UNSUBSCRIBE (R394). -/
def execUnsubscribe (session req id : Nat) (s : State) : Out := serveNow session req (.unsubscribe id) s

/-- DESCRIBE (R387). -/
def execDescribe (session req : Nat) (objects : List (Nat × Nat)) (s : State) : Out := serveNow session req (.describe objects) s

/-- TRACE_CAPTURE_READ (R310): the whole capture of buffer `b` is read; in re-arm mode the buffer arms again. -/
def execTraceCaptureRead (session req b : Nat) (s : State) : Out := serveNow session req (.readBlock (0x6400 + b) 0x0E 0 65536) s

/-- OVERFLOW_OCCURRENCES_READ (R482): 7120.04 is returned and cleared. -/
def execOverflowOccurrencesRead (session req : Nat) (s : State) : Out := serveNow session req (.read [(0x7120, 4)]) s

end Sys2Proof.Machine
end

