-- ==== Sys2Proof/Machine/Replay.lean ====
section
/-! DEFINITION. Replay (15 R449, R455-R458): an image is loaded, the buffered cycles after it are processed with their logged inputs, and the unit that
takes over or comes in goes on from the present cycle. The replay is worked on a copy of the state, of which only what an image holds is kept. -/

namespace Sys2Proof.Machine

open Sys2Proof

/-! ### Inputs at their boundary (R388, R444) -/

/-- A value of the string scope as its boundary comes: it acts as it did on the active unit. -/
def applyValue (key : Nat) (v : ObjVal) (s : State) : State := objectEffect 0xFFFF 0xFFFF 0 (key / 256) (key % 256) v s

/-- What a replicated input does in the replay. -/
def replayInput (s : State) (i : RepInput) : State :=
  match i.what with
  | .write key v => applyValue key v s
  | .epoch _ vals => loadEpoch vals (s.ahead 1) s
  | .cellCommand k cmd => cellCommand k cmd s
  | .dispatch kind id key x => queueDispatch { kind := kind, identity := id, key := key, value := x, session := 0xFFFF, req := 0, effective := s.ahead 1 } s
  | .request .. | .envelope .. | .envelopeAnswer .. | .envelopeEffective | .generation .. => s

/-- Whether a standby carries a value itself: one that can be read, a CAN channel's key (7810.01 on), or a change of the envelope key. A command object acts on the active unit alone. -/
def carries (key : Nat) : Bool :=
  match objDesc (key / 256) (key % 256) with
  | some d => d.access != 2 || (0x7810 ≤ key / 256 && key / 256 ≤ 0x784F) || key = okey 0x7850 3
  | none => false

/-- A replicated input at its boundary on a unit that counts as standby: the value is in force and kept. -/
def standbyInput (s : State) (i : RepInput) : State :=
  match i.what with
  | .write key v =>
    if carries key then
      let s := applyValue key v s
      if persists (key / 256) (key % 256) then recordValue key v i.effective none s else s
    else s
  | .epoch .. | .cellCommand .. | .dispatch .. | .request .. | .envelope .. | .envelopeAnswer .. | .envelopeEffective | .generation .. => replayInput s i

/-- Whether a replicated epoch is refused at its boundary, as the active unit refuses it (R148). -/
def State.inputRefused (s : State) (i : RepInput) : Bool :=
  match i.what with
  | .epoch _ vals => s.epochRefused vals
  | .write .. | .cellCommand .. | .dispatch .. | .request .. | .envelope .. | .envelopeAnswer .. | .envelopeEffective | .generation .. => false

/-- The replicated inputs due at this boundary; an epoch refused here is no input of a replay either. -/
def inputsBoundary (s : State) : State :=
  let all := s.pair.inputs.filter fun i => dueBy (s.ahead 1) i.effective
  let due := all.filter fun i => !s.inputRefused i
  let s := { s with pair := { s.pair with inputLog := s.pair.inputLog.filter fun i => !(all.contains i && s.inputRefused i) } }
  let s := { s with pair := { s.pair with inputs := s.pair.inputs.filter fun i => !dueBy (s.ahead 1) i.effective } }
  due.foldl standbyInput s

/-! ### The stateful state (R163, R449) -/

/-- Values of the string scope of an image over those of this unit. -/
def imageVals (img own : Tab ObjVal) : Tab ObjVal :=
  img.foldl (fun t e => match objDesc (e.1 / 256) (e.1 % 256) with
    | some d => if d.stringScope then Tab.put t e.1 e.2 else t
    | none => t) own

/-- The Cruiser of `new` with what belongs to this unit's own hardware: lanes, storage wear, ports. -/
def Cruiser.ofUnit (new own : Cruiser) : Cruiser :=
  { new with lanes := own.lanes, missedF := own.missedF, missedAt := own.missedAt, replace := own.replace, frozen := own.frozen, lifeUsed := own.lifeUsed,
             spare := own.spare, spread := own.spread, bytesWritten := own.bytesWritten, erases := own.erases, areaFill := own.areaFill,
             areaUsed := own.areaUsed, jobs := own.jobs, unitMap := own.unitMap, retired := own.retired, portsPending := own.portsPending, assign := own.assign }

/-- The Sawyer of `new` with the frames this unit has sent. -/
def Sawyer.ofUnit (new own : Sawyer) : Sawyer :=
  { new with frame := own.frame, frameOk := own.frameOk, sent := own.sent, unsent := own.unsent, unsentRun := own.unsentRun, sentRun := own.sentRun }

/-- The cells of an image on the lanes of this unit, which places them as it does (R156). -/
def onOwnLanes (img own : Tab CellState) : Tab CellState :=
  img.map fun e => (e.1, { e.2 with lane := match (Tab.at own e.1 {}).lane with
                                      | some l => some l
                                      | none => e.2.lane,
                                    nextLane := none })

/-- The copy that is worked on: the image loaded, as the unit that counted as active, with its cells on the lanes of this unit that run. -/
def loadImage (img : Image) (s : State) : State :=
  let s := { s with core := { s.core with cycle := img.cycle }, cells := onOwnLanes img.cells s.cells, points := img.points, scaler := img.scaler,
                    cruiser := img.cruiser.ofUnit s.cruiser, borer := img.borer, thin := img.thin, sawyer := img.sawyer, canopy := img.canopy,
                    dict := { s.dict with vals := imageVals img.dictVals s.dict.vals, epoch := img.epoch, commit := [], pending := [], cellCmds := [] },
                    pair := { s.pair with role := .active }, ring := { s.ring with state := .relay, originating := false, bothPorts := false } }
  replaceLanes s

/-- What the replay leaves in this unit: the stateful state, and the free values used. -/
def keepReplay (r s : State) : State :=
  { s with cells := r.cells, points := r.points, scaler := r.scaler, cruiser := r.cruiser.ofUnit s.cruiser, borer := r.borer, thin := r.thin,
           sawyer := r.sawyer.ofUnit s.sawyer, canopy := r.canopy, free := r.free }

/-! ### One buffered cycle -/

/-- An event that acts only when its condition holds, run as part of the cycle. -/
def runEvent (s : State) (f : State → Out) : State :=
  match f s with
  | .next t => t
  | .fault _ => s
  | .refused _ => s

/-- The events of the stateful blocks whose conditions State holds, in the order of their chapters; the end of discharge before the end of charge (R191). -/
def statefulEvents (s : State) : List (State → Out) :=
  let cells := s.allCells
  [execEndOfDischarge, execEndOfCharge, execEndEventRearm true, execEndEventRearm false]
    ++ cells.map execCountingDivergenceClear ++ cells.map execCellTemperatureUnknown
    ++ [execPerturbationStop, execWindowEnd, execResultApplication, execPerturbationWindowRequest, execTargetRecompute, execSlotDecision]
    ++ (upFrom 0 32).map execThresholdSample ++ (upFrom 0 32).map execEntryDwellExpired ++ (upFrom 0 32).map execExitDwellExpired
    ++ canopySlots.map execCanopyFailSafe ++ (upFrom 0 4).map execTraceCaptureComplete ++ [execDispatchLeaseExpired]

/-- The data of a buffered cycle as the lanes saw it. -/
def replayData (r : RawCycle) (s : State) : State :=
  let s := clearCycle { s with core := { s.core with cycle := r.cycle, crossed := false } }
  let s := takeRecord r.record (beginSlots s)
  let s := r.blocks.foldl (fun s b => acceptBlock b.port b.block false s) s
  r.answers.foldl (fun s a => answerEffect a.cmd a.answer s) s

/-- A buffered cycle: its data, the work of the stateful blocks, its events, and the boundary after it with the inputs logged for it. -/
def replayCycle (s : State) (r : RawCycle) : State :=
  let s := replayData r s
  let s := laneWork (computePoints { s with core := { s.core with crossed := true } })
  let s := (statefulEvents s).foldl runEvent s
  let due := s.pair.inputLog.filter fun i => i.effective = s.ahead 1
  dispatchBoundary (completeMoves (due.foldl replayInput s))

/-- The buffered cycles after an image, oldest first. -/
def State.cyclesAfter (s : State) (img : Image) : List RawCycle := (s.pair.rawBuf.filter fun r => newer r.cycle img.cycle).reverse

/-- Replay from an image. -/
def replay (img : Image) (s : State) : State := keepReplay ((s.cyclesAfter img).foldl replayCycle (loadImage img s)) s

/-- Rebuild as at BOOT, from the held image (R204, R458). -/
def rebuild (s : State) : State :=
  match s.pair.images.head? with
  | none => s
  | some img =>
    let t := keepReplay (loadImage img s) s
    t.allCells.foldl (fun s k => restartCell (widen k img.scaler.i (2000 + s.since img.cycle) s) k) t

/-! ### Catch-up (R451, R457) -/

/-- The image captured after H − 1,500, which the incoming unit replays from. -/
def State.handOverImage (s : State) : Option Image := s.pair.images.find? fun i => i.cycle + 1500 = s.pair.h

/-- CATCH_UP_COMPLETE: the replay of a unit that takes over has reached the present cycle: it is ACTIVE and its sent limits rise under the clamp
(R457, R458). The incoming unit of a hand-over is warm (R451). -/
def execCatchUpComplete (s : State) : Out :=
  if s.pair.role = .takingOver && s.pair.bridging then
    let s := if s.pair.ready.toNat % 16 = 15 then
        (match s.pair.images.head? with
         | some img => replay img s
         | none => s)
      else rebuild s
    let s := setRole .active (some 1) { s with pair := { s.pair with riseClamp := true } }
    .next (swapDone { s with pair := { s.pair with bridging := false } })
  else if s.pair.role = .incoming && s.pair.phase = 1 then
    match s.handOverImage with
    | none => .next s
    | some img =>
      let s := replay img s
      let s := (upFrom 1 4).foldl (takeAxis true img) s
      .next { s with pair := { s.pair with warm := true, phase := 2 } }
  else .next s

end Sys2Proof.Machine
end

