-- ==== Sys2Proof/Machine/Boundary.lean ====
section
/-! DEFINITION. SYNC, which begins a base cycle (R16, R44), and the boundary that ends one (R26): the Landing's image, a new table epoch, Cruiser moves and
the Yarder's bank in this order, and everything else that the chapters tie to a boundary. -/

namespace Sys2Proof.Machine

open Sys2Proof

/-- SYNC (R16, R44): the next base cycle begins. `heard` is the header of the partner's SYNC, where this unit hears one. What is left of the last cycle's
events is evaluated, and reads see the state as it stands now. A unit that waits takes over once it has heard no SYNC in 3 cycles (R437). -/
def execSync (heard : Option SyncHeader) (s : State) : Out :=
  if !s.cycling then .next s
  else
    let heard := goodHeader heard
    let s := missHeartbeat s
    let c := s.nextCycle heard
    let s := { s with core := { s.core with cycle := c, crossed := false }, power := { s.power with opTime := s.power.opTime + 1 } }
    let s := partnerLost (takeOverIfGone (publishRelation (advanceTime (hearPartner heard (clearCycle s)))))
    let s := sampleSubs { s with boundary := s.toBody }
    let s := serviceLost (evalDeferred s)
    let s := beginSlots (pollStatus s)
    let quiet := (upFrom 0 2).filter fun p => !s.originPorts.contains p
    .next (settleSleep (s.originPorts.foldl sendSync (quiet.foldl (fun s p => idlePort p s) s)))

/-! ### Clears at a boundary (R470, R74) -/

/-- Kinds that report an occurrence: they clear at the boundary after they are raised. -/
def occurrenceKinds : List Nat :=
  [0x18, 0x20, 0x21, 0x25, 0x2B, 0x50, 0x56, 0x57, 0x58, 0x59, 0x5B, 0x60, 0x70, 0x71, 0x9B, 0xA2, 0xA4, 0xA5, 0xB0, 0xB2, 0xCB, 0xCD, 0xE1, 0xE3]

/-- Whether a message is about an occurrence; of the deadlines, those of the third and fourth class are. -/
def FaultMsg.occurrence (m : FaultMsg) : Bool := occurrenceKinds.contains m.kind || (m.kind = 0xB6 && (m.val = 3 || m.val = 4))

/-- Clear what has occurred. -/
def clearOccurrences (s : State) : State :=
  let l := (s.ranger.active.map fun a => a.msg) ++ s.ranger.outbox
  (l.filter FaultMsg.occurrence).foldl (fun s m => s.clearOnce m.source m.kind m.cls m.val) s

/-- Code violations and failed commands of a port count over 1,000 cycles (R74). -/
def ringWindow (s : State) (port : Nat) : State :=
  let v := s.recent 1000 (Tab.at s.ring.violations port [])
  let f := (Tab.at s.ring.cmdFails port []).filter fun e => s.since e.1 < 1000
  let s := { s with ring := { s.ring with violations := Tab.put s.ring.violations port v, cmdFails := Tab.put s.ring.cmdFails port f } }
  let s := if v.length ≤ 10 then s.clearOnce (srcRing port) 0x26 5 port else s
  if f.isEmpty then s.clearOnce (srcRing port) 0x29 5 port else s

/-! ### The boundary (R26) -/

/-- Injections that may not go on stop (R487); held frames of a ring port are delivered within their cycle (R75). -/
def injectionBoundary (s : State) : State :=
  let s := if s.mayInject then s else (upFrom 0 7).foldl (fun s l => stopInjection l s) s
  [0, 1].foldl (fun s l => releaseHeld l s) s

/-- Whether the second ends with this cycle. -/
def State.endsSecond (s : State) : Bool := s.C % 1000 = 0

/-- Step 1: the Landing's image at the end of a second; an active unit of a pair sends it to its partner (R164, R449). -/
def captureStep (s : State) : State :=
  if s.endsSecond && s.computes then
    let s := captureImage s
    if s.inPair && s.countsActive && s.paired then tetherSend (.part s.core.cycle) s else s
  else s

/-- Step 2: a new table epoch, and the cell commands of this boundary (R27, R141). -/
def epochStep (s : State) : State :=
  let s := commitBoundary s
  let first := s.ahead 1
  let due := s.dict.cellCmds.filter fun e => dueBy first e.1
  due.foldl (fun s e => cellCommand e.2.1 e.2.2 s) { s with dict := { s.dict with cellCmds := s.dict.cellCmds.filter fun e => !dueBy first e.1 } }

/-- Step 4: the Yarder's bank, port assignments and origination. -/
def bankStep (s : State) : State := originationBoundary (stepDownBoundary (switchBank (s.ahead 1) s))

/-- Writes, envelopes and dispatch events that are in force from the next cycle on, in this order (R258, R300, R388). -/
def inputStep (s : State) : State := dispatchBoundary (applyEnvelopes (scheduleEnvelopes (writesBoundary (inputsBoundary s))))

/-- What a second's end does besides: the SoC snapshot (R202), the engine's load (R408). -/
def secondStep (s : State) : State := if s.endsSecond then engineLoad (queueSnapshot s) else s

/-- What leaves and clears at a boundary: zone levels, occurrences, the Ranger's queue, a signed snapshot, the ports' transmit queues, Q26. -/
def closeCycle (s : State) : State :=
  let s := [0, 1].foldl ringWindow (clearOccurrences (applyZones s))
  let s := takeSnapshot (drainQ24 s)
  drainQ26 ([0, 1].foldl (fun s p => drainEth p s) s)

/-- CYCLE_BOUNDARY: the boundary between this cycle and the next. -/
def execCycleBoundary (s : State) : Out :=
  if !s.cycling then .next s
  else
    let s := rawBoundary (captureStep (injectionBoundary s))
    let s := bankStep (completeMoves (epochStep (updateBoundary s)))
    .next (closeCycle (secondStep (inputStep s)))

end Sys2Proof.Machine
end

