-- ==== Sys2Proof/Machine/Commands.lean ====
section
/-! DEFINITION. The commands a session gives: requests to the operating state machine (R31), and the writes of the objects that have a command of
their own, each the write of its object by an open session (R388). -/

namespace Sys2Proof.Machine

open Sys2Proof

/-! ### Requests of R31 -/

/-- Whether a session may make a request, as an abort code (R31, R419): close and open need the Operator role or the lease, reset the Operator role, SERVICE
and its exit the Engineer role, clear the Integrator role. -/
def State.requestRole (s : State) (kind : SmKind) (session : Nat) : Nat :=
  let need := match kind with
    | .clear => 5
    | .service | .exit => 4
    | _ => 2
  if s.meets session need || ((kind = .close || kind = .openRequest) && s.meets session 8) then 0 else roleAbort need

/-- A request of an open session to the operating state machine: an unadopted module refuses it (R384), as does a session without the role it needs (R31,
R419) and a standby (R33, R385); one that is taken is told to the partner. CLOSE is refused during a hand-over (R450). `code` is the request's code in the replicated input. -/
def stateRequest (kind : SmKind) (code session req : Nat) (s : State) : Out :=
  let e : SmEvent := { kind := kind, session := session, req := req }
  if !s.sessOpen session then .next s
  else
    let s := beginService session req s.core.cycle s
    if !s.sec.adopted then .next (s.reply session req 2 abUnadopted)
    else if s.requestRole kind session != 0 then .next (s.reply session req 2 (s.requestRole kind session))
    else if s.inPair && s.countsStandby then .next (s.reply session req 2 abStandby)
    else if kind = .close && s.handingOver then .next (s.reply session req 2 abHandOver)
    else if (smTarget s s.core.opState e).isSome then .next (smEvent e (replicate (.request code) s.effective s))
    else .next (smEvent e s)

/-- CLOSE_REQUEST (R31): the close checks start. -/
def execCloseRequest (session req : Nat) (s : State) : Out := stateRequest .close 0 session req s

/-- OPEN_REQUEST (R31): the set-point ramps to zero and the contactors open. -/
def execOpenRequest (session req : Nat) (s : State) : Out := stateRequest .openRequest 1 session req s

/-- SERVICE_REQUEST (R31): balancing stops, manual motion is released. -/
def execServiceRequest (session req : Nat) (s : State) : Out := stateRequest .service 2 session req s

/-- EXIT_REQUEST (R31): back to ISOLATED once the axes have stopped. -/
def execExitRequest (session req : Nat) (s : State) : Out := stateRequest .exit 3 session req s

/-- RESET_REQUEST (R31): TRIP-PCS is released. -/
def execResetRequest (session req : Nat) (s : State) : Out := stateRequest .reset 4 session req s

/-- CLEAR_REQUEST (R31): the lockout latch is cleared. -/
def execClearRequest (session req : Nat) (s : State) : Out := stateRequest .clear 5 session req s

/-! ### The Tally (16) -/

/-- TALLY_READ: reading 8A10.02 returns records from the session's cursor and advances it (R495); 1,016 bytes on READ, up to 65,536 on READ-BLOCK. -/
def execTallyRead (session req : Nat) (block : Bool) (s : State) : Out :=
  serveNow session req (if block then .readBlock 0x8A10 2 0 65536 else .read [(0x8A10, 2)]) s

/-! ### Operating state, front-end, ring and taps (01 to 04) -/

/-- SLEEP_REQUEST (R523): a write of 1 to 9050.01. -/
def execSleepRequest (session req : Nat) (s : State) : Out := writeNow session req 0x9050 1 (.num 1) s

/-- AUTO_ZERO_REQUEST (R113): a write of 1 to 2010.06. -/
def execAutoZeroRequest (session req : Nat) (s : State) : Out := writeNow session req 0x2010 6 (.num 1) s

/-- INJECTION_ENABLE (R123): a write to 2012.03. -/
def execInjectionEnable (session req : Nat) (on : Bool) (s : State) : Out := writeNow session req 0x2012 3 (.num (b2n on)) s

/-- UNWRAP_RELEASE (R66): a write of 1 to 2100.06. -/
def execUnwrapRelease (session req : Nat) (s : State) : Out := writeNow session req 0x2100 6 (.num 1) s

/-- RE_ENUMERATE (R68): a write of 1 to 2100.07. -/
def execReEnumerate (session req : Nat) (s : State) : Out := writeNow session req 0x2100 7 (.num 1) s

/-- RING_COUNTER_CLEAR (R74): a write of 1 to 2110.0C or 2111.0C, by port. -/
def execRingCounterClear (session req : Nat) (port : Nat) (s : State) : Out := writeNow session req (0x2110 + port) 0x0C (.num 1) s

/-- OPEN_WIRE_TEST_REQUEST (R101): a write to 2103.06 of head and tap, 0xFF all taps. -/
def execOpenWireTestRequest (session req : Nat) (head tap : Nat) (s : State) : Out := writeNow session req 0x2103 6 (.num (256 * head + tap : Nat)) s

/-- SENSE_LOST_CLEAR (R107): a write to 2103.05 of head and tap. -/
def execSenseLostClear (session req : Nat) (head tap : Nat) (s : State) : Out := writeNow session req 0x2103 5 (.num (256 * head + tap : Nat)) s

/-- BLEED_GATE_FAILURE_CLEAR (R96): a write of P to 2103.08. -/
def execBleedGateFailureClear (session req : Nat) (head : Nat) (s : State) : Out := writeNow session req 0x2103 8 (.num head) s

/-! ### Tables, staging and cells (05 to 08) -/

/-- STAGED_WRITE (R146): a write to a configuration field. -/
def execStagedWrite (session req : Nat) (index sub : Nat) (value : ObjVal) (s : State) : Out := writeNow session req index sub value s

/-- COMMIT (R148): the COMMIT request. -/
def execCommit (session req : Nat) (s : State) : Out := serveNow session req .commit s

/-- DISCARD_STAGING (R146): a write of 1 to 1F00.03. -/
def execDiscardStaging (session req : Nat) (s : State) : Out := writeNow session req 0x1F00 3 (.num 1) s

/-- INSERTION_COMMAND (R141): cell command 0x01. -/
def execInsertionCommand (session req : Nat) (cell : Nat) (s : State) : Out := writeNow session req (0x3000 + cell - 1) 0x41 (.num 1) s

/-- CAPACITY_RESET (R196): cell command 0x02. -/
def execCapacityReset (session req : Nat) (cell : Nat) (s : State) : Out := writeNow session req (0x3000 + cell - 1) 0x41 (.num 2) s

/-- CYCLE_COUNT_RESET (R196): cell command 0x03. -/
def execCycleCountReset (session req : Nat) (cell : Nat) (s : State) : Out := writeNow session req (0x3000 + cell - 1) 0x41 (.num 3) s

/-- CHEMISTRY_TABLE_WRITE (R181): a table written whole to 4010 + slot. -/
def execChemistryTableWrite (session req : Nat) (slot : Nat) (table : Bytes) (s : State) : Out := writeNow session req (0x4010 + slot) 1 (.bytes table) s

/-- EXTREMES_CLEAR (R169): a write of 1 to 3400 + n.27. -/
def execExtremesClear (session req : Nat) (point : Nat) (s : State) : Out := writeNow session req (0x3400 + point) 0x27 (.num 1) s

/-- LANE_DRAIN_REQUEST (R161): a write to 4705.01. -/
def execLaneDrainRequest (session req : Nat) (lane : Nat) (s : State) : Out := writeNow session req 0x4705 1 (.num lane) s

/-- SWEEP_REQUEST (R210): a write to 4800.07. -/
def execSweepRequest (session req : Nat) (hours : Nat) (s : State) : Out := writeNow session req 0x4800 7 (.num hours) s

/-- IMPEDANCE_TABLE_RESET (R224): a write of 1 to 4C00 + k − 1.08. -/
def execImpedanceTableReset (session req : Nat) (cell : Nat) (s : State) : Out := writeNow session req (0x4C00 + cell - 1) 8 (.num 1) s

/-- SUSPICION_CLEAR (R232): a write to 4802.05. -/
def execSuspicionClear (session req : Nat) (cell : Nat) (s : State) : Out := writeNow session req 0x4802 5 (.num cell) s

/-- SWITCH_TEST_REQUEST (R246): a write of P, or 0xFF for all heads, to 5000.0B. -/
def execSwitchTestRequest (session req : Nat) (head : Nat) (s : State) : Out := writeNow session req 0x5000 0x0B (.num head) s

/-- EXCLUSION_CLEAR (R250): a write to 5000.0F. -/
def execExclusionClear (session req : Nat) (cell : Nat) (s : State) : Out := writeNow session req 0x5000 0x0F (.num cell) s

/-! ### Envelope and dispatch (09, 10) -/

/-- ENVELOPE_INSTALL (R428): a document written to 7850.01. -/
def execEnvelopeInstall (session req : Nat) (document : Bytes) (s : State) : Out := writeNow session req 0x7850 1 (.bytes document) s

/-- ENVELOPE_KEY_CHANGE (R430): a document written to 7850.03. -/
def execEnvelopeKeyChange (session req : Nat) (document : Bytes) (s : State) : Out := writeNow session req 0x7850 3 (.bytes document) s

/-- CLAIM (R298): a write of 1 to 6108.01. -/
def execClaim (session req : Nat) (s : State) : Out := writeNow session req 0x6108 1 (.num 1) s

/-- RENEW (R298): a write of 1 to 6108.02. -/
def execRenew (session req : Nat) (s : State) : Out := writeNow session req 0x6108 2 (.num 1) s

/-- RELEASE (R299): a write of 1 to 6108.03. -/
def execRelease (session req : Nat) (s : State) : Out := writeNow session req 0x6108 3 (.num 1) s

/-- REVOKE (R299): a write of 1 to 6108.07. -/
def execRevoke (session req : Nat) (s : State) : Out := writeNow session req 0x6108 7 (.num 1) s

/-- DISPATCH_REQUEST_WRITE (R297): a write to 6100.02 mode, .03 current or .04 power. -/
def execDispatchRequestWrite (session req : Nat) (sub : Nat) (value : Int) (s : State) : Out := writeNow session req 0x6100 sub (.num value) s

/-- SLOT_MODE_WRITE (R287): a write to 6010 + s.01. -/
def execSlotModeWrite (session req : Nat) (slot mode : Nat) (s : State) : Out := writeNow session req (0x6010 + slot) 1 (.num mode) s

/-- TRACE_ARM_SINGLE (R310): a write of 1 to 6400 + b.0C. -/
def execTraceArmSingle (session req : Nat) (b : Nat) (s : State) : Out := writeNow session req (0x6400 + b) 0x0C (.num 1) s

/-- TRACE_ARM_REARM (R310): a write of 2 to 6400 + b.0C. -/
def execTraceArmRearm (session req : Nat) (b : Nat) (s : State) : Out := writeNow session req (0x6400 + b) 0x0C (.num 2) s

/-- TRACE_DISARM (R310): a write of 0 to 6400 + b.0C. -/
def execTraceDisarm (session req : Nat) (b : Nat) (s : State) : Out := writeNow session req (0x6400 + b) 0x0C (.num 0) s

/-- TRACE_SOFTWARE_TRIGGER (R310): a write of 3 to 6400 + b.0C. -/
def execTraceSoftwareTrigger (session req : Nat) (b : Nat) (s : State) : Out := writeNow session req (0x6400 + b) 0x0C (.num 3) s

/-! ### Motion (11) -/

/-- CHOPPER_RESTORE (R330): a write of 1 to 6860 + a − 1.10. -/
def execChopperRestore (session req : Nat) (axis : Nat) (s : State) : Out := writeNow session req (0x685F + axis) 0x10 (.num 1) s

/-- HOME_REQUEST (R336): a write of 1 to 6880 + a − 1.07. -/
def execHomeRequest (session req : Nat) (axis : Nat) (s : State) : Out := writeNow session req (0x687F + axis) 7 (.num 1) s

/-- DISCONNECTOR_STOP (R337): command 0 to 68B0.01. -/
def execDisconnectorStop (session req : Nat) (s : State) : Out := writeNow session req 0x68B0 1 (.num 0) s

/-- DISCONNECTOR_CLOSE (R337): command 1 to 68B0.01. -/
def execDisconnectorClose (session req : Nat) (s : State) : Out := writeNow session req 0x68B0 1 (.num 1) s

/-- DISCONNECTOR_OPEN (R337): command 2 to 68B0.01. -/
def execDisconnectorOpen (session req : Nat) (s : State) : Out := writeNow session req 0x68B0 1 (.num 2) s

/-- MANUAL_TARGET (R325): a write to 6870 + a − 1.07. -/
def execManualTarget (session req : Nat) (axis : Nat) (target : Int) (s : State) : Out := writeNow session req (0x686F + axis) 7 (.num target) s

/-! ### Clock, links and sessions (12, 13) -/

/-- TIME_SOURCE_WRITE (R351): a write to 7100.01. -/
def execTimeSourceWrite (session req : Nat) (source : Nat) (s : State) : Out := writeNow session req 0x7100 1 (.num source) s

/-- LOCAL_TIME_WRITE (R351): a write to 7100.03. -/
def execLocalTimeWrite (session req : Nat) (time : Bytes) (s : State) : Out := writeNow session req 0x7100 3 (.bytes time) s

/-- Q26_OVERFLOW_CLEAR (R481): a W1C of 7120.03; with `race` a set reaches the flag within the clear's clocks, and wins. -/
def execQ26OverflowClear (session req : Nat) (race : Bool) (s : State) : Out :=
  if race && s.sessOpen session && s.entryCheck session 0x7120 3 (.num 1) = 0 then
    .next ((effOverflowClear true (beginService session req s.core.cycle s)).reply session req 2 0)
  else writeNow session req 0x7120 3 (.num 1) s

/-- PULSE_PARAMETER_WRITE (R360): a write to 7130 + o. -/
def execPulseParameterWrite (session req : Nat) (output sub : Nat) (value : ObjVal) (s : State) : Out := writeNow session req (0x7130 + output) sub value s

/-- BUS_OFF_RECOVERY (R369): a write of 1 to 7200.09 or 7201.09. -/
def execBusOffRecovery (session req : Nat) (controller : Nat) (s : State) : Out := writeNow session req (0x7200 + controller) 9 (.num 1) s

/-- END_SESSION (R403): a write of 1 to 1100 + s.0C. -/
def execEndSession (session req : Nat) (target : Nat) (s : State) : Out := writeNow session req (0x1100 + target) 0x0C (.num 1) s

/-- CHANNEL_ENABLE (R403): a write to 7810 + ch.04. -/
def execChannelEnable (session req : Nat) (channel : Nat) (on : Bool) (s : State) : Out := writeNow session req (0x7810 + channel) 4 (.num (b2n on)) s

/-! ### Security and pair (14, 15) -/

/-- FAST_CHANNEL_OPEN (R422): a write of 1 to 7860.01. -/
def execFastChannelOpen (session req : Nat) (s : State) : Out := writeNow session req 0x7860 1 (.num 1) s

/-- FAST_CHANNEL_CLOSE (R422): a write of 0 to 7860.01. -/
def execFastChannelClose (session req : Nat) (s : State) : Out := writeNow session req 0x7860 1 (.num 0) s

/-- ADOPTION_REQUEST (R413): a document written to 7801.01. -/
def execAdoptionRequest (session req : Nat) (document : Bytes) (s : State) : Out := writeNow session req 0x7801 1 (.bytes document) s

/-- DE_ADOPT (R415): a write of 1 to 7801.02. -/
def execDeAdopt (session req : Nat) (s : State) : Out := writeNow session req 0x7801 2 (.num 1) s

/-- TRUST_ANCHOR_WRITE (R417): a write to 7802 + anchor − 1, .01 certificate or .02 permitted roles. -/
def execTrustAnchorWrite (session req : Nat) (anchor sub : Nat) (value : ObjVal) (s : State) : Out := writeNow session req (0x7801 + anchor) sub value s

/-- DENIAL_LIST_WRITE (R421): a write to 7808.01. -/
def execDenialListWrite (session req : Nat) (digests : Bytes) (s : State) : Out := writeNow session req 0x7808 1 (.bytes digests) s

/-- CHANNEL_KEY_WRITE (R424): a write to 7810 + ch.01. -/
def execChannelKeyWrite (session req : Nat) (channel : Nat) (key : Bytes) (s : State) : Out := writeNow session req (0x7810 + channel) 1 (.bytes key) s

/-- SIGNED_SNAPSHOT (R431): a nonce written to 7870.01. -/
def execSignedSnapshot (session req : Nat) (nonce : Bytes) (s : State) : Out := writeNow session req 0x7870 1 (.bytes nonce) s

/-- ATTESTATION (R432): a nonce written to 7871.01. -/
def execAttestation (session req : Nat) (nonce : Bytes) (s : State) : Out := writeNow session req 0x7871 1 (.bytes nonce) s

/-- PARTNER_ADOPTION_CODE (R463): a write to 8050.01. -/
def execPartnerAdoptionCode (session req : Nat) (code : Bytes) (s : State) : Out := writeNow session req 0x8050 1 (.bytes code) s

/-- HAND_OVER_REQUEST (R450): a write of 1 to 8020.01. -/
def execHandOverRequest (session req : Nat) (s : State) : Out := writeNow session req 0x8020 1 (.num 1) s

/-- HAND_OVER_CANCEL (R465): a write of 0 to 8020.01. -/
def execHandOverCancel (session req : Nat) (s : State) : Out := writeNow session req 0x8020 1 (.num 0) s

/-- GRANT (R459): a write of the round number to 8030.03. -/
def execGrant (session req : Nat) (round : Nat) (s : State) : Out := writeNow session req 0x8030 3 (.num round) s

/-- DENIAL (R459): a write of the round number to 8030.04. -/
def execDenial (session req : Nat) (round : Nat) (s : State) : Out := writeNow session req 0x8030 4 (.num round) s

/-! ### Faults, power, update (16 to 18) -/

/-- FIRST_FAULT_REARM (R478): bit [0] of 8801.04. -/
def execFirstFaultRearm (session req : Nat) (s : State) : Out := writeNow session req 0x8801 4 (.num 1) s

/-- FIRST_TRIP_REARM (R478): bit [1] of 8801.04. -/
def execFirstTripRearm (session req : Nat) (s : State) : Out := writeNow session req 0x8801 4 (.num 2) s

/-- PROVOKED_FAULT_ARM (R487): a write of 1 to A010 + link.01. -/
def execProvokedFaultArm (session req : Nat) (link : Nat) (s : State) : Out := writeNow session req (0xA010 + link) 1 (.num 1) s

/-- PROVOKED_FAULT_STOP (R487): a write of 0 to A010 + link.01. -/
def execProvokedFaultStop (session req : Nat) (link : Nat) (s : State) : Out := writeNow session req (0xA010 + link) 1 (.num 0) s

/-- KEEP_AREA_CLEAR (R490): a write of 1 to 8A00.06. -/
def execKeepAreaClear (session req : Nat) (s : State) : Out := writeNow session req 0x8A00 6 (.num 1) s

/-- RESTART_REQUEST (R506): a write of 1 to 9010.01. -/
def execRestartRequest (session req : Nat) (s : State) : Out := writeNow session req 0x9010 1 (.num 1) s

/-- RULE_TABLE_WRITE (R519): a table written to 9040.01. -/
def execRuleTableWrite (session req : Nat) (table : Bytes) (s : State) : Out := writeNow session req 0x9040 1 (.bytes table) s

/-- PACKAGE_LENGTH (R541): a write to 9820.02. -/
def execPackageLength (session req : Nat) (length : Nat) (s : State) : Out := writeNow session req 0x9820 2 (.num length) s

/-- STAGING_CHUNK (R541): a chunk written to 9820.01. -/
def execStagingChunk (session req : Nat) (chunk : Bytes) (s : State) : Out := writeNow session req 0x9820 1 (.bytes chunk) s

/-- PACKAGE_DIGEST (R541): a write to 9820.03. -/
def execPackageDigest (session req : Nat) (digest : Bytes) (s : State) : Out := writeNow session req 0x9820 3 (.bytes digest) s

/-- UPDATE_START (R542): a write of 1 to 9830.02. -/
def execUpdateStart (session req : Nat) (s : State) : Out := writeNow session req 0x9830 2 (.num 1) s

/-- UPDATE_STOP (R542): a write of 0 to 9830.02. -/
def execUpdateStop (session req : Nat) (s : State) : Out := writeNow session req 0x9830 2 (.num 0) s

/-- GENERATION_ADVANCE (R540): a write of 2 to 9830.02. -/
def execGenerationAdvance (session req : Nat) (s : State) : Out := writeNow session req 0x9830 2 (.num 2) s

/-- UPDATE_CONFIRM (R548): a write of 3 to 9830.02. -/
def execUpdateConfirm (session req : Nat) (s : State) : Out := writeNow session req 0x9830 2 (.num 3) s

/-- ROLL_BACK (R549): a write of 4 to 9830.02. -/
def execRollBack (session req : Nat) (s : State) : Out := writeNow session req 0x9830 2 (.num 4) s

end Sys2Proof.Machine
end

