-- ==== Sys2Proof/Machine/Dispatch.lean ====
section
/-! DEFINITION. One arm per command: the direct call of its meaning. -/

namespace Sys2Proof.Machine

open Sys2Proof

/-- What a command does to everything but the queue of waiting commands. -/
def exec (i : Instr) (s : State) : Host.Outcome State Fault Refusal :=
  match i with
  | .sync heard => Sys2Proof.Machine.execSync heard s
  | .stringRecord heard => Sys2Proof.Machine.execStringRecord heard s
  | .cycleBoundary => Sys2Proof.Machine.execCycleBoundary s
  | .headSyncReceive place port hdr => Sys2Proof.Machine.execHeadSyncReceive place port hdr s
  | .headSample place cells stack temps die => Sys2Proof.Machine.execHeadSample place cells stack temps die s
  | .containerPass place fil => Sys2Proof.Machine.execContainerPass place fil s
  | .quietWindowOpen place => Sys2Proof.Machine.execQuietWindowOpen place s
  | .quietWindowClose place => Sys2Proof.Machine.execQuietWindowClose place s
  | .frontEndSample x aux => Sys2Proof.Machine.execFrontEndSample x aux s
  | .fastSample main hall => Sys2Proof.Machine.execFastSample main hall s
  | .hallComparatorTrip => Sys2Proof.Machine.execHallComparatorTrip s
  | .headBlockReceive port blk => Sys2Proof.Machine.execHeadBlockReceive port blk s
  | .headSumMismatch p => Sys2Proof.Machine.execHeadSumMismatch p s
  | .stringSumMismatch => Sys2Proof.Machine.execStringSumMismatch s
  | .cellsUnmeasured k => Sys2Proof.Machine.execCellsUnmeasured k s
  | .temperaturePointLost n => Sys2Proof.Machine.execTemperaturePointLost n s
  | .headTemperatureLost p => Sys2Proof.Machine.execHeadTemperatureLost p s
  | .firebreakCauseClear bit cls val => Sys2Proof.Machine.execFirebreakCauseClear bit cls val s
  | .breakDecision us => Sys2Proof.Machine.execBreakDecision us s
  | .breakWaitExpiry us => Sys2Proof.Machine.execBreakWaitExpiry us s
  | .cycleDataCrossing missed => Sys2Proof.Machine.execCycleDataCrossing missed s
  | .closeRequest session req => Sys2Proof.Machine.execCloseRequest session req s
  | .checksPass => Sys2Proof.Machine.execChecksPass s
  | .precheckTimeout => Sys2Proof.Machine.execPrecheckTimeout s
  | .closeTimeout => Sys2Proof.Machine.execCloseTimeout s
  | .pullInEnd k => Sys2Proof.Machine.execPullInEnd k s
  | .openRequest session req => Sys2Proof.Machine.execOpenRequest session req s
  | .openRequestTimeout => Sys2Proof.Machine.execOpenRequestTimeout s
  | .serviceRequest session req => Sys2Proof.Machine.execServiceRequest session req s
  | .exitRequest session req => Sys2Proof.Machine.execExitRequest session req s
  | .resetRequest session req => Sys2Proof.Machine.execResetRequest session req s
  | .clearRequest session req => Sys2Proof.Machine.execClearRequest session req s
  | .sleepRequest session req => Sys2Proof.Machine.execSleepRequest session req s
  | .auxContactChange k no nc => Sys2Proof.Machine.execAuxContactChange k no nc s
  | .auxiliaryContactFault k => Sys2Proof.Machine.execAuxiliaryContactFault k s
  | .coilDriveFault k within => Sys2Proof.Machine.execCoilDriveFault k within s
  | .weldCheckAuxTimeout => Sys2Proof.Machine.execWeldCheckAuxTimeout s
  | .weldCheckVoltageStage => Sys2Proof.Machine.execWeldCheckVoltageStage s
  | .weldWaitExpiry => Sys2Proof.Machine.execWeldWaitExpiry s
  | .autoZeroRequest session req => Sys2Proof.Machine.execAutoZeroRequest session req s
  | .autoZeroTimer => Sys2Proof.Machine.execAutoZeroTimer s
  | .autoZeroStart => Sys2Proof.Machine.execAutoZeroStart s
  | .autoZeroComplete mainOffset hallOffset baseplate => Sys2Proof.Machine.execAutoZeroComplete mainOffset hallOffset baseplate s
  | .inServiceZero => Sys2Proof.Machine.execInServiceZero s
  | .insulationHalfPeriodEnd leak drift cap pos => Sys2Proof.Machine.execInsulationHalfPeriodEnd leak drift cap pos s
  | .insulationResultStale => Sys2Proof.Machine.execInsulationResultStale s
  | .injectionEnable session req on => Sys2Proof.Machine.execInjectionEnable session req on s
  | .losDeclared port code disparity late => Sys2Proof.Machine.execLosDeclared port code disparity late s
  | .losCleared port => Sys2Proof.Machine.execLosCleared port s
  | .headWrap input => Sys2Proof.Machine.execHeadWrap input s
  | .syncNotReturned port late => Sys2Proof.Machine.execSyncNotReturned port late s
  | .headUnreachable p => Sys2Proof.Machine.execHeadUnreachable p s
  | .farSideRestored far => Sys2Proof.Machine.execFarSideRestored far s
  | .unwrapRelease session req => Sys2Proof.Machine.execUnwrapRelease session req s
  | .headReadmission p ident => Sys2Proof.Machine.execHeadReadmission p ident s
  | .enumeration near far closed endHop endPath => Sys2Proof.Machine.execEnumeration near far closed endHop endPath s
  | .enumerationComplete => Sys2Proof.Machine.execEnumerationComplete s
  | .reEnumerate session req => Sys2Proof.Machine.execReEnumerate session req s
  | .commandFrameReturn port seq addr answer relayed => Sys2Proof.Machine.execCommandFrameReturn port seq addr answer relayed s
  | .ringCounterClear session req port => Sys2Proof.Machine.execRingCounterClear session req port s
  | .identify place f => Sys2Proof.Machine.execIdentify place f s
  | .openHead place f => Sys2Proof.Machine.execOpenHead place f s
  | .setPosition place f payload => Sys2Proof.Machine.execSetPosition place f payload s
  | .setDelay place f payload => Sys2Proof.Machine.execSetDelay place f payload s
  | .configure place f payload => Sys2Proof.Machine.execConfigure place f payload s
  | .unwrap place f => Sys2Proof.Machine.execUnwrap place f s
  | .bleedSlot place f payload => Sys2Proof.Machine.execBleedSlot place f payload s
  | .bleedSlotStart place => Sys2Proof.Machine.execBleedSlotStart place s
  | .bleedOff place f => Sys2Proof.Machine.execBleedOff place f s
  | .owTest place f payload => Sys2Proof.Machine.execOwTest place f payload s
  | .switchTest place f payload => Sys2Proof.Machine.execSwitchTest place f payload s
  | .readStatus place f => Sys2Proof.Machine.execReadStatus place f s
  | .testRef place f payload => Sys2Proof.Machine.execTestRef place f payload s
  | .restart place f payload => Sys2Proof.Machine.execRestart place f payload s
  | .echo place f payload => Sys2Proof.Machine.execEcho place f payload s
  | .headCycleMissing place => Sys2Proof.Machine.execHeadCycleMissing place s
  | .headSyncLost place => Sys2Proof.Machine.execHeadSyncLost place s
  | .headInitialState place => Sys2Proof.Machine.execHeadInitialState place s
  | .headLowPower place => Sys2Proof.Machine.execHeadLowPower place s
  | .headWake place => Sys2Proof.Machine.execHeadWake place s
  | .openWireTestSchedule p => Sys2Proof.Machine.execOpenWireTestSchedule p s
  | .openWireTestRequest session req head tap => Sys2Proof.Machine.execOpenWireTestRequest session req head tap s
  | .openWireEvaluation p => Sys2Proof.Machine.execOpenWireEvaluation p s
  | .tapSuspicionTimeout p tap => Sys2Proof.Machine.execTapSuspicionTimeout p tap s
  | .senseLostClear session req head tap => Sys2Proof.Machine.execSenseLostClear session req head tap s
  | .bleedGateFailureClear session req head => Sys2Proof.Machine.execBleedGateFailureClear session req head s
  | .stagedWrite session req index sub value => Sys2Proof.Machine.execStagedWrite session req index sub value s
  | .commit session req => Sys2Proof.Machine.execCommit session req s
  | .discardStaging session req => Sys2Proof.Machine.execDiscardStaging session req s
  | .stagingIdleTimeout => Sys2Proof.Machine.execStagingIdleTimeout s
  | .insertionCommand session req cell => Sys2Proof.Machine.execInsertionCommand session req cell s
  | .capacityReset session req cell => Sys2Proof.Machine.execCapacityReset session req cell s
  | .cycleCountReset session req cell => Sys2Proof.Machine.execCycleCountReset session req cell s
  | .chemistryTableWrite session req slot table => Sys2Proof.Machine.execChemistryTableWrite session req slot table s
  | .tableEntryRepaired cellEntry state n => Sys2Proof.Machine.execTableEntryRepaired cellEntry state n s
  | .pointStale n => Sys2Proof.Machine.execPointStale n s
  | .extremesClear session req point => Sys2Proof.Machine.execExtremesClear session req point s
  | .laneDrainRequest session req lane => Sys2Proof.Machine.execLaneDrainRequest session req lane s
  | .storageCheckpoint failed => Sys2Proof.Machine.execStorageCheckpoint failed s
  | .minuteAggregate => Sys2Proof.Machine.execMinuteAggregate s
  | .hourAggregate => Sys2Proof.Machine.execHourAggregate s
  | .wearSwap => Sys2Proof.Machine.execWearSwap s
  | .cellTemperatureUnknown k => Sys2Proof.Machine.execCellTemperatureUnknown k s
  | .endOfCharge => Sys2Proof.Machine.execEndOfCharge s
  | .endOfDischarge => Sys2Proof.Machine.execEndOfDischarge s
  | .endEventRearm charge => Sys2Proof.Machine.execEndEventRearm charge s
  | .countingDivergenceClear k => Sys2Proof.Machine.execCountingDivergenceClear k s
  | .stateRebuild badTables => Sys2Proof.Machine.execStateRebuild badTables s
  | .perturbationWindowRequest => Sys2Proof.Machine.execPerturbationWindowRequest s
  | .perturbationStop => Sys2Proof.Machine.execPerturbationStop s
  | .sweepRequest session req hours => Sys2Proof.Machine.execSweepRequest session req hours s
  | .windowEnd => Sys2Proof.Machine.execWindowEnd s
  | .resultApplication => Sys2Proof.Machine.execResultApplication s
  | .impedanceAgeAdvance => Sys2Proof.Machine.execImpedanceAgeAdvance s
  | .impedanceTableReset session req cell => Sys2Proof.Machine.execImpedanceTableReset session req cell s
  | .healthEvaluation => Sys2Proof.Machine.execHealthEvaluation s
  | .restSnapshot => Sys2Proof.Machine.execRestSnapshot s
  | .restEvaluation => Sys2Proof.Machine.execRestEvaluation s
  | .suspicionClear session req cell => Sys2Proof.Machine.execSuspicionClear session req cell s
  | .targetRecompute => Sys2Proof.Machine.execTargetRecompute s
  | .slotDecision => Sys2Proof.Machine.execSlotDecision s
  | .bleedSlotUnacknowledged p => Sys2Proof.Machine.execBleedSlotUnacknowledged p s
  | .switchTestSchedule => Sys2Proof.Machine.execSwitchTestSchedule s
  | .switchTestRequest session req head => Sys2Proof.Machine.execSwitchTestRequest session req head s
  | .switchTestEvaluation p => Sys2Proof.Machine.execSwitchTestEvaluation p s
  | .exclusionClear session req cell => Sys2Proof.Machine.execExclusionClear session req cell s
  | .envelopeInstall session req document => Sys2Proof.Machine.execEnvelopeInstall session req document s
  | .firebreakSelfTest pass => Sys2Proof.Machine.execFirebreakSelfTest pass s
  | .envelopeKeyChange session req document => Sys2Proof.Machine.execEnvelopeKeyChange session req document s
  | .protectionSummaryCompare partner => Sys2Proof.Machine.execProtectionSummaryCompare partner s
  | .claim session req => Sys2Proof.Machine.execClaim session req s
  | .renew session req => Sys2Proof.Machine.execRenew session req s
  | .release session req => Sys2Proof.Machine.execRelease session req s
  | .revoke session req => Sys2Proof.Machine.execRevoke session req s
  | .dispatchLeaseExpired => Sys2Proof.Machine.execDispatchLeaseExpired s
  | .dispatchRequestWrite session req sub value => Sys2Proof.Machine.execDispatchRequestWrite session req sub value s
  | .slotModeWrite session req slot mode => Sys2Proof.Machine.execSlotModeWrite session req slot mode s
  | .traceArmSingle session req b => Sys2Proof.Machine.execTraceArmSingle session req b s
  | .traceArmRearm session req b => Sys2Proof.Machine.execTraceArmRearm session req b s
  | .traceDisarm session req b => Sys2Proof.Machine.execTraceDisarm session req b s
  | .traceSoftwareTrigger session req b => Sys2Proof.Machine.execTraceSoftwareTrigger session req b s
  | .traceCaptureComplete b => Sys2Proof.Machine.execTraceCaptureComplete b s
  | .traceCaptureRead session req b => Sys2Proof.Machine.execTraceCaptureRead session req b s
  | .thresholdSample j => Sys2Proof.Machine.execThresholdSample j s
  | .entryDwellExpired j => Sys2Proof.Machine.execEntryDwellExpired j s
  | .exitDwellExpired j => Sys2Proof.Machine.execExitDwellExpired j s
  | .canopyFailSafe n => Sys2Proof.Machine.execCanopyFailSafe n s
  | .axisTargetChange a now => Sys2Proof.Machine.execAxisTargetChange a now s
  | .standstillDelay a => Sys2Proof.Machine.execStandstillDelay a s
  | .chopperFallBack a fails => Sys2Proof.Machine.execChopperFallBack a fails s
  | .chopperRestore session req axis => Sys2Proof.Machine.execChopperRestore session req axis s
  | .stepLoss a now => Sys2Proof.Machine.execStepLoss a now s
  | .switchEdge a input level latched edges now => Sys2Proof.Machine.execSwitchEdge a input level latched edges now s
  | .gearingLag a now => Sys2Proof.Machine.execGearingLag a now s
  | .homeRequest session req axis => Sys2Proof.Machine.execHomeRequest session req axis s
  | .disconnectorStop session req => Sys2Proof.Machine.execDisconnectorStop session req s
  | .disconnectorClose session req => Sys2Proof.Machine.execDisconnectorClose session req s
  | .disconnectorOpen session req => Sys2Proof.Machine.execDisconnectorOpen session req s
  | .travelTimeout => Sys2Proof.Machine.execTravelTimeout s
  | .manualTarget session req axis target => Sys2Proof.Machine.execManualTarget session req axis target s
  | .ethernetFrameReceive port frame => Sys2Proof.Machine.execEthernetFrameReceive port frame s
  | .linkLoss port => Sys2Proof.Machine.execLinkLoss port s
  | .prpSupervision => Sys2Proof.Machine.execPrpSupervision s
  | .ptpMessageReceive port => Sys2Proof.Machine.execPtpMessageReceive port s
  | .offsetMeasured offset => Sys2Proof.Machine.execOffsetMeasured offset s
  | .announceReceiptTimeout port sync => Sys2Proof.Machine.execAnnounceReceiptTimeout port sync s
  | .holdoverExpiry => Sys2Proof.Machine.execHoldoverExpiry s
  | .timeSourceWrite session req source => Sys2Proof.Machine.execTimeSourceWrite session req source s
  | .localTimeWrite session req time => Sys2Proof.Machine.execLocalTimeWrite session req time s
  | .ppsInEdge ns => Sys2Proof.Machine.execPpsInEdge ns s
  | .transmitTimeStamp port sequence msgType sec ns => Sys2Proof.Machine.execTransmitTimeStamp port sequence msgType sec ns s
  | .q26OverflowClear session req race => Sys2Proof.Machine.execQ26OverflowClear session req race s
  | .overflowOccurrencesRead session req => Sys2Proof.Machine.execOverflowOccurrencesRead session req s
  | .pulseEdge o trailing => Sys2Proof.Machine.execPulseEdge o trailing s
  | .pulseParameterWrite session req output sub value => Sys2Proof.Machine.execPulseParameterWrite session req output sub value s
  | .canFrameReceive n frame => Sys2Proof.Machine.execCanFrameReceive n frame s
  | .canTransmitAttempt n result => Sys2Proof.Machine.execCanTransmitAttempt n result s
  | .busOff n => Sys2Proof.Machine.execBusOff n s
  | .busOffRecoveryDelay n => Sys2Proof.Machine.execBusOffRecoveryDelay n s
  | .busOffRecovery session req controller => Sys2Proof.Machine.execBusOffRecovery session req controller s
  | .roleStrapChanged => Sys2Proof.Machine.execRoleStrapChanged s
  | .read session req objects => Sys2Proof.Machine.execRead session req objects s
  | .write session req entries => Sys2Proof.Machine.execWrite session req entries s
  | .objectWrite session req index sub value => Sys2Proof.Machine.execObjectWrite session req index sub value s
  | .readBlock session req index sub offset length => Sys2Proof.Machine.execReadBlock session req index sub offset length s
  | .writeBlock session req index sub offset total crc final data => Sys2Proof.Machine.execWriteBlock session req index sub offset total crc final data s
  | .blockTransferTimeout session => Sys2Proof.Machine.execBlockTransferTimeout session s
  | .subscribe session req period objects => Sys2Proof.Machine.execSubscribe session req period objects s
  | .unsubscribe session req id => Sys2Proof.Machine.execUnsubscribe session req id s
  | .describe session req objects => Sys2Proof.Machine.execDescribe session req objects s
  | .canSegment controller frame => Sys2Proof.Machine.execCanSegment controller frame s
  | .segmentAcknowledge channel held => Sys2Proof.Machine.execSegmentAcknowledge channel held s
  | .transferTimeout channel => Sys2Proof.Machine.execTransferTimeout channel s
  | .engineRound full => Sys2Proof.Machine.execEngineRound full s
  | .tlsHandshake conn port cert secret => Sys2Proof.Machine.execTlsHandshake conn port cert secret s
  | .connectionLost session => Sys2Proof.Machine.execConnectionLost session s
  | .sessionResumption session port secret => Sys2Proof.Machine.execSessionResumption session port secret s
  | .dormantWindowExpiry session => Sys2Proof.Machine.execDormantWindowExpiry session s
  | .closeNotify session => Sys2Proof.Machine.execCloseNotify session s
  | .endSession session req target => Sys2Proof.Machine.execEndSession session req target s
  | .channelEnable session req channel on => Sys2Proof.Machine.execChannelEnable session req channel on s
  | .fastChannelOpen session req => Sys2Proof.Machine.execFastChannelOpen session req s
  | .fastChannelClose session req => Sys2Proof.Machine.execFastChannelClose session req s
  | .fastChannelDatagram port => Sys2Proof.Machine.execFastChannelDatagram port s
  | .adoptionRequest session req document => Sys2Proof.Machine.execAdoptionRequest session req document s
  | .adoptionWaitExpiry => Sys2Proof.Machine.execAdoptionWaitExpiry s
  | .deAdopt session req => Sys2Proof.Machine.execDeAdopt session req s
  | .trustAnchorWrite session req anchor sub value => Sys2Proof.Machine.execTrustAnchorWrite session req anchor sub value s
  | .denialListWrite session req digests => Sys2Proof.Machine.execDenialListWrite session req digests s
  | .channelKeyWrite session req channel key => Sys2Proof.Machine.execChannelKeyWrite session req channel key s
  | .signedSnapshot session req nonce => Sys2Proof.Machine.execSignedSnapshot session req nonce s
  | .attestation session req nonce => Sys2Proof.Machine.execAttestation session req nonce s
  | .pairHello hello => Sys2Proof.Machine.execPairHello hello s
  | .pairProof ok => Sys2Proof.Machine.execPairProof ok s
  | .heartbeatReceive seq ok hb => Sys2Proof.Machine.execHeartbeatReceive seq ok hb s
  | .heartbeatLost => Sys2Proof.Machine.execHeartbeatLost s
  | .partnerSenseChange sense => Sys2Proof.Machine.execPartnerSenseChange sense s
  | .roleDecisionTimeout => Sys2Proof.Machine.execRoleDecisionTimeout s
  | .missingData seq ok cycle blocks answers => Sys2Proof.Machine.execMissingData seq ok cycle blocks answers s
  | .replicatedInput seq ok input => Sys2Proof.Machine.execReplicatedInput seq ok input s
  | .checkpointPart seq ok capture part total image => Sys2Proof.Machine.execCheckpointPart seq ok capture part total image s
  | .configuration seq ok frame => Sys2Proof.Machine.execConfiguration seq ok frame s
  | .adoption seq ok request document result => Sys2Proof.Machine.execAdoption seq ok request document result s
  | .partnerAdoptionCode session req code => Sys2Proof.Machine.execPartnerAdoptionCode session req code s
  | .readinessComplete => Sys2Proof.Machine.execReadinessComplete s
  | .handOverRequest session req => Sys2Proof.Machine.execHandOverRequest session req s
  | .handOverCancel session req => Sys2Proof.Machine.execHandOverCancel session req s
  | .roleSwapTimer => Sys2Proof.Machine.execRoleSwapTimer s
  | .notWarmAbort => Sys2Proof.Machine.execNotWarmAbort s
  | .stateFreeze => Sys2Proof.Machine.execStateFreeze s
  | .overlapStart => Sys2Proof.Machine.execOverlapStart s
  | .originationChange => Sys2Proof.Machine.execOriginationChange s
  | .handOverComplete => Sys2Proof.Machine.execHandOverComplete s
  | .coilCatch k => Sys2Proof.Machine.execCoilCatch k s
  | .coilCatchEnd k openPath => Sys2Proof.Machine.execCoilCatchEnd k openPath s
  | .takeover late => Sys2Proof.Machine.execTakeover late s
  | .catchUpComplete => Sys2Proof.Machine.execCatchUpComplete s
  | .grant session req round => Sys2Proof.Machine.execGrant session req round s
  | .denial session req round => Sys2Proof.Machine.execDenial session req round s
  | .claimTimeout => Sys2Proof.Machine.execClaimTimeout s
  | .denialHoldEnd => Sys2Proof.Machine.execDenialHoldEnd s
  | .partnerSyncDetected => Sys2Proof.Machine.execPartnerSyncDetected s
  | .faultMessage msg => Sys2Proof.Machine.execFaultMessage msg s
  | .faultClear msg => Sys2Proof.Machine.execFaultClear msg s
  | .faultAcknowledge fault => Sys2Proof.Machine.execFaultAcknowledge fault s
  | .graceExpiry fault => Sys2Proof.Machine.execGraceExpiry fault s
  | .firstFaultCaptureClose => Sys2Proof.Machine.execFirstFaultCaptureClose s
  | .firstFaultRearm session req => Sys2Proof.Machine.execFirstFaultRearm session req s
  | .firstTripRearm session req => Sys2Proof.Machine.execFirstTripRearm session req s
  | .watchdogService value => Sys2Proof.Machine.execWatchdogService value s
  | .watchdogExpired => Sys2Proof.Machine.execWatchdogExpired s
  | .provokedFaultArm session req link => Sys2Proof.Machine.execProvokedFaultArm session req link s
  | .provokedFaultStop session req link => Sys2Proof.Machine.execProvokedFaultStop session req link s
  | .provokedFaultStart link => Sys2Proof.Machine.execProvokedFaultStart link s
  | .provokedFaultEnd link => Sys2Proof.Machine.execProvokedFaultEnd link s
  | .tallyWrite => Sys2Proof.Machine.execTallyWrite s
  | .keepAreaClear session req => Sys2Proof.Machine.execKeepAreaClear session req s
  | .tallyRead session req block => Sys2Proof.Machine.execTallyRead session req block s
  | .supplyPresent aux1 aux2 bus vHvb strap backupOk => Sys2Proof.Machine.execSupplyPresent aux1 aux2 bus vHvb strap backupOk s
  | .bootComplete => Sys2Proof.Machine.execBootComplete s
  | .sourceLoss vHvb backupFault => Sys2Proof.Machine.execSourceLoss vHvb backupFault s
  | .backupRegulating bus => Sys2Proof.Machine.execBackupRegulating bus s
  | .auxReturn aux1 aux2 => Sys2Proof.Machine.execAuxReturn aux1 aux2 s
  | .powerGoodFall => Sys2Proof.Machine.execPowerGoodFall s
  | .holdUpExpiry => Sys2Proof.Machine.execHoldUpExpiry s
  | .holdUpTest time => Sys2Proof.Machine.execHoldUpTest time s
  | .powerDomainFault d => Sys2Proof.Machine.execPowerDomainFault d s
  | .restartRequest session req => Sys2Proof.Machine.execRestartRequest session req s
  | .moduleRestart => Sys2Proof.Machine.execModuleRestart s
  | .clockCheck bad crystal hz => Sys2Proof.Machine.execClockCheck bad crystal hz s
  | .temperatureSensorSample n t => Sys2Proof.Machine.execTemperatureSensorSample n t s
  | .thermalShutDown => Sys2Proof.Machine.execThermalShutDown s
  | .senseBurst vStr current => Sys2Proof.Machine.execSenseBurst vStr current s
  | .insulationBurst iPos iNeg => Sys2Proof.Machine.execInsulationBurst iPos iNeg s
  | .ringPoll cells points changed cycles => Sys2Proof.Machine.execRingPoll cells points changed cycles s
  | .logFlush => Sys2Proof.Machine.execLogFlush s
  | .ruleEvaluation codes bus fire => Sys2Proof.Machine.execRuleEvaluation codes bus fire s
  | .ruleTableWrite session req table => Sys2Proof.Machine.execRuleTableWrite session req table s
  | .wakeTimer => Sys2Proof.Machine.execWakeTimer s
  | .ppsInHold => Sys2Proof.Machine.execPpsInHold s
  | .canWakeUpPattern => Sys2Proof.Machine.execCanWakeUpPattern s
  | .tetherLineEnergy => Sys2Proof.Machine.execTetherLineEnergy s
  | .journalWrite cut => Sys2Proof.Machine.execJournalWrite cut s
  | .logRefresh => Sys2Proof.Machine.execLogRefresh s
  | .storageUnitFailure read n => Sys2Proof.Machine.execStorageUnitFailure read n s
  | .imageVerification type number body other => Sys2Proof.Machine.execImageVerification type number body other s
  | .packageLength session req length => Sys2Proof.Machine.execPackageLength session req length s
  | .stagingChunk session req chunk => Sys2Proof.Machine.execStagingChunk session req chunk s
  | .packageDigest session req digest => Sys2Proof.Machine.execPackageDigest session req digest s
  | .updateStart session req => Sys2Proof.Machine.execUpdateStart session req s
  | .updateStop session req => Sys2Proof.Machine.execUpdateStop session req s
  | .generationAdvance session req => Sys2Proof.Machine.execGenerationAdvance session req s
  | .updateConfirm session req => Sys2Proof.Machine.execUpdateConfirm session req s
  | .rollBack session req => Sys2Proof.Machine.execRollBack session req s
  | .updateStep => Sys2Proof.Machine.execUpdateStep s
  | .updateStepComplete step ok code => Sys2Proof.Machine.execUpdateStepComplete step ok code s
  | .coreHandOver => Sys2Proof.Machine.execCoreHandOver s
  | .confirmationPeriodExpiry => Sys2Proof.Machine.execConfirmationPeriodExpiry s
  | .seatDetect => Sys2Proof.Machine.execSeatDetect s
  | .seatDetectOpening => Sys2Proof.Machine.execSeatDetectOpening s
  | .breakNotice late => Sys2Proof.Machine.execBreakNotice late s
  | .ptpMessageInterval => Sys2Proof.Machine.execPtpMessageInterval s
  | .ethernetLinkUp port speed => Sys2Proof.Machine.execEthernetLinkUp port speed s
  | .auxInputOutOfRange input mV => Sys2Proof.Machine.execAuxInputOutOfRange input mV s
  | .moveComplete a now => Sys2Proof.Machine.execMoveComplete a now s
  | .clientHello conn port supported => Sys2Proof.Machine.execClientHello conn port supported s
  | .tlsHandshakeTimeout conn => Sys2Proof.Machine.execTlsHandshakeTimeout conn s
  | .busOffRecoveryComplete n => Sys2Proof.Machine.execBusOffRecoveryComplete n s
  | .handOver seq ok kind h cause => Sys2Proof.Machine.execHandOver seq ok kind h cause s
  | .envelopePartnerTimeout => Sys2Proof.Machine.execEnvelopePartnerTimeout s

end Sys2Proof.Machine
end

