-- ==== Sys2Proof/Safety.lean ====
section
/-! DEFINITION. The terms claims use: the parts of the state, what it is for a command to change no part but some, the sizes no queue or store
grows past, and runs of the block. -/

namespace Sys2Proof.Machine

open Sys2Proof

/-- The parts of the state, one per field of `Body`. -/
inductive Part where
  /-- base cycle and operating state (01) -/
  | core
  /-- Sarale ring, Yarder side (02) -/
  | ring
  /-- sense heads (02, 03) -/
  | heads
  /-- tap monitor (03) -/
  | tap
  /-- front-end, insulation monitor, contactor drivers (04) -/
  | fe
  /-- cell channel table, state part (05 to 07) -/
  | cells
  /-- point table, state part (05) -/
  | points
  /-- lane fabric and charge counter (06) -/
  | scaler
  /-- history and wear (05) -/
  | cruiser
  /-- impedance measurement (07) -/
  | borer
  /-- Thinning scheduler (08) -/
  | thin
  /-- Firebreak and trip sequencer (09) -/
  | fb
  /-- Sawyer, dispatch, traces (10) -/
  | sawyer
  /-- Canopy (11) -/
  | canopy
  /-- Winch axes (11) -/
  | axes
  /-- Ethernet, CAN, pulse outputs (12) -/
  | links
  /-- local clock (12) -/
  | clock
  /-- dictionary engine and sessions (13) -/
  | dict
  /-- identity and security (14) -/
  | sec
  /-- redundant pair (15) -/
  | pair
  /-- fault messages and watchdog (16) -/
  | ranger
  /-- Tally (16) -/
  | tally
  /-- provoked faults (16) -/
  | inject
  /-- power, clocks, module temperature (17) -/
  | power
  /-- Lookout (17) -/
  | lookout
  /-- MRAM journal and storage (18) -/
  | storage
  /-- field update (18) -/
  | update
  /-- carrier slot and SEAT-DETECT (19) -/
  | seat
  deriving DecidableEq, Repr

/-- `t` agrees with `s` in every part outside `A`. -/
abbrev SameBut (A : Part → Bool) (s t : Body) : Prop :=
  (A .core = true ∨ t.core = s.core) ∧
  (A .ring = true ∨ t.ring = s.ring) ∧
  (A .heads = true ∨ t.heads = s.heads) ∧
  (A .tap = true ∨ t.tap = s.tap) ∧
  (A .fe = true ∨ t.fe = s.fe) ∧
  (A .cells = true ∨ t.cells = s.cells) ∧
  (A .points = true ∨ t.points = s.points) ∧
  (A .scaler = true ∨ t.scaler = s.scaler) ∧
  (A .cruiser = true ∨ t.cruiser = s.cruiser) ∧
  (A .borer = true ∨ t.borer = s.borer) ∧
  (A .thin = true ∨ t.thin = s.thin) ∧
  (A .fb = true ∨ t.fb = s.fb) ∧
  (A .sawyer = true ∨ t.sawyer = s.sawyer) ∧
  (A .canopy = true ∨ t.canopy = s.canopy) ∧
  (A .axes = true ∨ t.axes = s.axes) ∧
  (A .links = true ∨ t.links = s.links) ∧
  (A .clock = true ∨ t.clock = s.clock) ∧
  (A .dict = true ∨ t.dict = s.dict) ∧
  (A .sec = true ∨ t.sec = s.sec) ∧
  (A .pair = true ∨ t.pair = s.pair) ∧
  (A .ranger = true ∨ t.ranger = s.ranger) ∧
  (A .tally = true ∨ t.tally = s.tally) ∧
  (A .inject = true ∨ t.inject = s.inject) ∧
  (A .power = true ∨ t.power = s.power) ∧
  (A .lookout = true ∨ t.lookout = s.lookout) ∧
  (A .storage = true ∨ t.storage = s.storage) ∧
  (A .update = true ∨ t.update = s.update) ∧
  (A .seat = true ∨ t.seat = s.seat)

/-- A command that went from `s` to `t` changed no part but those listed; the queue of waiting commands and the boundary's snapshot stand. -/
def ChangesOnly (parts : List Part) (s t : State) : Prop :=
  SameBut (fun p => parts.contains p) s.toBody t.toBody ∧ t.pending = s.pending ∧ t.boundary = s.boundary

/-- The parts a command can change, by what the rules of its chapter let it do: the head commands change the head, a raised fault goes to the Ranger,
and so on. A request that reaches the dictionary engine can change whatever the object it names stands for, so those rows list all of these. -/
def touched : Instr → List Part
  | .sync _ =>
    [.core, .ring, .heads, .tap, .fe, .cells, .points, .cruiser, .borer, .thin, .fb, .clock, .dict, .sec, .pair, .ranger, .tally, .inject, .power,
      .lookout, .storage]
  | .stringRecord _ => [.ring, .fe, .fb, .pair, .ranger, .tally, .inject]
  | .cycleBoundary | .sleepRequest _ _ | .autoZeroRequest _ _ | .injectionEnable _ _ _ | .unwrapRelease _ _ | .reEnumerate _ _
  | .ringCounterClear _ _ _ | .openWireTestRequest _ _ _ _ | .senseLostClear _ _ _ _ | .bleedGateFailureClear _ _ _ | .stagedWrite _ _ _ _ _
  | .commit _ _ | .discardStaging _ _ | .insertionCommand _ _ _ | .capacityReset _ _ _ | .cycleCountReset _ _ _ | .chemistryTableWrite _ _ _ _
  | .extremesClear _ _ _ | .laneDrainRequest _ _ _ | .sweepRequest _ _ _ | .impedanceTableReset _ _ _ | .suspicionClear _ _ _
  | .switchTestRequest _ _ _ | .exclusionClear _ _ _ | .envelopeInstall _ _ _ | .envelopeKeyChange _ _ _ | .claim _ _ | .renew _ _ | .release _ _
  | .revoke _ _ | .dispatchRequestWrite _ _ _ _ | .slotModeWrite _ _ _ _ | .traceArmSingle _ _ _ | .traceArmRearm _ _ _ | .traceDisarm _ _ _
  | .traceSoftwareTrigger _ _ _ | .traceCaptureRead _ _ _ | .chopperRestore _ _ _ | .homeRequest _ _ _ | .disconnectorStop _ _
  | .disconnectorClose _ _ | .disconnectorOpen _ _ | .manualTarget _ _ _ _ | .timeSourceWrite _ _ _ | .localTimeWrite _ _ _
  | .q26OverflowClear _ _ _ | .overflowOccurrencesRead _ _ | .pulseParameterWrite _ _ _ _ _ | .busOffRecovery _ _ _ | .read _ _ _ | .write _ _ _
  | .objectWrite _ _ _ _ _ | .readBlock _ _ _ _ _ _ | .writeBlock _ _ _ _ _ _ _ _ _ | .subscribe _ _ _ _ | .unsubscribe _ _ _ | .describe _ _ _
  | .engineRound _ | .endSession _ _ _ | .channelEnable _ _ _ _ | .fastChannelOpen _ _ | .fastChannelClose _ _ | .adoptionRequest _ _ _
  | .deAdopt _ _ | .trustAnchorWrite _ _ _ _ _ | .denialListWrite _ _ _ | .channelKeyWrite _ _ _ _ | .signedSnapshot _ _ _ | .attestation _ _ _
  | .partnerAdoptionCode _ _ _ | .handOverRequest _ _ | .handOverCancel _ _ | .catchUpComplete | .grant _ _ _ | .denial _ _ _
  | .firstFaultRearm _ _ | .firstTripRearm _ _ | .provokedFaultArm _ _ _ | .provokedFaultStop _ _ _ | .keepAreaClear _ _ | .tallyRead _ _ _
  | .restartRequest _ _ | .ruleTableWrite _ _ _ | .journalWrite _ | .packageLength _ _ _ | .stagingChunk _ _ _ | .packageDigest _ _ _
  | .updateStart _ _ | .updateStop _ _ | .generationAdvance _ _ | .updateConfirm _ _ | .rollBack _ _ =>
    [.core, .ring, .heads, .tap, .fe, .cells, .points, .scaler, .cruiser, .borer, .thin, .fb, .sawyer, .canopy, .axes, .links, .clock, .dict, .sec,
      .pair, .ranger, .tally, .inject, .power, .storage, .update]
  | .headSyncReceive _ _ _ => [.heads, .ranger]
  | .headSample _ _ _ _ _ => [.heads, .cells]
  | .containerPass _ _ | .quietWindowOpen _ | .quietWindowClose _ | .headWrap _ | .identify _ _ | .openHead _ _ | .setPosition _ _ _
  | .setDelay _ _ _ | .configure _ _ _ | .unwrap _ _ | .bleedSlot _ _ _ | .bleedSlotStart _ | .bleedOff _ _ | .owTest _ _ _ | .switchTest _ _ _
  | .readStatus _ _ | .restart _ _ _ | .echo _ _ _ | .headCycleMissing _ | .headSyncLost _ | .headInitialState _ | .headLowPower _ | .headWake _ =>
    [.heads]
  | .frontEndSample _ _ => [.core, .ring, .heads, .fe, .cells, .points, .borer, .thin, .fb, .dict, .ranger, .tally, .power]
  | .fastSample _ _ | .bootComplete => [.core, .ring, .heads, .fe, .cells, .borer, .thin, .fb, .axes, .dict, .ranger, .tally, .power]
  | .hallComparatorTrip | .cellsUnmeasured _ | .headTemperatureLost _ | .breakDecision _ | .breakWaitExpiry _ => [.fe, .fb, .ranger]
  | .headBlockReceive _ _ | .commandFrameReturn _ _ _ _ _ =>
    [.ring, .heads, .tap, .fe, .cells, .points, .cruiser, .thin, .fb, .pair, .ranger, .tally, .inject]
  | .headSumMismatch _ => [.ring, .heads, .tap, .thin, .ranger]
  | .stringSumMismatch | .auxiliaryContactFault _ | .coilDriveFault _ _ | .cellTemperatureUnknown _ | .roleStrapChanged | .faultAcknowledge _
  | .watchdogService _ => [.ranger]
  | .temperaturePointLost _ => [.fb, .ranger]
  | .firebreakCauseClear _ _ _ | .headUnreachable _ => [.ring, .heads, .fe, .fb, .ranger]
  | .cycleDataCrossing _ =>
    [.core, .ring, .heads, .tap, .fe, .cells, .points, .scaler, .cruiser, .borer, .thin, .fb, .sawyer, .canopy, .links, .pair, .ranger, .tally,
      .inject, .lookout, .storage]
  | .closeRequest _ _ | .openRequest _ _ | .serviceRequest _ _ | .exitRequest _ _ | .resetRequest _ _ | .clearRequest _ _ =>
    [.core, .ring, .heads, .fe, .cells, .borer, .thin, .fb, .dict, .pair, .ranger, .tally, .power]
  | .checksPass | .precheckTimeout | .closeTimeout | .openRequestTimeout | .auxContactChange _ _ _ | .faultClear _ =>
    [.core, .ring, .heads, .fe, .cells, .borer, .thin, .fb, .dict, .ranger, .tally, .power]
  | .pullInEnd _ | .autoZeroTimer | .autoZeroStart | .autoZeroComplete _ _ _ | .inServiceZero => [.fe]
  | .weldCheckAuxTimeout | .weldCheckVoltageStage | .weldWaitExpiry | .insulationHalfPeriodEnd _ _ _ _ | .insulationResultStale => [.fe, .ranger]
  | .losDeclared _ _ _ _ | .losCleared _ | .syncNotReturned _ _ | .breakNotice _ => [.ring, .ranger]
  | .farSideRestored _ => [.ring, .heads]
  | .headReadmission _ _ => [.ring, .heads, .cells, .thin, .pair, .ranger, .tally, .inject]
  | .enumeration _ _ _ _ _ => [.ring, .heads, .cruiser, .pair, .tally, .inject]
  | .enumerationComplete => [.ring, .heads, .fe, .cells, .thin, .fb, .ranger]
  | .testRef _ _ _ => [.heads, .tap]
  | .openWireTestSchedule _ => [.ring, .heads, .tap, .thin]
  | .openWireEvaluation _ => [.ring, .heads, .tap, .cells, .thin, .ranger]
  | .tapSuspicionTimeout _ _ => [.tap, .cells, .ranger]
  | .stagingIdleTimeout | .blockTransferTimeout _ | .connectionLost _ | .sessionResumption _ _ _ => [.dict]
  | .tableEntryRepaired _ _ _ => [.cells, .points, .dict, .ranger]
  | .pointStale _ => [.points]
  | .storageCheckpoint _ => [.cruiser, .pair, .ranger, .storage]
  | .minuteAggregate | .hourAggregate => [.cells, .cruiser, .ranger]
  | .wearSwap => [.cruiser]
  | .endOfCharge | .endOfDischarge => [.cells, .scaler, .borer, .dict, .ranger, .tally, .storage]
  | .endEventRearm _ => [.cells, .scaler, .dict]
  | .countingDivergenceClear _ => [.cells, .ranger]
  | .stateRebuild _ => [.cells, .scaler, .cruiser, .sec, .ranger, .tally, .power, .lookout, .storage, .update]
  | .perturbationWindowRequest | .perturbationStop | .impedanceAgeAdvance | .restSnapshot => [.cells, .borer]
  | .windowEnd | .healthEvaluation => [.cells, .borer, .ranger]
  | .resultApplication => [.cells, .borer, .ranger, .storage]
  | .restEvaluation => [.cells, .borer, .ranger, .tally, .storage]
  | .targetRecompute => [.cells]
  | .slotDecision => [.ring, .heads, .thin, .power]
  | .bleedSlotUnacknowledged _ | .switchTestSchedule => [.ring, .heads, .thin]
  | .switchTestEvaluation _ => [.heads, .tap, .cells, .thin, .ranger]
  | .firebreakSelfTest _ => [.fb, .dict, .sec, .pair, .ranger]
  | .protectionSummaryCompare _ => [.fb, .pair, .ranger]
  | .dispatchLeaseExpired => [.sawyer, .ranger, .tally]
  | .traceCaptureComplete _ => [.sawyer]
  | .thresholdSample _ => [.canopy]
  | .entryDwellExpired _ | .exitDwellExpired _ => [.canopy, .ranger]
  | .canopyFailSafe _ => [.sawyer, .ranger]
  | .axisTargetChange _ _ | .standstillDelay _ => [.axes]
  | .chopperFallBack _ _ => [.axes, .ranger, .tally, .storage, .update]
  | .stepLoss _ _ | .switchEdge _ _ _ _ _ _ | .gearingLag _ _ | .travelTimeout | .moveComplete _ _ => [.axes, .ranger]
  | .ethernetFrameReceive _ _ => [.links, .dict, .pair, .tally, .inject]
  | .linkLoss _ | .busOff _ | .ethernetLinkUp _ _ | .busOffRecoveryComplete _ => [.links, .ranger]
  | .prpSupervision | .busOffRecoveryDelay _ | .ptpMessageInterval => [.links]
  | .ptpMessageReceive _ | .announceReceiptTimeout _ _ => [.links, .clock]
  | .offsetMeasured _ | .ppsInEdge _ => [.links, .clock, .sec, .tally]
  | .holdoverExpiry => [.clock]
  | .transmitTimeStamp _ _ _ _ _ => [.clock, .ranger]
  | .pulseEdge _ _ => [.links, .dict]
  | .canFrameReceive _ _ => [.links, .sec, .pair, .tally, .inject, .storage]
  | .canTransmitAttempt _ _ => [.sawyer, .links, .pair, .ranger, .tally, .inject]
  | .canSegment _ _ | .segmentAcknowledge _ _ | .transferTimeout _ => [.links, .dict, .sec, .storage]
  | .tlsHandshake _ _ _ _ => [.links, .dict, .sec, .tally]
  | .dormantWindowExpiry _ | .closeNotify _ => [.dict, .sec, .tally]
  | .fastChannelDatagram _ => [.links, .dict, .sec]
  | .adoptionWaitExpiry | .tlsHandshakeTimeout _ => [.sec]
  | .pairHello _ => [.pair, .ranger, .seat]
  | .pairProof _ | .partnerSyncDetected => [.pair]
  | .heartbeatReceive _ _ _ | .missingData _ _ _ _ _ | .replicatedInput _ _ _ | .checkpointPart _ _ _ _ _ _ | .configuration _ _ _
  | .adoption _ _ _ _ _ | .handOver _ _ _ _ _ =>
    [.core, .ring, .heads, .tap, .fe, .cells, .points, .scaler, .borer, .thin, .fb, .canopy, .axes, .dict, .sec, .pair, .ranger, .tally, .inject,
      .power, .storage, .update]
  | .heartbeatLost | .partnerSenseChange _ | .notWarmAbort | .denialHoldEnd => [.fe, .pair, .ranger, .tally]
  | .roleDecisionTimeout | .claimTimeout => [.ring, .pair, .ranger, .tally]
  | .readinessComplete => [.pair, .tally]
  | .roleSwapTimer => [.pair, .ranger, .tally]
  | .stateFreeze => [.axes, .pair]
  | .overlapStart | .coilCatchEnd _ _ => [.fe, .pair]
  | .originationChange => [.ring, .heads, .fe, .cruiser, .pair]
  | .handOverComplete => [.fe, .fb, .axes, .pair, .ranger, .tally, .power]
  | .coilCatch _ => [.fe, .pair, .ranger]
  | .takeover _ => [.fe, .fb, .sawyer, .axes, .pair, .ranger, .power]
  | .faultMessage _ | .graceExpiry _ =>
    [.core, .ring, .heads, .fe, .cells, .cruiser, .borer, .thin, .fb, .sawyer, .axes, .links, .dict, .ranger, .tally, .power]
  | .firstFaultCaptureClose => [.ranger, .tally]
  | .watchdogExpired => [.ring, .fe, .fb, .pair, .ranger, .power, .update]
  | .provokedFaultStart _ => [.pair, .tally, .inject]
  | .provokedFaultEnd _ =>
    [.core, .ring, .heads, .tap, .fe, .cells, .points, .scaler, .cruiser, .borer, .thin, .fb, .canopy, .axes, .links, .dict, .sec, .pair, .ranger,
      .tally, .inject, .power, .storage, .update]
  | .tallyWrite => [.cruiser, .ranger, .tally]
  | .supplyPresent _ _ _ _ _ _ | .ruleEvaluation _ _ _ | .wakeTimer | .ppsInHold | .canWakeUpPattern | .tetherLineEnergy =>
    [.core, .ring, .heads, .tap, .fe, .cells, .points, .scaler, .cruiser, .borer, .thin, .fb, .sawyer, .canopy, .axes, .links, .clock, .dict, .sec,
      .pair, .ranger, .tally, .inject, .power, .lookout, .storage, .update, .seat]
  | .sourceLoss _ _ => [.fe, .axes, .ranger, .power]
  | .backupRegulating _ => [.ranger, .tally, .power]
  | .auxReturn _ _ => [.axes, .ranger, .tally, .power]
  | .powerGoodFall => [.ring, .fe, .fb, .ranger, .tally, .power, .lookout, .storage, .seat]
  | .holdUpExpiry => [.core, .ring, .heads, .fe, .cells, .borer, .thin, .fb, .canopy, .dict, .ranger, .tally, .power]
  | .holdUpTest _ | .auxInputOutOfRange _ _ => [.ranger, .power]
  | .powerDomainFault _ => [.fe, .cruiser, .fb, .axes, .ranger, .power, .storage]
  | .moduleRestart => [.core, .ring, .heads, .fe, .cells, .borer, .thin, .fb, .canopy, .dict, .pair, .ranger, .tally, .power, .update]
  | .clockCheck _ _ _ => [.ring, .fe, .cruiser, .fb, .axes, .ranger, .power]
  | .temperatureSensorSample _ _ => [.points, .ranger, .tally, .power]
  | .thermalShutDown => [.ring, .power]
  | .senseBurst _ _ | .insulationBurst _ _ => [.fe, .lookout]
  | .ringPoll _ _ _ _ => [.core, .lookout]
  | .logFlush => [.cruiser, .ranger, .tally, .lookout]
  | .logRefresh => [.cruiser, .ranger, .storage]
  | .storageUnitFailure _ _ | .imageVerification _ _ _ _ => [.cruiser, .ranger, .tally, .storage, .update]
  | .updateStep => [.cruiser, .pair, .ranger, .tally, .update]
  | .updateStepComplete _ _ _ => [.scaler, .cruiser, .pair, .ranger, .tally, .storage, .update]
  | .coreHandOver => [.update]
  | .confirmationPeriodExpiry => [.ranger, .tally, .storage, .update]
  | .seatDetect => [.ring, .links, .dict, .sec, .pair, .ranger, .tally, .power, .seat]
  | .seatDetectOpening => [.power, .seat]
  | .clientHello _ _ _ => [.links, .sec]
  | .envelopePartnerTimeout => [.fb, .dict, .sec]

/-- The sizes the spec gives queues and stores: 1,024 messages in Q24 (R472), 512 active faults (R474), the last 16 messages (R492), the latest 2
Landing and 8 storage checkpoints (R164), the partner's latest image and its predecessor and the raw buffer of 1,250 cycles (R449), 16 frames for
the rise clamp (R458), 32 units of keep area and 480 of circulating area (R490), 4,096 records in Q25 (R491). -/
structure Bounded (s : State) : Prop where
  q24 : s.ranger.q24.length ≤ 1024
  active : s.ranger.active.length ≤ 512
  last16 : s.ranger.last16.length ≤ 16
  landing : s.storage.landing.length ≤ 2
  checkpoints : s.storage.checkpoints.length ≤ 8
  images : s.pair.images.length ≤ 2
  rawBuf : s.pair.rawBuf.length ≤ 1250
  sentFrames : s.pair.sentFrames.length ≤ 16
  keep : s.tally.keep.length ≤ 32
  circ : s.tally.circ.length ≤ 480
  q25 : s.tally.q25.length ≤ 4096

/-- Command `i` completes on `s`, with a next state of which `Q` holds. -/
def Gives (i : Instr) (s : State) (Q : State → Prop) : Prop := ∃ t, exec i s = .next t ∧ Q t

/-- What the trip sequencer does with a cause (R268, R269, R271, R272, R126): in every state but BOOT, OFF and SLEEP TRIP-PCS opens; with the
contactors closing, closed or opening and a coil held, the sequence starts in this cycle unless one runs, and one that runs goes on untouched; with
the contactors open a Firebreak cause opens the low sides as well. -/
structure TripTaken (firebreak : Bool) (s t : State) : Prop where
  line : s.core.opState ≠ .off → s.core.opState ≠ .boot → s.core.opState ≠ .sleep → t.fb.tripPcs = true
  starts : s.core.opState ∈ [.closing, .online, .derated, .tripping] → s.fb.trip.running = false → s.coilsHeld = true →
    t.fb.trip.running = true ∧ t.fb.trip.at_ = s.core.cycle ∧ t.fb.trip.released = false
  goesOn : s.fb.trip.running = true → t.fb.trip = s.fb.trip
  lowSides : firebreak = true → s.core.opState ∈ [.isolated, .precheck, .service] → t.fe.kp.lowSide = false ∧ t.fe.kn.lowSide = false

/-- The fault message a block sends in the present cycle (R470). -/
def State.msg (s : State) (source kind : Nat) (sev : Sev) (cls val : Nat) : FaultMsg :=
  { source := source, kind := kind, sev := some sev, cls := cls, val := val, cycle := s.core.cycle }

/-- Between two states a block sent message `m` towards the Ranger (R472). -/
def Sent (s t : State) (m : FaultMsg) : Prop := ∃ a b, t.ranger.outbox = s.ranger.outbox ++ a ++ [m] ++ b

/-- The state with another head at a place. -/
def State.withHead (s : State) (place : Nat) (h : Head) : State := { s with heads := Tab.put s.heads place h }

/-- The head at a place executes a frame: it is addressed, the frame is no repetition of the one it executed last, its opcode is listed and its payload as
long as the opcode says (R51, R52, R86). -/
def HearsNew (s : State) (place : Nat) (f : Frame) : Prop :=
  (s.head place).takes f = true ∧ (∀ q r, (s.head place).lastSeq = some (q, r) → q ≠ f.seq) ∧ f.unlisted = false ∧ f.extra = 0

/-- What is left of head `h` once it has carried out a frame: `g`, the answer stored under the frame's number and written into the frame, and the frame
passed on (R50, R51, R52). -/
def Head.said (h g : Head) (f : Frame) (r : HeadResponse) : Head :=
  { g with lastSeq := some (f.seq, r), passedOn := some (onwardAddress f, h.exit f.port),
           returned := if f.mode = .broadcast then [] else answerArea r }

/-- `n` steps lead from `s` to `t`. -/
def runs : Nat → State → State → Prop
  | 0, s, t => t = s
  | n + 1, s, t => ∃ u, step s = .next u ∧ runs n u t

/-- A write of one object value as a session makes it. -/
structure Wr where
  session : Nat
  req : Nat
  index : Nat
  sub : Nat
  value : ObjVal
deriving DecidableEq, Repr

/-- The write a command is (R388): the commands that name an object, each with its own object and value. `q26OverflowClear` here without a race. -/
def writeOf : Instr → Option Wr
  | .sleepRequest s r => some ⟨s, r, 0x9050, 1, .num 1⟩
  | .autoZeroRequest s r => some ⟨s, r, 0x2010, 6, .num 1⟩
  | .injectionEnable s r on => some ⟨s, r, 0x2012, 3, .num (b2n on)⟩
  | .unwrapRelease s r => some ⟨s, r, 0x2100, 6, .num 1⟩
  | .reEnumerate s r => some ⟨s, r, 0x2100, 7, .num 1⟩
  | .ringCounterClear s r port => some ⟨s, r, 0x2110 + port, 0x0C, .num 1⟩
  | .openWireTestRequest s r head tap => some ⟨s, r, 0x2103, 6, .num (256 * head + tap : Nat)⟩
  | .senseLostClear s r head tap => some ⟨s, r, 0x2103, 5, .num (256 * head + tap : Nat)⟩
  | .bleedGateFailureClear s r head => some ⟨s, r, 0x2103, 8, .num head⟩
  | .stagedWrite s r index sub value => some ⟨s, r, index, sub, value⟩
  | .discardStaging s r => some ⟨s, r, 0x1F00, 3, .num 1⟩
  | .insertionCommand s r cell => some ⟨s, r, 0x3000 + cell - 1, 0x41, .num 1⟩
  | .capacityReset s r cell => some ⟨s, r, 0x3000 + cell - 1, 0x41, .num 2⟩
  | .cycleCountReset s r cell => some ⟨s, r, 0x3000 + cell - 1, 0x41, .num 3⟩
  | .chemistryTableWrite s r slot table => some ⟨s, r, 0x4010 + slot, 1, .bytes table⟩
  | .extremesClear s r point => some ⟨s, r, 0x3400 + point, 0x27, .num 1⟩
  | .laneDrainRequest s r lane => some ⟨s, r, 0x4705, 1, .num lane⟩
  | .sweepRequest s r hours => some ⟨s, r, 0x4800, 7, .num hours⟩
  | .impedanceTableReset s r cell => some ⟨s, r, 0x4C00 + cell - 1, 8, .num 1⟩
  | .suspicionClear s r cell => some ⟨s, r, 0x4802, 5, .num cell⟩
  | .switchTestRequest s r head => some ⟨s, r, 0x5000, 0x0B, .num head⟩
  | .exclusionClear s r cell => some ⟨s, r, 0x5000, 0x0F, .num cell⟩
  | .envelopeInstall s r document => some ⟨s, r, 0x7850, 1, .bytes document⟩
  | .envelopeKeyChange s r document => some ⟨s, r, 0x7850, 3, .bytes document⟩
  | .claim s r => some ⟨s, r, 0x6108, 1, .num 1⟩
  | .renew s r => some ⟨s, r, 0x6108, 2, .num 1⟩
  | .release s r => some ⟨s, r, 0x6108, 3, .num 1⟩
  | .revoke s r => some ⟨s, r, 0x6108, 7, .num 1⟩
  | .dispatchRequestWrite s r sub value => some ⟨s, r, 0x6100, sub, .num value⟩
  | .slotModeWrite s r slot mode => some ⟨s, r, 0x6010 + slot, 1, .num mode⟩
  | .traceArmSingle s r b => some ⟨s, r, 0x6400 + b, 0x0C, .num 1⟩
  | .traceArmRearm s r b => some ⟨s, r, 0x6400 + b, 0x0C, .num 2⟩
  | .traceDisarm s r b => some ⟨s, r, 0x6400 + b, 0x0C, .num 0⟩
  | .traceSoftwareTrigger s r b => some ⟨s, r, 0x6400 + b, 0x0C, .num 3⟩
  | .chopperRestore s r axis => some ⟨s, r, 0x685F + axis, 0x10, .num 1⟩
  | .homeRequest s r axis => some ⟨s, r, 0x687F + axis, 7, .num 1⟩
  | .disconnectorStop s r => some ⟨s, r, 0x68B0, 1, .num 0⟩
  | .disconnectorClose s r => some ⟨s, r, 0x68B0, 1, .num 1⟩
  | .disconnectorOpen s r => some ⟨s, r, 0x68B0, 1, .num 2⟩
  | .manualTarget s r axis target => some ⟨s, r, 0x686F + axis, 7, .num target⟩
  | .timeSourceWrite s r source => some ⟨s, r, 0x7100, 1, .num source⟩
  | .localTimeWrite s r time => some ⟨s, r, 0x7100, 3, .bytes time⟩
  | .q26OverflowClear s r race => if race then none else some ⟨s, r, 0x7120, 3, .num 1⟩
  | .pulseParameterWrite s r output sub value => some ⟨s, r, 0x7130 + output, sub, value⟩
  | .busOffRecovery s r controller => some ⟨s, r, 0x7200 + controller, 9, .num 1⟩
  | .endSession s r target => some ⟨s, r, 0x1100 + target, 0x0C, .num 1⟩
  | .channelEnable s r channel on => some ⟨s, r, 0x7810 + channel, 4, .num (b2n on)⟩
  | .fastChannelOpen s r => some ⟨s, r, 0x7860, 1, .num 1⟩
  | .fastChannelClose s r => some ⟨s, r, 0x7860, 1, .num 0⟩
  | .adoptionRequest s r document => some ⟨s, r, 0x7801, 1, .bytes document⟩
  | .deAdopt s r => some ⟨s, r, 0x7801, 2, .num 1⟩
  | .trustAnchorWrite s r anchor sub value => some ⟨s, r, 0x7801 + anchor, sub, value⟩
  | .denialListWrite s r digests => some ⟨s, r, 0x7808, 1, .bytes digests⟩
  | .channelKeyWrite s r channel key => some ⟨s, r, 0x7810 + channel, 1, .bytes key⟩
  | .signedSnapshot s r nonce => some ⟨s, r, 0x7870, 1, .bytes nonce⟩
  | .attestation s r nonce => some ⟨s, r, 0x7871, 1, .bytes nonce⟩
  | .partnerAdoptionCode s r code => some ⟨s, r, 0x8050, 1, .bytes code⟩
  | .handOverRequest s r => some ⟨s, r, 0x8020, 1, .num 1⟩
  | .handOverCancel s r => some ⟨s, r, 0x8020, 1, .num 0⟩
  | .grant s r round => some ⟨s, r, 0x8030, 3, .num round⟩
  | .denial s r round => some ⟨s, r, 0x8030, 4, .num round⟩
  | .firstFaultRearm s r => some ⟨s, r, 0x8801, 4, .num 1⟩
  | .firstTripRearm s r => some ⟨s, r, 0x8801, 4, .num 2⟩
  | .provokedFaultArm s r link => some ⟨s, r, 0xA010 + link, 1, .num 1⟩
  | .provokedFaultStop s r link => some ⟨s, r, 0xA010 + link, 1, .num 0⟩
  | .keepAreaClear s r => some ⟨s, r, 0x8A00, 6, .num 1⟩
  | .restartRequest s r => some ⟨s, r, 0x9010, 1, .num 1⟩
  | .ruleTableWrite s r table => some ⟨s, r, 0x9040, 1, .bytes table⟩
  | .packageLength s r length => some ⟨s, r, 0x9820, 2, .num length⟩
  | .stagingChunk s r chunk => some ⟨s, r, 0x9820, 1, .bytes chunk⟩
  | .packageDigest s r digest => some ⟨s, r, 0x9820, 3, .bytes digest⟩
  | .updateStart s r => some ⟨s, r, 0x9830, 2, .num 1⟩
  | .updateStop s r => some ⟨s, r, 0x9830, 2, .num 0⟩
  | .generationAdvance s r => some ⟨s, r, 0x9830, 2, .num 2⟩
  | .updateConfirm s r => some ⟨s, r, 0x9830, 2, .num 3⟩
  | .rollBack s r => some ⟨s, r, 0x9830, 2, .num 4⟩
  | .objectWrite s r index sub value => some ⟨s, r, index, sub, value⟩
  | _ => none

/-- The state in which a session's request is served: counted, its answer due (R397). -/
def State.serving (s : State) (session req : Nat) : State := beginService session req s.core.cycle s

/-- What the checks of R389 make of a write as it is served, 0 when it passes. -/
def State.verdict (s : State) (w : Wr) : Nat := (s.serving w.session w.req).entryCheck w.session w.index w.sub w.value

/-- A command is a write that an open session makes and that passes every check. -/
def Accepted (i : Instr) (s : State) : Prop := ∃ w, writeOf i = some w ∧ s.sessOpen w.session = true ∧ s.verdict w = 0

/-- An accepted write completes, with a next state of which `Q` holds. -/
def Takes (i : Instr) (s : State) (Q : State → Prop) : Prop := Accepted i s → Gives i s Q

/-- The response to a write in the present cycle (R394). -/
def State.writeAnswer (s : State) (w : Wr) (abort : Nat) : Response :=
  { session := w.session, req := w.req, type := 0x82, cycle := s.core.cycle, abort := abort, body := replyBody 2 abort }

/-- A write of string scope (R388, R389): accepted, it waits for its boundary, and at a boundary whose turn finds state `u`, where it passes its checks again, it
is in force with `Q`. -/
def AtBoundary (i : Instr) (u : State) (Q : State → Prop) : Prop := ∀ s : State, Takes i s fun t => ∃ p : PendingWrite,
  t.dict.pending = s.dict.pending ++ [p] ∧ p.effective = s.effective ∧ t.dict.vals = s.dict.vals ∧
    (firstFailing (fun t i b v => t.recheck p.session i b v) p.session 0 p.entries u.afterLeaseEvents = none → Q (applyPending u p))

/-- A response is the last of those queued (R397). -/
def Responds (s t : State) (x : Response) : Prop := t.dict.responses = s.dict.responses ++ [x]

/-- Frames of the partner are accepted: the units are paired, the sequence has risen, and nothing is injected on the Tether (R441, R442, R486). -/
def State.hears (s : State) (seq : Nat) : Prop :=
  s.cycling = true ∧ s.pair.keys.isSome = true ∧ s.pair.tether = 2 ∧ s.pair.rxSeq < seq ∧ (s.injector 6).state ≠ 2 ∧ (s.injector 6).heldFrames = []

end Sys2Proof.Machine
end

