-- ==== Sys2Proof/Certificates/Slice0/Obligations.lean ====
section
/-! DEFINITION. The statements about this block, for the provers: each def is one proposition, its docstring the rules of spec/ it comes from. -/

open Sys2Proof Sys2Proof.Machine

/-! ### The whole block -/

/-- A step takes the command at the front of the queue and runs it on the state with the rest of the queue; with no command waiting the block idles. No word
spells a command, so a word placed in front changes nothing. (The idle step is log entry 3, a DESIGN CHOICE.) -/
def Obligations.StepRunsFront : Prop := ∀ (c : Instr) (rest : List Instr) (s : State) (n w : Nat),
  (s.pending = c :: rest → step s = exec c { s with pending := rest }) ∧ (s.pending = [] → step s = .next s) ∧
  decodeTableWord n w = none ∧ s.withFetchWord n w = s

/-- Every command completes in every state, and changes no part of the state but those its chapter lets it change, nor the queue; only SYNC takes the snapshot
that reads are made from (the rules of each command; the snapshot R391). -/
def Obligations.EveryCommandCompletes : Prop := ∀ (i : Instr) (s : State),
  Gives i s fun t => SameBut (fun p => (touched i).contains p) s.toBody t.toBody ∧ t.pending = s.pending ∧ ((∀ h, i ≠ .sync h) → t.boundary = s.boundary)

/-- The state after reset holds what the rules give: no supply, so OFF with the coils unpowered (R30, R126), the ring DOWN with empty queues and counters at zero
(R53, R68, R74, R77), no head bypassed or diagnosed and every tap untested (R108), no cell placed, no suspicion, full retention (R168, R234), every point
stale (R169), no session (R408), nothing latched in the Firebreak, and no command waiting. -/
def Obligations.ResetState : Prop :=
  let s := State.reset
  s.core.opState = .off ∧ s.fe.kp.coil = .off ∧ s.fe.kn.coil = .off ∧ s.fe.kp.lowSide = true ∧ s.fe.kn.lowSide = true ∧ s.fe.rIso = 0xFFFF ∧
  s.ring.state = .down ∧ s.ring.q0 = [] ∧ s.ring.q4 = [] ∧ s.ring.counters = [] ∧
  (∀ k, Tab.at s.tap.tapState k 1 = 1 ∧ Tab.at s.tap.rw k 0xFFFF = 0xFFFF) ∧
  (∀ k, (s.cell k).lane = none ∧ (s.cell k).suspicion = .none ∧ (s.cell k).capRet = 10000 ∧ (s.cell k).health = 0) ∧
  (∀ n, (s.point n).quality = .stale) ∧ (∀ n, (s.session n).state = .free) ∧ s.cruiser.spare = 96 ∧ s.fb.causes = 0 ∧ s.pending = []

/-- The invariant holds after reset: no queue and no store is over the length the rules give it (R164, R449, R472, R474, R490, R491). -/
def Obligations.BoundedAtReset : Prop := Bounded State.reset

/-- Every step keeps every queue and store within the length the rules give it: Q24 1,024, active faults 512, the last 16 faults, two Landing images and eight
checkpoints, two partner images, 1,250 cycles of held raw data, 16 transmitted frames, Tally 32 and 480 units and Q25 4,096 (R26, R164, R294, R449, R472, R474,
R490, R491, R492, R528). -/
def Obligations.StepKeepsBounded : Prop := ∀ s t : State, Bounded s → step s = .next t → Bounded t

/-! ### 01: the base cycle -/

/-- SYNC in a unit that originates (R16, R44, R349, R391): the cycle number counts up by one modulo 2^32, the operating time and the local clock advance,
what is left of the ended cycle goes, reads from now on see the present state, and every port originated on sends a header with the new number. No frame of an
injection waits at a ring port (R75 delivers each within its cycle). -/
def Obligations.SyncBeginsCycle : Prop := ∀ (s : State) (heard : Option SyncHeader), s.cycling = true → s.ring.originating = true → s.core.deferred = [] →
  s.core.service = none → s.core.opState ≠ .sleep → (∀ p < 2, (s.injector p).heldFrames = []) → Gives (.sync heard) s fun t =>
    t.core = { s.core with cycle := s.core.cycle + 1, crossed := false, cycleState := s.core.opState, taken := none, undo := none } ∧
    t.power.opTime = s.power.opTime + 1 ∧ (t.clock.sec, t.clock.ns) = splitNs (s.nowNs + 1000000 + s.steering) ∧ t.clock.t0 = (t.clock.sec, t.clock.ns) ∧
    t.ring.blocks = [] ∧ t.tap.v = [] ∧ t.tap.vPrev = s.tap.v ∧ t.boundary.core.cycle = s.core.cycle + 1 ∧
    (∀ p < 2, s.originates p = true → s.pd (4 + p) = true → ∃ h, Tab.find t.ring.headers p = some h ∧ h.cycle = s.core.cycle + 1)

/-- A unit that does not originate takes over the cycle number of the header it hears, if its check passes, and records that header (R16, R44, R70, R437); with
nothing heard, or a header whose check fails, it counts on. -/
def Obligations.SyncFollowsPartner : Prop := ∀ (s : State), s.cycling = true → s.ring.originating = false →
  s.core.deferred = [] → s.core.service = none → s.core.opState ≠ .sleep →
    (∀ h : SyncHeader, h.checkOk = true → Gives (.sync (some h)) s fun t => t.core.cycle = h.cycle ∧ t.pair.lastSync = some h.cycle ∧
      t.ring.heardHeader = some h) ∧
    (∀ heard : Option SyncHeader, (∀ h, heard = some h → h.checkOk = false) → Gives (.sync heard) s fun t => t.core.cycle = s.core.cycle + 1 ∧
      t.pair.lastSync = s.pair.lastSync ∧ t.ring.heardHeader = none)

/-- CYCLE_DATA_CROSSING happens once a cycle, and each deadline of the first two classes missed in it is reported as a fault of the block that missed it (R29). -/
def Obligations.CrossingReportsDeadlines : Prop := ∀ (s : State) (missed : List (Nat × Nat)), s.cycling = true →
  (s.core.crossed = false → Gives (.cycleDataCrossing missed) s fun t => t.core.crossed = true ∧ ∀ m ∈ missed, m.2 < 3 → t.raised m.1 0xB6 5 m.2 = true) ∧
  (s.core.crossed = true → exec (.cycleDataCrossing missed) s = .next s)

/-- CYCLE_BOUNDARY acts in the order of R26: the Landing's image, the new table epoch with the cell commands, the Cruiser's moves, the Yarder's bank and
assignments; after these the writes in the order they were served (R388), and what else a boundary ends. -/
def Obligations.BoundaryOrder : Prop := ∀ s : State, s.cycling = true →
  let afterSteps := bankStep (completeMoves (epochStep (updateBoundary (rawBoundary (captureStep (injectionBoundary s))))))
  exec .cycleBoundary s = .next (closeCycle (secondStep (dispatchBoundary (applyEnvelopes (scheduleEnvelopes (writesBoundary (inputsBoundary afterSteps)))))))

/-! ### 01, 04: operating states and contactors -/

/-- The requests of R31 by an open session of a unit that serves them, as the first event of their cycle: the state, what entering it does, and the answer. -/
def Obligations.StateRequests : Prop := ∀ (s : State) (sess req : Nat), s.sessOpen sess = true → sess ≠ 0xFFFF → s.sec.adopted = true →
  (s.inPair && s.countsStandby) = false → s.core.taken = none →
  (s.requestRole .close sess = 0 → s.core.opState = .isolated → s.handingOver = false → s.raised 0x020 0x23 0 0 = false → Gives (.closeRequest sess req) s fun t => t.core.opState = .precheck ∧
    t.core.stateEntered = s.core.cycle ∧ ∃ r ∈ t.dict.responses, r.session = sess ∧ r.req = req ∧ r.abort = 0) ∧
  (s.requestRole .openRequest sess = 0 → (s.core.opState = .online ∨ s.core.opState = .derated) → Gives (.openRequest sess req) s fun t => t.core.opState = s.core.opState ∧
    t.core.opening = true ∧ t.core.openSince = s.core.cycle ∧ ∃ r ∈ t.dict.responses, r.session = sess ∧ r.req = req ∧ r.abort = 0) ∧
  (s.requestRole .service sess = 0 → s.core.opState = .isolated → Gives (.serviceRequest sess req) s fun t => t.core.opState = .service ∧ t.core.service = some sess ∧
    t.core.stateEntered = s.core.cycle ∧ ∃ r ∈ t.dict.responses, r.session = sess ∧ r.req = req ∧ r.abort = 0) ∧
  (s.requestRole .exit sess = 0 → s.core.opState = .service → s.axesStopped = true → Gives (.exitRequest sess req) s fun t => t.core.opState = .isolated ∧ t.core.service = none ∧
    ∃ r ∈ t.dict.responses, r.session = sess ∧ r.req = req ∧ r.abort = 0) ∧
  (s.requestRole .reset sess = 0 → s.core.opState = .tripped → s.tripFault = false → Gives (.resetRequest sess req) s fun t => t.core.opState = .isolated ∧
    t.ranger.firstTrip = {} ∧ ∃ r ∈ t.dict.responses, r.session = sess ∧ r.req = req ∧ r.abort = 0) ∧
  (s.requestRole .clear sess = 0 → s.core.opState = .lockout → s.lockoutCause = false → Gives (.clearRequest sess req) s fun t => t.core.opState = .isolated ∧
    t.core.lockoutLatched = false ∧ t.ranger.firstTrip = {} ∧ ∃ r ∈ t.dict.responses, r.session = sess ∧ r.req = req ∧ r.abort = 0)

/-- Requests that are turned away (R31, R33, R61, R384, R385, R401, R419, R450): a session that lacks the role, an unadopted module, a standby, a hand-over that
runs, and a state without a row for the request, or whose row's condition does not hold, refuse it with their abort code, and nothing but the session's record
of it changes: not the state, not the contactors. -/
def Obligations.StateRequestsRefused : Prop := ∀ (s : State) (sess req : Nat) (kind : SmKind) (i : Instr), s.sessOpen sess = true → s.core.taken = none →
  (kind, i) ∈ [(.close, .closeRequest sess req), (.openRequest, .openRequest sess req), (.service, .serviceRequest sess req), (.exit, .exitRequest sess req),
    (.reset, .resetRequest sess req), (.clear, .clearRequest sess req)] →
  s.sec.adopted = false ∨ s.requestRole kind sess ≠ 0 ∨ (s.inPair && s.countsStandby) = true ∨
    (kind = .close ∧ s.handingOver = true) ∨ smTarget s s.core.opState { kind := kind, session := sess, req := req } = none →
  Gives i s fun t => ChangesOnly [.dict] s t

/-- What moves the state machine without a request (R31, R130), as the first event of its cycle. -/
def Obligations.StateEvents : Prop := ∀ (s : State), s.core.taken = none →
  (s.core.opState = .precheck → s.countsActive = true → s.closeCheck = 0 → Gives .checksPass s fun t => t.core.opState = .closing ∧
    t.core.stateEntered = s.core.cycle ∧ t.fe.kn.coil = .pullIn ∧ t.fe.kn.commanded = true ∧ t.fe.closingSince = some s.core.cycle) ∧
  (s.core.opState = .precheck → s.passed s.core.stateEntered 10000 = true → s.closeCheck ≠ 0 → Gives .precheckTimeout s fun t =>
    t.core.opState = .isolated ∧ t.core.stateEntered = s.core.cycle) ∧
  (s.core.opState = .closing → s.ran s.fe.closingSince 150 = true → s.bothClosed = false → Gives .closeTimeout s fun t => t.core.opState = .tripping ∧
    t.fe.kp.coil = .off ∧ t.fe.kn.coil = .off ∧ t.fe.kp.commanded = false ∧ t.fe.kn.commanded = false) ∧
  (s.core.opening = true → s.online = true → s.passed s.core.openSince 2000 = true → Gives .openRequestTimeout s fun t => t.core.opState = .tripping ∧
    t.core.opening = false) ∧
  (∀ no nc c, s.core.opState = .closing → s.confirmedClosed 1 = true → s.fe.kp.commanded = true → s.fe.kp.no = false → no = true →
    (s.ncWired 0 = false ∨ nc = false) → s.fe.closingSince = some c → s.since c ≤ 150 → Gives (.auxContactChange 0 no nc) s fun t =>
      t.core.opState = (if s.degraded then .derated else .online) ∧ t.fe.kp.no = no ∧ t.fe.kp.nc = nc)

/-- Coils and the weld check (R127, R128, R130, R131, R132). -/
def Obligations.ContactorSupervision : Prop := ∀ (s : State) (k : Nat), k < 2 →
  ((s.contactor k).coil = .pullIn → s.passed (s.contactor k).since (s.cfg 0x2013 1) = true →
    exec (.pullInEnd k) s = .next (s.modContactor k fun c => { c with coil := .hold })) ∧
  (s.ncWired k = true → s.ran (s.contactor k).sameSince 51 = true → Gives (.auxiliaryContactFault k) s fun t => t.raised 0x02A 0x46 5 k = true) ∧
  ((s.contactor k).coil = .hold → Gives (.coilDriveFault k false) s fun t => t.raised 0x02A 0x44 5 k = true) ∧
  Gives (.coilDriveFault k true) s (fun t => t.raised 0x02A 0x44 5 k = false) ∧
  (s.fe.weldStage = .aux → s.passed s.fe.weldSince 100 = true → s.confirmedOpen k = false → Gives .weldCheckAuxTimeout s fun t =>
    (t.contactor k).welded = true ∧ t.raised 0x02A 0x47 5 k = true ∧ t.fe.weldStage = .volt ∧ t.fe.weldSince = s.core.cycle) ∧
  (s.fe.weldStage = .volt → 10 ≤ s.fe.weldSums.2.2 → s.insulationKnown = true → s.bothOpen = true →
    2 * s.fe.vStr.natAbs ≤ 10 * s.fe.weldSums.1.natAbs → 2 * s.fe.vStr.natAbs ≤ 10 * s.fe.weldSums.2.1.natAbs →
      Gives .weldCheckVoltageStage s fun t => t.fe.weldStage = .idle ∧ t.fe.weldRepeat = false ∧ t.fe.kp.welded = (s.fe.kp.welded && s.fe.kp.weldNew) ∧
        t.fe.kn.welded = (s.fe.kn.welded && s.fe.kn.weldNew) ∧ (s.fe.kp.weldNew = false → s.fe.kn.weldNew = false → t.fe.weldResult = 0)) ∧
  (s.fe.weldStage = .volt → 10 ≤ s.fe.weldSums.2.2 → s.insulationKnown = true →
    10 * (if k = 0 then s.fe.weldSums.1 else s.fe.weldSums.2.1).natAbs < 2 * s.fe.vStr.natAbs →
      Gives .weldCheckVoltageStage s fun t => t.fe.weldStage = .idle ∧ (t.contactor k).welded = true ∧ t.raised 0x02A 0x47 5 k = true) ∧
  (s.fe.weldStage = .volt → 10 ≤ s.fe.weldSums.2.2 → s.insulationKnown = false → Gives .weldCheckVoltageStage s fun t =>
    t.fe.weldStage = .idle ∧ t.fe.weldResult = 2 ∧ t.fe.weldRepeat = true ∧ t.raised 0x02A 0x48 0 0 = true) ∧
  (s.fe.weldStage = .volt → s.passed s.fe.weldSince (s.cfg 0x2013 10 * 1000) = true → s.fe.weldSums.2.2 < 10 → Gives .weldWaitExpiry s fun t =>
    t.fe.weldStage = .idle ∧ t.fe.weldResult = 2 ∧ t.fe.weldRepeat = true ∧ t.raised 0x02A 0x48 0 0 = true)

/-! ### 02: the ring -/

/-- A break is declared in a closed ring (R63, R64, R68): by loss of signal at the port where the originated traffic ends, by a BRK character, or by a second
consecutive cycle without the SYNC. The ring is WRAPPED, both ports originate from the next cycle (from the one after it when the declaration comes after
t0 + 990 µs), blocks of either port count in this cycle, and the break is reported. -/
def Obligations.RingBreakDeclared : Prop := ∀ (s : State) (late : Bool) (i : Instr), s.ring.state = .closed → s.ring.originating = true →
  (∃ code disparity, i = .losDeclared s.receivePort code disparity late) ∨ i = .breakNotice late ∨
    (i = .syncNotReturned s.receivePort late ∧ s.ring.syncMissAt + 1 = s.core.cycle ∧ 1 ≤ s.ring.syncMissRun) →
  Gives i s fun t => ChangesOnly [.ring, .ranger] s t ∧ t.ring.state = .wrapped ∧ t.ring.lastChange = s.core.cycle ∧
    t.ring.breakFrom = some (s.core.cycle + if late then 2 else 1) ∧ t.ring.breakCycle = true ∧
    t.raised 0x020 0x2A 0 0 = true ∧ t.counter s.receivePort 9 = add32 (s.counter s.receivePort 9) 1

/-- What a port's receiver counts and reports without a break (R38, R63, R74). -/
def Obligations.RingPortEvents : Prop := ∀ (s : State) (port : Nat) (late : Bool),
  (∀ code disparity, Gives (.losDeclared port code disparity late) s fun t => ChangesOnly [.ring, .ranger] s t ∧ Tab.at t.ring.los port false = true ∧
    (0 < code + disparity → t.counter port 1 = add32 (s.counter port 1) code ∧ t.counter port 2 = add32 (s.counter port 2) disparity) ∧
    (code + disparity = 0 → t.counter port 1 = s.counter port 1 ∧ t.counter port 2 = s.counter port 2) ∧ t.counter port 3 = add32 (s.counter port 3) 1 ∧
    Sent s t (s.msg (0x020 + port) 0x27 .notice 5 port) ∧ (port ≠ s.receivePort → t.ring.state = s.ring.state)) ∧
  Gives (.losCleared port) s (fun t => ChangesOnly [.ring, .ranger] s t ∧ Tab.at t.ring.los port false = false ∧
    t.raised (0x020 + port) 0x27 5 port = false ∧ t.ring.state = s.ring.state) ∧
  (s.ring.syncMissAt + 1 ≠ s.core.cycle → Gives (.syncNotReturned port late) s fun t => ChangesOnly [.ring] s t ∧
    t.counter port 4 = add32 (s.counter port 4) 1 ∧ t.ring.syncMissRun = 1 ∧ t.ring.syncMissAt = s.core.cycle ∧ t.ring.state = s.ring.state) ∧
  (s.ring.state ≠ .closed → exec (.breakNotice late) s = .next s)

/-- Heads that fall silent and come back (R65, R66, R67). A head without a valid block for 3 cycles while both ports originate is unreachable, which is a
Firebreak cause; a wrapped head whose failed input has been clean for the qualification time says so; a head that restarted on a wrapped ring is loaded with
its position and delays, enumerated, wrapped and configured, while a segment whose heads all restarted is enumerated again (R59). -/
def Obligations.RingHeadsLostAndReadmitted : Prop := ∀ (s : State) (p : Nat), s.ring.state = .wrapped →
  (s.ring.bothPorts = true → 3 ≤ (s.info p).missRun → (s.info p).unreachable = false → Gives (.headUnreachable p) s fun t =>
    (t.info p).unreachable = true ∧ (t.info p).from_ = 255 ∧ (t.info p).hop = 0 ∧
    t.cause 13 = true ∧ t.causeRaised 13 2 (p * 256 + 255) = true ∧ TripTaken true s t) ∧
  (∀ delay, (s.head p).state = .enumerated → (s.head p).wrapped = true → s.passed (s.head p).failedAt (s.cfg 0x2100 4) = true →
    Gives (.farSideRestored ⟨p, delay⟩) s fun t =>
    t.head p = { s.head p with farSide := true } ∧ ∀ q, q ≠ p → t.head q = s.head q) ∧
  (∀ ident, s.ring.originating = true → (s.head p).state = .initial →
    (∀ q ∈ s.allHeads, s.portOf q = s.portOf p → (s.head q).state = .initial ∨ (s.head q).state = .lowPower) →
    Gives (.headReadmission p ident) s fun t => t.ring.state = .enum ∧ t.ring.enum.running = true ∧ t.heads = s.heads) ∧
  (∀ ident q, s.ring.originating = true → (s.head p).state = .initial → q ∈ s.allHeads → s.portOf q = s.portOf p → (s.head q).state ≠ .initial →
    (s.head q).state ≠ .lowPower → Gives (.headReadmission p ident) s fun t =>
    (t.head p).state = .enumerated ∧ (t.head p).wrapped = true ∧ (t.head p).p = some p ∧
    (t.head p).serial = ident.serial ∧ (t.info p).serial = ident.serial ∧ (t.info p).missRun = 0 ∧ (t.info p).unreachable = false ∧
    (t.head p).dW = (if (s.info p).dW = 0xFFFF then none else some (s.info p).dW) ∧
    (t.head p).dE = (if (s.info p).dE = 0xFFFF then none else some (s.info p).dE))

/-- Enumeration (R59, R61, R68): the heads found are counted and enumerated; at its end the ring is CLOSED with one originating port or WRAPPED with both,
and the mismatch with the committed configuration is raised or cleared. -/
def Obligations.RingEnumeration : Prop := ∀ (s : State), s.ring.state = .enum →
  (∀ near far closed endHop endPath, Gives (.enumeration near far closed endHop endPath) s fun t => t.ring.state = .enum ∧ t.ring.endPath = endPath ∧ t.ring.headCount = near.length + (if closed then 0 else far.length) ∧
    t.ring.enum.found = (near.length, far.length, closed) ∧ t.ring.enum.heads.length = near.length + (if closed then 0 else far.length)) ∧
  (s.ring.enum.running = true → Gives .enumerationComplete s fun t => t.ring.state = (if s.ring.enum.found.2.2 then .closed else .wrapped) ∧ t.ring.bothPorts = !s.ring.enum.found.2.2 ∧ t.ring.enum.running = false)

/-- What arrives at a ring port with no injection running there (R49, R52, R72, R74, R162): a block that passes the checks is recorded and its head's registers
take it, one that fails them is counted and used for nothing else, a valid one on the other segment moves its head's assignment; a command frame leaves the
frames in flight and its response goes to the port's queue. -/
def Obligations.RingReceives : Prop := ∀ (s : State) (port : Nat), (s.injector port).state ≠ 2 → (s.injector port).heldFrames = [] →
  (s.injector port).drill = false →
  (∀ b : HeadBlock, b.checkOk = true → s.expects port b.p = true → b.p ∉ s.ring.seenP → Gives (.headBlockReceive port b) s fun t =>
    t.ring.validP = s.ring.validP ++ [b.p] ∧ t.ring.blocks = s.ring.blocks ++ [{ cycle := s.core.cycle, port := port, block := b }] ∧
    t.info b.p = { s.info b.p with flags := HeadBlockFlags b, missRun := 0, failRun := 0, unreachable := false,
                                   from_ := if (s.info b.p).unreachable then port else (s.info b.p).from_,
                                   hop := if (s.info b.p).unreachable then s.hopFrom port b.p else (s.info b.p).hop }) ∧
  (∀ b : HeadBlock, b.checkOk = false → Gives (.headBlockReceive port b) s fun t =>
    t.ring.validP = s.ring.validP ∧ t.ring.blocks = s.ring.blocks ∧
    t.counter port 5 = add32 (s.counter port 5) 1 ∧ (t.info b.p).failRun = (s.info b.p).failRun + (if b.p ∈ s.ring.failedP then 0 else 1) ∧
    (t.info b.p).blockFails = inc32 (s.info b.p).blockFails ∧ (t.info b.p).missRun = (s.info b.p).missRun) ∧
  (∀ b : HeadBlock, b.checkOk = true → s.expects port b.p = false → b.p ∉ s.ring.seenP → s.ring.bothPorts = true → b.p ∈ s.allHeads →
    Gives (.headBlockReceive port b) s fun t => t.ring.validP = s.ring.validP ∧ t.ring.blocks = s.ring.blocks ∧
      Tab.at t.cruiser.assign b.p 0 = port ∧ t.cruiser.portsPending = true) ∧
  (∀ c addr r, s.ring.inFlight.find? (fun d => d.port = port && d.seq = c.seq) = some c → c.mode = .position → c.opcode = opEcho →
    Gives (.commandFrameReturn port c.seq addr (some r) none) s fun t => t.ring.inFlight = s.ring.inFlight.filter (fun d => !(d.port = port && d.seq = c.seq)) ∧
    (port = 0 → t.ring.q2 = s.ring.q2 ++ [{ cmd := c, answer := r }]) ∧ (port ≠ 0 → t.ring.q6 = s.ring.q6 ++ [{ cmd := c, answer := r }]))

/-! ### 02, 03: sense heads -/

/-- The commands that set a head up and read it (R86, R87, R88, R58, R66). A head that executes a new frame in a state that accepts the command answers
status 0 under the frame's sequence number, passes the frame on and changes only what the command names; nothing else of the block changes. -/
def Obligations.HeadSetUpCommands : Prop := ∀ (s : State) (place : Nat) (f : Frame) (h : Head), s.head place = h → HearsNew s place f →
  exec (.identify place f) s = .next (s.withHead place (h.said h f
    { status := 0, data := le 8 h.serial ++ le 1 h.cellCh ++ le 1 h.tempCh ++ le 2 h.lf ++ le 2 h.lr ++ le 2 h.lt ++ le 1 h.contract
        ++ le 1 (b2n (h.state = .initial) + 2 * b2n h.p.isSome + 4 * b2n (h.dW.isSome || h.dE.isSome)) ++ le 2 h.rBleed ++ le 2 h.groupDelay ++ le 2 0 })) ∧
  (h.state = .initial →
    exec (.openHead place f) s = .next (s.withHead place (h.said { h with wrapped := false } f { status := 0, data := le 1 opOpen }))) ∧
  (∀ p : Byte, h.state = .initial ∨ h.state = .enumerated → 1 ≤ p.toNat → p.toNat ≤ 64 →
    exec (.setPosition place f [p]) s
      = .next (s.withHead place (h.said { h with p := some p.toNat } f { status := 0, data := le 1 opSetPosition }))) ∧
  (∀ payload : Bytes, h.state = .initial ∨ h.state = .enumerated → payload.length = 4 →
    exec (.setDelay place f payload) s
      = .next (s.withHead place (h.said { h with dW := delayReg (fieldN payload 0 2), dE := delayReg (fieldN payload 2 2),
                                                 state := if h.p.isSome then .enumerated else h.state, delaySet := h.p.isSome } f
                                        { status := 0, data := le 1 opSetDelay }))) ∧
  (∀ payload : Bytes, h.state = .initial ∨ h.state = .enumerated → payload.length = 4 → 1 ≤ fieldN payload 0 1 → fieldN payload 0 1 ≤ 16 →
    exec (.configure place f payload) s
      = .next (s.withHead place (h.said { h with pendingCfg := some (fieldN payload 0 1, BitVec.ofNat 16 (fieldN payload 2 2)), changed := true } f
                                        { status := 0, data := le 1 opConfigure }))) ∧
  (h.state = .enumerated → h.wrapped = true →
    exec (.unwrap place f) s
      = .next (s.withHead place (h.said { h with unwrapAt := some (h.cycle + 2) } f { status := 0, data := le 1 opUnwrap }))) ∧
  exec (.readStatus place f) s = .next (s.withHead place (h.said { h with changed := false } f
    { status := 0, data := leI 2 h.die ++ le 2 h.flags ++ le 4 h.charErrors ++ le 2 h.missingSync ++ le 2 h.noFit ++ le 2 h.lastSwitches.toNat })) ∧
  exec (.restart place f [0x5A#8, 0xA5#8]) s = .next (s.withHead place (h.said
    { h.initial with missing := 0, charErrors := 0, missingSync := 0, noFit := 0, syncPort := none, sampled := false } f
    { status := 0, data := le 1 opRestart })) ∧
  (∀ payload : Bytes, 1 ≤ payload.length → payload.length ≤ 123 →
    exec (.echo place f payload) s = .next (s.withHead place (h.said h f { status := 0, data := payload })))

/-- The commands that move a head's bleed switches and its tests (R86, R90, R91, R92, R247), carried out by an enumerated head with no test running and a
payload in range; a TEST-REF sent in ISOLATED or SERVICE also tells the tap monitor how long the head's readings are its reference's (R92). -/
def Obligations.HeadBleedAndTestCommands : Prop := ∀ (s : State) (place : Nat) (f : Frame) (h : Head), s.head place = h → HearsNew s place f →
  exec (.bleedOff place f) s
    = .next (s.withHead place (h.said { h with switches := 0, slots := [] } f { status := 0, data := le 1 opBleedOff })) ∧
  (h.state = .enumerated →
    (∀ (payload : Bytes) (b : BleedSlot), payload.length = 6 →
      b = { start := fieldN payload 0 2, mask := BitVec.ofNat 16 (fieldN payload 2 2), len := fieldN payload 4 1, continuous := fieldN payload 5 1 = 1 } →
      1 ≤ b.len → b.len ≤ 100 → fieldN payload 5 1 ≤ 1 → b.mask.toNat < 2 ^ h.n → h.refuses b.mask b.continuous = false →
      exec (.bleedSlot place f payload) s = .next (s.withHead place (h.said
        { h with slots := h.slots.filter (fun o => !o.overlaps b) ++ [b] } f { status := 0, data := le 1 opBleedSlot }))) ∧
    (h.testing = false →
      (∀ tap k : Byte, tap.toNat ≤ h.n → 1 ≤ k.toNat → k.toNat ≤ 8 →
        exec (.owTest place f [tap, k]) s = .next (s.withHead place (h.said
          { h with owTest := some { tap := tap.toNat, k := k.toNat, cr := h.cycle } } f { status := 0, data := le 1 opOwTest }))) ∧
      (∀ cell m : Byte, 1 ≤ cell.toNat → cell.toNat ≤ h.n → 1 ≤ m.toNat → m.toNat ≤ 20 →
        exec (.switchTest place f [cell, m]) s = .next (s.withHead place (h.said
          { h with swTest := some { cell := cell.toNat, m := m.toNat, cr := h.cycle }, slots := [] } f { status := 0, data := le 1 opSwitchTest }))) ∧
      (∀ (n : Byte) (u : State), 1 ≤ n.toNat → n.toNat ≤ 16 →
        u = s.withHead place (h.said { h with refCycles := n.toNat } f { status := 0, data := le 1 opTestRef }) →
        (s.maySend opTestRef = false ∨ h.p = none → exec (.testRef place f [n]) s = .next u) ∧
        (∀ p, s.maySend opTestRef = true → h.p = some p →
          exec (.testRef place f [n]) s
            = .next { u with tap := { s.tap with refUntil := Tab.put s.tap.refUntil p (s.ahead n.toNat),
                                                 refBad := Tab.drop s.tap.refBad p } }))))

/-- A head that has executed a frame answers a repetition of its sequence number with the stored response and does not execute it again (R52); a frame it
does not take it passes on only, and asleep not even that (R51, R85). Both hold for every head command. -/
def Obligations.HeadCommandsRepeatOrIgnore : Prop := ∀ (s : State) (place : Nat) (f : Frame) (payload : Bytes) (i : Instr),
  i ∈ [.identify place f, .openHead place f, .setPosition place f payload, .setDelay place f payload, .configure place f payload, .unwrap place f,
       .bleedSlot place f payload, .bleedOff place f, .owTest place f payload, .switchTest place f payload, .readStatus place f,
       .testRef place f payload, .restart place f payload, .echo place f payload] →
  ((s.head place).state = .lowPower → exec i s = .next s) ∧
  ((s.head place).state ≠ .lowPower → (s.head place).takes f = false → exec i s = .next (s.withHead place
    { s.head place with passedOn := some (onwardAddress f, (s.head place).exit f.port), returned := [] })) ∧
  (∀ r, (s.head place).takes f = true → (s.head place).lastSeq = some (f.seq, r) → exec i s = .next (s.withHead place
    { s.head place with passedOn := some (onwardAddress f, (s.head place).exit f.port),
                        returned := if f.mode = .broadcast then [] else answerArea r }))

/-- What a head does in a cycle by itself (R46, R47, R56, R62, R80, R81, R83, R85, R58): the clauses give the new head, and nothing else changes. -/
def Obligations.HeadCycleEvents : Prop := ∀ (s : State) (place : Nat) (h : Head), s.head place = h →
  (∀ (cells : List (Option Int)) (stack : Option Int) (temps : List (Option Int)) (die : Int),
    h.syncPort.isSome = true → h.state ≠ .lowPower → h.state ≠ .syncLost → die < 9500 →
    exec (.headSample place cells stack temps die) s = .next (s.withHead place
      { h with sampled := true, cells := cells.take h.n, stack := stack, temps := temps, die := die, dieHot := false,
               lastSwitches := if h.owOn then h.switches else h.switches ||| h.testSwitch,
               refCycles := h.refCycles - 1 })) ∧
  (∀ fil, h.sampled = true → h.p.isSome = true → h.state = .enumerated → blockLen h.n ≤ fil → blockLen h.n ≤ h.container →
    exec (.containerPass place fil) s = .next (s.withHead place { h with lastBlock := h.block, inboundErr := false })) ∧
  (∀ fil, h.sampled = true → h.p.isSome = true → h.state = .enumerated → fil < blockLen h.n ∨ h.container < blockLen h.n →
    exec (.containerPass place fil) s = .next (s.withHead place { h with noFit := inc16 h.noFit })) ∧
  (h.windowSlot = none → exec (.quietWindowOpen place) s = .next (s.withHead place { h with quiet := true, switches := h.testSwitch })) ∧
  (∀ b, h.windowSlot = some b → exec (.quietWindowOpen place) s
    = .next (s.withHead place { h with quiet := true, switches := if b.continuous then h.switches else h.testSwitch })) ∧
  (h.swHolds = false → exec (.quietWindowClose place) s = .next (s.withHead place { h with quiet := false, switches := h.slotSwitches })) ∧
  (h.swHolds = true → exec (.quietWindowClose place) s = .next (s.withHead place { h with quiet := false, switches := h.testSwitch })) ∧
  (∀ b, h.slotNow = some b → b.continuous = true ∨ h.quiet = false → h.swHolds = false → h.bleedFree = true →
    exec (.bleedSlotStart place) s = .next (s.withHead place { h with switches := b.mask })) ∧
  (∀ side, h.state = .enumerated → exec (.headWrap ⟨place, side⟩) s = .next (s.withHead place
    { h with wrapped := true, failedSide := some side, failedAt := s.core.cycle, farSide := false })) ∧
  exec (.headCycleMissing place) s = .next (s.withHead place
    { h with missing := h.missing + 1, missingSync := inc16 h.missingSync, syncPort := none,
             sampled := false, switches := 0 }) ∧
  (h.state = .enumerated → 5 ≤ h.missing → exec (.headSyncLost place) s
    = .next (s.withHead place { h with switches := 0, slots := [], state := .syncLost, owTest := none, swTest := none })) ∧
  (h.state ≠ .lowPower → 99 ≤ h.missing → exec (.headInitialState place) s = .next (s.withHead place
    { h with switches := 0, slots := [], state := .initial, wrapped := true, p := none, dW := none, dE := none, owTest := none, swTest := none,
             unwrapAt := none, farSide := false, refCycles := 0, pendingCfg := none, failedSide := none, brkAt := none, delaySet := false })) ∧
  (h.state = .initial → 9999 ≤ h.missing →
    exec (.headLowPower place) s = .next (s.withHead place { h with state := .lowPower, syncPort := none, sampled := false })) ∧
  (h.state = .lowPower → exec (.headWake place) s = .next (s.withHead place { h with state := .initial, missing := 0 }))

/-- A valid SYNC at a head (R56, R57, R85, R86, R66, R62): the head takes its cycle, its sampling instant from its own lane's delay, the configuration that
waits, a head that had lost SYNC is enumerated again, a scheduled unwrap is done, and a head still wrapped on a failed side sends BRK; no other head and no
other part changes. After a SYNC whose check fails the head takes no sample (R44), and a second one on the other port in a cycle is flagged (R57). -/
def Obligations.HeadTakesSync : Prop := ∀ (s : State) (place port : Nat) (hdr : SyncHeader) (h : Head), s.head place = h →
  h.state ≠ .lowPower →
  (hdr.checkOk = false → h.syncPort = none ∨ h.syncPort = some port → exec (.headSyncReceive place port hdr) s = .next (s.withHead place
    { h.countErrors hdr.errors with inboundErr := true, sampled := false, syncPort := none })) ∧
  (∀ q, hdr.checkOk = true → h.syncPort = some q → q ≠ port → h.lastSync = some hdr.cycle ∨ h.syncAt = some s.core.cycle →
    Gives (.headSyncReceive place port hdr) s fun t => (t.head place).inboundErr = true ∧ t.raised 0x020 0x25 0 0 = true) ∧
  (hdr.checkOk = true →
  (h.syncPort = none ∨ h.syncPort = some port ∨ h.lastSync ≠ some hdr.cycle ∧ h.syncAt ≠ some s.core.cycle) →
  Gives (.headSyncReceive place port hdr) s fun t =>
    ChangesOnly [.heads] s t ∧ (∀ q, q ≠ place → t.head q = s.head q) ∧
    (t.head place).lastSync = some hdr.cycle ∧ (t.head place).syncPort = some port ∧ (t.head place).missing = 0 ∧ (t.head place).sampled = false ∧
    (t.head place).sampleAt = (hdr.ts : Int) * 100 - hdr.entry - ((if port = 0 then h.dW else h.dE).getD 0 : Nat) ∧
    (t.head place).state = (if h.state = .syncLost then .enumerated else h.state) ∧ (t.head place).pendingCfg = none ∧
    (∀ c, h.pendingCfg = some c → (t.head place).n = c.1 ∧ (t.head place).tempMask = c.2) ∧
    (h.pendingCfg = none → (t.head place).n = h.n ∧ (t.head place).tempMask = h.tempMask) ∧
    (t.head place).wrapped = (if h.unwrapAt = some hdr.cycle then false else h.wrapped) ∧
    (h.wrapped = true → h.failedSide.isSome = true → h.state = .enumerated ∨ h.state = .syncLost → h.unwrapAt ≠ some hdr.cycle →
      (t.head place).brkAt = some hdr.cycle))

/-! ### 03: tap monitor -/

/-- The qualified sums (R98, R99): a head sum beyond tolerance for 10 cycles that no open end tap explains is diagnosed and raised; a string sum beyond
tolerance for 10 cycles is raised. -/
def Obligations.TapSumMismatches : Prop := ∀ (s : State),
  (∀ p, 10 ≤ Tab.nat s.tap.sumBad p → (s.diag p).getLsbD 0 = false → s.tapState p 0 ≠ 4 → s.tapState p (s.channels p) ≠ 4 →
    Gives (.headSumMismatch p) s fun t => (t.diag p).getLsbD 0 = true ∧ t.raised 0x018 0x34 2 (p * 256 + 255) = true) ∧
  (10 ≤ s.tap.strBad → Gives .stringSumMismatch s fun t => t.raised 0x018 0x35 0 0 = true)

/-- Open-wire tests (R101, R102, R103): the schedule starts the head's next tap in order; a test whose drive is plausible and small leaves the tap intact
and ends its suspicion, one of 100 mV or more marks it open at DEGRADE, and a suspicion that has no result after 1 s is taken as open. -/
def Obligations.TapOpenWireTests : Prop := ∀ (s : State) (p : Nat),
  (∀ tap, s.ring.originating = true → s.owTesting p = none → Tab.at s.tap.testQueue p [] = [] → 1 ≤ s.channels p → s.owDue p = true →
    tap = (if s.channels p < Tab.nat s.tap.nextTap p then 0 else Tab.nat s.tap.nextTap p) →
    Gives (.openWireTestSchedule p) s fun t => t.owTesting p = some { tap := tap, k := s.cfg 0x2103 2, sentAt := s.core.cycle } ∧
      Tab.nat t.tap.nextTap p = (tap + 1) % (s.channels p + 1) ∧
      Tab.find t.tap.dueAt p = some (Tab.at s.tap.dueAt p s.core.cycle + BitVec.ofNat 32 (s.cfg 0x2103 1 * 1000 / (s.channels p + 1)))) ∧
  (∀ e c d, s.owTesting p = some e → e.cr = some c → e.twiceD (s.channels p) = some d →
    (-400 ≤ d → d ≤ 400 → Gives (.openWireEvaluation p) s fun t =>
      t.tapState p e.tap = (if s.tapState p e.tap = 2 then (if Tab.flag s.tap.wasHigh (tapKey p e.tap) then 3 else 0)
        else if s.tapState p e.tap = 1 then 0 else s.tapState p e.tap) ∧ Tab.at t.tap.lastTest p 0 = s.core.cycle) ∧
    (400 < d → d < 20000 → s.tapState p e.tap ≠ 4 → Gives (.openWireEvaluation p) s fun t =>
      t.tapState p e.tap = 3 ∧ t.raised 0x018 0x32 2 (p * 256 + e.tap) = true) ∧
    (20000 ≤ d → Gives (.openWireEvaluation p) s fun t => t.tapState p e.tap = 4 ∧ t.raised 0x018 0x33 2 (p * 256 + e.tap) = true)) ∧
  (∀ tap, s.tapState p tap = 2 → s.ran (Tab.find s.tap.suspectedAt (tapKey p tap)) 1000 = true →
    Gives (.tapSuspicionTimeout p tap) s fun t => t.tapState p tap = 4 ∧ t.raised 0x018 0x33 2 (p * 256 + tap) = true)

/-! ### 04: front-end -/

/-- Auto-zero and the in-service zero (R113, R114). -/
def Obligations.AutoZero : Prop := ∀ (s : State),
  (s.core.opState = .isolated → s.passed s.fe.zeroTimer 600000 = true →
    exec .autoZeroTimer s = .next { s with fe := { s.fe with zeroDue := true, zeroTimer := s.core.cycle } }) ∧
  (s.fe.zeroDue = true → s.fe.zeroing = none → s.zeroAllowed = true → s.feBit feHallOk = true → s.fe.hall.natAbs ≤ 20000 →
    exec .autoZeroStart s = .next (({ s with fe := { s.fe with zeroDue := false, zeroing := some s.core.cycle } } : State).setFe feZeroing true)) ∧
  (∀ main hall base, s.ran s.fe.zeroing 200 = true → Gives (.autoZeroComplete main hall base) s fun t => ChangesOnly [.fe] s t ∧
    t.fe.offset = main ∧ t.fe.hallOffset = hall ∧ t.fe.zeroTemp = base ∧ t.fe.zeroCycle = s.core.cycle ∧ t.fe.zeroing = none ∧ t.feBit feZeroing = false) ∧
  (s.bothClosed = true → s.passed s.fe.inServiceLast 10000 = true →
    exec .inServiceZero s = .next { s with fe := { s.fe with inService := some s.core.cycle, inServiceLast := s.core.cycle } })

/-- The insulation monitor (R119, R121, R122): a half-period is over 1 s after its start once its current has settled, at 60 s in any case, and not before; the
half-periods, the result after a full one, the unit that no longer injects stopping there; and a result that has gone stale in any unit. -/
def Obligations.InsulationMonitor : Prop := ∀ s : State,
  (s.fe.injecting = true → ∀ (leak : Int) (drift cap pos : Nat),
    (s.passed s.fe.halfStart 1000 = false ∨
        (leak - s.fe.settled).natAbs ≤ 100 * drift ∧ s.passed s.fe.halfStart 60000 = false → exec (.insulationHalfPeriodEnd leak drift cap pos) s = .next s) ∧
    (s.passed s.fe.halfStart 1000 = true → 100 * drift < (leak - s.fe.settled).natAbs ∨ s.passed s.fe.halfStart 60000 = true →
      (s.fe.halfVoid = true → Gives (.insulationHalfPeriodEnd leak drift cap pos) s fun t => ChangesOnly [.fe] s t ∧ t.fe.iPos = none ∧
        t.fe.halfPositive = (!s.fe.halfPositive) ∧ t.fe.halfStart = s.core.cycle ∧ t.fe.rIso = s.fe.rIso ∧ t.fe.isoSeq = s.fe.isoSeq) ∧
      (s.fe.halfVoid = false → s.fe.halfPositive = true → Gives (.insulationHalfPeriodEnd leak drift cap pos) s fun t => ChangesOnly [.fe] s t ∧
        t.fe.iPos = some leak ∧ t.fe.halfPositive = false ∧ t.fe.halfStart = s.core.cycle ∧ t.fe.rIso = s.fe.rIso ∧ t.fe.isoSeq = s.fe.isoSeq) ∧
      (∀ p, s.fe.halfVoid = false → s.fe.halfPositive = false → s.fe.iPos = some p → Gives (.insulationHalfPeriodEnd leak drift cap pos) s fun t =>
        t.fe.rIso = insulationResult p leak (s.unitsIn * (2 + s.notOpen)) ∧ t.fe.isoSeq = (s.fe.isoSeq + 1) % 0x10000 ∧ t.fe.leakCap = cap ∧
        t.fe.faultPos = pos ∧ t.fe.isoLast = some s.core.cycle ∧ t.feBit feIsoStale = false ∧ t.raised 0x029 0x43 0 0 = false ∧
        t.fe.injecting = s.injects))) ∧
  (s.cfg 0x2012 3 = 1 → s.ran s.fe.isoLast 120000 = true → Gives .insulationResultStale s fun t => t.feBit feIsoStale = true ∧ t.raised 0x029 0x43 0 0 = true)

/-- The strobe and the fast sample pair (R109, R110, R112, R113, R114): with PD8 powered and no zero running, the front-end holds what was sampled less its
offsets, the main current clamped at ±2,050,000 mA; during the reversal of an in-service zero the main fast sample is held. (Which values the clamp touches is
DEDUCED, log entry 50.) -/
def Obligations.FrontEndSamples : Prop := ∀ (s : State), s.pd 8 = true → s.fe.zeroing = none →
  (∀ x aux, s.inServiceNow = false → Gives (.frontEndSample x aux) s fun t => t.fe.vStr = x.vStr ∧ t.fe.vLink = x.vLink ∧ t.fe.vStrP = x.vStrP ∧ t.fe.vStrN = x.vStrN ∧
    t.fe.vLinkP = x.vLinkP ∧ t.fe.vLinkN = x.vLinkN ∧ t.fe.hall = x.hall - s.fe.hallOffset ∧
    t.fe.main = clampI (-2050000) 2050000 (x.main - s.fe.offset)) ∧
  (∀ main hall, Gives (.fastSample main hall) s fun t => t.fe.fastMain = (if s.inServiceNow then s.fe.fastMain else main - s.fe.offset) ∧ t.fe.fastHall = hall - s.fe.hallOffset)

/-! ### 05 to 08: tables, estimation, impedance, balancing -/

/-- What the Cruiser and the tables do in time (R146, R144, R164, R166): an idle staging area is discarded; a point not updated for three of its periods is
stale; a minute's or an hour's record is written and its aggregates begin anew in every cell; two worn units change places. -/
def Obligations.CruiserTimers : Prop := ∀ s : State,
  (s.dict.owner.isSome = true → s.passed s.dict.ownerAt (s.cfg 0x1F00 7 * 1000) = true →
    exec .stagingIdleTimeout s = .next { s with dict := { s.dict with staged := [], owner := none } }) ∧
  (∀ n, (s.point n).quality = .good → s.passed (s.point n).updated (3 * sourcePeriod (s.pointCfg n 1)) = true → Gives (.pointStale n) s fun t =>
    t.point n = { s.point n with quality := .stale } ∧ ∀ m, m ≠ n → t.point m = s.point m) ∧
  ((∀ r ∈ s.cruiser.minuteSram.head?, s.passed r.cycle 60000 = true) → Gives .minuteAggregate s fun t =>
    (∃ r : AggRecord, r.cycle = s.core.cycle ∧ r.header.length = 104 ∧ r.data = ((upFrom 1 512).map fun k => minutePart (s.cell k)).flatten ∧
      t.cruiser.minuteSram = keepN 16 (r :: s.cruiser.minuteSram) ∧
      t.cruiser.minutes = if s.storageOk then keepN 7200 (r :: s.cruiser.minutes) else s.cruiser.minutes) ∧
    ∀ k ∈ s.allCells, t.cell k = { s.cell k with minute := {} }) ∧
  ((∀ c, s.cruiser.hourAt = some c → s.passed c 3600000 = true) → Gives .hourAggregate s fun t =>
    (∃ r : AggRecord, r.cycle = s.core.cycle ∧ r.header.length = 512 ∧ r.data = ((upFrom 1 512).map fun k => hourPart (s.cell k)).flatten ∧
      t.cruiser.hours = if s.storageOk then keepN 3855 (r :: s.cruiser.hours) else s.cruiser.hours) ∧
    t.cruiser.hourAt = some s.core.cycle ∧ ∀ k ∈ s.allCells, t.cell k = { s.cell k with hour := {} }) ∧
  (∀ a b, s.storageOk = true → 2000 < s.eraseSpread → leastWorn s s.liveUnits = some a → mostWorn s s.liveUnits = some b → a ≠ b →
    Gives .wearSwap s fun t => t.physical a = s.physical b ∧ t.physical b = s.physical a ∧ (∀ u, u ≠ a → u ≠ b → t.physical u = s.physical u) ∧
      t.erasesOf (s.physical b) = s.erasesOf (s.physical b) + 1 ∧ t.cruiser.spread = t.eraseSpread)

/-- Storage checkpoints and repairs (R164, R137, R204): a checkpoint holds the Landing's latest image, a failed one is reported; a repaired entry is reported
and its state comes from the Landing's latest image; a rebuild from storage places every cell anew and restarts what does not outlast a restart. -/
def Obligations.StorageAndRepair : Prop := ∀ s : State,
  (s.storageOk = true → Gives (.storageCheckpoint true) s fun t => t.raised 0x078 0xE8 0 0 = true) ∧
  (s.storageOk = true → Gives (.storageCheckpoint false) s fun t => t.storage.checkpoints = keepN 8 (s.checkpointImage :: s.storage.checkpoints) ∧
    t.storage.lastCp = s.core.cycle) ∧
  (∀ n, Gives (.tableEntryRepaired true false n) s fun t => Sent s t (s.msg (s.laneSrc n) 0x50 .warn 1 n) ∧ t.cells = s.cells) ∧
  (∀ n i, s.storage.landing.head? = some i → Gives (.tableEntryRepaired true true n) s fun t =>
    t.cell n = Tab.at i.cells n {} ∧ (∀ k, k ≠ n → t.cell k = s.cell k) ∧ Sent s t (s.msg (t.laneSrc n) 0x50 .warn 1 n)) ∧
  (∀ n i, s.storage.landing.head? = some i → Gives (.tableEntryRepaired false true n) s fun t =>
    t.point n = Tab.at i.points n {} ∧ (∀ k, k ≠ n → t.point k = s.point k) ∧ Sent s t (s.msg 0x038 0x50 .warn 3 n)) ∧
  (∀ bad, s.starting = true → s.pd 1 = true → s.power.boot.getLsbD 2 = false → Gives (.stateRebuild bad) s fun t =>
    t.power.boot.getLsbD 2 = true ∧ t.lookout.changedHeads = [] ∧
    ∀ k ∈ s.allCells, (t.cell k).lane = some ((k - 1) % 8) ∧ (t.cell k).anchor = none ∧ (t.cell k).minute = {} ∧ (t.cell k).hour = {})

/-- End events and what ends with time in a lane (R188, R189, R191, R176, R184): an end event takes the counter's estimate to its end and marks the cells at the end
voltage; after the re-arm time the marks go and the event is armed again; a held temperature is reported; a settled divergence clears. -/
def Obligations.EndEventsAndHolds : Prop := ∀ s : State,
  (s.scaler.chgArmed = true → s.cfg 0x4000 2 * 1000 ≤ s.scaler.chgRun → Gives .endOfCharge s fun t =>
    t.scaler.chgArmed = false ∧ t.scaler.lastEndCycle = s.core.cycle ∧ t.scaler.disArmed = s.scaler.disArmed ∧
    ∀ k ∈ s.allCells, s.insertedNow k = false → s.endVoltage true k = true → (t.cell k).flag cfEndCharge = true) ∧
  (s.scaler.disArmed = true → s.cfg 0x4000 2 * 1000 ≤ s.scaler.disRun → Gives .endOfDischarge s fun t =>
    t.scaler.disArmed = false ∧ t.scaler.usable = 0 ∧ t.scaler.lastEnd = 2 ∧ t.scaler.lastEndCycle = s.core.cycle ∧
    ∀ k ∈ s.allCells, s.insertedNow k = false → s.endVoltage false k = true → (t.cell k).flag cfEndDischarge = true) ∧
  (s.scaler.chgArmed = false → 60000 ≤ s.scaler.chgClear → Gives (.endEventRearm true) s fun t => t.scaler = { s.scaler with chgArmed := true } ∧
    ∀ k ∈ s.allCells, (t.cell k).flag cfEndCharge = false) ∧
  (s.scaler.disArmed = false → 60000 ≤ s.scaler.disClear → Gives (.endEventRearm false) s fun t => t.scaler = { s.scaler with disArmed := true } ∧
    ∀ k ∈ s.allCells, (t.cell k).flag cfEndDischarge = false) ∧
  (∀ k, (s.cell k).lane.getD 0 < 8 → s.ran (s.cell k).heldSince 10000 = true → Gives (.cellTemperatureUnknown k) s fun t => ∃ src, 0x030 ≤ src ∧ src ≤ 0x037 ∧ t.raised src 0x54 1 k = true) ∧
  (∀ k, (s.cell k).flag cfDivergence = true → s.ran (s.cell k).heldLow 600000 = true → Gives (.countingDivergenceClear k) s fun t =>
    (t.cell k).flag cfDivergence = false ∧ ∀ src, 0x030 ≤ src → src ≤ 0x037 → t.raised src 0x55 1 k = false)

/-- Perturbation windows (R208, R210, R214): a due one is requested to begin 1,000 cycles ahead; one that may go on no longer stops, and counts as
discarded once it ran; at its end a spoilt window is discarded for its cause, one with every tone's current in its range is complete, another counts against
the amplitude. -/
def Obligations.PerturbationWindows : Prop := ∀ s : State,
  (s.pertIdle = true → s.pertDue = true → s.mayPerturb = true → Gives .perturbationWindowRequest s fun t => ChangesOnly [.borer] s t ∧
    t.borer.state = .requested ∧ t.borer.desc.command = 1 ∧ t.borer.desc.mask = BitVec.ofNat 8 (s.cfg 0x4800 2) ∧ t.borer.desc.start = s.ahead 1000 ∧
    t.borer.desc.length = s.cfg 0x4800 5 ∧ t.borer.desc.seq = (s.borer.desc.seq + 1) % 65536) ∧
  (s.borer.state = .requested → s.mayPerturb = false → Gives .perturbationStop s fun t =>
    t.borer.state = .idle ∧ t.borer.desc.command = 2 ∧ t.borer.discarded = s.borer.discarded) ∧
  (s.borer.state = .running → s.mayPerturb = false → Gives .perturbationStop s fun t =>
    t.borer.state = .idle ∧ t.borer.desc.command = 2 ∧ t.borer.discarded = inc32 s.borer.discarded ∧ t.borer.cause = 3) ∧
  (s.borer.state = .running → notBefore s.core.cycle s.windowEnd = true →
    (∀ c, s.borer.spoil = some c → Gives .windowEnd s fun t => t.borer.discarded = inc32 s.borer.discarded ∧ t.borer.cause = c ∧ t.borer.state = s.pertRest) ∧
    (s.borer.spoil = none → (∀ k ∈ tonesOf s.borer.desc.mask, s.borer.desc.amp * 10 ≤ 2 * toneCurrent (Tab.at s.borer.cells 0 {}) k ∧
        2 * toneCurrent (Tab.at s.borer.cells 0 {}) k ≤ 3 * (s.borer.desc.amp * 10)) → Gives .windowEnd s fun t =>
      t.borer.completed = inc32 s.borer.completed ∧ t.borer.state = .idle ∧ t.borer.ampRun = 0 ∧ t.raised 0x039 0x5A 0 0 = false) ∧
    (s.borer.spoil = none → (∃ k ∈ tonesOf s.borer.desc.mask, 2 * toneCurrent (Tab.at s.borer.cells 0 {}) k < s.borer.desc.amp * 10) →
      Gives .windowEnd s fun t => t.borer.discarded = inc32 s.borer.discarded ∧ t.borer.cause = 1 ∧ t.borer.ampRun = s.borer.ampRun + 1 ∧
        (3 ≤ t.borer.ampRun → t.raised 0x039 0x5A 0 0 = true)))

/-- What the Borer does with results and in time (R217, R223, R226, R228, R230): results are applied when they are due; entries of the impedance tables age by a
day; the health figures are those of the cells; a snapshot of a cell at rest is kept; an evaluated rest begins the next. -/
def Obligations.BorerUpkeep : Prop := ∀ s : State,
  (Gives .resultApplication s fun t => t.borer.results = s.borer.results.filter (fun r => !notBefore s.core.cycle r.at_)) ∧
  ((∀ r ∈ s.borer.results, notBefore s.core.cycle r.at_ = false) → Gives .resultApplication s fun t => t.cells = s.cells ∧ t.borer = s.borer) ∧
  (s.passed s.borer.ageBase 86400000 = true → Gives .impedanceAgeAdvance s fun t => ChangesOnly [.cells, .borer] s t ∧ t.borer.ageBase = s.core.cycle ∧
    ∀ k ∈ s.allCells, t.cell k =
      { s.cell k with impTable := (s.cell k).impTable.map fun e => (e.1, { e.2 with age := inc8 e.2.age }),
                      impHead := { (s.cell k).impHead with days := inc8 (s.cell k).impHead.days } }) ∧
  (Gives .healthEvaluation s fun t => t.borer.lowRet = ((minI (t.allCells.map fun k => ((t.cell k).capRet : Int))).getD 0).toNat ∧
    t.borer.highGrowth = ((maxI (t.allCells.map fun k => ((t.cell k).rGrowth : Int))).getD 0).toNat ∧
    t.borer.medGrowth = (medianI ((t.allCells.filter fun k => !(t.cell k).flag cfSenseLost).map fun k => ((t.cell k).rGrowth : Int))).toNat ∧
    ∀ k ∈ s.allCells, (s.cell k).learned = false → (t.cell k).health = 0 ∧ (t.cell k).flag cfHealth = false) ∧
  (Gives .restSnapshot s fun t => t.borer.lastSnap = some s.core.cycle ∧ ∀ k ∈ s.allCells,
    ((s.cell k).restN < 1000 ∨ (s.cell k).restStart = none → t.cell k = s.cell k) ∧
    (1000 ≤ (s.cell k).restN → (s.cell k).restStart ≠ none → (t.cell k).restN = 0 ∧ (t.cell k).restSum = 0 ∧
      ∃ x, (t.cell k).snapshots = x :: (s.cell k).snapshots ∧ x.cycle = s.core.cycle ∧ x.v = qdiv (s.cell k).restSum 1000 ∧ x.bleed = (s.cell k).bleedTotal)) ∧
  (Gives .restEvaluation s fun t => ∀ k ∈ s.allCells, s.restDue k = true →
    (if (s.cell k).restOver then (t.cell k).snapshots = [] ∧ (t.cell k).restOver = false else (t.cell k).restEval = some s.core.cycle))

/-- Balancing (R237, R239, R241, R235, R242, R246, R249): targets of the usable cells every 10 s; a slot's granted cells go to the head; nothing goes and every map
is withdrawn where balancing may not run; a slot that is not acknowledged is ended; a test round begins at the first cell, and a test without sums repeats. -/
def Obligations.Thinning : Prop := ∀ s : State,
  (s.C % 10000 = 9999 → (s.scaler.evals.map Prod.fst).Nodup → Gives .targetRecompute s fun t =>
    (∀ e ∈ s.scaler.evals, s.eligible e.1 = true →
      (t.cell e.1).target = s.newTarget (((s.scaler.evals.filter fun e => s.eligible e.1).map fun e => e.2.2.1).foldl max 0) e.1 e.2) ∧
    (∀ k, s.eligible k = false ∨ k ∉ s.scaler.evals.map Prod.fst → t.cell k = s.cell k)) ∧
  (∀ lead p, s.cfg 0x5000 7 = lead → (s.C + lead) % 100 = 0 → s.mayBalance = true → s.allHeads = [p] → s.testBlocks p lead = false →
    (s.thinHead p).state ≠ 3 → s.granted p ((s.C + lead) / 100) (s.mayContinuous p) ≠ [] → Gives .slotDecision s fun t =>
      (t.thinHead p).state = 2 ∧ ∃ b, (t.thinHead p).sent = some b ∧ b.start = (s.ahead lead).toNat % 0x10000 ∧ b.len = 100 ∧
        ∀ i < 16, b.mask.getLsbD i = ((s.granted p ((s.C + lead) / 100) (s.mayContinuous p)).any fun k => s.channelOf k - 1 = i)) ∧
  ((s.C + s.cfg 0x5000 7) % 100 = 0 → s.mayBalance = false → (s.thin.heads.any fun e => e.2.map != 0 || e.2.sent.isSome || e.2.nextSlot.isSome) = true →
    Gives .slotDecision s fun t => t.thin.power = 0 ∧ ∀ p, (t.thinHead p).map = 0 ∧ (t.thinHead p).sent = none ∧ (t.thinHead p).nextSlot = none) ∧
  (∀ p, (s.thinHead p).sent.isSome = true → (s.thinHead p).state = 2 → s.C % 100 = 99 → Gives (.bleedSlotUnacknowledged p) s fun t =>
    ChangesOnly [.ring, .thin] s t ∧ t.thinHead p = { s.thinHead p with state := 3 } ∧ t.ring = (s.command true p opBleedOff []).ring) ∧
  (∀ p, s.allHeads = [p] → (s.thinHead p).testWanted = true → (s.thinHead p).test = none → s.channels p ≠ 0 → Gives .switchTestSchedule s fun t =>
    (t.thinHead p).testWanted = false ∧ ∃ x, (t.thinHead p).test = some x ∧ x.cell = 1 ∧ x.m = s.cfg 0x5000 12 ∧ x.left = upFrom 2 (s.channels p - 1)) ∧
  (∀ p x c, (s.thinHead p).test = some x → x.cr = some c → s.passed c (2 * x.m + 1) = true → x.sums = none → x.tries < 3 →
    Gives (.switchTestEvaluation p) s fun t => (t.cell (s.firstCell p + x.cell - 1)).swResult = 5 ∧
      (t.thinHead p).test = some { x with sent := false, cr := none, tries := x.tries + 1, samples := [] })

/-! ### 09: the Firebreak -/

/-- Causes that qualify by a command of their own (R115, R262, R264), with the envelope in force: the cause is set and raised, and the trip sequencer takes
it; a temperature point and a head whose points are lost are reported. -/
def Obligations.FirebreakCauses : Prop := ∀ (s : State), s.hasEnv = true →
  (s.pd 8 = true → Gives .hallComparatorTrip s fun t => t.cause 9 = true ∧ t.causeRaised 9 0 0 = true ∧ t.feBit feHallTrip = true ∧
    TripTaken true s t) ∧
  (∀ k, s.fb.armed = true → s.env 0x5800 9 ≤ Tab.nat s.fb.missRun k → s.causeRaised 13 1 k = false → Gives (.cellsUnmeasured k) s fun t =>
    t.cause 13 = true ∧ t.causeRaised 13 1 k = true ∧ TripTaken true s t) ∧
  (∀ n, s.watchedPoint n = true → s.reportLost n 100 = true → Gives (.temperaturePointLost n) s fun t => ChangesOnly [.fb, .ranger] s t ∧
    t.raised 0x010 0x1C 3 n = true ∧ Tab.find t.fb.goodSince n = none ∧ t.fb.causes = s.fb.causes) ∧
  (∀ p, p ∈ s.allHeads → s.headCellPoints p ≠ [] → (∀ n ∈ s.headCellPoints p, s.reportLost n 1000 = true) → Gives (.headTemperatureLost p) s fun t =>
    t.raised 0x010 0x1D 2 (p * 256 + 255) = true ∧
      (s.env 0x5801 8 < (s.raiseOnce 0x010 0x1D .degrade 2 (p * 256 + 255)).headsLost → s.causeRaised 13 0 0 = false → t.cause 13 = true ∧ TripTaken true s t))

/-- A raised cause ends once its condition has been absent long enough (R273): its fault clears and, with no other fault of its kind, its bit falls. -/
def Obligations.FirebreakCauseClears : Prop := ∀ (s : State) (bit cls val : Nat), bit < 32 → s.causeRaised bit cls val = true →
  s.causeGone bit cls val = true → Gives (.firebreakCauseClear bit cls val) s fun t => t.causeRaised bit cls val = false ∧
    ((∀ a ∈ s.ranger.active, a.msg.source = 0x010 → a.msg.kind = causeKind bit → a.msg.cls = cls ∧ a.msg.val = val) → t.cause bit = false)

/-- The break decision and its end (R269, R270): at or below the break current, or with no wait, the coils are released at the decision; otherwise at the end
of the wait, which counts as an over-current break. -/
def Obligations.TripSequence : Prop := ∀ (s : State) (us : Nat), s.fb.trip.running = true → s.fb.trip.released = false →
  (s.tripLead ≤ us → s.belowBreak = true → Gives (.breakDecision us) s fun t => t.fb.trip.released = true ∧ t.fb.toRelease = us ∧ t.fb.trip.us = us ∧
    t.fe.kp.coil = .off ∧ t.fe.kn.coil = .off ∧ t.fe.kp.lowSide = false ∧ t.fe.kn.lowSide = false ∧ t.fe.weldStage = .aux ∧
    t.fe.openAbove = s.fe.openAbove ∧ t.ranger = s.ranger) ∧
  (s.tripLead ≤ us → s.belowBreak = false → s.fb.trip.wait ≠ 0 →
    exec (.breakDecision us) s = .next { s with fb := { s.fb with trip := { s.fb.trip with us := us } } }) ∧
  (s.tripLead + s.fb.trip.wait * 1000 ≤ us → Gives (.breakWaitExpiry us) s fun t => t.fb.trip.released = true ∧ t.fb.toRelease = us ∧ t.fe.kp.coil = .off ∧
    t.fe.kn.coil = .off ∧ t.fe.kp.lowSide = false ∧ t.fe.kn.lowSide = false ∧ t.fe.openAbove = add32 s.fe.openAbove 1 ∧ Sent s t (s.msg 0x011 0x18 .warn 0 0))

/-- The Firebreak's self-test and what waits for it (R278, R428, R429): in BOOT it makes the Firebreak active; otherwise a pass lets the first waiting envelope
of a single unit in at the next boundary, and a failure refuses it; an envelope its partner has not answered within 1 s is refused. -/
def Obligations.SelfTestAndPartner : Prop := ∀ (s : State),
  (∀ pass, s.starting = true → Gives (.firebreakSelfTest pass) s fun t => t.fb.active = pass ∧ t.fb.selfTestFailed = (!pass) ∧
    t.raised 0x010 0x16 0 0 = !pass) ∧
  (∀ p, s.starting = false → s.fb.envPending = [p] → p.selfTest = true → p.partner = false → p.foreign = false → p.effective = none → s.inPair = false →
    Gives (.firebreakSelfTest true) s fun t => t.fb.envPending = [{ p with selfTest := false, effective := some (s.core.cycle + 1) }] ∧ t.fb.selfTestFailed = false) ∧
  (∀ p, s.starting = false → s.fb.envPending = [p] → p.selfTest = true → p.foreign = false → p.session ≠ 0xFFFF → Gives (.firebreakSelfTest false) s fun t =>
    t.fb.envPending = [] ∧ t.fb.selfTestFailed = true ∧ t.raised 0x010 0x16 0 0 = true ∧
    ∃ r ∈ t.dict.responses, r.session = p.session ∧ r.req = p.req ∧ r.abort = abSelfTest) ∧
  (∀ p, s.fb.envPending = [p] → p.partner = true → p.foreign = false → p.effective = none → s.passed p.since 1000 = true → p.session ≠ 0xFFFF →
    Gives .envelopePartnerTimeout s fun t => t.fb.envPending = [] ∧ ∃ r ∈ t.dict.responses, r.session = p.session ∧ r.req = p.req ∧ r.abort = abPartner)

/-- The string record of a cycle (R45, R254): the originating unit's own front-end's; another unit takes the one it hears whose check passes, and a cycle without
one gives no valid current. -/
def Obligations.StringRecords : Prop := ∀ (s : State), s.cycling = true →
  (∀ heard, s.ring.originating = true → Gives (.stringRecord heard) s fun t =>
    t.ring.record = s.ownRecord ∧ t.fb.dir = s.recordDirection s.ownRecord ∧ t.fe.hallOperated = false) ∧
  (∀ r : StringRecord, s.ring.originating = false → (s.injector 0).state ≠ 2 → (s.injector 0).drill = false → r.checkOk = true →
    Gives (.stringRecord (some r)) s fun t => t.ring.record = r ∧ t.fb.dir = s.recordDirection r) ∧
  (∀ heard : Option StringRecord, s.ring.originating = false → (∀ r, heard = some r → r.checkOk = false) → Gives (.stringRecord heard) s fun t => t.ring.record = { s.ring.record with cycle := s.core.cycle, status := 0 } ∧ t.fb.dir = .rest)

/-- The comparison of protection summaries (R275, R276): a partner's summary of a cycle is compared with this unit's own of the same cycle; three compared
cycles in a row whose cell parts differ, or ten whose front-end parts differ, are a mismatch, and one that matches in both ends it. -/
def Obligations.ProtectionSummaries : Prop := ∀ (s : State) (own other : Summary), s.inPair = true → s.pair.summaries = [own] → own.own = true →
  own.cycle = other.cycle → Gives (.protectionSummaryCompare (some other)) s fun t => t.pair.summaries = [] ∧
    t.fb.cellMis = (if cellPartOk own { other with own := false } then 0 else s.fb.cellMis + 1) ∧
    t.fb.feMis = (if frontPartOk own { other with own := false } then 0 else s.fb.feMis + 1) ∧
    (3 ≤ t.fb.cellMis ∨ 10 ≤ t.fb.feMis → t.raised 0x010 0x1A 0 0 = true) ∧
    (t.fb.cellMis = 0 → t.fb.feMis = 0 → t.raised 0x010 0x1A 0 0 = false)

/-! ### 10 to 12: dispatch, Canopy, axes, links, time -/

/-- The end of a dispatch lease and a trace's capture (R299, R310): a lease that has run out ends the mode and the holding and is reported as an occurrence; a trace
with its post-trigger samples is complete, numbered, and begins as many sample periods before its newest sample as it holds. -/
def Obligations.LeaseAndTraceEnds : Prop := ∀ s : State,
  (s.sawyer.holder ≠ 0 → s.sawyer.lease = 0 → Gives .dispatchLeaseExpired s fun t =>
    t.sawyer = { s.sawyer with mode := 0, holder := 0, lease := 0, leaseEnds := inc32 s.sawyer.leaseEnds } ∧ Sent s t (s.msg 0x040 0x70 .notice 0 0)) ∧
  (∀ b, (s.trace b).state = 2 → s.postCount b ≤ (s.trace b).post → Gives (.traceCaptureComplete b) s fun t => (t.trace b).state = 3 ∧
    (t.trace b).seq = (s.trace b).seq + 1 ∧ (t.trace b).samples = (s.trace b).samples ∧
    (t.trace b).first = (s.trace b).newest - BitVec.ofNat 32 (((s.trace b).samples.length - 1) * max 1 (s.cfg (0x6400 + b) 9)) ∧
    ∀ c, c ≠ b → t.trace c = s.trace c)

/-- A threshold (R315, R316, R321): three good samples in a row beyond the limit make it pending, three clear of it make it clearing, one sample the other way
undoes either; the dwells make it active, raising what it is configured to raise, and normal again; a slot without good inputs for its time fails safe. -/
def Obligations.CanopyEvaluation : Prop := ∀ (s : State) (j : Nat), j < 32 →
  ((s.thrCfg j 1).toNat ≠ 0xFFFF → (s.point (s.thrCfg j 1).toNat).seen = true → (s.thr j).seenAt ≠ some (s.point (s.thrCfg j 1).toNat).updated →
    (s.point (s.thrCfg j 1).toNat).quality = .good → Gives (.thresholdSample j) s fun t => (∀ i, i ≠ j → t.thr i = s.thr i) ∧
      (t.thr j).seenAt = some (s.point (s.thrCfg j 1).toNat).updated ∧
      ((s.thr j).state = .normal → s.thrBeyond j (s.point (s.thrCfg j 1).toNat).filtered = true → (s.thr j).count = 2 →
        (t.thr j).state = .pending ∧ (t.thr j).since = s.core.cycle) ∧
      ((s.thr j).state = .normal → (t.thr j).state ≠ .normal → (s.thr j).count ≥ 2) ∧
      ((s.thr j).state = .pending → s.thrBeyond j (s.point (s.thrCfg j 1).toNat).filtered = false → (t.thr j).state = .normal) ∧
      ((s.thr j).state = .active → s.thrClear j (s.point (s.thrCfg j 1).toNat).filtered = true → (s.thr j).count = 2 →
        (t.thr j).state = .clearing ∧ (t.thr j).since = s.core.cycle) ∧
      ((s.thr j).state = .clearing → s.thrClear j (s.point (s.thrCfg j 1).toNat).filtered = false → (t.thr j).state = .active)) ∧
  ((s.thr j).state = .pending → s.passed (s.thr j).since (s.thrCfg j 5).toNat = true → Gives (.entryDwellExpired j) s fun t =>
    (t.thr j).state = .active ∧ (t.thr j).activations = inc32 (s.thr j).activations ∧
    ((s.thrCfg j 7).toNat ≠ 0 → t.raised 0x041 0x75 5 j = true) ∧ ((s.thrCfg j 7).toNat = 0 → t.ranger = s.ranger)) ∧
  ((s.thr j).state = .clearing → s.passed (s.thr j).since (s.thrCfg j 6).toNat = true → Gives (.exitDwellExpired j) s fun t =>
    (t.thr j).state = .normal ∧ t.raised 0x041 0x75 5 j = false) ∧
  (∀ n, canopySlots.contains n = true → s.slotCfg n 1 ≠ 0 → s.slotBad n = true → (s.slot n).failSafe = false →
    s.ran (s.slot n).badSince (s.cfg 0x6800 6 * 1000) = true → Gives (.canopyFailSafe n) s fun t => (t.slot n).failSafe = true ∧ t.raised 0x041 0x77 5 n = true)

/-- Motion of the Winch axes (R323, R326, R327, R330, R332, R333, R335, R337): a homed axis in position mode takes its node's target; a coil at rest goes to its
stand-still current; fall-back, step loss, a limit switch met, gearing lag and travel time are reported and end the motion as each rule says; a move that reaches
its target stands there. -/
def Obligations.AxisMotion : Prop := ∀ (s : State) (a : Nat) (now : AxisNow), 1 ≤ a → a ≤ 4 →
  (s.axisMode a = 1 → (s.axis a).homed = true → s.cause pcFire = false → (s.axis a).fenced = false → (s.axis a).homing = .idle →
    s.axisCfg a 2 / 4096 ≠ 6 → Gives (.axisTargetChange a now) s fun t => (t.axis a).target = s.node (s.axisCfg a 2)) ∧
  ((s.axis a).moving = false → s.ran (s.axis a).stillSince (s.axisCfg a 5) = true → (s.axis a).fenced = false → (s.axis a).state ≠ .disabled →
    Gives (.standstillDelay a) s fun t => t.axis a = { s.axis a with coil := s.standCurrent a }) ∧
  (∀ fails, 4 ≤ fails → (s.axis a).fallBack = false → (s.axis a).fenced = false → Gives (.chopperFallBack a fails) s fun t =>
    (t.axis a).fallBack = true ∧ t.raised (srcAxis a) 0x81 5 a = true) ∧
  (s.ran ((seeAxis a now s).axis a).lossSince 10 = true → s.cfg (0x687F + a) 6 = 0 → Gives (.stepLoss a now) s fun t =>
    (t.axis a).homed = false ∧ (t.axis a).follow = none ∧ (t.axis a).losses = inc32 (s.axis a).losses ∧ (t.axis a).lastLoss = some s.core.cycle ∧
    ((s.axis a).ramp ≠ .none → (t.axis a).ramp = .hardStop) ∧ t.raised (srcAxis a) 0x82 5 a = true) ∧
  (∀ latched edges, s.axisMode a ≠ 3 → s.axisMode 3 ≠ 3 → edges < 3 → (s.axis a).homing = .idle → (s.axis a).moving = true → 0 < now.vel →
    Gives (.switchEdge a 0 true latched edges now) s fun t => (t.axis a).limP = true ∧ (t.axis a).latched = latched ∧ (t.axis a).ramp = .hardStop ∧
      t.raised (srcAxis a) 0x84 5 a = true) ∧
  (s.axisMode a = 2 → ((seeLag a (seeAxis a now s)).axis a).follow.isSome = true → ((seeLag a (seeAxis a now s)).axis a).lagHold = false →
    s.ran ((seeLag a (seeAxis a now s)).axis a).lagSince 100 = true → Gives (.gearingLag a now) s fun t => (t.axis a).lagHold = true ∧
      t.raised (srcAxis a) 0x85 5 a = true) ∧
  ((s.axis 3).discCmd ≠ .none → s.passed (s.axis 3).discSince (s.cfg 0x68B0 3) = true → Gives .travelTimeout s fun t =>
    (t.axis 3).discCmd = .none ∧ t.raised (srcAxis 3) 0x87 5 3 = true) ∧
  ((s.axis a).moving = true → (s.axis a).ramp = .toTarget → (s.axis a).homing = .idle → (s.axis a).homeWait = false → (s.axis a).waiting = false →
    Gives (.moveComplete a now) s fun t => (t.axis a).pos = (s.axis a).target ∧ (t.axis a).vel = 0 ∧ (t.axis a).moving = false ∧ (t.axis a).discCmd = .none)

/-- Ethernet ports and the role strap (R342, R344, R345, R347, R375): a lost link is reported, and the loss of both; a link comes up at its speed; a frame of a
wrong length or tag is discarded and counted, a datagram joins what its port holds, and a duplicate is passed on no further; with PRP on a supervision frame goes to both ports. -/
def Obligations.EthernetEvents : Prop := ∀ (s : State) (port : Nat), port < 2 →
  ((s.eth port).link = 1 ∨ (s.eth port).link = 2 → Gives (.linkLoss port) s fun t => (t.eth port).link = 0 ∧ t.raised (srcEth port) 0x90 0 0 = true ∧
    (t.ethUp (1 - port) = false → t.raised 0x050 0x91 0 0 = true)) ∧
  (∀ v, (s.eth port).fenced = false → s.pd 6 = true → v = 1 ∨ v = 2 → Gives (.ethernetLinkUp port v) s fun t =>
    (t.eth port).link = (if s.ethCfg port 6 = 0 then v else s.ethCfg port 6) ∧ t.raised (srcEth port) 0x90 0 0 = false ∧ t.raised 0x050 0x91 0 0 = false) ∧
  (∀ f : EthRx, s.ethUp port = true → f.length < 64 ∨ 1522 < f.length ∨ s.vlanOk port f.vlan = false → Gives (.ethernetFrameReceive port f) s fun t =>
    (t.eth port).discarded = inc32 (s.eth port).discarded ∧ ∀ q < 2, q ≠ port → t.eth q = s.eth q) ∧
  (∀ (f : EthRx) src seq lan, s.ethUp port = true → 64 ≤ f.length → f.length ≤ 1522 → s.vlanOk port f.vlan = true → s.prpOn = true → ethKind f.content ≠ 0 →
    f.trailer = some (src, seq, lan) → (∃ at_, (src, seq, at_) ∈ s.links.prp ∧ s.since at_ < s.cfg 0x7010 2) → Gives (.ethernetFrameReceive port f) s fun t =>
      (∀ q, t.eth q = s.eth q) ∧ t.dict = s.dict ∧ Tab.nat t.links.prpCounts 3 = inc32 (Tab.nat (if lan = port then s.links.prpCounts
        else Tab.mod s.links.prpCounts (4 + port) 0 inc32) 3)) ∧
  (∀ (f : EthRx) d, s.ethUp port = true → 64 ≤ f.length → f.length ≤ 1522 → s.vlanOk port f.vlan = true → f.trailer = none → f.content = .fast d →
    (s.injector (2 + port)).state ≠ 2 → (s.injector (2 + port)).heldFrames = [] → Gives (.ethernetFrameReceive port f) s fun t =>
      t.eth port = { s.eth port with rx := (s.eth port).rx ++ [f] } ∧ ∀ q < 2, q ≠ port → t.eth q = s.eth q) ∧
  (s.prpOn = true → Gives .prpSupervision s fun t => ChangesOnly [.links] s t ∧ t.links.prpSeq = (s.links.prpSeq + 1) % 65536) ∧
  (s.links.strapRead = true → s.core.opState ≠ .boot → s.core.opState ≠ .off → Gives .roleStrapChanged s fun t =>
    ChangesOnly [.ranger] s t ∧ Sent s t (s.msg 0x020 0x9B .warn 0 0))

/-- Time (R351, R354, R360, R361, R362, R481): a delay request is answered and leaves the port's queue; the message counters advance; an offset steps the clock, lets it lock or loses the lock; holdover ends after its time; a PPS edge with the clock
free is counted and the second makes it acquire; a time stamp goes to Q26, where a full queue loses it and counts it; a
pulse begins at its time and ends. -/
def Obligations.TimeEvents : Prop := ∀ s : State,
  (∀ port, firstPtp (s.eth port).rx = none → exec (.ptpMessageReceive port) s = .next s) ∧
  (∀ port q, firstPtp (s.eth port).rx = some (s.cfg 0x7100 7, .pdelayReq q) → (s.eth port).fenced = false → Gives (.ptpMessageReceive port) s fun t =>
    (t.eth port).rx = dropPtp (s.eth port).rx ∧ (t.eth port).tx = (s.eth port).tx ++ [{ cls := 0, kind := 0, session := 0, data := le 1 3 ++ le 2 q, tag := s.ethTag port 0 }]) ∧
  (s.cfg 0x7100 1 = 0 → Gives .ptpMessageInterval s fun t => ∀ p < 2, s.ethUp p = true → (t.eth p).ptpSeq = ((s.eth p).ptpSeq + 1) % 65536) ∧
  (∀ off, s.cfg 0x7100 1 = 0 → s.clock.port < 2 → s.clock.state = .acquiring → Gives (.offsetMeasured off) s fun t =>
    t.clock.offset = off ∧ (s.cfg 0x7100 6 < off.natAbs → (t.clock.sec, t.clock.ns) = splitNs (s.nowNs - off) ∧ t.clock.steps = inc32 s.clock.steps) ∧
    (off.natAbs ≤ s.cfg 0x7100 6 → off.natAbs ≤ 250 → 15 ≤ s.clock.goodRun → t.clock.state = .locked) ∧
    (off.natAbs ≤ s.cfg 0x7100 6 → 250 < off.natAbs → t.clock.state = .acquiring)) ∧
  (∀ off, s.cfg 0x7100 1 = 0 → s.clock.port < 2 → s.clock.state = .locked → Gives (.offsetMeasured off) s fun t =>
    t.clock.offset = off ∧ (t.clock.state = if 10000 < off.natAbs ∧ 2 ≤ s.clock.badRun then .acquiring else .locked)) ∧
  (∀ port, s.cfg 0x7100 1 = 0 → port = s.clock.port → s.clock.state = .locked → Gives (.announceReceiptTimeout port true) s fun t => t.clock.state = .holdover) ∧
  (s.clock.state = .holdover → s.passed s.clock.heldSince (1000 * s.cfg 0x7100 0xB) = true → Gives .holdoverExpiry s fun t =>
    t.clock.state = .free ∧ (t.clock.sec, t.clock.ns) = (s.clock.sec, s.clock.ns)) ∧
  (∀ ns, s.cfg 0x7100 1 = 1 → s.clock.state = .free → Gives (.ppsInEdge ns) s fun t => t.clock.ppsEdges = s.clock.ppsEdges + 1 ∧
    (t.clock.state = if 1 ≤ s.clock.ppsEdges then .acquiring else .free)) ∧
  (∀ port sequence msgType sec ns, s.clock.q26.length < 16 → Gives (.transmitTimeStamp port sequence msgType sec ns) s fun t =>
    t.clock.q26 = s.clock.q26 ++ [{ port := port, sequence := sequence, msgType := msgType, sec := sec, ns := ns }] ∧ t.clock.overflow = s.clock.overflow) ∧
  (∀ port sequence msgType sec ns, 16 ≤ s.clock.q26.length → Gives (.transmitTimeStamp port sequence msgType sec ns) s fun t =>
    t.clock.q26 = s.clock.q26 ∧ t.clock.overflow = true ∧ t.clock.discarded = inc32 s.clock.discarded ∧
    (s.clock.overflow = false → Sent s t (s.msg 0x052 0x94 .warn 0 0))) ∧
  (∀ o x, o < 4 → s.pulseCfg o 1 = 2 → (s.pulse o).next = some x → x < s.nowNs + 1000000 → Gives (.pulseEdge o false) s fun t =>
    t.pulse o = { s.pulse o with active := true, lastEdge := some x, next := some (x + (max 1 (s.pulseCfg o 3) : Nat)) }) ∧
  (∀ o, o < 4 → (s.pulse o).active = true → (s.pulse o).waiting = [] → Gives (.pulseEdge o true) s fun t => t.pulse o = { s.pulse o with active := false })

/-- CAN controllers (R364, R366, R368, R369): frames are heard and tried only while the controller is on; a remote frame is counted and not taken, one that an object accepts joins what the controller has received; a transmission begun holds the controller; bus-off keeps
what later content may replace, is counted and reported, and recovery ends it with the error counters at zero. -/
def Obligations.CanEvents : Prop := ∀ (s : State) (n : Nat), n < 2 →
  (∀ f : CanRx, s.canOn n = true → (s.can n).err ≠ .busOff → s.canCfg n 1 ≠ 2 → f.ok = true → f.remote = true → Gives (.canFrameReceive n f) s fun t =>
    (t.can n).unaccepted = inc32 (s.can n).unaccepted ∧ (t.can n).rxErr = rxErrStep true (s.can n).rxErr ∧ ∀ m < 2, m ≠ n → t.can m = s.can m) ∧
  (∀ f o, s.canOn n = true → (s.can n).err ≠ .busOff → f.ok = true → f.remote = false → s.canAcceptor n f = some o → s.rxChannel n o f = none →
    (s.can n).rx.length < 64 → (s.injector (4 + n)).state ≠ 2 → (s.injector (4 + n)).heldFrames = [] → Gives (.canFrameReceive n f) s fun t =>
      (t.can n).rx = (s.can n).rx ++ [{ object := o, id := f.id, ext := f.ext, fd := f.fd, brs := f.brs, data := f.data, cycle := s.core.cycle }] ∧
      (t.can n).moved = Tab.mod (s.can n).moved o 0 inc32 ∧ ∀ m < 2, m ≠ n → t.can m = s.can m) ∧
  (∀ f, s.canOn n = false ∨ (s.can n).err = .busOff → exec (.canFrameReceive n f) s = .next s) ∧
  (∀ f, s.canSends n = true → (s.can n).err ≠ .busOff → (s.can n).inTx = none → firstFrame (s.can n).tx = some f → (s.injector (4 + n)).state ≠ 2 →
    Gives (.canTransmitAttempt n .begun) s fun t => (t.can n).inTx = some f ∧ (t.can n).tx = dropFrame f (s.can n).tx) ∧
  (s.canSends n = true → (s.can n).err ≠ .busOff → 255 < (s.can n).txErr → Gives (.busOff n) s fun t => (t.can n).err = .busOff ∧ (t.can n).inTx = none ∧
    (t.can n).busOffs = inc32 (s.can n).busOffs ∧ (t.can n).offAt = some s.core.cycle ∧ (∀ f ∈ (t.can n).tx, s.canReplace n f.object = true) ∧
    Sent s t (s.msg (srcCan n) 0x96 .warn 0 0)) ∧
  ((s.can n).err = .busOff → s.canCfg n 0xA ≠ 0 → s.ran (s.can n).offAt (s.canCfg n 0xA) = true → (s.recent 60000 (s.can n).recent).length < 3 →
    Gives (.busOffRecoveryDelay n) s fun t => (t.can n).recovering = true ∧ (t.can n).recent = s.core.cycle :: s.recent 60000 (s.can n).recent) ∧
  ((s.can n).err = .busOff → (s.can n).recovering = true → Gives (.busOffRecoveryComplete n) s fun t => (t.can n).err = .active ∧ (t.can n).txErr = 0 ∧
    (t.can n).rxErr = 0 ∧ t.raised (srcCan n) 0x96 0 0 = false)

/-- What becomes of any write (R146, R382, R383, R388, R389, R394, R397, R403): a session that is not OPEN does nothing. One that is has its request counted. A
write that fails a check is refused with that check's code and changes nothing else, but for the result an envelope leaves. A write that passes is staged,
queued as a dispatch event, or, in string scope, waits for its boundary, unanswered, with nothing else changed but what the partner is told; a cell command
waits as a command. A value in force that no object acts on reads as written. -/
def Obligations.WriteOutcome : Prop := ∀ (i : Instr) (w : Wr) (s : State), writeOf i = some w → w.session < 256 →
  (s.sessOpen w.session = false → exec i s = .next s) ∧
  (s.sessOpen w.session = true → s.verdict w ≠ 0 → Gives i s fun t => ChangesOnly [.dict, .sec, .fb] s t ∧ t.dict.vals = s.dict.vals ∧
    t.dict.staged = s.dict.staged ∧ t.dict.pending = s.dict.pending ∧ t.fb.envelope = s.fb.envelope ∧
    t.dict.responses = s.dict.responses ++ [s.writeAnswer w (s.verdict w)] ∧
    (t.session w.session).served = inc32 (s.session w.session).served) ∧
  (∀ d, Accepted i s → objDesc w.index w.sub = some d → Gives i s fun t =>
    (d.staged = true → ChangesOnly [.dict] s t ∧ t.dict.vals = s.dict.vals ∧ Tab.find t.dict.staged (okey w.index w.sub) = some w.value ∧
      (∀ k, k ≠ okey w.index w.sub → Tab.find t.dict.staged k = Tab.find s.dict.staged k) ∧ t.dict.owner = some w.session ∧
      t.dict.responses = s.dict.responses ++ [s.writeAnswer w 0]) ∧
    (d.staged = false → dispatchObject w.index w.sub = true → ChangesOnly [.dict, .sawyer, .pair] s t ∧ t.dict.vals = s.dict.vals ∧
      t.sawyer.events = s.sawyer.events ++ [dispatchEvent w.session w.session w.req w.index w.sub w.value s.effective s] ∧
      t.dict.responses = s.dict.responses) ∧
    (d.staged = false → dispatchObject w.index w.sub = false → ownAnswer w.index w.sub = false → d.stringScope = true →
      ChangesOnly [.dict, .pair] s t ∧ t.dict.vals = s.dict.vals ∧ t.dict.responses = s.dict.responses ∧
      (cellCommandObject w.index w.sub = false → t.dict.cellCmds = s.dict.cellCmds ∧ t.dict.pending = s.dict.pending ++
        [{ session := w.session, req := w.req, entries := [(okey w.index w.sub, w.value)], effective := s.effective }]) ∧
      (cellCommandObject w.index w.sub = true → t.dict.pending = s.dict.pending ++
          [{ session := w.session, req := w.req, entries := [], effective := s.effective }] ∧
        t.dict.cellCmds = s.dict.cellCmds ++ [(s.effective, w.index - 0x3000 + 1, w.value.toInt.toNat)])) ∧
    (0x7000 ≤ w.index → w.index ≤ 0x70FF → d.staged = false → d.stringScope = false → dictObject w.index w.sub d = true → persists w.index w.sub = false →
      t.val w.index w.sub = w.value ∧ t.dict.responses = s.dict.responses ++ [s.writeAnswer w 0]))

/-- Writes that are in force at once, by what they do (R74, R113, R121, R123, R310, R351, R360, R369, R403, R422, R481, R482). -/
def Obligations.WritesInForceAtOnce : Prop := ∀ (s : State) (a r : Nat),
  Takes (.autoZeroRequest a r) s (fun t => t.fe.zeroDue = true) ∧
  Takes (.injectionEnable a r true) s (fun t => t.val 0x2012 3 = .num 1 ∧ t.fe.isoLast = some s.core.cycle) ∧
  Takes (.injectionEnable a r false) s (fun t => t.val 0x2012 3 = .num 0 ∧ t.fe.injecting = false ∧ t.feBit feIsoStale = true ∧ t.pd 9 = false) ∧
  (∀ port, port < 2 → Takes (.ringCounterClear a r port) s fun t =>
    ∀ q row, row < 16 → t.counter q row = if q = port then 0 else s.counter q row) ∧
  (∀ b, b < 4 → Takes (.traceArmSingle a r b) s fun t => (t.trace b).state = 1 ∧ (t.trace b).rearm = false ∧ (t.trace b).samples = [] ∧
    ∀ c, c ≠ b → t.trace c = s.trace c) ∧
  (∀ b, b < 4 → Takes (.traceArmRearm a r b) s fun t => (t.trace b).state = 1 ∧ (t.trace b).rearm = true ∧ (t.trace b).samples = [] ∧
    ∀ c, c ≠ b → t.trace c = s.trace c) ∧
  (∀ b, b < 4 → Takes (.traceDisarm a r b) s fun t => (t.trace b).state = 0 ∧ (t.trace b).samples = (s.trace b).samples ∧ ∀ c, c ≠ b → t.trace c = s.trace c) ∧
  (∀ b, b < 4 → Takes (.traceSoftwareTrigger a r b) s fun t =>
    ((s.trace b).state = 1 → (t.trace b).state = 2 ∧ (t.trace b).trigger = s.core.cycle) ∧
    ((s.trace b).state ≠ 1 → (t.trace b).state = (s.trace b).state ∧ (t.trace b).missed = inc32 (s.trace b).missed) ∧ ∀ c, c ≠ b → t.trace c = s.trace c) ∧
  (∀ source, Takes (.timeSourceWrite a r source) s fun t => t.val 0x7100 1 = .num source ∧ t.clock.state = .free ∧
    (t.clock.sec, t.clock.ns) = (s.clock.sec, s.clock.ns)) ∧
  (∀ time, s.clock.ns < 1000000000 → Takes (.localTimeWrite a r time) s fun t =>
    t.clock.sec = fieldN time 0 6 ∧ t.clock.ns = s.clock.ns ∧ t.clock.trusted = true) ∧
  Takes (.q26OverflowClear a r false) s (fun t => t.clock.overflow = false ∧ t.clock.occurrences = s.clock.occurrences ∧ t.clock.q26 = s.clock.q26) ∧
  (s.sessOpen a = true → s.entryCheck a 0x7120 3 (.num 1) = 0 → Gives (.q26OverflowClear a r true) s fun t =>
    t.clock.overflow = true ∧ t.clock.occurrences = inc8 s.clock.occurrences) ∧
  (∀ o sub v, o < 4 → (s.pulse o).active = false → Takes (.pulseParameterWrite a r o sub v) s fun t => t.val (0x7130 + o) sub = v) ∧
  (∀ o sub v, o < 4 → (s.pulse o).active = true → Takes (.pulseParameterWrite a r o sub v) s fun t =>
    t.dict.vals = s.dict.vals ∧ (t.pulse o).waiting = (s.pulse o).waiting ++ [(sub, v)]) ∧
  (∀ n, n < 2 → (s.can n).err = .busOff → Takes (.busOffRecovery a r n) s fun t => (t.can n).recovering = true ∧ (t.can n).offAt = none ∧
    ∀ m, m < 2 → m ≠ n → t.can m = s.can m) ∧
  (∀ n, n < 256 → Takes (.endSession a r n) s fun t => (t.session n).state = .free ∧
    (∀ e ∈ t.dict.sessions, e.2.parent ≠ some n) ∧ t.sawyer.holder = s.sawyer.holder ∧ (s.dict.owner = some n → t.dict.owner = none ∧ t.dict.staged = [])) ∧
  (∀ j, s.fastFor a = some j → s.sessOpen (128 + j) = false ∨ s.fastOf a = some j → Takes (.fastChannelOpen a r) s fun t => j < 64 ∧ (t.fast j).isOpen = true ∧ (t.fast j).txSeq = 1 ∧ (t.fast j).rxTop = 0 ∧
    (t.fast j).epoch = some (match (s.fast j).epoch with | none => 0 | some e => (e + 1) % 256) ∧
    (t.session (128 + j)).state = .isOpen ∧ (t.session (128 + j)).parent = some a) ∧
  (∀ j, s.fastOf a = some j → Takes (.fastChannelClose a r) s fun t => (t.fast j).isOpen = false ∧ (t.session (128 + j)).state = .free)

/-- Writes of security, pair, faults, power and update objects that are in force at once, by what they do (R415, R422, R430, R431, R432, R437, R450, R451, R459,
R460, R463, R465, R478, R487, R490, R506, R519, R540, R541, R542, R548, R549). -/
def Obligations.WritesInForceAtOnceHigh : Prop := ∀ (s : State) (a r : Nat),
  Takes (.deAdopt a r) s (fun t => t.sec.adopted = false ∧ t.sec.anchors = [] ∧ t.sec.verifyKey = none ∧ t.sec.stringId = 0 ∧ t.hasEnv = false ∧
    (∀ ch, (t.channel ch).key = none) ∧ ∀ n, (t.session n).state = .free) ∧
  (∀ nonce, Takes (.signedSnapshot a r nonce) s fun t => t.sec.snapReq = some (unle nonce, s.core.cycle)) ∧
  (∀ nonce, Takes (.attestation a r nonce) s fun t => t.sec.attLast = some s.core.cycle ∧ ∃ b, t.sec.attestation = b ++ signBytes b ∧
    slice b 0 4 = strBytes 4 "ZSAT" ∧ slice b 16 4 = le 4 s.C ∧ slice b 32 16 = slice nonce 0 16) ∧
  (∀ code, Takes (.partnerAdoptionCode a r code) s fun t => t.pair.code = some (unle code) ∧ t.pair.join = 0) ∧
  Takes (.handOverRequest a r) s (fun t => t.pair.role = .outgoing ∧ t.pair.phase = 1 ∧ t.pair.h = s.firstHalf 2500 ∧
    ∃ q ∈ t.pair.q27, q.msg = .handOver 1 (s.firstHalf 2500) 0) ∧
  Takes (.handOverCancel a r) s (fun t => t.pair.phase = 6 ∧ t.pair.abort = 6 ∧ Sent s t { s.msg 0x060 0xA2 .warn 0 0 with injected := s.tainted 6 } ∧
    (s.pair.role = .outgoing → t.pair.role = .active)) ∧
  (∀ round, Takes (.grant a r round) s fun t => t.pair.claim = 2 ∧ t.pair.role = if s.pair.wasActive then .active else .takingOver) ∧
  (∀ round, Takes (.denial a r round) s fun t => t.pair.claim = 3 ∧
    (s.pair.wasActive = true → t.pair.holdUntil = some (s.ahead 100) ∧ t.pair.stepDown = some (some 3)) ∧
    (s.pair.wasActive = false → t.pair.role = .standby ∧ t.raised 0x060 0xA1 0 0 = true)) ∧
  Takes (.firstFaultRearm a r) s (fun t => t.ranger.firstFault = {} ∧ t.ranger.firstTrip = s.ranger.firstTrip) ∧
  Takes (.firstTripRearm a r) s (fun t => t.ranger.firstTrip = {} ∧ t.ranger.firstFault = s.ranger.firstFault) ∧
  (∀ l, l ≤ 6 → Takes (.provokedFaultArm a r l) s fun t => (t.injector l).state = 1 ∧ (t.injector l).affected = 0 ∧
    (t.injector l).start = (if s.injectCfg l 10 = 0 then s.core.cycle + 1 else BitVec.ofNat 32 (s.injectCfg l 10)) ∧ ∀ k, k ≠ l → t.injector k = s.injector k) ∧
  (∀ l, l ≤ 6 → (s.injector l).state = 1 ∨ (s.injector l).state = 2 → (s.injector l).heldFrames = [] →
    Takes (.provokedFaultStop a r l) s fun t => (t.injector l).state = 4) ∧
  Takes (.keepAreaClear a r) s (fun t => (∃ x, t.tally.keep = [{ used := x.size, recs := [x] }] ∧ x.kind = 0x0070 ∧ x.seq = s.tally.seq) ∧ t.tally.keepFull = false ∧
    t.tally.circ = s.tally.circ ∧ t.raised 0x089 0xB5 0 0 = false) ∧
  Takes (.restartRequest a r) s (fun t => t.power.restartPending = some (if s.power.thermalLatch then 5 else 4, a)) ∧
  (∀ doc, Takes (.envelopeKeyChange a r doc) s fun t => t.sec.verifyKey = some (slice doc 11 64) ∧ t.fb.envSeq = fieldN doc 7 4 ∧
    t.fb.envelope = s.fb.envelope) ∧
  (∀ table : Bytes, table.length ≤ 464 → Takes (.ruleTableWrite a r table) s fun t => t.val 0x9040 1 = .bytes table) ∧
  (∀ table : Bytes, 464 < table.length → Takes (.ruleTableWrite a r table) s fun t => t.val 0x9040 1 = s.val 0x9040 1 ∧
    ∃ x ∈ t.storage.queue, x.key = okey 0x9040 1 ∧ x.value = some (.bytes table) ∧ x.late = true) ∧
  (∀ n, Takes (.packageLength a r n) s fun t => t.update.staging = 1 ∧ t.update.length = n ∧ t.update.received = 0 ∧ t.update.data = [] ∧
    Tab.flag t.storage.bankBad s.idleBank = true) ∧
  (∀ b, Takes (.stagingChunk a r b) s fun t => t.update.data = s.update.data ++ b.drop 8 ∧ t.update.received = s.update.received + (b.drop 8).length) ∧
  (∀ b, (packageFault (unle b) s).1 = 0 → Takes (.packageDigest a r b) s fun t => t.update.staging = 2 ∧ t.update.result = 0) ∧
  (∀ b, (packageFault (unle b) s).1 ≠ 0 → Takes (.packageDigest a r b) s fun t => t.update.staging = 3 ∧
    t.update.result = BitVec.ofNat 32 (packageFault (unle b) s).1) ∧
  (s.updateRuns = false → Takes (.updateStart a r) s fun t => t.update.next = 1 ∧ t.update.reverse = false ∧ t.update.paused = false ∧
    t.update.target = s.idleBank) ∧
  (s.updateRuns = true → Takes (.updateStart a r) s fun t => t.update = { s.update with paused := false }) ∧
  (s.updateRuns = true → Takes (.updateStop a r) s fun t => t.update.paused = true ∧ t.update.next = s.update.next) ∧
  (s.updateRuns = false → Takes (.updateStop a r) s fun t => t.update = s.update) ∧
  Takes (.generationAdvance a r) s (fun t => t.update.ha = some (s.firstHalf 2000, s.update.g + 1) ∧ t.update.g = s.update.g) ∧
  Takes (.updateConfirm a r) s (fun t => t.update.kept = [] ∧ t.update.confirmFrom = none ∧ t.update.next = 0 ∧ t.update.step = 13 ∧ t.update.g = s.update.g) ∧
  Takes (.rollBack a r) s (fun t => t.update.reverse = true ∧ t.update.next = 11 ∧
    t.update.ha = if s.update.oldG < s.update.g then some (s.firstHalf 2000, s.update.oldG) else none)

/-- Requests that answer for themselves (R31, R149, R412, R413, R414, R428, R429, R523): a module in ISOLATED with both contactors open goes to SLEEP; a checked envelope waits
for its self-test; an adoption request with the label code adopts the module, ends every session and is counted as a failure without it; a COMMIT waits for its boundary. -/
def Obligations.SelfAnsweredRequests : Prop := ∀ (s : State) (a r : Nat),
  (s.core.opState = .isolated → s.core.taken = none → s.bothOpen = true → Takes (.sleepRequest a r) s fun t => t.core.opState = .sleep) ∧
  (s.core.taken = none → s.core.opState ≠ .isolated → a ≠ 0xFFFF → Takes (.sleepRequest a r) s fun t => t.core = s.core ∧
    t.dict.responses = s.dict.responses ++ [s.writeAnswer ⟨a, r, 0x9050, 1, .num 1⟩ (abortArg 0x04020000 s.core.opState.code)]) ∧
  (∀ doc, Takes (.envelopeInstall a r doc) s fun t => t.fb.envelope = s.fb.envelope ∧ ∃ p, t.fb.envPending = s.fb.envPending ++ [p] ∧ p.doc = doc ∧
    p.fields = envFields doc ∧ p.seq = fieldN doc 8 4 ∧ p.selfTest = true ∧ p.effective = none ∧ p.partner = s.inPair ∧ p.session = a ∧ p.req = r) ∧
  (∀ doc, s.codeOk (s.binding a) doc = true → adoptionContent doc = 0 → Takes (.adoptionRequest a r doc) s fun t => t.sec.adopted = true ∧
    t.sec.stringId = fieldN doc 8 16 ∧ t.sec.verifyKey = some (slice doc 24 64) ∧ t.sec.failures = 0 ∧ (∀ n, (t.session n).state = .free) ∧
    ∀ i, 1 ≤ i → i ≤ fieldN doc 5 1 → Tab.at t.sec.anchors i [] = anchorOf doc i) ∧
  (∀ doc, s.codeOk (s.binding a) doc = false → a ≠ 0xFFFF → Takes (.adoptionRequest a r doc) s fun t => t.sec.adopted = s.sec.adopted ∧
    t.sec.failures = inc8 s.sec.failures ∧ t.sec.waitLen = adoptionWait (inc8 s.sec.failures) ∧
    t.dict.responses = s.dict.responses ++ [s.writeAnswer ⟨a, r, 0x7801, 1, .bytes doc⟩ (abortArg abCode (3 - inc8 s.sec.failures))]) ∧
  (s.sessOpen a = true → (s.serving a r).entryCheck a 0x1F00 1 (.num 1) = 0 → Gives (.commit a r) s fun t => ChangesOnly [.dict, .pair] s t ∧
    t.dict.commit = s.dict.commit ++ [{ effective := s.effective, vals := s.dict.staged, session := a, req := r, type := 8 }] ∧ t.dict.vals = s.dict.vals ∧
    t.dict.staged = s.dict.staged ∧ t.dict.epoch = s.dict.epoch) ∧
  (s.sessOpen a = true → a ≠ 0xFFFF → (s.serving a r).entryCheck a 0x1F00 1 (.num 1) ≠ 0 → Gives (.commit a r) s fun t => ChangesOnly [.dict] s t ∧
    t.dict.commit = s.dict.commit ∧ t.dict.staged = s.dict.staged ∧
    ∃ x, t.dict.responses = s.dict.responses ++ [x] ∧ x.session = a ∧ x.req = r ∧ x.abort = (s.serving a r).entryCheck a 0x1F00 1 (.num 1))

/-- Writes of string scope at their boundary, by what they do to heads, ring and cells (R66, R68, R96, R101, R107, R141, R146, R161, R169, R196, R216, R224, R232,
R247, R250): each checked again there and then in force. -/
def Obligations.WritesAtBoundary : Prop := ∀ (u : State) (a r : Nat),
  (0 < u.cfg 0x2100 5 → AtBoundary (.unwrapRelease a r) u fun t => t.ring.unwrapHold = false ∧ t.raised 0x020 0x24 0 0 = false) ∧
  AtBoundary (.reEnumerate a r) u (fun t => t.ring.state = .enum ∧ t.ring.enum.running = true ∧ t.ring.enum.since = u.core.cycle ∧
    t.ring.unwrapHold = false ∧ t.ring.wrapW = 0 ∧ t.ring.wrapE = 0) ∧
  (∀ p tap, p < 256 → tap < 0xFF → u.owTesting p = none → AtBoundary (.openWireTestRequest a r p tap) u fun t =>
    ∃ e, Tab.find t.tap.tests p = some e ∧ e.tap = tap ∧ e.k = u.cfg 0x2103 2 ∧ e.sentAt = u.core.cycle) ∧
  (∀ p tap, p < 256 → tap < 0xFF → (u.owTesting p).isSome = true → AtBoundary (.openWireTestRequest a r p tap) u fun t =>
    t.tap.tests = u.tap.tests ∧ tap ∈ Tab.at t.tap.testQueue p []) ∧
  (∀ p tap, p < 256 → tap < 256 → AtBoundary (.senseLostClear a r p tap) u fun t => t.tapState p tap = 0 ∧
    t.raised 0x018 0x33 2 (headTap p tap) = false ∧ t.raised 0x018 0x32 2 (headTap p tap) = false) ∧
  (∀ p, AtBoundary (.bleedGateFailureClear a r p) u fun t => (t.diag p).getLsbD 1 = false ∧ (t.thinHead p).excluded = false ∧
    t.raised 0x018 0x37 2 (headTap p 0xFF) = false) ∧
  (u.dict.owner = some a → AtBoundary (.discardStaging a r) u fun t => t.dict.staged = [] ∧ t.dict.owner = none ∧ t.dict.vals = u.dict.vals) ∧
  (u.dict.owner ≠ some a → AtBoundary (.discardStaging a r) u fun t => t.dict.staged = u.dict.staged ∧ t.dict.owner = u.dict.owner) ∧
  (∀ k, (cellCommand k 1 u).cell k = { u.cell k with insertPending := true } ∧ ((cellCommand k 2 u).cell k).cap = u.cNom k ∧
    ((cellCommand k 2 u).cell k).capUnc = u.cNom k / 20 ∧ ((cellCommand k 3 u).cell k).efc = 0) ∧
  (∀ n, n < 0x800 → AtBoundary (.extremesClear a r n) u fun t => t.point n = { u.point n with min := (u.point n).filtered, max := (u.point n).filtered } ∧
    ∀ m, m ≠ n → t.point m = u.point m) ∧
  (∀ l, AtBoundary (.laneDrainRequest a r l) u fun t => Tab.at t.cruiser.lanes l .active = .draining) ∧
  AtBoundary (.sweepRequest a r 0) u (fun t => t.borer.sweepUntil = none) ∧
  (∀ h, 0 < h → AtBoundary (.sweepRequest a r h) u fun t => t.borer.sweepUntil = some (u.ahead (h * 3600000))) ∧
  (∀ k, 1 ≤ k → k ≤ 512 → AtBoundary (.impedanceTableReset a r k) u fun t => (t.cell k).impTable = [] ∧ (t.cell k).impHead.reset = u.core.cycle ∧
    (t.cell k).rdc = (u.cell k).rdc) ∧
  (∀ k, (u.cell k).suspicion = .suspected ∨ (u.cell k).suspicion = .escalated → AtBoundary (.suspicionClear a r k) u fun t =>
    (t.cell k).suspicion = .none ∧ (t.cell k).flags.getLsbD cfShort = false ∧ ∀ lane, lane < 8 → t.raised (0x030 + lane) 0x5D 1 k = false) ∧
  (∀ p, p ≠ 0xFF → AtBoundary (.switchTestRequest a r p) u fun t => (t.thinHead p).testWanted = true ∧ ∀ q, q ≠ p → t.thinHead q = u.thinHead q) ∧
  AtBoundary (.switchTestRequest a r 0xFF) u (fun t => ∀ p ∈ u.allHeads, (t.thinHead p).testWanted = true) ∧
  (∀ k, AtBoundary (.exclusionClear a r k) u fun t => (t.cell k).swStuck = false ∧ (t.cell k).flags.getLsbD cfExcluded = false ∧
    t.raised 0x03A 0x5E 1 k = false ∧ t.raised 0x03A 0x5F 1 k = false)

/-- Writes of string scope at their boundary, by what they do to Canopy, axes, security and the dispatch lease (R287, R298, R300, R325, R330, R334, R336, R337, R403,
R417, R421, R424). -/
def Obligations.WritesAtBoundaryHigh : Prop := ∀ (u : State) (a r : Nat),
  (∀ n m, 2 ≤ n → n ≤ 15 → AtBoundary (.slotModeWrite a r n m) u fun t => t.cfg (0x6010 + n) 1 = m) ∧
  (∀ x, 1 ≤ x → x ≤ 4 → AtBoundary (.chopperRestore a r x) u fun t => (t.axis x).fallBack = false ∧ t.raised (srcAxis x) 0x81 5 x = false) ∧
  (∀ x, 1 ≤ x → x ≤ 4 → u.axisMode x = 1 ∨ u.axisMode x = 2 ∨ u.axisMode x = 4 → (u.axis x).fenced = false →
    (u.motionHeld = true → AtBoundary (.homeRequest a r x) u fun t => t.axis x = { u.axis x with homeWait := true }) ∧
    (u.motionHeld = false → AtBoundary (.homeRequest a r x) u fun t => (t.axis x).homing = .search ∧ (t.axis x).homed = false ∧
      (t.axis x).target = u.searchTarget x (decide (u.cfg (0x687F + x) 1 = 0)) 0 ∧ (t.axis x).speed = u.vHome x)) ∧
  AtBoundary (.disconnectorStop a r) u (fun t => (t.axis 3).discCmd = .none ∧ ((u.axis 3).moving = true → (t.axis 3).ramp = .stopping)) ∧
  ((u.axis 3).limP = false → AtBoundary (.disconnectorClose a r) u fun t => (t.axis 3).discCmd = .close ∧ (t.axis 3).discSince = u.core.cycle ∧
    (t.axis 3).operations = inc32 (u.axis 3).operations) ∧
  ((u.axis 3).limN = false → AtBoundary (.disconnectorOpen a r) u fun t => (t.axis 3).discCmd = .open_ ∧ (t.axis 3).discSince = u.core.cycle ∧
    (t.axis 3).operations = inc32 (u.axis 3).operations) ∧
  ((u.axis 3).limP = true → AtBoundary (.disconnectorClose a r) u fun t => (t.axis 3).discCmd = .none ∧ t.raised (srcAxis 3) 0x87 5 3 = false) ∧
  (∀ x v, 1 ≤ x → x ≤ 4 → AtBoundary (.manualTarget a r x v) u fun t => (t.axis x).target = v) ∧
  (∀ ch, ch < 64 → u.sessOpen (192 + ch) = false → AtBoundary (.channelEnable a r ch true) u fun t => (t.session (192 + ch)).state = .isOpen ∧
    (t.session (192 + ch)).transport = 4 ∧ (t.session (192 + ch)).identity = unle (u.octets (0x7810 + ch) 3) ∧ t.val (0x7810 + ch) 4 = .num 1) ∧
  (∀ ch, ch < 64 → AtBoundary (.channelEnable a r ch false) u fun t => (t.session (192 + ch)).state = .free ∧ t.val (0x7810 + ch) 4 = .num 0) ∧
  (∀ i v, 1 ≤ i → i ≤ 4 → AtBoundary (.trustAnchorWrite a r i 1 v) u fun t => Tab.at t.sec.anchors i [] = v.toBytes ∧
    ∀ n, n < 128 → (u.session n).anchor = i → (t.session n).state = .free) ∧
  (∀ i v, 1 ≤ i → i ≤ 4 → AtBoundary (.trustAnchorWrite a r i 2 v) u fun t => Tab.at t.sec.masks i 0 = BitVec.ofInt 8 v.toInt ∧
    t.sec.anchors = u.sec.anchors ∧ t.dict.sessions = u.dict.sessions) ∧
  (∀ b : Bytes, b.length ≤ 464 → AtBoundary (.denialListWrite a r b) u fun t => t.val 0x7808 1 = .bytes b ∧
    ∀ n, (u.session n).cert ≠ [] → (u.session n).cert ∈ digestsOf 64 b → (t.session n).state = .free) ∧
  (∀ ch key, ch < 64 → key.length = 16 → AtBoundary (.channelKeyWrite a r ch key) u fun t => (t.channel ch).key = some (unle key) ∧
    ∀ c, c ≠ ch → t.channel c = u.channel c) ∧
  (∀ s eff sub v, let e := dispatchEvent a a r 0x6108 sub v eff s
    (sub = 1 → u.sawyer.holder = 0 → (applyDispatch u e).sawyer = { u.sawyer with holder := (s.session a).identity, lease := u.cfg 0x6108 5 }) ∧
    (sub = 1 → u.sawyer.holder ≠ 0 → (applyDispatch u e).sawyer = u.sawyer) ∧
    (sub = 2 → u.sawyer.holder ≠ 0 → u.sawyer.holder = (s.session a).identity → (applyDispatch u e).sawyer = { u.sawyer with lease := u.cfg 0x6108 5 }) ∧
    (sub = 3 → u.sawyer.holder ≠ 0 → u.sawyer.holder = (s.session a).identity → (applyDispatch u e).sawyer =
      { u.sawyer with mode := 0, holder := 0, lease := 0, leaseEnds := inc32 u.sawyer.leaseEnds }) ∧
    (sub = 7 → u.sawyer.holder ≠ 0 → (applyDispatch u e).sawyer =
      { u.sawyer with mode := 0, holder := 0, lease := 0, leaseEnds := inc32 u.sawyer.leaseEnds } ∧ Sent u (applyDispatch u e) (u.msg 0x040 0x71 .notice 0 0)) ∧
    (sub ≠ 1 → sub ≠ 7 → u.sawyer.holder ≠ (s.session a).identity → (applyDispatch u e).sawyer = u.sawyer)) ∧
  (∀ s eff v, u.sawyer.holder ≠ 0 → u.sawyer.holder = (s.session a).identity →
    (applyDispatch u (dispatchEvent a a r 0x6100 2 (.num v) eff s)).sawyer = { u.sawyer with mode := v.toNat } ∧
    (applyDispatch u (dispatchEvent a a r 0x6100 3 (.num v) eff s)).sawyer = { u.sawyer with reqI := v } ∧
    (applyDispatch u (dispatchEvent a a r 0x6100 4 (.num v) eff s)).sawyer = { u.sawyer with reqP := v }) ∧
  (∀ s eff v sub, u.sawyer.holder ≠ (s.session a).identity → (applyDispatch u (dispatchEvent a a r 0x6100 sub v eff s)).sawyer = u.sawyer)

/-! ### 13: reads and sessions -/

/-- R147: a READ of a configuration subindex s of the two tables returns the active value, whatever is staged; subindex s + 0x80 returns the staged value, or the
active value when no change is staged. -/
def Obligations.StagedReads : Prop := ∀ (b : State) (sess idx sub : Nat) (staged : Tab ObjVal), 0x3000 ≤ idx → idx ≤ 0x3BFF → 1 ≤ sub → sub ≤ 0x1F →
  b.readVal sess idx sub = ({ b with dict := { b.dict with staged := staged } } : State).readVal sess idx sub ∧
  (∀ v, idx ≤ 0x31FF → Tab.find b.dict.vals (okey idx sub) = some (.num v) → b.readVal sess idx sub = .num v) ∧
  (0x3400 ≤ idx → b.readVal sess idx sub = .num (b.pointCfg (idx - 0x3400) sub)) ∧
  (∀ v, Tab.find b.dict.staged (okey idx sub) = some v → b.readVal sess idx (sub + 0x80) = v) ∧
  (Tab.find b.dict.staged (okey idx sub) = none → b.readVal sess idx (sub + 0x80) = b.readVal sess idx sub)

/-- R405: a session's weight is the highest of its roles' weights. Dispatcher, Arbiter and Partner (roles 2, 5 and 6) weigh 4; Integrator, Engineer and Operator
(roles 4, 3 and 1) weigh 2; Observer (role 0) weighs 1. -/
def Obligations.SessionWeights : Prop := ∀ c : Session, c.state ≠ .free → (∃ r, r ≤ 6 ∧ c.has r = true) →
  let weight := fun r => if r = 2 ∨ r = 5 ∨ r = 6 then 4 else if r = 4 ∨ r = 3 ∨ r = 1 then 2 else 1
  (∀ r, r ≤ 6 → c.has r = true → weight r ≤ c.weight) ∧ ∃ r, r ≤ 6 ∧ c.has r = true ∧ c.weight = weight r

/-! ### 13: requests -/

/-- Requests of an open session that pass their checks (R387, R390, R391, R394, R395, R396, R399, R482, R495): a READ and a READ-BLOCK answer the values the
latest boundary shows, and what reading clears is cleared; WRITE-BLOCK parts are kept until the value is whole; subscriptions come and go; DESCRIBE answers
the metadata. -/
def Obligations.RequestsAnswered : Prop := ∀ (s u : State) (a r : Nat), s.sessOpen a = true → u = s.serving a r → a < 256 →
  (∀ objects : List (Nat × Nat), a < 192 → 1 ≤ objects.length → objects.length ≤ 64 → Gives (.read a r objects) s fun t => t.dict.vals = s.dict.vals ∧
    Responds s t { session := a, req := r, type := 0x81, cycle := s.boundary.core.cycle,
                   body := le 2 objects.length ++ le 2 0 ++ (readEntries a objects u).1 }) ∧
  (∀ o l, 192 ≤ a → Gives (.read a r (o :: l)) s fun t => t.dict.vals = s.dict.vals ∧
    Responds s t { session := a, req := r, type := 0x81, cycle := s.boundary.core.cycle, abort := (readObject a o.1 o.2 u).1,
                   body := (readObject a o.1 o.2 u).2.1 }) ∧
  (a < 192 → u.readCheck a 0x7120 4 = 0 → Gives (.overflowOccurrencesRead a r) s fun t => t.clock = { s.clock with occurrences := 0 } ∧
    Responds s t { session := a, req := r, type := 0x81, cycle := s.boundary.core.cycle,
                   body := le 2 1 ++ le 2 0 ++ valueEntry 0x7120 4 (typeCodeOf 0x7120 4) 0 (le 1 s.clock.occurrences) }) ∧
  (a < 192 → u.readCheck a 0x8A10 2 = 0 → Gives (.tallyRead a r false) s fun t => t.tally = (readTally a 1016 s).2.tally ∧
    Responds s t { session := a, req := r, type := 0x81, cycle := s.boundary.core.cycle,
                   body := le 2 1 ++ le 2 0 ++ valueEntry 0x8A10 2 (typeCodeOf 0x8A10 2) 0 (readTally a 1016 s).1 }) ∧
  (a < 128 → u.readCheck a 0x8A10 2 = 0 → Gives (.tallyRead a r true) s fun t => t.tally = (readTally a 65536 s).2.tally ∧
    Responds s t { session := a, req := r, type := 0x83, cycle := s.boundary.core.cycle,
                   body := addrEntry 0x8A10 2 ++ le 4 0 ++ le 4 (readTally a 65536 s).1.length ++ (readTally a 65536 s).1 }) ∧
  (∀ idx sub off n part, a < 128 → idx ≠ 0x8A10 → u.readCheck a idx sub = 0 → 1 ≤ n → n ≤ 65536 → off ≤ (u.valueBytes a idx sub).length →
    part = ((u.valueBytes a idx sub).drop off).take n → Gives (.readBlock a r idx sub off n) s fun t =>
      Responds s t { session := a, req := r, type := 0x83, cycle := s.boundary.core.cycle, body := addrEntry idx sub ++ le 4 off ++ le 4 part.length ++ part }) ∧
  (∀ b v, a < 128 → b < 4 → u.readCheck a (0x6400 + b) 0x0E = 0 → v = u.valueBytes a (0x6400 + b) 0x0E → v.length ≤ 65536 →
    Gives (.traceCaptureRead a r b) s fun t => ((s.trace b).state = 3 → (s.trace b).rearm = true → (t.trace b).state = 1) ∧
      Responds s t { session := a, req := r, type := 0x83, cycle := s.boundary.core.cycle, body := addrEntry (0x6400 + b) 0x0E ++ le 4 0 ++ le 4 v.length ++ v }) ∧
  (∀ idx sub total crc, ∀ data : Bytes, a < 128 → u.writeCheck a idx sub (.bytes []) = 0 → typeCodeOf idx sub = 0x0D ∨ typeCodeOf idx sub = 0x10 →
    (s.session a).block = none → data.length ≤ total → total ≤ 65536 → Gives (.writeBlock a r idx sub 0 total crc false data) s fun t =>
      (t.session a).block = some { key := okey idx sub, total := total, crc := crc, data := data, last := s.core.cycle } ∧ t.dict.vals = s.dict.vals ∧
      Responds s t { session := a, req := r, type := 0x84, cycle := s.core.cycle, body := le 4 data.length }) ∧
  (∀ idx sub, ∀ data : Bytes, a < 128 → u.writeCheck a idx sub (.bytes []) = 0 → typeCodeOf idx sub = 0x0D ∨ typeCodeOf idx sub = 0x10 →
    (s.session a).block = none → data.length ≤ 65536 → exec (.writeBlock a r idx sub 0 data.length (crc32c data).toNat true data) s
      = .next (serveWrite a r idx sub (.bytes data) ((u.modSession a fun c => { c with block := none }).modSession a fun c =>
          { c with addrs := Tab.put c.addrs r data.length }))) ∧
  (∀ period p, ∀ l : List (Nat × Nat), s.sec.adopted = true → 1 ≤ l.length → l.length ≤ 64 → notePeriod a period = (p, true) →
    (∀ x ∈ l, u.readCheck a x.1 x.2 = 0) → (s.session a).subs.length < 8 → u.noteFits a (l.map fun x => okey x.1 x.2) = true →
    Gives (.subscribe a r period l) s fun t =>
      (t.session a).subs = (s.session a).subs ++ [{ id := (s.session a).freeSub, period := p, objects := l.map fun x => okey x.1 x.2 }] ∧
      Responds s t { session := a, req := r, type := 0x85, cycle := s.core.cycle, body := le 2 (s.session a).freeSub }) ∧
  (∀ id, s.sec.adopted = true → ((s.session a).subs.any fun x => x.id = id) = true → Gives (.unsubscribe a r id) s fun t =>
    (t.session a).subs = (s.session a).subs.filter (fun x => x.id != id) ∧ (t.session a).notes = (s.session a).notes.filter (fun x => x.req != id) ∧
    Responds s t { session := a, req := r, type := 0x86, cycle := s.core.cycle, body := replyBody 6 0 }) ∧
  (∀ l : List (Nat × Nat), a < 192 → s.sec.adopted = true → 1 ≤ l.length → l.length ≤ 16 → (∀ x ∈ l, (descOf x.1 x.2).isSome = true) →
    Gives (.describe a r l) s fun t => t.dict.vals = s.dict.vals ∧
      Responds s t { session := a, req := r, type := 0x89, cycle := s.core.cycle,
                     body := le 2 l.length ++ le 2 0 ++ l.flatMap fun x => ((descOf x.1 x.2).map (metadata x.1 x.2)).getD [] })

/-- Writes of an open session that pass their checks, by what becomes of them (R141, R146, R178, R298, R299, R300, R386, R388, R389): a configuration field is staged, by
whatever request it comes; several entries wait for one boundary together; a cell command waits for its boundary with its code; a request to the dispatch
lease or for dispatch is an event of its cycle. -/
def Obligations.WritesTaken : Prop := ∀ (s u : State) (a r : Nat), s.sessOpen a = true → u = s.serving a r → a < 256 →
  (∀ idx sub v d, objDesc idx sub = some d → d.staged = true →
    let staged := fun (t : State) => ChangesOnly [.dict] s t ∧ Tab.find t.dict.staged (okey idx sub) = some v ∧ t.dict.vals = s.dict.vals ∧
      t.dict.owner = some a ∧ Responds s t (s.writeAnswer ⟨a, r, idx, sub, v⟩ 0)
    Takes (.stagedWrite a r idx sub v) s staged ∧ Takes (.objectWrite a r idx sub v) s staged ∧
    (∀ e : Entry, e.index = idx → e.sub = sub → e.value = v → u.pduCheck a e = 0 → Gives (.write a r [e]) s staged)) ∧
  (∀ (l : List Entry) (kv : List (Nat × ObjVal)), kv = l.map (fun e => (okey e.index e.sub, e.value)) → 2 ≤ l.length → l.length ≤ 16 →
    (∀ e ∈ l, typeAbort e = 0) → firstFailing (fun t i b v => t.entryCheck a i b v) a 0 kv u = none → Gives (.write a r l) s fun t =>
      t.dict.pending = s.dict.pending ++ [{ session := a, req := r, entries := kv, effective := s.effective }] ∧ t.dict.vals = s.dict.vals ∧
      t.dict.responses = s.dict.responses) ∧
  (∀ slot table, slot < 8 → Takes (.chemistryTableWrite a r slot table) s fun t => t.dict.vals = s.dict.vals ∧
    Tab.find t.dict.staged (okey (0x4010 + slot) 1) = some (.bytes table) ∧ Responds s t (s.writeAnswer ⟨a, r, 0x4010 + slot, 1, .bytes table⟩ 0)) ∧
  (∀ k, 1 ≤ k → k ≤ 512 →
    Takes (.insertionCommand a r k) s (fun t => t.dict.cellCmds = s.dict.cellCmds ++ [(s.effective, k, 1)] ∧ t.cells = s.cells ∧ t.dict.responses = s.dict.responses) ∧
    Takes (.capacityReset a r k) s (fun t => t.dict.cellCmds = s.dict.cellCmds ++ [(s.effective, k, 2)] ∧ t.cells = s.cells ∧ t.dict.responses = s.dict.responses) ∧
    Takes (.cycleCountReset a r k) s (fun t => t.dict.cellCmds = s.dict.cellCmds ++ [(s.effective, k, 3)] ∧ t.cells = s.cells ∧ t.dict.responses = s.dict.responses)) ∧
  (let event := fun (idx sub : Nat) (v : ObjVal) (t : State) => ChangesOnly [.dict, .sawyer, .pair] s t ∧
      t.sawyer = { s.sawyer with events := s.sawyer.events ++ [dispatchEvent a a r idx sub v s.effective s] } ∧ t.dict.responses = s.dict.responses
   Takes (.claim a r) s (event 0x6108 1 (.num 1)) ∧ Takes (.renew a r) s (event 0x6108 2 (.num 1)) ∧ Takes (.release a r) s (event 0x6108 3 (.num 1)) ∧
    Takes (.revoke a r) s (event 0x6108 7 (.num 1)) ∧
    (∀ sub v, sub = 2 ∨ sub = 3 ∨ sub = 4 → Takes (.dispatchRequestWrite a r sub v) s (event 0x6100 sub (.num v))))

/-- The timers and frames of the dictionary's transports (R395, R399, R400, R404): a block transfer without a part for 60 s and a segmented transfer without a
frame for 1 s are gone; an initiate frame opens a transfer of its channel and a segment in its turn extends it; an acknowledge of all but the last
segment has that one sent, and one that misses bytes aborts; a round of the engine takes what has come, gives every open session its turn in order and
sends the responses, a session's turn serving the requests its deficit covers. -/
def Obligations.TransfersAndRounds : Prop := ∀ s : State,
  (∀ n b, (s.session n).block = some b → s.passed b.last 60000 = true → exec (.blockTransferTimeout n) s = .next (s.modSession n fun c => { c with block := none })) ∧
  (∀ n (f : Bytes) ch, n < 2 → fieldN f 0 1 / 32 = 1 → ch = fieldN f 1 1 → ch < 64 → s.sessOpen (192 + ch) = true → fieldN f 2 1 = 2 → fieldN f 8 4 ≤ 65536 →
    Gives (.canSegment n f) s fun t => (t.session (192 + ch)).transport = 4 + n ∧ (t.session (192 + ch)).seg =
      some { write := true, reqType := 2, reqId := fieldN f 3 1, key := okey (fieldN f 4 2) (fieldN f 6 1), total := fieldN f 8 4, crc := fieldN f 12 4,
             data := (slice f 16 40).take (fieldN f 8 4), last := s.core.cycle }) ∧
  (∀ n (f : Bytes) ch x, n < 2 → fieldN f 0 1 / 32 = 2 → ch = fieldN f 1 1 → ch < 64 → s.sessOpen (192 + ch) = true → (s.session (192 + ch)).seg = some x →
    x.write = true → fieldN f 0 1 % 16 = x.next % 16 → (fieldN f 0 1).testBit 4 = false → Gives (.canSegment n f) s fun t =>
      (t.session (192 + ch)).seg = some { x with data := (x.data ++ slice f 4 52).take x.total, next := x.next + 1, sinceAck := (x.sinceAck + 1) % 16,
                                                 last := s.core.cycle }) ∧
  (∀ ch held x, (s.session (192 + ch)).seg = some x → x.write = false → x.waiting = true →
    (held = min x.total (40 + 52 * x.next) → x.total ≤ 40 + 52 * x.next + 52 → Gives (.segmentAcknowledge ch held) s fun t => (t.session (192 + ch)).seg = none) ∧
    (held ≠ min x.total (40 + 52 * x.next) → Gives (.segmentAcknowledge ch held) s fun t => (t.session (192 + ch)).seg = none)) ∧
  (∀ ch x, (s.session (192 + ch)).seg = some x → s.passed x.last 1001 = true → Gives (.transferTimeout ch) s fun t => (t.session (192 + ch)).seg = none) ∧
  (∀ full, s.pd 1 = true →
    let came := (upFrom 0 2).foldl drainCan ((upFrom 0 2).foldl pumpPort s)
    let served := came.openSessions.foldl (sessionTurn full) came
    exec (.engineRound full) s = .next (sendResponses full
      { served with dict := { served.dict with longest := max served.dict.longest ((served.dict.served - came.dict.served) / 32) } })) ∧
  (∀ full n, s.engineActive full n = false → sessionTurn full s n = s) ∧
  (∀ full n q c v, (s.session n).queue = [q] → (s.session n).notes = [] → s.canTransmit full n = true → inSteps q.pdu = false →
    serveHead n q (s.modSession n fun x => { x with deficit := x.deficit + 1024 * x.weight }) = (c, v) → c ≤ (s.session n).deficit + 1024 * (s.session n).weight →
    (v.session n).queue = [] → (v.session n).notes = [] → sessionTurn full s n = (charge n c v).modSession n fun x => { x with deficit := 0 })

/-! ### 14: sessions -/

/-- Sessions come and go (R402, R403, R414, R418, R420, R421, R423): a client hello starts the limit of a handshake or is refused; a handshake that keeps the
rules opens the lowest free context of its roles, one that does not is counted; a lost connection leaves its session dormant, which a resumption opens
again and the end of its window frees; a close frees it, its fast channels and its staging, and the dispatch lease stays; a datagram is taken or discarded. -/
def Obligations.SessionsOpenAndEnd : Prop := ∀ s : State,
  (∀ conn port, s.ethUp port = true →
    Gives (.clientHello conn port true) s (fun t => ChangesOnly [.sec] s t ∧ t.sec.handshakes = s.sec.handshakes ++ [(conn, s.core.cycle)]) ∧
    Gives (.clientHello conn port false) s (fun t => ChangesOnly [.links, .sec] s t ∧ t.sec.handshakes = s.sec.handshakes ∧
      t.sec.hsFailed = inc32 s.sec.hsFailed)) ∧
  (∀ conn h, s.sec.handshakes.find? (fun x => x.1 = conn) = some h →
    (s.passed h.2 10000 = true → Gives (.tlsHandshakeTimeout conn) s fun t => ChangesOnly [.sec] s t ∧ t.sec.hsFailed = inc32 s.sec.hsFailed ∧
      t.sec.handshakes = s.sec.handshakes.filter fun x => x.1 != conn) ∧
    (s.passed h.2 10000 = false → exec (.tlsHandshakeTimeout conn) s = .next s) ∧
    (∀ port cert secret, s.passed h.2 10000 = true ∨ s.certOk cert = false → Gives (.tlsHandshake conn port cert secret) s fun t =>
      ChangesOnly [.sec] s t ∧ t.sec.hsFailed = inc32 s.sec.hsFailed) ∧
    (∀ port cert secret n c, s.passed h.2 10000 = false → s.certOk cert = true → s.denied cert.digest = false →
      (s.sec.adopted = true → s.clock.trusted = true → cert.inPeriod = true) → s.perIdentity cert.digest < s.cfg 0x1010 6 →
      s.freeOf (tlsContexts (s.grantedRoles cert)) = some n →
      c = { state := .isOpen, transport := port, roles := s.grantedRoles cert, identity := unle (cert.digest.take 8), anchor := cert.anchor.getD 0,
            cert := cert.digest, secret := secret } →
      Gives (.tlsHandshake conn port cert secret) s fun t => ChangesOnly [.dict, .sec, .tally] s t ∧ t.session n = c ∧ ∀ m, m ≠ n → t.session m = s.session m)) ∧
  (∀ n, n < 128 → s.sessOpen n = true →
    Gives (.connectionLost n) s (fun t => ChangesOnly [.dict] s t ∧ (t.session n).state = .dormant ∧ (t.session n).dormantAt = some s.core.cycle ∧
      (t.session n).queue = [] ∧ (t.session n).block = none ∧ (∀ x ∈ (t.session n).subs, x.paused = true) ∧ (t.session n).roles = (s.session n).roles ∧
      t.dict.staged = s.dict.staged ∧ (∀ r ∈ t.dict.responses, r.session ≠ n) ∧ ∀ m, m ≠ n → t.session m = s.session m) ∧
    Gives (.closeNotify n) s (fun t => ChangesOnly [.dict, .sec, .tally] s t ∧ (t.session n).state = .free ∧ (s.dict.owner = some n → t.dict.owner = none) ∧
      (∀ m, (s.session m).parent = some n → (t.session m).state = .free) ∧ ∀ r ∈ t.dict.responses, r.session ≠ n)) ∧
  (∀ n, (s.session n).state = .dormant →
    (∀ port secret, s.inWindow n = true → Gives (.sessionResumption n port secret) s fun t => ChangesOnly [.dict] s t ∧ (t.session n).state = .isOpen ∧
      (t.session n).transport = port ∧ (t.session n).secret = secret ∧ (t.session n).roles = (s.session n).roles ∧ ∀ x ∈ (t.session n).subs, x.paused = false) ∧
    (s.inWindow n = false → Gives (.dormantWindowExpiry n) s fun t => ChangesOnly [.dict, .sec, .tally] s t ∧ (t.session n).state = .free ∧
      (s.dict.owner = some n → t.dict.owner = none)) ∧
    (s.inWindow n = true → exec (.dormantWindowExpiry n) s = .next s)) ∧
  (∀ port d rest u, port < 2 → splitDatagram (s.eth port).rx = some (d, rest) → u = s.modEth port (fun e => { e with rx := rest }) →
    (u.datagramOk d = false → Gives (.fastChannelDatagram port) s fun t => t.links = u.links ∧ t.dict = s.dict ∧
      t.sec = { s.sec with datagramsDiscarded := inc32 s.sec.datagramsDiscarded }) ∧
    (u.datagramOk d = true → (s.fast d.channel).kept = [] → ((s.session (128 + d.channel)).queue.any fun q => q.req = d.req) = false →
      ((s.session (128 + d.channel)).order.any fun o => o.1 = d.req) = false → Gives (.fastChannelDatagram port) s fun t =>
        t.sec.datagramsDiscarded = s.sec.datagramsDiscarded ∧ (t.fast d.channel).rxTop = max (s.fast d.channel).rxTop d.seq)) ∧
  (s.sec.waitFrom.isSome = true → s.waitLeft = 0 → exec .adoptionWaitExpiry s = .next { s with sec := { s.sec with waitFrom := none } }) ∧
  (s.waitLeft ≠ 0 → exec .adoptionWaitExpiry s = .next s)

/-! ### 15: the pair -/

/-- What the events of a pair do when they act (R60, R72, R122, R436, R437, R438, R441, R443, R444, R446, R449, R450, R451, R452, R453, R454, R455, R457, R459, R460,
R461, R463, R540, R551, R562, R569): pairing, the frames of the partner, the rows of role changes, the course of a planned hand-over cycle by cycle, coil
catches and takeovers. -/
def Obligations.PairEvents : Prop := ∀ s : State,
  (∀ h, s.cycling = true → h.certOk = true →
    (h.strap = s.links.strap → Gives (.pairHello h) s fun t => t.pair.tether = 3 ∧ t.pair.keys = none ∧ t.seat.conflicts = inc32 s.seat.conflicts) ∧
    (h.strap ≠ s.links.strap → s.foreignString h = false → Gives (.pairHello h) s fun t => t.seat = s.seat ∧ t.pair.tether = 1 ∧ t.pair.keys = none ∧
      t.pair.hello = some h ∧ t.pair.rxSeq = 0 ∧ (s.pair.role = .single → s.core.opState = .boot → t.pair.role = .undecided))) ∧
  (∀ h, s.pair.hello = some h → s.pair.tether = 1 → Gives (.pairProof false) s (fun t => t.pair.tether = 3 ∧ t.pair.keys = none) ∧
    (s.sec.adopted = true → h.stringId = s.sec.stringId → Gives (.pairProof true) s fun t => t.pair.tether = 2 ∧ t.pair.keys.isSome = true)) ∧
  (∀ seq, s.hears seq →
    (∀ h, Gives (.heartbeatReceive seq true h) s fun t => t.pair.rxSeq = seq ∧ t.pair.hb = some h ∧ t.pair.missRun = 0 ∧ t.pair.lost = false) ∧
    (∀ c answers, (∀ blocks, c ≠ s.core.cycle → Gives (.missingData seq true c blocks answers) s fun t => t.pair.rxSeq = seq ∧ t.ring.blocks = s.ring.blocks ∧
        t.pair.rawBuf = s.pair.rawBuf.map fun r => if r.cycle = c then
          { r with blocks := r.blocks ++ blocks.filter (fun b => !r.blocks.any fun d => d.block.p = b.block.p), answers := r.answers ++ answers } else r) ∧
      (c = s.core.cycle → Gives (.missingData seq true c [] answers) s fun t => t.pair.rxSeq = seq ∧ t.ring.q2 = s.ring.q2 ++ answers)) ∧
    (∀ i, s.countsStandby = true → i.seq = (s.pair.inSeq + 1) % 65536 → Gives (.replicatedInput seq true i) s fun t => t.pair.rxSeq = seq ∧ t.pair.inSeq = i.seq ∧
      (∀ n, i.what = .request n → t.pair.inputs = s.pair.inputs ++ [i] ∧ t.pair.inputLog = s.pair.inputLog ++ [i]) ∧
      (∀ key v, i.what = .write key v → t.pair.inputs = s.pair.inputs ++ [i] ∧ t.pair.inputLog = s.pair.inputLog ++ [i]) ∧
      (∀ g, i.what = .generation g → t.pair.inputs = s.pair.inputs ∧ t.update.ha = some (i.effective, g))) ∧
    (∀ c part total, s.pair.partial_ = none → Gives (.checkpointPart seq true c part total none) s fun t => t.pair.rxSeq = seq ∧
      t.pair.partial_ = some { cycle := c, parts := [part], total := total } ∧ t.pair.images = s.pair.images) ∧
    (∀ c part img, s.pair.partial_ = none → s.core.opState ≠ .boot → Gives (.checkpointPart seq true c part 1 (some img)) s fun t => t.pair.rxSeq = seq ∧
      t.pair.partial_ = none ∧ t.pair.image = img.cycle ∧ t.pair.images = keepN 2 (img :: s.pair.images)) ∧
    (∀ c, Gives (.configuration seq true c) s fun t => t.pair.rxSeq = seq ∧ t.pair.stepping = c.stepping ∧
      (s.countsActive = true → t.dict = s.dict ∧ t.ring = s.ring) ∧ (s.countsActive = false → c.last = true → t.pair.ready.getLsbD 2 = true)) ∧
    (∀ r, Gives (.adoption seq true [] [] (some r)) s fun t => t.pair.rxSeq = seq ∧ t.pair.join = r ∧ t.pair.code = none) ∧
    (∀ h, s.pair.role = .standby → Gives (.handOver seq true 1 h 0) s fun t => t.pair.role = .incoming ∧ t.pair.h = h ∧ t.pair.phase = 1) ∧
    (∀ h cause, s.handingOver = true → s.pair.phase ≠ 4 → Gives (.handOver seq true 2 h cause) s fun t => t.pair.phase = 6 ∧ t.pair.abort = cause ∧
      (s.pair.role = .incoming → t.pair.role = .standby) ∧ (s.pair.role = .outgoing → t.pair.role = .active))) ∧
  (s.inPair = true → s.pair.lost = false → 5 ≤ s.pair.missRun → s.handingOver = false → Gives .heartbeatLost s fun t => t.pair.lost = true ∧
    (s.pair.role = .standby → s.partnerGone = true → s.hearsSync = false → t.pair.role = .takingOver ∧ t.pair.takeover = s.core.cycle) ∧
    (s.pair.role = .standby → s.partnerGone = true → s.hearsSync = true → t.pair.role = .standby) ∧
    (s.pair.role = .active → s.partnerGone = true → t.pair.role = .active ∧ t.raised 0x060 0xA0 0 0 = true) ∧
    (s.pair.role = .standby ∨ s.pair.role = .active → s.partnerGone = false → t.pair.role = .claiming ∧ t.pair.claim = 1 ∧ t.pair.round = s.core.cycle ∧
      t.pair.wasActive = decide (s.pair.role = .active))) ∧
  (∀ x, Gives (.partnerSenseChange x) s fun t => t.pair.sense = x ∧ (x ≠ .stopped → t.pair.stoppedSince = none)) ∧
  (s.pair.role = .undecided → s.pair.hb = none → s.inPair = true → s.passed s.pair.phyAt 2000 = true → s.pair.sense = .absent →
    Gives .roleDecisionTimeout s fun t => t.pair.role = .active ∧ t.raised 0x060 0xA0 0 0 = true) ∧
  (s.pair.role = .joining → s.pair.ready.toNat % 16 = 15 → Gives .readinessComplete s fun t => t.pair.role = .standby ∧ t.core = s.core ∧ t.ring = s.ring) ∧
  (s.inPair = true → s.pair.role = .active → s.pair.swapFrom + s.cfg 0x8010 1 * 86400000 ≤ s.power.opTime → s.pair.lastTry = none → condHandOver s = 0 →
    Gives .roleSwapTimer s fun t => t.pair.role = .outgoing ∧ t.pair.phase = 1 ∧ t.pair.h = s.firstHalf 2500) ∧
  (s.pair.role = .incoming → s.pair.phase = 1 → (s.pair.h - s.core.cycle).toNat ≤ 100 → Gives .notWarmAbort s fun t => t.pair.role = .standby ∧ t.pair.phase = 6 ∧
    t.pair.abort = 5) ∧
  (s.ahead 51 = s.pair.h → (s.pair.role = .incoming ∧ s.pair.phase = 2) ∨ (s.pair.role = .outgoing ∧ (s.pair.phase = 1 ∨ s.pair.phase = 2)) →
    Gives .stateFreeze s fun t => ChangesOnly [.axes, .pair] s t ∧ t.pair = { s.pair with phase := 3, digest := some (Config.imageDigest s.makeImage) } ∧
      (s.pair.role = .incoming → t.axes = s.axes)) ∧
  (s.pair.phase = 3 → s.core.cycle = s.pair.h → Gives .overlapStart s fun t => ChangesOnly [.fe, .pair] s t ∧ t.pair = { s.pair with phase := 4 } ∧
    (s.pair.role ≠ .incoming → t.fe = s.fe) ∧
    (∀ h, s.pair.role = .incoming → s.pair.hb = some h → h.flags.getLsbD 2 = true → t.fe.kp.coil = .hold ∧ t.fe.kn.coil = .hold)) ∧
  (s.pair.phase = 4 → s.ahead 1 = s.pair.h + 50 → Gives .originationChange s fun t => (s.pair.role = .outgoing → t.ring.originating = false ∧ t.fe = s.fe) ∧
    (s.pair.role = .incoming → t.ring.originating = true ∧ t.fe.injectFrom.isSome = true)) ∧
  (s.pair.phase = 4 → s.ahead 1 = s.pair.h + 100 → s.pair.role = .outgoing ∨ s.pair.role = .incoming → Gives .handOverComplete s fun t => t.pair.phase = 5 ∧
    t.pair.swapFrom = s.power.opTime ∧ t.pair.role = if s.pair.role = .outgoing then .standby else .active) ∧
  (∀ k h, k ≤ 1 → s.inPair = true → s.countsStandby = true → s.mayDrive k = false → s.pair.hb = some h → h.flags.getLsbD 2 = true → s.di diLoop = true →
    s.fb.causes = 0 → s.online = true → Gives (.coilCatch k) s fun t => (t.contactor k).coil = .hold ∧ (t.contactor k).commanded = true ∧
      Tab.flag t.pair.catching k = true ∧ t.pair.catches = inc32 s.pair.catches) ∧
  (∀ k openPath, Tab.flag s.pair.catching k = true → openPath = true ∨ 100 ≤ s.pair.catchRun → Gives (.coilCatchEnd k openPath) s fun t =>
    ChangesOnly [.fe, .pair] s t ∧ Tab.flag t.pair.catching k = false) ∧
  (∀ late, s.pair.role = .takingOver → s.pair.originateAt = none → s.pair.bridging = false → Gives (.takeover late) s fun t => t.pair.role = .takingOver ∧
    (s.sec.adopted = true → s.dict.epoch ≠ 0 → t.pair.originateAt = some (s.ahead (if late then 2 else 1)) ∧ t.pair.bridging = false) ∧
    (s.sec.adopted = false ∨ s.dict.epoch = 0 → t.pair.originateAt = none ∧ t.pair.bridging = true)) ∧
  (s.pair.role = .takingOver → s.pair.bridging = true → Gives .catchUpComplete s fun t => t.pair.role = .active ∧ t.pair.bridging = false ∧
    t.pair.riseClamp = true) ∧
  (∀ img, s.pair.role = .incoming → s.pair.phase = 1 → s.handOverImage = some img → Gives .catchUpComplete s fun t => t.pair = { s.pair with warm := true, phase := 2 }) ∧
  (s.pair.role = .claiming → s.pair.claim = 1 → s.passed s.pair.round 200 = true → Gives .claimTimeout s fun t => t.pair.claim = 4 ∧
    t.pair.role = if s.pair.wasActive then .active else .standby) ∧
  (∀ c, s.pair.holdUntil = some c → s.since c < 2 ^ 31 → Gives .denialHoldEnd s fun t => t.pair.holdUntil = none) ∧
  (s.pair.role = .active ∨ s.pair.role = .takingOver → 3 ≤ s.pair.syncRun → (if s.pair.roundOpened then !s.pair.wasActive else s.unitB) = true →
    exec .partnerSyncDetected s = .next { s with pair := { s.pair with stepDown := some (some 4) } })

/-! ### 16 to 19: faults, power, Lookout, storage, update, seat -/

/-- What the remaining events do when they act (R470, R472, R476, R478, R484, R486, R491, R499, R501, R502, R503, R504, R506, R507, R511, R514, R515,
R516, R518, R521, R524, R525, R530, R533, R537, R542, R544, R545, R548, R558, R559): the Ranger's list and watchdog, provoked
faults, the Tally, supplies and restarts, the watch of clocks and temperatures, the Lookout in SLEEP, journal and storage, the steps of an update, the seat. -/
def Obligations.ServiceEvents : Prop := ∀ s : State,
  (∀ m v, m.sev = some v → Gives (.faultMessage (some m)) s fun t => t.ranger.received = inc32 s.ranger.received ∧
    (1 ≤ v.code → v.code ≤ 2 → s.findFault m = none → s.ranger.active.length < 512 → t.core = s.core ∧ t.fb = s.fb ∧ ∃ a, t.ranger.active = s.ranger.active ++ [a] ∧
      a.msg = { m with cycle := s.stamped m.cycle } ∧ a.count = 1 ∧ a.acked = false ∧ a.graceFrom = s.core.cycle)) ∧
  (∀ m l v, s.ranger.outbox = m :: l → m.sev = some v →
    exec (.faultMessage none) s = exec (.faultMessage (some m)) { s with ranger := { s.ranger with outbox := l } }) ∧
  (∀ m i a, s.findFault m = some i → s.ranger.active[i]? = some a →
    Gives (.faultClear (some m)) s (fun t => t.ranger.received = inc32 s.ranger.received ∧ t.ranger.active = s.ranger.active.eraseIdx i) ∧
    exec (.faultAcknowledge m) s = .next (s.setFault i { a with acked := true }) ∧
    (a.acked = false → a.code < s.ceiling a.msg.kind a.code → s.passed a.graceFrom (s.grace a.msg.kind) = true → Gives (.graceExpiry m) s fun t =>
      t.ranger.escalations = inc32 s.ranger.escalations ∧ ∃ b, t.ranger.active[i]? = some b ∧ b.msg.sev = some (Sev.ofCode (a.code + 1)) ∧
        b.escalated = true ∧ b.acked = false ∧ b.graceFrom = s.core.cycle)) ∧
  (∀ m, s.ranger.firstFault.msg = some m → s.ranger.firstFault.open_ = true → s.passed s.ranger.firstFault.cycle 2 = true → Gives .firstFaultCaptureClose s fun t =>
    t.ranger.firstFault = { s.ranger.firstFault with open_ := false }) ∧
  exec (.watchdogService (if s.ranger.wdAlt then 0xA5A5 else 0x5A5A)) s
    = .next { s with ranger := { s.ranger with wdAlt := !s.ranger.wdAlt, wdServed := s.core.cycle } } ∧
  (s.coreRuns = true → s.passed s.ranger.wdServed (s.cfg 0x8802 2) = true → Gives .watchdogExpired s fun t => t.power.restartPending = some (1, 0xFFFF) ∧
    t.ranger.wdExpired = true ∧ t.ranger.wdExpiries = inc32 s.ranger.wdExpiries ∧
    (s.inPair = true → t.fe.kp.coil = .off ∧ t.fe.kn.coil = .off ∧ t.ring.originating = false)) ∧
  (∀ n, n ≤ 6 → (s.injector n).state = 1 → s.since (s.injector n).start < 2 ^ 31 → Gives (.provokedFaultStart n) s fun t =>
    (t.injector n).state = if s.mayInject then 2 else 4) ∧
  (∀ n, n ≤ 6 → (s.injector n).state = 2 → s.injectCfg n 11 ≤ s.since (s.injector n).start → s.since (s.injector n).start < 2 ^ 31 →
    (s.injector n).heldFrames = [] → Gives (.provokedFaultEnd n) s fun t => (t.injector n).state = 3) ∧
  (∀ r, s.tallyWrites = true → s.tally.q25 = [r] → s.tally.lost = 0 → Gives .tallyWrite s fun t => t.tally.q25 = [] ∧ t.tally.seq = (s.tally.seq + 1) % 2 ^ 32) ∧
  (∀ a1 a2 bus v strap ok, s.core.opState = .off → 18000 ≤ a1 → Gives (.supplyPresent a1 a2 bus v strap ok) s fun t => t.core.opState = .boot ∧
    t.power.good = true ∧ t.power.powerCycles = add32 s.power.powerCycles 1 ∧ t.power.onBackup = false) ∧
  (s.core.opState = .boot → s.booted = true → s.pair.role = .single ∨ s.pair.role = .active → Gives .bootComplete s fun t =>
    t.core.opState = if s.core.lockoutLatched then .lockout else .isolated) ∧
  (∀ v fault, s.power.good = true → s.power.lost = false → s.power.changeover = none → Gives (.sourceLoss v fault) s fun t => t.power.vHvb = v ∧
    (150 ≤ v → fault = false → s.power.onBackup = false → t.power.changeover = some s.core.cycle ∧ t.power.lost = false ∧ t.fe.kp.coil ≠ .pullIn ∧
      t.fe.kn.coil ≠ .pullIn) ∧
    (v < 150 ∨ fault = true ∨ s.power.onBackup = true → t.power.changeover = none ∧ t.power.lost = true)) ∧
  (∀ bus c, s.power.good = true → s.power.changeover = some c → Gives (.backupRegulating bus) s fun t => t.power.onBackup = true ∧ t.power.changeover = none ∧
    t.power.bus = bus ∧ t.power.source = 3 ∧ t.power.changeovers = add32 s.power.changeovers 1) ∧
  (∀ a1 a2, s.power.good = true → s.power.onBackup = true → sourceOf a1 a2 ≠ 3 → Gives (.auxReturn a1 a2) s fun t => t.power.onBackup = false ∧
    t.power.source = sourceOf a1 a2 ∧ t.raised 0x070 0xC1 0 0 = false) ∧
  (s.power.good = true → s.power.lost = true → Gives .powerGoodFall s fun t => t.power.good = false ∧ t.power.branch.isSome = true ∧ t.storage.queue = [] ∧
    t.pd 2 = false ∧ t.ring.originating = false) ∧
  (s.power.good = false → s.core.opState ≠ .off → Gives .holdUpExpiry s fun t => t.core.opState = .off ∧ t.power.domains = 0 ∧ t.ring.originating = false) ∧
  (∀ ms, s.core.opState ≠ .off → Gives (.holdUpTest ms) s fun t => t.power.holdUp = ms ∧ t.raised 0x070 0xC4 0 0 = decide (ms < 200)) ∧
  (∀ d, d ≤ 12 → s.pd d = true → Gives (.powerDomainFault d) s fun t => t.pd d = false ∧ t.power.faulted.getLsbD d = true) ∧
  (∀ cause x, s.power.restartPending = some (cause, x) → s.core.opState ≠ .off → s.fb.trip.running = false → Gives .moduleRestart s fun t =>
    t.core.opState = .off ∧ t.power.restartPending = none ∧ t.power.restartCause = cause ∧ t.power.domains = 0) ∧
  (∀ hz, s.core.opState ≠ .off → s.core.opState ≠ .sleep → s.update.started = false → Gives (.clockCheck [] false hz) s fun t => ChangesOnly [.power] s t ∧
    t.power.rc = hz ∧ ∀ n, n < 10 → Tab.nat t.power.clockBad n = 0) ∧
  (∀ n x, 1 ≤ n → n ≤ 6 → s.pd 0 = true → (s.sensor n).broken = false → Gives (.temperatureSensorSample n x) s fun t => t.sensor n = { (s.sensor n).sample x with fast := (t.sensor n).fast } ∧
    (((s.sensor n).sample x).broken = true → t.raised 0x071 0xCA 5 n = true)) ∧
  (∀ z, (upFrom 1 3).find? (fun z => zoneField s.power.zones z = 3) = some z → s.power.shutDown = false → s.core.opState = .tripped → Gives .thermalShutDown s fun t =>
    t.power.shutDown = true ∧ t.power.thermalLatch = true ∧ t.power.latchZone = z ∧ t.pd 2 = false ∧ t.ring.originating = false) ∧
  (s.asleep = true →
    (∀ v i, Gives (.senseBurst v i) s fun t => t.fe.vStr = v ∧ t.fe.main = i ∧ Tab.find t.lookout.inputs 1 = some v ∧
      Tab.find t.lookout.inputs 2 = some (i.natAbs : Int)) ∧
    (∀ bus fire, exec (.ruleEvaluation [] bus fire) s = .next s) ∧
    (∀ codes bus fire x, x = (upFrom 0 32).foldl (evalRule codes) ([], codes.foldl (ownInput bus fire) s) →
      (∀ e, x.1.find? (fun e => e.2 = 2) = some e → Gives (.ruleEvaluation codes bus fire) s fun t => t.core.opState = .lockout ∧ t.lookout.wakeCause = 1) ∧
      (∀ e, x.1.find? (fun e => e.2 = 2) = none → x.1.find? (fun e => e.2 = 1) = some e → Gives (.ruleEvaluation codes bus fire) s fun t =>
        t.core.opState = .boot ∧ t.lookout.wakeCause = 1)) ∧
    (s.cfg 0x9050 2 ≠ 0 → (s.cfg 0x9050 3).testBit 0 = true → s.cfg 0x9050 2 ≤ s.lookout.slept → Gives .wakeTimer s fun t =>
      t.core.opState = .boot ∧ t.lookout.wakeCause = 2) ∧
    ((s.cfg 0x9050 3).testBit 1 = true → Gives .ppsInHold s fun t => t.core.opState = .boot ∧ t.lookout.wakeCause = 3) ∧
    ((s.cfg 0x9050 3).testBit 2 = true → Gives .canWakeUpPattern s fun t => t.core.opState = .boot ∧ t.lookout.wakeCause = 4) ∧
    (s.inPair = true → Gives .tetherLineEnergy s fun t => t.core.opState = .boot ∧ t.lookout.wakeCause = 5) ∧
    (s.power.good = true → 12288 ≤ (s.lookout.buffer.map TallyRec.size).foldl (· + ·) 0 → Gives .logFlush s fun t => t.lookout.buffer = [] ∧
      t.core = s.core)) ∧
  (s.pollsRing = true →
    (∀ p n, s.cfg 0x2012 3 ≠ 0 → Gives (.insulationBurst p n) s fun t => t.fe.rIso = insulationResult p n (s.unitsIn * (2 + s.notOpen)) ∧
      Tab.find t.lookout.inputs 3 = some (t.fe.rIso : Int)) ∧
    (∀ cells points changed n, Gives (.ringPoll cells points changed n) s fun t => t.core.cycle = s.ahead n ∧
      t.lookout.changedHeads = s.lookout.changedHeads ++ changed ∧
      (∀ c l, cells = c :: l → Tab.find t.lookout.inputs 4 = some ((l.map fun e => e.2.1).foldl max c.2.1) ∧
        Tab.find t.lookout.inputs 5 = some ((l.map fun e => e.2.1).foldl min c.2.1)))) ∧
  (s.seat.state ≠ 2 → Gives .seatDetect s fun t => t.seat = { s.seat with state := 2, insertions := add32 s.seat.insertions 1 }) ∧
  (s.seat.state = 2 → s.power.good = true → exec .seatDetectOpening s = .next { s with
    seat := { s.seat with state := 0, noWait := true }, power := { s.power with lost := true, changeover := none, backupAvail := false } }) ∧
  (∀ n mV, n = 1 ∨ n = 2 → Gives (.auxInputOutOfRange n mV) s fun t => (if n = 1 then t.power.aux1 else t.power.aux2) = mV ∧
    (18000 ≤ mV → mV ≤ 32000 → t.raised 0x070 0xC0 5 n = false) ∧
    (mV < 18000 ∨ 32000 < mV → s.power.good = true → s.power.onBackup = true → t.raised 0x070 0xC0 5 n = true)) ∧
  (1032 ≤ s.storage.log.length → s.storageOk = true → Gives .logRefresh s fun t => t.storage.log = [] ∧
    t.storage.persisted = applyLog s.storage.persisted s.storage.log) ∧
  (s.storageOk = true →
    (∀ n, n ≤ 6 → Gives (.storageUnitFailure true n) s fun t => t.storage.state = 1 ∧ n ∈ t.storage.readErrors ∧ t.raised 0x078 0xE2 5 n = true) ∧
    (∀ n, n < 2048 → s.cruiser.retired.contains (s.physical n) = false → Gives (.storageUnitFailure false n) s fun t =>
      t.cruiser.retired = s.physical n :: s.cruiser.retired ∧ t.cruiser.spare = s.cruiser.spare - 1)) ∧
  (∀ type number p body other i, processorOf type number = some p → p ≤ 8 → s.stepBoots p = true → verifyImage s.stepBank (imageType p) body s = some i → Gives (.imageVerification type number body other) s fun t =>
    Tab.at t.update.images p {} = { version := i.version, gen := i.gen, bank := s.stepBank, measure := i.measure }) ∧
  (s.updateRuns = true → s.update.started = false → s.update.paused = false → s.update.ha = none → s.stepState = true → s.power.onBackup = false →
    s.handingOver = false → s.storageOk = true →
    (∀ i, s.findStep s.update.next = some i → (2 ≤ i → i ≤ 9 → s.laneOut = false) → Gives .updateStep s fun t => t.update.step = i ∧ t.update.next = i ∧
      t.update.started = true) ∧
    (s.findStep s.update.next = none → s.update.reverse = false → Gives .updateStep s fun t => t.update.step = 12 ∧ t.update.next = 0 ∧
      t.update.confirmFrom = some s.power.opTime)) ∧
  (s.update.started = true →
    (∀ code, Gives (.updateStepComplete s.update.step false code) s (fun t => t.update.started = false ∧ t.update.paused = true ∧ t.update.step = 15 ∧
      t.update.last = BitVec.ofNat 32 code ∧ t.raised 0x079 0xE6 5 s.update.step = true)) ∧
    (s.stepRejected = false → s.stepDone = true → Gives (.updateStepComplete s.update.step true 0) s fun t => t.update.started = false ∧ t.update.coreReady = false)) ∧
  (s.update.started = true → s.update.step = 11 → s.update.coreReady = true → s.update.hc = s.core.cycle → s.update.handArea = some s.core.cycle →
    Gives .coreHandOver s fun t => ChangesOnly [.update] s t ∧ t.update.core1 = !s.update.core1 ∧ t.update.idleLoaded = true ∧ t.update.handArea = none) ∧
  (∀ c, s.update.confirmFrom = some c → s.cfg 0x9830 6 ≠ 0 → c + s.cfg 0x9830 6 * 3600000 ≤ s.power.opTime → s.updateRuns = false → s.update.reverse = false →
    Gives .confirmationPeriodExpiry s fun t => t.update.confirmFrom = none ∧ t.update.kept = [] ∧ t.update.step = 13) ∧
  (∀ r q, s.storage.queue = r :: q → s.power.good = true → s.pd 1 = true →
    (∀ n, r.slot = some n → n ≠ 532 → Gives (.journalWrite 0) s fun t => ChangesOnly [.storage] s t ∧ t.storage.queue = q ∧ t.storage.seq = s.storage.seq + 1 ∧
      t.fixedSlot n = (s.fixedSlot n).write { valid := true, seq := s.storage.seq + 1, kind := r.kind, format := s.coreImage.writes 5, payload := r.payload }) ∧
    (r.slot = none → s.storage.log.length < 1376 → r.late = false → Gives (.journalWrite 0) s fun t => t.storage.queue = q ∧ t.storage.seq = s.storage.seq + 1 ∧
      t.storage.log = s.storage.log ++ [{ r with seq := s.storage.seq + 1, format := s.coreImage.writes 5, release := none }]))
end

