-- ==== Sys2Proof/Laws/Keeps.lean ====
section
/-! SUPPORT. What every operation of the model keeps, said once: `Keeps A r s` says that s came from r by steps that leave the queue of waiting
commands, the boundary's snapshot and the serial number alone, keep every queue within its size (`Bounded`), and change no part outside A. One
lemma per operation follows in Keeps1 to Keeps12, in the order of the machine's files. -/

namespace Sys2Proof.Machine

set_option Elab.async false

open Sys2Proof

structure Keeps (A : Part → Bool) (r s : State) : Prop where
  pending : s.pending = r.pending
  boundary : s.boundary = r.boundary
  serial : s.sec.serial = r.sec.serial
  bounded : Bounded r → Bounded s
  parts : SameBut A r.toBody s.toBody

@[simp] theorem SameBut.refl (A : Part → Bool) (s : Body) : SameBut A s s := by simp [SameBut]

theorem or_eq_trans {α : Type} {p : Prop} {a b c : α} (h : p ∨ b = a) (h' : p ∨ c = b) : p ∨ c = a := by
  rcases h with h | h
  · exact .inl h
  · rcases h' with h' | h'
    · exact .inl h'
    · exact .inr (h'.trans h)

theorem SameBut.trans {A : Part → Bool} {a b c : Body} (h : SameBut A a b) (h' : SameBut A b c) : SameBut A a c := by
  obtain ⟨h0, h1, h2, h3, h4, h5, h6, h7, h8, h9, h10, h11, h12, h13, h14, h15, h16, h17, h18, h19, h20, h21, h22, h23, h24, h25, h26, h27⟩ := h
  obtain ⟨k0, k1, k2, k3, k4, k5, k6, k7, k8, k9, k10, k11, k12, k13, k14, k15, k16, k17, k18, k19, k20, k21, k22, k23, k24, k25, k26, k27⟩ := h'
  exact ⟨or_eq_trans h0 k0, or_eq_trans h1 k1, or_eq_trans h2 k2, or_eq_trans h3 k3, or_eq_trans h4 k4, or_eq_trans h5 k5, or_eq_trans h6 k6, or_eq_trans h7 k7, or_eq_trans h8 k8, or_eq_trans h9 k9, or_eq_trans h10 k10, or_eq_trans h11 k11, or_eq_trans h12 k12, or_eq_trans h13 k13, or_eq_trans h14 k14, or_eq_trans h15 k15, or_eq_trans h16 k16, or_eq_trans h17 k17, or_eq_trans h18 k18, or_eq_trans h19 k19, or_eq_trans h20 k20, or_eq_trans h21 k21, or_eq_trans h22 k22, or_eq_trans h23 k23, or_eq_trans h24 k24, or_eq_trans h25 k25, or_eq_trans h26 k26, or_eq_trans h27 k27⟩

theorem Keeps.refl (A : Part → Bool) (s : State) : Keeps A s s := ⟨rfl, rfl, rfl, id, .refl _ _⟩

theorem Keeps.of_parts {A : Part → Bool} {r s t : State} (h : Keeps A r s) (hp : SameBut A s.toBody t.toBody) (h1 : t.pending = s.pending)
    (h2 : t.boundary = s.boundary) (h3 : t.sec.serial = s.sec.serial) (hb : Bounded s → Bounded t) : Keeps A r t :=
  ⟨h1.trans h.pending, h2.trans h.boundary, h3.trans h.serial, fun b => hb (h.bounded b), h.parts.trans hp⟩

abbrev SameLists (s t : Body) : Prop :=
  t.sec.serial = s.sec.serial ∧ t.ranger.q24 = s.ranger.q24 ∧ t.ranger.last16 = s.ranger.last16 ∧ t.storage.landing = s.storage.landing ∧
  t.storage.checkpoints = s.storage.checkpoints ∧ t.pair.images = s.pair.images ∧ t.pair.rawBuf = s.pair.rawBuf ∧
  t.pair.sentFrames = s.pair.sentFrames ∧ t.ranger.active = s.ranger.active ∧ t.tally.keep = s.tally.keep ∧ t.tally.circ = s.tally.circ ∧ t.tally.q25 = s.tally.q25

theorem Keeps.of_eq {A : Part → Bool} {r s t : State} (h : Keeps A r s) (hp : SameBut A s.toBody t.toBody) (h1 : t.pending = s.pending)
    (h2 : t.boundary = s.boundary) (hl : SameLists s.toBody t.toBody) : Keeps A r t :=
  h.of_parts hp h1 h2 hl.1 fun c => by
    obtain ⟨-, h4, h5, h6, h7, h8, h9, h10, h11, h12, h13, h14⟩ := hl
    exact ⟨h4 ▸ c.q24, h11 ▸ c.active, h5 ▸ c.last16, h6 ▸ c.landing, h7 ▸ c.checkpoints, h8 ▸ c.images, h9 ▸ c.rawBuf, h10 ▸ c.sentFrames, h12 ▸ c.keep, h13 ▸ c.circ, h14 ▸ c.q25⟩

@[simp ↓] theorem keeps_mk {A : Part → Bool} {r s : State} {b : Body} {f : Nat} (h : Keeps A r s) (hp : SameBut A s.toBody b) (hl : SameLists s.toBody b) :
    Keeps A r (State.mk b s.boundary f s.pending) := h.of_eq hp rfl rfl hl

/-! One part replaced. -/

theorem keeps_ring {A : Part → Bool} {r s : State} (h : Keeps A r s) (p : A .ring = true) (x : Ring) : Keeps A r { s with ring := x } :=
  keeps_mk h (by simp [SameBut, p]) (by simp [SameLists])

theorem keeps_tap {A : Part → Bool} {r s : State} (h : Keeps A r s) (p : A .tap = true) (x : TapMon) : Keeps A r { s with tap := x } :=
  keeps_mk h (by simp [SameBut, p]) (by simp [SameLists])

theorem keeps_cruiser {A : Part → Bool} {r s : State} (h : Keeps A r s) (p : A .cruiser = true) (x : Cruiser) : Keeps A r { s with cruiser := x } :=
  keeps_mk h (by simp [SameBut, p]) (by simp [SameLists])

theorem keeps_sawyer {A : Part → Bool} {r s : State} (h : Keeps A r s) (p : A .sawyer = true) (x : Sawyer) : Keeps A r { s with sawyer := x } :=
  keeps_mk h (by simp [SameBut, p]) (by simp [SameLists])

theorem keeps_power {A : Part → Bool} {r s : State} (h : Keeps A r s) (p : A .power = true) (x : Power) : Keeps A r { s with power := x } :=
  keeps_mk h (by simp [SameBut, p]) (by simp [SameLists])

theorem keeps_ready {A : Part → Bool} {r s : State} (h : Keeps A r s) (p : A .pair = true) (x : BitVec 8) : Keeps A r { s with pair := { s.pair with ready := x } } :=
  keeps_mk h (by simp [SameBut, p]) (by simp [SameLists])

@[simp ↓] theorem keeps_ite {A : Part → Bool} {r a b : State} {c : Prop} [Decidable c] (h : Keeps A r a) (h' : Keeps A r b) : Keeps A r (if c then a else b) := by
  split <;> assumption

@[simp ↓] theorem keeps_foldl {A : Part → Bool} {r s : State} {α : Type} {f : State → α → State} {xs : List α} (hf : ∀ x a, Keeps A r x → Keeps A r (f x a))
    (h : Keeps A r s) : Keeps A r (xs.foldl f s) := by
  induction xs generalizing s with
  | nil => exact h
  | cons a t ih => exact ih (hf s a h)

def OutKeeps (A : Part → Bool) (r : State) (o : Out) : Prop := ∃ t, o = .next t ∧ Keeps A r t

@[simp ↓] theorem outKeeps_next {A : Part → Bool} {r t : State} (h : Keeps A r t) : OutKeeps A r (.next t) := ⟨t, rfl, h⟩

@[simp ↓] theorem outKeeps_ite {A : Part → Bool} {r : State} {a b : Out} {c : Prop} [Decidable c] (h : OutKeeps A r a) (h' : OutKeeps A r b) :
    OutKeeps A r (if c then a else b) := by
  split <;> assumption

theorem Keeps.changesOnly {l : List Part} {s t : State} (h : Keeps (fun p => l.contains p) s t) : ChangesOnly l s t :=
  ⟨h.parts, h.pending, h.boundary⟩

theorem ChangesOnly.trans {l : List Part} {a b c : State} (h : ChangesOnly l a b) (h' : ChangesOnly l b c) : ChangesOnly l a c :=
  ⟨h.1.trans h'.1, h'.2.1.trans h.2.1, h'.2.2.trans h.2.2⟩

/-! What a `Keeps` says of one part outside A. -/

theorem Keeps.core_eq {A : Part → Bool} {r s : State} (h : Keeps A r s) (ha : A .core = false := by rfl) : s.core = r.core := by
  simpa [ha] using h.parts.1

theorem Keeps.ring_eq {A : Part → Bool} {r s : State} (h : Keeps A r s) (ha : A .ring = false := by rfl) : s.ring = r.ring := by
  simpa [ha] using h.parts.2.1

theorem Keeps.heads_eq {A : Part → Bool} {r s : State} (h : Keeps A r s) (ha : A .heads = false := by rfl) : s.heads = r.heads := by
  simpa [ha] using h.parts.2.2.1

theorem Keeps.tap_eq {A : Part → Bool} {r s : State} (h : Keeps A r s) (ha : A .tap = false := by rfl) : s.tap = r.tap := by
  simpa [ha] using h.parts.2.2.2.1

theorem Keeps.fe_eq {A : Part → Bool} {r s : State} (h : Keeps A r s) (ha : A .fe = false := by rfl) : s.fe = r.fe := by
  simpa [ha] using h.parts.2.2.2.2.1

theorem Keeps.cells_eq {A : Part → Bool} {r s : State} (h : Keeps A r s) (ha : A .cells = false := by rfl) : s.cells = r.cells := by
  simpa [ha] using h.parts.2.2.2.2.2.1

theorem Keeps.points_eq {A : Part → Bool} {r s : State} (h : Keeps A r s) (ha : A .points = false := by rfl) : s.points = r.points := by
  simpa [ha] using h.parts.2.2.2.2.2.2.1

theorem Keeps.scaler_eq {A : Part → Bool} {r s : State} (h : Keeps A r s) (ha : A .scaler = false := by rfl) : s.scaler = r.scaler := by
  simpa [ha] using h.parts.2.2.2.2.2.2.2.1

theorem Keeps.cruiser_eq {A : Part → Bool} {r s : State} (h : Keeps A r s) (ha : A .cruiser = false := by rfl) : s.cruiser = r.cruiser := by
  simpa [ha] using h.parts.2.2.2.2.2.2.2.2.1

theorem Keeps.borer_eq {A : Part → Bool} {r s : State} (h : Keeps A r s) (ha : A .borer = false := by rfl) : s.borer = r.borer := by
  simpa [ha] using h.parts.2.2.2.2.2.2.2.2.2.1

theorem Keeps.thin_eq {A : Part → Bool} {r s : State} (h : Keeps A r s) (ha : A .thin = false := by rfl) : s.thin = r.thin := by
  simpa [ha] using h.parts.2.2.2.2.2.2.2.2.2.2.1

theorem Keeps.fb_eq {A : Part → Bool} {r s : State} (h : Keeps A r s) (ha : A .fb = false := by rfl) : s.fb = r.fb := by
  simpa [ha] using h.parts.2.2.2.2.2.2.2.2.2.2.2.1

theorem Keeps.sawyer_eq {A : Part → Bool} {r s : State} (h : Keeps A r s) (ha : A .sawyer = false := by rfl) : s.sawyer = r.sawyer := by
  simpa [ha] using h.parts.2.2.2.2.2.2.2.2.2.2.2.2.1

theorem Keeps.canopy_eq {A : Part → Bool} {r s : State} (h : Keeps A r s) (ha : A .canopy = false := by rfl) : s.canopy = r.canopy := by
  simpa [ha] using h.parts.2.2.2.2.2.2.2.2.2.2.2.2.2.1

theorem Keeps.axes_eq {A : Part → Bool} {r s : State} (h : Keeps A r s) (ha : A .axes = false := by rfl) : s.axes = r.axes := by
  simpa [ha] using h.parts.2.2.2.2.2.2.2.2.2.2.2.2.2.2.1

theorem Keeps.links_eq {A : Part → Bool} {r s : State} (h : Keeps A r s) (ha : A .links = false := by rfl) : s.links = r.links := by
  simpa [ha] using h.parts.2.2.2.2.2.2.2.2.2.2.2.2.2.2.2.1

theorem Keeps.clock_eq {A : Part → Bool} {r s : State} (h : Keeps A r s) (ha : A .clock = false := by rfl) : s.clock = r.clock := by
  simpa [ha] using h.parts.2.2.2.2.2.2.2.2.2.2.2.2.2.2.2.2.1

theorem Keeps.dict_eq {A : Part → Bool} {r s : State} (h : Keeps A r s) (ha : A .dict = false := by rfl) : s.dict = r.dict := by
  simpa [ha] using h.parts.2.2.2.2.2.2.2.2.2.2.2.2.2.2.2.2.2.1

theorem Keeps.sec_eq {A : Part → Bool} {r s : State} (h : Keeps A r s) (ha : A .sec = false := by rfl) : s.sec = r.sec := by
  simpa [ha] using h.parts.2.2.2.2.2.2.2.2.2.2.2.2.2.2.2.2.2.2.1

theorem Keeps.pair_eq {A : Part → Bool} {r s : State} (h : Keeps A r s) (ha : A .pair = false := by rfl) : s.pair = r.pair := by
  simpa [ha] using h.parts.2.2.2.2.2.2.2.2.2.2.2.2.2.2.2.2.2.2.2.1

theorem Keeps.ranger_eq {A : Part → Bool} {r s : State} (h : Keeps A r s) (ha : A .ranger = false := by rfl) : s.ranger = r.ranger := by
  simpa [ha] using h.parts.2.2.2.2.2.2.2.2.2.2.2.2.2.2.2.2.2.2.2.2.1

theorem Keeps.tally_eq {A : Part → Bool} {r s : State} (h : Keeps A r s) (ha : A .tally = false := by rfl) : s.tally = r.tally := by
  simpa [ha] using h.parts.2.2.2.2.2.2.2.2.2.2.2.2.2.2.2.2.2.2.2.2.2.1

theorem Keeps.inject_eq {A : Part → Bool} {r s : State} (h : Keeps A r s) (ha : A .inject = false := by rfl) : s.inject = r.inject := by
  simpa [ha] using h.parts.2.2.2.2.2.2.2.2.2.2.2.2.2.2.2.2.2.2.2.2.2.2.1

theorem Keeps.power_eq {A : Part → Bool} {r s : State} (h : Keeps A r s) (ha : A .power = false := by rfl) : s.power = r.power := by
  simpa [ha] using h.parts.2.2.2.2.2.2.2.2.2.2.2.2.2.2.2.2.2.2.2.2.2.2.2.1

theorem Keeps.lookout_eq {A : Part → Bool} {r s : State} (h : Keeps A r s) (ha : A .lookout = false := by rfl) : s.lookout = r.lookout := by
  simpa [ha] using h.parts.2.2.2.2.2.2.2.2.2.2.2.2.2.2.2.2.2.2.2.2.2.2.2.2.1

theorem Keeps.storage_eq {A : Part → Bool} {r s : State} (h : Keeps A r s) (ha : A .storage = false := by rfl) : s.storage = r.storage := by
  simpa [ha] using h.parts.2.2.2.2.2.2.2.2.2.2.2.2.2.2.2.2.2.2.2.2.2.2.2.2.2.1

theorem Keeps.update_eq {A : Part → Bool} {r s : State} (h : Keeps A r s) (ha : A .update = false := by rfl) : s.update = r.update := by
  simpa [ha] using h.parts.2.2.2.2.2.2.2.2.2.2.2.2.2.2.2.2.2.2.2.2.2.2.2.2.2.2.1

theorem Keeps.seat_eq {A : Part → Bool} {r s : State} (h : Keeps A r s) (ha : A .seat = false := by rfl) : s.seat = r.seat := by
  simpa [ha] using h.parts.2.2.2.2.2.2.2.2.2.2.2.2.2.2.2.2.2.2.2.2.2.2.2.2.2.2.2

end Sys2Proof.Machine
end

