-- ==== Sys2Proof/Laws/Keeps1.lean ====
section
/-! SUPPORT. What the operations of Ops.lean, Flags.lean, Coils.lean, RingOps.lean, OpStates.lean, RangerOps.lean, Points.lean, FirebreakOps.lean, TapOps.lean keep (see Keeps.lean): no part beyond those named as hypotheses changes. -/

namespace Sys2Proof.Machine

set_option Elab.async false

open Sys2Proof

set_option linter.unusedSimpArgs false
set_option linter.unusedVariables false
set_option linter.tactic.unusedName false

/-! ### Ops -/

@[simp ↓] theorem drawInt_keeps (s : State) {A : Part → Bool} {r0 : State} (h_s : Keeps A r0 s) : Keeps A r0 (drawInt s).2 := by simp [drawInt, SameBut, SameLists, *]

@[simp ↓] theorem drawBool_keeps (s : State) {A : Part → Bool} {r0 : State} (h_s : Keeps A r0 s) : Keeps A r0 (drawBool s).2 := by simp [drawBool, SameBut, SameLists, *]

@[simp ↓] theorem State.setVal_keeps (s : State) (key : Nat) (v : ObjVal) {A : Part → Bool} {r0 : State} (h_s : Keeps A r0 s)
    (p_dict : A .dict = true := by first | assumption | rfl) : Keeps A r0 (State.setVal s key v) := by simp [State.setVal, SameBut, SameLists, *]

@[simp ↓] theorem State.setNum_keeps (s : State) (idx sub : Nat) (v : Int) {A : Part → Bool} {r0 : State} (h_s : Keeps A r0 s)
    (p_dict : A .dict = true := by first | assumption | rfl) : Keeps A r0 (State.setNum s idx sub v) := by simp [State.setNum, *]

@[simp ↓] theorem State.send_keeps (s : State) (m : FaultMsg) {A : Part → Bool} {r0 : State} (h_s : Keeps A r0 s)
    (p_ranger : A .ranger = true := by first | assumption | rfl) : Keeps A r0 (State.send s m) := by simp [State.send, SameBut, SameLists, *]

@[simp ↓] theorem State.report_keeps (s : State) (source kind : Nat) (sev : Sev) (cls val : Nat) {A : Part → Bool} {r0 : State} (h_s : Keeps A r0 s)
    (p_ranger : A .ranger = true := by first | assumption | rfl) : Keeps A r0 (State.report s source kind sev cls val) := by simp [State.report, *]

@[simp ↓] theorem State.reportInj_keeps (s : State) (inj : Bool) (source kind : Nat) (sev : Sev) (cls val : Nat) {A : Part → Bool} {r0 : State} (h_s : Keeps A r0 s)
    (p_ranger : A .ranger = true := by first | assumption | rfl) : Keeps A r0 (State.reportInj s inj source kind sev cls val) := by simp [State.reportInj, *]

@[simp ↓] theorem State.clearFault_keeps (s : State) (source kind cls val : Nat) {A : Part → Bool} {r0 : State} (h_s : Keeps A r0 s)
    (p_ranger : A .ranger = true := by first | assumption | rfl) : Keeps A r0 (State.clearFault s source kind cls val) := by simp [State.clearFault, *]

@[simp ↓] theorem State.raiseOnce_keeps (s : State) (source kind : Nat) (sev : Sev) (cls val : Nat) {A : Part → Bool} {r0 : State} (h_s : Keeps A r0 s)
    (p_ranger : A .ranger = true := by first | assumption | rfl) : Keeps A r0 (State.raiseOnce s source kind sev cls val) := by simp [State.raiseOnce, *]

@[simp ↓] theorem State.clearOnce_keeps (s : State) (source kind cls val : Nat) {A : Part → Bool} {r0 : State} (h_s : Keeps A r0 s)
    (p_ranger : A .ranger = true := by first | assumption | rfl) : Keeps A r0 (State.clearOnce s source kind cls val) := by simp [State.clearOnce, *]

@[simp ↓] theorem missStream_keeps (source value : Nat) (s : State) {A : Part → Bool} {r0 : State} (h_s : Keeps A r0 s)
    (p_core : A .core = true := by first | assumption | rfl) (p_ranger : A .ranger = true := by first | assumption | rfl)
    : Keeps A r0 (missStream source value s) := by
  unfold missStream
  repeat' first
    | (simp +contextual (maxDischargeDepth := 60) [SameBut, SameLists, *]; done)
    | (rename_i e; have e := congrArg Prod.snd e; dsimp only at e; subst e)
    | split
    | (refine keeps_foldl (fun _ _ _ => ?_) ?_)
    | dsimp only

@[simp ↓] theorem State.tallyFlags_keeps (s : State) (flags kind : Nat) (body : Bytes) {A : Part → Bool} {r0 : State} (h : Keeps A r0 s)
    (p_tally : A .tally = true := by first | assumption | rfl) :
    Keeps A r0 (State.tallyFlags s flags kind body) := by
  unfold State.tallyFlags
  dsimp only
  split
  · refine h.of_parts (by simp [SameBut, *]) rfl rfl rfl fun c => ?_
    refine { c with q25 := ?_ }
    simp only [List.length_append, List.length_cons, List.length_nil]
    omega
  · exact h.of_eq (by simp [SameBut, *]) rfl rfl (by simp [SameLists])

@[simp ↓] theorem State.tell_keeps (s : State) (kind : Nat) (body : Bytes) {A : Part → Bool} {r0 : State} (h_s : Keeps A r0 s)
    (p_tally : A .tally = true := by first | assumption | rfl) : Keeps A r0 (State.tell s kind body) := by simp [State.tell, *]

@[simp ↓] theorem State.tellEvent_keeps (s : State) (kind event subject : Nat) (items : Bytes) {A : Part → Bool} {r0 : State} (h_s : Keeps A r0 s) (p_tally : A .tally = true := by first | assumption | rfl) : Keeps A r0 (State.tellEvent s kind event subject items) := by simp [State.tellEvent, *]

@[simp ↓] theorem State.journal_keeps (s : State) (slot kind : Nat) (payload : Bytes) {A : Part → Bool} {r0 : State} (h_s : Keeps A r0 s)
    (p_storage : A .storage = true := by first | assumption | rfl) : Keeps A r0 (State.journal s slot kind payload) := by simp [State.journal, SameBut, SameLists, *]

@[simp ↓] theorem State.answer_keeps (s : State) (r : Response) {A : Part → Bool} {r0 : State} (h_s : Keeps A r0 s)
    (p_dict : A .dict = true := by first | assumption | rfl) : Keeps A r0 (State.answer s r) := by simp [State.answer, SameBut, SameLists, *]

@[simp ↓] theorem State.replyAt_keeps (s : State) (session req type abort : Nat) (cyc : Cycle) {A : Part → Bool} {r0 : State} (h_s : Keeps A r0 s) (p_dict : A .dict = true := by first | assumption | rfl) : Keeps A r0 (State.replyAt s session req type abort cyc) := by simp [State.replyAt, *]

@[simp ↓] theorem State.reply_keeps (s : State) (session req type abort : Nat) {A : Part → Bool} {r0 : State} (h_s : Keeps A r0 s)
    (p_dict : A .dict = true := by first | assumption | rfl) : Keeps A r0 (State.reply s session req type abort) := by simp [State.reply, *]

@[simp ↓] theorem State.modSession_keeps (s : State) (n : Nat) (f : Session → Session) {A : Part → Bool} {r0 : State} (h_s : Keeps A r0 s)
    (p_dict : A .dict = true := by first | assumption | rfl) : Keeps A r0 (State.modSession s n f) := by simp [State.modSession, SameBut, SameLists, *]

@[simp ↓] theorem State.modCell_keeps (s : State) (k : Nat) (f : CellState → CellState) {A : Part → Bool} {r0 : State} (h_s : Keeps A r0 s)
    (p_cells : A .cells = true := by first | assumption | rfl) : Keeps A r0 (State.modCell s k f) := by simp [State.modCell, SameBut, SameLists, *]

/-! ### Flags -/

@[simp ↓] theorem State.setFe_keeps (s : State) (i : Nat) (v : Bool) {A : Part → Bool} {r0 : State} (h_s : Keeps A r0 s)
    (p_fe : A .fe = true := by first | assumption | rfl) : Keeps A r0 (State.setFe s i v) := by simp [State.setFe, SameBut, SameLists, *]

@[simp ↓] theorem State.setCellFlag_keeps (s : State) (k i : Nat) (v : Bool) {A : Part → Bool} {r0 : State} (h_s : Keeps A r0 s)
    (p_cells : A .cells = true := by first | assumption | rfl) : Keeps A r0 (State.setCellFlag s k i v) := by simp [State.setCellFlag, *]

@[simp ↓] theorem State.setCause_keeps (s : State) (i : Nat) (v : Bool) {A : Part → Bool} {r0 : State} (h_s : Keeps A r0 s)
    (p_fb : A .fb = true := by first | assumption | rfl) : Keeps A r0 (State.setCause s i v) := by simp [State.setCause, SameBut, SameLists, *]

@[simp ↓] theorem State.setDomains_keeps (s : State) (l : List Nat) (v : Bool) {A : Part → Bool} {r0 : State} (h_s : Keeps A r0 s)
    (p_power : A .power = true := by first | assumption | rfl) : Keeps A r0 (State.setDomains s l v) := by simp [State.setDomains, SameBut, SameLists, *]

/-! ### Coils -/

@[simp ↓] theorem State.modContactor_keeps (s : State) (k : Nat) (f : Contactor → Contactor) {A : Part → Bool} {r0 : State} (h_s : Keeps A r0 s)
    (p_fe : A .fe = true := by first | assumption | rfl) : Keeps A r0 (State.modContactor s k f) := by simp [State.modContactor, SameBut, SameLists, *]

@[simp ↓] theorem pullIn_keeps (k : Nat) (s : State) {A : Part → Bool} {r0 : State} (h_s : Keeps A r0 s)
    (p_fe : A .fe = true := by first | assumption | rfl) : Keeps A r0 (pullIn k s) := by simp [pullIn, *]

@[simp ↓] theorem releaseCoils_keeps (open_ : Bool) (s : State) {A : Part → Bool} {r0 : State} (h_s : Keeps A r0 s)
    (p_fe : A .fe = true := by first | assumption | rfl) : Keeps A r0 (releaseCoils open_ s) := by simp [releaseCoils, SameBut, SameLists, *]

@[simp ↓] theorem closeLowSides_keeps (s : State) {A : Part → Bool} {r0 : State} (h_s : Keeps A r0 s)
    (p_fe : A .fe = true := by first | assumption | rfl) : Keeps A r0 (closeLowSides s) := by simp [closeLowSides, SameBut, SameLists, *]

@[simp ↓] theorem openLowSides_keeps (s : State) {A : Part → Bool} {r0 : State} (h_s : Keeps A r0 s)
    (p_fe : A .fe = true := by first | assumption | rfl) : Keeps A r0 (openLowSides s) := by simp [openLowSides, SameBut, SameLists, *]

@[simp ↓] theorem startTripWait_keeps (wait : Nat) (firebreak : Bool) (s : State) {A : Part → Bool} {r0 : State} (h_s : Keeps A r0 s)
    (p_fe : A .fe = true := by first | assumption | rfl) (p_fb : A .fb = true := by first | assumption | rfl) : Keeps A r0 (startTripWait wait firebreak s) := by
  unfold startTripWait
  split <;> simp (maxDischargeDepth := 60) [SameBut, SameLists, *]

@[simp ↓] theorem startTrip_keeps (firebreak : Bool) (s : State) {A : Part → Bool} {r0 : State} (h_s : Keeps A r0 s)
    (p_fe : A .fe = true := by first | assumption | rfl) (p_fb : A .fb = true := by first | assumption | rfl) : Keeps A r0 (startTrip firebreak s) := by simp [startTrip, *]

@[simp ↓] theorem fbCause_keeps (i subj : Nat) (s : State) {A : Part → Bool} {r0 : State} (h_s : Keeps A r0 s)
    (p_fe : A .fe = true := by first | assumption | rfl)
    (p_fb : A .fb = true := by first | assumption | rfl) : Keeps A r0 (fbCause i subj s) := by simp (maxDischargeDepth := 60) [fbCause, SameBut, SameLists, *]

/-! ### RingOps -/

@[simp ↓] theorem State.modInfo_keeps (s : State) (p : Nat) (f : HeadInfo → HeadInfo) {A : Part → Bool} {r0 : State} (h_s : Keeps A r0 s)
    (p_ring : A .ring = true := by first | assumption | rfl)
    (p_heads : A .heads = true := by first | assumption | rfl) : Keeps A r0 (State.modInfo s p f) := by simp [State.modInfo, SameBut, SameLists, *]

@[simp ↓] theorem State.count_keeps (s : State) (port row n : Nat) {A : Part → Bool} {r0 : State} (h_s : Keeps A r0 s)
    (p_ring : A .ring = true := by first | assumption | rfl) : Keeps A r0 (State.count s port row n) := by simp [State.count, SameBut, SameLists, *]

@[simp ↓] theorem enqueue_keeps (urgent : Bool) (c : RingCmd) (s : State) {A : Part → Bool} {r0 : State} (h_s : Keeps A r0 s)
    (p_ring : A .ring = true := by first | assumption | rfl) : Keeps A r0 (enqueue urgent c s) := by simp (maxDischargeDepth := 60) [enqueue, SameBut, SameLists, *]

@[simp ↓] theorem State.command_keeps (s : State) (urgent : Bool) (p op : Nat) (payload : Bytes) {A : Part → Bool} {r0 : State} (h_s : Keeps A r0 s)
    (p_ring : A .ring = true := by first | assumption | rfl) : Keeps A r0 (State.command s urgent p op payload) := by simp [State.command, *]

@[simp ↓] theorem broadcastBleedOff_keeps (s : State) {A : Part → Bool} {r0 : State} (h_s : Keeps A r0 s)
    (p_ring : A .ring = true := by first | assumption | rfl) : Keeps A r0 (broadcastBleedOff s) := by simp (maxDischargeDepth := 60) [broadcastBleedOff, SameBut, SameLists, *]

@[simp ↓] theorem State.modThin_keeps (s : State) (p : Nat) (f : ThinHead → ThinHead) {A : Part → Bool} {r0 : State} (h_s : Keeps A r0 s)
    (p_heads : A .heads = true := by first | assumption | rfl)
    (p_thin : A .thin = true := by first | assumption | rfl) : Keeps A r0 (State.modThin s p f) := by simp [State.modThin, SameBut, SameLists, *]

@[simp ↓] theorem withdrawBleed_keeps (s : State) {A : Part → Bool} {r0 : State} (h_s : Keeps A r0 s) (p_ring : A .ring = true := by first | assumption | rfl)
    (p_heads : A .heads = true := by first | assumption | rfl) (p_thin : A .thin = true := by first | assumption | rfl)
    (p_power : A .power = true := by first | assumption | rfl) : Keeps A r0 (withdrawBleed s) := by simp [withdrawBleed, SameBut, SameLists, *]

@[simp ↓] theorem setRing_keeps (st : RingState) (s : State) {A : Part → Bool} {r0 : State} (h_s : Keeps A r0 s)
    (p_ring : A .ring = true := by first | assumption | rfl) : Keeps A r0 (setRing st s) := by
  unfold setRing
  (repeat' split) <;> simp [SameBut, SameLists, *]

@[simp ↓] theorem assignHeads_keeps (side : Nat → Nat) (s : State) {A : Part → Bool} {r0 : State} (h_s : Keeps A r0 s)
    (p_ring : A .ring = true := by first | assumption | rfl) (p_heads : A .heads = true := by first | assumption | rfl)
    : Keeps A r0 (assignHeads side s) := by
  unfold assignHeads
  repeat' first
    | (simp +contextual (maxDischargeDepth := 60) [SameBut, SameLists, *]; done)
    | (rename_i e; have e := congrArg Prod.snd e; dsimp only at e; subst e)
    | split
    | (refine keeps_foldl (fun _ _ _ => ?_) ?_)
    | dsimp only

@[simp ↓] theorem relayHops_keeps (s : State) {A : Part → Bool} {r0 : State} (h_s : Keeps A r0 s)
    (p_ring : A .ring = true := by first | assumption | rfl) (p_heads : A .heads = true := by first | assumption | rfl) : Keeps A r0 (relayHops s) := by
  unfold relayHops
  repeat' first
    | (simp +contextual (maxDischargeDepth := 60) [SameBut, SameLists, *]; done)
    | (rename_i e; have e := congrArg Prod.snd e; dsimp only at e; subst e)
    | split
    | (refine keeps_foldl (fun _ _ _ => ?_) ?_)
    | dsimp only

@[simp ↓] theorem gatherQueues_keeps (port : Nat) (s : State) {A : Part → Bool} {r0 : State} (h_s : Keeps A r0 s)
    (p_ring : A .ring = true := by first | assumption | rfl) : Keeps A r0 (gatherQueues port s) := by
  unfold gatherQueues
  repeat' first
    | (simp +contextual (maxDischargeDepth := 60) [SameBut, SameLists, *]; done)
    | (rename_i e; have e := congrArg Prod.snd e; dsimp only at e; subst e)
    | split
    | (refine keeps_foldl (fun _ _ _ => ?_) ?_)
    | dsimp only

@[simp ↓] theorem fenceRing_keeps (unit : Nat) (s : State) {A : Part → Bool} {r0 : State} (h_s : Keeps A r0 s)
    (p_ring : A .ring = true := by first | assumption | rfl) (p_heads : A .heads = true := by first | assumption | rfl)
    (p_cruiser : A .cruiser = true := by first | assumption | rfl) (p_ranger : A .ranger = true := by first | assumption | rfl)
    : Keeps A r0 (fenceRing unit s) := by
  unfold fenceRing
  repeat' first
    | (simp +contextual (maxDischargeDepth := 60) [SameBut, SameLists, *]; done)
    | (rename_i e; have e := congrArg Prod.snd e; dsimp only at e; subst e)
    | split
    | (refine keeps_foldl (fun _ _ _ => ?_) ?_)
    | dsimp only

/-! ### OpStates -/

@[simp ↓] theorem reWhistle_keeps (s : State) {A : Part → Bool} {r0 : State} (h_s : Keeps A r0 s)
    (p_ranger : A .ranger = true := by first | assumption | rfl) : Keeps A r0 (reWhistle s) := by simp [reWhistle, SameBut, SameLists, *]

@[simp ↓] theorem releaseTrip_keeps (s : State) {A : Part → Bool} {r0 : State} (h_s : Keeps A r0 s) (p_fe : A .fe = true := by first | assumption | rfl)
    (p_fb : A .fb = true := by first | assumption | rfl) : Keeps A r0 (releaseTrip s) := by simp (maxDischargeDepth := 60) [releaseTrip, SameBut, SameLists, *]

@[simp ↓] theorem latchLockout_keeps (s : State) {A : Part → Bool} {r0 : State} (h_s : Keeps A r0 s)
    (p_core : A .core = true := by first | assumption | rfl) : Keeps A r0 (latchLockout s) := by simp [latchLockout, SameBut, SameLists, *]

@[simp ↓] theorem rearmFirstTrip_keeps (s : State) {A : Part → Bool} {r0 : State} (h_s : Keeps A r0 s)
    (p_ranger : A .ranger = true := by first | assumption | rfl) : Keeps A r0 (rearmFirstTrip s) := by simp [rearmFirstTrip, SameBut, SameLists, *]

@[simp ↓] theorem stopPerturbation_keeps (s : State) {A : Part → Bool} {r0 : State} (h_s : Keeps A r0 s)
    (p_cells : A .cells = true := by first | assumption | rfl) (p_borer : A .borer = true := by first | assumption | rfl) : Keeps A r0 (stopPerturbation s) := by
  unfold stopPerturbation
  repeat' first
    | (simp +contextual (maxDischargeDepth := 60) [SameBut, SameLists, *]; done)
    | (rename_i e; have e := congrArg Prod.snd e; dsimp only at e; subst e)
    | split
    | (refine keeps_foldl (fun _ _ _ => ?_) ?_)
    | dsimp only

@[simp ↓] theorem entryActions_keeps (old new : OpState) (s : State) {A : Part → Bool} {r0 : State} (h_s : Keeps A r0 s)
    (p_core : A .core = true := by first | assumption | rfl) (p_ring : A .ring = true := by first | assumption | rfl) (p_heads : A .heads = true := by first | assumption | rfl)
    (p_fe : A .fe = true := by first | assumption | rfl) (p_cells : A .cells = true := by first | assumption | rfl) (p_borer : A .borer = true := by first | assumption | rfl)
    (p_thin : A .thin = true := by first | assumption | rfl) (p_fb : A .fb = true := by first | assumption | rfl) (p_ranger : A .ranger = true := by first | assumption | rfl)
    (p_power : A .power = true := by first | assumption | rfl) : Keeps A r0 (entryActions old new s) := by
  unfold entryActions
  (repeat' split) <;> simp (maxDischargeDepth := 60) [SameBut, SameLists, *]

@[simp ↓] theorem enterState_keeps (e : SmEvent) (new : OpState) (s : State) {A : Part → Bool} {r0 : State} (h_s : Keeps A r0 s)
    (p_core : A .core = true := by first | assumption | rfl) (p_ring : A .ring = true := by first | assumption | rfl) (p_heads : A .heads = true := by first | assumption | rfl)
    (p_fe : A .fe = true := by first | assumption | rfl) (p_cells : A .cells = true := by first | assumption | rfl) (p_borer : A .borer = true := by first | assumption | rfl)
    (p_thin : A .thin = true := by first | assumption | rfl) (p_fb : A .fb = true := by first | assumption | rfl) (p_ranger : A .ranger = true := by first | assumption | rfl)
    (p_tally : A .tally = true := by first | assumption | rfl)
    (p_power : A .power = true := by first | assumption | rfl) : Keeps A r0 (enterState e new s) := by simp (maxDischargeDepth := 60) [enterState, SameBut, SameLists, *]

@[simp ↓] theorem startOpening_keeps (s : State) {A : Part → Bool} {r0 : State} (h_s : Keeps A r0 s)
    (p_core : A .core = true := by first | assumption | rfl) : Keeps A r0 (startOpening s) := by simp [startOpening, SameBut, SameLists, *]

@[simp ↓] theorem takeEvent_keeps (e : SmEvent) (t : OpState) (s : State) {A : Part → Bool} {r0 : State} (h_s : Keeps A r0 s)
    (p_core : A .core = true := by first | assumption | rfl) (p_ring : A .ring = true := by first | assumption | rfl) (p_heads : A .heads = true := by first | assumption | rfl)
    (p_fe : A .fe = true := by first | assumption | rfl) (p_cells : A .cells = true := by first | assumption | rfl) (p_borer : A .borer = true := by first | assumption | rfl)
    (p_thin : A .thin = true := by first | assumption | rfl) (p_fb : A .fb = true := by first | assumption | rfl) (p_ranger : A .ranger = true := by first | assumption | rfl)
    (p_tally : A .tally = true := by first | assumption | rfl)
    (p_power : A .power = true := by first | assumption | rfl) : Keeps A r0 (takeEvent e t s) := by simp (maxDischargeDepth := 60) [takeEvent, SameBut, SameLists, *]

@[simp ↓] theorem unTake_keeps (t : SmEvent) (s : State) {A : Part → Bool} {r0 : State} (h_s : Keeps A r0 s)
    (p_core : A .core = true := by first | assumption | rfl) (p_fe : A .fe = true := by first | assumption | rfl)
    (p_dict : A .dict = true := by first | assumption | rfl) (p_ranger : A .ranger = true := by first | assumption | rfl)
    (p_tally : A .tally = true := by first | assumption | rfl) : Keeps A r0 (unTake t s) := by
  unfold unTake
  split
  · exact h_s
  · extract_lets _ _ _ _ s1
    have h1 : Keeps A r0 s1 := by
      refine h_s.of_parts (by simp [SameBut, s1, *]) rfl rfl rfl fun c => ?_
      exact { c with q25 := Nat.le_trans (List.length_erase_le ..) c.q25 }
    split
    · simp (maxDischargeDepth := 60) [SameBut, SameLists, *]
    · exact h1

@[simp ↓] theorem answerRequest_keeps (e : SmEvent) (abort : Nat) (s : State) {A : Part → Bool} {r0 : State} (h_s : Keeps A r0 s)
    (p_dict : A .dict = true := by first | assumption | rfl) : Keeps A r0 (answerRequest e abort s) := by simp [answerRequest, *]

@[simp ↓] theorem smEvent_keeps (e : SmEvent) (s : State) {A : Part → Bool} {r0 : State} (h_s : Keeps A r0 s)
    (p_core : A .core = true := by first | assumption | rfl) (p_ring : A .ring = true := by first | assumption | rfl) (p_heads : A .heads = true := by first | assumption | rfl)
    (p_fe : A .fe = true := by first | assumption | rfl) (p_cells : A .cells = true := by first | assumption | rfl) (p_borer : A .borer = true := by first | assumption | rfl)
    (p_thin : A .thin = true := by first | assumption | rfl) (p_fb : A .fb = true := by first | assumption | rfl) (p_dict : A .dict = true := by first | assumption | rfl)
    (p_ranger : A .ranger = true := by first | assumption | rfl) (p_tally : A .tally = true := by first | assumption | rfl)
    (p_power : A .power = true := by first | assumption | rfl) : Keeps A r0 (smEvent e s) := by
  unfold smEvent
  (repeat' split) <;> simp (maxDischargeDepth := 60) [SameBut, SameLists, *]

@[simp ↓] theorem evalLeft_keeps (s : State) (e : SmEvent) {A : Part → Bool} {r0 : State} (h_s : Keeps A r0 s)
    (p_core : A .core = true := by first | assumption | rfl) (p_ring : A .ring = true := by first | assumption | rfl) (p_heads : A .heads = true := by first | assumption | rfl)
    (p_fe : A .fe = true := by first | assumption | rfl) (p_cells : A .cells = true := by first | assumption | rfl) (p_borer : A .borer = true := by first | assumption | rfl)
    (p_thin : A .thin = true := by first | assumption | rfl) (p_fb : A .fb = true := by first | assumption | rfl) (p_dict : A .dict = true := by first | assumption | rfl)
    (p_ranger : A .ranger = true := by first | assumption | rfl) (p_tally : A .tally = true := by first | assumption | rfl)
    (p_power : A .power = true := by first | assumption | rfl) : Keeps A r0 (evalLeft s e) := by
  unfold evalLeft
  (repeat' split) <;> simp (maxDischargeDepth := 60) [SameBut, SameLists, *]

@[simp ↓] theorem evalDeferred_keeps (s : State) {A : Part → Bool} {r0 : State} (h_s : Keeps A r0 s) (p_core : A .core = true := by first | assumption | rfl)
    (p_ring : A .ring = true := by first | assumption | rfl) (p_heads : A .heads = true := by first | assumption | rfl) (p_fe : A .fe = true := by first | assumption | rfl)
    (p_cells : A .cells = true := by first | assumption | rfl) (p_borer : A .borer = true := by first | assumption | rfl) (p_thin : A .thin = true := by first | assumption | rfl)
    (p_fb : A .fb = true := by first | assumption | rfl) (p_dict : A .dict = true := by first | assumption | rfl) (p_ranger : A .ranger = true := by first | assumption | rfl)
    (p_tally : A .tally = true := by first | assumption | rfl) (p_power : A .power = true := by first | assumption | rfl) : Keeps A r0 (evalDeferred s) := by
  unfold evalDeferred
  simp +contextual (maxDischargeDepth := 60) [SameBut, SameLists, *]

@[simp ↓] theorem serviceLost_keeps (s : State) {A : Part → Bool} {r0 : State} (h_s : Keeps A r0 s) (p_core : A .core = true := by first | assumption | rfl)
    (p_ring : A .ring = true := by first | assumption | rfl) (p_heads : A .heads = true := by first | assumption | rfl) (p_fe : A .fe = true := by first | assumption | rfl)
    (p_cells : A .cells = true := by first | assumption | rfl) (p_borer : A .borer = true := by first | assumption | rfl) (p_thin : A .thin = true := by first | assumption | rfl)
    (p_fb : A .fb = true := by first | assumption | rfl) (p_dict : A .dict = true := by first | assumption | rfl) (p_ranger : A .ranger = true := by first | assumption | rfl)
    (p_tally : A .tally = true := by first | assumption | rfl) (p_power : A .power = true := by first | assumption | rfl) : Keeps A r0 (serviceLost s) := by
  unfold serviceLost
  split <;> simp (maxDischargeDepth := 60) [SameBut, SameLists, *]

@[simp ↓] theorem openWhenLow_keeps (s : State) {A : Part → Bool} {r0 : State} (h_s : Keeps A r0 s) (p_core : A .core = true := by first | assumption | rfl)
    (p_ring : A .ring = true := by first | assumption | rfl) (p_heads : A .heads = true := by first | assumption | rfl) (p_fe : A .fe = true := by first | assumption | rfl)
    (p_cells : A .cells = true := by first | assumption | rfl) (p_borer : A .borer = true := by first | assumption | rfl) (p_thin : A .thin = true := by first | assumption | rfl)
    (p_fb : A .fb = true := by first | assumption | rfl) (p_dict : A .dict = true := by first | assumption | rfl) (p_ranger : A .ranger = true := by first | assumption | rfl)
    (p_tally : A .tally = true := by first | assumption | rfl)
    (p_power : A .power = true := by first | assumption | rfl) : Keeps A r0 (openWhenLow s) := by simp (maxDischargeDepth := 60) [openWhenLow, SameBut, SameLists, *]

/-! ### RangerOps -/

theorem keepN_le {α : Type} (n : Nat) (l : List α) : (keepN n l).length ≤ n := by
  unfold keepN; rw [List.length_take]; exact Nat.min_le_left ..
@[simp ↓] theorem enterQ24_keeps (code : Nat) (r : TallyRec) (s : State) {A : Part → Bool} {r0 : State} (h : Keeps A r0 s)
    (p_ranger : A .ranger = true := by first | assumption | rfl) : Keeps A r0 (enterQ24 code r s) := by
  unfold enterQ24
  generalize hn : (if 3 ≤ code && code ≤ 5 then 1024 else 896) = n
  split
  · rename_i hl
    refine h.of_parts (by simp [SameBut, *]) rfl rfl rfl fun c => ?_
    refine { c with q24 := ?_ }
    simp only [List.length_append, List.length_cons, List.length_nil]
    split at hn <;> omega
  · exact h.of_eq (by simp [SameBut, *]) rfl rfl (by simp [SameLists])

@[simp ↓] theorem offerCapture_keeps (m : FaultMsg) (s : State) {A : Part → Bool} {r0 : State} (h_s : Keeps A r0 s)
    (p_ranger : A .ranger = true := by first | assumption | rfl) : Keeps A r0 (offerCapture m s) := by simp (maxDischargeDepth := 60) [offerCapture, SameBut, SameLists, *]

@[simp ↓] theorem stopFollowers_keeps (master : Nat) (s : State) {A : Part → Bool} {r0 : State} (h_s : Keeps A r0 s)
    (p_axes : A .axes = true := by first | assumption | rfl) : Keeps A r0 (stopFollowers master s) := by simp [stopFollowers, SameBut, SameLists, *]

@[simp ↓] theorem cutFailedAxis_keeps (unit : Nat) (s : State) {A : Part → Bool} {r0 : State} (h_s : Keeps A r0 s)
    (p_axes : A .axes = true := by first | assumption | rfl) : Keeps A r0 (cutFailedAxis unit s) := by simp [cutFailedAxis, SameBut, SameLists, *]

@[simp ↓] theorem fenceEffect_keeps (cls unit : Nat) (s : State) {A : Part → Bool} {r0 : State} (h_s : Keeps A r0 s)
    (p_ring : A .ring = true := by first | assumption | rfl) (p_heads : A .heads = true := by first | assumption | rfl)
    (p_cruiser : A .cruiser = true := by first | assumption | rfl) (p_axes : A .axes = true := by first | assumption | rfl)
    (p_links : A .links = true := by first | assumption | rfl) (p_ranger : A .ranger = true := by first | assumption | rfl)
    : Keeps A r0 (fenceEffect cls unit s) := by simp (maxDischargeDepth := 60) [fenceEffect, SameBut, SameLists, *]

@[simp ↓] theorem fence_keeps (m : FaultMsg) (s : State) {A : Part → Bool} {r0 : State} (h_s : Keeps A r0 s)
    (p_ring : A .ring = true := by first | assumption | rfl) (p_heads : A .heads = true := by first | assumption | rfl)
    (p_cruiser : A .cruiser = true := by first | assumption | rfl) (p_axes : A .axes = true := by first | assumption | rfl)
    (p_links : A .links = true := by first | assumption | rfl) (p_ranger : A .ranger = true := by first | assumption | rfl)
    : Keeps A r0 (fence m s) := by
  unfold fence
  (repeat' split) <;> simp (maxDischargeDepth := 60) [SameBut, SameLists, *]

@[simp ↓] theorem missF_keeps (lane : Nat) (s : State) {A : Part → Bool} {r0 : State} (h_s : Keeps A r0 s)
    (p_cruiser : A .cruiser = true := by first | assumption | rfl) (p_ranger : A .ranger = true := by first | assumption | rfl)
    : Keeps A r0 (missF lane s) := by
  unfold missF
  repeat' first
    | (simp +contextual (maxDischargeDepth := 60) [SameBut, SameLists, *]; done)
    | (rename_i e; have e := congrArg Prod.snd e; dsimp only at e; subst e)
    | split
    | (refine keeps_foldl (fun _ _ _ => ?_) ?_)
    | dsimp only

@[simp ↓] theorem react_keeps (m : FaultMsg) (code : Nat) (s : State) {A : Part → Bool} {r0 : State} (h_s : Keeps A r0 s)
    (p_core : A .core = true := by first | assumption | rfl) (p_ring : A .ring = true := by first | assumption | rfl) (p_heads : A .heads = true := by first | assumption | rfl)
    (p_fe : A .fe = true := by first | assumption | rfl) (p_cells : A .cells = true := by first | assumption | rfl) (p_cruiser : A .cruiser = true := by first | assumption | rfl)
    (p_borer : A .borer = true := by first | assumption | rfl) (p_thin : A .thin = true := by first | assumption | rfl) (p_fb : A .fb = true := by first | assumption | rfl)
    (p_sawyer : A .sawyer = true := by first | assumption | rfl) (p_axes : A .axes = true := by first | assumption | rfl) (p_links : A .links = true := by first | assumption | rfl)
    (p_dict : A .dict = true := by first | assumption | rfl) (p_ranger : A .ranger = true := by first | assumption | rfl) (p_tally : A .tally = true := by first | assumption | rfl)
    (p_power : A .power = true := by first | assumption | rfl) : Keeps A r0 (react m code s) := by simp (maxDischargeDepth := 60) [react, SameBut, SameLists, *]

@[simp ↓] theorem State.setFault_keeps (s : State) (i : Nat) (a : ActiveFault) {A : Part → Bool} {r0 : State} (h : Keeps A r0 s)
    (p_ranger : A .ranger = true := by first | assumption | rfl) : Keeps A r0 (State.setFault s i a) := by
  refine h.of_parts (by simp [SameBut, State.setFault, *]) rfl rfl rfl fun c => ?_
  exact { c with active := by simpa [State.setFault] using c.active }

@[simp ↓] theorem listFault_keeps (m : FaultMsg) (s : State) {A : Part → Bool} {r0 : State} (h : Keeps A r0 s)
    (p_ranger : A .ranger = true := by first | assumption | rfl) : Keeps A r0 (listFault m s) := by
  unfold listFault
  dsimp only
  split
  · exact h
  · split
    · rename_i hl
      refine h.of_parts (by simp [SameBut, *]) rfl rfl rfl fun c => ?_
      exact { c with active := by simp only [List.length_append, List.length_cons, List.length_nil]; omega }
    · split
      · rename_i i hi
        refine h.of_parts (by simp [SameBut, *]) rfl rfl rfl fun c => ?_
        have hlt : i < s.ranger.active.length := (List.findIdx?_eq_some_iff_findIdx_eq.mp hi).1
        refine { c with active := ?_ }
        have := c.active
        simp only [List.length_append, List.length_cons, List.length_nil, List.length_eraseIdx, hlt, if_true]
        omega
      · exact h

@[simp ↓] theorem receiveRaise_keeps (sent : FaultMsg) (s : State) {A : Part → Bool} {r0 : State} (h : Keeps A r0 s)
    (p_core : A .core = true := by first | assumption | rfl) (p_ring : A .ring = true := by first | assumption | rfl)
    (p_heads : A .heads = true := by first | assumption | rfl) (p_fe : A .fe = true := by first | assumption | rfl)
    (p_cells : A .cells = true := by first | assumption | rfl) (p_cruiser : A .cruiser = true := by first | assumption | rfl)
    (p_borer : A .borer = true := by first | assumption | rfl) (p_thin : A .thin = true := by first | assumption | rfl)
    (p_fb : A .fb = true := by first | assumption | rfl) (p_sawyer : A .sawyer = true := by first | assumption | rfl)
    (p_axes : A .axes = true := by first | assumption | rfl) (p_links : A .links = true := by first | assumption | rfl)
    (p_dict : A .dict = true := by first | assumption | rfl) (p_ranger : A .ranger = true := by first | assumption | rfl)
    (p_tally : A .tally = true := by first | assumption | rfl) (p_power : A .power = true := by first | assumption | rfl)
    : Keeps A r0 (receiveRaise sent s) := by
  unfold receiveRaise
  extract_lets m code r s1 s2 s3
  have h1 : Keeps A r0 s1 := by
    refine h.of_parts (by simp [SameBut, s1, *]) rfl rfl rfl fun c => ?_
    exact { c with last16 := keepN_le 16 _ }
  have h2 : Keeps A r0 s2 := by simp (maxDischargeDepth := 60) [SameBut, SameLists, s2, h1, *]
  have h3 : Keeps A r0 s3 := by simp (maxDischargeDepth := 60) [SameBut, SameLists, s3, h2, *]
  split
  · split
    · exact h2
    · dsimp only
      split <;> simp (maxDischargeDepth := 60) [SameBut, SameLists, h2, *]
  · simp (maxDischargeDepth := 60) [SameBut, SameLists, h3, *]

@[simp ↓] theorem receiveClear_keeps (m : FaultMsg) (s : State) {A : Part → Bool} {r0 : State} (h : Keeps A r0 s)
    (p_core : A .core = true := by first | assumption | rfl) (p_ring : A .ring = true := by first | assumption | rfl) (p_heads : A .heads = true := by first | assumption | rfl)
    (p_fe : A .fe = true := by first | assumption | rfl) (p_cells : A .cells = true := by first | assumption | rfl) (p_borer : A .borer = true := by first | assumption | rfl)
    (p_thin : A .thin = true := by first | assumption | rfl) (p_fb : A .fb = true := by first | assumption | rfl) (p_dict : A .dict = true := by first | assumption | rfl)
    (p_ranger : A .ranger = true := by first | assumption | rfl) (p_tally : A .tally = true := by first | assumption | rfl)
    (p_power : A .power = true := by first | assumption | rfl) : Keeps A r0 (receiveClear m s) := by
  unfold receiveClear
  extract_lets r was s1
  have h1 : Keeps A r0 s1 := by
    refine h.of_parts (by simp [SameBut, s1, *]) rfl rfl rfl fun c => ?_
    exact { c with last16 := keepN_le 16 _ }
  split
  · exact h1
  · split
    · exact h1
    · extract_lets s2 b1 s3 s4 s5
      have h2 : Keeps A r0 s2 := enterQ24_keeps _ _ _ h1
      have h3 : Keeps A r0 s3 := by
        refine h2.of_parts (by simp [SameBut, s3, *]) rfl rfl rfl fun c => ?_
        refine { c with active := ?_ }
        exact Nat.le_trans (List.length_eraseIdx_le _ _) c.active
      have h4 : Keeps A r0 s4 := by simp (maxDischargeDepth := 60) [SameBut, SameLists, s4, h3, *]
      have h5 : Keeps A r0 s5 := by
        simp only [s5]
        (repeat' split) <;> simp (maxDischargeDepth := 60) [SameBut, SameLists, h4, *]
      simp (maxDischargeDepth := 60) [SameBut, SameLists, h5, *]

@[simp ↓] theorem escalate_keeps (i : Nat) (a : ActiveFault) (s : State) {A : Part → Bool} {r0 : State} (h_s : Keeps A r0 s)
    (p_core : A .core = true := by first | assumption | rfl) (p_ring : A .ring = true := by first | assumption | rfl) (p_heads : A .heads = true := by first | assumption | rfl)
    (p_fe : A .fe = true := by first | assumption | rfl) (p_cells : A .cells = true := by first | assumption | rfl) (p_cruiser : A .cruiser = true := by first | assumption | rfl)
    (p_borer : A .borer = true := by first | assumption | rfl) (p_thin : A .thin = true := by first | assumption | rfl) (p_fb : A .fb = true := by first | assumption | rfl)
    (p_sawyer : A .sawyer = true := by first | assumption | rfl) (p_axes : A .axes = true := by first | assumption | rfl) (p_links : A .links = true := by first | assumption | rfl)
    (p_dict : A .dict = true := by first | assumption | rfl) (p_ranger : A .ranger = true := by first | assumption | rfl) (p_tally : A .tally = true := by first | assumption | rfl)
    (p_power : A .power = true := by first | assumption | rfl) : Keeps A r0 (escalate i a s) := by simp (maxDischargeDepth := 60) [escalate, SameBut, SameLists, *]

/-! ### Points -/

@[simp ↓] theorem State.modPoint_keeps (s : State) (n : Nat) (f : PointState → PointState) {A : Part → Bool} {r0 : State} (h_s : Keeps A r0 s)
    (p_points : A .points = true := by first | assumption | rfl) : Keeps A r0 (State.modPoint s n f) := by simp [State.modPoint, SameBut, SameLists, *]

@[simp ↓] theorem filterStep_keeps (old new tau : Int) (seen : Bool) (s : State) {A : Part → Bool} {r0 : State} (h_s : Keeps A r0 s) : Keeps A r0 (filterStep old new tau seen s).2 := by
  unfold filterStep
  split <;> simp (maxDischargeDepth := 60) [SameBut, SameLists, *]

@[simp ↓] theorem samplePoint_keeps (n : Nat) (raw : Option Int) (cyc : Cycle) (s : State) {A : Part → Bool} {r0 : State} (h_s : Keeps A r0 s)
    (p_points : A .points = true := by first | assumption | rfl) : Keeps A r0 (samplePoint n raw cyc s) := by
  unfold samplePoint
  split <;> simp (maxDischargeDepth := 60) [SameBut, SameLists, *]

@[simp ↓] theorem computePoint_keeps (s : State) (n : Nat) {A : Part → Bool} {r0 : State} (h_s : Keeps A r0 s)
    (p_points : A .points = true := by first | assumption | rfl) : Keeps A r0 (computePoint s n) := by
  unfold computePoint
  (repeat' split) <;> simp (maxDischargeDepth := 60) [SameBut, SameLists, *]

@[simp ↓] theorem computePoints_keeps (s : State) {A : Part → Bool} {r0 : State} (h_s : Keeps A r0 s)
    (p_points : A .points = true := by first | assumption | rfl) : Keeps A r0 (computePoints s) := by
  unfold computePoints
  simp +contextual (maxDischargeDepth := 60) [SameBut, SameLists, *]

@[simp ↓] theorem execPointStale_keeps (n : Nat) (s : State) {A : Part → Bool} {r0 : State} (h_s : Keeps A r0 s)
    (p_points : A .points = true := by first | assumption | rfl) : OutKeeps A r0 (execPointStale n s) := by simp (maxDischargeDepth := 60) [execPointStale, SameBut, SameLists, *]

@[simp ↓] theorem clearExtremes_keeps (n : Nat) (s : State) {A : Part → Bool} {r0 : State} (h_s : Keeps A r0 s)
    (p_points : A .points = true := by first | assumption | rfl) : Keeps A r0 (clearExtremes n s) := by simp [clearExtremes, *]

/-! ### FirebreakOps -/

@[simp ↓] theorem qualify_keeps (bit cls val : Nat) (inj : Bool) (s : State) {A : Part → Bool} {r0 : State} (h_s : Keeps A r0 s)
    (p_fe : A .fe = true := by first | assumption | rfl) (p_fb : A .fb = true := by first | assumption | rfl)
    (p_ranger : A .ranger = true := by first | assumption | rfl) : Keeps A r0 (qualify bit cls val inj s) := by simp [qualify, *]

@[simp ↓] theorem compliance_keeps (bit cls val : Nat) (ok : Bool) (s : State) {A : Part → Bool} {r0 : State} (h_s : Keeps A r0 s)
    (p_fb : A .fb = true := by first | assumption | rfl) : Keeps A r0 (compliance bit cls val ok s) := by simp [compliance, SameBut, SameLists, *]

@[simp ↓] theorem clearCause_keeps (bit cls val : Nat) (s : State) {A : Part → Bool} {r0 : State} (h_s : Keeps A r0 s)
    (p_fe : A .fe = true := by first | assumption | rfl) (p_fb : A .fb = true := by first | assumption | rfl)
    (p_ranger : A .ranger = true := by first | assumption | rfl) : Keeps A r0 (clearCause bit cls val s) := by
  unfold clearCause
  repeat' first
    | (simp +contextual (maxDischargeDepth := 60) [SameBut, SameLists, *]; done)
    | (rename_i e; have e := congrArg Prod.snd e; dsimp only at e; subst e)
    | split
    | (refine keeps_foldl (fun _ _ _ => ?_) ?_)
    | dsimp only

@[simp ↓] theorem cellCompare_keeps (k bit : Nat) (beyond inj : Bool) (s : State) {A : Part → Bool} {r0 : State} (h_s : Keeps A r0 s)
    (p_fe : A .fe = true := by first | assumption | rfl) (p_fb : A .fb = true := by first | assumption | rfl)
    (p_ranger : A .ranger = true := by first | assumption | rfl) : Keeps A r0 (cellCompare k bit beyond inj s) := by simp (maxDischargeDepth := 60) [cellCompare, SameBut, SameLists, *]

@[simp ↓] theorem keepBounds_keeps (k : Nat) (t : Treat) (s : State) {A : Part → Bool} {r0 : State} (h_s : Keeps A r0 s)
    (p_tap : A .tap = true := by first | assumption | rfl) : Keeps A r0 (keepBounds k t s) := by simp [keepBounds, SameBut, SameLists, *]

@[simp ↓] theorem compareCell_keeps (k : Nat) (t : Option Treat) (inj : Bool) (s : State) {A : Part → Bool} {r0 : State} (h_s : Keeps A r0 s)
    (p_tap : A .tap = true := by first | assumption | rfl) (p_fe : A .fe = true := by first | assumption | rfl) (p_fb : A .fb = true := by first | assumption | rfl)
    (p_ranger : A .ranger = true := by first | assumption | rfl) : Keeps A r0 (compareCell k t inj s) := by
  unfold compareCell
  split <;> simp (maxDischargeDepth := 60) [SameBut, SameLists, *]

@[simp ↓] theorem tempCompare_keeps (n slot : Nat) (beyond inj : Bool) (s : State) {A : Part → Bool} {r0 : State} (h_s : Keeps A r0 s)
    (p_fe : A .fe = true := by first | assumption | rfl) (p_fb : A .fb = true := by first | assumption | rfl)
    (p_ranger : A .ranger = true := by first | assumption | rfl) : Keeps A r0 (tempCompare n slot beyond inj s) := by simp (maxDischargeDepth := 60) [tempCompare, SameBut, SameLists, *]

@[simp ↓] theorem comparePoint_keeps (n : Nat) (raw : Option Int) (inj : Bool) (s : State) {A : Part → Bool} {r0 : State} (h_s : Keeps A r0 s)
    (p_fe : A .fe = true := by first | assumption | rfl) (p_fb : A .fb = true := by first | assumption | rfl)
    (p_ranger : A .ranger = true := by first | assumption | rfl) : Keeps A r0 (comparePoint n raw inj s) := by
  unfold comparePoint
  (repeat' split) <;> simp (maxDischargeDepth := 60) [SameBut, SameLists, *]

@[simp ↓] theorem cycleCompare_keeps (bit need : Nat) (beyond : Bool) (s : State) {A : Part → Bool} {r0 : State} (h_s : Keeps A r0 s)
    (p_fe : A .fe = true := by first | assumption | rfl) (p_fb : A .fb = true := by first | assumption | rfl)
    (p_ranger : A .ranger = true := by first | assumption | rfl) : Keeps A r0 (cycleCompare bit need beyond s) := by simp (maxDischargeDepth := 60) [cycleCompare, SameBut, SameLists, *]

@[simp ↓] theorem restartCounters_keeps (s : State) {A : Part → Bool} {r0 : State} (h_s : Keeps A r0 s)
    (p_fb : A .fb = true := by first | assumption | rfl) : Keeps A r0 (restartCounters s) := by simp [restartCounters, SameBut, SameLists, *]

@[simp ↓] theorem compareInsulation_keeps (r : StringRecord) (s : State) {A : Part → Bool} {r0 : State} (h : Keeps A r0 s)
    (p_fe : A .fe = true := by first | assumption | rfl) (p_fb : A .fb = true := by first | assumption | rfl)
    (p_ranger : A .ranger = true := by first | assumption | rfl) : Keeps A r0 (compareInsulation r s) := by
  unfold compareInsulation
  split
  · exact h
  · extract_lets trip warn c n b1 s1 s2 s3 d m b2 s4 s5 e b3 s6
    have h1 : Keeps A r0 s1 := by simp (maxDischargeDepth := 60) [SameBut, SameLists, s1, h, *]
    have h2 : Keeps A r0 s2 := by simp (maxDischargeDepth := 60) [SameBut, SameLists, s2, h1, *]
    have h3 : Keeps A r0 s3 := by simp (maxDischargeDepth := 60) [SameBut, SameLists, s3, h2, *]
    have h4 : Keeps A r0 s4 := by simp (maxDischargeDepth := 60) [SameBut, SameLists, s4, h3, *]
    have h5 : Keeps A r0 s5 := by simp (maxDischargeDepth := 60) [SameBut, SameLists, s5, h4, *]
    have h6 : Keeps A r0 s6 := by simp (maxDischargeDepth := 60) [SameBut, SameLists, s6, h5, *]
    simp (maxDischargeDepth := 60) [SameBut, SameLists, h6, *]

@[simp ↓] theorem noEnvelope_keeps (s : State) {A : Part → Bool} {r0 : State} (h_s : Keeps A r0 s) (p_fb : A .fb = true := by first | assumption | rfl)
    (p_ranger : A .ranger = true := by first | assumption | rfl) : Keeps A r0 (noEnvelope s) := by simp (maxDischargeDepth := 60) [noEnvelope, SameBut, SameLists, *]

/-! ### TapOps -/

@[simp ↓] theorem State.setTap_keeps (s : State) (p tap v : Nat) {A : Part → Bool} {r0 : State} (h_s : Keeps A r0 s)
    (p_tap : A .tap = true := by first | assumption | rfl) : Keeps A r0 (State.setTap s p tap v) := by simp [State.setTap, SameBut, SameLists, *]

@[simp ↓] theorem State.setDiag_keeps (s : State) (p i : Nat) (v : Bool) {A : Part → Bool} {r0 : State} (h_s : Keeps A r0 s)
    (p_tap : A .tap = true := by first | assumption | rfl) : Keeps A r0 (State.setDiag s p i v) := by simp [State.setDiag, SameBut, SameLists, *]

@[simp ↓] theorem State.keepSafe_keeps (s : State) (p tap : Nat) {A : Part → Bool} {r0 : State} (h_s : Keeps A r0 s)
    (p_tap : A .tap = true := by first | assumption | rfl) : Keeps A r0 (State.keepSafe s p tap) := by
  unfold State.keepSafe
  repeat' first
    | (simp +contextual (maxDischargeDepth := 60) [SameBut, SameLists, *]; done)
    | (rename_i e; have e := congrArg Prod.snd e; dsimp only at e; subst e)
    | split
    | (refine keeps_foldl (fun _ _ _ => ?_) ?_)
    | dsimp only

@[simp ↓] theorem emptyMap_keeps (p n : Nat) (s : State) {A : Part → Bool} {r0 : State} (h_s : Keeps A r0 s)
    (p_heads : A .heads = true := by first | assumption | rfl) (p_thin : A .thin = true := by first | assumption | rfl) : Keeps A r0 (emptyMap p n s) := by simp [emptyMap, *]

@[simp ↓] theorem startOwTest_keeps (p tap : Nat) (s : State) {A : Part → Bool} {r0 : State} (h_s : Keeps A r0 s)
    (p_ring : A .ring = true := by first | assumption | rfl) (p_heads : A .heads = true := by first | assumption | rfl) (p_tap : A .tap = true := by first | assumption | rfl)
    (p_thin : A .thin = true := by first | assumption | rfl) : Keeps A r0 (startOwTest p tap s) := by simp (maxDischargeDepth := 60) [startOwTest, SameBut, SameLists, *]

@[simp ↓] theorem suspectTap_keeps (p tap : Nat) (inj : Bool) (s : State) {A : Part → Bool} {r0 : State} (h_s : Keeps A r0 s)
    (p_ring : A .ring = true := by first | assumption | rfl) (p_heads : A .heads = true := by first | assumption | rfl) (p_tap : A .tap = true := by first | assumption | rfl)
    (p_cells : A .cells = true := by first | assumption | rfl) (p_thin : A .thin = true := by first | assumption | rfl)
    (p_ranger : A .ranger = true := by first | assumption | rfl) : Keeps A r0 (suspectTap p tap inj s) := by
  unfold suspectTap
  simp +contextual (maxDischargeDepth := 60) [SameBut, SameLists, *]

@[simp ↓] theorem pairSum_keeps (p tap : Nat) (inj : Bool) (s : State) {A : Part → Bool} {r0 : State} (h_s : Keeps A r0 s)
    (p_ring : A .ring = true := by first | assumption | rfl) (p_heads : A .heads = true := by first | assumption | rfl) (p_tap : A .tap = true := by first | assumption | rfl)
    (p_cells : A .cells = true := by first | assumption | rfl) (p_thin : A .thin = true := by first | assumption | rfl)
    (p_ranger : A .ranger = true := by first | assumption | rfl) : Keeps A r0 (pairSum p tap inj s) := by
  unfold pairSum
  repeat' first
    | (simp +contextual (maxDischargeDepth := 60) [SameBut, SameLists, *]; done)
    | (rename_i e; have e := congrArg Prod.snd e; dsimp only at e; subst e)
    | split
    | (refine keeps_foldl (fun _ _ _ => ?_) ?_)
    | dsimp only

@[simp ↓] theorem headSum_keeps (p : Nat) (v : List (Option Int)) (stack : Option Int) (s : State) {A : Part → Bool} {r0 : State} (h_s : Keeps A r0 s)
    (p_tap : A .tap = true := by first | assumption | rfl) (p_ranger : A .ranger = true := by first | assumption | rfl) : Keeps A r0 (headSum p v stack s) := by
  unfold headSum
  split <;> simp (maxDischargeDepth := 60) [SameBut, SameLists, *]

end Sys2Proof.Machine
end

