-- ==== Sys2Proof/Laws/Tab.lean ====
section
/-! SUPPORT. The laws of the sparse tables: a read after a write gives the value written, a write leaves every other key alone, and every
operation keeps the keys rising. -/

namespace Sys2Proof

variable {α : Type}

@[simp] theorem Tab.at_nil (k : Nat) (d : α) : Tab.at ([] : Tab α) k d = d := rfl

theorem Tab.at_cons (j : Nat) (a : α) (t : Tab α) (k : Nat) (d : α) : Tab.at ((j, a) :: t) k d = if j = k then a else Tab.at t k d := rfl

@[simp] theorem Tab.find_nil (k : Nat) : Tab.find ([] : Tab α) k = none := rfl

theorem Tab.find_cons (j : Nat) (a : α) (t : Tab α) (k : Nat) : Tab.find ((j, a) :: t) k = if j = k then some a else Tab.find t k := rfl

/-- Reading with a default is reading what is there, or the default. -/
theorem Tab.at_eq_find (t : Tab α) (k : Nat) (d : α) : Tab.at t k d = (Tab.find t k).getD d := by
  induction t with
  | nil => rfl
  | cons e t ih =>
    obtain ⟨j, a⟩ := e
    simp only [Tab.at_cons, Tab.find_cons]
    split <;> simp [ih]

/-- Reading after a write, at any key. -/
theorem Tab.find_put (t : Tab α) (k j : Nat) (a : α) : Tab.find (Tab.put t k a) j = if k = j then some a else Tab.find t j := by
  induction t with
  | nil => rfl
  | cons e t ih =>
    obtain ⟨i, b⟩ := e
    simp only [Tab.put]
    split
    · simp only [Tab.find_cons]
    · split
      · subst k
        simp only [Tab.find_cons]
        split <;> rfl
      · simp only [Tab.find_cons, ih]
        split
        · split
          · omega
          · rfl
        · rfl

@[simp] theorem Tab.find_put_same (t : Tab α) (k : Nat) (a : α) : Tab.find (Tab.put t k a) k = some a := by simp [Tab.find_put]

theorem Tab.find_put_other (t : Tab α) {k j : Nat} (a : α) (h : k ≠ j) : Tab.find (Tab.put t k a) j = Tab.find t j := by simp [Tab.find_put, h]

@[simp] theorem Tab.at_put_same (t : Tab α) (k : Nat) (a d : α) : Tab.at (Tab.put t k a) k d = a := by simp [Tab.at_eq_find]

theorem Tab.at_put (t : Tab α) (k j : Nat) (a d : α) : Tab.at (Tab.put t k a) j d = if k = j then a else Tab.at t j d := by
  simp only [Tab.at_eq_find, Tab.find_put]
  split <;> rfl

theorem Tab.at_put_other (t : Tab α) {k j : Nat} (a d : α) (h : k ≠ j) : Tab.at (Tab.put t k a) j d = Tab.at t j d := by simp [Tab.at_put, h]

@[simp] theorem Tab.at_mod_same (t : Tab α) (k : Nat) (d : α) (f : α → α) : Tab.at (Tab.mod t k d f) k d = f (Tab.at t k d) := by simp [Tab.mod]

theorem Tab.at_mod (t : Tab α) (k j : Nat) (d : α) (f : α → α) :
    Tab.at (Tab.mod t k d f) j d = if k = j then f (Tab.at t k d) else Tab.at t j d := by simp [Tab.mod, Tab.at_put]

theorem Tab.at_mod_other (t : Tab α) {k j : Nat} (d : α) (f : α → α) (h : k ≠ j) : Tab.at (Tab.mod t k d f) j d = Tab.at t j d := by
  simp [Tab.at_mod, h]

/-- A write keeps the keys rising. -/
theorem Tab.rising_put {t : Tab α} (h : Tab.rising t = true) (k : Nat) (a : α) : Tab.rising (Tab.put t k a) = true := by
  induction t with
  | nil => rfl
  | cons e t ih =>
    obtain ⟨j, b⟩ := e
    simp only [Tab.put]
    split
    · simpa [Tab.rising, h] using by omega
    · split
      · subst k
        cases t with
        | nil => rfl
        | cons e t => simpa [Tab.rising] using h
      · cases t with
        | nil => simpa [Tab.put, Tab.rising] using by omega
        | cons e t =>
          obtain ⟨i, c⟩ := e
          simp only [Tab.rising, Bool.and_eq_true, decide_eq_true_eq] at h
          have h2 := ih h.2
          simp only [Tab.put] at h2 ⊢
          split <;> rename_i h3
          · simp only [h3, if_true] at h2
            simp only [Tab.rising, Bool.and_eq_true, decide_eq_true_eq] at h2 ⊢
            exact ⟨by omega, h2⟩
          · simp only [h3, if_false] at h2
            split <;> rename_i h4
            · simp only [h4, if_true] at h2
              subst h4
              simp only [Tab.rising, Bool.and_eq_true, decide_eq_true_eq]
              exact ⟨by omega, by simpa using h2⟩
            · simp only [h4, if_false] at h2
              simp only [Tab.rising, Bool.and_eq_true, decide_eq_true_eq]
              exact ⟨h.1, h2⟩

theorem Tab.rising_mod {t : Tab α} (h : Tab.rising t = true) (k : Nat) (d : α) (f : α → α) : Tab.rising (Tab.mod t k d f) = true :=
  Tab.rising_put h k _

end Sys2Proof
end

