-- ==== Sys2Proof/Laws/State.lean ====
section
/-! SUPPORT. Updates of the state, one lemma each: what a named update leaves as it was, and what a read of the updated field then gives. -/

namespace Sys2Proof.Machine

open Sys2Proof

@[simp] theorem State.setVal_other (s : State) (key : Nat) (v : ObjVal) :
    (State.setVal s key v).core = s.core ∧ (State.setVal s key v).ring = s.ring ∧ (State.setVal s key v).heads = s.heads ∧
    (State.setVal s key v).tap = s.tap ∧ (State.setVal s key v).fe = s.fe ∧ (State.setVal s key v).cells = s.cells ∧
    (State.setVal s key v).points = s.points ∧ (State.setVal s key v).scaler = s.scaler ∧ (State.setVal s key v).cruiser = s.cruiser ∧
    (State.setVal s key v).borer = s.borer ∧ (State.setVal s key v).thin = s.thin ∧ (State.setVal s key v).fb = s.fb ∧
    (State.setVal s key v).sawyer = s.sawyer ∧ (State.setVal s key v).canopy = s.canopy ∧ (State.setVal s key v).axes = s.axes ∧
    (State.setVal s key v).links = s.links ∧ (State.setVal s key v).clock = s.clock ∧ (State.setVal s key v).sec = s.sec ∧
    (State.setVal s key v).pair = s.pair ∧ (State.setVal s key v).ranger = s.ranger ∧ (State.setVal s key v).tally = s.tally ∧
    (State.setVal s key v).inject = s.inject ∧ (State.setVal s key v).power = s.power ∧ (State.setVal s key v).lookout = s.lookout ∧
    (State.setVal s key v).storage = s.storage ∧ (State.setVal s key v).update = s.update ∧ (State.setVal s key v).seat = s.seat ∧
    (State.setVal s key v).boundary = s.boundary ∧ (State.setVal s key v).pending = s.pending := by
  unfold State.setVal
  first
    | exact ⟨rfl, rfl, rfl, rfl, rfl, rfl, rfl, rfl, rfl, rfl, rfl, rfl, rfl, rfl, rfl, rfl, rfl, rfl, rfl, rfl, rfl, rfl, rfl, rfl, rfl, rfl, rfl, rfl, rfl⟩
    | (simp; done)
    | (refine ⟨?_, ?_, ?_, ?_, ?_, ?_, ?_, ?_, ?_, ?_, ?_, ?_, ?_, ?_, ?_, ?_, ?_, ?_, ?_, ?_, ?_, ?_, ?_, ?_, ?_, ?_, ?_, ?_, ?_⟩ <;> (repeat' split) <;> first | rfl | simp)

@[simp] theorem State.setNum_other (s : State) (idx sub : Nat) (v : Int) :
    (State.setNum s idx sub v).core = s.core ∧ (State.setNum s idx sub v).ring = s.ring ∧ (State.setNum s idx sub v).heads = s.heads ∧
    (State.setNum s idx sub v).tap = s.tap ∧ (State.setNum s idx sub v).fe = s.fe ∧ (State.setNum s idx sub v).cells = s.cells ∧
    (State.setNum s idx sub v).points = s.points ∧ (State.setNum s idx sub v).scaler = s.scaler ∧ (State.setNum s idx sub v).cruiser = s.cruiser ∧
    (State.setNum s idx sub v).borer = s.borer ∧ (State.setNum s idx sub v).thin = s.thin ∧ (State.setNum s idx sub v).fb = s.fb ∧
    (State.setNum s idx sub v).sawyer = s.sawyer ∧ (State.setNum s idx sub v).canopy = s.canopy ∧ (State.setNum s idx sub v).axes = s.axes ∧
    (State.setNum s idx sub v).links = s.links ∧ (State.setNum s idx sub v).clock = s.clock ∧ (State.setNum s idx sub v).sec = s.sec ∧
    (State.setNum s idx sub v).pair = s.pair ∧ (State.setNum s idx sub v).ranger = s.ranger ∧ (State.setNum s idx sub v).tally = s.tally ∧
    (State.setNum s idx sub v).inject = s.inject ∧ (State.setNum s idx sub v).power = s.power ∧ (State.setNum s idx sub v).lookout = s.lookout ∧
    (State.setNum s idx sub v).storage = s.storage ∧ (State.setNum s idx sub v).update = s.update ∧ (State.setNum s idx sub v).seat = s.seat ∧
    (State.setNum s idx sub v).boundary = s.boundary ∧ (State.setNum s idx sub v).pending = s.pending := by
  unfold State.setNum
  first
    | exact ⟨rfl, rfl, rfl, rfl, rfl, rfl, rfl, rfl, rfl, rfl, rfl, rfl, rfl, rfl, rfl, rfl, rfl, rfl, rfl, rfl, rfl, rfl, rfl, rfl, rfl, rfl, rfl, rfl, rfl⟩
    | (simp; done)
    | (refine ⟨?_, ?_, ?_, ?_, ?_, ?_, ?_, ?_, ?_, ?_, ?_, ?_, ?_, ?_, ?_, ?_, ?_, ?_, ?_, ?_, ?_, ?_, ?_, ?_, ?_, ?_, ?_, ?_, ?_⟩ <;> (repeat' split) <;> first | rfl | simp)

@[simp] theorem State.send_other (s : State) (m : FaultMsg) :
    (State.send s m).core = s.core ∧ (State.send s m).ring = s.ring ∧ (State.send s m).heads = s.heads ∧ (State.send s m).tap = s.tap ∧
    (State.send s m).fe = s.fe ∧ (State.send s m).cells = s.cells ∧ (State.send s m).points = s.points ∧ (State.send s m).scaler = s.scaler ∧
    (State.send s m).cruiser = s.cruiser ∧ (State.send s m).borer = s.borer ∧ (State.send s m).thin = s.thin ∧ (State.send s m).fb = s.fb ∧
    (State.send s m).sawyer = s.sawyer ∧ (State.send s m).canopy = s.canopy ∧ (State.send s m).axes = s.axes ∧ (State.send s m).links = s.links ∧
    (State.send s m).clock = s.clock ∧ (State.send s m).dict = s.dict ∧ (State.send s m).sec = s.sec ∧ (State.send s m).pair = s.pair ∧
    (State.send s m).tally = s.tally ∧ (State.send s m).inject = s.inject ∧ (State.send s m).power = s.power ∧
    (State.send s m).lookout = s.lookout ∧ (State.send s m).storage = s.storage ∧ (State.send s m).update = s.update ∧
    (State.send s m).seat = s.seat ∧ (State.send s m).boundary = s.boundary ∧ (State.send s m).pending = s.pending := by
  unfold State.send
  first
    | exact ⟨rfl, rfl, rfl, rfl, rfl, rfl, rfl, rfl, rfl, rfl, rfl, rfl, rfl, rfl, rfl, rfl, rfl, rfl, rfl, rfl, rfl, rfl, rfl, rfl, rfl, rfl, rfl, rfl, rfl⟩
    | (simp; done)
    | (refine ⟨?_, ?_, ?_, ?_, ?_, ?_, ?_, ?_, ?_, ?_, ?_, ?_, ?_, ?_, ?_, ?_, ?_, ?_, ?_, ?_, ?_, ?_, ?_, ?_, ?_, ?_, ?_, ?_, ?_⟩ <;> (repeat' split) <;> first | rfl | simp)

@[simp] theorem State.report_other (s : State) (source kind : Nat) (sev : Sev) (cls val : Nat) :
    (State.report s source kind sev cls val).core = s.core ∧ (State.report s source kind sev cls val).ring = s.ring ∧
    (State.report s source kind sev cls val).heads = s.heads ∧ (State.report s source kind sev cls val).tap = s.tap ∧
    (State.report s source kind sev cls val).fe = s.fe ∧ (State.report s source kind sev cls val).cells = s.cells ∧
    (State.report s source kind sev cls val).points = s.points ∧ (State.report s source kind sev cls val).scaler = s.scaler ∧
    (State.report s source kind sev cls val).cruiser = s.cruiser ∧ (State.report s source kind sev cls val).borer = s.borer ∧
    (State.report s source kind sev cls val).thin = s.thin ∧ (State.report s source kind sev cls val).fb = s.fb ∧
    (State.report s source kind sev cls val).sawyer = s.sawyer ∧ (State.report s source kind sev cls val).canopy = s.canopy ∧
    (State.report s source kind sev cls val).axes = s.axes ∧ (State.report s source kind sev cls val).links = s.links ∧
    (State.report s source kind sev cls val).clock = s.clock ∧ (State.report s source kind sev cls val).dict = s.dict ∧
    (State.report s source kind sev cls val).sec = s.sec ∧ (State.report s source kind sev cls val).pair = s.pair ∧
    (State.report s source kind sev cls val).tally = s.tally ∧ (State.report s source kind sev cls val).inject = s.inject ∧
    (State.report s source kind sev cls val).power = s.power ∧ (State.report s source kind sev cls val).lookout = s.lookout ∧
    (State.report s source kind sev cls val).storage = s.storage ∧ (State.report s source kind sev cls val).update = s.update ∧
    (State.report s source kind sev cls val).seat = s.seat ∧ (State.report s source kind sev cls val).boundary = s.boundary ∧
    (State.report s source kind sev cls val).pending = s.pending := by
  unfold State.report
  first
    | exact ⟨rfl, rfl, rfl, rfl, rfl, rfl, rfl, rfl, rfl, rfl, rfl, rfl, rfl, rfl, rfl, rfl, rfl, rfl, rfl, rfl, rfl, rfl, rfl, rfl, rfl, rfl, rfl, rfl, rfl⟩
    | (simp; done)
    | (refine ⟨?_, ?_, ?_, ?_, ?_, ?_, ?_, ?_, ?_, ?_, ?_, ?_, ?_, ?_, ?_, ?_, ?_, ?_, ?_, ?_, ?_, ?_, ?_, ?_, ?_, ?_, ?_, ?_, ?_⟩ <;> (repeat' split) <;> first | rfl | simp)

@[simp] theorem State.reportInj_other (s : State) (inj : Bool) (source kind : Nat) (sev : Sev) (cls val : Nat) :
    (State.reportInj s inj source kind sev cls val).core = s.core ∧ (State.reportInj s inj source kind sev cls val).ring = s.ring ∧
    (State.reportInj s inj source kind sev cls val).heads = s.heads ∧ (State.reportInj s inj source kind sev cls val).tap = s.tap ∧
    (State.reportInj s inj source kind sev cls val).fe = s.fe ∧ (State.reportInj s inj source kind sev cls val).cells = s.cells ∧
    (State.reportInj s inj source kind sev cls val).points = s.points ∧ (State.reportInj s inj source kind sev cls val).scaler = s.scaler ∧
    (State.reportInj s inj source kind sev cls val).cruiser = s.cruiser ∧ (State.reportInj s inj source kind sev cls val).borer = s.borer ∧
    (State.reportInj s inj source kind sev cls val).thin = s.thin ∧ (State.reportInj s inj source kind sev cls val).fb = s.fb ∧
    (State.reportInj s inj source kind sev cls val).sawyer = s.sawyer ∧ (State.reportInj s inj source kind sev cls val).canopy = s.canopy ∧
    (State.reportInj s inj source kind sev cls val).axes = s.axes ∧ (State.reportInj s inj source kind sev cls val).links = s.links ∧
    (State.reportInj s inj source kind sev cls val).clock = s.clock ∧ (State.reportInj s inj source kind sev cls val).dict = s.dict ∧
    (State.reportInj s inj source kind sev cls val).sec = s.sec ∧ (State.reportInj s inj source kind sev cls val).pair = s.pair ∧
    (State.reportInj s inj source kind sev cls val).tally = s.tally ∧ (State.reportInj s inj source kind sev cls val).inject = s.inject ∧
    (State.reportInj s inj source kind sev cls val).power = s.power ∧ (State.reportInj s inj source kind sev cls val).lookout = s.lookout ∧
    (State.reportInj s inj source kind sev cls val).storage = s.storage ∧ (State.reportInj s inj source kind sev cls val).update = s.update ∧
    (State.reportInj s inj source kind sev cls val).seat = s.seat ∧ (State.reportInj s inj source kind sev cls val).boundary = s.boundary ∧
    (State.reportInj s inj source kind sev cls val).pending = s.pending := by
  unfold State.reportInj
  first
    | exact ⟨rfl, rfl, rfl, rfl, rfl, rfl, rfl, rfl, rfl, rfl, rfl, rfl, rfl, rfl, rfl, rfl, rfl, rfl, rfl, rfl, rfl, rfl, rfl, rfl, rfl, rfl, rfl, rfl, rfl⟩
    | (simp; done)
    | (refine ⟨?_, ?_, ?_, ?_, ?_, ?_, ?_, ?_, ?_, ?_, ?_, ?_, ?_, ?_, ?_, ?_, ?_, ?_, ?_, ?_, ?_, ?_, ?_, ?_, ?_, ?_, ?_, ?_, ?_⟩ <;> (repeat' split) <;> first | rfl | simp)

@[simp] theorem State.clearFault_other (s : State) (source kind cls val : Nat) :
    (State.clearFault s source kind cls val).core = s.core ∧ (State.clearFault s source kind cls val).ring = s.ring ∧
    (State.clearFault s source kind cls val).heads = s.heads ∧ (State.clearFault s source kind cls val).tap = s.tap ∧
    (State.clearFault s source kind cls val).fe = s.fe ∧ (State.clearFault s source kind cls val).cells = s.cells ∧
    (State.clearFault s source kind cls val).points = s.points ∧ (State.clearFault s source kind cls val).scaler = s.scaler ∧
    (State.clearFault s source kind cls val).cruiser = s.cruiser ∧ (State.clearFault s source kind cls val).borer = s.borer ∧
    (State.clearFault s source kind cls val).thin = s.thin ∧ (State.clearFault s source kind cls val).fb = s.fb ∧
    (State.clearFault s source kind cls val).sawyer = s.sawyer ∧ (State.clearFault s source kind cls val).canopy = s.canopy ∧
    (State.clearFault s source kind cls val).axes = s.axes ∧ (State.clearFault s source kind cls val).links = s.links ∧
    (State.clearFault s source kind cls val).clock = s.clock ∧ (State.clearFault s source kind cls val).dict = s.dict ∧
    (State.clearFault s source kind cls val).sec = s.sec ∧ (State.clearFault s source kind cls val).pair = s.pair ∧
    (State.clearFault s source kind cls val).tally = s.tally ∧ (State.clearFault s source kind cls val).inject = s.inject ∧
    (State.clearFault s source kind cls val).power = s.power ∧ (State.clearFault s source kind cls val).lookout = s.lookout ∧
    (State.clearFault s source kind cls val).storage = s.storage ∧ (State.clearFault s source kind cls val).update = s.update ∧
    (State.clearFault s source kind cls val).seat = s.seat ∧ (State.clearFault s source kind cls val).boundary = s.boundary ∧
    (State.clearFault s source kind cls val).pending = s.pending := by
  unfold State.clearFault
  first
    | exact ⟨rfl, rfl, rfl, rfl, rfl, rfl, rfl, rfl, rfl, rfl, rfl, rfl, rfl, rfl, rfl, rfl, rfl, rfl, rfl, rfl, rfl, rfl, rfl, rfl, rfl, rfl, rfl, rfl, rfl⟩
    | (simp; done)
    | (refine ⟨?_, ?_, ?_, ?_, ?_, ?_, ?_, ?_, ?_, ?_, ?_, ?_, ?_, ?_, ?_, ?_, ?_, ?_, ?_, ?_, ?_, ?_, ?_, ?_, ?_, ?_, ?_, ?_, ?_⟩ <;> (repeat' split) <;> first | rfl | simp)

@[simp] theorem State.raiseOnce_other (s : State) (source kind : Nat) (sev : Sev) (cls val : Nat) :
    (State.raiseOnce s source kind sev cls val).core = s.core ∧ (State.raiseOnce s source kind sev cls val).ring = s.ring ∧
    (State.raiseOnce s source kind sev cls val).heads = s.heads ∧ (State.raiseOnce s source kind sev cls val).tap = s.tap ∧
    (State.raiseOnce s source kind sev cls val).fe = s.fe ∧ (State.raiseOnce s source kind sev cls val).cells = s.cells ∧
    (State.raiseOnce s source kind sev cls val).points = s.points ∧ (State.raiseOnce s source kind sev cls val).scaler = s.scaler ∧
    (State.raiseOnce s source kind sev cls val).cruiser = s.cruiser ∧ (State.raiseOnce s source kind sev cls val).borer = s.borer ∧
    (State.raiseOnce s source kind sev cls val).thin = s.thin ∧ (State.raiseOnce s source kind sev cls val).fb = s.fb ∧
    (State.raiseOnce s source kind sev cls val).sawyer = s.sawyer ∧ (State.raiseOnce s source kind sev cls val).canopy = s.canopy ∧
    (State.raiseOnce s source kind sev cls val).axes = s.axes ∧ (State.raiseOnce s source kind sev cls val).links = s.links ∧
    (State.raiseOnce s source kind sev cls val).clock = s.clock ∧ (State.raiseOnce s source kind sev cls val).dict = s.dict ∧
    (State.raiseOnce s source kind sev cls val).sec = s.sec ∧ (State.raiseOnce s source kind sev cls val).pair = s.pair ∧
    (State.raiseOnce s source kind sev cls val).tally = s.tally ∧ (State.raiseOnce s source kind sev cls val).inject = s.inject ∧
    (State.raiseOnce s source kind sev cls val).power = s.power ∧ (State.raiseOnce s source kind sev cls val).lookout = s.lookout ∧
    (State.raiseOnce s source kind sev cls val).storage = s.storage ∧ (State.raiseOnce s source kind sev cls val).update = s.update ∧
    (State.raiseOnce s source kind sev cls val).seat = s.seat ∧ (State.raiseOnce s source kind sev cls val).boundary = s.boundary ∧
    (State.raiseOnce s source kind sev cls val).pending = s.pending := by
  unfold State.raiseOnce
  first
    | exact ⟨rfl, rfl, rfl, rfl, rfl, rfl, rfl, rfl, rfl, rfl, rfl, rfl, rfl, rfl, rfl, rfl, rfl, rfl, rfl, rfl, rfl, rfl, rfl, rfl, rfl, rfl, rfl, rfl, rfl⟩
    | (simp; done)
    | (refine ⟨?_, ?_, ?_, ?_, ?_, ?_, ?_, ?_, ?_, ?_, ?_, ?_, ?_, ?_, ?_, ?_, ?_, ?_, ?_, ?_, ?_, ?_, ?_, ?_, ?_, ?_, ?_, ?_, ?_⟩ <;> (repeat' split) <;> first | rfl | simp)

@[simp] theorem State.clearOnce_other (s : State) (source kind cls val : Nat) :
    (State.clearOnce s source kind cls val).core = s.core ∧ (State.clearOnce s source kind cls val).ring = s.ring ∧
    (State.clearOnce s source kind cls val).heads = s.heads ∧ (State.clearOnce s source kind cls val).tap = s.tap ∧
    (State.clearOnce s source kind cls val).fe = s.fe ∧ (State.clearOnce s source kind cls val).cells = s.cells ∧
    (State.clearOnce s source kind cls val).points = s.points ∧ (State.clearOnce s source kind cls val).scaler = s.scaler ∧
    (State.clearOnce s source kind cls val).cruiser = s.cruiser ∧ (State.clearOnce s source kind cls val).borer = s.borer ∧
    (State.clearOnce s source kind cls val).thin = s.thin ∧ (State.clearOnce s source kind cls val).fb = s.fb ∧
    (State.clearOnce s source kind cls val).sawyer = s.sawyer ∧ (State.clearOnce s source kind cls val).canopy = s.canopy ∧
    (State.clearOnce s source kind cls val).axes = s.axes ∧ (State.clearOnce s source kind cls val).links = s.links ∧
    (State.clearOnce s source kind cls val).clock = s.clock ∧ (State.clearOnce s source kind cls val).dict = s.dict ∧
    (State.clearOnce s source kind cls val).sec = s.sec ∧ (State.clearOnce s source kind cls val).pair = s.pair ∧
    (State.clearOnce s source kind cls val).tally = s.tally ∧ (State.clearOnce s source kind cls val).inject = s.inject ∧
    (State.clearOnce s source kind cls val).power = s.power ∧ (State.clearOnce s source kind cls val).lookout = s.lookout ∧
    (State.clearOnce s source kind cls val).storage = s.storage ∧ (State.clearOnce s source kind cls val).update = s.update ∧
    (State.clearOnce s source kind cls val).seat = s.seat ∧ (State.clearOnce s source kind cls val).boundary = s.boundary ∧
    (State.clearOnce s source kind cls val).pending = s.pending := by
  unfold State.clearOnce
  first
    | exact ⟨rfl, rfl, rfl, rfl, rfl, rfl, rfl, rfl, rfl, rfl, rfl, rfl, rfl, rfl, rfl, rfl, rfl, rfl, rfl, rfl, rfl, rfl, rfl, rfl, rfl, rfl, rfl, rfl, rfl⟩
    | (simp; done)
    | (refine ⟨?_, ?_, ?_, ?_, ?_, ?_, ?_, ?_, ?_, ?_, ?_, ?_, ?_, ?_, ?_, ?_, ?_, ?_, ?_, ?_, ?_, ?_, ?_, ?_, ?_, ?_, ?_, ?_, ?_⟩ <;> (repeat' split) <;> first | rfl | simp)

@[simp] theorem State.tallyFlags_other (s : State) (flags kind : Nat) (body : Bytes) :
    (State.tallyFlags s flags kind body).core = s.core ∧ (State.tallyFlags s flags kind body).ring = s.ring ∧
    (State.tallyFlags s flags kind body).heads = s.heads ∧ (State.tallyFlags s flags kind body).tap = s.tap ∧
    (State.tallyFlags s flags kind body).fe = s.fe ∧ (State.tallyFlags s flags kind body).cells = s.cells ∧
    (State.tallyFlags s flags kind body).points = s.points ∧ (State.tallyFlags s flags kind body).scaler = s.scaler ∧
    (State.tallyFlags s flags kind body).cruiser = s.cruiser ∧ (State.tallyFlags s flags kind body).borer = s.borer ∧
    (State.tallyFlags s flags kind body).thin = s.thin ∧ (State.tallyFlags s flags kind body).fb = s.fb ∧
    (State.tallyFlags s flags kind body).sawyer = s.sawyer ∧ (State.tallyFlags s flags kind body).canopy = s.canopy ∧
    (State.tallyFlags s flags kind body).axes = s.axes ∧ (State.tallyFlags s flags kind body).links = s.links ∧
    (State.tallyFlags s flags kind body).clock = s.clock ∧ (State.tallyFlags s flags kind body).dict = s.dict ∧
    (State.tallyFlags s flags kind body).sec = s.sec ∧ (State.tallyFlags s flags kind body).pair = s.pair ∧
    (State.tallyFlags s flags kind body).ranger = s.ranger ∧ (State.tallyFlags s flags kind body).inject = s.inject ∧
    (State.tallyFlags s flags kind body).power = s.power ∧ (State.tallyFlags s flags kind body).lookout = s.lookout ∧
    (State.tallyFlags s flags kind body).storage = s.storage ∧ (State.tallyFlags s flags kind body).update = s.update ∧
    (State.tallyFlags s flags kind body).seat = s.seat ∧ (State.tallyFlags s flags kind body).boundary = s.boundary ∧
    (State.tallyFlags s flags kind body).pending = s.pending := by
  unfold State.tallyFlags
  first
    | exact ⟨rfl, rfl, rfl, rfl, rfl, rfl, rfl, rfl, rfl, rfl, rfl, rfl, rfl, rfl, rfl, rfl, rfl, rfl, rfl, rfl, rfl, rfl, rfl, rfl, rfl, rfl, rfl, rfl, rfl⟩
    | (simp; done)
    | (refine ⟨?_, ?_, ?_, ?_, ?_, ?_, ?_, ?_, ?_, ?_, ?_, ?_, ?_, ?_, ?_, ?_, ?_, ?_, ?_, ?_, ?_, ?_, ?_, ?_, ?_, ?_, ?_, ?_, ?_⟩ <;> (repeat' split) <;> first | rfl | simp)

@[simp] theorem State.tell_other (s : State) (kind : Nat) (body : Bytes) :
    (State.tell s kind body).core = s.core ∧ (State.tell s kind body).ring = s.ring ∧ (State.tell s kind body).heads = s.heads ∧
    (State.tell s kind body).tap = s.tap ∧ (State.tell s kind body).fe = s.fe ∧ (State.tell s kind body).cells = s.cells ∧
    (State.tell s kind body).points = s.points ∧ (State.tell s kind body).scaler = s.scaler ∧ (State.tell s kind body).cruiser = s.cruiser ∧
    (State.tell s kind body).borer = s.borer ∧ (State.tell s kind body).thin = s.thin ∧ (State.tell s kind body).fb = s.fb ∧
    (State.tell s kind body).sawyer = s.sawyer ∧ (State.tell s kind body).canopy = s.canopy ∧ (State.tell s kind body).axes = s.axes ∧
    (State.tell s kind body).links = s.links ∧ (State.tell s kind body).clock = s.clock ∧ (State.tell s kind body).dict = s.dict ∧
    (State.tell s kind body).sec = s.sec ∧ (State.tell s kind body).pair = s.pair ∧ (State.tell s kind body).ranger = s.ranger ∧
    (State.tell s kind body).inject = s.inject ∧ (State.tell s kind body).power = s.power ∧ (State.tell s kind body).lookout = s.lookout ∧
    (State.tell s kind body).storage = s.storage ∧ (State.tell s kind body).update = s.update ∧ (State.tell s kind body).seat = s.seat ∧
    (State.tell s kind body).boundary = s.boundary ∧ (State.tell s kind body).pending = s.pending := by
  unfold State.tell
  first
    | exact ⟨rfl, rfl, rfl, rfl, rfl, rfl, rfl, rfl, rfl, rfl, rfl, rfl, rfl, rfl, rfl, rfl, rfl, rfl, rfl, rfl, rfl, rfl, rfl, rfl, rfl, rfl, rfl, rfl, rfl⟩
    | (simp; done)
    | (refine ⟨?_, ?_, ?_, ?_, ?_, ?_, ?_, ?_, ?_, ?_, ?_, ?_, ?_, ?_, ?_, ?_, ?_, ?_, ?_, ?_, ?_, ?_, ?_, ?_, ?_, ?_, ?_, ?_, ?_⟩ <;> (repeat' split) <;> first | rfl | simp)

@[simp] theorem State.tellEvent_other (s : State) (kind event subject : Nat) (items : Bytes) :
    (State.tellEvent s kind event subject items).core = s.core ∧ (State.tellEvent s kind event subject items).ring = s.ring ∧
    (State.tellEvent s kind event subject items).heads = s.heads ∧ (State.tellEvent s kind event subject items).tap = s.tap ∧
    (State.tellEvent s kind event subject items).fe = s.fe ∧ (State.tellEvent s kind event subject items).cells = s.cells ∧
    (State.tellEvent s kind event subject items).points = s.points ∧ (State.tellEvent s kind event subject items).scaler = s.scaler ∧
    (State.tellEvent s kind event subject items).cruiser = s.cruiser ∧ (State.tellEvent s kind event subject items).borer = s.borer ∧
    (State.tellEvent s kind event subject items).thin = s.thin ∧ (State.tellEvent s kind event subject items).fb = s.fb ∧
    (State.tellEvent s kind event subject items).sawyer = s.sawyer ∧ (State.tellEvent s kind event subject items).canopy = s.canopy ∧
    (State.tellEvent s kind event subject items).axes = s.axes ∧ (State.tellEvent s kind event subject items).links = s.links ∧
    (State.tellEvent s kind event subject items).clock = s.clock ∧ (State.tellEvent s kind event subject items).dict = s.dict ∧
    (State.tellEvent s kind event subject items).sec = s.sec ∧ (State.tellEvent s kind event subject items).pair = s.pair ∧
    (State.tellEvent s kind event subject items).ranger = s.ranger ∧ (State.tellEvent s kind event subject items).inject = s.inject ∧
    (State.tellEvent s kind event subject items).power = s.power ∧ (State.tellEvent s kind event subject items).lookout = s.lookout ∧
    (State.tellEvent s kind event subject items).storage = s.storage ∧ (State.tellEvent s kind event subject items).update = s.update ∧
    (State.tellEvent s kind event subject items).seat = s.seat ∧ (State.tellEvent s kind event subject items).boundary = s.boundary ∧
    (State.tellEvent s kind event subject items).pending = s.pending := by
  unfold State.tellEvent
  first
    | exact ⟨rfl, rfl, rfl, rfl, rfl, rfl, rfl, rfl, rfl, rfl, rfl, rfl, rfl, rfl, rfl, rfl, rfl, rfl, rfl, rfl, rfl, rfl, rfl, rfl, rfl, rfl, rfl, rfl, rfl⟩
    | (simp; done)
    | (refine ⟨?_, ?_, ?_, ?_, ?_, ?_, ?_, ?_, ?_, ?_, ?_, ?_, ?_, ?_, ?_, ?_, ?_, ?_, ?_, ?_, ?_, ?_, ?_, ?_, ?_, ?_, ?_, ?_, ?_⟩ <;> (repeat' split) <;> first | rfl | simp)

@[simp] theorem State.journal_other (s : State) (slot kind : Nat) (payload : Bytes) :
    (State.journal s slot kind payload).core = s.core ∧ (State.journal s slot kind payload).ring = s.ring ∧
    (State.journal s slot kind payload).heads = s.heads ∧ (State.journal s slot kind payload).tap = s.tap ∧
    (State.journal s slot kind payload).fe = s.fe ∧ (State.journal s slot kind payload).cells = s.cells ∧
    (State.journal s slot kind payload).points = s.points ∧ (State.journal s slot kind payload).scaler = s.scaler ∧
    (State.journal s slot kind payload).cruiser = s.cruiser ∧ (State.journal s slot kind payload).borer = s.borer ∧
    (State.journal s slot kind payload).thin = s.thin ∧ (State.journal s slot kind payload).fb = s.fb ∧
    (State.journal s slot kind payload).sawyer = s.sawyer ∧ (State.journal s slot kind payload).canopy = s.canopy ∧
    (State.journal s slot kind payload).axes = s.axes ∧ (State.journal s slot kind payload).links = s.links ∧
    (State.journal s slot kind payload).clock = s.clock ∧ (State.journal s slot kind payload).dict = s.dict ∧
    (State.journal s slot kind payload).sec = s.sec ∧ (State.journal s slot kind payload).pair = s.pair ∧
    (State.journal s slot kind payload).ranger = s.ranger ∧ (State.journal s slot kind payload).tally = s.tally ∧
    (State.journal s slot kind payload).inject = s.inject ∧ (State.journal s slot kind payload).power = s.power ∧
    (State.journal s slot kind payload).lookout = s.lookout ∧ (State.journal s slot kind payload).update = s.update ∧
    (State.journal s slot kind payload).seat = s.seat ∧ (State.journal s slot kind payload).boundary = s.boundary ∧
    (State.journal s slot kind payload).pending = s.pending := by
  unfold State.journal
  first
    | exact ⟨rfl, rfl, rfl, rfl, rfl, rfl, rfl, rfl, rfl, rfl, rfl, rfl, rfl, rfl, rfl, rfl, rfl, rfl, rfl, rfl, rfl, rfl, rfl, rfl, rfl, rfl, rfl, rfl, rfl⟩
    | (simp; done)
    | (refine ⟨?_, ?_, ?_, ?_, ?_, ?_, ?_, ?_, ?_, ?_, ?_, ?_, ?_, ?_, ?_, ?_, ?_, ?_, ?_, ?_, ?_, ?_, ?_, ?_, ?_, ?_, ?_, ?_, ?_⟩ <;> (repeat' split) <;> first | rfl | simp)

@[simp] theorem State.answer_other (s : State) (r : Response) :
    (State.answer s r).core = s.core ∧ (State.answer s r).ring = s.ring ∧ (State.answer s r).heads = s.heads ∧ (State.answer s r).tap = s.tap ∧
    (State.answer s r).fe = s.fe ∧ (State.answer s r).cells = s.cells ∧ (State.answer s r).points = s.points ∧
    (State.answer s r).scaler = s.scaler ∧ (State.answer s r).cruiser = s.cruiser ∧ (State.answer s r).borer = s.borer ∧
    (State.answer s r).thin = s.thin ∧ (State.answer s r).fb = s.fb ∧ (State.answer s r).sawyer = s.sawyer ∧
    (State.answer s r).canopy = s.canopy ∧ (State.answer s r).axes = s.axes ∧ (State.answer s r).links = s.links ∧
    (State.answer s r).clock = s.clock ∧ (State.answer s r).sec = s.sec ∧ (State.answer s r).pair = s.pair ∧
    (State.answer s r).ranger = s.ranger ∧ (State.answer s r).tally = s.tally ∧ (State.answer s r).inject = s.inject ∧
    (State.answer s r).power = s.power ∧ (State.answer s r).lookout = s.lookout ∧ (State.answer s r).storage = s.storage ∧
    (State.answer s r).update = s.update ∧ (State.answer s r).seat = s.seat ∧ (State.answer s r).boundary = s.boundary ∧
    (State.answer s r).pending = s.pending := by
  unfold State.answer
  first
    | exact ⟨rfl, rfl, rfl, rfl, rfl, rfl, rfl, rfl, rfl, rfl, rfl, rfl, rfl, rfl, rfl, rfl, rfl, rfl, rfl, rfl, rfl, rfl, rfl, rfl, rfl, rfl, rfl, rfl, rfl⟩
    | (simp; done)
    | (refine ⟨?_, ?_, ?_, ?_, ?_, ?_, ?_, ?_, ?_, ?_, ?_, ?_, ?_, ?_, ?_, ?_, ?_, ?_, ?_, ?_, ?_, ?_, ?_, ?_, ?_, ?_, ?_, ?_, ?_⟩ <;> (repeat' split) <;> first | rfl | simp)

@[simp] theorem State.replyAt_other (s : State) (session req type abort : Nat) (cyc : Cycle) :
    (State.replyAt s session req type abort cyc).core = s.core ∧ (State.replyAt s session req type abort cyc).ring = s.ring ∧
    (State.replyAt s session req type abort cyc).heads = s.heads ∧ (State.replyAt s session req type abort cyc).tap = s.tap ∧
    (State.replyAt s session req type abort cyc).fe = s.fe ∧ (State.replyAt s session req type abort cyc).cells = s.cells ∧
    (State.replyAt s session req type abort cyc).points = s.points ∧ (State.replyAt s session req type abort cyc).scaler = s.scaler ∧
    (State.replyAt s session req type abort cyc).cruiser = s.cruiser ∧ (State.replyAt s session req type abort cyc).borer = s.borer ∧
    (State.replyAt s session req type abort cyc).thin = s.thin ∧ (State.replyAt s session req type abort cyc).fb = s.fb ∧
    (State.replyAt s session req type abort cyc).sawyer = s.sawyer ∧ (State.replyAt s session req type abort cyc).canopy = s.canopy ∧
    (State.replyAt s session req type abort cyc).axes = s.axes ∧ (State.replyAt s session req type abort cyc).links = s.links ∧
    (State.replyAt s session req type abort cyc).clock = s.clock ∧ (State.replyAt s session req type abort cyc).sec = s.sec ∧
    (State.replyAt s session req type abort cyc).pair = s.pair ∧ (State.replyAt s session req type abort cyc).ranger = s.ranger ∧
    (State.replyAt s session req type abort cyc).tally = s.tally ∧ (State.replyAt s session req type abort cyc).inject = s.inject ∧
    (State.replyAt s session req type abort cyc).power = s.power ∧ (State.replyAt s session req type abort cyc).lookout = s.lookout ∧
    (State.replyAt s session req type abort cyc).storage = s.storage ∧ (State.replyAt s session req type abort cyc).update = s.update ∧
    (State.replyAt s session req type abort cyc).seat = s.seat ∧ (State.replyAt s session req type abort cyc).boundary = s.boundary ∧
    (State.replyAt s session req type abort cyc).pending = s.pending := by
  unfold State.replyAt
  first
    | exact ⟨rfl, rfl, rfl, rfl, rfl, rfl, rfl, rfl, rfl, rfl, rfl, rfl, rfl, rfl, rfl, rfl, rfl, rfl, rfl, rfl, rfl, rfl, rfl, rfl, rfl, rfl, rfl, rfl, rfl⟩
    | (simp; done)
    | (refine ⟨?_, ?_, ?_, ?_, ?_, ?_, ?_, ?_, ?_, ?_, ?_, ?_, ?_, ?_, ?_, ?_, ?_, ?_, ?_, ?_, ?_, ?_, ?_, ?_, ?_, ?_, ?_, ?_, ?_⟩ <;> (repeat' split) <;> first | rfl | simp)

@[simp] theorem State.reply_other (s : State) (session req type abort : Nat) :
    (State.reply s session req type abort).core = s.core ∧ (State.reply s session req type abort).ring = s.ring ∧
    (State.reply s session req type abort).heads = s.heads ∧ (State.reply s session req type abort).tap = s.tap ∧
    (State.reply s session req type abort).fe = s.fe ∧ (State.reply s session req type abort).cells = s.cells ∧
    (State.reply s session req type abort).points = s.points ∧ (State.reply s session req type abort).scaler = s.scaler ∧
    (State.reply s session req type abort).cruiser = s.cruiser ∧ (State.reply s session req type abort).borer = s.borer ∧
    (State.reply s session req type abort).thin = s.thin ∧ (State.reply s session req type abort).fb = s.fb ∧
    (State.reply s session req type abort).sawyer = s.sawyer ∧ (State.reply s session req type abort).canopy = s.canopy ∧
    (State.reply s session req type abort).axes = s.axes ∧ (State.reply s session req type abort).links = s.links ∧
    (State.reply s session req type abort).clock = s.clock ∧ (State.reply s session req type abort).sec = s.sec ∧
    (State.reply s session req type abort).pair = s.pair ∧ (State.reply s session req type abort).ranger = s.ranger ∧
    (State.reply s session req type abort).tally = s.tally ∧ (State.reply s session req type abort).inject = s.inject ∧
    (State.reply s session req type abort).power = s.power ∧ (State.reply s session req type abort).lookout = s.lookout ∧
    (State.reply s session req type abort).storage = s.storage ∧ (State.reply s session req type abort).update = s.update ∧
    (State.reply s session req type abort).seat = s.seat ∧ (State.reply s session req type abort).boundary = s.boundary ∧
    (State.reply s session req type abort).pending = s.pending := by
  unfold State.reply
  first
    | exact ⟨rfl, rfl, rfl, rfl, rfl, rfl, rfl, rfl, rfl, rfl, rfl, rfl, rfl, rfl, rfl, rfl, rfl, rfl, rfl, rfl, rfl, rfl, rfl, rfl, rfl, rfl, rfl, rfl, rfl⟩
    | (simp; done)
    | (refine ⟨?_, ?_, ?_, ?_, ?_, ?_, ?_, ?_, ?_, ?_, ?_, ?_, ?_, ?_, ?_, ?_, ?_, ?_, ?_, ?_, ?_, ?_, ?_, ?_, ?_, ?_, ?_, ?_, ?_⟩ <;> (repeat' split) <;> first | rfl | simp)

@[simp] theorem State.modSession_other (s : State) (n : Nat) (f : Session → Session) :
    (State.modSession s n f).core = s.core ∧ (State.modSession s n f).ring = s.ring ∧ (State.modSession s n f).heads = s.heads ∧
    (State.modSession s n f).tap = s.tap ∧ (State.modSession s n f).fe = s.fe ∧ (State.modSession s n f).cells = s.cells ∧
    (State.modSession s n f).points = s.points ∧ (State.modSession s n f).scaler = s.scaler ∧ (State.modSession s n f).cruiser = s.cruiser ∧
    (State.modSession s n f).borer = s.borer ∧ (State.modSession s n f).thin = s.thin ∧ (State.modSession s n f).fb = s.fb ∧
    (State.modSession s n f).sawyer = s.sawyer ∧ (State.modSession s n f).canopy = s.canopy ∧ (State.modSession s n f).axes = s.axes ∧
    (State.modSession s n f).links = s.links ∧ (State.modSession s n f).clock = s.clock ∧ (State.modSession s n f).sec = s.sec ∧
    (State.modSession s n f).pair = s.pair ∧ (State.modSession s n f).ranger = s.ranger ∧ (State.modSession s n f).tally = s.tally ∧
    (State.modSession s n f).inject = s.inject ∧ (State.modSession s n f).power = s.power ∧ (State.modSession s n f).lookout = s.lookout ∧
    (State.modSession s n f).storage = s.storage ∧ (State.modSession s n f).update = s.update ∧ (State.modSession s n f).seat = s.seat ∧
    (State.modSession s n f).boundary = s.boundary ∧ (State.modSession s n f).pending = s.pending := by
  unfold State.modSession
  first
    | exact ⟨rfl, rfl, rfl, rfl, rfl, rfl, rfl, rfl, rfl, rfl, rfl, rfl, rfl, rfl, rfl, rfl, rfl, rfl, rfl, rfl, rfl, rfl, rfl, rfl, rfl, rfl, rfl, rfl, rfl⟩
    | (simp; done)
    | (refine ⟨?_, ?_, ?_, ?_, ?_, ?_, ?_, ?_, ?_, ?_, ?_, ?_, ?_, ?_, ?_, ?_, ?_, ?_, ?_, ?_, ?_, ?_, ?_, ?_, ?_, ?_, ?_, ?_, ?_⟩ <;> (repeat' split) <;> first | rfl | simp)

@[simp] theorem State.modCell_other (s : State) (k : Nat) (f : CellState → CellState) :
    (State.modCell s k f).core = s.core ∧ (State.modCell s k f).ring = s.ring ∧ (State.modCell s k f).heads = s.heads ∧
    (State.modCell s k f).tap = s.tap ∧ (State.modCell s k f).fe = s.fe ∧ (State.modCell s k f).points = s.points ∧
    (State.modCell s k f).scaler = s.scaler ∧ (State.modCell s k f).cruiser = s.cruiser ∧ (State.modCell s k f).borer = s.borer ∧
    (State.modCell s k f).thin = s.thin ∧ (State.modCell s k f).fb = s.fb ∧ (State.modCell s k f).sawyer = s.sawyer ∧
    (State.modCell s k f).canopy = s.canopy ∧ (State.modCell s k f).axes = s.axes ∧ (State.modCell s k f).links = s.links ∧
    (State.modCell s k f).clock = s.clock ∧ (State.modCell s k f).dict = s.dict ∧ (State.modCell s k f).sec = s.sec ∧
    (State.modCell s k f).pair = s.pair ∧ (State.modCell s k f).ranger = s.ranger ∧ (State.modCell s k f).tally = s.tally ∧
    (State.modCell s k f).inject = s.inject ∧ (State.modCell s k f).power = s.power ∧ (State.modCell s k f).lookout = s.lookout ∧
    (State.modCell s k f).storage = s.storage ∧ (State.modCell s k f).update = s.update ∧ (State.modCell s k f).seat = s.seat ∧
    (State.modCell s k f).boundary = s.boundary ∧ (State.modCell s k f).pending = s.pending := by
  unfold State.modCell
  first
    | exact ⟨rfl, rfl, rfl, rfl, rfl, rfl, rfl, rfl, rfl, rfl, rfl, rfl, rfl, rfl, rfl, rfl, rfl, rfl, rfl, rfl, rfl, rfl, rfl, rfl, rfl, rfl, rfl, rfl, rfl⟩
    | (simp; done)
    | (refine ⟨?_, ?_, ?_, ?_, ?_, ?_, ?_, ?_, ?_, ?_, ?_, ?_, ?_, ?_, ?_, ?_, ?_, ?_, ?_, ?_, ?_, ?_, ?_, ?_, ?_, ?_, ?_, ?_, ?_⟩ <;> (repeat' split) <;> first | rfl | simp)

@[simp] theorem State.setFe_other (s : State) (i : Nat) (v : Bool) :
    (State.setFe s i v).core = s.core ∧ (State.setFe s i v).ring = s.ring ∧ (State.setFe s i v).heads = s.heads ∧
    (State.setFe s i v).tap = s.tap ∧ (State.setFe s i v).cells = s.cells ∧ (State.setFe s i v).points = s.points ∧
    (State.setFe s i v).scaler = s.scaler ∧ (State.setFe s i v).cruiser = s.cruiser ∧ (State.setFe s i v).borer = s.borer ∧
    (State.setFe s i v).thin = s.thin ∧ (State.setFe s i v).fb = s.fb ∧ (State.setFe s i v).sawyer = s.sawyer ∧
    (State.setFe s i v).canopy = s.canopy ∧ (State.setFe s i v).axes = s.axes ∧ (State.setFe s i v).links = s.links ∧
    (State.setFe s i v).clock = s.clock ∧ (State.setFe s i v).dict = s.dict ∧ (State.setFe s i v).sec = s.sec ∧
    (State.setFe s i v).pair = s.pair ∧ (State.setFe s i v).ranger = s.ranger ∧ (State.setFe s i v).tally = s.tally ∧
    (State.setFe s i v).inject = s.inject ∧ (State.setFe s i v).power = s.power ∧ (State.setFe s i v).lookout = s.lookout ∧
    (State.setFe s i v).storage = s.storage ∧ (State.setFe s i v).update = s.update ∧ (State.setFe s i v).seat = s.seat ∧
    (State.setFe s i v).boundary = s.boundary ∧ (State.setFe s i v).pending = s.pending := by
  unfold State.setFe
  first
    | exact ⟨rfl, rfl, rfl, rfl, rfl, rfl, rfl, rfl, rfl, rfl, rfl, rfl, rfl, rfl, rfl, rfl, rfl, rfl, rfl, rfl, rfl, rfl, rfl, rfl, rfl, rfl, rfl, rfl, rfl⟩
    | (simp; done)
    | (refine ⟨?_, ?_, ?_, ?_, ?_, ?_, ?_, ?_, ?_, ?_, ?_, ?_, ?_, ?_, ?_, ?_, ?_, ?_, ?_, ?_, ?_, ?_, ?_, ?_, ?_, ?_, ?_, ?_, ?_⟩ <;> (repeat' split) <;> first | rfl | simp)

@[simp] theorem State.setCause_other (s : State) (i : Nat) (v : Bool) :
    (State.setCause s i v).core = s.core ∧ (State.setCause s i v).ring = s.ring ∧ (State.setCause s i v).heads = s.heads ∧
    (State.setCause s i v).tap = s.tap ∧ (State.setCause s i v).fe = s.fe ∧ (State.setCause s i v).cells = s.cells ∧
    (State.setCause s i v).points = s.points ∧ (State.setCause s i v).scaler = s.scaler ∧ (State.setCause s i v).cruiser = s.cruiser ∧
    (State.setCause s i v).borer = s.borer ∧ (State.setCause s i v).thin = s.thin ∧ (State.setCause s i v).sawyer = s.sawyer ∧
    (State.setCause s i v).canopy = s.canopy ∧ (State.setCause s i v).axes = s.axes ∧ (State.setCause s i v).links = s.links ∧
    (State.setCause s i v).clock = s.clock ∧ (State.setCause s i v).dict = s.dict ∧ (State.setCause s i v).sec = s.sec ∧
    (State.setCause s i v).pair = s.pair ∧ (State.setCause s i v).ranger = s.ranger ∧ (State.setCause s i v).tally = s.tally ∧
    (State.setCause s i v).inject = s.inject ∧ (State.setCause s i v).power = s.power ∧ (State.setCause s i v).lookout = s.lookout ∧
    (State.setCause s i v).storage = s.storage ∧ (State.setCause s i v).update = s.update ∧ (State.setCause s i v).seat = s.seat ∧
    (State.setCause s i v).boundary = s.boundary ∧ (State.setCause s i v).pending = s.pending := by
  unfold State.setCause
  first
    | exact ⟨rfl, rfl, rfl, rfl, rfl, rfl, rfl, rfl, rfl, rfl, rfl, rfl, rfl, rfl, rfl, rfl, rfl, rfl, rfl, rfl, rfl, rfl, rfl, rfl, rfl, rfl, rfl, rfl, rfl⟩
    | (simp; done)
    | (refine ⟨?_, ?_, ?_, ?_, ?_, ?_, ?_, ?_, ?_, ?_, ?_, ?_, ?_, ?_, ?_, ?_, ?_, ?_, ?_, ?_, ?_, ?_, ?_, ?_, ?_, ?_, ?_, ?_, ?_⟩ <;> (repeat' split) <;> first | rfl | simp)

@[simp] theorem State.setDomains_other (s : State) (l : List Nat) (v : Bool) :
    (State.setDomains s l v).core = s.core ∧ (State.setDomains s l v).ring = s.ring ∧ (State.setDomains s l v).heads = s.heads ∧
    (State.setDomains s l v).tap = s.tap ∧ (State.setDomains s l v).fe = s.fe ∧ (State.setDomains s l v).cells = s.cells ∧
    (State.setDomains s l v).points = s.points ∧ (State.setDomains s l v).scaler = s.scaler ∧ (State.setDomains s l v).cruiser = s.cruiser ∧
    (State.setDomains s l v).borer = s.borer ∧ (State.setDomains s l v).thin = s.thin ∧ (State.setDomains s l v).fb = s.fb ∧
    (State.setDomains s l v).sawyer = s.sawyer ∧ (State.setDomains s l v).canopy = s.canopy ∧ (State.setDomains s l v).axes = s.axes ∧
    (State.setDomains s l v).links = s.links ∧ (State.setDomains s l v).clock = s.clock ∧ (State.setDomains s l v).dict = s.dict ∧
    (State.setDomains s l v).sec = s.sec ∧ (State.setDomains s l v).pair = s.pair ∧ (State.setDomains s l v).ranger = s.ranger ∧
    (State.setDomains s l v).tally = s.tally ∧ (State.setDomains s l v).inject = s.inject ∧ (State.setDomains s l v).lookout = s.lookout ∧
    (State.setDomains s l v).storage = s.storage ∧ (State.setDomains s l v).update = s.update ∧ (State.setDomains s l v).seat = s.seat ∧
    (State.setDomains s l v).boundary = s.boundary ∧ (State.setDomains s l v).pending = s.pending := by
  unfold State.setDomains
  first
    | exact ⟨rfl, rfl, rfl, rfl, rfl, rfl, rfl, rfl, rfl, rfl, rfl, rfl, rfl, rfl, rfl, rfl, rfl, rfl, rfl, rfl, rfl, rfl, rfl, rfl, rfl, rfl, rfl, rfl, rfl⟩
    | (simp; done)
    | (refine ⟨?_, ?_, ?_, ?_, ?_, ?_, ?_, ?_, ?_, ?_, ?_, ?_, ?_, ?_, ?_, ?_, ?_, ?_, ?_, ?_, ?_, ?_, ?_, ?_, ?_, ?_, ?_, ?_, ?_⟩ <;> (repeat' split) <;> first | rfl | simp)

@[simp] theorem State.modContactor_other (s : State) (k : Nat) (f : Contactor → Contactor) :
    (State.modContactor s k f).core = s.core ∧ (State.modContactor s k f).ring = s.ring ∧ (State.modContactor s k f).heads = s.heads ∧
    (State.modContactor s k f).tap = s.tap ∧ (State.modContactor s k f).cells = s.cells ∧ (State.modContactor s k f).points = s.points ∧
    (State.modContactor s k f).scaler = s.scaler ∧ (State.modContactor s k f).cruiser = s.cruiser ∧ (State.modContactor s k f).borer = s.borer ∧
    (State.modContactor s k f).thin = s.thin ∧ (State.modContactor s k f).fb = s.fb ∧ (State.modContactor s k f).sawyer = s.sawyer ∧
    (State.modContactor s k f).canopy = s.canopy ∧ (State.modContactor s k f).axes = s.axes ∧ (State.modContactor s k f).links = s.links ∧
    (State.modContactor s k f).clock = s.clock ∧ (State.modContactor s k f).dict = s.dict ∧ (State.modContactor s k f).sec = s.sec ∧
    (State.modContactor s k f).pair = s.pair ∧ (State.modContactor s k f).ranger = s.ranger ∧ (State.modContactor s k f).tally = s.tally ∧
    (State.modContactor s k f).inject = s.inject ∧ (State.modContactor s k f).power = s.power ∧ (State.modContactor s k f).lookout = s.lookout ∧
    (State.modContactor s k f).storage = s.storage ∧ (State.modContactor s k f).update = s.update ∧ (State.modContactor s k f).seat = s.seat ∧
    (State.modContactor s k f).boundary = s.boundary ∧ (State.modContactor s k f).pending = s.pending := by
  unfold State.modContactor
  first
    | exact ⟨rfl, rfl, rfl, rfl, rfl, rfl, rfl, rfl, rfl, rfl, rfl, rfl, rfl, rfl, rfl, rfl, rfl, rfl, rfl, rfl, rfl, rfl, rfl, rfl, rfl, rfl, rfl, rfl, rfl⟩
    | (simp; done)
    | (refine ⟨?_, ?_, ?_, ?_, ?_, ?_, ?_, ?_, ?_, ?_, ?_, ?_, ?_, ?_, ?_, ?_, ?_, ?_, ?_, ?_, ?_, ?_, ?_, ?_, ?_, ?_, ?_, ?_, ?_⟩ <;> (repeat' split) <;> first | rfl | simp)

@[simp] theorem State.modInfo_other (s : State) (p : Nat) (f : HeadInfo → HeadInfo) :
    (State.modInfo s p f).core = s.core ∧ (State.modInfo s p f).tap = s.tap ∧ (State.modInfo s p f).fe = s.fe ∧
    (State.modInfo s p f).cells = s.cells ∧ (State.modInfo s p f).points = s.points ∧ (State.modInfo s p f).scaler = s.scaler ∧
    (State.modInfo s p f).cruiser = s.cruiser ∧ (State.modInfo s p f).borer = s.borer ∧ (State.modInfo s p f).thin = s.thin ∧
    (State.modInfo s p f).fb = s.fb ∧ (State.modInfo s p f).sawyer = s.sawyer ∧ (State.modInfo s p f).canopy = s.canopy ∧
    (State.modInfo s p f).axes = s.axes ∧ (State.modInfo s p f).links = s.links ∧ (State.modInfo s p f).clock = s.clock ∧
    (State.modInfo s p f).dict = s.dict ∧ (State.modInfo s p f).sec = s.sec ∧ (State.modInfo s p f).pair = s.pair ∧
    (State.modInfo s p f).ranger = s.ranger ∧ (State.modInfo s p f).tally = s.tally ∧ (State.modInfo s p f).inject = s.inject ∧
    (State.modInfo s p f).power = s.power ∧ (State.modInfo s p f).lookout = s.lookout ∧ (State.modInfo s p f).storage = s.storage ∧
    (State.modInfo s p f).update = s.update ∧ (State.modInfo s p f).seat = s.seat ∧ (State.modInfo s p f).boundary = s.boundary ∧
    (State.modInfo s p f).pending = s.pending := by
  unfold State.modInfo
  first
    | exact ⟨rfl, rfl, rfl, rfl, rfl, rfl, rfl, rfl, rfl, rfl, rfl, rfl, rfl, rfl, rfl, rfl, rfl, rfl, rfl, rfl, rfl, rfl, rfl, rfl, rfl, rfl, rfl, rfl⟩
    | (simp; done)
    | (refine ⟨?_, ?_, ?_, ?_, ?_, ?_, ?_, ?_, ?_, ?_, ?_, ?_, ?_, ?_, ?_, ?_, ?_, ?_, ?_, ?_, ?_, ?_, ?_, ?_, ?_, ?_, ?_, ?_⟩ <;> (repeat' split) <;> first | rfl | simp)

@[simp] theorem State.count_other (s : State) (port row n : Nat) :
    (State.count s port row n).core = s.core ∧ (State.count s port row n).heads = s.heads ∧ (State.count s port row n).tap = s.tap ∧
    (State.count s port row n).fe = s.fe ∧ (State.count s port row n).cells = s.cells ∧ (State.count s port row n).points = s.points ∧
    (State.count s port row n).scaler = s.scaler ∧ (State.count s port row n).cruiser = s.cruiser ∧ (State.count s port row n).borer = s.borer ∧
    (State.count s port row n).thin = s.thin ∧ (State.count s port row n).fb = s.fb ∧ (State.count s port row n).sawyer = s.sawyer ∧
    (State.count s port row n).canopy = s.canopy ∧ (State.count s port row n).axes = s.axes ∧ (State.count s port row n).links = s.links ∧
    (State.count s port row n).clock = s.clock ∧ (State.count s port row n).dict = s.dict ∧ (State.count s port row n).sec = s.sec ∧
    (State.count s port row n).pair = s.pair ∧ (State.count s port row n).ranger = s.ranger ∧ (State.count s port row n).tally = s.tally ∧
    (State.count s port row n).inject = s.inject ∧ (State.count s port row n).power = s.power ∧ (State.count s port row n).lookout = s.lookout ∧
    (State.count s port row n).storage = s.storage ∧ (State.count s port row n).update = s.update ∧ (State.count s port row n).seat = s.seat ∧
    (State.count s port row n).boundary = s.boundary ∧ (State.count s port row n).pending = s.pending := by
  unfold State.count
  first
    | exact ⟨rfl, rfl, rfl, rfl, rfl, rfl, rfl, rfl, rfl, rfl, rfl, rfl, rfl, rfl, rfl, rfl, rfl, rfl, rfl, rfl, rfl, rfl, rfl, rfl, rfl, rfl, rfl, rfl, rfl⟩
    | (simp; done)
    | (refine ⟨?_, ?_, ?_, ?_, ?_, ?_, ?_, ?_, ?_, ?_, ?_, ?_, ?_, ?_, ?_, ?_, ?_, ?_, ?_, ?_, ?_, ?_, ?_, ?_, ?_, ?_, ?_, ?_, ?_⟩ <;> (repeat' split) <;> first | rfl | simp)

@[simp] theorem enqueue_other (urgent : Bool) (c : RingCmd) (s : State) :
    (enqueue urgent c s).core = s.core ∧ (enqueue urgent c s).heads = s.heads ∧ (enqueue urgent c s).tap = s.tap ∧
    (enqueue urgent c s).fe = s.fe ∧ (enqueue urgent c s).cells = s.cells ∧ (enqueue urgent c s).points = s.points ∧
    (enqueue urgent c s).scaler = s.scaler ∧ (enqueue urgent c s).cruiser = s.cruiser ∧ (enqueue urgent c s).borer = s.borer ∧
    (enqueue urgent c s).thin = s.thin ∧ (enqueue urgent c s).fb = s.fb ∧ (enqueue urgent c s).sawyer = s.sawyer ∧
    (enqueue urgent c s).canopy = s.canopy ∧ (enqueue urgent c s).axes = s.axes ∧ (enqueue urgent c s).links = s.links ∧
    (enqueue urgent c s).clock = s.clock ∧ (enqueue urgent c s).dict = s.dict ∧ (enqueue urgent c s).sec = s.sec ∧
    (enqueue urgent c s).pair = s.pair ∧ (enqueue urgent c s).ranger = s.ranger ∧ (enqueue urgent c s).tally = s.tally ∧
    (enqueue urgent c s).inject = s.inject ∧ (enqueue urgent c s).power = s.power ∧ (enqueue urgent c s).lookout = s.lookout ∧
    (enqueue urgent c s).storage = s.storage ∧ (enqueue urgent c s).update = s.update ∧ (enqueue urgent c s).seat = s.seat ∧
    (enqueue urgent c s).boundary = s.boundary ∧ (enqueue urgent c s).pending = s.pending := by
  unfold enqueue
  first
    | exact ⟨rfl, rfl, rfl, rfl, rfl, rfl, rfl, rfl, rfl, rfl, rfl, rfl, rfl, rfl, rfl, rfl, rfl, rfl, rfl, rfl, rfl, rfl, rfl, rfl, rfl, rfl, rfl, rfl, rfl⟩
    | (simp; done)
    | (refine ⟨?_, ?_, ?_, ?_, ?_, ?_, ?_, ?_, ?_, ?_, ?_, ?_, ?_, ?_, ?_, ?_, ?_, ?_, ?_, ?_, ?_, ?_, ?_, ?_, ?_, ?_, ?_, ?_, ?_⟩ <;> (repeat' split) <;> first | rfl | simp)

@[simp] theorem State.command_other (s : State) (urgent : Bool) (p op : Nat) (payload : Bytes) :
    (State.command s urgent p op payload).core = s.core ∧ (State.command s urgent p op payload).heads = s.heads ∧
    (State.command s urgent p op payload).tap = s.tap ∧ (State.command s urgent p op payload).fe = s.fe ∧
    (State.command s urgent p op payload).cells = s.cells ∧ (State.command s urgent p op payload).points = s.points ∧
    (State.command s urgent p op payload).scaler = s.scaler ∧ (State.command s urgent p op payload).cruiser = s.cruiser ∧
    (State.command s urgent p op payload).borer = s.borer ∧ (State.command s urgent p op payload).thin = s.thin ∧
    (State.command s urgent p op payload).fb = s.fb ∧ (State.command s urgent p op payload).sawyer = s.sawyer ∧
    (State.command s urgent p op payload).canopy = s.canopy ∧ (State.command s urgent p op payload).axes = s.axes ∧
    (State.command s urgent p op payload).links = s.links ∧ (State.command s urgent p op payload).clock = s.clock ∧
    (State.command s urgent p op payload).dict = s.dict ∧ (State.command s urgent p op payload).sec = s.sec ∧
    (State.command s urgent p op payload).pair = s.pair ∧ (State.command s urgent p op payload).ranger = s.ranger ∧
    (State.command s urgent p op payload).tally = s.tally ∧ (State.command s urgent p op payload).inject = s.inject ∧
    (State.command s urgent p op payload).power = s.power ∧ (State.command s urgent p op payload).lookout = s.lookout ∧
    (State.command s urgent p op payload).storage = s.storage ∧ (State.command s urgent p op payload).update = s.update ∧
    (State.command s urgent p op payload).seat = s.seat ∧ (State.command s urgent p op payload).boundary = s.boundary ∧
    (State.command s urgent p op payload).pending = s.pending := by
  unfold State.command
  first
    | exact ⟨rfl, rfl, rfl, rfl, rfl, rfl, rfl, rfl, rfl, rfl, rfl, rfl, rfl, rfl, rfl, rfl, rfl, rfl, rfl, rfl, rfl, rfl, rfl, rfl, rfl, rfl, rfl, rfl, rfl⟩
    | (simp; done)
    | (refine ⟨?_, ?_, ?_, ?_, ?_, ?_, ?_, ?_, ?_, ?_, ?_, ?_, ?_, ?_, ?_, ?_, ?_, ?_, ?_, ?_, ?_, ?_, ?_, ?_, ?_, ?_, ?_, ?_, ?_⟩ <;> (repeat' split) <;> first | rfl | simp)

@[simp] theorem broadcastBleedOff_other (s : State) :
    (broadcastBleedOff s).core = s.core ∧ (broadcastBleedOff s).heads = s.heads ∧ (broadcastBleedOff s).tap = s.tap ∧
    (broadcastBleedOff s).fe = s.fe ∧ (broadcastBleedOff s).cells = s.cells ∧ (broadcastBleedOff s).points = s.points ∧
    (broadcastBleedOff s).scaler = s.scaler ∧ (broadcastBleedOff s).cruiser = s.cruiser ∧ (broadcastBleedOff s).borer = s.borer ∧
    (broadcastBleedOff s).thin = s.thin ∧ (broadcastBleedOff s).fb = s.fb ∧ (broadcastBleedOff s).sawyer = s.sawyer ∧
    (broadcastBleedOff s).canopy = s.canopy ∧ (broadcastBleedOff s).axes = s.axes ∧ (broadcastBleedOff s).links = s.links ∧
    (broadcastBleedOff s).clock = s.clock ∧ (broadcastBleedOff s).dict = s.dict ∧ (broadcastBleedOff s).sec = s.sec ∧
    (broadcastBleedOff s).pair = s.pair ∧ (broadcastBleedOff s).ranger = s.ranger ∧ (broadcastBleedOff s).tally = s.tally ∧
    (broadcastBleedOff s).inject = s.inject ∧ (broadcastBleedOff s).power = s.power ∧ (broadcastBleedOff s).lookout = s.lookout ∧
    (broadcastBleedOff s).storage = s.storage ∧ (broadcastBleedOff s).update = s.update ∧ (broadcastBleedOff s).seat = s.seat ∧
    (broadcastBleedOff s).boundary = s.boundary ∧ (broadcastBleedOff s).pending = s.pending := by
  unfold broadcastBleedOff
  first
    | exact ⟨rfl, rfl, rfl, rfl, rfl, rfl, rfl, rfl, rfl, rfl, rfl, rfl, rfl, rfl, rfl, rfl, rfl, rfl, rfl, rfl, rfl, rfl, rfl, rfl, rfl, rfl, rfl, rfl, rfl⟩
    | (simp; done)
    | (refine ⟨?_, ?_, ?_, ?_, ?_, ?_, ?_, ?_, ?_, ?_, ?_, ?_, ?_, ?_, ?_, ?_, ?_, ?_, ?_, ?_, ?_, ?_, ?_, ?_, ?_, ?_, ?_, ?_, ?_⟩ <;> (repeat' split) <;> first | rfl | simp)

@[simp] theorem State.modThin_other (s : State) (p : Nat) (f : ThinHead → ThinHead) :
    (State.modThin s p f).core = s.core ∧ (State.modThin s p f).ring = s.ring ∧ (State.modThin s p f).tap = s.tap ∧
    (State.modThin s p f).fe = s.fe ∧ (State.modThin s p f).cells = s.cells ∧ (State.modThin s p f).points = s.points ∧
    (State.modThin s p f).scaler = s.scaler ∧ (State.modThin s p f).cruiser = s.cruiser ∧ (State.modThin s p f).borer = s.borer ∧
    (State.modThin s p f).fb = s.fb ∧ (State.modThin s p f).sawyer = s.sawyer ∧ (State.modThin s p f).canopy = s.canopy ∧
    (State.modThin s p f).axes = s.axes ∧ (State.modThin s p f).links = s.links ∧ (State.modThin s p f).clock = s.clock ∧
    (State.modThin s p f).dict = s.dict ∧ (State.modThin s p f).sec = s.sec ∧ (State.modThin s p f).pair = s.pair ∧
    (State.modThin s p f).ranger = s.ranger ∧ (State.modThin s p f).tally = s.tally ∧ (State.modThin s p f).inject = s.inject ∧
    (State.modThin s p f).power = s.power ∧ (State.modThin s p f).lookout = s.lookout ∧ (State.modThin s p f).storage = s.storage ∧
    (State.modThin s p f).update = s.update ∧ (State.modThin s p f).seat = s.seat ∧ (State.modThin s p f).boundary = s.boundary ∧
    (State.modThin s p f).pending = s.pending := by
  unfold State.modThin
  first
    | exact ⟨rfl, rfl, rfl, rfl, rfl, rfl, rfl, rfl, rfl, rfl, rfl, rfl, rfl, rfl, rfl, rfl, rfl, rfl, rfl, rfl, rfl, rfl, rfl, rfl, rfl, rfl, rfl, rfl⟩
    | (simp; done)
    | (refine ⟨?_, ?_, ?_, ?_, ?_, ?_, ?_, ?_, ?_, ?_, ?_, ?_, ?_, ?_, ?_, ?_, ?_, ?_, ?_, ?_, ?_, ?_, ?_, ?_, ?_, ?_, ?_, ?_⟩ <;> (repeat' split) <;> first | rfl | simp)

@[simp] theorem setRing_other (st : RingState) (s : State) :
    (setRing st s).core = s.core ∧ (setRing st s).heads = s.heads ∧ (setRing st s).tap = s.tap ∧ (setRing st s).fe = s.fe ∧
    (setRing st s).cells = s.cells ∧ (setRing st s).points = s.points ∧ (setRing st s).scaler = s.scaler ∧ (setRing st s).cruiser = s.cruiser ∧
    (setRing st s).borer = s.borer ∧ (setRing st s).thin = s.thin ∧ (setRing st s).fb = s.fb ∧ (setRing st s).sawyer = s.sawyer ∧
    (setRing st s).canopy = s.canopy ∧ (setRing st s).axes = s.axes ∧ (setRing st s).links = s.links ∧ (setRing st s).clock = s.clock ∧
    (setRing st s).dict = s.dict ∧ (setRing st s).sec = s.sec ∧ (setRing st s).pair = s.pair ∧ (setRing st s).ranger = s.ranger ∧
    (setRing st s).tally = s.tally ∧ (setRing st s).inject = s.inject ∧ (setRing st s).power = s.power ∧ (setRing st s).lookout = s.lookout ∧
    (setRing st s).storage = s.storage ∧ (setRing st s).update = s.update ∧ (setRing st s).seat = s.seat ∧ (setRing st s).boundary = s.boundary ∧
    (setRing st s).pending = s.pending := by
  unfold setRing
  first
    | exact ⟨rfl, rfl, rfl, rfl, rfl, rfl, rfl, rfl, rfl, rfl, rfl, rfl, rfl, rfl, rfl, rfl, rfl, rfl, rfl, rfl, rfl, rfl, rfl, rfl, rfl, rfl, rfl, rfl, rfl⟩
    | (simp; done)
    | (refine ⟨?_, ?_, ?_, ?_, ?_, ?_, ?_, ?_, ?_, ?_, ?_, ?_, ?_, ?_, ?_, ?_, ?_, ?_, ?_, ?_, ?_, ?_, ?_, ?_, ?_, ?_, ?_, ?_, ?_⟩ <;> (repeat' split) <;> first | rfl | simp)

@[simp] theorem State.modPoint_other (s : State) (n : Nat) (f : PointState → PointState) :
    (State.modPoint s n f).core = s.core ∧ (State.modPoint s n f).ring = s.ring ∧ (State.modPoint s n f).heads = s.heads ∧
    (State.modPoint s n f).tap = s.tap ∧ (State.modPoint s n f).fe = s.fe ∧ (State.modPoint s n f).cells = s.cells ∧
    (State.modPoint s n f).scaler = s.scaler ∧ (State.modPoint s n f).cruiser = s.cruiser ∧ (State.modPoint s n f).borer = s.borer ∧
    (State.modPoint s n f).thin = s.thin ∧ (State.modPoint s n f).fb = s.fb ∧ (State.modPoint s n f).sawyer = s.sawyer ∧
    (State.modPoint s n f).canopy = s.canopy ∧ (State.modPoint s n f).axes = s.axes ∧ (State.modPoint s n f).links = s.links ∧
    (State.modPoint s n f).clock = s.clock ∧ (State.modPoint s n f).dict = s.dict ∧ (State.modPoint s n f).sec = s.sec ∧
    (State.modPoint s n f).pair = s.pair ∧ (State.modPoint s n f).ranger = s.ranger ∧ (State.modPoint s n f).tally = s.tally ∧
    (State.modPoint s n f).inject = s.inject ∧ (State.modPoint s n f).power = s.power ∧ (State.modPoint s n f).lookout = s.lookout ∧
    (State.modPoint s n f).storage = s.storage ∧ (State.modPoint s n f).update = s.update ∧ (State.modPoint s n f).seat = s.seat ∧
    (State.modPoint s n f).boundary = s.boundary ∧ (State.modPoint s n f).pending = s.pending := by
  unfold State.modPoint
  first
    | exact ⟨rfl, rfl, rfl, rfl, rfl, rfl, rfl, rfl, rfl, rfl, rfl, rfl, rfl, rfl, rfl, rfl, rfl, rfl, rfl, rfl, rfl, rfl, rfl, rfl, rfl, rfl, rfl, rfl, rfl⟩
    | (simp; done)
    | (refine ⟨?_, ?_, ?_, ?_, ?_, ?_, ?_, ?_, ?_, ?_, ?_, ?_, ?_, ?_, ?_, ?_, ?_, ?_, ?_, ?_, ?_, ?_, ?_, ?_, ?_, ?_, ?_, ?_, ?_⟩ <;> (repeat' split) <;> first | rfl | simp)

@[simp] theorem State.modHead_other (s : State) (place : Nat) (f : Head → Head) :
    (State.modHead s place f).core = s.core ∧ (State.modHead s place f).ring = s.ring ∧ (State.modHead s place f).tap = s.tap ∧
    (State.modHead s place f).fe = s.fe ∧ (State.modHead s place f).cells = s.cells ∧ (State.modHead s place f).points = s.points ∧
    (State.modHead s place f).scaler = s.scaler ∧ (State.modHead s place f).cruiser = s.cruiser ∧ (State.modHead s place f).borer = s.borer ∧
    (State.modHead s place f).thin = s.thin ∧ (State.modHead s place f).fb = s.fb ∧ (State.modHead s place f).sawyer = s.sawyer ∧
    (State.modHead s place f).canopy = s.canopy ∧ (State.modHead s place f).axes = s.axes ∧ (State.modHead s place f).links = s.links ∧
    (State.modHead s place f).clock = s.clock ∧ (State.modHead s place f).dict = s.dict ∧ (State.modHead s place f).sec = s.sec ∧
    (State.modHead s place f).pair = s.pair ∧ (State.modHead s place f).ranger = s.ranger ∧ (State.modHead s place f).tally = s.tally ∧
    (State.modHead s place f).inject = s.inject ∧ (State.modHead s place f).power = s.power ∧ (State.modHead s place f).lookout = s.lookout ∧
    (State.modHead s place f).storage = s.storage ∧ (State.modHead s place f).update = s.update ∧ (State.modHead s place f).seat = s.seat ∧
    (State.modHead s place f).boundary = s.boundary ∧ (State.modHead s place f).pending = s.pending := by
  unfold State.modHead
  first
    | exact ⟨rfl, rfl, rfl, rfl, rfl, rfl, rfl, rfl, rfl, rfl, rfl, rfl, rfl, rfl, rfl, rfl, rfl, rfl, rfl, rfl, rfl, rfl, rfl, rfl, rfl, rfl, rfl, rfl, rfl⟩
    | (simp; done)
    | (refine ⟨?_, ?_, ?_, ?_, ?_, ?_, ?_, ?_, ?_, ?_, ?_, ?_, ?_, ?_, ?_, ?_, ?_, ?_, ?_, ?_, ?_, ?_, ?_, ?_, ?_, ?_, ?_, ?_, ?_⟩ <;> (repeat' split) <;> first | rfl | simp)

@[simp] theorem State.modInject_other (s : State) (link : Nat) (f : Inject → Inject) :
    (State.modInject s link f).core = s.core ∧ (State.modInject s link f).ring = s.ring ∧ (State.modInject s link f).heads = s.heads ∧
    (State.modInject s link f).tap = s.tap ∧ (State.modInject s link f).fe = s.fe ∧ (State.modInject s link f).cells = s.cells ∧
    (State.modInject s link f).points = s.points ∧ (State.modInject s link f).scaler = s.scaler ∧ (State.modInject s link f).cruiser = s.cruiser ∧
    (State.modInject s link f).borer = s.borer ∧ (State.modInject s link f).thin = s.thin ∧ (State.modInject s link f).fb = s.fb ∧
    (State.modInject s link f).sawyer = s.sawyer ∧ (State.modInject s link f).canopy = s.canopy ∧ (State.modInject s link f).axes = s.axes ∧
    (State.modInject s link f).links = s.links ∧ (State.modInject s link f).clock = s.clock ∧ (State.modInject s link f).dict = s.dict ∧
    (State.modInject s link f).sec = s.sec ∧ (State.modInject s link f).pair = s.pair ∧ (State.modInject s link f).ranger = s.ranger ∧
    (State.modInject s link f).tally = s.tally ∧ (State.modInject s link f).power = s.power ∧ (State.modInject s link f).lookout = s.lookout ∧
    (State.modInject s link f).storage = s.storage ∧ (State.modInject s link f).update = s.update ∧ (State.modInject s link f).seat = s.seat ∧
    (State.modInject s link f).boundary = s.boundary ∧ (State.modInject s link f).pending = s.pending := by
  unfold State.modInject
  first
    | exact ⟨rfl, rfl, rfl, rfl, rfl, rfl, rfl, rfl, rfl, rfl, rfl, rfl, rfl, rfl, rfl, rfl, rfl, rfl, rfl, rfl, rfl, rfl, rfl, rfl, rfl, rfl, rfl, rfl, rfl⟩
    | (simp; done)
    | (refine ⟨?_, ?_, ?_, ?_, ?_, ?_, ?_, ?_, ?_, ?_, ?_, ?_, ?_, ?_, ?_, ?_, ?_, ?_, ?_, ?_, ?_, ?_, ?_, ?_, ?_, ?_, ?_, ?_, ?_⟩ <;> (repeat' split) <;> first | rfl | simp)

@[simp] theorem State.modAxis_other (s : State) (a : Nat) (f : Axis → Axis) :
    (State.modAxis s a f).core = s.core ∧ (State.modAxis s a f).ring = s.ring ∧ (State.modAxis s a f).heads = s.heads ∧
    (State.modAxis s a f).tap = s.tap ∧ (State.modAxis s a f).fe = s.fe ∧ (State.modAxis s a f).cells = s.cells ∧
    (State.modAxis s a f).points = s.points ∧ (State.modAxis s a f).scaler = s.scaler ∧ (State.modAxis s a f).cruiser = s.cruiser ∧
    (State.modAxis s a f).borer = s.borer ∧ (State.modAxis s a f).thin = s.thin ∧ (State.modAxis s a f).fb = s.fb ∧
    (State.modAxis s a f).sawyer = s.sawyer ∧ (State.modAxis s a f).canopy = s.canopy ∧ (State.modAxis s a f).links = s.links ∧
    (State.modAxis s a f).clock = s.clock ∧ (State.modAxis s a f).dict = s.dict ∧ (State.modAxis s a f).sec = s.sec ∧
    (State.modAxis s a f).pair = s.pair ∧ (State.modAxis s a f).ranger = s.ranger ∧ (State.modAxis s a f).tally = s.tally ∧
    (State.modAxis s a f).inject = s.inject ∧ (State.modAxis s a f).power = s.power ∧ (State.modAxis s a f).lookout = s.lookout ∧
    (State.modAxis s a f).storage = s.storage ∧ (State.modAxis s a f).update = s.update ∧ (State.modAxis s a f).seat = s.seat ∧
    (State.modAxis s a f).boundary = s.boundary ∧ (State.modAxis s a f).pending = s.pending := by
  unfold State.modAxis
  first
    | exact ⟨rfl, rfl, rfl, rfl, rfl, rfl, rfl, rfl, rfl, rfl, rfl, rfl, rfl, rfl, rfl, rfl, rfl, rfl, rfl, rfl, rfl, rfl, rfl, rfl, rfl, rfl, rfl, rfl, rfl⟩
    | (simp; done)
    | (refine ⟨?_, ?_, ?_, ?_, ?_, ?_, ?_, ?_, ?_, ?_, ?_, ?_, ?_, ?_, ?_, ?_, ?_, ?_, ?_, ?_, ?_, ?_, ?_, ?_, ?_, ?_, ?_, ?_, ?_⟩ <;> (repeat' split) <;> first | rfl | simp)

@[simp] theorem State.modEth_other (s : State) (p : Nat) (f : EthPort → EthPort) :
    (State.modEth s p f).core = s.core ∧ (State.modEth s p f).ring = s.ring ∧ (State.modEth s p f).heads = s.heads ∧
    (State.modEth s p f).tap = s.tap ∧ (State.modEth s p f).fe = s.fe ∧ (State.modEth s p f).cells = s.cells ∧
    (State.modEth s p f).points = s.points ∧ (State.modEth s p f).scaler = s.scaler ∧ (State.modEth s p f).cruiser = s.cruiser ∧
    (State.modEth s p f).borer = s.borer ∧ (State.modEth s p f).thin = s.thin ∧ (State.modEth s p f).fb = s.fb ∧
    (State.modEth s p f).sawyer = s.sawyer ∧ (State.modEth s p f).canopy = s.canopy ∧ (State.modEth s p f).axes = s.axes ∧
    (State.modEth s p f).clock = s.clock ∧ (State.modEth s p f).dict = s.dict ∧ (State.modEth s p f).sec = s.sec ∧
    (State.modEth s p f).pair = s.pair ∧ (State.modEth s p f).ranger = s.ranger ∧ (State.modEth s p f).tally = s.tally ∧
    (State.modEth s p f).inject = s.inject ∧ (State.modEth s p f).power = s.power ∧ (State.modEth s p f).lookout = s.lookout ∧
    (State.modEth s p f).storage = s.storage ∧ (State.modEth s p f).update = s.update ∧ (State.modEth s p f).seat = s.seat ∧
    (State.modEth s p f).boundary = s.boundary ∧ (State.modEth s p f).pending = s.pending := by
  unfold State.modEth
  first
    | exact ⟨rfl, rfl, rfl, rfl, rfl, rfl, rfl, rfl, rfl, rfl, rfl, rfl, rfl, rfl, rfl, rfl, rfl, rfl, rfl, rfl, rfl, rfl, rfl, rfl, rfl, rfl, rfl, rfl, rfl⟩
    | (simp; done)
    | (refine ⟨?_, ?_, ?_, ?_, ?_, ?_, ?_, ?_, ?_, ?_, ?_, ?_, ?_, ?_, ?_, ?_, ?_, ?_, ?_, ?_, ?_, ?_, ?_, ?_, ?_, ?_, ?_, ?_, ?_⟩ <;> (repeat' split) <;> first | rfl | simp)

@[simp] theorem State.modCan_other (s : State) (n : Nat) (f : CanCtl → CanCtl) :
    (State.modCan s n f).core = s.core ∧ (State.modCan s n f).ring = s.ring ∧ (State.modCan s n f).heads = s.heads ∧
    (State.modCan s n f).tap = s.tap ∧ (State.modCan s n f).fe = s.fe ∧ (State.modCan s n f).cells = s.cells ∧
    (State.modCan s n f).points = s.points ∧ (State.modCan s n f).scaler = s.scaler ∧ (State.modCan s n f).cruiser = s.cruiser ∧
    (State.modCan s n f).borer = s.borer ∧ (State.modCan s n f).thin = s.thin ∧ (State.modCan s n f).fb = s.fb ∧
    (State.modCan s n f).sawyer = s.sawyer ∧ (State.modCan s n f).canopy = s.canopy ∧ (State.modCan s n f).axes = s.axes ∧
    (State.modCan s n f).clock = s.clock ∧ (State.modCan s n f).dict = s.dict ∧ (State.modCan s n f).sec = s.sec ∧
    (State.modCan s n f).pair = s.pair ∧ (State.modCan s n f).ranger = s.ranger ∧ (State.modCan s n f).tally = s.tally ∧
    (State.modCan s n f).inject = s.inject ∧ (State.modCan s n f).power = s.power ∧ (State.modCan s n f).lookout = s.lookout ∧
    (State.modCan s n f).storage = s.storage ∧ (State.modCan s n f).update = s.update ∧ (State.modCan s n f).seat = s.seat ∧
    (State.modCan s n f).boundary = s.boundary ∧ (State.modCan s n f).pending = s.pending := by
  unfold State.modCan
  first
    | exact ⟨rfl, rfl, rfl, rfl, rfl, rfl, rfl, rfl, rfl, rfl, rfl, rfl, rfl, rfl, rfl, rfl, rfl, rfl, rfl, rfl, rfl, rfl, rfl, rfl, rfl, rfl, rfl, rfl, rfl⟩
    | (simp; done)
    | (refine ⟨?_, ?_, ?_, ?_, ?_, ?_, ?_, ?_, ?_, ?_, ?_, ?_, ?_, ?_, ?_, ?_, ?_, ?_, ?_, ?_, ?_, ?_, ?_, ?_, ?_, ?_, ?_, ?_, ?_⟩ <;> (repeat' split) <;> first | rfl | simp)

@[simp] theorem State.modChannel_other (s : State) (ch : Nat) (f : CanChannel → CanChannel) :
    (State.modChannel s ch f).core = s.core ∧ (State.modChannel s ch f).ring = s.ring ∧ (State.modChannel s ch f).heads = s.heads ∧
    (State.modChannel s ch f).tap = s.tap ∧ (State.modChannel s ch f).fe = s.fe ∧ (State.modChannel s ch f).cells = s.cells ∧
    (State.modChannel s ch f).points = s.points ∧ (State.modChannel s ch f).scaler = s.scaler ∧ (State.modChannel s ch f).cruiser = s.cruiser ∧
    (State.modChannel s ch f).borer = s.borer ∧ (State.modChannel s ch f).thin = s.thin ∧ (State.modChannel s ch f).fb = s.fb ∧
    (State.modChannel s ch f).sawyer = s.sawyer ∧ (State.modChannel s ch f).canopy = s.canopy ∧ (State.modChannel s ch f).axes = s.axes ∧
    (State.modChannel s ch f).links = s.links ∧ (State.modChannel s ch f).clock = s.clock ∧ (State.modChannel s ch f).dict = s.dict ∧
    (State.modChannel s ch f).pair = s.pair ∧ (State.modChannel s ch f).ranger = s.ranger ∧ (State.modChannel s ch f).tally = s.tally ∧
    (State.modChannel s ch f).inject = s.inject ∧ (State.modChannel s ch f).power = s.power ∧ (State.modChannel s ch f).lookout = s.lookout ∧
    (State.modChannel s ch f).storage = s.storage ∧ (State.modChannel s ch f).update = s.update ∧ (State.modChannel s ch f).seat = s.seat ∧
    (State.modChannel s ch f).boundary = s.boundary ∧ (State.modChannel s ch f).pending = s.pending := by
  unfold State.modChannel
  first
    | exact ⟨rfl, rfl, rfl, rfl, rfl, rfl, rfl, rfl, rfl, rfl, rfl, rfl, rfl, rfl, rfl, rfl, rfl, rfl, rfl, rfl, rfl, rfl, rfl, rfl, rfl, rfl, rfl, rfl, rfl⟩
    | (simp; done)
    | (refine ⟨?_, ?_, ?_, ?_, ?_, ?_, ?_, ?_, ?_, ?_, ?_, ?_, ?_, ?_, ?_, ?_, ?_, ?_, ?_, ?_, ?_, ?_, ?_, ?_, ?_, ?_, ?_, ?_, ?_⟩ <;> (repeat' split) <;> first | rfl | simp)

@[simp] theorem State.modFast_other (s : State) (j : Nat) (f : FastChannel → FastChannel) :
    (State.modFast s j f).core = s.core ∧ (State.modFast s j f).ring = s.ring ∧ (State.modFast s j f).heads = s.heads ∧
    (State.modFast s j f).tap = s.tap ∧ (State.modFast s j f).fe = s.fe ∧ (State.modFast s j f).cells = s.cells ∧
    (State.modFast s j f).points = s.points ∧ (State.modFast s j f).scaler = s.scaler ∧ (State.modFast s j f).cruiser = s.cruiser ∧
    (State.modFast s j f).borer = s.borer ∧ (State.modFast s j f).thin = s.thin ∧ (State.modFast s j f).fb = s.fb ∧
    (State.modFast s j f).sawyer = s.sawyer ∧ (State.modFast s j f).canopy = s.canopy ∧ (State.modFast s j f).axes = s.axes ∧
    (State.modFast s j f).links = s.links ∧ (State.modFast s j f).clock = s.clock ∧ (State.modFast s j f).dict = s.dict ∧
    (State.modFast s j f).pair = s.pair ∧ (State.modFast s j f).ranger = s.ranger ∧ (State.modFast s j f).tally = s.tally ∧
    (State.modFast s j f).inject = s.inject ∧ (State.modFast s j f).power = s.power ∧ (State.modFast s j f).lookout = s.lookout ∧
    (State.modFast s j f).storage = s.storage ∧ (State.modFast s j f).update = s.update ∧ (State.modFast s j f).seat = s.seat ∧
    (State.modFast s j f).boundary = s.boundary ∧ (State.modFast s j f).pending = s.pending := by
  unfold State.modFast
  first
    | exact ⟨rfl, rfl, rfl, rfl, rfl, rfl, rfl, rfl, rfl, rfl, rfl, rfl, rfl, rfl, rfl, rfl, rfl, rfl, rfl, rfl, rfl, rfl, rfl, rfl, rfl, rfl, rfl, rfl, rfl⟩
    | (simp; done)
    | (refine ⟨?_, ?_, ?_, ?_, ?_, ?_, ?_, ?_, ?_, ?_, ?_, ?_, ?_, ?_, ?_, ?_, ?_, ?_, ?_, ?_, ?_, ?_, ?_, ?_, ?_, ?_, ?_, ?_, ?_⟩ <;> (repeat' split) <;> first | rfl | simp)

@[simp] theorem State.modPulse_other (s : State) (o : Nat) (f : Pulse → Pulse) :
    (State.modPulse s o f).core = s.core ∧ (State.modPulse s o f).ring = s.ring ∧ (State.modPulse s o f).heads = s.heads ∧
    (State.modPulse s o f).tap = s.tap ∧ (State.modPulse s o f).fe = s.fe ∧ (State.modPulse s o f).cells = s.cells ∧
    (State.modPulse s o f).points = s.points ∧ (State.modPulse s o f).scaler = s.scaler ∧ (State.modPulse s o f).cruiser = s.cruiser ∧
    (State.modPulse s o f).borer = s.borer ∧ (State.modPulse s o f).thin = s.thin ∧ (State.modPulse s o f).fb = s.fb ∧
    (State.modPulse s o f).sawyer = s.sawyer ∧ (State.modPulse s o f).canopy = s.canopy ∧ (State.modPulse s o f).axes = s.axes ∧
    (State.modPulse s o f).clock = s.clock ∧ (State.modPulse s o f).dict = s.dict ∧ (State.modPulse s o f).sec = s.sec ∧
    (State.modPulse s o f).pair = s.pair ∧ (State.modPulse s o f).ranger = s.ranger ∧ (State.modPulse s o f).tally = s.tally ∧
    (State.modPulse s o f).inject = s.inject ∧ (State.modPulse s o f).power = s.power ∧ (State.modPulse s o f).lookout = s.lookout ∧
    (State.modPulse s o f).storage = s.storage ∧ (State.modPulse s o f).update = s.update ∧ (State.modPulse s o f).seat = s.seat ∧
    (State.modPulse s o f).boundary = s.boundary ∧ (State.modPulse s o f).pending = s.pending := by
  unfold State.modPulse
  first
    | exact ⟨rfl, rfl, rfl, rfl, rfl, rfl, rfl, rfl, rfl, rfl, rfl, rfl, rfl, rfl, rfl, rfl, rfl, rfl, rfl, rfl, rfl, rfl, rfl, rfl, rfl, rfl, rfl, rfl, rfl⟩
    | (simp; done)
    | (refine ⟨?_, ?_, ?_, ?_, ?_, ?_, ?_, ?_, ?_, ?_, ?_, ?_, ?_, ?_, ?_, ?_, ?_, ?_, ?_, ?_, ?_, ?_, ?_, ?_, ?_, ?_, ?_, ?_, ?_⟩ <;> (repeat' split) <;> first | rfl | simp)

@[simp] theorem State.modSlot_other (s : State) (n : Nat) (f : Slot → Slot) :
    (State.modSlot s n f).core = s.core ∧ (State.modSlot s n f).ring = s.ring ∧ (State.modSlot s n f).heads = s.heads ∧
    (State.modSlot s n f).tap = s.tap ∧ (State.modSlot s n f).fe = s.fe ∧ (State.modSlot s n f).cells = s.cells ∧
    (State.modSlot s n f).points = s.points ∧ (State.modSlot s n f).scaler = s.scaler ∧ (State.modSlot s n f).cruiser = s.cruiser ∧
    (State.modSlot s n f).borer = s.borer ∧ (State.modSlot s n f).thin = s.thin ∧ (State.modSlot s n f).fb = s.fb ∧
    (State.modSlot s n f).canopy = s.canopy ∧ (State.modSlot s n f).axes = s.axes ∧ (State.modSlot s n f).links = s.links ∧
    (State.modSlot s n f).clock = s.clock ∧ (State.modSlot s n f).dict = s.dict ∧ (State.modSlot s n f).sec = s.sec ∧
    (State.modSlot s n f).pair = s.pair ∧ (State.modSlot s n f).ranger = s.ranger ∧ (State.modSlot s n f).tally = s.tally ∧
    (State.modSlot s n f).inject = s.inject ∧ (State.modSlot s n f).power = s.power ∧ (State.modSlot s n f).lookout = s.lookout ∧
    (State.modSlot s n f).storage = s.storage ∧ (State.modSlot s n f).update = s.update ∧ (State.modSlot s n f).seat = s.seat ∧
    (State.modSlot s n f).boundary = s.boundary ∧ (State.modSlot s n f).pending = s.pending := by
  unfold State.modSlot
  first
    | exact ⟨rfl, rfl, rfl, rfl, rfl, rfl, rfl, rfl, rfl, rfl, rfl, rfl, rfl, rfl, rfl, rfl, rfl, rfl, rfl, rfl, rfl, rfl, rfl, rfl, rfl, rfl, rfl, rfl, rfl⟩
    | (simp; done)
    | (refine ⟨?_, ?_, ?_, ?_, ?_, ?_, ?_, ?_, ?_, ?_, ?_, ?_, ?_, ?_, ?_, ?_, ?_, ?_, ?_, ?_, ?_, ?_, ?_, ?_, ?_, ?_, ?_, ?_, ?_⟩ <;> (repeat' split) <;> first | rfl | simp)

@[simp] theorem State.modThr_other (s : State) (i : Nat) (f : Threshold → Threshold) :
    (State.modThr s i f).core = s.core ∧ (State.modThr s i f).ring = s.ring ∧ (State.modThr s i f).heads = s.heads ∧
    (State.modThr s i f).tap = s.tap ∧ (State.modThr s i f).fe = s.fe ∧ (State.modThr s i f).cells = s.cells ∧
    (State.modThr s i f).points = s.points ∧ (State.modThr s i f).scaler = s.scaler ∧ (State.modThr s i f).cruiser = s.cruiser ∧
    (State.modThr s i f).borer = s.borer ∧ (State.modThr s i f).thin = s.thin ∧ (State.modThr s i f).fb = s.fb ∧
    (State.modThr s i f).sawyer = s.sawyer ∧ (State.modThr s i f).axes = s.axes ∧ (State.modThr s i f).links = s.links ∧
    (State.modThr s i f).clock = s.clock ∧ (State.modThr s i f).dict = s.dict ∧ (State.modThr s i f).sec = s.sec ∧
    (State.modThr s i f).pair = s.pair ∧ (State.modThr s i f).ranger = s.ranger ∧ (State.modThr s i f).tally = s.tally ∧
    (State.modThr s i f).inject = s.inject ∧ (State.modThr s i f).power = s.power ∧ (State.modThr s i f).lookout = s.lookout ∧
    (State.modThr s i f).storage = s.storage ∧ (State.modThr s i f).update = s.update ∧ (State.modThr s i f).seat = s.seat ∧
    (State.modThr s i f).boundary = s.boundary ∧ (State.modThr s i f).pending = s.pending := by
  unfold State.modThr
  first
    | exact ⟨rfl, rfl, rfl, rfl, rfl, rfl, rfl, rfl, rfl, rfl, rfl, rfl, rfl, rfl, rfl, rfl, rfl, rfl, rfl, rfl, rfl, rfl, rfl, rfl, rfl, rfl, rfl, rfl, rfl⟩
    | (simp; done)
    | (refine ⟨?_, ?_, ?_, ?_, ?_, ?_, ?_, ?_, ?_, ?_, ?_, ?_, ?_, ?_, ?_, ?_, ?_, ?_, ?_, ?_, ?_, ?_, ?_, ?_, ?_, ?_, ?_, ?_, ?_⟩ <;> (repeat' split) <;> first | rfl | simp)

@[simp] theorem State.modTrace_other (s : State) (b : Nat) (f : Trace → Trace) :
    (State.modTrace s b f).core = s.core ∧ (State.modTrace s b f).ring = s.ring ∧ (State.modTrace s b f).heads = s.heads ∧
    (State.modTrace s b f).tap = s.tap ∧ (State.modTrace s b f).fe = s.fe ∧ (State.modTrace s b f).cells = s.cells ∧
    (State.modTrace s b f).points = s.points ∧ (State.modTrace s b f).scaler = s.scaler ∧ (State.modTrace s b f).cruiser = s.cruiser ∧
    (State.modTrace s b f).borer = s.borer ∧ (State.modTrace s b f).thin = s.thin ∧ (State.modTrace s b f).fb = s.fb ∧
    (State.modTrace s b f).canopy = s.canopy ∧ (State.modTrace s b f).axes = s.axes ∧ (State.modTrace s b f).links = s.links ∧
    (State.modTrace s b f).clock = s.clock ∧ (State.modTrace s b f).dict = s.dict ∧ (State.modTrace s b f).sec = s.sec ∧
    (State.modTrace s b f).pair = s.pair ∧ (State.modTrace s b f).ranger = s.ranger ∧ (State.modTrace s b f).tally = s.tally ∧
    (State.modTrace s b f).inject = s.inject ∧ (State.modTrace s b f).power = s.power ∧ (State.modTrace s b f).lookout = s.lookout ∧
    (State.modTrace s b f).storage = s.storage ∧ (State.modTrace s b f).update = s.update ∧ (State.modTrace s b f).seat = s.seat ∧
    (State.modTrace s b f).boundary = s.boundary ∧ (State.modTrace s b f).pending = s.pending := by
  unfold State.modTrace
  first
    | exact ⟨rfl, rfl, rfl, rfl, rfl, rfl, rfl, rfl, rfl, rfl, rfl, rfl, rfl, rfl, rfl, rfl, rfl, rfl, rfl, rfl, rfl, rfl, rfl, rfl, rfl, rfl, rfl, rfl, rfl⟩
    | (simp; done)
    | (refine ⟨?_, ?_, ?_, ?_, ?_, ?_, ?_, ?_, ?_, ?_, ?_, ?_, ?_, ?_, ?_, ?_, ?_, ?_, ?_, ?_, ?_, ?_, ?_, ?_, ?_, ?_, ?_, ?_, ?_⟩ <;> (repeat' split) <;> first | rfl | simp)

@[simp] theorem beginService_other (sess req : Nat) (at_ : Cycle) (s : State) :
    (beginService sess req at_ s).core = s.core ∧ (beginService sess req at_ s).ring = s.ring ∧ (beginService sess req at_ s).heads = s.heads ∧
    (beginService sess req at_ s).tap = s.tap ∧ (beginService sess req at_ s).fe = s.fe ∧ (beginService sess req at_ s).cells = s.cells ∧
    (beginService sess req at_ s).points = s.points ∧ (beginService sess req at_ s).scaler = s.scaler ∧
    (beginService sess req at_ s).cruiser = s.cruiser ∧ (beginService sess req at_ s).borer = s.borer ∧
    (beginService sess req at_ s).thin = s.thin ∧ (beginService sess req at_ s).fb = s.fb ∧ (beginService sess req at_ s).sawyer = s.sawyer ∧
    (beginService sess req at_ s).canopy = s.canopy ∧ (beginService sess req at_ s).axes = s.axes ∧
    (beginService sess req at_ s).links = s.links ∧ (beginService sess req at_ s).clock = s.clock ∧ (beginService sess req at_ s).sec = s.sec ∧
    (beginService sess req at_ s).pair = s.pair ∧ (beginService sess req at_ s).ranger = s.ranger ∧
    (beginService sess req at_ s).tally = s.tally ∧ (beginService sess req at_ s).inject = s.inject ∧
    (beginService sess req at_ s).power = s.power ∧ (beginService sess req at_ s).lookout = s.lookout ∧
    (beginService sess req at_ s).storage = s.storage ∧ (beginService sess req at_ s).update = s.update ∧
    (beginService sess req at_ s).seat = s.seat ∧ (beginService sess req at_ s).boundary = s.boundary ∧
    (beginService sess req at_ s).pending = s.pending := by
  unfold beginService
  first
    | exact ⟨rfl, rfl, rfl, rfl, rfl, rfl, rfl, rfl, rfl, rfl, rfl, rfl, rfl, rfl, rfl, rfl, rfl, rfl, rfl, rfl, rfl, rfl, rfl, rfl, rfl, rfl, rfl, rfl, rfl⟩
    | (simp; done)
    | (refine ⟨?_, ?_, ?_, ?_, ?_, ?_, ?_, ?_, ?_, ?_, ?_, ?_, ?_, ?_, ?_, ?_, ?_, ?_, ?_, ?_, ?_, ?_, ?_, ?_, ?_, ?_, ?_, ?_, ?_⟩ <;> (repeat' split) <;> first | rfl | simp)

@[simp] theorem tetherSend_other (m : TetherMsg) (s : State) :
    (tetherSend m s).core = s.core ∧ (tetherSend m s).ring = s.ring ∧ (tetherSend m s).heads = s.heads ∧ (tetherSend m s).tap = s.tap ∧
    (tetherSend m s).fe = s.fe ∧ (tetherSend m s).cells = s.cells ∧ (tetherSend m s).points = s.points ∧ (tetherSend m s).scaler = s.scaler ∧
    (tetherSend m s).cruiser = s.cruiser ∧ (tetherSend m s).borer = s.borer ∧ (tetherSend m s).thin = s.thin ∧ (tetherSend m s).fb = s.fb ∧
    (tetherSend m s).sawyer = s.sawyer ∧ (tetherSend m s).canopy = s.canopy ∧ (tetherSend m s).axes = s.axes ∧ (tetherSend m s).links = s.links ∧
    (tetherSend m s).clock = s.clock ∧ (tetherSend m s).dict = s.dict ∧ (tetherSend m s).sec = s.sec ∧ (tetherSend m s).ranger = s.ranger ∧
    (tetherSend m s).tally = s.tally ∧ (tetherSend m s).inject = s.inject ∧ (tetherSend m s).power = s.power ∧
    (tetherSend m s).lookout = s.lookout ∧ (tetherSend m s).storage = s.storage ∧ (tetherSend m s).update = s.update ∧
    (tetherSend m s).seat = s.seat ∧ (tetherSend m s).boundary = s.boundary ∧ (tetherSend m s).pending = s.pending := by
  unfold tetherSend
  first
    | exact ⟨rfl, rfl, rfl, rfl, rfl, rfl, rfl, rfl, rfl, rfl, rfl, rfl, rfl, rfl, rfl, rfl, rfl, rfl, rfl, rfl, rfl, rfl, rfl, rfl, rfl, rfl, rfl, rfl, rfl⟩
    | (simp; done)
    | (refine ⟨?_, ?_, ?_, ?_, ?_, ?_, ?_, ?_, ?_, ?_, ?_, ?_, ?_, ?_, ?_, ?_, ?_, ?_, ?_, ?_, ?_, ?_, ?_, ?_, ?_, ?_, ?_, ?_, ?_⟩ <;> (repeat' split) <;> first | rfl | simp)

@[simp] theorem replicate_other (what : RepKind) (effective : Cycle) (s : State) :
    (replicate what effective s).core = s.core ∧ (replicate what effective s).ring = s.ring ∧ (replicate what effective s).heads = s.heads ∧
    (replicate what effective s).tap = s.tap ∧ (replicate what effective s).fe = s.fe ∧ (replicate what effective s).cells = s.cells ∧
    (replicate what effective s).points = s.points ∧ (replicate what effective s).scaler = s.scaler ∧
    (replicate what effective s).cruiser = s.cruiser ∧ (replicate what effective s).borer = s.borer ∧ (replicate what effective s).thin = s.thin ∧
    (replicate what effective s).fb = s.fb ∧ (replicate what effective s).sawyer = s.sawyer ∧ (replicate what effective s).canopy = s.canopy ∧
    (replicate what effective s).axes = s.axes ∧ (replicate what effective s).links = s.links ∧ (replicate what effective s).clock = s.clock ∧
    (replicate what effective s).dict = s.dict ∧ (replicate what effective s).sec = s.sec ∧ (replicate what effective s).ranger = s.ranger ∧
    (replicate what effective s).tally = s.tally ∧ (replicate what effective s).inject = s.inject ∧ (replicate what effective s).power = s.power ∧
    (replicate what effective s).lookout = s.lookout ∧ (replicate what effective s).storage = s.storage ∧
    (replicate what effective s).update = s.update ∧ (replicate what effective s).seat = s.seat ∧
    (replicate what effective s).boundary = s.boundary ∧ (replicate what effective s).pending = s.pending := by
  unfold replicate
  first
    | exact ⟨rfl, rfl, rfl, rfl, rfl, rfl, rfl, rfl, rfl, rfl, rfl, rfl, rfl, rfl, rfl, rfl, rfl, rfl, rfl, rfl, rfl, rfl, rfl, rfl, rfl, rfl, rfl, rfl, rfl⟩
    | (simp; done)
    | (refine ⟨?_, ?_, ?_, ?_, ?_, ?_, ?_, ?_, ?_, ?_, ?_, ?_, ?_, ?_, ?_, ?_, ?_, ?_, ?_, ?_, ?_, ?_, ?_, ?_, ?_, ?_, ?_, ?_, ?_⟩ <;> (repeat' split) <;> first | rfl | simp)

@[simp] theorem queueDispatch_other (e : DispatchEvent) (s : State) :
    (queueDispatch e s).core = s.core ∧ (queueDispatch e s).ring = s.ring ∧ (queueDispatch e s).heads = s.heads ∧
    (queueDispatch e s).tap = s.tap ∧ (queueDispatch e s).fe = s.fe ∧ (queueDispatch e s).cells = s.cells ∧
    (queueDispatch e s).points = s.points ∧ (queueDispatch e s).scaler = s.scaler ∧ (queueDispatch e s).cruiser = s.cruiser ∧
    (queueDispatch e s).borer = s.borer ∧ (queueDispatch e s).thin = s.thin ∧ (queueDispatch e s).fb = s.fb ∧
    (queueDispatch e s).canopy = s.canopy ∧ (queueDispatch e s).axes = s.axes ∧ (queueDispatch e s).links = s.links ∧
    (queueDispatch e s).clock = s.clock ∧ (queueDispatch e s).dict = s.dict ∧ (queueDispatch e s).sec = s.sec ∧
    (queueDispatch e s).pair = s.pair ∧ (queueDispatch e s).ranger = s.ranger ∧ (queueDispatch e s).tally = s.tally ∧
    (queueDispatch e s).inject = s.inject ∧ (queueDispatch e s).power = s.power ∧ (queueDispatch e s).lookout = s.lookout ∧
    (queueDispatch e s).storage = s.storage ∧ (queueDispatch e s).update = s.update ∧ (queueDispatch e s).seat = s.seat ∧
    (queueDispatch e s).boundary = s.boundary ∧ (queueDispatch e s).pending = s.pending := by
  unfold queueDispatch
  first
    | exact ⟨rfl, rfl, rfl, rfl, rfl, rfl, rfl, rfl, rfl, rfl, rfl, rfl, rfl, rfl, rfl, rfl, rfl, rfl, rfl, rfl, rfl, rfl, rfl, rfl, rfl, rfl, rfl, rfl, rfl⟩
    | (simp; done)
    | (refine ⟨?_, ?_, ?_, ?_, ?_, ?_, ?_, ?_, ?_, ?_, ?_, ?_, ?_, ?_, ?_, ?_, ?_, ?_, ?_, ?_, ?_, ?_, ?_, ?_, ?_, ?_, ?_, ?_, ?_⟩ <;> (repeat' split) <;> first | rfl | simp)

@[simp] theorem withdrawBleed_other (s : State) :
    (withdrawBleed s).core = s.core ∧ (withdrawBleed s).tap = s.tap ∧ (withdrawBleed s).fe = s.fe ∧ (withdrawBleed s).cells = s.cells ∧
    (withdrawBleed s).points = s.points ∧ (withdrawBleed s).scaler = s.scaler ∧ (withdrawBleed s).cruiser = s.cruiser ∧
    (withdrawBleed s).borer = s.borer ∧ (withdrawBleed s).fb = s.fb ∧ (withdrawBleed s).sawyer = s.sawyer ∧ (withdrawBleed s).canopy = s.canopy ∧
    (withdrawBleed s).axes = s.axes ∧ (withdrawBleed s).links = s.links ∧ (withdrawBleed s).clock = s.clock ∧ (withdrawBleed s).dict = s.dict ∧
    (withdrawBleed s).sec = s.sec ∧ (withdrawBleed s).pair = s.pair ∧ (withdrawBleed s).ranger = s.ranger ∧ (withdrawBleed s).tally = s.tally ∧
    (withdrawBleed s).inject = s.inject ∧ (withdrawBleed s).lookout = s.lookout ∧ (withdrawBleed s).storage = s.storage ∧
    (withdrawBleed s).update = s.update ∧ (withdrawBleed s).seat = s.seat ∧ (withdrawBleed s).boundary = s.boundary ∧
    (withdrawBleed s).pending = s.pending := by
  unfold withdrawBleed
  first
    | exact ⟨rfl, rfl, rfl, rfl, rfl, rfl, rfl, rfl, rfl, rfl, rfl, rfl, rfl, rfl, rfl, rfl, rfl, rfl, rfl, rfl, rfl, rfl, rfl, rfl, rfl, rfl⟩
    | (simp; done)
    | (refine ⟨?_, ?_, ?_, ?_, ?_, ?_, ?_, ?_, ?_, ?_, ?_, ?_, ?_, ?_, ?_, ?_, ?_, ?_, ?_, ?_, ?_, ?_, ?_, ?_, ?_, ?_⟩ <;> (repeat' split) <;> first | rfl | simp)

/-! ### Reading after an update -/

@[simp] theorem head_modHead (s : State) (p q : Nat) (f : Head → Head) : (s.modHead p f).head q = if p = q then f (s.head p) else s.head q :=
  Tab.at_mod _ _ _ _ _

@[simp] theorem info_modInfo (s : State) (p q : Nat) (f : HeadInfo → HeadInfo) : (s.modInfo p f).info q = if p = q then f (s.info p) else s.info q :=
  Tab.at_mod _ _ _ _ _

@[simp] theorem cell_modCell (s : State) (k j : Nat) (f : CellState → CellState) : (s.modCell k f).cell j = if k = j then f (s.cell k) else s.cell j :=
  Tab.at_mod _ _ _ _ _

@[simp] theorem session_modSession (s : State) (n m : Nat) (f : Session → Session) :
    (s.modSession n f).session m = if n = m then f (s.session n) else s.session m := Tab.at_mod _ _ _ _ _

@[simp] theorem thinHead_modThin (s : State) (p q : Nat) (f : ThinHead → ThinHead) :
    (s.modThin p f).thinHead q = if p = q then f (s.thinHead p) else s.thinHead q := Tab.at_mod _ _ _ _ _

@[simp] theorem point_modPoint (s : State) (n m : Nat) (f : PointState → PointState) :
    (s.modPoint n f).point m = if n = m then f (s.point n) else s.point m := Tab.at_mod _ _ _ _ _

@[simp] theorem axis_modAxis (s : State) (a b : Nat) (f : Axis → Axis) : (s.modAxis a f).axis b = if a = b then f (s.axis a) else s.axis b :=
  Tab.at_mod _ _ _ _ _

@[simp] theorem vals_setVal (s : State) (k : Nat) (v : ObjVal) : (s.setVal k v).dict.vals = Tab.put s.dict.vals k v := rfl

@[simp] theorem pending_modSession (s : State) (n : Nat) (f : Session → Session) : (s.modSession n f).dict.pending = s.dict.pending := rfl

@[simp] theorem outbox_report (s : State) (source kind : Nat) (sev : Sev) (cls val : Nat) : (s.report source kind sev cls val).ranger.outbox
    = s.ranger.outbox ++ [{ source := source, kind := kind, sev := some sev, cls := cls, val := val, cycle := s.core.cycle }] := rfl

/-- A lasting fault that is not raised yet is reported. -/
theorem raiseOnce_new {s : State} {source kind : Nat} {sev : Sev} {cls val : Nat} (h : s.raised source kind cls val = false) :
    s.raiseOnce source kind sev cls val = s.report source kind sev cls val := by simp [State.raiseOnce, h]

/-- A lasting fault that is raised is cleared. -/
theorem clearOnce_raised {s : State} {source kind cls val : Nat} (h : s.raised source kind cls val = true) :
    s.clearOnce source kind cls val = s.clearFault source kind cls val := by simp [State.clearOnce, h]

theorem setRing_rest (st : RingState) (s : State) : (setRing st s).ring = { s.ring with
    state := st, lastChange := (setRing st s).ring.lastChange, segW := (setRing st s).ring.segW, segE := (setRing st s).ring.segE } := by
  unfold setRing
  split
  · rename_i h; rw [← h]
  · split <;> rfl

theorem setRing_state (st : RingState) (s : State) : (setRing st s).ring.state = st := by
  unfold setRing
  (repeat' split) <;> simp_all

@[simp] theorem count_ring (s : State) (port row n : Nat) : (s.count port row n).ring.state = s.ring.state ∧
    (s.count port row n).ring.originating = s.ring.originating ∧ (s.count port row n).ring.bothPorts = s.ring.bothPorts ∧
    (s.count port row n).ring.heads = s.ring.heads := ⟨rfl, rfl, rfl, rfl⟩

@[simp] theorem enqueue_ring (urgent : Bool) (c : RingCmd) (s : State) : (enqueue urgent c s).ring.state = s.ring.state ∧
    (enqueue urgent c s).ring.heads = s.ring.heads ∧ (enqueue urgent c s).ring.enum = s.ring.enum ∧
    (enqueue urgent c s).ring.bothPorts = s.ring.bothPorts ∧ (enqueue urgent c s).ring.originating = s.ring.originating := by
  unfold enqueue
  refine ⟨?_, ?_, ?_, ?_, ?_⟩ <;> (repeat' split) <;> rfl

@[simp] theorem command_ring (s : State) (urgent : Bool) (p op : Nat) (payload : Bytes) : (s.command urgent p op payload).ring.state = s.ring.state ∧
    (s.command urgent p op payload).ring.heads = s.ring.heads ∧ (s.command urgent p op payload).ring.enum = s.ring.enum ∧
    (s.command urgent p op payload).ring.bothPorts = s.ring.bothPorts ∧
    (s.command urgent p op payload).ring.originating = s.ring.originating := by
  unfold State.command
  refine ⟨?_, ?_, ?_, ?_, ?_⟩ <;> split <;> simp

end Sys2Proof.Machine
end

