-- ==== Sys2Proof/Laws/Faults.lean ====
section
/-! SUPPORT. What raising and clearing a fault, starting the trip sequencer and taking a Firebreak cause leave behind. -/

namespace Sys2Proof.Machine

open Sys2Proof

theorem FaultMsg.same_mk (source kind cls val : Nat) (sev sev' : Option Sev) (i : Bool) (c : Cycle) :
    FaultMsg.same { source := source, kind := kind, sev := sev, cls := cls, val := val, injected := i, cycle := c }
      { source := source, kind := kind, sev := sev', cls := cls, val := val } = true := by simp [FaultMsg.same]

theorem raised_send {s : State} {m : FaultMsg} {source kind cls val : Nat}
    (h : m.source = source ∧ m.kind = kind ∧ m.cls = cls ∧ m.val = val) : (s.send m).raised source kind cls val = m.sev.isSome := by
  obtain ⟨rfl, rfl, rfl, rfl⟩ := h
  simp [State.raised, State.faultOnWay, State.send, List.foldl_append, FaultMsg.same]

/-- A fault just reported counts as raised. -/
@[simp] theorem raised_report (s : State) (source kind : Nat) (sev : Sev) (cls val : Nat) :
    (s.report source kind sev cls val).raised source kind cls val = true := raised_send ⟨rfl, rfl, rfl, rfl⟩

@[simp] theorem raised_reportInj (s : State) (inj : Bool) (source kind : Nat) (sev : Sev) (cls val : Nat) :
    (s.reportInj inj source kind sev cls val).raised source kind cls val = true := raised_send ⟨rfl, rfl, rfl, rfl⟩

@[simp] theorem raised_clearFault (s : State) (source kind cls val : Nat) :
    (s.clearFault source kind cls val).raised source kind cls val = false := raised_send ⟨rfl, rfl, rfl, rfl⟩

/-- Raised once is raised. -/
@[simp] theorem raised_raiseOnce (s : State) (source kind : Nat) (sev : Sev) (cls val : Nat) :
    (s.raiseOnce source kind sev cls val).raised source kind cls val = true := by
  unfold State.raiseOnce
  split <;> simp_all

/-- Cleared is not raised. -/
@[simp] theorem raised_clearOnce (s : State) (source kind cls val : Nat) :
    (s.clearOnce source kind cls val).raised source kind cls val = false := by
  unfold State.clearOnce
  split <;> simp_all

/-- Whether a fault counts as raised depends on the Ranger's part alone. -/
theorem raised_congr {s t : State} (h : t.ranger = s.ranger) (source kind cls val : Nat) :
    t.raised source kind cls val = s.raised source kind cls val := by
  simp [State.raised, State.faultOnWay, State.faultActive, h]

theorem getLsbD_setBit {w : Nat} (x : BitVec w) (i j : Nat) (v : Bool) :
    (setBit x i v).getLsbD j = if i = j then v && decide (j < w) else x.getLsbD j := by
  by_cases hj : j < w
  · cases v <;> by_cases h : i = j <;> simp [setBit, hj, h] <;> omega
  · rw [BitVec.getLsbD_of_ge _ _ (by omega), BitVec.getLsbD_of_ge _ _ (by omega)]
    simp [hj]

@[simp] theorem cause_setCause (s : State) (i j : Nat) (v : Bool) :
    (s.setCause i v).cause j = if i = j then v && decide (j < 32) else s.cause j := getLsbD_setBit _ _ _ _

/-- The trip sequencer on a cause. -/
theorem startTripWait_taken (wait : Nat) (firebreak : Bool) (s : State) : TripTaken firebreak s (startTripWait wait firebreak s) := by
  unfold startTripWait
  cases hs : s.core.opState with
  | off | boot | sleep => exact ⟨by simp [hs], by simp [hs], fun _ => rfl, by simp [hs]⟩
  | closing | online | derated | tripping =>
    dsimp only
    split
    · rename_i h
      refine ⟨fun _ _ _ => rfl, fun _ h2 h3 => ?_, fun _ => rfl, by simp [hs]⟩
      rw [h2, h3] at h
      cases h
    · rename_i h
      refine ⟨fun _ _ _ => rfl, fun _ _ _ => ⟨rfl, rfl, rfl⟩, fun h2 => ?_, by simp [hs]⟩
      rw [h2] at h
      exact absurd rfl h
  | isolated | precheck | service =>
    refine ⟨fun _ _ _ => ?_, by simp [hs], fun _ => ?_, fun h _ => ?_⟩
    · dsimp only; split <;> rfl
    · dsimp only; split <;> rfl
    · dsimp only; rw [if_pos h]; exact ⟨rfl, rfl⟩
  | tripped | lockout => exact ⟨fun _ _ _ => rfl, by simp [hs], fun _ => rfl, by simp [hs]⟩

theorem TripTaken.congr {b : Bool} {s s' t : State} (h : TripTaken b s' t) (hc : s'.core = s.core) (ht : s'.fb.trip = s.fb.trip)
    (hf : s'.fe = s.fe) : TripTaken b s t :=
  ⟨fun h1 h2 h3 => h.line (hc ▸ h1) (hc ▸ h2) (hc ▸ h3),
   fun h1 h2 h3 => by
     have := h.starts (hc ▸ h1) (ht ▸ h2) (by simpa [State.coilsHeld, hf] using h3)
     rwa [hc] at this,
   fun h1 => (h.goesOn (by rw [ht]; exact h1)).trans ht,
   fun h1 h2 => h.lowSides h1 (hc ▸ h2)⟩

/-- What follows the sequencer without touching it. -/
theorem TripTaken.after {b : Bool} {s t t' : State} (h : TripTaken b s t) (h1 : t'.fb.tripPcs = t.fb.tripPcs) (h2 : t'.fb.trip = t.fb.trip)
    (h3 : t'.fe.kp.lowSide = t.fe.kp.lowSide) (h4 : t'.fe.kn.lowSide = t.fe.kn.lowSide) : TripTaken b s t' :=
  ⟨fun a c d => h1 ▸ h.line a c d, fun a c d => by rw [h2]; exact h.starts a c d, fun a => h2 ▸ h.goesOn a, fun a c => by rw [h3, h4]; exact h.lowSides a c⟩

theorem startTrip_taken (firebreak : Bool) (s : State) : TripTaken firebreak s (startTrip firebreak s) := startTripWait_taken _ _ _

@[simp] theorem startTripWait_causes (wait : Nat) (b : Bool) (s : State) : (startTripWait wait b s).fb.causes = s.fb.causes ∧
    (startTripWait wait b s).fb.lastCause = s.fb.lastCause ∧ (startTripWait wait b s).ranger = s.ranger := by
  unfold startTripWait
  split <;> (repeat' split) <;> exact ⟨rfl, rfl, rfl⟩

@[simp] theorem fbCause_causes (i subj : Nat) (s : State) : (fbCause i subj s).fb.causes = setBit s.fb.causes i true ∧
    (fbCause i subj s).ranger = s.ranger := by
  unfold fbCause startTrip
  simp only [startTripWait_causes, State.setCause, and_self]

theorem fbCause_taken (i subj : Nat) (s : State) : TripTaken true s (fbCause i subj s) := by
  unfold fbCause
  exact (startTrip_taken true _).congr rfl rfl rfl

/-- A qualified cause: its bit is set, its fault is raised, the sequencer takes it. -/
theorem qualify_taken (bit cls val : Nat) (inj : Bool) (s : State) (hb : bit < 32) :
    (qualify bit cls val inj s).cause bit = true ∧ (qualify bit cls val inj s).causeRaised bit cls val = true ∧
    TripTaken true s (qualify bit cls val inj s) := by
  refine ⟨?_, ?_, ?_⟩
  · unfold qualify State.cause
    simp only [fbCause_causes, getLsbD_setBit, if_true, hb, decide_true, Bool.and_self]
  · unfold qualify State.causeRaised
    rw [raised_congr (fbCause_causes _ _ _).2, raised_reportInj]
  · unfold qualify
    exact (fbCause_taken _ _ _).congr rfl rfl rfl

/-- The messages on their way only grew. -/
def Grows (s t : State) : Prop := ∃ b, t.ranger.outbox = s.ranger.outbox ++ b

theorem Grows.of_eq {s t : State} (h : t.ranger.outbox = s.ranger.outbox) : Grows s t := ⟨[], by simp [h]⟩

theorem Grows.refl (s : State) : Grows s s := .of_eq rfl

theorem Grows.trans {s t u : State} (h : Grows s t) (h' : Grows t u) : Grows s u := by
  obtain ⟨a, ha⟩ := h
  obtain ⟨b, hb⟩ := h'
  exact ⟨a ++ b, by rw [hb, ha, List.append_assoc]⟩

theorem grows_report (s : State) (source kind : Nat) (sev : Sev) (cls val : Nat) : Grows s (s.report source kind sev cls val) := ⟨_, rfl⟩

theorem grows_raiseOnce (s : State) (source kind : Nat) (sev : Sev) (cls val : Nat) : Grows s (s.raiseOnce source kind sev cls val) := by
  unfold State.raiseOnce
  split
  · exact .refl s
  · exact grows_report ..

theorem grows_clearOnce (s : State) (source kind cls val : Nat) : Grows s (s.clearOnce source kind cls val) := by
  unfold State.clearOnce
  split
  · exact ⟨_, rfl⟩
  · exact .refl s

theorem sent_report (s : State) (source kind : Nat) (sev : Sev) (cls val : Nat) :
    Sent s (s.report source kind sev cls val) (s.msg source kind sev cls val) := ⟨[], [], by simp [State.msg]⟩

theorem sent_raiseOnce {s : State} {source kind : Nat} {sev : Sev} {cls val : Nat} (h : s.raised source kind cls val = false) :
    Sent s (s.raiseOnce source kind sev cls val) (s.msg source kind sev cls val) := by
  rw [raiseOnce_new h]
  exact sent_report ..

theorem Sent.grow {s t u : State} {m : FaultMsg} (h : Sent s t m) (h' : Grows t u) : Sent s u m := by
  obtain ⟨a, b, ha⟩ := h
  obtain ⟨c, hc⟩ := h'
  exact ⟨a, b ++ c, by rw [hc, ha]; simp⟩

theorem Sent.from {r s t : State} {m : FaultMsg} (h : Sent s t m) (h' : Grows r s) : Sent r t m := by
  obtain ⟨a, b, ha⟩ := h
  obtain ⟨c, hc⟩ := h'
  exact ⟨c ++ a, b, by rw [ha, hc]; simp⟩

/-- A counter of R74 after another, or the same, advanced. -/
theorem counter_count (s : State) (port row n port' row' : Nat) : (s.count port row n).counter port' row' =
    if 16 * port + row = 16 * port' + row' then add32 (s.counter port row) n else s.counter port' row' := by
  simp only [State.counter, State.count, Tab.nat, Tab.at_mod]

theorem counter_congr {s t : State} (h : t.ring.counters = s.ring.counters) (port row : Nat) : t.counter port row = s.counter port row := by
  rw [State.counter, h, State.counter]

end Sys2Proof.Machine
end

