-- ==== Sys2Proof/Laws/Keeps2.lean ====
section
/-! SUPPORT. What the operations of Lanes.lean, Cruiser.lean, Health.lean, Wear.lean, Scaler.lean, PairOps.lean, Storage.lean, UpdateOps.lean, Inject.lean, WinchOps.lean keep (see Keeps.lean): no part beyond those named as hypotheses changes. -/

namespace Sys2Proof.Machine

set_option Elab.async false

open Sys2Proof

set_option linter.unusedSimpArgs false
set_option linter.unusedVariables false
set_option linter.tactic.unusedName false

/-! ### Lanes -/

@[simp ↓] theorem laneRaise_keeps (kind : Nat) (sev : Sev) (k : Nat) (s : State) {A : Part → Bool} {r0 : State} (h_s : Keeps A r0 s)
    (p_ranger : A .ranger = true := by first | assumption | rfl) : Keeps A r0 (laneRaise kind sev k s) := by simp [laneRaise, *]

@[simp ↓] theorem laneClear_keeps (kind k : Nat) (s : State) {A : Part → Bool} {r0 : State} (h_s : Keeps A r0 s)
    (p_ranger : A .ranger = true := by first | assumption | rfl) : Keeps A r0 (laneClear kind k s) := by
  unfold laneClear
  simp +contextual (maxDischargeDepth := 60) [SameBut, SameLists, *]

@[simp ↓] theorem learnedRecord_keeps (cause k : Nat) (s : State) {A : Part → Bool} {r0 : State} (h_s : Keeps A r0 s)
    (p_cells : A .cells = true := by first | assumption | rfl)
    (p_storage : A .storage = true := by first | assumption | rfl) : Keeps A r0 (learnedRecord cause k s) := by simp (maxDischargeDepth := 60) [learnedRecord, SameBut, SameLists, *]

@[simp ↓] theorem countEst_keeps (sub : Nat) (s : State) {A : Part → Bool} {r0 : State} (h_s : Keeps A r0 s)
    (p_scaler : A .scaler = true := by first | assumption | rfl) : Keeps A r0 (countEst sub s) := by simp [countEst, SameBut, SameLists, *]

@[simp ↓] theorem resetImpedance_keeps (k : Nat) (s : State) {A : Part → Bool} {r0 : State} (h_s : Keeps A r0 s)
    (p_cells : A .cells = true := by first | assumption | rfl) : Keeps A r0 (resetImpedance k s) := by simp [resetImpedance, *]

@[simp ↓] theorem spoilWindow_keeps (k : Nat) (s : State) {A : Part → Bool} {r0 : State} (h_s : Keeps A r0 s)
    (p_cells : A .cells = true := by first | assumption | rfl) (p_borer : A .borer = true := by first | assumption | rfl) : Keeps A r0 (spoilWindow k s) := by
  unfold spoilWindow
  split <;> simp (maxDischargeDepth := 60) [SameBut, SameLists, *]

@[simp ↓] theorem chargeCounter_keeps (s : State) {A : Part → Bool} {r0 : State} (h_s : Keeps A r0 s)
    (p_scaler : A .scaler = true := by first | assumption | rfl) : Keeps A r0 (chargeCounter s) := by simp [chargeCounter, SameBut, SameLists, *]

@[simp ↓] theorem markTest_keeps (s : State) (k : Nat) {A : Part → Bool} {r0 : State} (h_s : Keeps A r0 s)
    (p_cells : A .cells = true := by first | assumption | rfl) : Keeps A r0 (markTest s k) := by
  unfold markTest
  repeat' first
    | (simp +contextual (maxDischargeDepth := 60) [SameBut, SameLists, *]; done)
    | (rename_i e; have e := congrArg Prod.snd e; dsimp only at e; subst e)
    | split
    | (refine keeps_foldl (fun _ _ _ => ?_) ?_)
    | dsimp only

@[simp ↓] theorem bleedCell_keeps (s : State) (k : Nat) {A : Part → Bool} {r0 : State} (h_s : Keeps A r0 s)
    (p_cells : A .cells = true := by first | assumption | rfl) : Keeps A r0 (bleedCell s k) := by simp [bleedCell, *]

@[simp ↓] theorem takeTemp_keeps (s : State) (k : Nat) {A : Part → Bool} {r0 : State} (h_s : Keeps A r0 s)
    (p_cells : A .cells = true := by first | assumption | rfl) (p_ranger : A .ranger = true := by first | assumption | rfl) : Keeps A r0 (takeTemp s k) := by
  unfold takeTemp
  split <;> simp (maxDischargeDepth := 60) [SameBut, SameLists, *]

@[simp ↓] theorem countCycles_keeps (k : Nat) (dq : Int) (s : State) {A : Part → Bool} {r0 : State} (h_s : Keeps A r0 s)
    (p_cells : A .cells = true := by first | assumption | rfl)
    (p_storage : A .storage = true := by first | assumption | rfl) : Keeps A r0 (countCycles k dq s) := by simp (maxDischargeDepth := 60) [countCycles, SameBut, SameLists, *]

@[simp ↓] theorem countCell_keeps (s : State) (k : Nat) {A : Part → Bool} {r0 : State} (h_s : Keeps A r0 s)
    (p_cells : A .cells = true := by first | assumption | rfl)
    (p_storage : A .storage = true := by first | assumption | rfl) : Keeps A r0 (countCell s k) := by simp [countCell, *]

@[simp ↓] theorem correctCell_keeps (k : Nat) (e sig10 : Int) (s : State) {A : Part → Bool} {r0 : State} (h_s : Keeps A r0 s)
    (p_cells : A .cells = true := by first | assumption | rfl) : Keeps A r0 (correctCell k e sig10 s) := by simp [correctCell, *]

@[simp ↓] theorem clampCell_keeps (k : Nat) (s : State) {A : Part → Bool} {r0 : State} (h_s : Keeps A r0 s)
    (p_cells : A .cells = true := by first | assumption | rfl)
    (p_ranger : A .ranger = true := by first | assumption | rfl) : Keeps A r0 (clampCell k s) := by simp (maxDischargeDepth := 60) [clampCell, SameBut, SameLists, *]

@[simp ↓] theorem divergence_keeps (k : Nat) (s : State) {A : Part → Bool} {r0 : State} (h_s : Keeps A r0 s)
    (p_cells : A .cells = true := by first | assumption | rfl) (p_scaler : A .scaler = true := by first | assumption | rfl)
    (p_ranger : A .ranger = true := by first | assumption | rfl) : Keeps A r0 (divergence k s) := by simp (maxDischargeDepth := 60) [divergence, SameBut, SameLists, *]

@[simp ↓] theorem insertSoc_keeps (k : Nat) (v : Int) (s : State) {A : Part → Bool} {r0 : State} (h_s : Keeps A r0 s)
    (p_cells : A .cells = true := by first | assumption | rfl) : Keeps A r0 (insertSoc k v s) := by simp [insertSoc, *]

@[simp ↓] theorem rejectTraverse_keeps (k : Nat) (s : State) {A : Part → Bool} {r0 : State} (h_s : Keeps A r0 s)
    (p_cells : A .cells = true := by first | assumption | rfl) (p_scaler : A .scaler = true := by first | assumption | rfl)
    (p_tally : A .tally = true := by first | assumption | rfl) : Keeps A r0 (rejectTraverse k s) := by
  unfold rejectTraverse
  repeat' first
    | (simp +contextual (maxDischargeDepth := 60) [SameBut, SameLists, *]; done)
    | (rename_i e; have e := congrArg Prod.snd e; dsimp only at e; subst e)
    | split
    | (refine keeps_foldl (fun _ _ _ => ?_) ?_)
    | dsimp only

@[simp ↓] theorem insertCell_keeps (cause k : Nat) (s : State) {A : Part → Bool} {r0 : State} (h : Keeps A r0 s)
    (p_cells : A .cells = true := by first | assumption | rfl) (p_scaler : A .scaler = true := by first | assumption | rfl) (p_borer : A .borer = true := by first | assumption | rfl)
    (p_ranger : A .ranger = true := by first | assumption | rfl) (p_tally : A .tally = true := by first | assumption | rfl)
    (p_storage : A .storage = true := by first | assumption | rfl) : Keeps A r0 (insertCell cause k s) := by
  unfold insertCell
  extract_lets c new s1 s2 s3 s4 s5 s6
  have h3 : Keeps A r0 s3 := by simp (maxDischargeDepth := 60) [SameBut, SameLists, s3, s2, s1, h, *]
  have h4 : Keeps A r0 s4 := by simp (maxDischargeDepth := 60) [SameBut, SameLists, s4, h3, *]
  have h5 : Keeps A r0 s5 := by simp (maxDischargeDepth := 60) [SameBut, SameLists, s5, h4, *]
  have h6 : Keeps A r0 s6 := by
    simp only [s6]
    repeat' split
    all_goals simp (maxDischargeDepth := 60) [SameBut, SameLists, h5, *]
  simp (maxDischargeDepth := 60) [SameBut, SameLists, h6, *]

@[simp ↓] theorem insertionOf_keeps (s : State) (k : Nat) {A : Part → Bool} {r0 : State} (h_s : Keeps A r0 s)
    (p_cells : A .cells = true := by first | assumption | rfl) (p_scaler : A .scaler = true := by first | assumption | rfl) (p_borer : A .borer = true := by first | assumption | rfl)
    (p_ranger : A .ranger = true := by first | assumption | rfl) (p_tally : A .tally = true := by first | assumption | rfl)
    (p_storage : A .storage = true := by first | assumption | rfl) : Keeps A r0 (insertionOf s k) := by
  unfold insertionOf
  extract_lets c s1 s2
  have h1 : Keeps A r0 s1 := by
    simp only [s1]
    repeat' split
    all_goals first
      | with_reducible exact insertCell_keeps _ _ _ h_s p_cells p_scaler p_borer p_ranger p_tally p_storage
      | with_reducible exact insertSoc_keeps _ _ _ h_s p_cells
      | with_reducible exact h_s
  have h2 : Keeps A r0 s2 := by simp [s2, h1, p_cells]
  split
  · split
    · simp [h2, p_cells]
    · exact h2
  · exact h2

@[simp ↓] theorem endEvent_keeps (kind : Nat) (s : State) {A : Part → Bool} {r0 : State} (h_s : Keeps A r0 s)
    (p_scaler : A .scaler = true := by first | assumption | rfl) : Keeps A r0 (endEvent kind s) := by
  unfold endEvent
  repeat' first
    | (simp +contextual (maxDischargeDepth := 60) [SameBut, SameLists, *]; done)
    | (rename_i e; have e := congrArg Prod.snd e; dsimp only at e; subst e)
    | split
    | (refine keeps_foldl (fun _ _ _ => ?_) ?_)
    | dsimp only

@[simp ↓] theorem shutDown_keeps (s : State) (k : Nat) {A : Part → Bool} {r0 : State} (h_s : Keeps A r0 s)
    (p_cells : A .cells = true := by first | assumption | rfl) (p_scaler : A .scaler = true := by first | assumption | rfl)
    (p_ranger : A .ranger = true := by first | assumption | rfl) : Keeps A r0 (shutDown s k) := by
  unfold shutDown
  repeat' first
    | (simp +contextual (maxDischargeDepth := 60) [SameBut, SameLists, *]; done)
    | (rename_i e; have e := congrArg Prod.snd e; dsimp only at e; subst e)
    | split
    | (refine keeps_foldl (fun _ _ _ => ?_) ?_)
    | dsimp only

@[simp ↓] theorem shutDownOf_keeps (s : State) (k : Nat) {A : Part → Bool} {r0 : State} (h_s : Keeps A r0 s)
    (p_cells : A .cells = true := by first | assumption | rfl) (p_scaler : A .scaler = true := by first | assumption | rfl)
    (p_ranger : A .ranger = true := by first | assumption | rfl) : Keeps A r0 (shutDownOf s k) := by
  unfold shutDownOf
  split <;> simp (maxDischargeDepth := 60) [SameBut, SameLists, *]

@[simp ↓] theorem restOf_keeps (s : State) (k : Nat) {A : Part → Bool} {r0 : State} (h_s : Keeps A r0 s)
    (p_cells : A .cells = true := by first | assumption | rfl) : Keeps A r0 (restOf s k) := by
  unfold restOf
  repeat' first
    | (simp +contextual (maxDischargeDepth := 60) [SameBut, SameLists, *]; done)
    | (rename_i e; have e := congrArg Prod.snd e; dsimp only at e; subst e)
    | split
    | (refine keeps_foldl (fun _ _ _ => ?_) ?_)
    | dsimp only

@[simp ↓] theorem traverseOf_keeps (s : State) (k : Nat) {A : Part → Bool} {r0 : State} (h_s : Keeps A r0 s)
    (p_cells : A .cells = true := by first | assumption | rfl) : Keeps A r0 (traverseOf s k) := by simp [traverseOf, *]

@[simp ↓] theorem dispatchJobs_keeps (s : State) {A : Part → Bool} {r0 : State} (h_s : Keeps A r0 s)
    (p_cruiser : A .cruiser = true := by first | assumption | rfl) : Keeps A r0 (dispatchJobs s) := by
  unfold dispatchJobs
  repeat' first
    | (simp +contextual (maxDischargeDepth := 60) [SameBut, SameLists, *]; done)
    | (rename_i e; have e := congrArg Prod.snd e; dsimp only at e; subst e)
    | split
    | (refine keeps_foldl (fun _ _ _ => ?_) ?_)
    | dsimp only

@[simp ↓] theorem missedUpdate_keeps (s : State) (k : Nat) {A : Part → Bool} {r0 : State} (h_s : Keeps A r0 s)
    (p_tally : A .tally = true := by first | assumption | rfl) : Keeps A r0 (missedUpdate s k) := by
  unfold missedUpdate
  split <;> simp (maxDischargeDepth := 60) [SameBut, SameLists, *]

@[simp ↓] theorem finishCell_keeps (before s : State) (k : Nat) {A : Part → Bool} {r0 : State} (h_before : Keeps A r0 before) (h_s : Keeps A r0 s) (p_cells : A .cells = true := by first | assumption | rfl)
    (p_scaler : A .scaler = true := by first | assumption | rfl) (p_ranger : A .ranger = true := by first | assumption | rfl) : Keeps A r0 (finishCell before s k) := by
  unfold finishCell
  split <;> simp (maxDischargeDepth := 60) [SameBut, SameLists, *]

@[simp ↓] theorem aggregate_keeps (s : State) (k : Nat) {A : Part → Bool} {r0 : State} (h_s : Keeps A r0 s)
    (p_cells : A .cells = true := by first | assumption | rfl) : Keeps A r0 (aggregate s k) := by simp [aggregate, *]

@[simp ↓] theorem runLanes_keeps (s : State) {A : Part → Bool} {r0 : State} (h_s : Keeps A r0 s)
    (p_cells : A .cells = true := by first | assumption | rfl) (p_scaler : A .scaler = true := by first | assumption | rfl)
    (p_cruiser : A .cruiser = true := by first | assumption | rfl) (p_borer : A .borer = true := by first | assumption | rfl)
    (p_ranger : A .ranger = true := by first | assumption | rfl) (p_tally : A .tally = true := by first | assumption | rfl)
    (p_storage : A .storage = true := by first | assumption | rfl) : Keeps A r0 (runLanes s) := by
  unfold runLanes
  simp +contextual (maxDischargeDepth := 60) [SameBut, SameLists, *]

@[simp ↓] theorem usableSoc_keeps (s : State) {A : Part → Bool} {r0 : State} (h_s : Keeps A r0 s)
    (p_scaler : A .scaler = true := by first | assumption | rfl) : Keeps A r0 (usableSoc s) := by
  unfold usableSoc
  repeat' first
    | (simp +contextual (maxDischargeDepth := 60) [SameBut, SameLists, *]; done)
    | (rename_i e; have e := congrArg Prod.snd e; dsimp only at e; subst e)
    | split
    | (refine keeps_foldl (fun _ _ _ => ?_) ?_)
    | dsimp only

@[simp ↓] theorem impedanceLimit_keeps (s : State) {A : Part → Bool} {r0 : State} (h_s : Keeps A r0 s)
    (p_sawyer : A .sawyer = true := by first | assumption | rfl) : Keeps A r0 (impedanceLimit s) := by simp [impedanceLimit, SameBut, SameLists, *]

@[simp ↓] theorem endWindows_keeps (s : State) {A : Part → Bool} {r0 : State} (h_s : Keeps A r0 s)
    (p_scaler : A .scaler = true := by first | assumption | rfl) : Keeps A r0 (endWindows s) := by simp [endWindows, SameBut, SameLists, *]

/-! ### Cruiser -/

@[simp ↓] theorem cruise_keeps (s : State) {A : Part → Bool} {r0 : State} (h : Keeps A r0 s) (p_cells : A .cells = true := by first | assumption | rfl)
    (p_cruiser : A .cruiser = true := by first | assumption | rfl) : Keeps A r0 (cruise s) := by
  unfold cruise
  extract_lets rank top order reasons s1 cls pl pl1 pl2 pl3 s2 n
  have h1 : Keeps A r0 s1 := keeps_foldl (fun x a hx => by simp (maxDischargeDepth := 60) [SameBut, SameLists, *]) h
  have h2 : Keeps A r0 s2 := keeps_foldl (fun x a hx => by simp (maxDischargeDepth := 60) [SameBut, SameLists, *]) h1
  simp (maxDischargeDepth := 60) [SameBut, SameLists, h2, *]

@[simp ↓] theorem completeMoves_keeps (s : State) {A : Part → Bool} {r0 : State} (h_s : Keeps A r0 s)
    (p_cells : A .cells = true := by first | assumption | rfl) (p_cruiser : A .cruiser = true := by first | assumption | rfl) : Keeps A r0 (completeMoves s) := by
  unfold completeMoves
  simp +contextual (maxDischargeDepth := 60) [SameBut, SameLists, *]

@[simp ↓] theorem replaceLanes_keeps (s : State) {A : Part → Bool} {r0 : State} (h_s : Keeps A r0 s)
    (p_cells : A .cells = true := by first | assumption | rfl) : Keeps A r0 (replaceLanes s) := by
  unfold replaceLanes
  repeat' first
    | (simp +contextual (maxDischargeDepth := 60) [SameBut, SameLists, *]; done)
    | (rename_i e; have e := congrArg Prod.snd e; dsimp only at e; subst e)
    | split
    | (refine keeps_foldl (fun _ _ _ => ?_) ?_)
    | dsimp only

@[simp ↓] theorem placeCells_keeps (s : State) {A : Part → Bool} {r0 : State} (h_s : Keeps A r0 s) (p_cells : A .cells = true := by first | assumption | rfl)
    (p_cruiser : A .cruiser = true := by first | assumption | rfl) : Keeps A r0 (placeCells s) := by
  unfold placeCells
  simp +contextual (maxDischargeDepth := 60) [SameBut, SameLists, *]

@[simp ↓] theorem discardStaging_keeps (s : State) {A : Part → Bool} {r0 : State} (h_s : Keeps A r0 s)
    (p_dict : A .dict = true := by first | assumption | rfl) : Keeps A r0 (discardStaging s) := by simp [discardStaging, SameBut, SameLists, *]

@[simp ↓] theorem stageValue_keeps (sess key : Nat) (v : ObjVal) (s : State) {A : Part → Bool} {r0 : State} (h_s : Keeps A r0 s)
    (p_dict : A .dict = true := by first | assumption | rfl) : Keeps A r0 (stageValue sess key v s) := by simp [stageValue, SameBut, SameLists, *]

@[simp ↓] theorem execStagingIdleTimeout_keeps (s : State) {A : Part → Bool} {r0 : State} (h_s : Keeps A r0 s)
    (p_dict : A .dict = true := by first | assumption | rfl) : OutKeeps A r0 (execStagingIdleTimeout s) := by simp (maxDischargeDepth := 60) [execStagingIdleTimeout, SameBut, SameLists, *]

/-! ### Health -/

@[simp ↓] theorem healthOf_keeps (k : Nat) (s : State) {A : Part → Bool} {r0 : State} (h_s : Keeps A r0 s)
    (p_cells : A .cells = true := by first | assumption | rfl) (p_ranger : A .ranger = true := by first | assumption | rfl) : Keeps A r0 (healthOf k s) := by
  unfold healthOf
  simp +contextual (maxDischargeDepth := 60) [SameBut, SameLists, *]

@[simp ↓] theorem healthFigures_keeps (s : State) {A : Part → Bool} {r0 : State} (h_s : Keeps A r0 s)
    (p_borer : A .borer = true := by first | assumption | rfl) : Keeps A r0 (healthFigures s) := by simp [healthFigures, SameBut, SameLists, *]

@[simp ↓] theorem healthNow_keeps (k : Nat) (s : State) {A : Part → Bool} {r0 : State} (h_s : Keeps A r0 s)
    (p_cells : A .cells = true := by first | assumption | rfl) (p_borer : A .borer = true := by first | assumption | rfl)
    (p_ranger : A .ranger = true := by first | assumption | rfl) : Keeps A r0 (healthNow k s) := by
  unfold healthNow
  repeat' first
    | (simp +contextual (maxDischargeDepth := 60) [SameBut, SameLists, *]; done)
    | (rename_i e; have e := congrArg Prod.snd e; dsimp only at e; subst e)
    | split
    | (refine keeps_foldl (fun _ _ _ => ?_) ?_)
    | dsimp only

@[simp ↓] theorem execHealthEvaluation_keeps (s : State) {A : Part → Bool} {r0 : State} (h_s : Keeps A r0 s)
    (p_cells : A .cells = true := by first | assumption | rfl) (p_borer : A .borer = true := by first | assumption | rfl)
    (p_ranger : A .ranger = true := by first | assumption | rfl) : OutKeeps A r0 (execHealthEvaluation s) := by
  unfold execHealthEvaluation
  simp +contextual (maxDischargeDepth := 60) [SameBut, SameLists, *]

@[simp ↓] theorem snapCell_keeps (s : State) (k : Nat) {A : Part → Bool} {r0 : State} (h_s : Keeps A r0 s)
    (p_cells : A .cells = true := by first | assumption | rfl) : Keeps A r0 (snapCell s k) := by simp [snapCell, *]

@[simp ↓] theorem execRestSnapshot_keeps (s : State) {A : Part → Bool} {r0 : State} (h_s : Keeps A r0 s)
    (p_cells : A .cells = true := by first | assumption | rfl) (p_borer : A .borer = true := by first | assumption | rfl) : OutKeeps A r0 (execRestSnapshot s) := by
  unfold execRestSnapshot
  simp +contextual (maxDischargeDepth := 60) [SameBut, SameLists, *]

@[simp ↓] theorem suspicionRecord_keeps (k : Nat) (s : State) {A : Part → Bool} {r0 : State} (h_s : Keeps A r0 s)
    (p_tally : A .tally = true := by first | assumption | rfl) : Keeps A r0 (suspicionRecord k s) := by simp [suspicionRecord, *]

@[simp ↓] theorem suspect_keeps (k : Nat) (rate : Int) (s : State) {A : Part → Bool} {r0 : State} (h_s : Keeps A r0 s)
    (p_cells : A .cells = true := by first | assumption | rfl) (p_ranger : A .ranger = true := by first | assumption | rfl)
    (p_tally : A .tally = true := by first | assumption | rfl) : Keeps A r0 (suspect k rate s) := by
  unfold suspect
  repeat' first
    | (simp +contextual (maxDischargeDepth := 60) [SameBut, SameLists, *]; done)
    | (rename_i e; have e := congrArg Prod.snd e; dsimp only at e; subst e)
    | split
    | (refine keeps_foldl (fun _ _ _ => ?_) ?_)
    | dsimp only

@[simp ↓] theorem restResult_keeps (k : Nat) (rate : Int) (s : State) {A : Part → Bool} {r0 : State} (h_s : Keeps A r0 s)
    (p_cells : A .cells = true := by first | assumption | rfl) (p_ranger : A .ranger = true := by first | assumption | rfl) (p_tally : A .tally = true := by first | assumption | rfl)
    (p_storage : A .storage = true := by first | assumption | rfl) : Keeps A r0 (restResult k rate s) := by simp (maxDischargeDepth := 60) [restResult, SameBut, SameLists, *]

@[simp ↓] theorem evalCell_keeps (med : Int) (k : Nat) (s : State) {A : Part → Bool} {r0 : State} (h_s : Keeps A r0 s)
    (p_cells : A .cells = true := by first | assumption | rfl) (p_borer : A .borer = true := by first | assumption | rfl) (p_ranger : A .ranger = true := by first | assumption | rfl)
    (p_tally : A .tally = true := by first | assumption | rfl) (p_storage : A .storage = true := by first | assumption | rfl) : Keeps A r0 (evalCell med k s) := by
  unfold evalCell
  repeat' first
    | (simp +contextual (maxDischargeDepth := 60) [SameBut, SameLists, *]; done)
    | (rename_i e; have e := congrArg Prod.snd e; dsimp only at e; subst e)
    | split
    | (refine keeps_foldl (fun _ _ _ => ?_) ?_)
    | dsimp only

@[simp ↓] theorem evalSlot_keeps (due : List Nat) (s : State) (slot : Nat) {A : Part → Bool} {r0 : State} (h_s : Keeps A r0 s)
    (p_cells : A .cells = true := by first | assumption | rfl) (p_borer : A .borer = true := by first | assumption | rfl) (p_ranger : A .ranger = true := by first | assumption | rfl)
    (p_tally : A .tally = true := by first | assumption | rfl) (p_storage : A .storage = true := by first | assumption | rfl) : Keeps A r0 (evalSlot due s slot) := by
  unfold evalSlot
  simp +contextual (maxDischargeDepth := 60) [SameBut, SameLists, *]

@[simp ↓] theorem execRestEvaluation_keeps (s : State) {A : Part → Bool} {r0 : State} (h_s : Keeps A r0 s)
    (p_cells : A .cells = true := by first | assumption | rfl) (p_borer : A .borer = true := by first | assumption | rfl) (p_ranger : A .ranger = true := by first | assumption | rfl)
    (p_tally : A .tally = true := by first | assumption | rfl) (p_storage : A .storage = true := by first | assumption | rfl) : OutKeeps A r0 (execRestEvaluation s) := by
  unfold execRestEvaluation
  simp +contextual (maxDischargeDepth := 60) [SameBut, SameLists, *]

@[simp ↓] theorem effSuspicionClear_keeps (k : Nat) (s : State) {A : Part → Bool} {r0 : State} (h_s : Keeps A r0 s)
    (p_cells : A .cells = true := by first | assumption | rfl) (p_ranger : A .ranger = true := by first | assumption | rfl)
    (p_tally : A .tally = true := by first | assumption | rfl) : Keeps A r0 (effSuspicionClear k s) := by
  unfold effSuspicionClear
  split <;> simp (maxDischargeDepth := 60) [SameBut, SameLists, *]

/-! ### Wear -/

@[simp ↓] theorem eraseUnit_keeps (u n : Nat) (s : State) {A : Part → Bool} {r0 : State} (h_s : Keeps A r0 s)
    (p_cruiser : A .cruiser = true := by first | assumption | rfl) : Keeps A r0 (eraseUnit u n s) := by simp [eraseUnit, SameBut, SameLists, *]

@[simp ↓] theorem noteSpread_keeps (s : State) {A : Part → Bool} {r0 : State} (h_s : Keeps A r0 s)
    (p_cruiser : A .cruiser = true := by first | assumption | rfl) : Keeps A r0 (noteSpread s) := by simp [noteSpread, SameBut, SameLists, *]

@[simp ↓] theorem beginUnit_keeps (area : Nat) (s : State) {A : Part → Bool} {r0 : State} (h_s : Keeps A r0 s)
    (p_cruiser : A .cruiser = true := by first | assumption | rfl) : Keeps A r0 (beginUnit area s) := by
  unfold beginUnit
  repeat' first
    | (simp +contextual (maxDischargeDepth := 60) [SameBut, SameLists, *]; done)
    | (rename_i e; have e := congrArg Prod.snd e; dsimp only at e; subst e)
    | split
    | (refine keeps_foldl (fun _ _ _ => ?_) ?_)
    | dsimp only

@[simp ↓] theorem wrote_keeps (area n : Nat) (s : State) {A : Part → Bool} {r0 : State} (h_s : Keeps A r0 s)
    (p_cruiser : A .cruiser = true := by first | assumption | rfl) (p_ranger : A .ranger = true := by first | assumption | rfl) : Keeps A r0 (wrote area n s) := by
  unfold wrote
  repeat' first
    | (simp +contextual (maxDischargeDepth := 60) [SameBut, SameLists, *]; done)
    | (rename_i e; have e := congrArg Prod.snd e; dsimp only at e; subst e)
    | split
    | (refine keeps_foldl (fun _ _ _ => ?_) ?_)
    | dsimp only

/-! ### Scaler -/

@[simp ↓] theorem learn_keeps (k : Nat) (a : Anchor) (t : Traverse) (s : State) {A : Part → Bool} {r0 : State} (h_s : Keeps A r0 s)
    (p_cells : A .cells = true := by first | assumption | rfl) (p_scaler : A .scaler = true := by first | assumption | rfl)
    (p_borer : A .borer = true := by first | assumption | rfl) (p_ranger : A .ranger = true := by first | assumption | rfl)
    (p_storage : A .storage = true := by first | assumption | rfl) : Keeps A r0 (learn k a t s) := by simp (maxDischargeDepth := 60) [learn, SameBut, SameLists, *]

@[simp ↓] theorem closeTraverse_keeps (k : Nat) (a : Anchor) (s : State) {A : Part → Bool} {r0 : State} (h_s : Keeps A r0 s)
    (p_cells : A .cells = true := by first | assumption | rfl) (p_scaler : A .scaler = true := by first | assumption | rfl)
    (p_borer : A .borer = true := by first | assumption | rfl) (p_ranger : A .ranger = true := by first | assumption | rfl)
    (p_tally : A .tally = true := by first | assumption | rfl) (p_storage : A .storage = true := by first | assumption | rfl)
    : Keeps A r0 (closeTraverse k a s) := by simp (maxDischargeDepth := 60) [closeTraverse, SameBut, SameLists, *]

@[simp ↓] theorem takeAnchor_keeps (charge : Bool) (direct : Bool) (s : State) (k : Nat) {A : Part → Bool} {r0 : State} (h_s : Keeps A r0 s)
    (p_cells : A .cells = true := by first | assumption | rfl) (p_scaler : A .scaler = true := by first | assumption | rfl)
    (p_borer : A .borer = true := by first | assumption | rfl) (p_dict : A .dict = true := by first | assumption | rfl)
    (p_ranger : A .ranger = true := by first | assumption | rfl) (p_tally : A .tally = true := by first | assumption | rfl)
    (p_storage : A .storage = true := by first | assumption | rfl) : Keeps A r0 (takeAnchor charge direct s k) := by
  unfold takeAnchor
  (repeat' split) <;> simp (maxDischargeDepth := 60) [SameBut, SameLists, *]

@[simp ↓] theorem anchorDirect_keeps (charge : Bool) (s : State) (k : Nat) {A : Part → Bool} {r0 : State} (h_s : Keeps A r0 s)
    (p_cells : A .cells = true := by first | assumption | rfl) (p_dict : A .dict = true := by first | assumption | rfl)
    (p_ranger : A .ranger = true := by first | assumption | rfl) : Keeps A r0 (anchorDirect charge s k) := by simp [anchorDirect, *]

@[simp ↓] theorem runEndEvent_keeps (charge : Bool) (s : State) {A : Part → Bool} {r0 : State} (h_s : Keeps A r0 s)
    (p_cells : A .cells = true := by first | assumption | rfl) (p_scaler : A .scaler = true := by first | assumption | rfl)
    (p_borer : A .borer = true := by first | assumption | rfl) (p_dict : A .dict = true := by first | assumption | rfl)
    (p_ranger : A .ranger = true := by first | assumption | rfl) (p_tally : A .tally = true := by first | assumption | rfl)
    (p_storage : A .storage = true := by first | assumption | rfl) : Keeps A r0 (runEndEvent charge s) := by
  unfold runEndEvent
  simp +contextual (maxDischargeDepth := 60) [SameBut, SameLists, *]

@[simp ↓] theorem execEndOfCharge_keeps (s : State) {A : Part → Bool} {r0 : State} (h_s : Keeps A r0 s)
    (p_cells : A .cells = true := by first | assumption | rfl) (p_scaler : A .scaler = true := by first | assumption | rfl)
    (p_borer : A .borer = true := by first | assumption | rfl) (p_dict : A .dict = true := by first | assumption | rfl)
    (p_ranger : A .ranger = true := by first | assumption | rfl) (p_tally : A .tally = true := by first | assumption | rfl)
    (p_storage : A .storage = true := by first | assumption | rfl) : OutKeeps A r0 (execEndOfCharge s) := by simp (maxDischargeDepth := 60) [execEndOfCharge, SameBut, SameLists, *]

@[simp ↓] theorem execEndOfDischarge_keeps (s : State) {A : Part → Bool} {r0 : State} (h_s : Keeps A r0 s)
    (p_cells : A .cells = true := by first | assumption | rfl) (p_scaler : A .scaler = true := by first | assumption | rfl)
    (p_borer : A .borer = true := by first | assumption | rfl) (p_dict : A .dict = true := by first | assumption | rfl)
    (p_ranger : A .ranger = true := by first | assumption | rfl) (p_tally : A .tally = true := by first | assumption | rfl)
    (p_storage : A .storage = true := by first | assumption | rfl) : OutKeeps A r0 (execEndOfDischarge s) := by simp (maxDischargeDepth := 60) [execEndOfDischarge, SameBut, SameLists, *]

@[simp ↓] theorem execEndEventRearm_keeps (charge : Bool) (s : State) {A : Part → Bool} {r0 : State} (h_s : Keeps A r0 s)
    (p_cells : A .cells = true := by first | assumption | rfl) (p_scaler : A .scaler = true := by first | assumption | rfl)
    (p_dict : A .dict = true := by first | assumption | rfl) : OutKeeps A r0 (execEndEventRearm charge s) := by
  unfold execEndEventRearm
  simp +contextual (maxDischargeDepth := 60) [SameBut, SameLists, *]

@[simp ↓] theorem execCountingDivergenceClear_keeps (k : Nat) (s : State) {A : Part → Bool} {r0 : State} (h_s : Keeps A r0 s)
    (p_cells : A .cells = true := by first | assumption | rfl)
    (p_ranger : A .ranger = true := by first | assumption | rfl) : OutKeeps A r0 (execCountingDivergenceClear k s) := by simp (maxDischargeDepth := 60) [execCountingDivergenceClear, SameBut, SameLists, *]

@[simp ↓] theorem execCellTemperatureUnknown_keeps (k : Nat) (s : State) {A : Part → Bool} {r0 : State} (h_s : Keeps A r0 s)
    (p_ranger : A .ranger = true := by first | assumption | rfl) : OutKeeps A r0 (execCellTemperatureUnknown k s) := by simp (maxDischargeDepth := 60) [execCellTemperatureUnknown, SameBut, SameLists, *]

@[simp ↓] theorem resetCapacity_keeps (k : Nat) (s : State) {A : Part → Bool} {r0 : State} (h_s : Keeps A r0 s)
    (p_cells : A .cells = true := by first | assumption | rfl) (p_scaler : A .scaler = true := by first | assumption | rfl)
    (p_borer : A .borer = true := by first | assumption | rfl) (p_tally : A .tally = true := by first | assumption | rfl)
    (p_storage : A .storage = true := by first | assumption | rfl) : Keeps A r0 (resetCapacity k s) := by simp (maxDischargeDepth := 60) [resetCapacity, SameBut, SameLists, *]

@[simp ↓] theorem resetCycles_keeps (k : Nat) (s : State) {A : Part → Bool} {r0 : State} (h_s : Keeps A r0 s)
    (p_cells : A .cells = true := by first | assumption | rfl) (p_tally : A .tally = true := by first | assumption | rfl)
    (p_storage : A .storage = true := by first | assumption | rfl) : Keeps A r0 (resetCycles k s) := by simp (maxDischargeDepth := 60) [resetCycles, SameBut, SameLists, *]

@[simp ↓] theorem cellCommand_keeps (k cmd : Nat) (s : State) {A : Part → Bool} {r0 : State} (h_s : Keeps A r0 s)
    (p_cells : A .cells = true := by first | assumption | rfl) (p_scaler : A .scaler = true := by first | assumption | rfl)
    (p_borer : A .borer = true := by first | assumption | rfl) (p_tally : A .tally = true := by first | assumption | rfl)
    (p_storage : A .storage = true := by first | assumption | rfl) : Keeps A r0 (cellCommand k cmd s) := by
  unfold cellCommand
  split <;> simp (maxDischargeDepth := 60) [SameBut, SameLists, *]

@[simp ↓] theorem effCellCommand_keeps (k cmd : Nat) (s : State) {A : Part → Bool} {r0 : State} (h_s : Keeps A r0 s)
    (p_dict : A .dict = true := by first | assumption | rfl) : Keeps A r0 (effCellCommand k cmd s) := by simp [effCellCommand, SameBut, SameLists, *]

@[simp ↓] theorem execMinuteAggregate_keeps (s : State) {A : Part → Bool} {r0 : State} (h_s : Keeps A r0 s)
    (p_cells : A .cells = true := by first | assumption | rfl) (p_cruiser : A .cruiser = true := by first | assumption | rfl)
    (p_ranger : A .ranger = true := by first | assumption | rfl) : OutKeeps A r0 (execMinuteAggregate s) := by
  unfold execMinuteAggregate
  simp +contextual (maxDischargeDepth := 60) [SameBut, SameLists, *]

@[simp ↓] theorem execHourAggregate_keeps (s : State) {A : Part → Bool} {r0 : State} (h_s : Keeps A r0 s)
    (p_cells : A .cells = true := by first | assumption | rfl) (p_cruiser : A .cruiser = true := by first | assumption | rfl)
    (p_ranger : A .ranger = true := by first | assumption | rfl) : OutKeeps A r0 (execHourAggregate s) := by
  unfold execHourAggregate
  simp +contextual (maxDischargeDepth := 60) [SameBut, SameLists, *]

@[simp ↓] theorem effLaneDrain_keeps (l : Nat) (s : State) {A : Part → Bool} {r0 : State} (h_s : Keeps A r0 s)
    (p_cruiser : A .cruiser = true := by first | assumption | rfl) : Keeps A r0 (effLaneDrain l s) := by simp [effLaneDrain, SameBut, SameLists, *]

@[simp ↓] theorem execTableEntryRepaired_keeps (cellEntry state : Bool) (n : Nat) (s : State) {A : Part → Bool} {r0 : State} (h_s : Keeps A r0 s) (p_cells : A .cells = true := by first | assumption | rfl)
    (p_points : A .points = true := by first | assumption | rfl) (p_dict : A .dict = true := by first | assumption | rfl)
    (p_ranger : A .ranger = true := by first | assumption | rfl) : OutKeeps A r0 (execTableEntryRepaired cellEntry state n s) := by
  unfold execTableEntryRepaired
  repeat' first
    | (simp +contextual (maxDischargeDepth := 60) [SameBut, SameLists, *]; done)
    | (rename_i e; have e := congrArg Prod.snd e; dsimp only at e; subst e)
    | split
    | (refine keeps_foldl (fun _ _ _ => ?_) ?_)
    | dsimp only

/-! ### PairOps -/

@[simp ↓] theorem tetherSend_keeps (m : TetherMsg) (s : State) {A : Part → Bool} {r0 : State} (h_s : Keeps A r0 s)
    (p_pair : A .pair = true := by first | assumption | rfl) : Keeps A r0 (tetherSend m s) := by simp [tetherSend, SameBut, SameLists, *]

@[simp ↓] theorem replicate_keeps (what : RepKind) (effective : Cycle) (s : State) {A : Part → Bool} {r0 : State} (h_s : Keeps A r0 s)
    (p_pair : A .pair = true := by first | assumption | rfl) : Keeps A r0 (replicate what effective s) := by simp (maxDischargeDepth := 60) [replicate, SameBut, SameLists, *]

@[simp ↓] theorem tetherInput_keeps (what : RepKind) (effective : Cycle) (s : State) {A : Part → Bool} {r0 : State} (h_s : Keeps A r0 s)
    (p_pair : A .pair = true := by first | assumption | rfl) : Keeps A r0 (tetherInput what effective s) := by simp (maxDischargeDepth := 60) [tetherInput, SameBut, SameLists, *]

/-! ### Storage -/

@[simp ↓] theorem captureImage_keeps (s : State) {A : Part → Bool} {r0 : State} (h : Keeps A r0 s)
    (p_storage : A .storage = true := by first | assumption | rfl) : Keeps A r0 (captureImage s) := by
  refine h.of_parts (by simp [SameBut, captureImage, *]) rfl rfl rfl fun c => ?_
  exact { c with landing := keepN_le 2 _ }

@[simp ↓] theorem healArea_keeps (area : Nat) (s : State) {A : Part → Bool} {r0 : State} (h_s : Keeps A r0 s)
    (p_ranger : A .ranger = true := by first | assumption | rfl)
    (p_storage : A .storage = true := by first | assumption | rfl) : Keeps A r0 (healArea area s) := by simp (maxDischargeDepth := 60) [healArea, SameBut, SameLists, *]

@[simp ↓] theorem refreshDictionary_keeps (s : State) {A : Part → Bool} {r0 : State} (h_s : Keeps A r0 s)
    (p_cruiser : A .cruiser = true := by first | assumption | rfl) (p_ranger : A .ranger = true := by first | assumption | rfl)
    (p_storage : A .storage = true := by first | assumption | rfl) : Keeps A r0 (refreshDictionary s) := by simp (maxDischargeDepth := 60) [refreshDictionary, SameBut, SameLists, *]

@[simp ↓] theorem execLogRefresh_keeps (s : State) {A : Part → Bool} {r0 : State} (h_s : Keeps A r0 s)
    (p_cruiser : A .cruiser = true := by first | assumption | rfl) (p_ranger : A .ranger = true := by first | assumption | rfl)
    (p_storage : A .storage = true := by first | assumption | rfl) : OutKeeps A r0 (execLogRefresh s) := by simp (maxDischargeDepth := 60) [execLogRefresh, SameBut, SameLists, *]

@[simp ↓] theorem storeCheckpoint_keeps (s : State) {A : Part → Bool} {r0 : State} (h : Keeps A r0 s)
    (p_cruiser : A .cruiser = true := by first | assumption | rfl) (p_ranger : A .ranger = true := by first | assumption | rfl)
    (p_storage : A .storage = true := by first | assumption | rfl) : Keeps A r0 (storeCheckpoint s) := by
  unfold storeCheckpoint drawInt
  dsimp only
  have hc : ∀ f, Keeps A r0 { s with free := f, storage := { s.storage with checkpoints := keepN 8 (State.checkpointImage { s with free := s.free + 1 } :: s.storage.checkpoints), lastCp := s.core.cycle } } := by
    intro f
    refine h.of_parts (by simp [SameBut, *]) rfl rfl rfl fun c => ?_
    exact { c with checkpoints := keepN_le 8 _ }
  simp (maxDischargeDepth := 60) [SameBut, SameLists, hc, *]

@[simp ↓] theorem queueSnapshot_keeps (s : State) {A : Part → Bool} {r0 : State} (h_s : Keeps A r0 s)
    (p_storage : A .storage = true := by first | assumption | rfl) : Keeps A r0 (queueSnapshot s) := by
  unfold queueSnapshot
  simp +contextual (maxDischargeDepth := 60) [SameBut, SameLists, *]

@[simp ↓] theorem sendTables_keeps (s : State) {A : Part → Bool} {r0 : State} (h_s : Keeps A r0 s)
    (p_pair : A .pair = true := by first | assumption | rfl) : Keeps A r0 (sendTables s) := by simp [sendTables, *]

@[simp ↓] theorem execStorageCheckpoint_keeps (failed : Bool) (s : State) {A : Part → Bool} {r0 : State} (h_s : Keeps A r0 s)
    (p_cruiser : A .cruiser = true := by first | assumption | rfl) (p_pair : A .pair = true := by first | assumption | rfl) (p_ranger : A .ranger = true := by first | assumption | rfl)
    (p_storage : A .storage = true := by first | assumption | rfl) : OutKeeps A r0 (execStorageCheckpoint failed s) := by simp (maxDischargeDepth := 60) [execStorageCheckpoint, SameBut, SameLists, *]

@[simp ↓] theorem commitRecorded_keeps (s : State) {A : Part → Bool} {r0 : State} (h_s : Keeps A r0 s)
    (p_storage : A .storage = true := by first | assumption | rfl) : Keeps A r0 (commitRecorded s) := by
  unfold commitRecorded
  split <;> simp (maxDischargeDepth := 60) [SameBut, SameLists, *]

@[simp ↓] theorem writeFixed_keeps (slot : Nat) (r : JournalRec) (cut : Bool) (s : State) {A : Part → Bool} {r0 : State} (h_s : Keeps A r0 s)
    (p_storage : A .storage = true := by first | assumption | rfl) : Keeps A r0 (writeFixed slot r cut s) := by simp (maxDischargeDepth := 60) [writeFixed, SameBut, SameLists, *]

@[simp ↓] theorem writeLog_keeps (r : JournalRec) (cut : Nat) (s : State) {A : Part → Bool} {r0 : State} (h_s : Keeps A r0 s)
    (p_dict : A .dict = true := by first | assumption | rfl) (p_storage : A .storage = true := by first | assumption | rfl) : Keeps A r0 (writeLog r cut s) := by
  unfold writeLog
  (repeat' split) <;> simp (maxDischargeDepth := 60) [SameBut, SameLists, *]

@[simp ↓] theorem queueDictionary_keeps (idx sub ty : Nat) (shown : Bytes) (v : ObjVal) (effective : Cycle) (release : Option Response) (s : State) {A : Part → Bool} {r0 : State} (h_s : Keeps A r0 s)
    (p_storage : A .storage = true := by first | assumption | rfl) : Keeps A r0 (queueDictionary idx sub ty shown v effective release s) := by simp [queueDictionary, SameBut, SameLists, *]

@[simp ↓] theorem lostStep_keeps (k cause : Nat) (s : State) {A : Part → Bool} {r0 : State} (h_s : Keeps A r0 s)
    (p_scaler : A .scaler = true := by first | assumption | rfl) (p_ranger : A .ranger = true := by first | assumption | rfl)
    (p_tally : A .tally = true := by first | assumption | rfl) : Keeps A r0 (lostStep k cause s) := by simp (maxDischargeDepth := 60) [lostStep, SameBut, SameLists, *]

@[simp ↓] theorem execWearSwap_keeps (s : State) {A : Part → Bool} {r0 : State} (h_s : Keeps A r0 s)
    (p_cruiser : A .cruiser = true := by first | assumption | rfl) : OutKeeps A r0 (execWearSwap s) := by
  unfold execWearSwap
  (repeat' split) <;> simp (maxDischargeDepth := 60) [SameBut, SameLists, *]

@[simp ↓] theorem retireUnit_keeps (u : Nat) (s : State) {A : Part → Bool} {r0 : State} (h_s : Keeps A r0 s)
    (p_cruiser : A .cruiser = true := by first | assumption | rfl) (p_ranger : A .ranger = true := by first | assumption | rfl)
    (p_tally : A .tally = true := by first | assumption | rfl) (p_storage : A .storage = true := by first | assumption | rfl) : Keeps A r0 (retireUnit u s) := by
  unfold retireUnit
  extract_lets p area spare left s1 map cr st s2
  have h1 : Keeps A r0 s1 := State.tellEvent_keeps _ _ _ _ _ (State.report_keeps _ _ _ _ _ _ h_s)
  have h2 : Keeps A r0 s2 := by
    obtain ⟨x, y, e, hl, hc⟩ : ∃ x y, s2 = { s1 with cruiser := x, storage := y } ∧ y.landing = s1.storage.landing ∧ y.checkpoints = s1.storage.checkpoints :=
      ⟨_, _, rfl, rfl, rfl⟩
    rw [e]
    exact keeps_mk h1 (by simp [SameBut, p_cruiser, p_storage]) (by simp [SameLists, hl, hc])
  clear_value s2
  split
  · exact State.raiseOnce_keeps _ _ _ _ _ _ h2
  · exact h2

@[simp ↓] theorem fallBack_keeps (area : Nat) (s : State) {A : Part → Bool} {r0 : State} (h : Keeps A r0 s)
    (p_storage : A .storage = true := by first | assumption | rfl) (p_update : A .update = true := by first | assumption | rfl) : Keeps A r0 (fallBack area s) := by
  unfold fallBack
  dsimp only
  split
  · exact h.of_eq (by simp [SameBut, *]) rfl rfl (by simp [SameLists])
  · exact h.of_eq (by simp [SameBut, *]) rfl rfl (by simp [SameLists])
  · refine h.of_parts (by simp [SameBut, *]) rfl rfl rfl fun c => ?_
    refine { c with checkpoints := ?_ }
    have := c.checkpoints
    simp only [List.length_tail]
    omega
  · exact h.of_eq (by simp [SameBut, *]) rfl rfl (by simp [SameLists])
  · exact h

@[simp ↓] theorem execStorageUnitFailure_keeps (read : Bool) (n : Nat) (s : State) {A : Part → Bool} {r0 : State} (h_s : Keeps A r0 s)
    (p_cruiser : A .cruiser = true := by first | assumption | rfl) (p_ranger : A .ranger = true := by first | assumption | rfl) (p_tally : A .tally = true := by first | assumption | rfl)
    (p_storage : A .storage = true := by first | assumption | rfl)
    (p_update : A .update = true := by first | assumption | rfl) : OutKeeps A r0 (execStorageUnitFailure read n s) := by simp (maxDischargeDepth := 60) [execStorageUnitFailure, SameBut, SameLists, *]

/-! ### UpdateOps -/

@[simp ↓] theorem journalUpdate_keeps (s : State) {A : Part → Bool} {r0 : State} (h_s : Keeps A r0 s)
    (p_storage : A .storage = true := by first | assumption | rfl) : Keeps A r0 (journalUpdate s) := by simp [journalUpdate, *]

@[simp ↓] theorem scheduleGeneration_keeps (g : Nat) (s : State) {A : Part → Bool} {r0 : State} (h_s : Keeps A r0 s)
    (p_pair : A .pair = true := by first | assumption | rfl)
    (p_update : A .update = true := by first | assumption | rfl) : Keeps A r0 (scheduleGeneration g s) := by simp [scheduleGeneration, SameBut, SameLists, *]

@[simp ↓] theorem beginRollback_keeps (auto : Bool) (s : State) {A : Part → Bool} {r0 : State} (h_s : Keeps A r0 s)
    (p_pair : A .pair = true := by first | assumption | rfl)
    (p_update : A .update = true := by first | assumption | rfl) : Keeps A r0 (beginRollback auto s) := by simp (maxDischargeDepth := 60) [beginRollback, SameBut, SameLists, *]

@[simp ↓] theorem rollBackOwn_keeps (s : State) {A : Part → Bool} {r0 : State} (h_s : Keeps A r0 s) (p_pair : A .pair = true := by first | assumption | rfl)
    (p_ranger : A .ranger = true := by first | assumption | rfl)
    (p_update : A .update = true := by first | assumption | rfl) : Keeps A r0 (rollBackOwn s) := by simp (maxDischargeDepth := 60) [rollBackOwn, SameBut, SameLists, *]

@[simp ↓] theorem watchdogAfterHandOver_keeps (s : State) {A : Part → Bool} {r0 : State} (h_s : Keeps A r0 s)
    (p_pair : A .pair = true := by first | assumption | rfl) (p_ranger : A .ranger = true := by first | assumption | rfl)
    (p_update : A .update = true := by first | assumption | rfl) : Keeps A r0 (watchdogAfterHandOver s) := by simp (maxDischargeDepth := 60) [watchdogAfterHandOver, SameBut, SameLists, *]

/-! ### Inject -/

@[simp ↓] theorem State.modInject_keeps (s : State) (link : Nat) (f : Inject → Inject) {A : Part → Bool} {r0 : State} (h_s : Keeps A r0 s)
    (p_inject : A .inject = true := by first | assumption | rfl) : Keeps A r0 (State.modInject s link f) := by simp [State.modInject, SameBut, SameLists, *]

@[simp ↓] theorem tellInject_keeps (event link : Nat) (s : State) {A : Part → Bool} {r0 : State} (h_s : Keeps A r0 s)
    (p_tally : A .tally = true := by first | assumption | rfl) : Keeps A r0 (tellInject event link s) := by simp [tellInject, *]

@[simp ↓] theorem endInjection_keeps (st link : Nat) (s : State) {A : Part → Bool} {r0 : State} (h_s : Keeps A r0 s)
    (p_pair : A .pair = true := by first | assumption | rfl) (p_tally : A .tally = true := by first | assumption | rfl)
    (p_inject : A .inject = true := by first | assumption | rfl) : Keeps A r0 (endInjection st link s) := by simp (maxDischargeDepth := 60) [endInjection, SameBut, SameLists, *]

@[simp ↓] theorem injectFrame_keeps (link dir : Nat) (eligible : Bool) (s : State) {A : Part → Bool} {r0 : State} (h_s : Keeps A r0 s)
    (p_pair : A .pair = true := by first | assumption | rfl) (p_tally : A .tally = true := by first | assumption | rfl)
    (p_inject : A .inject = true := by first | assumption | rfl) : Keeps A r0 (injectFrame link dir eligible s).2 := by
  unfold injectFrame
  repeat' first
    | (simp +contextual (maxDischargeDepth := 60) [SameBut, SameLists, *]; done)
    | (rename_i e; have e := congrArg Prod.snd e; dsimp only at e; subst e)
    | split
    | (refine keeps_foldl (fun _ _ _ => ?_) ?_)
    | dsimp only

@[simp ↓] theorem holdFrame_keeps (link : Nat) (f : HeldFrame) (s : State) {A : Part → Bool} {r0 : State} (h_s : Keeps A r0 s)
    (p_inject : A .inject = true := by first | assumption | rfl) : Keeps A r0 (holdFrame link f s) := by simp [holdFrame, *]

@[simp ↓] theorem dueFrames_keeps (link : Nat) (s : State) {A : Part → Bool} {r0 : State} (h_s : Keeps A r0 s)
    (p_inject : A .inject = true := by first | assumption | rfl) : Keeps A r0 (dueFrames link s).2 := by simp [dueFrames, *]

@[simp ↓] theorem allHeld_keeps (link : Nat) (s : State) {A : Part → Bool} {r0 : State} (h_s : Keeps A r0 s)
    (p_inject : A .inject = true := by first | assumption | rfl) : Keeps A r0 (allHeld link s).2 := by simp [allHeld, *]

@[simp ↓] theorem armInjection_keeps (link : Nat) (s : State) {A : Part → Bool} {r0 : State} (h_s : Keeps A r0 s)
    (p_tally : A .tally = true := by first | assumption | rfl)
    (p_inject : A .inject = true := by first | assumption | rfl) : Keeps A r0 (armInjection link s) := by simp [armInjection, *]

@[simp ↓] theorem drillReadiness_keeps (link : Nat) (s : State) {A : Part → Bool} {r0 : State} (h_s : Keeps A r0 s)
    (p_pair : A .pair = true := by first | assumption | rfl) : Keeps A r0 (drillReadiness link s) := by simp [drillReadiness, SameBut, SameLists, *]

/-! ### WinchOps -/

@[simp ↓] theorem State.modAxis_keeps (s : State) (a : Nat) (f : Axis → Axis) {A : Part → Bool} {r0 : State} (h_s : Keeps A r0 s)
    (p_axes : A .axes = true := by first | assumption | rfl) : Keeps A r0 (State.modAxis s a f) := by simp [State.modAxis, SameBut, SameLists, *]

@[simp ↓] theorem standAxis_keeps (a : Nat) (s : State) {A : Part → Bool} {r0 : State} (h_s : Keeps A r0 s)
    (p_axes : A .axes = true := by first | assumption | rfl) : Keeps A r0 (standAxis a s) := by simp [standAxis, *]

@[simp ↓] theorem cutAxis_keeps (a : Nat) (s : State) {A : Part → Bool} {r0 : State} (h_s : Keeps A r0 s)
    (p_axes : A .axes = true := by first | assumption | rfl) : Keeps A r0 (cutAxis a s) := by simp [cutAxis, *]

@[simp ↓] theorem stopAxis_keeps (a : Nat) (hard : Bool) (s : State) {A : Part → Bool} {r0 : State} (h_s : Keeps A r0 s)
    (p_axes : A .axes = true := by first | assumption | rfl) : Keeps A r0 (stopAxis a hard s) := by simp [stopAxis, *]

@[simp ↓] theorem motionPlace_keeps (a : Nat) (s : State) {A : Part → Bool} {r0 : State} (h_s : Keeps A r0 s)
    (p_axes : A .axes = true := by first | assumption | rfl) : Keeps A r0 (motionPlace a s).2 := by
  unfold motionPlace
  repeat' first
    | (simp +contextual (maxDischargeDepth := 60) [SameBut, SameLists, *]; done)
    | (rename_i e; have e := congrArg Prod.snd e; dsimp only at e; subst e)
    | split
    | (refine keeps_foldl (fun _ _ _ => ?_) ?_)
    | dsimp only

@[simp ↓] theorem beginMoveAt_keeps (a : Nat) (target : Int) (speed : Nat) (s : State) {A : Part → Bool} {r0 : State} (h_s : Keeps A r0 s)
    (p_axes : A .axes = true := by first | assumption | rfl) : Keeps A r0 (beginMoveAt a target speed s) := by simp (maxDischargeDepth := 60) [beginMoveAt, SameBut, SameLists, *]

@[simp ↓] theorem beginMove_keeps (a : Nat) (target : Int) (s : State) {A : Part → Bool} {r0 : State} (h_s : Keeps A r0 s)
    (p_axes : A .axes = true := by first | assumption | rfl) : Keeps A r0 (beginMove a target s) := by simp [beginMove, *]

@[simp ↓] theorem retarget_keeps (a : Nat) (target : Int) (s : State) {A : Part → Bool} {r0 : State} (h_s : Keeps A r0 s)
    (p_axes : A .axes = true := by first | assumption | rfl) : Keeps A r0 (retarget a target s) := by simp (maxDischargeDepth := 60) [retarget, SameBut, SameLists, *]

end Sys2Proof.Machine
end

