-- ==== Sys2Proof/Laws/Keeps3.lean ====
section
/-! SUPPORT. What the operations of Canopy.lean, Borer.lean, Sawyer.lean, LinkOps.lean, Sessions.lean, Security.lean, Update.lean keep (see Keeps.lean): no part beyond those named as hypotheses changes. -/

namespace Sys2Proof.Machine

set_option Elab.async false

open Sys2Proof

set_option linter.unusedSimpArgs false
set_option linter.unusedVariables false
set_option linter.tactic.unusedName false

/-! ### Canopy -/

@[simp ↓] theorem canopyStatistics_keeps (s : State) {A : Part → Bool} {r0 : State} (h_s : Keeps A r0 s)
    (p_canopy : A .canopy = true := by first | assumption | rfl) (p_ranger : A .ranger = true := by first | assumption | rfl) : Keeps A r0 (canopyStatistics s) := by
  unfold canopyStatistics
  repeat' first
    | (simp +contextual (maxDischargeDepth := 60) [SameBut, SameLists, *]; done)
    | (rename_i e; have e := congrArg Prod.snd e; dsimp only at e; subst e)
    | split
    | (refine keeps_foldl (fun _ _ _ => ?_) ?_)
    | dsimp only

@[simp ↓] theorem State.modThr_keeps (s : State) (i : Nat) (f : Threshold → Threshold) {A : Part → Bool} {r0 : State} (h_s : Keeps A r0 s)
    (p_canopy : A .canopy = true := by first | assumption | rfl) : Keeps A r0 (State.modThr s i f) := by simp [State.modThr, SameBut, SameLists, *]

@[simp ↓] theorem execThresholdSample_keeps (j : Nat) (s : State) {A : Part → Bool} {r0 : State} (h_s : Keeps A r0 s)
    (p_canopy : A .canopy = true := by first | assumption | rfl) : OutKeeps A r0 (execThresholdSample j s) := by simp (maxDischargeDepth := 60) [execThresholdSample, SameBut, SameLists, *]

@[simp ↓] theorem execEntryDwellExpired_keeps (j : Nat) (s : State) {A : Part → Bool} {r0 : State} (h_s : Keeps A r0 s)
    (p_canopy : A .canopy = true := by first | assumption | rfl)
    (p_ranger : A .ranger = true := by first | assumption | rfl) : OutKeeps A r0 (execEntryDwellExpired j s) := by simp (maxDischargeDepth := 60) [execEntryDwellExpired, SameBut, SameLists, *]

@[simp ↓] theorem execExitDwellExpired_keeps (j : Nat) (s : State) {A : Part → Bool} {r0 : State} (h_s : Keeps A r0 s)
    (p_canopy : A .canopy = true := by first | assumption | rfl)
    (p_ranger : A .ranger = true := by first | assumption | rfl) : OutKeeps A r0 (execExitDwellExpired j s) := by simp (maxDischargeDepth := 60) [execExitDwellExpired, SameBut, SameLists, *]

@[simp ↓] theorem resetThreshold_keeps (i : Nat) (s : State) {A : Part → Bool} {r0 : State} (h_s : Keeps A r0 s)
    (p_canopy : A .canopy = true := by first | assumption | rfl)
    (p_ranger : A .ranger = true := by first | assumption | rfl) : Keeps A r0 (resetThreshold i s) := by simp (maxDischargeDepth := 60) [resetThreshold, SameBut, SameLists, *]

@[simp ↓] theorem disableThresholds_keeps (s : State) {A : Part → Bool} {r0 : State} (h_s : Keeps A r0 s)
    (p_canopy : A .canopy = true := by first | assumption | rfl) (p_ranger : A .ranger = true := by first | assumption | rfl) : Keeps A r0 (disableThresholds s) := by
  unfold disableThresholds
  simp +contextual (maxDischargeDepth := 60) [SameBut, SameLists, *]

@[simp ↓] theorem State.modSlot_keeps (s : State) (n : Nat) (f : Slot → Slot) {A : Part → Bool} {r0 : State} (h_s : Keeps A r0 s)
    (p_sawyer : A .sawyer = true := by first | assumption | rfl) : Keeps A r0 (State.modSlot s n f) := by simp [State.modSlot, SameBut, SameLists, *]

@[simp ↓] theorem watchSlot_keeps (s : State) (n : Nat) {A : Part → Bool} {r0 : State} (h_s : Keeps A r0 s)
    (p_sawyer : A .sawyer = true := by first | assumption | rfl)
    (p_ranger : A .ranger = true := by first | assumption | rfl) : Keeps A r0 (watchSlot s n) := by simp (maxDischargeDepth := 60) [watchSlot, SameBut, SameLists, *]

@[simp ↓] theorem execCanopyFailSafe_keeps (n : Nat) (s : State) {A : Part → Bool} {r0 : State} (h_s : Keeps A r0 s)
    (p_sawyer : A .sawyer = true := by first | assumption | rfl)
    (p_ranger : A .ranger = true := by first | assumption | rfl) : OutKeeps A r0 (execCanopyFailSafe n s) := by simp (maxDischargeDepth := 60) [execCanopyFailSafe, SameBut, SameLists, *]

/-! ### Borer -/

@[simp ↓] theorem execPerturbationWindowRequest_keeps (s : State) {A : Part → Bool} {r0 : State} (h_s : Keeps A r0 s)
    (p_cells : A .cells = true := by first | assumption | rfl)
    (p_borer : A .borer = true := by first | assumption | rfl) : OutKeeps A r0 (execPerturbationWindowRequest s) := by simp (maxDischargeDepth := 60) [execPerturbationWindowRequest, SameBut, SameLists, *]

@[simp ↓] theorem execPerturbationStop_keeps (s : State) {A : Part → Bool} {r0 : State} (h_s : Keeps A r0 s)
    (p_cells : A .cells = true := by first | assumption | rfl)
    (p_borer : A .borer = true := by first | assumption | rfl) : OutKeeps A r0 (execPerturbationStop s) := by simp (maxDischargeDepth := 60) [execPerturbationStop, SameBut, SameLists, *]

@[simp ↓] theorem effSweep_keeps (h : Nat) (s : State) {A : Part → Bool} {r0 : State} (h_s : Keeps A r0 s)
    (p_borer : A .borer = true := by first | assumption | rfl) : Keeps A r0 (effSweep h s) := by simp [effSweep, SameBut, SameLists, *]

@[simp ↓] theorem demodCell_keeps (n : Nat) (s : State) (k : Nat) {A : Part → Bool} {r0 : State} (h_s : Keeps A r0 s)
    (p_cells : A .cells = true := by first | assumption | rfl)
    (p_borer : A .borer = true := by first | assumption | rfl) : Keeps A r0 (demodCell n s k) := by simp [demodCell, SameBut, SameLists, *]

@[simp ↓] theorem demodString_keeps (n : Nat) (s : State) {A : Part → Bool} {r0 : State} (h_s : Keeps A r0 s)
    (p_cells : A .cells = true := by first | assumption | rfl)
    (p_borer : A .borer = true := by first | assumption | rfl) : Keeps A r0 (demodString n s) := by simp [demodString, SameBut, SameLists, *]

@[simp ↓] theorem demodulate_keeps (s : State) {A : Part → Bool} {r0 : State} (h_s : Keeps A r0 s) (p_cells : A .cells = true := by first | assumption | rfl)
    (p_borer : A .borer = true := by first | assumption | rfl) : Keeps A r0 (demodulate s) := by
  unfold demodulate
  simp +contextual (maxDischargeDepth := 60) [SameBut, SameLists, *]

@[simp ↓] theorem discardWindow_keeps (cause : Nat) (s : State) {A : Part → Bool} {r0 : State} (h_s : Keeps A r0 s)
    (p_cells : A .cells = true := by first | assumption | rfl)
    (p_borer : A .borer = true := by first | assumption | rfl) : Keeps A r0 (discardWindow cause s) := by simp [discardWindow, SameBut, SameLists, *]

@[simp ↓] theorem amplitudeFailed_keeps (s : State) {A : Part → Bool} {r0 : State} (h_s : Keeps A r0 s)
    (p_cells : A .cells = true := by first | assumption | rfl) (p_borer : A .borer = true := by first | assumption | rfl)
    (p_ranger : A .ranger = true := by first | assumption | rfl) : Keeps A r0 (amplitudeFailed s) := by simp (maxDischargeDepth := 60) [amplitudeFailed, SameBut, SameLists, *]

@[simp ↓] theorem completeWindow_keeps (s : State) {A : Part → Bool} {r0 : State} (h_s : Keeps A r0 s)
    (p_cells : A .cells = true := by first | assumption | rfl) (p_borer : A .borer = true := by first | assumption | rfl)
    (p_ranger : A .ranger = true := by first | assumption | rfl) : Keeps A r0 (completeWindow s) := by simp [completeWindow, SameBut, SameLists, *]

@[simp ↓] theorem execWindowEnd_keeps (s : State) {A : Part → Bool} {r0 : State} (h_s : Keeps A r0 s)
    (p_cells : A .cells = true := by first | assumption | rfl) (p_borer : A .borer = true := by first | assumption | rfl)
    (p_ranger : A .ranger = true := by first | assumption | rfl) : OutKeeps A r0 (execWindowEnd s) := by
  unfold execWindowEnd
  repeat' first
    | (simp +contextual (maxDischargeDepth := 60) [SameBut, SameLists, *]; done)
    | (rename_i e; have e := congrArg Prod.snd e; dsimp only at e; subst e)
    | split
    | (refine keeps_foldl (fun _ _ _ => ?_) ?_)
    | dsimp only

@[simp ↓] theorem keepV_keeps (s : State) (k : Nat) {A : Part → Bool} {r0 : State} (h_s : Keeps A r0 s)
    (p_borer : A .borer = true := by first | assumption | rfl) : Keeps A r0 (keepV s k) := by simp [keepV, SameBut, SameLists, *]

@[simp ↓] theorem stepSpoils_keeps (s : State) {A : Part → Bool} {r0 : State} (h_s : Keeps A r0 s)
    (p_borer : A .borer = true := by first | assumption | rfl) : Keeps A r0 (stepSpoils s) := by simp (maxDischargeDepth := 60) [stepSpoils, SameBut, SameLists, *]

@[simp ↓] theorem detectStep_keeps (s : State) {A : Part → Bool} {r0 : State} (h_s : Keeps A r0 s)
    (p_borer : A .borer = true := by first | assumption | rfl) : Keeps A r0 (detectStep s) := by
  unfold detectStep
  repeat' first
    | (simp +contextual (maxDischargeDepth := 60) [SameBut, SameLists, *]; done)
    | (rename_i e; have e := congrArg Prod.snd e; dsimp only at e; subst e)
    | split
    | (refine keeps_foldl (fun _ _ _ => ?_) ?_)
    | dsimp only

@[simp ↓] theorem filterRdc_keeps (k : Nat) (obs : Int) (soc temp : Int) (g : Nat) (s : State) {A : Part → Bool} {r0 : State} (h_s : Keeps A r0 s) (p_cells : A .cells = true := by first | assumption | rfl) : Keeps A r0 (filterRdc k obs soc temp g s) := by simp [filterRdc, *]

@[simp ↓] theorem fitPair_keeps (k : Nat) (z : Tab (Int × Int)) (s : State) {A : Part → Bool} {r0 : State} (h_s : Keeps A r0 s)
    (p_cells : A .cells = true := by first | assumption | rfl) : Keeps A r0 (fitPair k z s) := by
  unfold fitPair
  repeat' first
    | (simp +contextual (maxDischargeDepth := 60) [SameBut, SameLists, *]; done)
    | (rename_i e; have e := congrArg Prod.snd e; dsimp only at e; subst e)
    | split
    | (refine keeps_foldl (fun _ _ _ => ?_) ?_)
    | dsimp only

@[simp ↓] theorem markResistance_keeps (k : Nat) (s : State) {A : Part → Bool} {r0 : State} (h_s : Keeps A r0 s)
    (p_cells : A .cells = true := by first | assumption | rfl)
    (p_storage : A .storage = true := by first | assumption | rfl) : Keeps A r0 (markResistance k s) := by simp [markResistance, *]

@[simp ↓] theorem fillTable_keeps (k : Nat) (r : BorerResult) (s : State) {A : Part → Bool} {r0 : State} (h_s : Keeps A r0 s)
    (p_cells : A .cells = true := by first | assumption | rfl) : Keeps A r0 (fillTable k r s) := by
  unfold fillTable
  repeat' first
    | (simp +contextual (maxDischargeDepth := 60) [SameBut, SameLists, *]; done)
    | (rename_i e; have e := congrArg Prod.snd e; dsimp only at e; subst e)
    | split
    | (refine keeps_foldl (fun _ _ _ => ?_) ?_)
    | dsimp only

@[simp ↓] theorem applyTones_keeps (r : BorerResult) (s : State) {A : Part → Bool} {r0 : State} (h_s : Keeps A r0 s)
    (p_cells : A .cells = true := by first | assumption | rfl) (p_borer : A .borer = true := by first | assumption | rfl)
    (p_ranger : A .ranger = true := by first | assumption | rfl) (p_storage : A .storage = true := by first | assumption | rfl)
    : Keeps A r0 (applyTones r s) := by
  unfold applyTones
  repeat' first
    | (simp +contextual (maxDischargeDepth := 60) [SameBut, SameLists, *]; done)
    | (rename_i e; have e := congrArg Prod.snd e; dsimp only at e; subst e)
    | split
    | (refine keeps_foldl (fun _ _ _ => ?_) ?_)
    | dsimp only

@[simp ↓] theorem applyStep_keeps (r : BorerResult) (z : Int) (s : State) {A : Part → Bool} {r0 : State} (h_s : Keeps A r0 s)
    (p_cells : A .cells = true := by first | assumption | rfl) (p_borer : A .borer = true := by first | assumption | rfl)
    (p_ranger : A .ranger = true := by first | assumption | rfl) (p_storage : A .storage = true := by first | assumption | rfl)
    : Keeps A r0 (applyStep r z s) := by simp (maxDischargeDepth := 60) [applyStep, SameBut, SameLists, *]

@[simp ↓] theorem applyResult_keeps (s : State) (r : BorerResult) {A : Part → Bool} {r0 : State} (h_s : Keeps A r0 s)
    (p_cells : A .cells = true := by first | assumption | rfl) (p_borer : A .borer = true := by first | assumption | rfl)
    (p_ranger : A .ranger = true := by first | assumption | rfl) (p_storage : A .storage = true := by first | assumption | rfl)
    : Keeps A r0 (applyResult s r) := by
  unfold applyResult
  (repeat' split) <;> simp (maxDischargeDepth := 60) [SameBut, SameLists, *]

@[simp ↓] theorem execResultApplication_keeps (s : State) {A : Part → Bool} {r0 : State} (h_s : Keeps A r0 s)
    (p_cells : A .cells = true := by first | assumption | rfl) (p_borer : A .borer = true := by first | assumption | rfl) (p_ranger : A .ranger = true := by first | assumption | rfl)
    (p_storage : A .storage = true := by first | assumption | rfl) : OutKeeps A r0 (execResultApplication s) := by
  unfold execResultApplication
  simp +contextual (maxDischargeDepth := 60) [SameBut, SameLists, *]

@[simp ↓] theorem execImpedanceAgeAdvance_keeps (s : State) {A : Part → Bool} {r0 : State} (h_s : Keeps A r0 s)
    (p_cells : A .cells = true := by first | assumption | rfl) (p_borer : A .borer = true := by first | assumption | rfl) : OutKeeps A r0 (execImpedanceAgeAdvance s) := by
  unfold execImpedanceAgeAdvance
  simp +contextual (maxDischargeDepth := 60) [SameBut, SameLists, *]

/-! ### Sawyer -/

@[simp ↓] theorem fit32_keeps (x : Int) (s : State) {A : Part → Bool} {r0 : State} (h_s : Keeps A r0 s) : Keeps A r0 (fit32 x s).2 := by
  unfold fit32
  split <;> simp (maxDischargeDepth := 60) [SameBut, SameLists, *]

@[simp ↓] theorem fit64_keeps (x : Int) (s : State) {A : Part → Bool} {r0 : State} (h_s : Keeps A r0 s) : Keeps A r0 (fit64 x s).2 := by
  unfold fit64
  split <;> simp (maxDischargeDepth := 60) [SameBut, SameLists, *]

@[simp ↓] theorem voltageMargins_keeps (s : State) {A : Part → Bool} {r0 : State} (h_s : Keeps A r0 s)
    (p_sawyer : A .sawyer = true := by first | assumption | rfl) : Keeps A r0 (voltageMargins s) := by
  unfold voltageMargins
  repeat' first
    | (simp +contextual (maxDischargeDepth := 60) [SameBut, SameLists, *]; done)
    | (rename_i e; have e := congrArg Prod.snd e; dsimp only at e; subst e)
    | split
    | (refine keeps_foldl (fun _ _ _ => ?_) ?_)
    | dsimp only

@[simp ↓] theorem trackSlot_keeps (n : Nat) (y : Int) (s : State) {A : Part → Bool} {r0 : State} (h_s : Keeps A r0 s)
    (p_sawyer : A .sawyer = true := by first | assumption | rfl) : Keeps A r0 (trackSlot n y s) := by simp (maxDischargeDepth := 60) [trackSlot, SameBut, SameLists, *]

@[simp ↓] theorem slotEquations_keeps (n : Nat) (first : Bool) (s : State) {A : Part → Bool} {r0 : State} (h_s : Keeps A r0 s)
    (p_sawyer : A .sawyer = true := by first | assumption | rfl) : Keeps A r0 (slotEquations n first s) := by
  unfold slotEquations
  repeat' first
    | (simp +contextual (maxDischargeDepth := 60) [SameBut, SameLists, *]; done)
    | (rename_i e; have e := congrArg Prod.snd e; dsimp only at e; subst e)
    | split
    | (refine keeps_foldl (fun _ _ _ => ?_) ?_)
    | dsimp only

@[simp ↓] theorem runSlot_keeps (s : State) (n : Nat) {A : Part → Bool} {r0 : State} (h_s : Keeps A r0 s)
    (p_sawyer : A .sawyer = true := by first | assumption | rfl) : Keeps A r0 (runSlot s n) := by simp (maxDischargeDepth := 60) [runSlot, SameBut, SameLists, *]

@[simp ↓] theorem limitGroup_keeps (s : State) (g : Nat) {A : Part → Bool} {r0 : State} (h_s : Keeps A r0 s)
    (p_sawyer : A .sawyer = true := by first | assumption | rfl) : Keeps A r0 (limitGroup s g) := by simp (maxDischargeDepth := 60) [limitGroup, SameBut, SameLists, *]

@[simp ↓] theorem loopGroup_keeps (s : State) (g : Nat) {A : Part → Bool} {r0 : State} (h_s : Keeps A r0 s)
    (p_sawyer : A .sawyer = true := by first | assumption | rfl) : Keeps A r0 (loopGroup s g) := by
  unfold loopGroup
  repeat' first
    | (simp +contextual (maxDischargeDepth := 60) [SameBut, SameLists, *]; done)
    | (rename_i e; have e := congrArg Prod.snd e; dsimp only at e; subst e)
    | split
    | (refine keeps_foldl (fun _ _ _ => ?_) ?_)
    | dsimp only

@[simp ↓] theorem profile_keeps (s : State) {A : Part → Bool} {r0 : State} (h_s : Keeps A r0 s)
    (p_sawyer : A .sawyer = true := by first | assumption | rfl) : Keeps A r0 (profile s) := by simp [profile, SameBut, SameLists, *]

@[simp ↓] theorem frameSent_keeps (s : State) {A : Part → Bool} {r0 : State} (h_s : Keeps A r0 s) (p_sawyer : A .sawyer = true := by first | assumption | rfl)
    (p_ranger : A .ranger = true := by first | assumption | rfl) : Keeps A r0 (frameSent s) := by simp (maxDischargeDepth := 60) [frameSent, SameBut, SameLists, *]

@[simp ↓] theorem frameUnsent_keeps (s : State) {A : Part → Bool} {r0 : State} (h_s : Keeps A r0 s)
    (p_sawyer : A .sawyer = true := by first | assumption | rfl)
    (p_ranger : A .ranger = true := by first | assumption | rfl) : Keeps A r0 (frameUnsent s) := by simp (maxDischargeDepth := 60) [frameUnsent, SameBut, SameLists, *]

@[simp ↓] theorem State.modTrace_keeps (s : State) (b : Nat) (f : Trace → Trace) {A : Part → Bool} {r0 : State} (h_s : Keeps A r0 s)
    (p_sawyer : A .sawyer = true := by first | assumption | rfl) : Keeps A r0 (State.modTrace s b f) := by simp [State.modTrace, SameBut, SameLists, *]

@[simp ↓] theorem fireTrace_keeps (b : Nat) (s : State) {A : Part → Bool} {r0 : State} (h_s : Keeps A r0 s)
    (p_sawyer : A .sawyer = true := by first | assumption | rfl) : Keeps A r0 (fireTrace b s) := by simp [fireTrace, *]

@[simp ↓] theorem sampleTrace_keeps (s : State) (b : Nat) {A : Part → Bool} {r0 : State} (h_s : Keeps A r0 s)
    (p_sawyer : A .sawyer = true := by first | assumption | rfl) : Keeps A r0 (sampleTrace s b) := by simp (maxDischargeDepth := 60) [sampleTrace, SameBut, SameLists, *]

@[simp ↓] theorem runTraces_keeps (s : State) {A : Part → Bool} {r0 : State} (h_s : Keeps A r0 s)
    (p_sawyer : A .sawyer = true := by first | assumption | rfl) : Keeps A r0 (runTraces s) := by
  unfold runTraces
  simp +contextual (maxDischargeDepth := 60) [SameBut, SameLists, *]

@[simp ↓] theorem effTraceArm_keeps (b : Nat) (rearm : Bool) (s : State) {A : Part → Bool} {r0 : State} (h_s : Keeps A r0 s)
    (p_sawyer : A .sawyer = true := by first | assumption | rfl) : Keeps A r0 (effTraceArm b rearm s) := by simp [effTraceArm, *]

@[simp ↓] theorem effTraceDisarm_keeps (b : Nat) (s : State) {A : Part → Bool} {r0 : State} (h_s : Keeps A r0 s)
    (p_sawyer : A .sawyer = true := by first | assumption | rfl) : Keeps A r0 (effTraceDisarm b s) := by simp [effTraceDisarm, *]

@[simp ↓] theorem execTraceCaptureComplete_keeps (b : Nat) (s : State) {A : Part → Bool} {r0 : State} (h_s : Keeps A r0 s)
    (p_sawyer : A .sawyer = true := by first | assumption | rfl) : OutKeeps A r0 (execTraceCaptureComplete b s) := by simp (maxDischargeDepth := 60) [execTraceCaptureComplete, SameBut, SameLists, *]

@[simp ↓] theorem setDuties_keeps (s : State) {A : Part → Bool} {r0 : State} (h_s : Keeps A r0 s)
    (p_canopy : A .canopy = true := by first | assumption | rfl) : Keeps A r0 (setDuties s) := by simp [setDuties, SameBut, SameLists, *]

@[simp ↓] theorem runSawyer_keeps (s : State) {A : Part → Bool} {r0 : State} (h_s : Keeps A r0 s) (p_sawyer : A .sawyer = true := by first | assumption | rfl)
    (p_canopy : A .canopy = true := by first | assumption | rfl) (p_ranger : A .ranger = true := by first | assumption | rfl) : Keeps A r0 (runSawyer s) := by
  unfold runSawyer
  simp +contextual (maxDischargeDepth := 60) [SameBut, SameLists, *]

@[simp ↓] theorem endLease_keeps (s : State) {A : Part → Bool} {r0 : State} (h_s : Keeps A r0 s) (p_sawyer : A .sawyer = true := by first | assumption | rfl)
    (p_tally : A .tally = true := by first | assumption | rfl) : Keeps A r0 (endLease s) := by simp [endLease, SameBut, SameLists, *]

@[simp ↓] theorem queueDispatch_keeps (e : DispatchEvent) (s : State) {A : Part → Bool} {r0 : State} (h_s : Keeps A r0 s)
    (p_sawyer : A .sawyer = true := by first | assumption | rfl) : Keeps A r0 (queueDispatch e s) := by simp [queueDispatch, SameBut, SameLists, *]

@[simp ↓] theorem applyDispatch_keeps (s : State) (e : DispatchEvent) {A : Part → Bool} {r0 : State} (h_s : Keeps A r0 s)
    (p_sawyer : A .sawyer = true := by first | assumption | rfl) (p_dict : A .dict = true := by first | assumption | rfl) (p_ranger : A .ranger = true := by first | assumption | rfl)
    (p_tally : A .tally = true := by first | assumption | rfl) : Keeps A r0 (applyDispatch s e) := by
  unfold applyDispatch
  (repeat' split) <;> simp (maxDischargeDepth := 60) [SameBut, SameLists, *]

@[simp ↓] theorem expireLease_keeps (s : State) {A : Part → Bool} {r0 : State} (h_s : Keeps A r0 s)
    (p_sawyer : A .sawyer = true := by first | assumption | rfl) (p_ranger : A .ranger = true := by first | assumption | rfl)
    (p_tally : A .tally = true := by first | assumption | rfl) : Keeps A r0 (expireLease s) := by
  unfold expireLease
  repeat' first
    | (simp +contextual (maxDischargeDepth := 60) [SameBut, SameLists, *]; done)
    | (rename_i e; have e := congrArg Prod.snd e; dsimp only at e; subst e)
    | split
    | (refine keeps_foldl (fun _ _ _ => ?_) ?_)
    | dsimp only

@[simp ↓] theorem execDispatchLeaseExpired_keeps (s : State) {A : Part → Bool} {r0 : State} (h_s : Keeps A r0 s)
    (p_sawyer : A .sawyer = true := by first | assumption | rfl) (p_ranger : A .ranger = true := by first | assumption | rfl)
    (p_tally : A .tally = true := by first | assumption | rfl) : OutKeeps A r0 (execDispatchLeaseExpired s) := by simp (maxDischargeDepth := 60) [execDispatchLeaseExpired, SameBut, SameLists, *]

@[simp ↓] theorem dispatchBoundary_keeps (s : State) {A : Part → Bool} {r0 : State} (h_s : Keeps A r0 s)
    (p_sawyer : A .sawyer = true := by first | assumption | rfl) (p_dict : A .dict = true := by first | assumption | rfl) (p_ranger : A .ranger = true := by first | assumption | rfl)
    (p_tally : A .tally = true := by first | assumption | rfl) : Keeps A r0 (dispatchBoundary s) := by
  unfold dispatchBoundary
  simp +contextual (maxDischargeDepth := 60) [SameBut, SameLists, *]

/-! ### LinkOps -/

@[simp ↓] theorem State.modEth_keeps (s : State) (p : Nat) (f : EthPort → EthPort) {A : Part → Bool} {r0 : State} (h_s : Keeps A r0 s)
    (p_links : A .links = true := by first | assumption | rfl) : Keeps A r0 (State.modEth s p f) := by simp [State.modEth, SameBut, SameLists, *]

@[simp ↓] theorem ethQueue_keeps (p : Nat) (f : EthFrame) (s : State) {A : Part → Bool} {r0 : State} (h_s : Keeps A r0 s)
    (p_links : A .links = true := by first | assumption | rfl) : Keeps A r0 (ethQueue p f s) := by simp [ethQueue, *]

@[simp ↓] theorem ethSend_keeps (p cls kind session : Nat) (data : Bytes) (s : State) {A : Part → Bool} {r0 : State} (h_s : Keeps A r0 s)
    (p_links : A .links = true := by first | assumption | rfl) : Keeps A r0 (ethSend p cls kind session data s) := by simp (maxDischargeDepth := 60) [ethSend, SameBut, SameLists, *]

@[simp ↓] theorem ethDiscard_keeps (p : Nat) (s : State) {A : Part → Bool} {r0 : State} (h_s : Keeps A r0 s)
    (p_links : A .links = true := by first | assumption | rfl) : Keeps A r0 (ethDiscard p s) := by simp [ethDiscard, *]

@[simp ↓] theorem drainEth_keeps (p : Nat) (s : State) {A : Part → Bool} {r0 : State} (h_s : Keeps A r0 s)
    (p_links : A .links = true := by first | assumption | rfl) (p_pair : A .pair = true := by first | assumption | rfl) (p_tally : A .tally = true := by first | assumption | rfl)
    (p_inject : A .inject = true := by first | assumption | rfl) : Keeps A r0 (drainEth p s) := by
  unfold drainEth
  simp +contextual (maxDischargeDepth := 60) [SameBut, SameLists, *]

@[simp ↓] theorem State.modCan_keeps (s : State) (n : Nat) (f : CanCtl → CanCtl) {A : Part → Bool} {r0 : State} (h_s : Keeps A r0 s)
    (p_links : A .links = true := by first | assumption | rfl) : Keeps A r0 (State.modCan s n f) := by simp [State.modCan, SameBut, SameLists, *]

@[simp ↓] theorem canQueue_keeps (n : Nat) (f : CanFrame) (s : State) {A : Part → Bool} {r0 : State} (h_s : Keeps A r0 s)
    (p_links : A .links = true := by first | assumption | rfl) : Keeps A r0 (canQueue n f s) := by simp [canQueue, *]

@[simp ↓] theorem State.modChannel_keeps (s : State) (ch : Nat) (f : CanChannel → CanChannel) {A : Part → Bool} {r0 : State} (h_s : Keeps A r0 s) (p_sec : A .sec = true := by first | assumption | rfl) : Keeps A r0 (State.modChannel s ch f) := by simp [State.modChannel, SameBut, SameLists, *]

@[simp ↓] theorem nextFv_keeps (ch : Nat) (s : State) {A : Part → Bool} {r0 : State} (h_s : Keeps A r0 s)
    (p_sec : A .sec = true := by first | assumption | rfl) (p_storage : A .storage = true := by first | assumption | rfl) : Keeps A r0 (nextFv ch s).2 := by
  unfold nextFv
  repeat' first
    | (simp +contextual (maxDischargeDepth := 60) [SameBut, SameLists, *]; done)
    | (rename_i e; have e := congrArg Prod.snd e; dsimp only at e; subst e)
    | split
    | (refine keeps_foldl (fun _ _ _ => ?_) ?_)
    | dsimp only

@[simp ↓] theorem canSendCycle_keeps (n o : Nat) (data : Bytes) (s : State) {A : Part → Bool} {r0 : State} (h_s : Keeps A r0 s)
    (p_links : A .links = true := by first | assumption | rfl) : Keeps A r0 (canSendCycle n o data s) := by simp [canSendCycle, *]

@[simp ↓] theorem canSendCounter_keeps (n o ch : Nat) (data : Bytes) (s : State) {A : Part → Bool} {r0 : State} (h_s : Keeps A r0 s)
    (p_links : A .links = true := by first | assumption | rfl) (p_sec : A .sec = true := by first | assumption | rfl)
    (p_storage : A .storage = true := by first | assumption | rfl) : Keeps A r0 (canSendCounter n o ch data s) := by simp [canSendCounter, *]

@[simp ↓] theorem canVerify_keeps (ch : Nat) (f : CanRx) (s : State) {A : Part → Bool} {r0 : State} (h_s : Keeps A r0 s)
    (p_sec : A .sec = true := by first | assumption | rfl) (p_storage : A .storage = true := by first | assumption | rfl) : Keeps A r0 (canVerify ch f s).2 := by
  unfold canVerify
  repeat' first
    | (simp +contextual (maxDischargeDepth := 60) [SameBut, SameLists, *]; done)
    | (rename_i e; have e := congrArg Prod.snd e; dsimp only at e; subst e)
    | split
    | (refine keeps_foldl (fun _ _ _ => ?_) ?_)
    | dsimp only

/-! ### Sessions -/

@[simp ↓] theorem State.modFast_keeps (s : State) (j : Nat) (f : FastChannel → FastChannel) {A : Part → Bool} {r0 : State} (h_s : Keeps A r0 s)
    (p_sec : A .sec = true := by first | assumption | rfl) : Keeps A r0 (State.modFast s j f) := by simp [State.modFast, SameBut, SameLists, *]

@[simp ↓] theorem freeContext_keeps (s : State) (n : Nat) {A : Part → Bool} {r0 : State} (h_s : Keeps A r0 s)
    (p_dict : A .dict = true := by first | assumption | rfl) (p_sec : A .sec = true := by first | assumption | rfl)
    (p_tally : A .tally = true := by first | assumption | rfl) : Keeps A r0 (freeContext s n) := by simp (maxDischargeDepth := 60) [freeContext, SameBut, SameLists, *]

@[simp ↓] theorem endSession_keeps (s : State) (n : Nat) {A : Part → Bool} {r0 : State} (h_s : Keeps A r0 s)
    (p_dict : A .dict = true := by first | assumption | rfl) (p_sec : A .sec = true := by first | assumption | rfl)
    (p_tally : A .tally = true := by first | assumption | rfl) : Keeps A r0 (endSession s n) := by
  unfold endSession
  simp +contextual (maxDischargeDepth := 60) [SameBut, SameLists, *]

@[simp ↓] theorem endWhere_keeps (p : Nat → Session → Bool) (s : State) {A : Part → Bool} {r0 : State} (h_s : Keeps A r0 s)
    (p_dict : A .dict = true := by first | assumption | rfl) (p_sec : A .sec = true := by first | assumption | rfl)
    (p_tally : A .tally = true := by first | assumption | rfl) : Keeps A r0 (endWhere p s) := by
  unfold endWhere
  simp +contextual (maxDischargeDepth := 60) [SameBut, SameLists, *]

@[simp ↓] theorem endAll_keeps (s : State) {A : Part → Bool} {r0 : State} (h_s : Keeps A r0 s) (p_dict : A .dict = true := by first | assumption | rfl)
    (p_sec : A .sec = true := by first | assumption | rfl) (p_tally : A .tally = true := by first | assumption | rfl) : Keeps A r0 (endAll s) := by simp [endAll, *]

@[simp ↓] theorem loseConnection_keeps (n : Nat) (s : State) {A : Part → Bool} {r0 : State} (h_s : Keeps A r0 s)
    (p_dict : A .dict = true := by first | assumption | rfl) : Keeps A r0 (loseConnection n s) := by simp [loseConnection, SameBut, SameLists, *]

@[simp ↓] theorem refuseConnection_keeps (port code : Nat) (s : State) {A : Part → Bool} {r0 : State} (h_s : Keeps A r0 s)
    (p_links : A .links = true := by first | assumption | rfl)
    (p_dict : A .dict = true := by first | assumption | rfl) : Keeps A r0 (refuseConnection port code s) := by simp [refuseConnection, SameBut, SameLists, *]

@[simp ↓] theorem openContext_keeps (n transport : Nat) (roles : BitVec 8) (identity : Nat) (s : State) {A : Part → Bool} {r0 : State} (h_s : Keeps A r0 s)
    (p_dict : A .dict = true := by first | assumption | rfl) : Keeps A r0 (openContext n transport roles identity s) := by simp [openContext, *]

@[simp ↓] theorem openTls_keeps (port : Nat) (cert : ClientCert) (roles : BitVec 8) (secret : Nat) (s : State) {A : Part → Bool} {r0 : State} (h_s : Keeps A r0 s)
    (p_links : A .links = true := by first | assumption | rfl) (p_dict : A .dict = true := by first | assumption | rfl) (p_sec : A .sec = true := by first | assumption | rfl)
    (p_tally : A .tally = true := by first | assumption | rfl) : Keeps A r0 (openTls port cert roles secret s) := by
  unfold openTls
  repeat' first
    | (simp +contextual (maxDischargeDepth := 60) [SameBut, SameLists, *]; done)
    | (rename_i e; have e := congrArg Prod.snd e; dsimp only at e; subst e)
    | split
    | (refine keeps_foldl (fun _ _ _ => ?_) ?_)
    | dsimp only

@[simp ↓] theorem failHandshake_keeps (s : State) {A : Part → Bool} {r0 : State} (h_s : Keeps A r0 s)
    (p_sec : A .sec = true := by first | assumption | rfl) : Keeps A r0 (failHandshake s) := by simp [failHandshake, SameBut, SameLists, *]

@[simp ↓] theorem endHandshake_keeps (conn : Nat) (s : State) {A : Part → Bool} {r0 : State} (h_s : Keeps A r0 s)
    (p_sec : A .sec = true := by first | assumption | rfl) : Keeps A r0 (endHandshake conn s) := by simp [endHandshake, SameBut, SameLists, *]

@[simp ↓] theorem execClientHello_keeps (conn port : Nat) (supported : Bool) (s : State) {A : Part → Bool} {r0 : State} (h_s : Keeps A r0 s)
    (p_links : A .links = true := by first | assumption | rfl)
    (p_sec : A .sec = true := by first | assumption | rfl) : OutKeeps A r0 (execClientHello conn port supported s) := by simp (maxDischargeDepth := 60) [execClientHello, SameBut, SameLists, *]

@[simp ↓] theorem execTlsHandshake_keeps (conn port : Nat) (cert : ClientCert) (secret : Nat) (s : State) {A : Part → Bool} {r0 : State} (h_s : Keeps A r0 s)
    (p_links : A .links = true := by first | assumption | rfl) (p_dict : A .dict = true := by first | assumption | rfl) (p_sec : A .sec = true := by first | assumption | rfl)
    (p_tally : A .tally = true := by first | assumption | rfl) : OutKeeps A r0 (execTlsHandshake conn port cert secret s) := by
  unfold execTlsHandshake
  split <;> simp (maxDischargeDepth := 60) [SameBut, SameLists, *]

@[simp ↓] theorem execTlsHandshakeTimeout_keeps (conn : Nat) (s : State) {A : Part → Bool} {r0 : State} (h_s : Keeps A r0 s)
    (p_sec : A .sec = true := by first | assumption | rfl) : OutKeeps A r0 (execTlsHandshakeTimeout conn s) := by
  unfold execTlsHandshakeTimeout
  split <;> simp (maxDischargeDepth := 60) [SameBut, SameLists, *]

@[simp ↓] theorem execConnectionLost_keeps (session : Nat) (s : State) {A : Part → Bool} {r0 : State} (h_s : Keeps A r0 s)
    (p_dict : A .dict = true := by first | assumption | rfl) : OutKeeps A r0 (execConnectionLost session s) := by simp (maxDischargeDepth := 60) [execConnectionLost, SameBut, SameLists, *]

@[simp ↓] theorem execSessionResumption_keeps (session port secret : Nat) (s : State) {A : Part → Bool} {r0 : State} (h_s : Keeps A r0 s)
    (p_dict : A .dict = true := by first | assumption | rfl) : OutKeeps A r0 (execSessionResumption session port secret s) := by simp (maxDischargeDepth := 60) [execSessionResumption, SameBut, SameLists, *]

@[simp ↓] theorem execDormantWindowExpiry_keeps (session : Nat) (s : State) {A : Part → Bool} {r0 : State} (h_s : Keeps A r0 s)
    (p_dict : A .dict = true := by first | assumption | rfl) (p_sec : A .sec = true := by first | assumption | rfl)
    (p_tally : A .tally = true := by first | assumption | rfl) : OutKeeps A r0 (execDormantWindowExpiry session s) := by simp (maxDischargeDepth := 60) [execDormantWindowExpiry, SameBut, SameLists, *]

@[simp ↓] theorem execCloseNotify_keeps (session : Nat) (s : State) {A : Part → Bool} {r0 : State} (h_s : Keeps A r0 s)
    (p_dict : A .dict = true := by first | assumption | rfl) (p_sec : A .sec = true := by first | assumption | rfl)
    (p_tally : A .tally = true := by first | assumption | rfl) : OutKeeps A r0 (execCloseNotify session s) := by simp (maxDischargeDepth := 60) [execCloseNotify, SameBut, SameLists, *]

/-! ### Security -/

@[simp ↓] theorem journalSecurity_keeps (s : State) {A : Part → Bool} {r0 : State} (h_s : Keeps A r0 s)
    (p_storage : A .storage = true := by first | assumption | rfl) : Keeps A r0 (journalSecurity s) := by simp [journalSecurity, *]

@[simp ↓] theorem codeFailed_keeps (s : State) {A : Part → Bool} {r0 : State} (h_s : Keeps A r0 s) (p_sec : A .sec = true := by first | assumption | rfl)
    (p_storage : A .storage = true := by first | assumption | rfl) : Keeps A r0 (codeFailed s) := by simp [codeFailed, SameBut, SameLists, *]

@[simp ↓] theorem adopt_keeps (doc : Bytes) (s : State) {A : Part → Bool} {r0 : State} (h_s : Keeps A r0 s)
    (p_dict : A .dict = true := by first | assumption | rfl) (p_sec : A .sec = true := by first | assumption | rfl) (p_tally : A .tally = true := by first | assumption | rfl)
    (p_storage : A .storage = true := by first | assumption | rfl) : Keeps A r0 (adopt doc s) := by simp (maxDischargeDepth := 60) [adopt, SameBut, SameLists, *]

@[simp ↓] theorem takeAdoption_keeps (binding doc : Bytes) (s : State) {A : Part → Bool} {r0 : State} (h_s : Keeps A r0 s)
    (p_dict : A .dict = true := by first | assumption | rfl) (p_sec : A .sec = true := by first | assumption | rfl) (p_tally : A .tally = true := by first | assumption | rfl)
    (p_storage : A .storage = true := by first | assumption | rfl) : Keeps A r0 (takeAdoption binding doc s).2 := by
  unfold takeAdoption
  (repeat' split) <;> simp (maxDischargeDepth := 60) [SameBut, SameLists, *]

@[simp ↓] theorem effAdoption_keeps (sess dest req : Nat) (doc : Bytes) (s : State) {A : Part → Bool} {r0 : State} (h_s : Keeps A r0 s)
    (p_dict : A .dict = true := by first | assumption | rfl) (p_sec : A .sec = true := by first | assumption | rfl) (p_tally : A .tally = true := by first | assumption | rfl)
    (p_storage : A .storage = true := by first | assumption | rfl) : Keeps A r0 (effAdoption sess dest req doc s) := by simp (maxDischargeDepth := 60) [effAdoption, SameBut, SameLists, *]

@[simp ↓] theorem execAdoptionWaitExpiry_keeps (s : State) {A : Part → Bool} {r0 : State} (h_s : Keeps A r0 s)
    (p_sec : A .sec = true := by first | assumption | rfl) : OutKeeps A r0 (execAdoptionWaitExpiry s) := by simp (maxDischargeDepth := 60) [execAdoptionWaitExpiry, SameBut, SameLists, *]

@[simp ↓] theorem effDeAdopt_keeps (s : State) {A : Part → Bool} {r0 : State} (h_s : Keeps A r0 s) (p_fb : A .fb = true := by first | assumption | rfl)
    (p_dict : A .dict = true := by first | assumption | rfl) (p_sec : A .sec = true := by first | assumption | rfl) (p_ranger : A .ranger = true := by first | assumption | rfl)
    (p_tally : A .tally = true := by first | assumption | rfl)
    (p_storage : A .storage = true := by first | assumption | rfl) : Keeps A r0 (effDeAdopt s) := by simp (maxDischargeDepth := 60) [effDeAdopt, SameBut, SameLists, *]

@[simp ↓] theorem effAnchor_keeps (i sub : Nat) (v : ObjVal) (s : State) {A : Part → Bool} {r0 : State} (h_s : Keeps A r0 s)
    (p_dict : A .dict = true := by first | assumption | rfl) (p_sec : A .sec = true := by first | assumption | rfl)
    (p_tally : A .tally = true := by first | assumption | rfl) : Keeps A r0 (effAnchor i sub v s) := by simp (maxDischargeDepth := 60) [effAnchor, SameBut, SameLists, *]

@[simp ↓] theorem effDenial_keeps (v : ObjVal) (s : State) {A : Part → Bool} {r0 : State} (h_s : Keeps A r0 s)
    (p_dict : A .dict = true := by first | assumption | rfl) (p_sec : A .sec = true := by first | assumption | rfl)
    (p_tally : A .tally = true := by first | assumption | rfl) : Keeps A r0 (effDenial v s) := by simp [effDenial, *]

@[simp ↓] theorem effChannelKey_keeps (ch : Nat) (v : ObjVal) (s : State) {A : Part → Bool} {r0 : State} (h_s : Keeps A r0 s)
    (p_sec : A .sec = true := by first | assumption | rfl) : Keeps A r0 (effChannelKey ch v s) := by simp [effChannelKey, *]

@[simp ↓] theorem setChannel_keeps (ch : Nat) (on : Bool) (s : State) {A : Part → Bool} {r0 : State} (h_s : Keeps A r0 s)
    (p_dict : A .dict = true := by first | assumption | rfl) (p_sec : A .sec = true := by first | assumption | rfl)
    (p_tally : A .tally = true := by first | assumption | rfl) : Keeps A r0 (setChannel ch on s) := by simp (maxDischargeDepth := 60) [setChannel, SameBut, SameLists, *]

@[simp ↓] theorem effChannelEnable_keeps (ch : Nat) (v : ObjVal) (s : State) {A : Part → Bool} {r0 : State} (h_s : Keeps A r0 s)
    (p_dict : A .dict = true := by first | assumption | rfl) (p_sec : A .sec = true := by first | assumption | rfl)
    (p_tally : A .tally = true := by first | assumption | rfl) : Keeps A r0 (effChannelEnable ch v s) := by simp [effChannelEnable, *]

@[simp ↓] theorem openFast_keeps (sess j : Nat) (s : State) {A : Part → Bool} {r0 : State} (h_s : Keeps A r0 s)
    (p_dict : A .dict = true := by first | assumption | rfl)
    (p_sec : A .sec = true := by first | assumption | rfl) : Keeps A r0 (openFast sess j s) := by simp (maxDischargeDepth := 60) [openFast, SameBut, SameLists, *]

@[simp ↓] theorem effFast_keeps (sess : Nat) (v : ObjVal) (s : State) {A : Part → Bool} {r0 : State} (h_s : Keeps A r0 s)
    (p_dict : A .dict = true := by first | assumption | rfl) (p_sec : A .sec = true := by first | assumption | rfl)
    (p_tally : A .tally = true := by first | assumption | rfl) : Keeps A r0 (effFast sess v s) := by
  unfold effFast
  (repeat' split) <;> simp (maxDischargeDepth := 60) [SameBut, SameLists, *]

@[simp ↓] theorem effSnapshot_keeps (v : ObjVal) (s : State) {A : Part → Bool} {r0 : State} (h_s : Keeps A r0 s)
    (p_sec : A .sec = true := by first | assumption | rfl) : Keeps A r0 (effSnapshot v s) := by simp [effSnapshot, SameBut, SameLists, *]

@[simp ↓] theorem takeSnapshot_keeps (s : State) {A : Part → Bool} {r0 : State} (h_s : Keeps A r0 s)
    (p_sec : A .sec = true := by first | assumption | rfl) : Keeps A r0 (takeSnapshot s) := by
  unfold takeSnapshot
  split <;> simp (maxDischargeDepth := 60) [SameBut, SameLists, *]

@[simp ↓] theorem effAttestation_keeps (v : ObjVal) (s : State) {A : Part → Bool} {r0 : State} (h_s : Keeps A r0 s)
    (p_sec : A .sec = true := by first | assumption | rfl) : Keeps A r0 (effAttestation v s) := by simp [effAttestation, SameBut, SameLists, *]

/-! ### Update -/

@[simp ↓] theorem recordBank_keeps (p bank : Nat) (s : State) {A : Part → Bool} {r0 : State} (h_s : Keeps A r0 s)
    (p_storage : A .storage = true := by first | assumption | rfl)
    (p_update : A .update = true := by first | assumption | rfl) : Keeps A r0 (recordBank p bank s) := by simp (maxDischargeDepth := 60) [recordBank, SameBut, SameLists, *]

@[simp ↓] theorem rejectImage_keeps (p bank : Nat) (s : State) {A : Part → Bool} {r0 : State} (h_s : Keeps A r0 s)
    (p_ranger : A .ranger = true := by first | assumption | rfl)
    (p_tally : A .tally = true := by first | assumption | rfl) : Keeps A r0 (rejectImage p bank s) := by simp [rejectImage, *]

@[simp ↓] theorem startImage_keeps (p bank : Nat) (i : BankImage) (s : State) {A : Part → Bool} {r0 : State} (h_s : Keeps A r0 s)
    (p_update : A .update = true := by first | assumption | rfl) : Keeps A r0 (startImage p bank i s) := by simp [startImage, SameBut, SameLists, *]

@[simp ↓] theorem stopProcessor_keeps (p : Nat) (s : State) {A : Part → Bool} {r0 : State} (h_s : Keeps A r0 s)
    (p_ranger : A .ranger = true := by first | assumption | rfl)
    (p_update : A .update = true := by first | assumption | rfl) : Keeps A r0 (stopProcessor p s) := by simp (maxDischargeDepth := 60) [stopProcessor, SameBut, SameLists, *]

@[simp ↓] theorem bootImage_keeps (p bank : Nat) (body other : Digest) (s : State) {A : Part → Bool} {r0 : State} (h_s : Keeps A r0 s)
    (p_ranger : A .ranger = true := by first | assumption | rfl) (p_tally : A .tally = true := by first | assumption | rfl)
    (p_update : A .update = true := by first | assumption | rfl) : Keeps A r0 (bootImage p bank body other s) := by
  unfold bootImage
  repeat' first
    | (simp +contextual (maxDischargeDepth := 60) [SameBut, SameLists, *]; done)
    | (rename_i e; have e := congrArg Prod.snd e; dsimp only at e; subst e)
    | split
    | (refine keeps_foldl (fun _ _ _ => ?_) ?_)
    | dsimp only

@[simp ↓] theorem migrateBlock_keeps (i : BankImage) (s : State) (x : Nat) {A : Part → Bool} {r0 : State} (h_s : Keeps A r0 s)
    (p_tally : A .tally = true := by first | assumption | rfl) (p_update : A .update = true := by first | assumption | rfl)
    : Keeps A r0 (migrateBlock i s x) := by
  unfold migrateBlock
  repeat' first
    | (simp +contextual (maxDischargeDepth := 60) [SameBut, SameLists, *]; done)
    | (rename_i e; have e := congrArg Prod.snd e; dsimp only at e; subst e)
    | split
    | (refine keeps_foldl (fun _ _ _ => ?_) ?_)
    | dsimp only

@[simp ↓] theorem migrate_keeps (i : BankImage) (s : State) {A : Part → Bool} {r0 : State} (h_s : Keeps A r0 s)
    (p_tally : A .tally = true := by first | assumption | rfl) (p_update : A .update = true := by first | assumption | rfl)
    : Keeps A r0 (migrate i s) := by
  unfold migrate
  simp +contextual (maxDischargeDepth := 60) [SameBut, SameLists, *]

@[simp ↓] theorem bootProcessor_keeps (processor : Nat) (body other : Digest) (s : State) {A : Part → Bool} {r0 : State} (h_s : Keeps A r0 s)
    (p_cruiser : A .cruiser = true := by first | assumption | rfl) (p_ranger : A .ranger = true := by first | assumption | rfl)
    (p_tally : A .tally = true := by first | assumption | rfl) (p_storage : A .storage = true := by first | assumption | rfl)
    (p_update : A .update = true := by first | assumption | rfl) : OutKeeps A r0 (bootProcessor processor body other s) := by simp (maxDischargeDepth := 60) [bootProcessor, SameBut, SameLists, *]

@[simp ↓] theorem execImageVerification_keeps (type number : Nat) (body other : Digest) (s : State) {A : Part → Bool} {r0 : State} (h_s : Keeps A r0 s)
    (p_cruiser : A .cruiser = true := by first | assumption | rfl) (p_ranger : A .ranger = true := by first | assumption | rfl)
    (p_tally : A .tally = true := by first | assumption | rfl) (p_storage : A .storage = true := by first | assumption | rfl)
    (p_update : A .update = true := by first | assumption | rfl) : OutKeeps A r0 (execImageVerification type number body other s) := by
  unfold execImageVerification
  cases processorOf type number <;> simp (maxDischargeDepth := 60) [SameBut, SameLists, *]

@[simp ↓] theorem effPackageLength_keeps (n : Nat) (s : State) {A : Part → Bool} {r0 : State} (h_s : Keeps A r0 s)
    (p_storage : A .storage = true := by first | assumption | rfl)
    (p_update : A .update = true := by first | assumption | rfl) : Keeps A r0 (effPackageLength n s) := by simp [effPackageLength, SameBut, SameLists, *]

@[simp ↓] theorem effChunk_keeps (v : ObjVal) (s : State) {A : Part → Bool} {r0 : State} (h_s : Keeps A r0 s)
    (p_cruiser : A .cruiser = true := by first | assumption | rfl) (p_ranger : A .ranger = true := by first | assumption | rfl)
    (p_update : A .update = true := by first | assumption | rfl) : Keeps A r0 (effChunk v s) := by simp [effChunk, SameBut, SameLists, *]

@[simp ↓] theorem effDigest_keeps (sess : Nat) (v : ObjVal) (s : State) {A : Part → Bool} {r0 : State} (h_s : Keeps A r0 s)
    (p_ranger : A .ranger = true := by first | assumption | rfl) (p_tally : A .tally = true := by first | assumption | rfl) (p_storage : A .storage = true := by first | assumption | rfl)
    (p_update : A .update = true := by first | assumption | rfl) : Keeps A r0 (effDigest sess v s) := by simp (maxDischargeDepth := 60) [effDigest, SameBut, SameLists, *]

@[simp ↓] theorem startUpdate_keeps (s : State) {A : Part → Bool} {r0 : State} (h_s : Keeps A r0 s)
    (p_update : A .update = true := by first | assumption | rfl) : Keeps A r0 (startUpdate s) := by simp [startUpdate, SameBut, SameLists, *]

@[simp ↓] theorem confirmUpdate_keeps (s : State) {A : Part → Bool} {r0 : State} (h_s : Keeps A r0 s)
    (p_ranger : A .ranger = true := by first | assumption | rfl) (p_tally : A .tally = true := by first | assumption | rfl) (p_storage : A .storage = true := by first | assumption | rfl)
    (p_update : A .update = true := by first | assumption | rfl) : Keeps A r0 (confirmUpdate s) := by simp (maxDischargeDepth := 60) [confirmUpdate, SameBut, SameLists, *]

@[simp ↓] theorem effUpdate_keeps (v : Nat) (s : State) {A : Part → Bool} {r0 : State} (h_s : Keeps A r0 s)
    (p_pair : A .pair = true := by first | assumption | rfl) (p_ranger : A .ranger = true := by first | assumption | rfl) (p_tally : A .tally = true := by first | assumption | rfl)
    (p_storage : A .storage = true := by first | assumption | rfl) (p_update : A .update = true := by first | assumption | rfl) : Keeps A r0 (effUpdate v s) := by
  unfold effUpdate
  split <;> simp (maxDischargeDepth := 60) [SameBut, SameLists, *]

@[simp ↓] theorem applyGeneration_keeps (s : State) {A : Part → Bool} {r0 : State} (h_s : Keeps A r0 s)
    (p_tally : A .tally = true := by first | assumption | rfl) (p_update : A .update = true := by first | assumption | rfl) : Keeps A r0 (applyGeneration s) := by
  unfold applyGeneration
  split <;> simp (maxDischargeDepth := 60) [SameBut, SameLists, *]

@[simp ↓] theorem finishUpdate_keeps (s : State) {A : Part → Bool} {r0 : State} (h_s : Keeps A r0 s)
    (p_ranger : A .ranger = true := by first | assumption | rfl) (p_tally : A .tally = true := by first | assumption | rfl)
    (p_update : A .update = true := by first | assumption | rfl) : Keeps A r0 (finishUpdate s) := by simp (maxDischargeDepth := 60) [finishUpdate, SameBut, SameLists, *]

@[simp ↓] theorem tellStep_keeps (s : State) {A : Part → Bool} {r0 : State} (h_s : Keeps A r0 s)
    (p_pair : A .pair = true := by first | assumption | rfl) : Keeps A r0 (tellStep s) := by
  unfold tellStep
  repeat' first
    | (simp +contextual (maxDischargeDepth := 60) [SameBut, SameLists, *]; done)
    | (rename_i e; have e := congrArg Prod.snd e; dsimp only at e; subst e)
    | split
    | (refine keeps_foldl (fun _ _ _ => ?_) ?_)
    | dsimp only

@[simp ↓] theorem startStep_keeps (i : Nat) (s : State) {A : Part → Bool} {r0 : State} (h_s : Keeps A r0 s)
    (p_cruiser : A .cruiser = true := by first | assumption | rfl) (p_pair : A .pair = true := by first | assumption | rfl)
    (p_update : A .update = true := by first | assumption | rfl) : Keeps A r0 (startStep i s) := by simp (maxDischargeDepth := 60) [startStep, SameBut, SameLists, *]

@[simp ↓] theorem execUpdateStep_keeps (s : State) {A : Part → Bool} {r0 : State} (h_s : Keeps A r0 s)
    (p_cruiser : A .cruiser = true := by first | assumption | rfl) (p_pair : A .pair = true := by first | assumption | rfl)
    (p_ranger : A .ranger = true := by first | assumption | rfl) (p_tally : A .tally = true := by first | assumption | rfl)
    (p_update : A .update = true := by first | assumption | rfl) : OutKeeps A r0 (execUpdateStep s) := by
  unfold execUpdateStep
  repeat' first
    | (simp +contextual (maxDischargeDepth := 60) [SameBut, SameLists, *]; done)
    | (rename_i e; have e := congrArg Prod.snd e; dsimp only at e; subst e)
    | split
    | (refine keeps_foldl (fun _ _ _ => ?_) ?_)
    | dsimp only

@[simp ↓] theorem returnLane_keeps (s : State) {A : Part → Bool} {r0 : State} (h_s : Keeps A r0 s)
    (p_cruiser : A .cruiser = true := by first | assumption | rfl) : Keeps A r0 (returnLane s) := by simp [returnLane, SameBut, SameLists, *]

@[simp ↓] theorem abortStep_keeps (code : Nat) (s : State) {A : Part → Bool} {r0 : State} (h_s : Keeps A r0 s)
    (p_cruiser : A .cruiser = true := by first | assumption | rfl) (p_pair : A .pair = true := by first | assumption | rfl)
    (p_ranger : A .ranger = true := by first | assumption | rfl) (p_update : A .update = true := by first | assumption | rfl)
    : Keeps A r0 (abortStep code s) := by simp (maxDischargeDepth := 60) [abortStep, SameBut, SameLists, *]

@[simp ↓] theorem resumeKept_keeps (s : State) {A : Part → Bool} {r0 : State} (h_s : Keeps A r0 s)
    (p_scaler : A .scaler = true := by first | assumption | rfl) (p_ranger : A .ranger = true := by first | assumption | rfl)
    (p_tally : A .tally = true := by first | assumption | rfl) (p_update : A .update = true := by first | assumption | rfl)
    : Keeps A r0 (resumeKept s) := by
  unfold resumeKept
  repeat' first
    | (simp +contextual (maxDischargeDepth := 60) [SameBut, SameLists, *]; done)
    | (rename_i e; have e := congrArg Prod.snd e; dsimp only at e; subst e)
    | split
    | (refine keeps_foldl (fun _ _ _ => ?_) ?_)
    | dsimp only

@[simp ↓] theorem completeStep_keeps (s : State) {A : Part → Bool} {r0 : State} (h_s : Keeps A r0 s)
    (p_scaler : A .scaler = true := by first | assumption | rfl) (p_cruiser : A .cruiser = true := by first | assumption | rfl)
    (p_pair : A .pair = true := by first | assumption | rfl) (p_ranger : A .ranger = true := by first | assumption | rfl)
    (p_tally : A .tally = true := by first | assumption | rfl) (p_storage : A .storage = true := by first | assumption | rfl)
    (p_update : A .update = true := by first | assumption | rfl) : Keeps A r0 (completeStep s) := by
  unfold completeStep
  repeat' first
    | (simp +contextual (maxDischargeDepth := 60) [SameBut, SameLists, *]; done)
    | (rename_i e; have e := congrArg Prod.snd e; dsimp only at e; subst e)
    | split
    | (refine keeps_foldl (fun _ _ _ => ?_) ?_)
    | dsimp only

@[simp ↓] theorem execUpdateStepComplete_keeps (step : Nat) (ok : Bool) (code : Nat) (s : State) {A : Part → Bool} {r0 : State} (h_s : Keeps A r0 s)
    (p_scaler : A .scaler = true := by first | assumption | rfl) (p_cruiser : A .cruiser = true := by first | assumption | rfl)
    (p_pair : A .pair = true := by first | assumption | rfl) (p_ranger : A .ranger = true := by first | assumption | rfl)
    (p_tally : A .tally = true := by first | assumption | rfl) (p_storage : A .storage = true := by first | assumption | rfl)
    (p_update : A .update = true := by first | assumption | rfl) : OutKeeps A r0 (execUpdateStepComplete step ok code s) := by simp (maxDischargeDepth := 60) [execUpdateStepComplete, SameBut, SameLists, *]

@[simp ↓] theorem execCoreHandOver_keeps (s : State) {A : Part → Bool} {r0 : State} (h_s : Keeps A r0 s)
    (p_update : A .update = true := by first | assumption | rfl) : OutKeeps A r0 (execCoreHandOver s) := by simp (maxDischargeDepth := 60) [execCoreHandOver, SameBut, SameLists, *]

@[simp ↓] theorem updateBoundary_keeps (s : State) {A : Part → Bool} {r0 : State} (h_s : Keeps A r0 s)
    (p_cruiser : A .cruiser = true := by first | assumption | rfl) (p_ranger : A .ranger = true := by first | assumption | rfl) (p_tally : A .tally = true := by first | assumption | rfl)
    (p_storage : A .storage = true := by first | assumption | rfl)
    (p_update : A .update = true := by first | assumption | rfl) : Keeps A r0 (updateBoundary s) := by simp (maxDischargeDepth := 60) [updateBoundary, SameBut, SameLists, *]

@[simp ↓] theorem execConfirmationPeriodExpiry_keeps (s : State) {A : Part → Bool} {r0 : State} (h_s : Keeps A r0 s)
    (p_ranger : A .ranger = true := by first | assumption | rfl) (p_tally : A .tally = true := by first | assumption | rfl) (p_storage : A .storage = true := by first | assumption | rfl)
    (p_update : A .update = true := by first | assumption | rfl) : OutKeeps A r0 (execConfirmationPeriodExpiry s) := by
  unfold execConfirmationPeriodExpiry
  split <;> simp (maxDischargeDepth := 60) [SameBut, SameLists, *]

end Sys2Proof.Machine
end

