-- ==== Sys2Proof/Laws/Keeps4.lean ====
section
/-! SUPPORT. What the operations of Envelope.lean, Blocks.lean, Heads.lean, Wire.lean, Ring.lean keep (see Keeps.lean): no part beyond those named as hypotheses changes. -/

namespace Sys2Proof.Machine

set_option Elab.async false

open Sys2Proof

set_option linter.unusedSimpArgs false
set_option linter.unusedVariables false
set_option linter.tactic.unusedName false

/-! ### Envelope -/

@[simp ↓] theorem installResult_keeps (code : Nat) (s : State) {A : Part → Bool} {r0 : State} (h_s : Keeps A r0 s)
    (p_fb : A .fb = true := by first | assumption | rfl)
    (p_sec : A .sec = true := by first | assumption | rfl) : Keeps A r0 (installResult code s) := by simp [installResult, SameBut, SameLists, *]

@[simp ↓] theorem refuseEnvelope_keeps (p : EnvPending) (code : Nat) (s : State) {A : Part → Bool} {r0 : State} (h_s : Keeps A r0 s)
    (p_fb : A .fb = true := by first | assumption | rfl) (p_dict : A .dict = true := by first | assumption | rfl)
    (p_sec : A .sec = true := by first | assumption | rfl) : Keeps A r0 (refuseEnvelope p code s) := by simp (maxDischargeDepth := 60) [refuseEnvelope, SameBut, SameLists, *]

@[simp ↓] theorem acceptEnvelope_keeps (sess req : Nat) (foreign : Bool) (doc : Bytes) (s : State) {A : Part → Bool} {r0 : State} (h_s : Keeps A r0 s)
    (p_fb : A .fb = true := by first | assumption | rfl)
    (p_pair : A .pair = true := by first | assumption | rfl) : Keeps A r0 (acceptEnvelope sess req foreign doc s) := by simp (maxDischargeDepth := 60) [acceptEnvelope, SameBut, SameLists, *]

@[simp ↓] theorem effEnvelope_keeps (dest req : Nat) (doc : Bytes) (s : State) {A : Part → Bool} {r0 : State} (h_s : Keeps A r0 s)
    (p_fb : A .fb = true := by first | assumption | rfl)
    (p_pair : A .pair = true := by first | assumption | rfl) : Keeps A r0 (effEnvelope dest req doc s) := by simp [effEnvelope, *]

@[simp ↓] theorem envelopeRefused_keeps (code : Nat) (s : State) {A : Part → Bool} {r0 : State} (h_s : Keeps A r0 s)
    (p_fb : A .fb = true := by first | assumption | rfl)
    (p_sec : A .sec = true := by first | assumption | rfl) : Keeps A r0 (envelopeRefused code s) := by simp [envelopeRefused, *]

@[simp ↓] theorem partnerEnvelope_keeps (doc : Bytes) (s : State) {A : Part → Bool} {r0 : State} (h_s : Keeps A r0 s)
    (p_fb : A .fb = true := by first | assumption | rfl) (p_sec : A .sec = true := by first | assumption | rfl)
    (p_pair : A .pair = true := by first | assumption | rfl) : Keeps A r0 (partnerEnvelope doc s) := by simp (maxDischargeDepth := 60) [partnerEnvelope, SameBut, SameLists, *]

@[simp ↓] theorem scheduleEnvelopes_keeps (s : State) {A : Part → Bool} {r0 : State} (h_s : Keeps A r0 s) (p_fb : A .fb = true := by first | assumption | rfl)
    (p_pair : A .pair = true := by first | assumption | rfl) : Keeps A r0 (scheduleEnvelopes s) := by
  unfold scheduleEnvelopes
  split <;> simp (maxDischargeDepth := 60) [SameBut, SameLists, *]

@[simp ↓] theorem envelopeAnswered_keeps (ok : Bool) (s : State) {A : Part → Bool} {r0 : State} (h_s : Keeps A r0 s)
    (p_fb : A .fb = true := by first | assumption | rfl) (p_dict : A .dict = true := by first | assumption | rfl) (p_sec : A .sec = true := by first | assumption | rfl)
    (p_pair : A .pair = true := by first | assumption | rfl) : Keeps A r0 (envelopeAnswered ok s) := by
  unfold envelopeAnswered
  split <;> simp (maxDischargeDepth := 60) [SameBut, SameLists, *]

@[simp ↓] theorem envelopeEffective_keeps (at_ : Cycle) (s : State) {A : Part → Bool} {r0 : State} (h_s : Keeps A r0 s)
    (p_fb : A .fb = true := by first | assumption | rfl) : Keeps A r0 (envelopeEffective at_ s) := by simp [envelopeEffective, SameBut, SameLists, *]

@[simp ↓] theorem applyEnvelope_keeps (p : EnvPending) (s : State) {A : Part → Bool} {r0 : State} (h_s : Keeps A r0 s)
    (p_fe : A .fe = true := by first | assumption | rfl) (p_fb : A .fb = true := by first | assumption | rfl) (p_canopy : A .canopy = true := by first | assumption | rfl)
    (p_dict : A .dict = true := by first | assumption | rfl) (p_sec : A .sec = true := by first | assumption | rfl) (p_ranger : A .ranger = true := by first | assumption | rfl)
    (p_tally : A .tally = true := by first | assumption | rfl) : Keeps A r0 (applyEnvelope p s) := by simp (maxDischargeDepth := 60) [applyEnvelope, SameBut, SameLists, *]

@[simp ↓] theorem applyEnvelopes_keeps (s : State) {A : Part → Bool} {r0 : State} (h_s : Keeps A r0 s) (p_fe : A .fe = true := by first | assumption | rfl)
    (p_fb : A .fb = true := by first | assumption | rfl) (p_canopy : A .canopy = true := by first | assumption | rfl) (p_dict : A .dict = true := by first | assumption | rfl)
    (p_sec : A .sec = true := by first | assumption | rfl) (p_ranger : A .ranger = true := by first | assumption | rfl)
    (p_tally : A .tally = true := by first | assumption | rfl) : Keeps A r0 (applyEnvelopes s) := by
  unfold applyEnvelopes
  simp +contextual (maxDischargeDepth := 60) [SameBut, SameLists, *]

@[simp ↓] theorem selfTest_keeps (pass : Bool) (s : State) {A : Part → Bool} {r0 : State} (h_s : Keeps A r0 s)
    (p_fb : A .fb = true := by first | assumption | rfl)
    (p_ranger : A .ranger = true := by first | assumption | rfl) : Keeps A r0 (selfTest pass s) := by simp (maxDischargeDepth := 60) [selfTest, SameBut, SameLists, *]

@[simp ↓] theorem execFirebreakSelfTest_keeps (pass : Bool) (s : State) {A : Part → Bool} {r0 : State} (h_s : Keeps A r0 s)
    (p_fb : A .fb = true := by first | assumption | rfl) (p_dict : A .dict = true := by first | assumption | rfl) (p_sec : A .sec = true := by first | assumption | rfl)
    (p_pair : A .pair = true := by first | assumption | rfl) (p_ranger : A .ranger = true := by first | assumption | rfl) : OutKeeps A r0 (execFirebreakSelfTest pass s) := by
  unfold execFirebreakSelfTest
  repeat' first
    | (simp +contextual (maxDischargeDepth := 60) [SameBut, SameLists, *]; done)
    | (rename_i e; have e := congrArg Prod.snd e; dsimp only at e; subst e)
    | split
    | (refine keeps_foldl (fun _ _ _ => ?_) ?_)
    | dsimp only

@[simp ↓] theorem execEnvelopePartnerTimeout_keeps (s : State) {A : Part → Bool} {r0 : State} (h_s : Keeps A r0 s)
    (p_fb : A .fb = true := by first | assumption | rfl) (p_dict : A .dict = true := by first | assumption | rfl)
    (p_sec : A .sec = true := by first | assumption | rfl) : OutKeeps A r0 (execEnvelopePartnerTimeout s) := by
  unfold execEnvelopePartnerTimeout
  split <;> simp (maxDischargeDepth := 60) [SameBut, SameLists, *]

@[simp ↓] theorem effKeyChange_keeps (doc : Bytes) (s : State) {A : Part → Bool} {r0 : State} (h_s : Keeps A r0 s)
    (p_fb : A .fb = true := by first | assumption | rfl) (p_sec : A .sec = true := by first | assumption | rfl)
    (p_pair : A .pair = true := by first | assumption | rfl) : Keeps A r0 (effKeyChange doc s) := by simp [effKeyChange, SameBut, SameLists, *]

/-! ### Blocks -/

@[simp ↓] theorem recordBlock_keeps (port : Nat) (b : HeadBlock) (s : State) {A : Part → Bool} {r0 : State} (h_s : Keeps A r0 s)
    (p_ring : A .ring = true := by first | assumption | rfl) : Keeps A r0 (recordBlock port b s) := by simp [recordBlock, SameBut, SameLists, *]

@[simp ↓] theorem noteBlock_keeps (port : Nat) (b : HeadBlock) (s : State) {A : Part → Bool} {r0 : State} (h_s : Keeps A r0 s)
    (p_ring : A .ring = true := by first | assumption | rfl) (p_heads : A .heads = true := by first | assumption | rfl)
    (p_ranger : A .ranger = true := by first | assumption | rfl) : Keeps A r0 (noteBlock port b s) := by
  unfold noteBlock
  repeat' first
    | (simp +contextual (maxDischargeDepth := 60) [SameBut, SameLists, *]; done)
    | (rename_i e; have e := congrArg Prod.snd e; dsimp only at e; subst e)
    | split
    | (refine keeps_foldl (fun _ _ _ => ?_) ?_)
    | dsimp only

@[simp ↓] theorem reassignHead_keeps (port p : Nat) (s : State) {A : Part → Bool} {r0 : State} (h_s : Keeps A r0 s)
    (p_ring : A .ring = true := by first | assumption | rfl) (p_heads : A .heads = true := by first | assumption | rfl)
    (p_cruiser : A .cruiser = true := by first | assumption | rfl) : Keeps A r0 (reassignHead port p s) := by
  unfold reassignHead
  repeat' first
    | (simp +contextual (maxDischargeDepth := 60) [SameBut, SameLists, *]; done)
    | (rename_i e; have e := congrArg Prod.snd e; dsimp only at e; subst e)
    | split
    | (refine keeps_foldl (fun _ _ _ => ?_) ?_)
    | dsimp only

@[simp ↓] theorem gateCheck_keeps (b : HeadBlock) (inj : Bool) (s : State) {A : Part → Bool} {r0 : State} (h_s : Keeps A r0 s)
    (p_ring : A .ring = true := by first | assumption | rfl) (p_heads : A .heads = true := by first | assumption | rfl) (p_tap : A .tap = true := by first | assumption | rfl)
    (p_thin : A .thin = true := by first | assumption | rfl) (p_ranger : A .ranger = true := by first | assumption | rfl) : Keeps A r0 (gateCheck b inj s).2 := by
  unfold gateCheck
  repeat' first
    | (simp +contextual (maxDischargeDepth := 60) [SameBut, SameLists, *]; done)
    | (rename_i e; have e := congrArg Prod.snd e; dsimp only at e; subst e)
    | split
    | (refine keeps_foldl (fun _ _ _ => ?_) ?_)
    | dsimp only

@[simp ↓] theorem chanDiag_keeps (p : Nat) (s : State) {A : Part → Bool} {r0 : State} (h_s : Keeps A r0 s)
    (p_tap : A .tap = true := by first | assumption | rfl) : Keeps A r0 (chanDiag p s) := by
  unfold chanDiag
  repeat' first
    | (simp +contextual (maxDischargeDepth := 60) [SameBut, SameLists, *]; done)
    | (rename_i e; have e := congrArg Prod.snd e; dsimp only at e; subst e)
    | split
    | (refine keeps_foldl (fun _ _ _ => ?_) ?_)
    | dsimp only

@[simp ↓] theorem refEnd_keeps (p : Nat) (s : State) {A : Part → Bool} {r0 : State} (h_s : Keeps A r0 s)
    (p_tap : A .tap = true := by first | assumption | rfl) (p_ranger : A .ranger = true := by first | assumption | rfl) : Keeps A r0 (refEnd p s) := by
  unfold refEnd
  repeat' first
    | (simp +contextual (maxDischargeDepth := 60) [SameBut, SameLists, *]; done)
    | (rename_i e; have e := congrArg Prod.snd e; dsimp only at e; subst e)
    | split
    | (refine keeps_foldl (fun _ _ _ => ?_) ?_)
    | dsimp only

@[simp ↓] theorem refCheck_keeps (b : HeadBlock) (inj : Bool) (s : State) {A : Part → Bool} {r0 : State} (h_s : Keeps A r0 s)
    (p_tap : A .tap = true := by first | assumption | rfl) (p_ranger : A .ranger = true := by first | assumption | rfl) : Keeps A r0 (refCheck b inj s).2 := by
  unfold refCheck
  repeat' first
    | (simp +contextual (maxDischargeDepth := 60) [SameBut, SameLists, *]; done)
    | (rename_i e; have e := congrArg Prod.snd e; dsimp only at e; subst e)
    | split
    | (refine keeps_foldl (fun _ _ _ => ?_) ?_)
    | dsimp only

@[simp ↓] theorem owSample_keeps (b : HeadBlock) (prevOw : Bool) (s : State) {A : Part → Bool} {r0 : State} (h_s : Keeps A r0 s)
    (p_tap : A .tap = true := by first | assumption | rfl) : Keeps A r0 (owSample b prevOw s) := by
  unfold owSample
  (repeat' split) <;> simp (maxDischargeDepth := 60) [SameBut, SameLists, *]

@[simp ↓] theorem swSample_keeps (b : HeadBlock) (s : State) {A : Part → Bool} {r0 : State} (h_s : Keeps A r0 s)
    (p_heads : A .heads = true := by first | assumption | rfl) (p_thin : A .thin = true := by first | assumption | rfl) : Keeps A r0 (swSample b s) := by
  unfold swSample
  split <;> simp (maxDischargeDepth := 60) [SameBut, SameLists, *]

@[simp ↓] theorem stackCompare_keeps (b : HeadBlock) (inj : Bool) (s : State) {A : Part → Bool} {r0 : State} (h_s : Keeps A r0 s)
    (p_fe : A .fe = true := by first | assumption | rfl) (p_fb : A .fb = true := by first | assumption | rfl)
    (p_ranger : A .ranger = true := by first | assumption | rfl) : Keeps A r0 (stackCompare b inj s) := by
  unfold stackCompare
  (repeat' split) <;> simp (maxDischargeDepth := 60) [SameBut, SameLists, *]

@[simp ↓] theorem cellsOfBlock_keeps (b : HeadBlock) (prevOw inj : Bool) (s : State) {A : Part → Bool} {r0 : State} (h_s : Keeps A r0 s)
    (p_ring : A .ring = true := by first | assumption | rfl) (p_heads : A .heads = true := by first | assumption | rfl) (p_tap : A .tap = true := by first | assumption | rfl)
    (p_fe : A .fe = true := by first | assumption | rfl) (p_cells : A .cells = true := by first | assumption | rfl) (p_thin : A .thin = true := by first | assumption | rfl)
    (p_fb : A .fb = true := by first | assumption | rfl) (p_ranger : A .ranger = true := by first | assumption | rfl) : Keeps A r0 (cellsOfBlock b prevOw inj s) := by
  unfold cellsOfBlock
  simp +contextual (maxDischargeDepth := 60) [SameBut, SameLists, *]

@[simp ↓] theorem tempsOfBlock_keeps (b : HeadBlock) (inj : Bool) (s : State) {A : Part → Bool} {r0 : State} (h_s : Keeps A r0 s)
    (p_fe : A .fe = true := by first | assumption | rfl) (p_points : A .points = true := by first | assumption | rfl) (p_fb : A .fb = true := by first | assumption | rfl)
    (p_ranger : A .ranger = true := by first | assumption | rfl) : Keeps A r0 (tempsOfBlock b inj s) := by
  unfold tempsOfBlock
  simp +contextual (maxDischargeDepth := 60) [SameBut, SameLists, *]

@[simp ↓] theorem acceptBlock_keeps (port : Nat) (b : HeadBlock) (inj : Bool) (s : State) {A : Part → Bool} {r0 : State} (h_s : Keeps A r0 s)
    (p_ring : A .ring = true := by first | assumption | rfl) (p_heads : A .heads = true := by first | assumption | rfl)
    (p_tap : A .tap = true := by first | assumption | rfl) (p_fe : A .fe = true := by first | assumption | rfl)
    (p_cells : A .cells = true := by first | assumption | rfl) (p_points : A .points = true := by first | assumption | rfl)
    (p_thin : A .thin = true := by first | assumption | rfl) (p_fb : A .fb = true := by first | assumption | rfl)
    (p_ranger : A .ranger = true := by first | assumption | rfl) : Keeps A r0 (acceptBlock port b inj s) := by simp (maxDischargeDepth := 60) [acceptBlock, SameBut, SameLists, *]

@[simp ↓] theorem rejectBlock_keeps (port : Nat) (b : HeadBlock) (inj : Bool) (s : State) {A : Part → Bool} {r0 : State} (h_s : Keeps A r0 s)
    (p_ring : A .ring = true := by first | assumption | rfl) (p_heads : A .heads = true := by first | assumption | rfl)
    (p_ranger : A .ranger = true := by first | assumption | rfl) : Keeps A r0 (rejectBlock port b inj s) := by simp (maxDischargeDepth := 60) [rejectBlock, SameBut, SameLists, *]

@[simp ↓] theorem countViolations_keeps (port code disparity : Nat) (s : State) {A : Part → Bool} {r0 : State} (h_s : Keeps A r0 s)
    (p_ring : A .ring = true := by first | assumption | rfl) (p_ranger : A .ranger = true := by first | assumption | rfl)
    : Keeps A r0 (countViolations port code disparity s) := by
  unfold countViolations
  repeat' first
    | (simp +contextual (maxDischargeDepth := 60) [SameBut, SameLists, *]; done)
    | (rename_i e; have e := congrArg Prod.snd e; dsimp only at e; subst e)
    | split
    | (refine keeps_foldl (fun _ _ _ => ?_) ?_)
    | dsimp only

@[simp ↓] theorem takeBlock_keeps (port : Nat) (b : HeadBlock) (inj : Bool) (s : State) {A : Part → Bool} {r0 : State} (h_s : Keeps A r0 s)
    (p_ring : A .ring = true := by first | assumption | rfl) (p_heads : A .heads = true := by first | assumption | rfl) (p_tap : A .tap = true := by first | assumption | rfl)
    (p_fe : A .fe = true := by first | assumption | rfl) (p_cells : A .cells = true := by first | assumption | rfl) (p_points : A .points = true := by first | assumption | rfl)
    (p_cruiser : A .cruiser = true := by first | assumption | rfl) (p_thin : A .thin = true := by first | assumption | rfl) (p_fb : A .fb = true := by first | assumption | rfl)
    (p_ranger : A .ranger = true := by first | assumption | rfl) : Keeps A r0 (takeBlock port b inj s) := by simp (maxDischargeDepth := 60) [takeBlock, SameBut, SameLists, *]

@[simp ↓] theorem missingHead_keeps (s : State) (p : Nat) {A : Part → Bool} {r0 : State} (h_s : Keeps A r0 s)
    (p_ring : A .ring = true := by first | assumption | rfl) (p_heads : A .heads = true := by first | assumption | rfl)
    (p_tap : A .tap = true := by first | assumption | rfl) : Keeps A r0 (missingHead s p) := by
  unfold missingHead
  repeat' first
    | (simp +contextual (maxDischargeDepth := 60) [SameBut, SameLists, *]; done)
    | (rename_i e; have e := congrArg Prod.snd e; dsimp only at e; subst e)
    | split
    | (refine keeps_foldl (fun _ _ _ => ?_) ?_)
    | dsimp only

@[simp ↓] theorem missingCell_keeps (s : State) (k : Nat) {A : Part → Bool} {r0 : State} (h_s : Keeps A r0 s)
    (p_fb : A .fb = true := by first | assumption | rfl) : Keeps A r0 (missingCell s k) := by simp [missingCell, SameBut, SameLists, *]

@[simp ↓] theorem endOfBlocks_keeps (s : State) {A : Part → Bool} {r0 : State} (h_s : Keeps A r0 s)
    (p_ring : A .ring = true := by first | assumption | rfl) (p_heads : A .heads = true := by first | assumption | rfl)
    (p_tap : A .tap = true := by first | assumption | rfl) (p_fb : A .fb = true := by first | assumption | rfl) : Keeps A r0 (endOfBlocks s) := by
  unfold endOfBlocks
  simp +contextual (maxDischargeDepth := 60) [SameBut, SameLists, *]

/-! ### Heads -/

@[simp ↓] theorem State.modHead_keeps (s : State) (place : Nat) (f : Head → Head) {A : Part → Bool} {r0 : State} (h_s : Keeps A r0 s)
    (p_heads : A .heads = true := by first | assumption | rfl) : Keeps A r0 (State.modHead s place f) := by simp [State.modHead, SameBut, SameLists, *]

@[simp ↓] theorem execHeadSyncReceive_keeps (place port : Nat) (hdr : SyncHeader) (s : State) {A : Part → Bool} {r0 : State} (h_s : Keeps A r0 s) (p_heads : A .heads = true := by first | assumption | rfl)
    (p_ranger : A .ranger = true := by first | assumption | rfl) : OutKeeps A r0 (execHeadSyncReceive place port hdr s) := by simp (maxDischargeDepth := 60) [execHeadSyncReceive, SameBut, SameLists, *]

@[simp ↓] theorem execHeadSample_keeps (place : Nat) (cells : List (Option Int)) (stack : Option Int) (temps : List (Option Int)) (die : Int) (s : State) {A : Part → Bool} {r0 : State} (h_s : Keeps A r0 s)
    (p_heads : A .heads = true := by first | assumption | rfl)
    (p_cells : A .cells = true := by first | assumption | rfl) : OutKeeps A r0 (execHeadSample place cells stack temps die s) := by simp (maxDischargeDepth := 60) [execHeadSample, SameBut, SameLists, *]

@[simp ↓] theorem execContainerPass_keeps (place fil : Nat) (s : State) {A : Part → Bool} {r0 : State} (h_s : Keeps A r0 s)
    (p_heads : A .heads = true := by first | assumption | rfl) : OutKeeps A r0 (execContainerPass place fil s) := by simp (maxDischargeDepth := 60) [execContainerPass, SameBut, SameLists, *]

@[simp ↓] theorem execQuietWindowOpen_keeps (place : Nat) (s : State) {A : Part → Bool} {r0 : State} (h_s : Keeps A r0 s)
    (p_heads : A .heads = true := by first | assumption | rfl) : OutKeeps A r0 (execQuietWindowOpen place s) := by simp [execQuietWindowOpen, *]

@[simp ↓] theorem execQuietWindowClose_keeps (place : Nat) (s : State) {A : Part → Bool} {r0 : State} (h_s : Keeps A r0 s)
    (p_heads : A .heads = true := by first | assumption | rfl) : OutKeeps A r0 (execQuietWindowClose place s) := by simp [execQuietWindowClose, *]

@[simp ↓] theorem execHeadWrap_keeps (input : HeadInput) (s : State) {A : Part → Bool} {r0 : State} (h_s : Keeps A r0 s)
    (p_heads : A .heads = true := by first | assumption | rfl) : OutKeeps A r0 (execHeadWrap input s) := by simp (maxDischargeDepth := 60) [execHeadWrap, SameBut, SameLists, *]

@[simp ↓] theorem execHeadCycleMissing_keeps (place : Nat) (s : State) {A : Part → Bool} {r0 : State} (h_s : Keeps A r0 s)
    (p_heads : A .heads = true := by first | assumption | rfl) : OutKeeps A r0 (execHeadCycleMissing place s) := by simp [execHeadCycleMissing, *]

@[simp ↓] theorem execHeadSyncLost_keeps (place : Nat) (s : State) {A : Part → Bool} {r0 : State} (h_s : Keeps A r0 s)
    (p_heads : A .heads = true := by first | assumption | rfl) : OutKeeps A r0 (execHeadSyncLost place s) := by simp (maxDischargeDepth := 60) [execHeadSyncLost, SameBut, SameLists, *]

@[simp ↓] theorem execHeadInitialState_keeps (place : Nat) (s : State) {A : Part → Bool} {r0 : State} (h_s : Keeps A r0 s)
    (p_heads : A .heads = true := by first | assumption | rfl) : OutKeeps A r0 (execHeadInitialState place s) := by simp (maxDischargeDepth := 60) [execHeadInitialState, SameBut, SameLists, *]

@[simp ↓] theorem execHeadLowPower_keeps (place : Nat) (s : State) {A : Part → Bool} {r0 : State} (h_s : Keeps A r0 s)
    (p_heads : A .heads = true := by first | assumption | rfl) : OutKeeps A r0 (execHeadLowPower place s) := by simp (maxDischargeDepth := 60) [execHeadLowPower, SameBut, SameLists, *]

@[simp ↓] theorem execHeadWake_keeps (place : Nat) (s : State) {A : Part → Bool} {r0 : State} (h_s : Keeps A r0 s)
    (p_heads : A .heads = true := by first | assumption | rfl) : OutKeeps A r0 (execHeadWake place s) := by simp (maxDischargeDepth := 60) [execHeadWake, SameBut, SameLists, *]

@[simp ↓] theorem headCommand_answer_keeps (place : Nat) (f : Frame) (s : State) (h : Head) (r : HeadResponse) {A : Part → Bool} {r0 : State}
    (hs : Keeps A r0 s) (p_heads : A .heads = true := by first | assumption | rfl) : Keeps A r0 (headCommand.answer place f s h r) := by
  simp [headCommand.answer, SameBut, SameLists, *]

theorem headCommand_run_keeps (place : Nat) (f : Frame) (lenOk : Bool) (states : List HeadState) (act : Head → HeadResponse × Head) (s : State) (h : Head)
    {A : Part → Bool} {r0 : State} (hs : Keeps A r0 s)
    (p_heads : A .heads = true := by first | assumption | rfl) : Keeps A r0 (headCommand.run place f lenOk states act s h) := by
  unfold headCommand.run
  (repeat' split) <;> simp (maxDischargeDepth := 60) [SameBut, SameLists, hs, *]

@[simp ↓] theorem headCommand_keeps (place : Nat) (f : Frame) (lenOk : Bool) (states : List HeadState) (act : Head → HeadResponse × Head) (s : State)
    {A : Part → Bool} {r0 : State} (h : Keeps A r0 s)
    (p_heads : A .heads = true := by first | assumption | rfl) : Keeps A r0 (headCommand place f lenOk states act s) := by
  unfold headCommand
  dsimp only
  have ha := fun g r => headCommand_answer_keeps place f s g r h
  have hr := fun g => headCommand_run_keeps place f lenOk states act s g h
  (repeat' split) <;> first | exact h | exact ha _ _ | exact hr _ | simp (maxDischargeDepth := 60) [SameBut, SameLists, h, *]

@[simp ↓] theorem execIdentify_keeps (place : Nat) (f : Frame) (s : State) {A : Part → Bool} {r0 : State} (h_s : Keeps A r0 s)
    (p_heads : A .heads = true := by first | assumption | rfl) : OutKeeps A r0 (execIdentify place f s) := by simp [execIdentify, *]

@[simp ↓] theorem execOpenHead_keeps (place : Nat) (f : Frame) (s : State) {A : Part → Bool} {r0 : State} (h_s : Keeps A r0 s)
    (p_heads : A .heads = true := by first | assumption | rfl) : OutKeeps A r0 (execOpenHead place f s) := by simp [execOpenHead, *]

@[simp ↓] theorem execSetPosition_keeps (place : Nat) (f : Frame) (payload : Bytes) (s : State) {A : Part → Bool} {r0 : State} (h_s : Keeps A r0 s) (p_heads : A .heads = true := by first | assumption | rfl) : OutKeeps A r0 (execSetPosition place f payload s) := by simp [execSetPosition, *]

@[simp ↓] theorem execSetDelay_keeps (place : Nat) (f : Frame) (payload : Bytes) (s : State) {A : Part → Bool} {r0 : State} (h_s : Keeps A r0 s)
    (p_heads : A .heads = true := by first | assumption | rfl) : OutKeeps A r0 (execSetDelay place f payload s) := by simp [execSetDelay, *]

@[simp ↓] theorem execConfigure_keeps (place : Nat) (f : Frame) (payload : Bytes) (s : State) {A : Part → Bool} {r0 : State} (h_s : Keeps A r0 s) (p_heads : A .heads = true := by first | assumption | rfl) : OutKeeps A r0 (execConfigure place f payload s) := by simp [execConfigure, *]

@[simp ↓] theorem execUnwrap_keeps (place : Nat) (f : Frame) (s : State) {A : Part → Bool} {r0 : State} (h_s : Keeps A r0 s)
    (p_heads : A .heads = true := by first | assumption | rfl) : OutKeeps A r0 (execUnwrap place f s) := by simp [execUnwrap, *]

@[simp ↓] theorem execBleedSlot_keeps (place : Nat) (f : Frame) (payload : Bytes) (s : State) {A : Part → Bool} {r0 : State} (h_s : Keeps A r0 s) (p_heads : A .heads = true := by first | assumption | rfl) : OutKeeps A r0 (execBleedSlot place f payload s) := by simp [execBleedSlot, *]

@[simp ↓] theorem execBleedSlotStart_keeps (place : Nat) (s : State) {A : Part → Bool} {r0 : State} (h_s : Keeps A r0 s)
    (p_heads : A .heads = true := by first | assumption | rfl) : OutKeeps A r0 (execBleedSlotStart place s) := by simp [execBleedSlotStart, *]

@[simp ↓] theorem execBleedOff_keeps (place : Nat) (f : Frame) (s : State) {A : Part → Bool} {r0 : State} (h_s : Keeps A r0 s)
    (p_heads : A .heads = true := by first | assumption | rfl) : OutKeeps A r0 (execBleedOff place f s) := by simp [execBleedOff, *]

@[simp ↓] theorem execOwTest_keeps (place : Nat) (f : Frame) (payload : Bytes) (s : State) {A : Part → Bool} {r0 : State} (h_s : Keeps A r0 s)
    (p_heads : A .heads = true := by first | assumption | rfl) : OutKeeps A r0 (execOwTest place f payload s) := by simp [execOwTest, *]

@[simp ↓] theorem execSwitchTest_keeps (place : Nat) (f : Frame) (payload : Bytes) (s : State) {A : Part → Bool} {r0 : State} (h_s : Keeps A r0 s) (p_heads : A .heads = true := by first | assumption | rfl) : OutKeeps A r0 (execSwitchTest place f payload s) := by simp [execSwitchTest, *]

@[simp ↓] theorem execReadStatus_keeps (place : Nat) (f : Frame) (s : State) {A : Part → Bool} {r0 : State} (h_s : Keeps A r0 s)
    (p_heads : A .heads = true := by first | assumption | rfl) : OutKeeps A r0 (execReadStatus place f s) := by simp [execReadStatus, *]

@[simp ↓] theorem execTestRef_keeps (place : Nat) (f : Frame) (payload : Bytes) (s : State) {A : Part → Bool} {r0 : State} (h_s : Keeps A r0 s)
    (p_heads : A .heads = true := by first | assumption | rfl) (p_tap : A .tap = true := by first | assumption | rfl)
    : OutKeeps A r0 (execTestRef place f payload s) := by
  unfold execTestRef
  repeat' first
    | (simp +contextual (maxDischargeDepth := 60) [SameBut, SameLists, *]; done)
    | (rename_i e; have e := congrArg Prod.snd e; dsimp only at e; subst e)
    | split
    | (refine keeps_foldl (fun _ _ _ => ?_) ?_)
    | dsimp only

@[simp ↓] theorem execRestart_keeps (place : Nat) (f : Frame) (payload : Bytes) (s : State) {A : Part → Bool} {r0 : State} (h_s : Keeps A r0 s)
    (p_heads : A .heads = true := by first | assumption | rfl) : OutKeeps A r0 (execRestart place f payload s) := by simp [execRestart, *]

@[simp ↓] theorem execEcho_keeps (place : Nat) (f : Frame) (payload : Bytes) (s : State) {A : Part → Bool} {r0 : State} (h_s : Keeps A r0 s)
    (p_heads : A .heads = true := by first | assumption | rfl) : OutKeeps A r0 (execEcho place f payload s) := by simp [execEcho, *]

/-! ### Wire -/

@[simp ↓] theorem transmit_keeps (port kind p : Nat) (s : State) {A : Part → Bool} {r0 : State} (h_s : Keeps A r0 s)
    (p_ring : A .ring = true := by first | assumption | rfl) (p_pair : A .pair = true := by first | assumption | rfl)
    (p_tally : A .tally = true := by first | assumption | rfl) (p_inject : A .inject = true := by first | assumption | rfl)
    : Keeps A r0 (transmit port kind p s).2 := by
  unfold transmit
  repeat' first
    | (simp +contextual (maxDischargeDepth := 60) [SameBut, SameLists, *]; done)
    | (rename_i e; have e := congrArg Prod.snd e; dsimp only at e; subst e)
    | split
    | (refine keeps_foldl (fun _ _ _ => ?_) ?_)
    | dsimp only

@[simp ↓] theorem wireOn_keeps (port : Nat) (i : WireItem) (s : State) {A : Part → Bool} {r0 : State} (h_s : Keeps A r0 s)
    (p_ring : A .ring = true := by first | assumption | rfl) : Keeps A r0 (wireOn port i s) := by
  unfold wireOn
  repeat' first
    | (simp +contextual (maxDischargeDepth := 60) [SameBut, SameLists, *]; done)
    | (rename_i e; have e := congrArg Prod.snd e; dsimp only at e; subst e)
    | split
    | (refine keeps_foldl (fun _ _ _ => ?_) ?_)
    | dsimp only

@[simp ↓] theorem sendChars_keeps (what : Injected) (port : Nat) (l : List RingChar) (s : State) {A : Part → Bool} {r0 : State} (h_s : Keeps A r0 s)
    (p_ring : A .ring = true := by first | assumption | rfl) : Keeps A r0 (sendChars what port l s) := by
  unfold sendChars
  repeat' first
    | (simp +contextual (maxDischargeDepth := 60) [SameBut, SameLists, *]; done)
    | (rename_i e; have e := congrArg Prod.snd e; dsimp only at e; subst e)
    | split
    | (refine keeps_foldl (fun _ _ _ => ?_) ?_)
    | dsimp only

@[simp ↓] theorem launch_keeps (port kind p : Nat) (l : List RingChar) (s : State) {A : Part → Bool} {r0 : State} (h_s : Keeps A r0 s)
    (p_ring : A .ring = true := by first | assumption | rfl) (p_pair : A .pair = true := by first | assumption | rfl)
    (p_tally : A .tally = true := by first | assumption | rfl) (p_inject : A .inject = true := by first | assumption | rfl)
    : Keeps A r0 (launch port kind p l s) := by
  unfold launch
  repeat' first
    | (simp +contextual (maxDischargeDepth := 60) [SameBut, SameLists, *]; done)
    | (rename_i e; have e := congrArg Prod.snd e; dsimp only at e; subst e)
    | split
    | (refine keeps_foldl (fun _ _ _ => ?_) ?_)
    | dsimp only

@[simp ↓] theorem launchAll_keeps (port : Nat) (cmds : List RingCmd) (s : State) {A : Part → Bool} {r0 : State} (h_s : Keeps A r0 s)
    (p_ring : A .ring = true := by first | assumption | rfl) (p_pair : A .pair = true := by first | assumption | rfl)
    (p_tally : A .tally = true := by first | assumption | rfl) (p_inject : A .inject = true := by first | assumption | rfl)
    : Keeps A r0 (launchAll port cmds s) := by
  unfold launchAll
  repeat' first
    | (simp +contextual (maxDischargeDepth := 60) [SameBut, SameLists, *]; done)
    | (rename_i e; have e := congrArg Prod.snd e; dsimp only at e; subst e)
    | split
    | (refine keeps_foldl (fun _ _ _ => ?_) ?_)
    | dsimp only

/-! ### Ring -/

@[simp ↓] theorem declareBreak_keeps (late : Bool) (s : State) {A : Part → Bool} {r0 : State} (h_s : Keeps A r0 s)
    (p_ring : A .ring = true := by first | assumption | rfl)
    (p_ranger : A .ranger = true := by first | assumption | rfl) : Keeps A r0 (declareBreak late s) := by simp (maxDischargeDepth := 60) [declareBreak, SameBut, SameLists, *]

@[simp ↓] theorem execLosDeclared_keeps (port code disparity : Nat) (late : Bool) (s : State) {A : Part → Bool} {r0 : State} (h_s : Keeps A r0 s) (p_ring : A .ring = true := by first | assumption | rfl)
    (p_ranger : A .ranger = true := by first | assumption | rfl) : OutKeeps A r0 (execLosDeclared port code disparity late s) := by simp (maxDischargeDepth := 60) [execLosDeclared, SameBut, SameLists, *]

@[simp ↓] theorem execLosCleared_keeps (port : Nat) (s : State) {A : Part → Bool} {r0 : State} (h_s : Keeps A r0 s)
    (p_ring : A .ring = true := by first | assumption | rfl)
    (p_ranger : A .ranger = true := by first | assumption | rfl) : OutKeeps A r0 (execLosCleared port s) := by simp (maxDischargeDepth := 60) [execLosCleared, SameBut, SameLists, *]

@[simp ↓] theorem execSyncNotReturned_keeps (port : Nat) (late : Bool) (s : State) {A : Part → Bool} {r0 : State} (h_s : Keeps A r0 s)
    (p_ring : A .ring = true := by first | assumption | rfl)
    (p_ranger : A .ranger = true := by first | assumption | rfl) : OutKeeps A r0 (execSyncNotReturned port late s) := by simp (maxDischargeDepth := 60) [execSyncNotReturned, SameBut, SameLists, *]

@[simp ↓] theorem execBreakNotice_keeps (late : Bool) (s : State) {A : Part → Bool} {r0 : State} (h_s : Keeps A r0 s)
    (p_ring : A .ring = true := by first | assumption | rfl)
    (p_ranger : A .ranger = true := by first | assumption | rfl) : OutKeeps A r0 (execBreakNotice late s) := by simp (maxDischargeDepth := 60) [execBreakNotice, SameBut, SameLists, *]

@[simp ↓] theorem execHeadUnreachable_keeps (p : Nat) (s : State) {A : Part → Bool} {r0 : State} (h_s : Keeps A r0 s)
    (p_ring : A .ring = true := by first | assumption | rfl) (p_heads : A .heads = true := by first | assumption | rfl) (p_fe : A .fe = true := by first | assumption | rfl)
    (p_fb : A .fb = true := by first | assumption | rfl)
    (p_ranger : A .ranger = true := by first | assumption | rfl) : OutKeeps A r0 (execHeadUnreachable p s) := by simp (maxDischargeDepth := 60) [execHeadUnreachable, SameBut, SameLists, *]

@[simp ↓] theorem tryUnwrap_keeps (s : State) {A : Part → Bool} {r0 : State} (h_s : Keeps A r0 s)
    (p_ring : A .ring = true := by first | assumption | rfl) : Keeps A r0 (tryUnwrap s) := by simp (maxDischargeDepth := 60) [tryUnwrap, SameBut, SameLists, *]

@[simp ↓] theorem execFarSideRestored_keeps (far : FarSide) (s : State) {A : Part → Bool} {r0 : State} (h_s : Keeps A r0 s)
    (p_ring : A .ring = true := by first | assumption | rfl) (p_heads : A .heads = true := by first | assumption | rfl)
    : OutKeeps A r0 (execFarSideRestored far s) := by simp (maxDischargeDepth := 60) [execFarSideRestored, SameBut, SameLists, *]

@[simp ↓] theorem ackUnwrap_keeps (p : Nat) (sent : Cycle) (s : State) {A : Part → Bool} {r0 : State} (h_s : Keeps A r0 s)
    (p_ring : A .ring = true := by first | assumption | rfl) : Keeps A r0 (ackUnwrap p sent s) := by simp [ackUnwrap, SameBut, SameLists, *]

@[simp ↓] theorem learnHop_keeps (s : State) {A : Part → Bool} {r0 : State} (h_s : Keeps A r0 s)
    (p_ring : A .ring = true := by first | assumption | rfl) (p_heads : A .heads = true := by first | assumption | rfl) : Keeps A r0 (learnHop s) := by
  unfold learnHop
  repeat' first
    | (simp +contextual (maxDischargeDepth := 60) [SameBut, SameLists, *]; done)
    | (rename_i e; have e := congrArg Prod.snd e; dsimp only at e; subst e)
    | split
    | (refine keeps_foldl (fun _ _ _ => ?_) ?_)
    | dsimp only

@[simp ↓] theorem closeRing_keeps (s : State) {A : Part → Bool} {r0 : State} (h_s : Keeps A r0 s)
    (p_ring : A .ring = true := by first | assumption | rfl) (p_heads : A .heads = true := by first | assumption | rfl)
    (p_cruiser : A .cruiser = true := by first | assumption | rfl) (p_ranger : A .ranger = true := by first | assumption | rfl)
    : Keeps A r0 (closeRing s) := by
  unfold closeRing
  extract_lets s1 l r2 s2 near c3 s3 s4 r5 s5 s6
  have h1 : Keeps A r0 s1 := by simp [s1, *]
  have h2 : Keeps A r0 s2 := by simp (maxDischargeDepth := 60) [SameBut, SameLists, s2, h1, *]
  have h3 : Keeps A r0 s3 := by simp (maxDischargeDepth := 60) [SameBut, SameLists, s3, h2, *]
  have h4 : Keeps A r0 s4 := by simp (maxDischargeDepth := 60) [s4, h3, *]
  have h5 : Keeps A r0 s5 := by simp (maxDischargeDepth := 60) [SameBut, SameLists, s5, h4, *]
  have h6 : Keeps A r0 s6 := by simp (maxDischargeDepth := 60) [s6, h5, *]
  split
  · simp (maxDischargeDepth := 60) [SameBut, SameLists, h6, *]
  · exact h6

@[simp ↓] theorem assignAfterBreak_keeps (s : State) {A : Part → Bool} {r0 : State} (h_s : Keeps A r0 s)
    (p_ring : A .ring = true := by first | assumption | rfl) (p_heads : A .heads = true := by first | assumption | rfl)
    (p_cruiser : A .cruiser = true := by first | assumption | rfl) : Keeps A r0 (assignAfterBreak s) := by
  unfold assignAfterBreak
  repeat' first
    | (simp +contextual (maxDischargeDepth := 60) [SameBut, SameLists, *]; done)
    | (rename_i e; have e := congrArg Prod.snd e; dsimp only at e; subst e)
    | split
    | (refine keeps_foldl (fun _ _ _ => ?_) ?_)
    | dsimp only

@[simp ↓] theorem segmentTransits_keeps (s : State) {A : Part → Bool} {r0 : State} (h_s : Keeps A r0 s)
    (p_ring : A .ring = true := by first | assumption | rfl) : Keeps A r0 (segmentTransits s) := by simp [segmentTransits, SameBut, SameLists, *]

@[simp ↓] theorem switchBank_keeps (next : Cycle) (s : State) {A : Part → Bool} {r0 : State} (h_s : Keeps A r0 s)
    (p_ring : A .ring = true := by first | assumption | rfl) (p_heads : A .heads = true := by first | assumption | rfl) (p_cruiser : A .cruiser = true := by first | assumption | rfl)
    (p_ranger : A .ranger = true := by first | assumption | rfl) : Keeps A r0 (switchBank next s) := by
  unfold switchBank
  simp +contextual (maxDischargeDepth := 60) [SameBut, SameLists, *]

@[simp ↓] theorem startEnumeration_keeps (s : State) {A : Part → Bool} {r0 : State} (h_s : Keeps A r0 s)
    (p_ring : A .ring = true := by first | assumption | rfl) : Keeps A r0 (startEnumeration s) := by simp [startEnumeration, SameBut, SameLists, *]

@[simp ↓] theorem loadHead_keeps (p from_ hop : Nat) (i : HeadIdent) (dW dE : Option Nat) (s : State) {A : Part → Bool} {r0 : State}
    (h_s : Keeps A r0 s) (p_ring : A .ring = true := by first | assumption | rfl) (p_heads : A .heads = true := by first | assumption | rfl)
    (p_pair : A .pair = true := by first | assumption | rfl) (p_tally : A .tally = true := by first | assumption | rfl)
    (p_inject : A .inject = true := by first | assumption | rfl) : Keeps A r0 (loadHead p from_ hop i dW dE s) := by
  unfold loadHead
  repeat' first
    | (simp +contextual (maxDischargeDepth := 60) [SameBut, SameLists, *]; done)
    | (rename_i e; have e := congrArg Prod.snd e; dsimp only at e; subst e)
    | split
    | (refine keeps_foldl (fun _ _ _ => ?_) ?_)
    | dsimp only

@[simp ↓] theorem configureHead_keeps (s : State) (p : Nat) {A : Part → Bool} {r0 : State} (h_s : Keeps A r0 s)
    (p_ring : A .ring = true := by first | assumption | rfl) : Keeps A r0 (configureHead s p) := by simp [configureHead, *]

@[simp ↓] theorem execEnumeration_keeps (near far : List HeadIdent) (closed : Bool) (endHop endPath : Nat) (s : State) {A : Part → Bool} {r0 : State}
    (h_s : Keeps A r0 s) (p_ring : A .ring = true := by first | assumption | rfl) (p_heads : A .heads = true := by first | assumption | rfl)
    (p_cruiser : A .cruiser = true := by first | assumption | rfl) (p_pair : A .pair = true := by first | assumption | rfl)
    (p_tally : A .tally = true := by first | assumption | rfl) (p_inject : A .inject = true := by first | assumption | rfl)
    : OutKeeps A r0 (execEnumeration near far closed endHop endPath s) := by
  unfold execEnumeration
  simp +contextual (maxDischargeDepth := 60) [SameBut, SameLists, *]

@[simp ↓] theorem headInserted_keeps (s : State) (p : Nat) {A : Part → Bool} {r0 : State} (h_s : Keeps A r0 s)
    (p_heads : A .heads = true := by first | assumption | rfl) (p_cells : A .cells = true := by first | assumption | rfl)
    (p_thin : A .thin = true := by first | assumption | rfl) : Keeps A r0 (headInserted s p) := by
  unfold headInserted
  simp +contextual (maxDischargeDepth := 60) [SameBut, SameLists, *]

@[simp ↓] theorem checkConfiguration_keeps (s : State) {A : Part → Bool} {r0 : State} (h_s : Keeps A r0 s)
    (p_ranger : A .ranger = true := by first | assumption | rfl) : Keeps A r0 (checkConfiguration s) := by simp [checkConfiguration, *]

@[simp ↓] theorem headNotFound_keeps (s : State) (p : Nat) {A : Part → Bool} {r0 : State} (h_s : Keeps A r0 s)
    (p_ring : A .ring = true := by first | assumption | rfl) (p_heads : A .heads = true := by first | assumption | rfl) (p_fe : A .fe = true := by first | assumption | rfl)
    (p_fb : A .fb = true := by first | assumption | rfl)
    (p_ranger : A .ranger = true := by first | assumption | rfl) : Keeps A r0 (headNotFound s p) := by simp (maxDischargeDepth := 60) [headNotFound, SameBut, SameLists, *]

@[simp ↓] theorem execEnumerationComplete_keeps (s : State) {A : Part → Bool} {r0 : State} (h_s : Keeps A r0 s)
    (p_ring : A .ring = true := by first | assumption | rfl) (p_heads : A .heads = true := by first | assumption | rfl) (p_fe : A .fe = true := by first | assumption | rfl)
    (p_cells : A .cells = true := by first | assumption | rfl) (p_thin : A .thin = true := by first | assumption | rfl) (p_fb : A .fb = true := by first | assumption | rfl)
    (p_ranger : A .ranger = true := by first | assumption | rfl) : OutKeeps A r0 (execEnumerationComplete s) := by
  unfold execEnumerationComplete
  simp +contextual (maxDischargeDepth := 60) [SameBut, SameLists, *]

@[simp ↓] theorem execHeadReadmission_keeps (p : Nat) (ident : HeadIdent) (s : State) {A : Part → Bool} {r0 : State} (h_s : Keeps A r0 s)
    (p_ring : A .ring = true := by first | assumption | rfl) (p_heads : A .heads = true := by first | assumption | rfl)
    (p_cells : A .cells = true := by first | assumption | rfl) (p_thin : A .thin = true := by first | assumption | rfl)
    (p_pair : A .pair = true := by first | assumption | rfl) (p_ranger : A .ranger = true := by first | assumption | rfl)
    (p_tally : A .tally = true := by first | assumption | rfl) (p_inject : A .inject = true := by first | assumption | rfl)
    : OutKeeps A r0 (execHeadReadmission p ident s) := by simp (maxDischargeDepth := 60) [execHeadReadmission, SameBut, SameLists, *]

@[simp ↓] theorem owAgain_keeps (p : Nat) (s : State) {A : Part → Bool} {r0 : State} (h_s : Keeps A r0 s)
    (p_ring : A .ring = true := by first | assumption | rfl) (p_heads : A .heads = true := by first | assumption | rfl) (p_tap : A .tap = true := by first | assumption | rfl)
    (p_thin : A .thin = true := by first | assumption | rfl) : Keeps A r0 (owAgain p s) := by
  unfold owAgain
  repeat' first
    | (simp +contextual (maxDischargeDepth := 60) [SameBut, SameLists, *]; done)
    | (rename_i e; have e := congrArg Prod.snd e; dsimp only at e; subst e)
    | split
    | (refine keeps_foldl (fun _ _ _ => ?_) ?_)
    | dsimp only

@[simp ↓] theorem swAgain_keeps (p : Nat) (s : State) {A : Part → Bool} {r0 : State} (h_s : Keeps A r0 s)
    (p_heads : A .heads = true := by first | assumption | rfl) (p_thin : A .thin = true := by first | assumption | rfl) : Keeps A r0 (swAgain p s) := by simp [swAgain, *]

@[simp ↓] theorem commandFailed_keeps (c : RingCmd) (inj : Bool) (s : State) {A : Part → Bool} {r0 : State} (h_s : Keeps A r0 s)
    (p_ring : A .ring = true := by first | assumption | rfl) (p_heads : A .heads = true := by first | assumption | rfl) (p_tap : A .tap = true := by first | assumption | rfl)
    (p_thin : A .thin = true := by first | assumption | rfl)
    (p_ranger : A .ranger = true := by first | assumption | rfl) : Keeps A r0 (commandFailed c inj s) := by simp (maxDischargeDepth := 60) [commandFailed, SameBut, SameLists, *]

@[simp ↓] theorem answerEffect_keeps (c : RingCmd) (r : HeadResponse) (s : State) {A : Part → Bool} {r0 : State} (h_s : Keeps A r0 s)
    (p_ring : A .ring = true := by first | assumption | rfl) (p_heads : A .heads = true := by first | assumption | rfl) (p_tap : A .tap = true := by first | assumption | rfl)
    (p_points : A .points = true := by first | assumption | rfl) (p_thin : A .thin = true := by first | assumption | rfl) : Keeps A r0 (answerEffect c r s) := by
  unfold answerEffect
  simp +contextual (maxDischargeDepth := 60) [SameBut, SameLists, *]

@[simp ↓] theorem takeAnswer_keeps (port seq addr : Nat) (answer : Option HeadResponse) (inj : Bool) (s : State) {A : Part → Bool} {r0 : State} (h_s : Keeps A r0 s)
    (p_ring : A .ring = true := by first | assumption | rfl) (p_heads : A .heads = true := by first | assumption | rfl) (p_tap : A .tap = true := by first | assumption | rfl)
    (p_points : A .points = true := by first | assumption | rfl) (p_thin : A .thin = true := by first | assumption | rfl)
    (p_ranger : A .ranger = true := by first | assumption | rfl) : Keeps A r0 (takeAnswer port seq addr answer inj s) := by
  unfold takeAnswer
  (repeat' split) <;> simp (maxDischargeDepth := 60) [SameBut, SameLists, *]

@[simp ↓] theorem unrecord_keeps (p : Nat) (s : State) {A : Part → Bool} {r0 : State} (h_s : Keeps A r0 s)
    (p_ring : A .ring = true := by first | assumption | rfl) : Keeps A r0 (unrecord p s) := by simp [unrecord, SameBut, SameLists, *]

@[simp ↓] theorem rerecord_keeps (port : Nat) (b : HeadBlock) (s : State) {A : Part → Bool} {r0 : State} (h_s : Keeps A r0 s)
    (p_ring : A .ring = true := by first | assumption | rfl) : Keeps A r0 (rerecord port b s) := by simp [rerecord, SameBut, SameLists, *]

@[simp ↓] theorem recordAnswer_keeps (port : Nat) (c : RingCmd) (answer : Option HeadResponse) (s : State) {A : Part → Bool} {r0 : State}
    (h_s : Keeps A r0 s) (p_ring : A .ring = true := by first | assumption | rfl) : Keeps A r0 (recordAnswer port c answer s) := by
  unfold recordAnswer
  repeat' first
    | (simp +contextual (maxDischargeDepth := 60) [SameBut, SameLists, *]; done)
    | (rename_i e; have e := congrArg Prod.snd e; dsimp only at e; subst e)
    | split
    | (refine keeps_foldl (fun _ _ _ => ?_) ?_)
    | dsimp only

@[simp ↓] theorem deliverHeld_keeps (s : State) (f : HeldFrame) {A : Part → Bool} {r0 : State} (h_s : Keeps A r0 s)
    (p_ring : A .ring = true := by first | assumption | rfl) (p_heads : A .heads = true := by first | assumption | rfl) (p_tap : A .tap = true := by first | assumption | rfl)
    (p_fe : A .fe = true := by first | assumption | rfl) (p_cells : A .cells = true := by first | assumption | rfl) (p_points : A .points = true := by first | assumption | rfl)
    (p_cruiser : A .cruiser = true := by first | assumption | rfl) (p_thin : A .thin = true := by first | assumption | rfl) (p_fb : A .fb = true := by first | assumption | rfl)
    (p_ranger : A .ranger = true := by first | assumption | rfl) : Keeps A r0 (deliverHeld s f) := by
  unfold deliverHeld
  split <;> simp (maxDischargeDepth := 60) [SameBut, SameLists, *]

@[simp ↓] theorem drillBlock_keeps (what : Injected) (port : Nat) (b : HeadBlock) (s : State) {A : Part → Bool} {r0 : State} (h_s : Keeps A r0 s) (p_ring : A .ring = true := by first | assumption | rfl)
    (p_heads : A .heads = true := by first | assumption | rfl) (p_tap : A .tap = true := by first | assumption | rfl) (p_fe : A .fe = true := by first | assumption | rfl)
    (p_cells : A .cells = true := by first | assumption | rfl) (p_points : A .points = true := by first | assumption | rfl) (p_cruiser : A .cruiser = true := by first | assumption | rfl)
    (p_thin : A .thin = true := by first | assumption | rfl) (p_fb : A .fb = true := by first | assumption | rfl) (p_ranger : A .ranger = true := by first | assumption | rfl)
    (p_inject : A .inject = true := by first | assumption | rfl) : Keeps A r0 (drillBlock what port b s) := by
  unfold drillBlock
  split <;> simp (maxDischargeDepth := 60) [SameBut, SameLists, *]

@[simp ↓] theorem execHeadBlockReceive_keeps (port : Nat) (blk : HeadBlock) (s : State) {A : Part → Bool} {r0 : State} (h : Keeps A r0 s)
    (p_ring : A .ring = true := by first | assumption | rfl) (p_heads : A .heads = true := by first | assumption | rfl) (p_tap : A .tap = true := by first | assumption | rfl)
    (p_fe : A .fe = true := by first | assumption | rfl) (p_cells : A .cells = true := by first | assumption | rfl) (p_points : A .points = true := by first | assumption | rfl)
    (p_cruiser : A .cruiser = true := by first | assumption | rfl) (p_thin : A .thin = true := by first | assumption | rfl) (p_fb : A .fb = true := by first | assumption | rfl)
    (p_pair : A .pair = true := by first | assumption | rfl) (p_ranger : A .ranger = true := by first | assumption | rfl) (p_tally : A .tally = true := by first | assumption | rfl)
    (p_inject : A .inject = true := by first | assumption | rfl) :
    OutKeeps A r0 (execHeadBlockReceive port blk s) := by
  unfold execHeadBlockReceive
  have h1 := injectFrame_keeps port 0 (s.ringFilter port 0 2 blk.p) s h
  generalize injectFrame port 0 (s.ringFilter port 0 2 blk.p) s = q at h1 ⊢
  obtain ⟨what, t⟩ := q
  dsimp only at h1 ⊢
  have h2 : Keeps A r0 (if what = .clean then t else t.count port 11 1) := by simp (maxDischargeDepth := 60) [SameBut, SameLists, h1, *]
  generalize (if what = .clean then t else t.count port 11 1) = u at h2 ⊢
  have h3 := dueFrames_keeps port u h2
  generalize dueFrames port u = q at h3 ⊢
  obtain ⟨due, v⟩ := q
  dsimp only at h3 ⊢
  refine outKeeps_next (keeps_foldl (fun _ _ hx => by simp (maxDischargeDepth := 60) [SameBut, SameLists, *]) ?_)
  split
  · simp (maxDischargeDepth := 60) [SameBut, SameLists, h3, *]
  · split <;> simp (maxDischargeDepth := 60) [SameBut, SameLists, h3, *]

@[simp ↓] theorem injectAnswer_keeps (what : Injected) (port seq addr : Nat) (answer : Option HeadResponse) (s : State) {A : Part → Bool} {r0 : State} (h_s : Keeps A r0 s)
    (p_ring : A .ring = true := by first | assumption | rfl) (p_heads : A .heads = true := by first | assumption | rfl) (p_tap : A .tap = true := by first | assumption | rfl)
    (p_points : A .points = true := by first | assumption | rfl) (p_thin : A .thin = true := by first | assumption | rfl) (p_ranger : A .ranger = true := by first | assumption | rfl)
    (p_inject : A .inject = true := by first | assumption | rfl) : Keeps A r0 (injectAnswer what port seq addr answer s) := by
  unfold injectAnswer
  split <;> simp (maxDischargeDepth := 60) [SameBut, SameLists, *]

@[simp ↓] theorem injectRelayed_keeps (what : Injected) (port : Nat) (c : RingCmd) (answer : Option HeadResponse) (s : State) {A : Part → Bool} {r0 : State}
    (h_s : Keeps A r0 s) (p_ring : A .ring = true := by first | assumption | rfl) (p_inject : A .inject = true := by first | assumption | rfl)
    : Keeps A r0 (injectRelayed what port c answer s) := by
  unfold injectRelayed
  repeat' first
    | (simp +contextual (maxDischargeDepth := 60) [SameBut, SameLists, *]; done)
    | (rename_i e; have e := congrArg Prod.snd e; dsimp only at e; subst e)
    | split
    | (refine keeps_foldl (fun _ _ _ => ?_) ?_)
    | dsimp only

@[simp ↓] theorem execCommandFrameReturn_keeps (port seq addr : Nat) (answer : Option HeadResponse) (relayed : Option RingCmd) (s : State) {A : Part → Bool} {r0 : State} (h_s : Keeps A r0 s)
    (p_ring : A .ring = true := by first | assumption | rfl) (p_heads : A .heads = true := by first | assumption | rfl) (p_tap : A .tap = true := by first | assumption | rfl)
    (p_fe : A .fe = true := by first | assumption | rfl) (p_cells : A .cells = true := by first | assumption | rfl) (p_points : A .points = true := by first | assumption | rfl)
    (p_cruiser : A .cruiser = true := by first | assumption | rfl) (p_thin : A .thin = true := by first | assumption | rfl) (p_fb : A .fb = true := by first | assumption | rfl)
    (p_pair : A .pair = true := by first | assumption | rfl) (p_ranger : A .ranger = true := by first | assumption | rfl) (p_tally : A .tally = true := by first | assumption | rfl)
    (p_inject : A .inject = true := by first | assumption | rfl) : OutKeeps A r0 (execCommandFrameReturn port seq addr answer relayed s) := by
  unfold execCommandFrameReturn
  repeat' first
    | (simp +contextual (maxDischargeDepth := 60) [SameBut, SameLists, *]; done)
    | (rename_i e; have e := congrArg Prod.snd e; dsimp only at e; subst e)
    | split
    | (refine keeps_foldl (fun _ _ _ => ?_) ?_)
    | dsimp only

@[simp ↓] theorem launchCommand_keeps (port : Nat) (s : State) (c : RingCmd) {A : Part → Bool} {r0 : State} (h_s : Keeps A r0 s)
    (p_ring : A .ring = true := by first | assumption | rfl) (p_heads : A .heads = true := by first | assumption | rfl)
    (p_tap : A .tap = true := by first | assumption | rfl) (p_fe : A .fe = true := by first | assumption | rfl)
    (p_cells : A .cells = true := by first | assumption | rfl) (p_points : A .points = true := by first | assumption | rfl)
    (p_cruiser : A .cruiser = true := by first | assumption | rfl) (p_thin : A .thin = true := by first | assumption | rfl)
    (p_fb : A .fb = true := by first | assumption | rfl) (p_pair : A .pair = true := by first | assumption | rfl)
    (p_ranger : A .ranger = true := by first | assumption | rfl) (p_tally : A .tally = true := by first | assumption | rfl)
    (p_inject : A .inject = true := by first | assumption | rfl) : Keeps A r0 (launchCommand port s c) := by
  unfold launchCommand
  repeat' first
    | (simp +contextual (maxDischargeDepth := 60) [SameBut, SameLists, *]; done)
    | (rename_i e; have e := congrArg Prod.snd e; dsimp only at e; subst e)
    | split
    | (refine keeps_foldl (fun _ _ _ => ?_) ?_)
    | dsimp only

@[simp ↓] theorem sendPart_keeps (port room : Nat) (s : State) {A : Part → Bool} {r0 : State} (h_s : Keeps A r0 s)
    (p_ring : A .ring = true := by first | assumption | rfl) (p_heads : A .heads = true := by first | assumption | rfl)
    (p_tap : A .tap = true := by first | assumption | rfl) (p_fe : A .fe = true := by first | assumption | rfl)
    (p_cells : A .cells = true := by first | assumption | rfl) (p_points : A .points = true := by first | assumption | rfl)
    (p_cruiser : A .cruiser = true := by first | assumption | rfl) (p_thin : A .thin = true := by first | assumption | rfl)
    (p_fb : A .fb = true := by first | assumption | rfl) (p_pair : A .pair = true := by first | assumption | rfl)
    (p_ranger : A .ranger = true := by first | assumption | rfl) (p_tally : A .tally = true := by first | assumption | rfl)
    (p_inject : A .inject = true := by first | assumption | rfl) : Keeps A r0 (sendPart port room s) := by
  unfold sendPart
  repeat' first
    | (simp +contextual (maxDischargeDepth := 60) [SameBut, SameLists, *]; done)
    | (rename_i e; have e := congrArg Prod.snd e; dsimp only at e; subst e)
    | split
    | (refine keeps_foldl (fun _ _ _ => ?_) ?_)
    | dsimp only

@[simp ↓] theorem idlePort_keeps (port : Nat) (s : State) {A : Part → Bool} {r0 : State} (h_s : Keeps A r0 s)
    (p_ring : A .ring = true := by first | assumption | rfl) : Keeps A r0 (idlePort port s) := by
  unfold idlePort
  repeat' first
    | (simp +contextual (maxDischargeDepth := 60) [SameBut, SameLists, *]; done)
    | (rename_i e; have e := congrArg Prod.snd e; dsimp only at e; subst e)
    | split
    | (refine keeps_foldl (fun _ _ _ => ?_) ?_)
    | dsimp only

@[simp ↓] theorem effUnwrapRelease_keeps (s : State) {A : Part → Bool} {r0 : State} (h_s : Keeps A r0 s)
    (p_ring : A .ring = true := by first | assumption | rfl)
    (p_ranger : A .ranger = true := by first | assumption | rfl) : Keeps A r0 (effUnwrapRelease s) := by simp (maxDischargeDepth := 60) [effUnwrapRelease, SameBut, SameLists, *]

@[simp ↓] theorem effCounterClear_keeps (port : Nat) (s : State) {A : Part → Bool} {r0 : State} (h_s : Keeps A r0 s)
    (p_ring : A .ring = true := by first | assumption | rfl) : Keeps A r0 (effCounterClear port s) := by simp [effCounterClear, SameBut, SameLists, *]

end Sys2Proof.Machine
end

