-- ==== Sys2Proof/Laws/Keeps5.lean ====
section
/-! SUPPORT. What the operations of Tap.lean, Firebreak.lean, Winch.lean, Clocks.lean, Links.lean keep (see Keeps.lean): no part beyond those named as hypotheses changes. -/

namespace Sys2Proof.Machine

set_option Elab.async false

open Sys2Proof

set_option linter.unusedSimpArgs false
set_option linter.unusedVariables false
set_option linter.tactic.unusedName false

/-! ### Tap -/

@[simp ↓] theorem execHeadSumMismatch_keeps (p : Nat) (s : State) {A : Part → Bool} {r0 : State} (h_s : Keeps A r0 s)
    (p_ring : A .ring = true := by first | assumption | rfl) (p_heads : A .heads = true := by first | assumption | rfl) (p_tap : A .tap = true := by first | assumption | rfl)
    (p_thin : A .thin = true := by first | assumption | rfl) (p_ranger : A .ranger = true := by first | assumption | rfl) : OutKeeps A r0 (execHeadSumMismatch p s) := by
  unfold execHeadSumMismatch
  simp +contextual (maxDischargeDepth := 60) [SameBut, SameLists, *]

@[simp ↓] theorem stringSum_keeps (s : State) {A : Part → Bool} {r0 : State} (h_s : Keeps A r0 s) (p_tap : A .tap = true := by first | assumption | rfl)
    (p_ranger : A .ranger = true := by first | assumption | rfl) : Keeps A r0 (stringSum s) := by
  unfold stringSum
  repeat' first
    | (simp +contextual (maxDischargeDepth := 60) [SameBut, SameLists, *]; done)
    | (rename_i e; have e := congrArg Prod.snd e; dsimp only at e; subst e)
    | split
    | (refine keeps_foldl (fun _ _ _ => ?_) ?_)
    | dsimp only

@[simp ↓] theorem execStringSumMismatch_keeps (s : State) {A : Part → Bool} {r0 : State} (h_s : Keeps A r0 s)
    (p_ranger : A .ranger = true := by first | assumption | rfl) : OutKeeps A r0 (execStringSumMismatch s) := by simp (maxDischargeDepth := 60) [execStringSumMismatch, SameBut, SameLists, *]

@[simp ↓] theorem execOpenWireTestSchedule_keeps (p : Nat) (s : State) {A : Part → Bool} {r0 : State} (h_s : Keeps A r0 s)
    (p_ring : A .ring = true := by first | assumption | rfl) (p_heads : A .heads = true := by first | assumption | rfl) (p_tap : A .tap = true := by first | assumption | rfl)
    (p_thin : A .thin = true := by first | assumption | rfl) : OutKeeps A r0 (execOpenWireTestSchedule p s) := by simp (maxDischargeDepth := 60) [execOpenWireTestSchedule, SameBut, SameLists, *]

@[simp ↓] theorem tapFlags_keeps (p tap : Nat) (s : State) {A : Part → Bool} {r0 : State} (h_s : Keeps A r0 s)
    (p_cells : A .cells = true := by first | assumption | rfl) : Keeps A r0 (tapFlags p tap s) := by
  unfold tapFlags
  simp +contextual (maxDischargeDepth := 60) [SameBut, SameLists, *]

@[simp ↓] theorem tapOpen_keeps (p tap : Nat) (inj : Bool) (s : State) {A : Part → Bool} {r0 : State} (h_s : Keeps A r0 s)
    (p_tap : A .tap = true := by first | assumption | rfl) (p_cells : A .cells = true := by first | assumption | rfl)
    (p_ranger : A .ranger = true := by first | assumption | rfl) : Keeps A r0 (tapOpen p tap inj s) := by simp (maxDischargeDepth := 60) [tapOpen, SameBut, SameLists, *]

@[simp ↓] theorem transient_keeps (p tap : Nat) (s : State) {A : Part → Bool} {r0 : State} (h_s : Keeps A r0 s)
    (p_tap : A .tap = true := by first | assumption | rfl)
    (p_ranger : A .ranger = true := by first | assumption | rfl) : Keeps A r0 (transient p tap s) := by simp (maxDischargeDepth := 60) [transient, SameBut, SameLists, *]

@[simp ↓] theorem tapIntact_keeps (p tap : Nat) (s : State) {A : Part → Bool} {r0 : State} (h_s : Keeps A r0 s)
    (p_tap : A .tap = true := by first | assumption | rfl) (p_cells : A .cells = true := by first | assumption | rfl)
    (p_ranger : A .ranger = true := by first | assumption | rfl) : Keeps A r0 (tapIntact p tap s) := by
  unfold tapIntact
  repeat' first
    | (simp +contextual (maxDischargeDepth := 60) [SameBut, SameLists, *]; done)
    | (rename_i e; have e := congrArg Prod.snd e; dsimp only at e; subst e)
    | split
    | (refine keeps_foldl (fun _ _ _ => ?_) ?_)
    | dsimp only

@[simp ↓] theorem classify_keeps (p tap : Nat) (d2 : Int) (inj : Bool) (s : State) {A : Part → Bool} {r0 : State} (h_s : Keeps A r0 s)
    (p_tap : A .tap = true := by first | assumption | rfl) (p_cells : A .cells = true := by first | assumption | rfl)
    (p_ranger : A .ranger = true := by first | assumption | rfl) : Keeps A r0 (classify p tap d2 inj s).2 := by
  unfold classify
  repeat' first
    | (simp +contextual (maxDischargeDepth := 60) [SameBut, SameLists, *]; done)
    | (rename_i e; have e := congrArg Prod.snd e; dsimp only at e; subst e)
    | split
    | (refine keeps_foldl (fun _ _ _ => ?_) ?_)
    | dsimp only

@[simp ↓] theorem nextOwTest_keeps (p : Nat) (e : OwEval) (s : State) {A : Part → Bool} {r0 : State} (h_s : Keeps A r0 s)
    (p_ring : A .ring = true := by first | assumption | rfl) (p_heads : A .heads = true := by first | assumption | rfl) (p_tap : A .tap = true := by first | assumption | rfl)
    (p_thin : A .thin = true := by first | assumption | rfl) : Keeps A r0 (nextOwTest p e s) := by
  unfold nextOwTest
  repeat' first
    | (simp +contextual (maxDischargeDepth := 60) [SameBut, SameLists, *]; done)
    | (rename_i e; have e := congrArg Prod.snd e; dsimp only at e; subst e)
    | split
    | (refine keeps_foldl (fun _ _ _ => ?_) ?_)
    | dsimp only

@[simp ↓] theorem execOpenWireEvaluation_keeps (p : Nat) (s : State) {A : Part → Bool} {r0 : State} (h_s : Keeps A r0 s)
    (p_ring : A .ring = true := by first | assumption | rfl) (p_heads : A .heads = true := by first | assumption | rfl) (p_tap : A .tap = true := by first | assumption | rfl)
    (p_cells : A .cells = true := by first | assumption | rfl) (p_thin : A .thin = true := by first | assumption | rfl)
    (p_ranger : A .ranger = true := by first | assumption | rfl) : OutKeeps A r0 (execOpenWireEvaluation p s) := by
  unfold execOpenWireEvaluation
  (repeat' split) <;> simp (maxDischargeDepth := 60) [SameBut, SameLists, *]

@[simp ↓] theorem execTapSuspicionTimeout_keeps (p tap : Nat) (s : State) {A : Part → Bool} {r0 : State} (h_s : Keeps A r0 s)
    (p_tap : A .tap = true := by first | assumption | rfl) (p_cells : A .cells = true := by first | assumption | rfl)
    (p_ranger : A .ranger = true := by first | assumption | rfl) : OutKeeps A r0 (execTapSuspicionTimeout p tap s) := by simp (maxDischargeDepth := 60) [execTapSuspicionTimeout, SameBut, SameLists, *]

@[simp ↓] theorem recurringEnds_keeps (s : State) {A : Part → Bool} {r0 : State} (h_s : Keeps A r0 s)
    (p_ranger : A .ranger = true := by first | assumption | rfl) : Keeps A r0 (recurringEnds s) := by
  unfold recurringEnds
  simp +contextual (maxDischargeDepth := 60) [SameBut, SameLists, *]

@[simp ↓] theorem effOwRequest_keeps (v : Nat) (s : State) {A : Part → Bool} {r0 : State} (h_s : Keeps A r0 s)
    (p_ring : A .ring = true := by first | assumption | rfl) (p_heads : A .heads = true := by first | assumption | rfl) (p_tap : A .tap = true := by first | assumption | rfl)
    (p_thin : A .thin = true := by first | assumption | rfl) : Keeps A r0 (effOwRequest v s) := by
  unfold effOwRequest
  simp +contextual (maxDischargeDepth := 60) [SameBut, SameLists, *]

@[simp ↓] theorem effSenseLostClear_keeps (v : Nat) (s : State) {A : Part → Bool} {r0 : State} (h_s : Keeps A r0 s)
    (p_tap : A .tap = true := by first | assumption | rfl) (p_cells : A .cells = true := by first | assumption | rfl)
    (p_ranger : A .ranger = true := by first | assumption | rfl) : Keeps A r0 (effSenseLostClear v s) := by simp (maxDischargeDepth := 60) [effSenseLostClear, SameBut, SameLists, *]

@[simp ↓] theorem effGateClear_keeps (p : Nat) (s : State) {A : Part → Bool} {r0 : State} (h_s : Keeps A r0 s)
    (p_heads : A .heads = true := by first | assumption | rfl) (p_tap : A .tap = true := by first | assumption | rfl) (p_thin : A .thin = true := by first | assumption | rfl)
    (p_ranger : A .ranger = true := by first | assumption | rfl) : Keeps A r0 (effGateClear p s) := by
  unfold effGateClear
  have h1 : Keeps A r0 ((s.setDiag p 1 false).clearOnce 0x018 0x37 2 (headTap p 0xFF)) := State.clearOnce_keeps _ _ _ _ _ (State.setDiag_keeps _ _ _ _ h_s)
  generalize (s.setDiag p 1 false).clearOnce 0x018 0x37 2 (headTap p 0xFF) = s1 at *
  exact State.modThin_keeps _ _ _ (keeps_tap h1 p_tap _)

/-! ### Firebreak -/

@[simp ↓] theorem execCellsUnmeasured_keeps (k : Nat) (s : State) {A : Part → Bool} {r0 : State} (h_s : Keeps A r0 s)
    (p_fe : A .fe = true := by first | assumption | rfl) (p_fb : A .fb = true := by first | assumption | rfl)
    (p_ranger : A .ranger = true := by first | assumption | rfl) : OutKeeps A r0 (execCellsUnmeasured k s) := by simp (maxDischargeDepth := 60) [execCellsUnmeasured, SameBut, SameLists, *]

@[simp ↓] theorem execTemperaturePointLost_keeps (n : Nat) (s : State) {A : Part → Bool} {r0 : State} (h_s : Keeps A r0 s)
    (p_fb : A .fb = true := by first | assumption | rfl)
    (p_ranger : A .ranger = true := by first | assumption | rfl) : OutKeeps A r0 (execTemperaturePointLost n s) := by simp (maxDischargeDepth := 60) [execTemperaturePointLost, SameBut, SameLists, *]

@[simp ↓] theorem execHeadTemperatureLost_keeps (p : Nat) (s : State) {A : Part → Bool} {r0 : State} (h_s : Keeps A r0 s)
    (p_fe : A .fe = true := by first | assumption | rfl) (p_fb : A .fb = true := by first | assumption | rfl)
    (p_ranger : A .ranger = true := by first | assumption | rfl) : OutKeeps A r0 (execHeadTemperatureLost p s) := by simp (maxDischargeDepth := 60) [execHeadTemperatureLost, SameBut, SameLists, *]

@[simp ↓] theorem execFirebreakCauseClear_keeps (bit cls val : Nat) (s : State) {A : Part → Bool} {r0 : State} (h_s : Keeps A r0 s)
    (p_ring : A .ring = true := by first | assumption | rfl) (p_heads : A .heads = true := by first | assumption | rfl) (p_fe : A .fe = true := by first | assumption | rfl)
    (p_fb : A .fb = true := by first | assumption | rfl)
    (p_ranger : A .ranger = true := by first | assumption | rfl) : OutKeeps A r0 (execFirebreakCauseClear bit cls val s) := by simp (maxDischargeDepth := 60) [execFirebreakCauseClear, SameBut, SameLists, *]

@[simp ↓] theorem tripRelease_keeps (us : Nat) (s : State) {A : Part → Bool} {r0 : State} (h_s : Keeps A r0 s)
    (p_fe : A .fe = true := by first | assumption | rfl)
    (p_fb : A .fb = true := by first | assumption | rfl) : Keeps A r0 (tripRelease us s) := by simp [tripRelease, SameBut, SameLists, *]

@[simp ↓] theorem overBreak_keeps (s : State) {A : Part → Bool} {r0 : State} (h_s : Keeps A r0 s) (p_fe : A .fe = true := by first | assumption | rfl)
    (p_ranger : A .ranger = true := by first | assumption | rfl) : Keeps A r0 (overBreak s) := by simp [overBreak, SameBut, SameLists, *]

@[simp ↓] theorem execBreakDecision_keeps (us : Nat) (s : State) {A : Part → Bool} {r0 : State} (h_s : Keeps A r0 s)
    (p_fe : A .fe = true := by first | assumption | rfl) (p_fb : A .fb = true := by first | assumption | rfl)
    (p_ranger : A .ranger = true := by first | assumption | rfl) : OutKeeps A r0 (execBreakDecision us s) := by simp (maxDischargeDepth := 60) [execBreakDecision, SameBut, SameLists, *]

@[simp ↓] theorem execBreakWaitExpiry_keeps (us : Nat) (s : State) {A : Part → Bool} {r0 : State} (h_s : Keeps A r0 s)
    (p_fe : A .fe = true := by first | assumption | rfl) (p_fb : A .fb = true := by first | assumption | rfl)
    (p_ranger : A .ranger = true := by first | assumption | rfl) : OutKeeps A r0 (execBreakWaitExpiry us s) := by simp (maxDischargeDepth := 60) [execBreakWaitExpiry, SameBut, SameLists, *]

@[simp ↓] theorem execHallComparatorTrip_keeps (s : State) {A : Part → Bool} {r0 : State} (h_s : Keeps A r0 s)
    (p_fe : A .fe = true := by first | assumption | rfl) (p_fb : A .fb = true := by first | assumption | rfl)
    (p_ranger : A .ranger = true := by first | assumption | rfl) : OutKeeps A r0 (execHallComparatorTrip s) := by simp (maxDischargeDepth := 60) [execHallComparatorTrip, SameBut, SameLists, *]

@[simp ↓] theorem interlock_keeps (s : State) {A : Part → Bool} {r0 : State} (h_s : Keeps A r0 s) (p_fb : A .fb = true := by first | assumption | rfl)
    (p_axes : A .axes = true := by first | assumption | rfl)
    (p_ranger : A .ranger = true := by first | assumption | rfl) : Keeps A r0 (interlock s) := by simp (maxDischargeDepth := 60) [interlock, SameBut, SameLists, *]

@[simp ↓] theorem i2tSample_keeps (s : State) {A : Part → Bool} {r0 : State} (h_s : Keeps A r0 s) (p_fe : A .fe = true := by first | assumption | rfl)
    (p_fb : A .fb = true := by first | assumption | rfl) (p_ranger : A .ranger = true := by first | assumption | rfl) : Keeps A r0 (i2tSample s) := by
  unfold i2tSample
  (repeat' split) <;> simp (maxDischargeDepth := 60) [SameBut, SameLists, *]

@[simp ↓] theorem compareSummaries_keeps (own other : Summary) (s : State) {A : Part → Bool} {r0 : State} (h_s : Keeps A r0 s)
    (p_fb : A .fb = true := by first | assumption | rfl)
    (p_ranger : A .ranger = true := by first | assumption | rfl) : Keeps A r0 (compareSummaries own other s) := by simp (maxDischargeDepth := 60) [compareSummaries, SameBut, SameLists, *]

@[simp ↓] theorem execProtectionSummaryCompare_keeps (partner : Option Summary) (s : State) {A : Part → Bool} {r0 : State} (h_s : Keeps A r0 s)
    (p_fb : A .fb = true := by first | assumption | rfl) (p_pair : A .pair = true := by first | assumption | rfl)
    (p_ranger : A .ranger = true := by first | assumption | rfl) : OutKeeps A r0 (execProtectionSummaryCompare partner s) := by
  unfold execProtectionSummaryCompare
  simp +contextual (maxDischargeDepth := 60) [SameBut, SameLists, *]

/-! ### Winch -/

@[simp ↓] theorem seeAxis_keeps (a : Nat) (now : AxisNow) (s : State) {A : Part → Bool} {r0 : State} (h_s : Keeps A r0 s)
    (p_axes : A .axes = true := by first | assumption | rfl) : Keeps A r0 (seeAxis a now s) := by simp [seeAxis, *]

@[simp ↓] theorem seeLag_keeps (a : Nat) (s : State) {A : Part → Bool} {r0 : State} (h_s : Keeps A r0 s)
    (p_axes : A .axes = true := by first | assumption | rfl) : Keeps A r0 (seeLag a s) := by
  unfold seeLag
  split <;> simp (maxDischargeDepth := 60) [SameBut, SameLists, *]

@[simp ↓] theorem execAxisTargetChange_keeps (a : Nat) (now : AxisNow) (s : State) {A : Part → Bool} {r0 : State} (h_s : Keeps A r0 s)
    (p_axes : A .axes = true := by first | assumption | rfl) : OutKeeps A r0 (execAxisTargetChange a now s) := by
  unfold execAxisTargetChange
  repeat' first
    | (simp +contextual (maxDischargeDepth := 60) [SameBut, SameLists, *]; done)
    | (rename_i e; have e := congrArg Prod.snd e; dsimp only at e; subst e)
    | split
    | (refine keeps_foldl (fun _ _ _ => ?_) ?_)
    | dsimp only

@[simp ↓] theorem execStandstillDelay_keeps (a : Nat) (s : State) {A : Part → Bool} {r0 : State} (h_s : Keeps A r0 s)
    (p_axes : A .axes = true := by first | assumption | rfl) : OutKeeps A r0 (execStandstillDelay a s) := by simp (maxDischargeDepth := 60) [execStandstillDelay, SameBut, SameLists, *]

@[simp ↓] theorem execChopperFallBack_keeps (a fails : Nat) (s : State) {A : Part → Bool} {r0 : State} (h_s : Keeps A r0 s)
    (p_axes : A .axes = true := by first | assumption | rfl) (p_ranger : A .ranger = true := by first | assumption | rfl) (p_tally : A .tally = true := by first | assumption | rfl)
    (p_storage : A .storage = true := by first | assumption | rfl)
    (p_update : A .update = true := by first | assumption | rfl) : OutKeeps A r0 (execChopperFallBack a fails s) := by simp (maxDischargeDepth := 60) [execChopperFallBack, SameBut, SameLists, *]

@[simp ↓] theorem effChopperRestore_keeps (a : Nat) (s : State) {A : Part → Bool} {r0 : State} (h_s : Keeps A r0 s)
    (p_axes : A .axes = true := by first | assumption | rfl) (p_ranger : A .ranger = true := by first | assumption | rfl) (p_storage : A .storage = true := by first | assumption | rfl)
    (p_update : A .update = true := by first | assumption | rfl) : Keeps A r0 (effChopperRestore a s) := by simp [effChopperRestore, *]

@[simp ↓] theorem startHoming_keeps (a : Nat) (s : State) {A : Part → Bool} {r0 : State} (h_s : Keeps A r0 s)
    (p_axes : A .axes = true := by first | assumption | rfl)
    (p_ranger : A .ranger = true := by first | assumption | rfl) : Keeps A r0 (startHoming a s) := by simp (maxDischargeDepth := 60) [startHoming, SameBut, SameLists, *]

@[simp ↓] theorem homingFault_keeps (a result : Nat) (hard : Bool) (s : State) {A : Part → Bool} {r0 : State} (h_s : Keeps A r0 s)
    (p_axes : A .axes = true := by first | assumption | rfl)
    (p_ranger : A .ranger = true := by first | assumption | rfl) : Keeps A r0 (homingFault a result hard s) := by simp (maxDischargeDepth := 60) [homingFault, SameBut, SameLists, *]

@[simp ↓] theorem abortHoming_keeps (a : Nat) (s : State) {A : Part → Bool} {r0 : State} (h_s : Keeps A r0 s)
    (p_axes : A .axes = true := by first | assumption | rfl) : Keeps A r0 (abortHoming a s) := by simp (maxDischargeDepth := 60) [abortHoming, SameBut, SameLists, *]

@[simp ↓] theorem homedAt_keeps (a : Nat) (latched : Int) (s : State) {A : Part → Bool} {r0 : State} (h_s : Keeps A r0 s)
    (p_axes : A .axes = true := by first | assumption | rfl)
    (p_ranger : A .ranger = true := by first | assumption | rfl) : Keeps A r0 (homedAt a latched s) := by simp (maxDischargeDepth := 60) [homedAt, SameBut, SameLists, *]

@[simp ↓] theorem homingSwitch_keeps (a input : Nat) (latched : Int) (s : State) {A : Part → Bool} {r0 : State} (h_s : Keeps A r0 s)
    (p_axes : A .axes = true := by first | assumption | rfl) (p_ranger : A .ranger = true := by first | assumption | rfl) : Keeps A r0 (homingSwitch a input latched s) := by
  unfold homingSwitch
  repeat' first
    | (simp +contextual (maxDischargeDepth := 60) [SameBut, SameLists, *]; done)
    | (rename_i e; have e := congrArg Prod.snd e; dsimp only at e; subst e)
    | split
    | (refine keeps_foldl (fun _ _ _ => ?_) ?_)
    | dsimp only

@[simp ↓] theorem execStepLoss_keeps (a : Nat) (now : AxisNow) (s : State) {A : Part → Bool} {r0 : State} (h_s : Keeps A r0 s)
    (p_axes : A .axes = true := by first | assumption | rfl)
    (p_ranger : A .ranger = true := by first | assumption | rfl) : OutKeeps A r0 (execStepLoss a now s) := by simp (maxDischargeDepth := 60) [execStepLoss, SameBut, SameLists, *]

@[simp ↓] theorem execGearingLag_keeps (a : Nat) (now : AxisNow) (s : State) {A : Part → Bool} {r0 : State} (h_s : Keeps A r0 s)
    (p_axes : A .axes = true := by first | assumption | rfl)
    (p_ranger : A .ranger = true := by first | assumption | rfl) : OutKeeps A r0 (execGearingLag a now s) := by simp (maxDischargeDepth := 60) [execGearingLag, SameBut, SameLists, *]

@[simp ↓] theorem switchActive_keeps (a input : Nat) (s : State) {A : Part → Bool} {r0 : State} (h_s : Keeps A r0 s)
    (p_axes : A .axes = true := by first | assumption | rfl)
    (p_ranger : A .ranger = true := by first | assumption | rfl) : Keeps A r0 (switchActive a input s) := by simp (maxDischargeDepth := 60) [switchActive, SameBut, SameLists, *]

@[simp ↓] theorem bothSwitches_keeps (s : State) {A : Part → Bool} {r0 : State} (h_s : Keeps A r0 s) (p_axes : A .axes = true := by first | assumption | rfl)
    (p_ranger : A .ranger = true := by first | assumption | rfl) : Keeps A r0 (bothSwitches s) := by simp (maxDischargeDepth := 60) [bothSwitches, SameBut, SameLists, *]

@[simp ↓] theorem switchFaultClear_keeps (s : State) {A : Part → Bool} {r0 : State} (h_s : Keeps A r0 s)
    (p_ranger : A .ranger = true := by first | assumption | rfl) : Keeps A r0 (switchFaultClear s) := by simp [switchFaultClear, *]

@[simp ↓] theorem execSwitchEdge_keeps (a input : Nat) (level : Bool) (latched : Int) (edges : Nat) (now : AxisNow) (s : State) {A : Part → Bool} {r0 : State} (h_s : Keeps A r0 s)
    (p_axes : A .axes = true := by first | assumption | rfl)
    (p_ranger : A .ranger = true := by first | assumption | rfl) : OutKeeps A r0 (execSwitchEdge a input level latched edges now s) := by simp (maxDischargeDepth := 60) [execSwitchEdge, SameBut, SameLists, *]

@[simp ↓] theorem resumeWaiting_keeps (s : State) {A : Part → Bool} {r0 : State} (h_s : Keeps A r0 s)
    (p_axes : A .axes = true := by first | assumption | rfl) : Keeps A r0 (resumeWaiting s) := by
  unfold resumeWaiting
  simp +contextual (maxDischargeDepth := 60) [SameBut, SameLists, *]

@[simp ↓] theorem homingStop_keeps (a : Nat) (reached : Bool) (s : State) {A : Part → Bool} {r0 : State} (h_s : Keeps A r0 s)
    (p_axes : A .axes = true := by first | assumption | rfl) (p_ranger : A .ranger = true := by first | assumption | rfl) : Keeps A r0 (homingStop a reached s) := by
  unfold homingStop
  repeat' first
    | (simp +contextual (maxDischargeDepth := 60) [SameBut, SameLists, *]; done)
    | (rename_i e; have e := congrArg Prod.snd e; dsimp only at e; subst e)
    | split
    | (refine keeps_foldl (fun _ _ _ => ?_) ?_)
    | dsimp only

@[simp ↓] theorem execMoveComplete_keeps (a : Nat) (now : AxisNow) (s : State) {A : Part → Bool} {r0 : State} (h_s : Keeps A r0 s)
    (p_axes : A .axes = true := by first | assumption | rfl)
    (p_ranger : A .ranger = true := by first | assumption | rfl) : OutKeeps A r0 (execMoveComplete a now s) := by simp (maxDischargeDepth := 60) [execMoveComplete, SameBut, SameLists, *]

@[simp ↓] theorem moveDisc_keeps (close : Bool) (s : State) {A : Part → Bool} {r0 : State} (h_s : Keeps A r0 s)
    (p_axes : A .axes = true := by first | assumption | rfl)
    (p_ranger : A .ranger = true := by first | assumption | rfl) : Keeps A r0 (moveDisc close s) := by simp (maxDischargeDepth := 60) [moveDisc, SameBut, SameLists, *]

@[simp ↓] theorem stopDisc_keeps (s : State) {A : Part → Bool} {r0 : State} (h_s : Keeps A r0 s)
    (p_axes : A .axes = true := by first | assumption | rfl) : Keeps A r0 (stopDisc s) := by simp [stopDisc, *]

@[simp ↓] theorem execTravelTimeout_keeps (s : State) {A : Part → Bool} {r0 : State} (h_s : Keeps A r0 s)
    (p_axes : A .axes = true := by first | assumption | rfl)
    (p_ranger : A .ranger = true := by first | assumption | rfl) : OutKeeps A r0 (execTravelTimeout s) := by simp (maxDischargeDepth := 60) [execTravelTimeout, SameBut, SameLists, *]

@[simp ↓] theorem effManual_keeps (a : Nat) (v : Int) (s : State) {A : Part → Bool} {r0 : State} (h_s : Keeps A r0 s)
    (p_axes : A .axes = true := by first | assumption | rfl) : Keeps A r0 (effManual a v s) := by simp [effManual, *]

@[simp ↓] theorem motionToBackup_keeps (s : State) {A : Part → Bool} {r0 : State} (h_s : Keeps A r0 s)
    (p_axes : A .axes = true := by first | assumption | rfl) (p_ranger : A .ranger = true := by first | assumption | rfl) : Keeps A r0 (motionToBackup s) := by
  unfold motionToBackup
  simp +contextual (maxDischargeDepth := 60) [SameBut, SameLists, *]

@[simp ↓] theorem motionFromBackup_keeps (s : State) {A : Part → Bool} {r0 : State} (h_s : Keeps A r0 s)
    (p_axes : A .axes = true := by first | assumption | rfl) (p_ranger : A .ranger = true := by first | assumption | rfl) : Keeps A r0 (motionFromBackup s) := by
  unfold motionFromBackup
  simp +contextual (maxDischargeDepth := 60) [SameBut, SameLists, *]

@[simp ↓] theorem axisModeChanged_keeps (a : Nat) (s : State) {A : Part → Bool} {r0 : State} (h_s : Keeps A r0 s)
    (p_axes : A .axes = true := by first | assumption | rfl)
    (p_ranger : A .ranger = true := by first | assumption | rfl) : Keeps A r0 (axisModeChanged a s) := by simp (maxDischargeDepth := 60) [axisModeChanged, SameBut, SameLists, *]

/-! ### Clocks -/

@[simp ↓] theorem State.modPulse_keeps (s : State) (o : Nat) (f : Pulse → Pulse) {A : Part → Bool} {r0 : State} (h_s : Keeps A r0 s)
    (p_links : A .links = true := by first | assumption | rfl) : Keeps A r0 (State.modPulse s o f) := by simp [State.modPulse, SameBut, SameLists, *]

@[simp ↓] theorem schedulePulse_keeps (o : Nat) (s : State) {A : Part → Bool} {r0 : State} (h_s : Keeps A r0 s)
    (p_links : A .links = true := by first | assumption | rfl) : Keeps A r0 (schedulePulse o s) := by simp [schedulePulse, *]

@[simp ↓] theorem stepPulse_keeps (s : State) (o : Nat) {A : Part → Bool} {r0 : State} (h_s : Keeps A r0 s)
    (p_links : A .links = true := by first | assumption | rfl) : Keeps A r0 (stepPulse s o) := by
  unfold stepPulse
  repeat' first
    | (simp +contextual (maxDischargeDepth := 60) [SameBut, SameLists, *]; done)
    | (rename_i e; have e := congrArg Prod.snd e; dsimp only at e; subst e)
    | split
    | (refine keeps_foldl (fun _ _ _ => ?_) ?_)
    | dsimp only

@[simp ↓] theorem stepTime_keeps (d : Int) (s : State) {A : Part → Bool} {r0 : State} (h_s : Keeps A r0 s)
    (p_links : A .links = true := by first | assumption | rfl) (p_clock : A .clock = true := by first | assumption | rfl)
    (p_sec : A .sec = true := by first | assumption | rfl) : Keeps A r0 (stepTime d s) := by
  unfold stepTime
  simp +contextual (maxDischargeDepth := 60) [SameBut, SameLists, *]

@[simp ↓] theorem putPulse_keeps (o : Nat) (s : State) (w : Nat × ObjVal) {A : Part → Bool} {r0 : State} (h_s : Keeps A r0 s)
    (p_dict : A .dict = true := by first | assumption | rfl) : Keeps A r0 (putPulse o s w) := by simp [putPulse, *]

@[simp ↓] theorem effPulse_keeps (o sub : Nat) (v : ObjVal) (s : State) {A : Part → Bool} {r0 : State} (h_s : Keeps A r0 s)
    (p_links : A .links = true := by first | assumption | rfl)
    (p_dict : A .dict = true := by first | assumption | rfl) : Keeps A r0 (effPulse o sub v s) := by simp (maxDischargeDepth := 60) [effPulse, SameBut, SameLists, *]

@[simp ↓] theorem execPulseEdge_keeps (o : Nat) (trailing : Bool) (s : State) {A : Part → Bool} {r0 : State} (h_s : Keeps A r0 s)
    (p_links : A .links = true := by first | assumption | rfl) (p_dict : A .dict = true := by first | assumption | rfl) : OutKeeps A r0 (execPulseEdge o trailing s) := by
  unfold execPulseEdge
  repeat' first
    | (simp +contextual (maxDischargeDepth := 60) [SameBut, SameLists, *]; done)
    | (rename_i e; have e := congrArg Prod.snd e; dsimp only at e; subst e)
    | split
    | (refine keeps_foldl (fun _ _ _ => ?_) ?_)
    | dsimp only

@[simp ↓] theorem setClock_keeps (st : ClockState) (s : State) {A : Part → Bool} {r0 : State} (h_s : Keeps A r0 s)
    (p_clock : A .clock = true := by first | assumption | rfl) : Keeps A r0 (setClock st s) := by simp [setClock, SameBut, SameLists, *]

@[simp ↓] theorem slew_keeps (s : State) {A : Part → Bool} {r0 : State} (h_s : Keeps A r0 s)
    (p_clock : A .clock = true := by first | assumption | rfl) : Keeps A r0 (slew s) := by simp [slew, SameBut, SameLists, *]

@[simp ↓] theorem applyOffset_keeps (off : Int) (s : State) {A : Part → Bool} {r0 : State} (h_s : Keeps A r0 s)
    (p_links : A .links = true := by first | assumption | rfl) (p_clock : A .clock = true := by first | assumption | rfl) (p_sec : A .sec = true := by first | assumption | rfl)
    (p_tally : A .tally = true := by first | assumption | rfl) : Keeps A r0 (applyOffset off s) := by
  unfold applyOffset
  repeat' first
    | (simp +contextual (maxDischargeDepth := 60) [SameBut, SameLists, *]; done)
    | (rename_i e; have e := congrArg Prod.snd e; dsimp only at e; subst e)
    | split
    | (refine keeps_foldl (fun _ _ _ => ?_) ?_)
    | dsimp only

@[simp ↓] theorem execOffsetMeasured_keeps (offset : Int) (s : State) {A : Part → Bool} {r0 : State} (h_s : Keeps A r0 s)
    (p_links : A .links = true := by first | assumption | rfl) (p_clock : A .clock = true := by first | assumption | rfl) (p_sec : A .sec = true := by first | assumption | rfl)
    (p_tally : A .tally = true := by first | assumption | rfl) : OutKeeps A r0 (execOffsetMeasured offset s) := by simp (maxDischargeDepth := 60) [execOffsetMeasured, SameBut, SameLists, *]

@[simp ↓] theorem execPpsInEdge_keeps (ns : Nat) (s : State) {A : Part → Bool} {r0 : State} (h_s : Keeps A r0 s)
    (p_links : A .links = true := by first | assumption | rfl) (p_clock : A .clock = true := by first | assumption | rfl) (p_sec : A .sec = true := by first | assumption | rfl)
    (p_tally : A .tally = true := by first | assumption | rfl) : OutKeeps A r0 (execPpsInEdge ns s) := by simp (maxDischargeDepth := 60) [execPpsInEdge, SameBut, SameLists, *]

@[simp ↓] theorem refollow_keeps (s : State) {A : Part → Bool} {r0 : State} (h_s : Keeps A r0 s)
    (p_clock : A .clock = true := by first | assumption | rfl) : Keeps A r0 (refollow s) := by simp (maxDischargeDepth := 60) [refollow, SameBut, SameLists, *]

@[simp ↓] theorem announceIn_keeps (p : Nat) (m : PtpMaster) (s : State) {A : Part → Bool} {r0 : State} (h_s : Keeps A r0 s)
    (p_links : A .links = true := by first | assumption | rfl)
    (p_clock : A .clock = true := by first | assumption | rfl) : Keeps A r0 (announceIn p m s) := by simp (maxDischargeDepth := 60) [announceIn, SameBut, SameLists, *]

@[simp ↓] theorem ptpIn_keeps (p domain : Nat) (m : PtpMsg) (s : State) {A : Part → Bool} {r0 : State} (h_s : Keeps A r0 s)
    (p_links : A .links = true := by first | assumption | rfl) (p_clock : A .clock = true := by first | assumption | rfl) : Keeps A r0 (ptpIn p domain m s) := by
  unfold ptpIn
  (repeat' split) <;> simp (maxDischargeDepth := 60) [SameBut, SameLists, *]

@[simp ↓] theorem execPtpMessageReceive_keeps (port : Nat) (s : State) {A : Part → Bool} {r0 : State} (h_s : Keeps A r0 s)
    (p_links : A .links = true := by first | assumption | rfl) (p_clock : A .clock = true := by first | assumption | rfl) : OutKeeps A r0 (execPtpMessageReceive port s) := by
  unfold execPtpMessageReceive
  split <;> simp (maxDischargeDepth := 60) [SameBut, SameLists, *]

@[simp ↓] theorem execAnnounceReceiptTimeout_keeps (port : Nat) (sync : Bool) (s : State) {A : Part → Bool} {r0 : State} (h_s : Keeps A r0 s)
    (p_links : A .links = true := by first | assumption | rfl)
    (p_clock : A .clock = true := by first | assumption | rfl) : OutKeeps A r0 (execAnnounceReceiptTimeout port sync s) := by simp (maxDischargeDepth := 60) [execAnnounceReceiptTimeout, SameBut, SameLists, *]

@[simp ↓] theorem execHoldoverExpiry_keeps (s : State) {A : Part → Bool} {r0 : State} (h_s : Keeps A r0 s)
    (p_clock : A .clock = true := by first | assumption | rfl) : OutKeeps A r0 (execHoldoverExpiry s) := by simp (maxDischargeDepth := 60) [execHoldoverExpiry, SameBut, SameLists, *]

@[simp ↓] theorem ptpInterval_keeps (s : State) (p : Nat) {A : Part → Bool} {r0 : State} (h_s : Keeps A r0 s)
    (p_links : A .links = true := by first | assumption | rfl) : Keeps A r0 (ptpInterval s p) := by simp (maxDischargeDepth := 60) [ptpInterval, SameBut, SameLists, *]

@[simp ↓] theorem execPtpMessageInterval_keeps (s : State) {A : Part → Bool} {r0 : State} (h_s : Keeps A r0 s)
    (p_links : A .links = true := by first | assumption | rfl) : OutKeeps A r0 (execPtpMessageInterval s) := by
  unfold execPtpMessageInterval
  simp +contextual (maxDischargeDepth := 60) [SameBut, SameLists, *]

@[simp ↓] theorem execTransmitTimeStamp_keeps (port sequence msgType sec ns : Nat) (s : State) {A : Part → Bool} {r0 : State} (h_s : Keeps A r0 s) (p_clock : A .clock = true := by first | assumption | rfl)
    (p_ranger : A .ranger = true := by first | assumption | rfl) : OutKeeps A r0 (execTransmitTimeStamp port sequence msgType sec ns s) := by simp (maxDischargeDepth := 60) [execTransmitTimeStamp, SameBut, SameLists, *]

@[simp ↓] theorem effOverflowClear_keeps (race : Bool) (s : State) {A : Part → Bool} {r0 : State} (h_s : Keeps A r0 s)
    (p_clock : A .clock = true := by first | assumption | rfl)
    (p_ranger : A .ranger = true := by first | assumption | rfl) : Keeps A r0 (effOverflowClear race s) := by simp (maxDischargeDepth := 60) [effOverflowClear, SameBut, SameLists, *]

@[simp ↓] theorem followUp_keeps (s : State) (t : TimeStamp) {A : Part → Bool} {r0 : State} (h_s : Keeps A r0 s)
    (p_links : A .links = true := by first | assumption | rfl) : Keeps A r0 (followUp s t) := by
  unfold followUp
  split <;> simp (maxDischargeDepth := 60) [SameBut, SameLists, *]

@[simp ↓] theorem drainQ26_keeps (s : State) {A : Part → Bool} {r0 : State} (h_s : Keeps A r0 s) (p_links : A .links = true := by first | assumption | rfl)
    (p_clock : A .clock = true := by first | assumption | rfl) : Keeps A r0 (drainQ26 s) := by
  unfold drainQ26
  simp +contextual (maxDischargeDepth := 60) [SameBut, SameLists, *]

@[simp ↓] theorem effTimeSource_keeps (v : Int) (s : State) {A : Part → Bool} {r0 : State} (h_s : Keeps A r0 s)
    (p_clock : A .clock = true := by first | assumption | rfl)
    (p_dict : A .dict = true := by first | assumption | rfl) : Keeps A r0 (effTimeSource v s) := by simp (maxDischargeDepth := 60) [effTimeSource, SameBut, SameLists, *]

@[simp ↓] theorem effLocalTime_keeps (b : Bytes) (s : State) {A : Part → Bool} {r0 : State} (h_s : Keeps A r0 s)
    (p_links : A .links = true := by first | assumption | rfl) (p_clock : A .clock = true := by first | assumption | rfl)
    (p_sec : A .sec = true := by first | assumption | rfl) : Keeps A r0 (effLocalTime b s) := by simp [effLocalTime, SameBut, SameLists, *]

@[simp ↓] theorem advanceTime_keeps (s : State) {A : Part → Bool} {r0 : State} (h_s : Keeps A r0 s) (p_clock : A .clock = true := by first | assumption | rfl)
    (p_sec : A .sec = true := by first | assumption | rfl) : Keeps A r0 (advanceTime s) := by simp [advanceTime, SameBut, SameLists, *]

@[simp ↓] theorem publishRelation_keeps (s : State) {A : Part → Bool} {r0 : State} (h_s : Keeps A r0 s)
    (p_clock : A .clock = true := by first | assumption | rfl) : Keeps A r0 (publishRelation s) := by simp [publishRelation, SameBut, SameLists, *]

/-! ### Links -/

@[simp ↓] theorem takeRequests_keeps (n : Nat) (l : List (Nat × Pdu)) (s : State) {A : Part → Bool} {r0 : State} (h : Keeps A r0 s)
    (p_dict : A .dict = true := by first | assumption | rfl) : Keeps A r0 (takeRequests n l s).2 := by
  induction l generalizing s with
  | nil => exact h
  | cons a t ih =>
    unfold takeRequests
    split
    · exact ih _ (by simp (maxDischargeDepth := 60) [SameBut, SameLists, h, *])
    · exact h

@[simp ↓] theorem pumpFrame_keeps (acc : List EthRx × State) (f : EthRx) {A : Part → Bool} {r0 : State} (h : Keeps A r0 acc.2)
    (p_dict : A .dict = true := by first | assumption | rfl) : Keeps A r0 (pumpFrame acc f).2 := by
  unfold pumpFrame
  split
  · split
    · exact takeRequests_keeps _ _ _ h
    · exact h
  · exact h

theorem foldl_pumpFrame_keeps (l : List EthRx) (acc : List EthRx × State) {A : Part → Bool} {r0 : State} (h : Keeps A r0 acc.2)
    (p_dict : A .dict = true := by first | assumption | rfl) : Keeps A r0 (l.foldl pumpFrame acc).2 := by
  induction l generalizing acc with
  | nil => exact h
  | cons a t ih => exact ih _ (pumpFrame_keeps acc a h)
@[simp ↓] theorem pumpPort_keeps (s : State) (p : Nat) {A : Part → Bool} {r0 : State} (h : Keeps A r0 s)
    (p_links : A .links = true := by first | assumption | rfl) (p_dict : A .dict = true := by first | assumption | rfl) : Keeps A r0 (pumpPort s p) := by
  unfold pumpPort
  have h1 := foldl_pumpFrame_keeps (s.eth p).rx ([], s) h
  generalize (s.eth p).rx.foldl pumpFrame ([], s) = q at h1 ⊢
  obtain ⟨l, t⟩ := q
  dsimp only at h1 ⊢
  simp (maxDischargeDepth := 60) [SameBut, SameLists, h1, *]

@[simp ↓] theorem deliverEth_keeps (p : Nat) (f : EthRx) (s : State) {A : Part → Bool} {r0 : State} (h_s : Keeps A r0 s)
    (p_links : A .links = true := by first | assumption | rfl) (p_dict : A .dict = true := by first | assumption | rfl) : Keeps A r0 (deliverEth p f s) := by
  unfold deliverEth
  split <;> simp (maxDischargeDepth := 60) [SameBut, SameLists, *]

@[simp ↓] theorem prpCheck_keeps (p : Nat) (f : EthRx) (s : State) {A : Part → Bool} {r0 : State} (h_s : Keeps A r0 s)
    (p_links : A .links = true := by first | assumption | rfl) : Keeps A r0 (prpCheck p f s).2 := by
  unfold prpCheck
  repeat' first
    | (simp +contextual (maxDischargeDepth := 60) [SameBut, SameLists, *]; done)
    | (rename_i e; have e := congrArg Prod.snd e; dsimp only at e; subst e)
    | split
    | (refine keeps_foldl (fun _ _ _ => ?_) ?_)
    | dsimp only

@[simp ↓] theorem deliverHeldEth_keeps (s : State) (f : HeldFrame) {A : Part → Bool} {r0 : State} (h_s : Keeps A r0 s)
    (p_links : A .links = true := by first | assumption | rfl) (p_dict : A .dict = true := by first | assumption | rfl) : Keeps A r0 (deliverHeldEth s f) := by
  unfold deliverHeldEth
  split <;> simp (maxDischargeDepth := 60) [SameBut, SameLists, *]

@[simp ↓] theorem execEthernetFrameReceive_keeps (port : Nat) (frame : EthRx) (s : State) {A : Part → Bool} {r0 : State} (h : Keeps A r0 s)
    (p_links : A .links = true := by first | assumption | rfl) (p_dict : A .dict = true := by first | assumption | rfl) (p_pair : A .pair = true := by first | assumption | rfl)
    (p_tally : A .tally = true := by first | assumption | rfl) (p_inject : A .inject = true := by first | assumption | rfl) :
    OutKeeps A r0 (execEthernetFrameReceive port frame s) := by
  unfold execEthernetFrameReceive
  split
  · simp (maxDischargeDepth := 60) [SameBut, SameLists, h, *]
  · split
    · simp (maxDischargeDepth := 60) [SameBut, SameLists, h, *]
    · have h1 := prpCheck_keeps port frame s h
      generalize prpCheck port frame s = q at h1 ⊢
      obtain ⟨fresh, t⟩ := q
      dsimp only at h1 ⊢
      split
      · simp (maxDischargeDepth := 60) [SameBut, SameLists, h1, *]
      · have h2 := injectFrame_keeps (2 + port) 0 (t.ethFilter port (ethKind frame.content)) t h1
        generalize injectFrame (2 + port) 0 (t.ethFilter port (ethKind frame.content)) t = q at h2 ⊢
        obtain ⟨what, u⟩ := q
        dsimp only at h2 ⊢
        have h3 := dueFrames_keeps (2 + port) u h2
        generalize dueFrames (2 + port) u = q at h3 ⊢
        obtain ⟨due, v⟩ := q
        dsimp only at h3 ⊢
        refine outKeeps_next (keeps_foldl (fun _ _ hx => by simp (maxDischargeDepth := 60) [SameBut, SameLists, *]) ?_)
        split <;> simp (maxDischargeDepth := 60) [SameBut, SameLists, h3, *]

@[simp ↓] theorem execLinkLoss_keeps (port : Nat) (s : State) {A : Part → Bool} {r0 : State} (h_s : Keeps A r0 s)
    (p_links : A .links = true := by first | assumption | rfl)
    (p_ranger : A .ranger = true := by first | assumption | rfl) : OutKeeps A r0 (execLinkLoss port s) := by simp (maxDischargeDepth := 60) [execLinkLoss, SameBut, SameLists, *]

@[simp ↓] theorem execEthernetLinkUp_keeps (port speed : Nat) (s : State) {A : Part → Bool} {r0 : State} (h_s : Keeps A r0 s)
    (p_links : A .links = true := by first | assumption | rfl)
    (p_ranger : A .ranger = true := by first | assumption | rfl) : OutKeeps A r0 (execEthernetLinkUp port speed s) := by simp (maxDischargeDepth := 60) [execEthernetLinkUp, SameBut, SameLists, *]

@[simp ↓] theorem execPrpSupervision_keeps (s : State) {A : Part → Bool} {r0 : State} (h_s : Keeps A r0 s)
    (p_links : A .links = true := by first | assumption | rfl) : OutKeeps A r0 (execPrpSupervision s) := by simp (maxDischargeDepth := 60) [execPrpSupervision, SameBut, SameLists, *]

@[simp ↓] theorem canCount_keeps (n o sub : Nat) (s : State) {A : Part → Bool} {r0 : State} (h_s : Keeps A r0 s)
    (p_links : A .links = true := by first | assumption | rfl) : Keeps A r0 (canCount n o sub s) := by simp [canCount, *]

@[simp ↓] theorem canEnqueue_keeps (n o : Nat) (f : CanRx) (s : State) {A : Part → Bool} {r0 : State} (h_s : Keeps A r0 s)
    (p_links : A .links = true := by first | assumption | rfl) : Keeps A r0 (canEnqueue n o f s) := by simp (maxDischargeDepth := 60) [canEnqueue, SameBut, SameLists, *]

@[simp ↓] theorem canTake_keeps (n : Nat) (f : CanRx) (s : State) {A : Part → Bool} {r0 : State} (h_s : Keeps A r0 s)
    (p_links : A .links = true := by first | assumption | rfl) (p_sec : A .sec = true := by first | assumption | rfl)
    (p_storage : A .storage = true := by first | assumption | rfl) : Keeps A r0 (canTake n f s) := by
  unfold canTake
  repeat' first
    | (simp +contextual (maxDischargeDepth := 60) [SameBut, SameLists, *]; done)
    | (rename_i e; have e := congrArg Prod.snd e; dsimp only at e; subst e)
    | split
    | (refine keeps_foldl (fun _ _ _ => ?_) ?_)
    | dsimp only

@[simp ↓] theorem deliverHeldCan_keeps (s : State) (f : HeldFrame) {A : Part → Bool} {r0 : State} (h_s : Keeps A r0 s)
    (p_links : A .links = true := by first | assumption | rfl) (p_sec : A .sec = true := by first | assumption | rfl)
    (p_storage : A .storage = true := by first | assumption | rfl) : Keeps A r0 (deliverHeldCan s f) := by
  unfold deliverHeldCan
  split <;> simp (maxDischargeDepth := 60) [SameBut, SameLists, *]

@[simp ↓] theorem recordFrame_keeps (n : Nat) (f : CanRx) (s : State) {A : Part → Bool} {r0 : State} (h_s : Keeps A r0 s)
    (p_pair : A .pair = true := by first | assumption | rfl) : Keeps A r0 (recordFrame n f s) := by simp (maxDischargeDepth := 60) [recordFrame, SameBut, SameLists, *]

@[simp ↓] theorem execCanFrameReceive_keeps (n : Nat) (frame : CanRx) (s : State) {A : Part → Bool} {r0 : State} (h_s : Keeps A r0 s)
    (p_links : A .links = true := by first | assumption | rfl) (p_sec : A .sec = true := by first | assumption | rfl) (p_pair : A .pair = true := by first | assumption | rfl)
    (p_tally : A .tally = true := by first | assumption | rfl) (p_inject : A .inject = true := by first | assumption | rfl)
    (p_storage : A .storage = true := by first | assumption | rfl) : OutKeeps A r0 (execCanFrameReceive n frame s) := by
  unfold execCanFrameReceive
  repeat' first
    | (simp +contextual (maxDischargeDepth := 60) [SameBut, SameLists, *]; done)
    | (rename_i e; have e := congrArg Prod.snd e; dsimp only at e; subst e)
    | split
    | (refine keeps_foldl (fun _ _ _ => ?_) ?_)
    | dsimp only

@[simp ↓] theorem canSentFrame_keeps (n : Nat) (f : CanFrame) (s : State) {A : Part → Bool} {r0 : State} (h_s : Keeps A r0 s)
    (p_sawyer : A .sawyer = true := by first | assumption | rfl) (p_links : A .links = true := by first | assumption | rfl)
    (p_ranger : A .ranger = true := by first | assumption | rfl) : Keeps A r0 (canSentFrame n f s) := by
  unfold canSentFrame
  extract_lets s1 s2
  have h1 : Keeps A r0 s1 := canCount_keeps _ _ _ _ (State.modCan_keeps _ _ _ h_s)
  have h2 : Keeps A r0 s2 := State.clearOnce_keeps _ _ _ _ _ h1
  clear_value s2
  split
  · exact frameSent_keeps _ (keeps_sawyer h2 p_sawyer _)
  · exact h2

@[simp ↓] theorem canRetry_keeps (n : Nat) (f : CanFrame) (failed : Bool) (s : State) {A : Part → Bool} {r0 : State} (h_s : Keeps A r0 s)
    (p_links : A .links = true := by first | assumption | rfl) : Keeps A r0 (canRetry n f failed s) := by simp (maxDischargeDepth := 60) [canRetry, SameBut, SameLists, *]

@[simp ↓] theorem canAckError_keeps (n : Nat) (s : State) {A : Part → Bool} {r0 : State} (h_s : Keeps A r0 s)
    (p_links : A .links = true := by first | assumption | rfl)
    (p_ranger : A .ranger = true := by first | assumption | rfl) : Keeps A r0 (canAckError n s) := by simp (maxDischargeDepth := 60) [canAckError, SameBut, SameLists, *]

@[simp ↓] theorem canFailed_keeps (n : Nat) (f : CanFrame) (noAck : Bool) (s : State) {A : Part → Bool} {r0 : State} (h_s : Keeps A r0 s)
    (p_links : A .links = true := by first | assumption | rfl)
    (p_ranger : A .ranger = true := by first | assumption | rfl) : Keeps A r0 (canFailed n f noAck s) := by simp (maxDischargeDepth := 60) [canFailed, SameBut, SameLists, *]

@[simp ↓] theorem execCanTransmitAttempt_keeps (n : Nat) (result : CanResult) (s : State) {A : Part → Bool} {r0 : State} (h_s : Keeps A r0 s)
    (p_sawyer : A .sawyer = true := by first | assumption | rfl) (p_links : A .links = true := by first | assumption | rfl) (p_pair : A .pair = true := by first | assumption | rfl)
    (p_ranger : A .ranger = true := by first | assumption | rfl) (p_tally : A .tally = true := by first | assumption | rfl)
    (p_inject : A .inject = true := by first | assumption | rfl) : OutKeeps A r0 (execCanTransmitAttempt n result s) := by
  unfold execCanTransmitAttempt
  repeat' first
    | (simp +contextual (maxDischargeDepth := 60) [SameBut, SameLists, *]; done)
    | (rename_i e; have e := congrArg Prod.snd e; dsimp only at e; subst e)
    | split
    | (refine keeps_foldl (fun _ _ _ => ?_) ?_)
    | dsimp only

@[simp ↓] theorem execBusOff_keeps (n : Nat) (s : State) {A : Part → Bool} {r0 : State} (h_s : Keeps A r0 s)
    (p_links : A .links = true := by first | assumption | rfl) (p_ranger : A .ranger = true := by first | assumption | rfl) : OutKeeps A r0 (execBusOff n s) := by
  unfold execBusOff
  simp +contextual (maxDischargeDepth := 60) [SameBut, SameLists, *]

@[simp ↓] theorem startRecovery_keeps (n : Nat) (s : State) {A : Part → Bool} {r0 : State} (h_s : Keeps A r0 s)
    (p_links : A .links = true := by first | assumption | rfl) : Keeps A r0 (startRecovery n s) := by simp [startRecovery, *]

@[simp ↓] theorem execBusOffRecoveryDelay_keeps (n : Nat) (s : State) {A : Part → Bool} {r0 : State} (h_s : Keeps A r0 s)
    (p_links : A .links = true := by first | assumption | rfl) : OutKeeps A r0 (execBusOffRecoveryDelay n s) := by simp (maxDischargeDepth := 60) [execBusOffRecoveryDelay, SameBut, SameLists, *]

@[simp ↓] theorem execBusOffRecoveryComplete_keeps (n : Nat) (s : State) {A : Part → Bool} {r0 : State} (h_s : Keeps A r0 s)
    (p_links : A .links = true := by first | assumption | rfl)
    (p_ranger : A .ranger = true := by first | assumption | rfl) : OutKeeps A r0 (execBusOffRecoveryComplete n s) := by simp (maxDischargeDepth := 60) [execBusOffRecoveryComplete, SameBut, SameLists, *]

@[simp ↓] theorem execRoleStrapChanged_keeps (s : State) {A : Part → Bool} {r0 : State} (h_s : Keeps A r0 s)
    (p_ranger : A .ranger = true := by first | assumption | rfl) : OutKeeps A r0 (execRoleStrapChanged s) := by simp (maxDischargeDepth := 60) [execRoleStrapChanged, SameBut, SameLists, *]

@[simp ↓] theorem canReplyFrame_keeps (n ch : Nat) (data : Bytes) (s : State) {A : Part → Bool} {r0 : State} (h_s : Keeps A r0 s)
    (p_links : A .links = true := by first | assumption | rfl) (p_sec : A .sec = true := by first | assumption | rfl)
    (p_storage : A .storage = true := by first | assumption | rfl) : Keeps A r0 (canReplyFrame n ch data s) := by simp [canReplyFrame, *]

end Sys2Proof.Machine
end

