-- ==== Sys2Proof/Laws/Keeps6.lean ====
section
/-! SUPPORT. What the operations of Boot.lean, Faults.lean, Power.lean keep (see Keeps.lean): no part beyond those named as hypotheses changes. -/

namespace Sys2Proof.Machine

set_option Elab.async false

open Sys2Proof

set_option linter.unusedSimpArgs false
set_option linter.unusedVariables false
set_option linter.tactic.unusedName false

/-! ### Boot -/

theorem bootBody_keeps (woken : Bool) (s : State) {A : Part → Bool} {r0 : State} (h : Keeps A r0 s) (p_core : A .core = true := by first | assumption | rfl)
    (p_ring : A .ring = true := by first | assumption | rfl) (p_heads : A .heads = true := by first | assumption | rfl) (p_tap : A .tap = true := by first | assumption | rfl)
    (p_fe : A .fe = true := by first | assumption | rfl) (p_cells : A .cells = true := by first | assumption | rfl) (p_points : A .points = true := by first | assumption | rfl)
    (p_scaler : A .scaler = true := by first | assumption | rfl) (p_cruiser : A .cruiser = true := by first | assumption | rfl) (p_borer : A .borer = true := by first | assumption | rfl)
    (p_thin : A .thin = true := by first | assumption | rfl) (p_fb : A .fb = true := by first | assumption | rfl) (p_sawyer : A .sawyer = true := by first | assumption | rfl)
    (p_canopy : A .canopy = true := by first | assumption | rfl) (p_axes : A .axes = true := by first | assumption | rfl) (p_links : A .links = true := by first | assumption | rfl)
    (p_clock : A .clock = true := by first | assumption | rfl) (p_dict : A .dict = true := by first | assumption | rfl) (p_sec : A .sec = true := by first | assumption | rfl)
    (p_pair : A .pair = true := by first | assumption | rfl) (p_ranger : A .ranger = true := by first | assumption | rfl) (p_tally : A .tally = true := by first | assumption | rfl)
    (p_inject : A .inject = true := by first | assumption | rfl) (p_power : A .power = true := by first | assumption | rfl) (p_lookout : A .lookout = true := by first | assumption | rfl)
    (p_storage : A .storage = true := by first | assumption | rfl) (p_update : A .update = true := by first | assumption | rfl)
    (p_seat : A .seat = true := by first | assumption | rfl) : Keeps A r0 { s with toBody := bootBody woken s } := by
  refine h.of_parts (by simp [SameBut, bootBody, *]) rfl rfl rfl fun c => ?_
  exact { q24 := Nat.zero_le _, active := Nat.zero_le _, last16 := c.last16, landing := Nat.zero_le _, checkpoints := c.checkpoints,
          images := Nat.zero_le _, rawBuf := Nat.zero_le _, sentFrames := Nat.zero_le _, keep := c.keep, circ := c.circ,
          q25 := by simp only [bootBody]; split <;> simp [c.q25] }

@[simp ↓] theorem latchAgain_keeps (s : State) {A : Part → Bool} {r0 : State} (h_s : Keeps A r0 s)
    (p_ranger : A .ranger = true := by first | assumption | rfl) : Keeps A r0 (latchAgain s) := by simp [latchAgain, *]

@[simp ↓] theorem startDomains_keeps (s : State) {A : Part → Bool} {r0 : State} (h_s : Keeps A r0 s) (p_ring : A .ring = true := by first | assumption | rfl)
    (p_links : A .links = true := by first | assumption | rfl) (p_dict : A .dict = true := by first | assumption | rfl) (p_sec : A .sec = true := by first | assumption | rfl)
    (p_pair : A .pair = true := by first | assumption | rfl) (p_ranger : A .ranger = true := by first | assumption | rfl) (p_tally : A .tally = true := by first | assumption | rfl)
    (p_power : A .power = true := by first | assumption | rfl) : Keeps A r0 (startDomains s) := by
  unfold startDomains
  simp +contextual (maxDischargeDepth := 60) [SameBut, SameLists, *]

@[simp ↓] theorem interruptedWrite_keeps (n : Nat) (s : State) {A : Part → Bool} {r0 : State} (h_s : Keeps A r0 s)
    (p_scaler : A .scaler = true := by first | assumption | rfl) (p_sec : A .sec = true := by first | assumption | rfl) (p_ranger : A .ranger = true := by first | assumption | rfl)
    (p_tally : A .tally = true := by first | assumption | rfl) (p_storage : A .storage = true := by first | assumption | rfl) : Keeps A r0 (interruptedWrite n s) := by
  unfold interruptedWrite
  split <;> simp (maxDischargeDepth := 60) [SameBut, SameLists, *]

@[simp ↓] theorem loadSlot_keeps (n : Nat) (b : Bytes) (s : State) {A : Part → Bool} {r0 : State} (h_s : Keeps A r0 s)
    (p_sec : A .sec = true := by first | assumption | rfl) (p_update : A .update = true := by first | assumption | rfl) : Keeps A r0 (loadSlot n b s) := by
  unfold loadSlot
  split <;> simp (maxDischargeDepth := 60) [SameBut, SameLists, *]

@[simp ↓] theorem skipUnread_keeps (n : Nat) (s : State) {A : Part → Bool} {r0 : State} (h_s : Keeps A r0 s)
    (p_storage : A .storage = true := by first | assumption | rfl) : Keeps A r0 (skipUnread n s) := by
  unfold skipUnread
  repeat' first
    | (simp +contextual (maxDischargeDepth := 60) [SameBut, SameLists, *]; done)
    | (rename_i e; have e := congrArg Prod.snd e; dsimp only at e; subst e)
    | split
    | (refine keeps_foldl (fun _ _ _ => ?_) ?_)
    | dsimp only

@[simp ↓] theorem skipFrame_keeps (n : Nat) (s : State) {A : Part → Bool} {r0 : State} (h_s : Keeps A r0 s)
    (p_scaler : A .scaler = true := by first | assumption | rfl) (p_ranger : A .ranger = true := by first | assumption | rfl)
    (p_tally : A .tally = true := by first | assumption | rfl) (p_storage : A .storage = true := by first | assumption | rfl)
    (p_update : A .update = true := by first | assumption | rfl) : Keeps A r0 (skipFrame n s) := by
  unfold skipFrame
  repeat' first
    | (simp +contextual (maxDischargeDepth := 60) [SameBut, SameLists, *]; done)
    | (rename_i e; have e := congrArg Prod.snd e; dsimp only at e; subst e)
    | split
    | (refine keeps_foldl (fun _ _ _ => ?_) ?_)
    | dsimp only

@[simp ↓] theorem readSlot_keeps (s : State) (e : Nat × FixedSlot) {A : Part → Bool} {r0 : State} (h_s : Keeps A r0 s)
    (p_scaler : A .scaler = true := by first | assumption | rfl) (p_sec : A .sec = true := by first | assumption | rfl) (p_ranger : A .ranger = true := by first | assumption | rfl)
    (p_tally : A .tally = true := by first | assumption | rfl) (p_storage : A .storage = true := by first | assumption | rfl)
    (p_update : A .update = true := by first | assumption | rfl) : Keeps A r0 (readSlot s e) := by
  unfold readSlot
  split <;> simp (maxDischargeDepth := 60) [SameBut, SameLists, *]

@[simp ↓] theorem scanJournal_keeps (s : State) {A : Part → Bool} {r0 : State} (h_s : Keeps A r0 s)
    (p_scaler : A .scaler = true := by first | assumption | rfl) (p_sec : A .sec = true := by first | assumption | rfl) (p_ranger : A .ranger = true := by first | assumption | rfl)
    (p_tally : A .tally = true := by first | assumption | rfl) (p_storage : A .storage = true := by first | assumption | rfl)
    (p_update : A .update = true := by first | assumption | rfl) : Keeps A r0 (scanJournal s) := by
  unfold scanJournal
  simp +contextual (maxDischargeDepth := 60) [SameBut, SameLists, *]

@[simp ↓] theorem restoreLearned_keeps (seq : Nat) (s : State) (k : Nat) {A : Part → Bool} {r0 : State} (h_s : Keeps A r0 s)
    (p_cells : A .cells = true := by first | assumption | rfl) : Keeps A r0 (restoreLearned seq s k) := by
  unfold restoreLearned
  split <;> simp (maxDischargeDepth := 60) [SameBut, SameLists, *]

@[simp ↓] theorem widen_keeps (k : Nat) (i : Int) (ms : Nat) (s : State) {A : Part → Bool} {r0 : State} (h_s : Keeps A r0 s)
    (p_cells : A .cells = true := by first | assumption | rfl) : Keeps A r0 (widen k i ms s) := by simp [widen, *]

@[simp ↓] theorem restoreSoc_keeps (img : Option Image) (s : State) (k : Nat) {A : Part → Bool} {r0 : State} (h_s : Keeps A r0 s)
    (p_cells : A .cells = true := by first | assumption | rfl) : Keeps A r0 (restoreSoc img s k) := by
  unfold restoreSoc
  repeat' first
    | (simp +contextual (maxDischargeDepth := 60) [SameBut, SameLists, *]; done)
    | (rename_i e; have e := congrArg Prod.snd e; dsimp only at e; subst e)
    | split
    | (refine keeps_foldl (fun _ _ _ => ?_) ?_)
    | dsimp only

@[simp ↓] theorem restartCell_keeps (s : State) (k : Nat) {A : Part → Bool} {r0 : State} (h_s : Keeps A r0 s)
    (p_cells : A .cells = true := by first | assumption | rfl) (p_scaler : A .scaler = true := by first | assumption | rfl)
    (p_tally : A .tally = true := by first | assumption | rfl) : Keeps A r0 (restartCell s k) := by
  unfold restartCell
  repeat' first
    | (simp +contextual (maxDischargeDepth := 60) [SameBut, SameLists, *]; done)
    | (rename_i e; have e := congrArg Prod.snd e; dsimp only at e; subst e)
    | split
    | (refine keeps_foldl (fun _ _ _ => ?_) ?_)
    | dsimp only

@[simp ↓] theorem continueRest_keeps (s : State) (k : Nat) {A : Part → Bool} {r0 : State} (h_s : Keeps A r0 s)
    (p_cells : A .cells = true := by first | assumption | rfl) : Keeps A r0 (continueRest s k) := by simp [continueRest, *]

@[simp ↓] theorem repairTable_keeps (s : State) (k : Nat) {A : Part → Bool} {r0 : State} (h_s : Keeps A r0 s)
    (p_cells : A .cells = true := by first | assumption | rfl)
    (p_ranger : A .ranger = true := by first | assumption | rfl) : Keeps A r0 (repairTable s k) := by simp [repairTable, *]

@[simp ↓] theorem tapMarks_keeps (s : State) {A : Part → Bool} {r0 : State} (h_s : Keeps A r0 s)
    (p_cells : A .cells = true := by first | assumption | rfl) : Keeps A r0 (tapMarks s) := by
  unfold tapMarks
  repeat' first
    | (simp +contextual (maxDischargeDepth := 60) [SameBut, SameLists, *]; done)
    | (rename_i e; have e := congrArg Prod.snd e; dsimp only at e; subst e)
    | split
    | (refine keeps_foldl (fun _ _ _ => ?_) ?_)
    | dsimp only

@[simp ↓] theorem skipBlocks_keeps (s : State) {A : Part → Bool} {r0 : State} (h_s : Keeps A r0 s)
    (p_cells : A .cells = true := by first | assumption | rfl) (p_storage : A .storage = true := by first | assumption | rfl)
    : Keeps A r0 (skipBlocks s) := by
  unfold skipBlocks
  repeat' first
    | (simp +contextual (maxDischargeDepth := 60) [SameBut, SameLists, *]; done)
    | (rename_i e; have e := congrArg Prod.snd e; dsimp only at e; subst e)
    | split
    | (refine keeps_foldl (fun _ _ _ => ?_) ?_)
    | dsimp only

@[simp ↓] theorem execStateRebuild_keeps (badTables : List Nat) (s : State) {A : Part → Bool} {r0 : State} (h : Keeps A r0 s)
    (p_cells : A .cells = true := by first | assumption | rfl) (p_scaler : A .scaler = true := by first | assumption | rfl) (p_cruiser : A .cruiser = true := by first | assumption | rfl)
    (p_sec : A .sec = true := by first | assumption | rfl) (p_ranger : A .ranger = true := by first | assumption | rfl) (p_tally : A .tally = true := by first | assumption | rfl)
    (p_power : A .power = true := by first | assumption | rfl) (p_lookout : A .lookout = true := by first | assumption | rfl)
    (p_storage : A .storage = true := by first | assumption | rfl)
    (p_update : A .update = true := by first | assumption | rfl) : OutKeeps A r0 (execStateRebuild badTables s) := by
  have f : ∀ (g : State → Nat → State), (∀ x a, Keeps A r0 x → Keeps A r0 (g x a)) → ∀ (l : List Nat) x, Keeps A r0 x → Keeps A r0 (l.foldl g x) :=
    fun g hg l x hx => keeps_foldl hg hx
  unfold execStateRebuild
  split
  · simp (maxDischargeDepth := 60) [SameBut, SameLists, h, *]
  · extract_lets _ s1 img _ s2 s3 s4 _ s5 s6 s7 s8 s9 s10
    have h1 : Keeps A r0 s1 := scanJournal_keeps _ (keeps_mk h (by simp [SameBut, *]) (by simp [SameLists]))
    have h2 : Keeps A r0 s2 := by
      show Keeps A r0 (match img with
        | some i => { s1 with cells := i.cells, scaler := { s1.scaler with i := i.scaler.i } }
        | none => s1)
      cases img
      · exact h1
      · exact keeps_mk h1 (by simp [SameBut, *]) (by simp [SameLists])
    have h3 : Keeps A r0 s3 := skipBlocks_keeps s2 h2
    have h4 : Keeps A r0 s4 := f _ (fun x a hx => restoreLearned_keeps _ x a hx) _ _ h3
    have h5 : Keeps A r0 s5 := keeps_mk h4 (by simp [SameBut, *]) (by simp [SameLists])
    have h6 : Keeps A r0 s6 := f _ (fun x a hx => restoreSoc_keeps _ x a hx) _ _ h5
    have h7 : Keeps A r0 s7 := f _ (fun x a hx => restartCell_keeps x a hx) _ _ h6
    have h8 : Keeps A r0 s8 := keeps_ite (f _ (fun x a hx => continueRest_keeps x a hx) _ _ h7) h7
    have h9 : Keeps A r0 s9 := f _ (fun x a hx => repairTable_keeps x a hx) _ _ (placeCells_keeps s8 h8)
    have h10 : Keeps A r0 s10 :=
      f _ (fun x a hx => keeps_foldl (fun y b hy => by simp (maxDischargeDepth := 60) [SameBut, SameLists, *]) hx) _ _ h9
    exact outKeeps_next (keeps_mk (tapMarks_keeps s10 h10) (by simp [SameBut, *]) (by simp [SameLists]))

/-! ### Faults -/

@[simp ↓] theorem popOutbox_keeps (s : State) {A : Part → Bool} {r0 : State} (h_s : Keeps A r0 s)
    (p_ranger : A .ranger = true := by first | assumption | rfl) : Keeps A r0 (popOutbox s) := by simp [popOutbox, SameBut, SameLists, *]

@[simp ↓] theorem execFaultMessage_keeps (msg : Option FaultMsg) (s : State) {A : Part → Bool} {r0 : State} (h_s : Keeps A r0 s)
    (p_core : A .core = true := by first | assumption | rfl) (p_ring : A .ring = true := by first | assumption | rfl) (p_heads : A .heads = true := by first | assumption | rfl)
    (p_fe : A .fe = true := by first | assumption | rfl) (p_cells : A .cells = true := by first | assumption | rfl) (p_cruiser : A .cruiser = true := by first | assumption | rfl)
    (p_borer : A .borer = true := by first | assumption | rfl) (p_thin : A .thin = true := by first | assumption | rfl) (p_fb : A .fb = true := by first | assumption | rfl)
    (p_sawyer : A .sawyer = true := by first | assumption | rfl) (p_axes : A .axes = true := by first | assumption | rfl) (p_links : A .links = true := by first | assumption | rfl)
    (p_dict : A .dict = true := by first | assumption | rfl) (p_ranger : A .ranger = true := by first | assumption | rfl) (p_tally : A .tally = true := by first | assumption | rfl)
    (p_power : A .power = true := by first | assumption | rfl) : OutKeeps A r0 (execFaultMessage msg s) := by
  unfold execFaultMessage
  (repeat' split) <;> simp (maxDischargeDepth := 60) [SameBut, SameLists, *]

@[simp ↓] theorem execFaultClear_keeps (msg : Option FaultMsg) (s : State) {A : Part → Bool} {r0 : State} (h_s : Keeps A r0 s)
    (p_core : A .core = true := by first | assumption | rfl) (p_ring : A .ring = true := by first | assumption | rfl) (p_heads : A .heads = true := by first | assumption | rfl)
    (p_fe : A .fe = true := by first | assumption | rfl) (p_cells : A .cells = true := by first | assumption | rfl) (p_borer : A .borer = true := by first | assumption | rfl)
    (p_thin : A .thin = true := by first | assumption | rfl) (p_fb : A .fb = true := by first | assumption | rfl) (p_dict : A .dict = true := by first | assumption | rfl)
    (p_ranger : A .ranger = true := by first | assumption | rfl) (p_tally : A .tally = true := by first | assumption | rfl)
    (p_power : A .power = true := by first | assumption | rfl) : OutKeeps A r0 (execFaultClear msg s) := by
  unfold execFaultClear
  (repeat' split) <;> simp (maxDischargeDepth := 60) [SameBut, SameLists, *]

@[simp ↓] theorem execFaultAcknowledge_keeps (fault : FaultMsg) (s : State) {A : Part → Bool} {r0 : State} (h_s : Keeps A r0 s)
    (p_ranger : A .ranger = true := by first | assumption | rfl) : OutKeeps A r0 (execFaultAcknowledge fault s) := by
  unfold execFaultAcknowledge
  (repeat' split) <;> simp (maxDischargeDepth := 60) [SameBut, SameLists, *]

@[simp ↓] theorem execGraceExpiry_keeps (fault : FaultMsg) (s : State) {A : Part → Bool} {r0 : State} (h_s : Keeps A r0 s)
    (p_core : A .core = true := by first | assumption | rfl) (p_ring : A .ring = true := by first | assumption | rfl) (p_heads : A .heads = true := by first | assumption | rfl)
    (p_fe : A .fe = true := by first | assumption | rfl) (p_cells : A .cells = true := by first | assumption | rfl) (p_cruiser : A .cruiser = true := by first | assumption | rfl)
    (p_borer : A .borer = true := by first | assumption | rfl) (p_thin : A .thin = true := by first | assumption | rfl) (p_fb : A .fb = true := by first | assumption | rfl)
    (p_sawyer : A .sawyer = true := by first | assumption | rfl) (p_axes : A .axes = true := by first | assumption | rfl) (p_links : A .links = true := by first | assumption | rfl)
    (p_dict : A .dict = true := by first | assumption | rfl) (p_ranger : A .ranger = true := by first | assumption | rfl) (p_tally : A .tally = true := by first | assumption | rfl)
    (p_power : A .power = true := by first | assumption | rfl) : OutKeeps A r0 (execGraceExpiry fault s) := by
  unfold execGraceExpiry
  (repeat' split) <;> simp (maxDischargeDepth := 60) [SameBut, SameLists, *]

@[simp ↓] theorem closeCapture_keeps (reg : Nat) (c : Capture) (s : State) {A : Part → Bool} {r0 : State} (h_s : Keeps A r0 s)
    (p_tally : A .tally = true := by first | assumption | rfl) : Keeps A r0 (closeCapture reg c s).2 := by
  unfold closeCapture
  (repeat' split) <;> simp (maxDischargeDepth := 60) [SameBut, SameLists, *]

@[simp ↓] theorem execFirstFaultCaptureClose_keeps (s : State) {A : Part → Bool} {r0 : State} (h_s : Keeps A r0 s)
    (p_ranger : A .ranger = true := by first | assumption | rfl)
    (p_tally : A .tally = true := by first | assumption | rfl) : OutKeeps A r0 (execFirstFaultCaptureClose s) := by simp (maxDischargeDepth := 60) [execFirstFaultCaptureClose, SameBut, SameLists, *]

@[simp ↓] theorem execWatchdogService_keeps (value : Nat) (s : State) {A : Part → Bool} {r0 : State} (h_s : Keeps A r0 s)
    (p_ranger : A .ranger = true := by first | assumption | rfl) : OutKeeps A r0 (execWatchdogService value s) := by simp (maxDischargeDepth := 60) [execWatchdogService, SameBut, SameLists, *]

@[simp ↓] theorem execWatchdogExpired_keeps (s : State) {A : Part → Bool} {r0 : State} (h_s : Keeps A r0 s)
    (p_ring : A .ring = true := by first | assumption | rfl) (p_fe : A .fe = true := by first | assumption | rfl) (p_fb : A .fb = true := by first | assumption | rfl)
    (p_pair : A .pair = true := by first | assumption | rfl) (p_ranger : A .ranger = true := by first | assumption | rfl) (p_power : A .power = true := by first | assumption | rfl)
    (p_update : A .update = true := by first | assumption | rfl) : OutKeeps A r0 (execWatchdogExpired s) := by simp (maxDischargeDepth := 60) [execWatchdogExpired, SameBut, SameLists, *]

theorem putRecord_le {units : Nat} {r : TallyRec} {a b : List TallyUnit} (h : putRecord units r a = some b) (hu : 0 < units) (ha : a.length ≤ units) :
    b.length ≤ units := by
  unfold putRecord at h
  cases e : a.getLast? with
  | none => simp only [e, Option.some.injEq] at h; subst h; exact hu
  | some u =>
    have hne : a ≠ [] := by rintro rfl; simp at e
    have hpos : 0 < a.length := List.length_pos_iff.mpr hne
    simp only [e] at h
    split at h
    · cases h
      simp only [List.length_append, List.length_dropLast, List.length_cons, List.length_nil]
      omega
    · split at h
      · cases h
        simp only [List.length_append, List.length_cons, List.length_nil]
        omega
      · cases h
@[simp ↓] theorem writeRecord_keeps (s : State) (r : TallyRec) {A : Part → Bool} {r0 : State} (h : Keeps A r0 s)
    (p_cruiser : A .cruiser = true := by first | assumption | rfl) (p_ranger : A .ranger = true := by first | assumption | rfl)
    (p_tally : A .tally = true := by first | assumption | rfl) : Keeps A r0 (writeRecord s r) := by
  unfold writeRecord
  have hw := wrote_keeps 2 r.size s h
  generalize wrote 2 r.size s = w at hw
  dsimp only
  split
  · rename_i k hk
    refine hw.of_parts (by simp [SameBut, *]) rfl rfl rfl fun c => ?_
    refine { c with keep := ?_ }
    split at hk
    · cases hk
    · exact putRecord_le hk (by omega) c.keep
  · have hc : ∀ q l, (w.tally.circ.length ≤ 480 → l.length ≤ 480) → Keeps A r0 { w with tally := { w.tally with circ := l, seq := q, keepFull := true } } := by
      intro q l hl
      refine hw.of_parts (by simp [SameBut, *]) rfl rfl rfl fun c => ?_
      exact { c with circ := hl c.circ }
    have hl : ∀ r : TallyRec, w.tally.circ.length ≤ 480 → List.length (match putRecord 480 r w.tally.circ with
        | some c => c
        | none => w.tally.circ.tail ++ [({ used := r.size, recs := [r] } : TallyUnit)]) ≤ 480 := by
      intro r hr
      split
      · rename_i k hk
        exact putRecord_le hk (by omega) hr
      · simp only [List.length_append, List.length_tail, List.length_cons, List.length_nil]
        omega
    exact keeps_ite (hc _ _ (hl _)) (State.report_keeps _ _ _ _ _ _ (hc _ _ (hl _)))

@[simp ↓] theorem drainQ24_keeps (s : State) {A : Part → Bool} {r0 : State} (h : Keeps A r0 s) (p_ranger : A .ranger = true := by first | assumption | rfl)
    (p_tally : A .tally = true := by first | assumption | rfl) : Keeps A r0 (drainQ24 s) := by
  unfold drainQ24
  dsimp only
  have hc : ∀ b, Keeps A r0 { s with tally := { s.tally with q25 := s.tally.q25 ++ s.ranger.q24.take (4096 - s.tally.q25.length) },
                                                   ranger := { s.ranger with q24 := s.ranger.q24.drop (4096 - s.tally.q25.length), lostPending := b } } := by
    intro e
    refine h.of_parts (by simp [SameBut, *]) rfl rfl rfl fun c => ?_
    have := c.q24
    have := c.q25
    refine { c with q24 := ?_, q25 := ?_ }
    · simp only [List.length_drop]
      omega
    · simp only [List.length_append, List.length_take]
      omega
  exact keeps_ite (State.report_keeps _ _ _ _ _ _ (hc _)) (hc _)

@[simp ↓] theorem execTallyWrite_keeps (s : State) {A : Part → Bool} {r0 : State} (h : Keeps A r0 s)
    (p_cruiser : A .cruiser = true := by first | assumption | rfl) (p_ranger : A .ranger = true := by first | assumption | rfl)
    (p_tally : A .tally = true := by first | assumption | rfl) : OutKeeps A r0 (execTallyWrite s) := by
  unfold execTallyWrite
  extract_lets q b1 s1 n b2 s2
  have h1 : Keeps A r0 s1 := by
    refine keeps_foldl (fun x a hx => writeRecord_keeps _ _ hx) (h.of_parts (by simp [SameBut, b1, *]) rfl rfl rfl fun c => ?_)
    exact { c with q25 := Nat.zero_le _ }
  split
  · split
    · exact outKeeps_next h1
    · have h2 : Keeps A r0 s2 := keeps_mk h1 (by simp [SameBut, *]) (by simp [SameLists, b2])
      simp (maxDischargeDepth := 60) [*]
  · exact outKeeps_next h

@[simp ↓] theorem readTally_keeps (session room : Nat) (s : State) {A : Part → Bool} {r0 : State} (h_s : Keeps A r0 s)
    (p_tally : A .tally = true := by first | assumption | rfl) : Keeps A r0 (readTally session room s).2 := by
  unfold readTally
  repeat' first
    | (simp +contextual (maxDischargeDepth := 60) [SameBut, SameLists, *]; done)
    | (rename_i e; have e := congrArg Prod.snd e; dsimp only at e; subst e)
    | split
    | (refine keeps_foldl (fun _ _ _ => ?_) ?_)
    | dsimp only

@[simp ↓] theorem clearKeep_keeps (session : Nat) (s : State) {A : Part → Bool} {r0 : State} (h : Keeps A r0 s)
    (p_cruiser : A .cruiser = true := by first | assumption | rfl) (p_ranger : A .ranger = true := by first | assumption | rfl)
    (p_tally : A .tally = true := by first | assumption | rfl) : Keeps A r0 (clearKeep session s) := by
  unfold clearKeep
  have hc : Keeps A r0 { s with tally := { s.tally with keep := [], keepFull := false } } := by
    refine h.of_parts (by simp [SameBut, *]) rfl rfl rfl fun c => ?_
    exact { c with keep := by simp }
  exact writeRecord_keeps _ _ (State.clearOnce_keeps _ _ _ _ _ hc)

/-! ### Power -/

@[simp ↓] theorem freshEvent_keeps (e : SmEvent) (s : State) {A : Part → Bool} {r0 : State} (h_s : Keeps A r0 s)
    (p_core : A .core = true := by first | assumption | rfl) (p_ring : A .ring = true := by first | assumption | rfl) (p_heads : A .heads = true := by first | assumption | rfl)
    (p_fe : A .fe = true := by first | assumption | rfl) (p_cells : A .cells = true := by first | assumption | rfl) (p_borer : A .borer = true := by first | assumption | rfl)
    (p_thin : A .thin = true := by first | assumption | rfl) (p_fb : A .fb = true := by first | assumption | rfl) (p_dict : A .dict = true := by first | assumption | rfl)
    (p_ranger : A .ranger = true := by first | assumption | rfl) (p_tally : A .tally = true := by first | assumption | rfl)
    (p_power : A .power = true := by first | assumption | rfl) : Keeps A r0 (freshEvent e s) := by simp [freshEvent, SameBut, SameLists, *]

@[simp ↓] theorem setSource_keeps (n : Nat) (s : State) {A : Part → Bool} {r0 : State} (h_s : Keeps A r0 s)
    (p_tally : A .tally = true := by first | assumption | rfl)
    (p_power : A .power = true := by first | assumption | rfl) : Keeps A r0 (setSource n s) := by simp (maxDischargeDepth := 60) [setSource, SameBut, SameLists, *]

@[simp ↓] theorem toBackup_keeps (s : State) {A : Part → Bool} {r0 : State} (h_s : Keeps A r0 s) (p_ranger : A .ranger = true := by first | assumption | rfl)
    (p_tally : A .tally = true := by first | assumption | rfl)
    (p_power : A .power = true := by first | assumption | rfl) : Keeps A r0 (toBackup s) := by simp (maxDischargeDepth := 60) [toBackup, SameBut, SameLists, *]

@[simp ↓] theorem motionDomain_keeps (s : State) {A : Part → Bool} {r0 : State} (h_s : Keeps A r0 s)
    (p_power : A .power = true := by first | assumption | rfl) : Keeps A r0 (motionDomain s) := by
  unfold motionDomain
  split <;> simp (maxDischargeDepth := 60) [SameBut, SameLists, *]

@[simp ↓] theorem queueRecords_keeps (l : List TallyRec) (s : State) {A : Part → Bool} {r0 : State} (h : Keeps A r0 s)
    (p_tally : A .tally = true := by first | assumption | rfl) : Keeps A r0 (queueRecords l s) := by
  unfold queueRecords
  refine h.of_parts (by simp [SameBut, *]) rfl rfl rfl fun c => ?_
  have := c.q25
  refine { c with q25 := ?_ }
  simp only [List.length_append, List.length_take]
  omega

@[simp ↓] theorem tellStart_keeps (s : State) {A : Part → Bool} {r0 : State} (h_s : Keeps A r0 s) (p_core : A .core = true := by first | assumption | rfl)
    (p_ring : A .ring = true := by first | assumption | rfl) (p_heads : A .heads = true := by first | assumption | rfl) (p_fe : A .fe = true := by first | assumption | rfl)
    (p_cells : A .cells = true := by first | assumption | rfl) (p_cruiser : A .cruiser = true := by first | assumption | rfl) (p_borer : A .borer = true := by first | assumption | rfl)
    (p_thin : A .thin = true := by first | assumption | rfl) (p_fb : A .fb = true := by first | assumption | rfl) (p_sawyer : A .sawyer = true := by first | assumption | rfl)
    (p_axes : A .axes = true := by first | assumption | rfl) (p_links : A .links = true := by first | assumption | rfl) (p_dict : A .dict = true := by first | assumption | rfl)
    (p_ranger : A .ranger = true := by first | assumption | rfl) (p_tally : A .tally = true := by first | assumption | rfl)
    (p_power : A .power = true := by first | assumption | rfl) : Keeps A r0 (tellStart s) := by
  unfold tellStart
  repeat' first
    | (simp +contextual (maxDischargeDepth := 60) [SameBut, SameLists, *]; done)
    | (rename_i e; have e := congrArg Prod.snd e; dsimp only at e; subst e)
    | split
    | (refine keeps_foldl (fun _ _ _ => ?_) ?_)
    | dsimp only

@[simp ↓] theorem guardEnvelope_keeps (s : State) {A : Part → Bool} {r0 : State} (h_s : Keeps A r0 s)
    (p_canopy : A .canopy = true := by first | assumption | rfl)
    (p_ranger : A .ranger = true := by first | assumption | rfl) : Keeps A r0 (guardEnvelope s) := by simp [guardEnvelope, *]

@[simp ↓] theorem execSupplyPresent_keeps (aux1 aux2 bus vHvb strap : Nat) (backupOk : Bool) (s : State) {A : Part → Bool} {r0 : State} (h : Keeps A r0 s)
    (p_core : A .core = true := by first | assumption | rfl) (p_ring : A .ring = true := by first | assumption | rfl) (p_heads : A .heads = true := by first | assumption | rfl)
    (p_tap : A .tap = true := by first | assumption | rfl) (p_fe : A .fe = true := by first | assumption | rfl) (p_cells : A .cells = true := by first | assumption | rfl)
    (p_points : A .points = true := by first | assumption | rfl) (p_scaler : A .scaler = true := by first | assumption | rfl)
    (p_cruiser : A .cruiser = true := by first | assumption | rfl) (p_borer : A .borer = true := by first | assumption | rfl) (p_thin : A .thin = true := by first | assumption | rfl)
    (p_fb : A .fb = true := by first | assumption | rfl) (p_sawyer : A .sawyer = true := by first | assumption | rfl) (p_canopy : A .canopy = true := by first | assumption | rfl)
    (p_axes : A .axes = true := by first | assumption | rfl) (p_links : A .links = true := by first | assumption | rfl) (p_clock : A .clock = true := by first | assumption | rfl)
    (p_dict : A .dict = true := by first | assumption | rfl) (p_sec : A .sec = true := by first | assumption | rfl) (p_pair : A .pair = true := by first | assumption | rfl)
    (p_ranger : A .ranger = true := by first | assumption | rfl) (p_tally : A .tally = true := by first | assumption | rfl) (p_inject : A .inject = true := by first | assumption | rfl)
    (p_power : A .power = true := by first | assumption | rfl) (p_lookout : A .lookout = true := by first | assumption | rfl)
    (p_storage : A .storage = true := by first | assumption | rfl) (p_update : A .update = true := by first | assumption | rfl) (p_seat : A .seat = true := by first | assumption | rfl) :
    OutKeeps A r0 (execSupplyPresent aux1 aux2 bus vHvb strap backupOk s) := by
  unfold execSupplyPresent
  split
  · simp (maxDischargeDepth := 60) [SameBut, SameLists, h, *]
  · have h1 := bootBody_keeps false s h
    generalize ({ s with toBody := bootBody false s } : State) = t at h1 ⊢
    dsimp only
    simp (maxDischargeDepth := 60) [SameBut, SameLists, h1, *]

@[simp ↓] theorem bootOutputs_keeps (s : State) {A : Part → Bool} {r0 : State} (h_s : Keeps A r0 s) (p_axes : A .axes = true := by first | assumption | rfl)
    (p_ranger : A .ranger = true := by first | assumption | rfl) (p_power : A .power = true := by first | assumption | rfl) : Keeps A r0 (bootOutputs s) := by
  unfold bootOutputs
  simp +contextual (maxDischargeDepth := 60) [SameBut, SameLists, *]

@[simp ↓] theorem joinPartner_keeps (s : State) {A : Part → Bool} {r0 : State} (h_s : Keeps A r0 s) (p_core : A .core = true := by first | assumption | rfl)
    (p_ring : A .ring = true := by first | assumption | rfl) (p_heads : A .heads = true := by first | assumption | rfl) (p_fe : A .fe = true := by first | assumption | rfl)
    (p_cells : A .cells = true := by first | assumption | rfl) (p_borer : A .borer = true := by first | assumption | rfl) (p_thin : A .thin = true := by first | assumption | rfl)
    (p_fb : A .fb = true := by first | assumption | rfl) (p_axes : A .axes = true := by first | assumption | rfl) (p_dict : A .dict = true := by first | assumption | rfl)
    (p_ranger : A .ranger = true := by first | assumption | rfl) (p_tally : A .tally = true := by first | assumption | rfl)
    (p_power : A .power = true := by first | assumption | rfl) : Keeps A r0 (joinPartner s) := by
  unfold joinPartner
  (repeat' split) <;> simp (maxDischargeDepth := 60) [SameBut, SameLists, *]

@[simp ↓] theorem execBootComplete_keeps (s : State) {A : Part → Bool} {r0 : State} (h_s : Keeps A r0 s)
    (p_core : A .core = true := by first | assumption | rfl) (p_ring : A .ring = true := by first | assumption | rfl) (p_heads : A .heads = true := by first | assumption | rfl)
    (p_fe : A .fe = true := by first | assumption | rfl) (p_cells : A .cells = true := by first | assumption | rfl) (p_borer : A .borer = true := by first | assumption | rfl)
    (p_thin : A .thin = true := by first | assumption | rfl) (p_fb : A .fb = true := by first | assumption | rfl) (p_axes : A .axes = true := by first | assumption | rfl)
    (p_dict : A .dict = true := by first | assumption | rfl) (p_ranger : A .ranger = true := by first | assumption | rfl) (p_tally : A .tally = true := by first | assumption | rfl)
    (p_power : A .power = true := by first | assumption | rfl) : OutKeeps A r0 (execBootComplete s) := by
  unfold execBootComplete
  (repeat' split) <;> simp (maxDischargeDepth := 60) [SameBut, SameLists, *]

@[simp ↓] theorem dropPullIn_keeps (s : State) {A : Part → Bool} {r0 : State} (h_s : Keeps A r0 s)
    (p_fe : A .fe = true := by first | assumption | rfl) : Keeps A r0 (dropPullIn s) := by simp [dropPullIn, SameBut, SameLists, *]

@[simp ↓] theorem execSourceLoss_keeps (vHvb : Nat) (backupFault : Bool) (s : State) {A : Part → Bool} {r0 : State} (h_s : Keeps A r0 s)
    (p_fe : A .fe = true := by first | assumption | rfl) (p_axes : A .axes = true := by first | assumption | rfl) (p_ranger : A .ranger = true := by first | assumption | rfl)
    (p_power : A .power = true := by first | assumption | rfl) : OutKeeps A r0 (execSourceLoss vHvb backupFault s) := by simp (maxDischargeDepth := 60) [execSourceLoss, SameBut, SameLists, *]

@[simp ↓] theorem execBackupRegulating_keeps (bus : Nat) (s : State) {A : Part → Bool} {r0 : State} (h_s : Keeps A r0 s)
    (p_ranger : A .ranger = true := by first | assumption | rfl) (p_tally : A .tally = true := by first | assumption | rfl)
    (p_power : A .power = true := by first | assumption | rfl) : OutKeeps A r0 (execBackupRegulating bus s) := by simp (maxDischargeDepth := 60) [execBackupRegulating, SameBut, SameLists, *]

@[simp ↓] theorem execAuxReturn_keeps (aux1 aux2 : Nat) (s : State) {A : Part → Bool} {r0 : State} (h_s : Keeps A r0 s)
    (p_axes : A .axes = true := by first | assumption | rfl) (p_ranger : A .ranger = true := by first | assumption | rfl) (p_tally : A .tally = true := by first | assumption | rfl)
    (p_power : A .power = true := by first | assumption | rfl) : OutKeeps A r0 (execAuxReturn aux1 aux2 s) := by simp (maxDischargeDepth := 60) [execAuxReturn, SameBut, SameLists, *]

@[simp ↓] theorem execAuxInputOutOfRange_keeps (input mV : Nat) (s : State) {A : Part → Bool} {r0 : State} (h_s : Keeps A r0 s)
    (p_ranger : A .ranger = true := by first | assumption | rfl)
    (p_power : A .power = true := by first | assumption | rfl) : OutKeeps A r0 (execAuxInputOutOfRange input mV s) := by simp (maxDischargeDepth := 60) [execAuxInputOutOfRange, SameBut, SameLists, *]

@[simp ↓] theorem dropHighSides_keeps (s : State) {A : Part → Bool} {r0 : State} (h_s : Keeps A r0 s)
    (p_fe : A .fe = true := by first | assumption | rfl) : Keeps A r0 (dropHighSides s) := by simp [dropHighSides, SameBut, SameLists, *]

@[simp ↓] theorem ringOff_keeps (s : State) {A : Part → Bool} {r0 : State} (h_s : Keeps A r0 s)
    (p_ring : A .ring = true := by first | assumption | rfl) : Keeps A r0 (ringOff s) := by simp [ringOff, SameBut, SameLists, *]

@[simp ↓] theorem execPowerGoodFall_keeps (s : State) {A : Part → Bool} {r0 : State} (h : Keeps A r0 s)
    (p_ring : A .ring = true := by first | assumption | rfl) (p_fe : A .fe = true := by first | assumption | rfl) (p_fb : A .fb = true := by first | assumption | rfl)
    (p_ranger : A .ranger = true := by first | assumption | rfl) (p_tally : A .tally = true := by first | assumption | rfl) (p_power : A .power = true := by first | assumption | rfl)
    (p_lookout : A .lookout = true := by first | assumption | rfl) (p_storage : A .storage = true := by first | assumption | rfl)
    (p_seat : A .seat = true := by first | assumption | rfl) : OutKeeps A r0 (execPowerGoodFall s) := by
  unfold execPowerGoodFall
  split
  · simp (maxDischargeDepth := 60) [SameBut, SameLists, h, *]
  · extract_lets branch kept b1 b2 b3 s1 s2 s3 s3d b4 b5 s4 s5
    have h1 : Keeps A r0 s1 := by simp (maxDischargeDepth := 60) [SameBut, SameLists, s1, b3, h, *]
    have h2 : Keeps A r0 s2 := by simp (maxDischargeDepth := 60) [SameBut, SameLists, s2, h1, *]
    have h3 : Keeps A r0 s3 := by simp (maxDischargeDepth := 60) [SameBut, SameLists, s3, h2, *]
    have h4 : Keeps A r0 s4 := by simp (maxDischargeDepth := 60) [SameBut, SameLists, s4, h3, *]
    have h5 : Keeps A r0 s5 := by simp (maxDischargeDepth := 60) [SameBut, SameLists, s5, h4, *]
    clear_value branch
    split
    · exact outKeeps_next (keeps_mk (dropHighSides_keeps _ h3) (by simp [SameBut, s3d, b4, *]) (by simp [SameLists, s3d, b4]))
    · simp (maxDischargeDepth := 60) [SameBut, SameLists, h5, *]
    · exact outKeeps_next h3

@[simp ↓] theorem powerOff_keeps (s : State) {A : Part → Bool} {r0 : State} (h_s : Keeps A r0 s)
    (p_core : A .core = true := by first | assumption | rfl) (p_ring : A .ring = true := by first | assumption | rfl)
    (p_heads : A .heads = true := by first | assumption | rfl) (p_fe : A .fe = true := by first | assumption | rfl)
    (p_cells : A .cells = true := by first | assumption | rfl) (p_borer : A .borer = true := by first | assumption | rfl)
    (p_thin : A .thin = true := by first | assumption | rfl) (p_fb : A .fb = true := by first | assumption | rfl)
    (p_canopy : A .canopy = true := by first | assumption | rfl) (p_dict : A .dict = true := by first | assumption | rfl)
    (p_ranger : A .ranger = true := by first | assumption | rfl) (p_tally : A .tally = true := by first | assumption | rfl)
    (p_power : A .power = true := by first | assumption | rfl) : Keeps A r0 (powerOff s) := by simp (maxDischargeDepth := 60) [powerOff, SameBut, SameLists, *]

@[simp ↓] theorem execHoldUpExpiry_keeps (s : State) {A : Part → Bool} {r0 : State} (h_s : Keeps A r0 s)
    (p_core : A .core = true := by first | assumption | rfl) (p_ring : A .ring = true := by first | assumption | rfl)
    (p_heads : A .heads = true := by first | assumption | rfl) (p_fe : A .fe = true := by first | assumption | rfl)
    (p_cells : A .cells = true := by first | assumption | rfl) (p_borer : A .borer = true := by first | assumption | rfl)
    (p_thin : A .thin = true := by first | assumption | rfl) (p_fb : A .fb = true := by first | assumption | rfl)
    (p_canopy : A .canopy = true := by first | assumption | rfl) (p_dict : A .dict = true := by first | assumption | rfl)
    (p_ranger : A .ranger = true := by first | assumption | rfl) (p_tally : A .tally = true := by first | assumption | rfl)
    (p_power : A .power = true := by first | assumption | rfl) : OutKeeps A r0 (execHoldUpExpiry s) := by simp (maxDischargeDepth := 60) [execHoldUpExpiry, SameBut, SameLists, *]

@[simp ↓] theorem execHoldUpTest_keeps (time : Nat) (s : State) {A : Part → Bool} {r0 : State} (h_s : Keeps A r0 s)
    (p_ranger : A .ranger = true := by first | assumption | rfl)
    (p_power : A .power = true := by first | assumption | rfl) : OutKeeps A r0 (execHoldUpTest time s) := by simp (maxDischargeDepth := 60) [execHoldUpTest, SameBut, SameLists, *]

@[simp ↓] theorem backstop_keeps (s : State) {A : Part → Bool} {r0 : State} (h_s : Keeps A r0 s) (p_fe : A .fe = true := by first | assumption | rfl)
    (p_fb : A .fb = true := by first | assumption | rfl) : Keeps A r0 (backstop s) := by simp [backstop, SameBut, SameLists, *]

@[simp ↓] theorem currentGone_keeps (s : State) {A : Part → Bool} {r0 : State} (h_s : Keeps A r0 s) (p_fe : A .fe = true := by first | assumption | rfl)
    (p_fb : A .fb = true := by first | assumption | rfl) (p_ranger : A .ranger = true := by first | assumption | rfl) : Keeps A r0 (currentGone s) := by simp [currentGone, *]

@[simp ↓] theorem lanesGone_keeps (l : List Nat) (s : State) {A : Part → Bool} {r0 : State} (h_s : Keeps A r0 s)
    (p_cruiser : A .cruiser = true := by first | assumption | rfl)
    (p_ranger : A .ranger = true := by first | assumption | rfl) : Keeps A r0 (lanesGone l s) := by simp [lanesGone, SameBut, SameLists, *]

@[simp ↓] theorem bridgesOff_keeps (s : State) {A : Part → Bool} {r0 : State} (h_s : Keeps A r0 s) (p_axes : A .axes = true := by first | assumption | rfl)
    (p_ranger : A .ranger = true := by first | assumption | rfl) : Keeps A r0 (bridgesOff s) := by
  unfold bridgesOff
  simp +contextual (maxDischargeDepth := 60) [SameBut, SameLists, *]

@[simp ↓] theorem domainReaction_keeps (d : Nat) (s : State) {A : Part → Bool} {r0 : State} (h_s : Keeps A r0 s)
    (p_fe : A .fe = true := by first | assumption | rfl) (p_cruiser : A .cruiser = true := by first | assumption | rfl) (p_fb : A .fb = true := by first | assumption | rfl)
    (p_axes : A .axes = true := by first | assumption | rfl) (p_ranger : A .ranger = true := by first | assumption | rfl) (p_power : A .power = true := by first | assumption | rfl)
    (p_storage : A .storage = true := by first | assumption | rfl) : Keeps A r0 (domainReaction d s) := by
  unfold domainReaction
  split <;> simp (maxDischargeDepth := 60) [SameBut, SameLists, *]

@[simp ↓] theorem execPowerDomainFault_keeps (d : Nat) (s : State) {A : Part → Bool} {r0 : State} (h_s : Keeps A r0 s)
    (p_fe : A .fe = true := by first | assumption | rfl) (p_cruiser : A .cruiser = true := by first | assumption | rfl) (p_fb : A .fb = true := by first | assumption | rfl)
    (p_axes : A .axes = true := by first | assumption | rfl) (p_ranger : A .ranger = true := by first | assumption | rfl) (p_power : A .power = true := by first | assumption | rfl)
    (p_storage : A .storage = true := by first | assumption | rfl) : OutKeeps A r0 (execPowerDomainFault d s) := by
  unfold execPowerDomainFault
  (repeat' split) <;> simp (maxDischargeDepth := 60) [SameBut, SameLists, *]

@[simp ↓] theorem clockReaction_keeps (n : Nat) (crystal : Bool) (s : State) {A : Part → Bool} {r0 : State} (h_s : Keeps A r0 s)
    (p_ring : A .ring = true := by first | assumption | rfl) (p_fe : A .fe = true := by first | assumption | rfl)
    (p_cruiser : A .cruiser = true := by first | assumption | rfl) (p_fb : A .fb = true := by first | assumption | rfl)
    (p_axes : A .axes = true := by first | assumption | rfl) (p_ranger : A .ranger = true := by first | assumption | rfl)
    (p_power : A .power = true := by first | assumption | rfl) : Keeps A r0 (clockReaction n crystal s) := by
  unfold clockReaction
  split <;> simp (maxDischargeDepth := 60) [SameBut, SameLists, *]

@[simp ↓] theorem checkClock_keeps (bad : List Nat) (crystal : Bool) (s : State) (n : Nat) {A : Part → Bool} {r0 : State} (h_s : Keeps A r0 s)
    (p_ring : A .ring = true := by first | assumption | rfl) (p_fe : A .fe = true := by first | assumption | rfl)
    (p_cruiser : A .cruiser = true := by first | assumption | rfl) (p_fb : A .fb = true := by first | assumption | rfl)
    (p_axes : A .axes = true := by first | assumption | rfl) (p_ranger : A .ranger = true := by first | assumption | rfl)
    (p_power : A .power = true := by first | assumption | rfl) : Keeps A r0 (checkClock bad crystal s n) := by
  unfold checkClock
  (repeat' split) <;> simp (maxDischargeDepth := 60) [SameBut, SameLists, *]

@[simp ↓] theorem execClockCheck_keeps (bad : List Nat) (crystal : Bool) (hz : Nat) (s : State) {A : Part → Bool} {r0 : State} (h_s : Keeps A r0 s)
    (p_ring : A .ring = true := by first | assumption | rfl) (p_fe : A .fe = true := by first | assumption | rfl)
    (p_cruiser : A .cruiser = true := by first | assumption | rfl) (p_fb : A .fb = true := by first | assumption | rfl)
    (p_axes : A .axes = true := by first | assumption | rfl) (p_ranger : A .ranger = true := by first | assumption | rfl)
    (p_power : A .power = true := by first | assumption | rfl) : OutKeeps A r0 (execClockCheck bad crystal hz s) := by
  unfold execClockCheck
  simp +contextual (maxDischargeDepth := 60) [SameBut, SameLists, *]

@[simp ↓] theorem effRestart_keeps (sess : Nat) (s : State) {A : Part → Bool} {r0 : State} (h_s : Keeps A r0 s)
    (p_power : A .power = true := by first | assumption | rfl) : Keeps A r0 (effRestart sess s) := by simp [effRestart, SameBut, SameLists, *]

@[simp ↓] theorem countRestart_keeps (cause : Nat) (s : State) {A : Part → Bool} {r0 : State} (h_s : Keeps A r0 s)
    (p_pair : A .pair = true := by first | assumption | rfl) (p_ranger : A .ranger = true := by first | assumption | rfl)
    (p_update : A .update = true := by first | assumption | rfl) : Keeps A r0 (countRestart cause s) := by simp (maxDischargeDepth := 60) [countRestart, SameBut, SameLists, *]

@[simp ↓] theorem execModuleRestart_keeps (s : State) {A : Part → Bool} {r0 : State} (h_s : Keeps A r0 s)
    (p_core : A .core = true := by first | assumption | rfl) (p_ring : A .ring = true := by first | assumption | rfl)
    (p_heads : A .heads = true := by first | assumption | rfl) (p_fe : A .fe = true := by first | assumption | rfl)
    (p_cells : A .cells = true := by first | assumption | rfl) (p_borer : A .borer = true := by first | assumption | rfl)
    (p_thin : A .thin = true := by first | assumption | rfl) (p_fb : A .fb = true := by first | assumption | rfl)
    (p_canopy : A .canopy = true := by first | assumption | rfl) (p_dict : A .dict = true := by first | assumption | rfl)
    (p_pair : A .pair = true := by first | assumption | rfl) (p_ranger : A .ranger = true := by first | assumption | rfl)
    (p_tally : A .tally = true := by first | assumption | rfl) (p_power : A .power = true := by first | assumption | rfl)
    (p_update : A .update = true := by first | assumption | rfl) : OutKeeps A r0 (execModuleRestart s) := by
  unfold execModuleRestart
  split <;> simp (maxDischargeDepth := 60) [SameBut, SameLists, *]

@[simp ↓] theorem nextZones_keeps (s : State) {A : Part → Bool} {r0 : State} (h_s : Keeps A r0 s)
    (p_power : A .power = true := by first | assumption | rfl) : Keeps A r0 (nextZones s) := by simp [nextZones, SameBut, SameLists, *]

@[simp ↓] theorem sensorPoint_keeps (n : Nat) (t : Int) (s : State) {A : Part → Bool} {r0 : State} (h_s : Keeps A r0 s)
    (p_points : A .points = true := by first | assumption | rfl)
    (p_power : A .power = true := by first | assumption | rfl) : Keeps A r0 (sensorPoint n t s) := by simp (maxDischargeDepth := 60) [sensorPoint, SameBut, SameLists, *]

@[simp ↓] theorem execTemperatureSensorSample_keeps (n : Nat) (t : Int) (s : State) {A : Part → Bool} {r0 : State} (h_s : Keeps A r0 s)
    (p_points : A .points = true := by first | assumption | rfl) (p_ranger : A .ranger = true := by first | assumption | rfl) (p_tally : A .tally = true := by first | assumption | rfl)
    (p_power : A .power = true := by first | assumption | rfl) : OutKeeps A r0 (execTemperatureSensorSample n t s) := by simp (maxDischargeDepth := 60) [execTemperatureSensorSample, SameBut, SameLists, *]

@[simp ↓] theorem zoneEdge_keeps (z old new : Nat) (s : State) (l : Nat) {A : Part → Bool} {r0 : State} (h_s : Keeps A r0 s)
    (p_ranger : A .ranger = true := by first | assumption | rfl)
    (p_power : A .power = true := by first | assumption | rfl) : Keeps A r0 (zoneEdge z old new s l) := by
  unfold zoneEdge
  split
  · rename_i kind sev _
    have h1 : Keeps A r0 (s.raiseOnce 0x071 kind sev 5 z) := State.raiseOnce_keeps _ _ _ _ _ _ h_s
    have h2 : Keeps A r0 (s.clearOnce 0x071 kind 5 z) := State.clearOnce_keeps _ _ _ _ _ h_s
    generalize s.raiseOnce 0x071 kind sev 5 z = x at *
    generalize s.clearOnce 0x071 kind 5 z = y at *
    (repeat' split) <;> first | assumption | exact keeps_power h1 p_power _

@[simp ↓] theorem throttleAxes_keeps (s : State) {A : Part → Bool} {r0 : State} (h_s : Keeps A r0 s)
    (p_axes : A .axes = true := by first | assumption | rfl) : Keeps A r0 (throttleAxes s) := by
  unfold throttleAxes
  simp +contextual (maxDischargeDepth := 60) [SameBut, SameLists, *]

@[simp ↓] theorem applyZones_keeps (s : State) {A : Part → Bool} {r0 : State} (h_s : Keeps A r0 s) (p_axes : A .axes = true := by first | assumption | rfl)
    (p_ranger : A .ranger = true := by first | assumption | rfl) (p_power : A .power = true := by first | assumption | rfl) : Keeps A r0 (applyZones s) := by
  unfold applyZones
  simp +contextual (maxDischargeDepth := 60) [SameBut, SameLists, *]

@[simp ↓] theorem execThermalShutDown_keeps (s : State) {A : Part → Bool} {r0 : State} (h_s : Keeps A r0 s)
    (p_ring : A .ring = true := by first | assumption | rfl) (p_power : A .power = true := by first | assumption | rfl) : OutKeeps A r0 (execThermalShutDown s) := by
  unfold execThermalShutDown
  split <;> simp (maxDischargeDepth := 60) [SameBut, SameLists, *]

@[simp ↓] theorem execSeatDetect_keeps (s : State) {A : Part → Bool} {r0 : State} (h_s : Keeps A r0 s)
    (p_ring : A .ring = true := by first | assumption | rfl) (p_links : A .links = true := by first | assumption | rfl) (p_dict : A .dict = true := by first | assumption | rfl)
    (p_sec : A .sec = true := by first | assumption | rfl) (p_pair : A .pair = true := by first | assumption | rfl) (p_ranger : A .ranger = true := by first | assumption | rfl)
    (p_tally : A .tally = true := by first | assumption | rfl) (p_power : A .power = true := by first | assumption | rfl)
    (p_seat : A .seat = true := by first | assumption | rfl) : OutKeeps A r0 (execSeatDetect s) := by simp (maxDischargeDepth := 60) [execSeatDetect, SameBut, SameLists, *]

@[simp ↓] theorem execSeatDetectOpening_keeps (s : State) {A : Part → Bool} {r0 : State} (h_s : Keeps A r0 s)
    (p_power : A .power = true := by first | assumption | rfl)
    (p_seat : A .seat = true := by first | assumption | rfl) : OutKeeps A r0 (execSeatDetectOpening s) := by simp (maxDischargeDepth := 60) [execSeatDetectOpening, SameBut, SameLists, *]

end Sys2Proof.Machine
end

