-- ==== Sys2Proof/Laws/Keeps7.lean ====
section
/-! SUPPORT. What the operations of Streams.lean, FrontEnd.lean, Roles.lean, Commit.lean keep (see Keeps.lean): no part beyond those named as hypotheses changes. -/

namespace Sys2Proof.Machine

set_option Elab.async false

open Sys2Proof

set_option linter.unusedSimpArgs false
set_option linter.unusedVariables false
set_option linter.tactic.unusedName false

/-! ### Streams -/

@[simp ↓] theorem sendStateless_keeps (s : State) {A : Part → Bool} {r0 : State} (h_s : Keeps A r0 s)
    (p_links : A .links = true := by first | assumption | rfl) : Keeps A r0 (sendStateless s) := by simp (maxDischargeDepth := 60) [sendStateless, SameBut, SameLists, *]

@[simp ↓] theorem sendFrame_keeps (late : Bool) (s : State) {A : Part → Bool} {r0 : State} (h : Keeps A r0 s)
    (p_sawyer : A .sawyer = true := by first | assumption | rfl) (p_links : A .links = true := by first | assumption | rfl) (p_pair : A .pair = true := by first | assumption | rfl)
    (p_ranger : A .ranger = true := by first | assumption | rfl) : Keeps A r0 (sendFrame late s) := by
  unfold sendFrame
  split
  · exact h
  · extract_lets s1 b1 s2
    have h1 : Keeps A r0 s1 := by simp (maxDischargeDepth := 60) [SameBut, SameLists, s1, h, *]
    have h2 : Keeps A r0 s2 := by simp (maxDischargeDepth := 60) [SameBut, SameLists, s2, h1, *]
    split
    · simp (maxDischargeDepth := 60) [SameBut, SameLists, h2, *]
    · generalize s2.frameData = q
      obtain ⟨data, clamp⟩ := q
      have hc : ∀ w c l, Keeps A r0 { s2 with sawyer := w, pair := { s2.pair with riseClamp := c, sentFrames := keepN 16 l } } := by
        intro w c l
        refine h2.of_parts (by simp [SameBut, *]) rfl rfl rfl fun k => ?_
        exact { k with sentFrames := keepN_le 16 _ }
      exact keeps_ite (canSendCycle_keeps _ _ _ _ (canSendCycle_keeps _ _ _ _ (hc _ _ _))) (canSendCycle_keeps _ _ _ _ (hc _ _ _))

@[simp ↓] theorem sendHeartbeat_keeps (s : State) {A : Part → Bool} {r0 : State} (h_s : Keeps A r0 s)
    (p_pair : A .pair = true := by first | assumption | rfl) : Keeps A r0 (sendHeartbeat s) := by simp (maxDischargeDepth := 60) [sendHeartbeat, SameBut, SameLists, *]

@[simp ↓] theorem sendMissing_keeps (s : State) {A : Part → Bool} {r0 : State} (h_s : Keeps A r0 s)
    (p_pair : A .pair = true := by first | assumption | rfl) : Keeps A r0 (sendMissing s) := by simp (maxDischargeDepth := 60) [sendMissing, SameBut, SameLists, *]

/-! ### FrontEnd -/

@[simp ↓] theorem effAutoZero_keeps (s : State) {A : Part → Bool} {r0 : State} (h_s : Keeps A r0 s)
    (p_fe : A .fe = true := by first | assumption | rfl) : Keeps A r0 (effAutoZero s) := by simp [effAutoZero, SameBut, SameLists, *]

@[simp ↓] theorem execAutoZeroTimer_keeps (s : State) {A : Part → Bool} {r0 : State} (h_s : Keeps A r0 s)
    (p_fe : A .fe = true := by first | assumption | rfl) : OutKeeps A r0 (execAutoZeroTimer s) := by simp (maxDischargeDepth := 60) [execAutoZeroTimer, SameBut, SameLists, *]

@[simp ↓] theorem execAutoZeroStart_keeps (s : State) {A : Part → Bool} {r0 : State} (h_s : Keeps A r0 s)
    (p_fe : A .fe = true := by first | assumption | rfl) : OutKeeps A r0 (execAutoZeroStart s) := by simp (maxDischargeDepth := 60) [execAutoZeroStart, SameBut, SameLists, *]

@[simp ↓] theorem execAutoZeroComplete_keeps (mainOffset hallOffset baseplate : Int) (s : State) {A : Part → Bool} {r0 : State} (h_s : Keeps A r0 s)
    (p_fe : A .fe = true := by first | assumption | rfl) : OutKeeps A r0 (execAutoZeroComplete mainOffset hallOffset baseplate s) := by simp (maxDischargeDepth := 60) [execAutoZeroComplete, SameBut, SameLists, *]

@[simp ↓] theorem execInServiceZero_keeps (s : State) {A : Part → Bool} {r0 : State} (h_s : Keeps A r0 s)
    (p_fe : A .fe = true := by first | assumption | rfl) : OutKeeps A r0 (execInServiceZero s) := by simp (maxDischargeDepth := 60) [execInServiceZero, SameBut, SameLists, *]

@[simp ↓] theorem mainRange_keeps (main : Int) (s : State) {A : Part → Bool} {r0 : State} (h_s : Keeps A r0 s)
    (p_fe : A .fe = true := by first | assumption | rfl) (p_ranger : A .ranger = true := by first | assumption | rfl) : Keeps A r0 (mainRange main s).2 := by
  unfold mainRange
  (repeat' split) <;> simp (maxDischargeDepth := 60) [SameBut, SameLists, *]

@[simp ↓] theorem heldMain_keeps (hold : Bool) (main : Int) (s : State) {A : Part → Bool} {r0 : State} (h_s : Keeps A r0 s)
    : Keeps A r0 (heldMain hold main s).2 := by
  unfold heldMain
  repeat' first
    | (simp +contextual (maxDischargeDepth := 60) [SameBut, SameLists, *]; done)
    | (rename_i e; have e := congrArg Prod.snd e; dsimp only at e; subst e)
    | split
    | (refine keeps_foldl (fun _ _ _ => ?_) ?_)
    | dsimp only

@[simp ↓] theorem currentCheck_keeps (s : State) {A : Part → Bool} {r0 : State} (h_s : Keeps A r0 s) (p_fe : A .fe = true := by first | assumption | rfl)
    (p_ranger : A .ranger = true := by first | assumption | rfl) : Keeps A r0 (currentCheck s) := by simp (maxDischargeDepth := 60) [currentCheck, SameBut, SameLists, *]

@[simp ↓] theorem voltageCheck_keeps (s : State) {A : Part → Bool} {r0 : State} (h_s : Keeps A r0 s) (p_fe : A .fe = true := by first | assumption | rfl)
    (p_ranger : A .ranger = true := by first | assumption | rfl) : Keeps A r0 (voltageCheck s) := by simp (maxDischargeDepth := 60) [voltageCheck, SameBut, SameLists, *]

@[simp ↓] theorem weldCycle_keeps (s : State) {A : Part → Bool} {r0 : State} (h_s : Keeps A r0 s)
    (p_fe : A .fe = true := by first | assumption | rfl) : Keeps A r0 (weldCycle s) := by simp (maxDischargeDepth := 60) [weldCycle, SameBut, SameLists, *]

@[simp ↓] theorem positionClears_keeps (k : Nat) (s : State) {A : Part → Bool} {r0 : State} (h_s : Keeps A r0 s)
    (p_ranger : A .ranger = true := by first | assumption | rfl) : Keeps A r0 (positionClears k s) := by simp (maxDischargeDepth := 60) [positionClears, SameBut, SameLists, *]

@[simp ↓] theorem contactorClears_keeps (s : State) {A : Part → Bool} {r0 : State} (h_s : Keeps A r0 s)
    (p_ranger : A .ranger = true := by first | assumption | rfl) : Keeps A r0 (contactorClears s) := by
  unfold contactorClears
  simp +contextual (maxDischargeDepth := 60) [SameBut, SameLists, *]

@[simp ↓] theorem ownCompare_keeps (limitsOk : Bool) (s : State) {A : Part → Bool} {r0 : State} (h_s : Keeps A r0 s)
    (p_fe : A .fe = true := by first | assumption | rfl) (p_fb : A .fb = true := by first | assumption | rfl)
    (p_ranger : A .ranger = true := by first | assumption | rfl) : Keeps A r0 (ownCompare limitsOk s) := by simp (maxDischargeDepth := 60) [ownCompare, SameBut, SameLists, *]

@[simp ↓] theorem closeKp_keeps (s : State) {A : Part → Bool} {r0 : State} (h_s : Keeps A r0 s)
    (p_fe : A .fe = true := by first | assumption | rfl) : Keeps A r0 (closeKp s) := by simp [closeKp, *]

@[simp ↓] theorem startInjection_keeps (s : State) {A : Part → Bool} {r0 : State} (h_s : Keeps A r0 s) (p_fe : A .fe = true := by first | assumption | rfl)
    (p_power : A .power = true := by first | assumption | rfl) : Keeps A r0 (startInjection s) := by
  unfold startInjection
  (repeat' split) <;> simp (maxDischargeDepth := 60) [SameBut, SameLists, *]

@[simp ↓] theorem auxStage_keeps (s : State) {A : Part → Bool} {r0 : State} (h_s : Keeps A r0 s) (p_core : A .core = true := by first | assumption | rfl)
    (p_ring : A .ring = true := by first | assumption | rfl) (p_heads : A .heads = true := by first | assumption | rfl) (p_fe : A .fe = true := by first | assumption | rfl)
    (p_cells : A .cells = true := by first | assumption | rfl) (p_borer : A .borer = true := by first | assumption | rfl) (p_thin : A .thin = true := by first | assumption | rfl)
    (p_fb : A .fb = true := by first | assumption | rfl) (p_dict : A .dict = true := by first | assumption | rfl) (p_ranger : A .ranger = true := by first | assumption | rfl)
    (p_tally : A .tally = true := by first | assumption | rfl)
    (p_power : A .power = true := by first | assumption | rfl) : Keeps A r0 (auxStage s) := by simp (maxDischargeDepth := 60) [auxStage, SameBut, SameLists, *]

@[simp ↓] theorem execFrontEndSample_keeps (x : StrobeSample) (aux : List (Nat × Option Int)) (s : State) {A : Part → Bool} {r0 : State} (h_s : Keeps A r0 s)
    (p_core : A .core = true := by first | assumption | rfl) (p_ring : A .ring = true := by first | assumption | rfl) (p_heads : A .heads = true := by first | assumption | rfl)
    (p_fe : A .fe = true := by first | assumption | rfl) (p_cells : A .cells = true := by first | assumption | rfl) (p_points : A .points = true := by first | assumption | rfl)
    (p_borer : A .borer = true := by first | assumption | rfl) (p_thin : A .thin = true := by first | assumption | rfl) (p_fb : A .fb = true := by first | assumption | rfl)
    (p_dict : A .dict = true := by first | assumption | rfl) (p_ranger : A .ranger = true := by first | assumption | rfl) (p_tally : A .tally = true := by first | assumption | rfl)
    (p_power : A .power = true := by first | assumption | rfl) : OutKeeps A r0 (execFrontEndSample x aux s) := by
  unfold execFrontEndSample
  simp +contextual (maxDischargeDepth := 60) [SameBut, SameLists, *]

@[simp ↓] theorem execFastSample_keeps (main hall : Int) (s : State) {A : Part → Bool} {r0 : State} (h_s : Keeps A r0 s)
    (p_core : A .core = true := by first | assumption | rfl) (p_ring : A .ring = true := by first | assumption | rfl) (p_heads : A .heads = true := by first | assumption | rfl)
    (p_fe : A .fe = true := by first | assumption | rfl) (p_cells : A .cells = true := by first | assumption | rfl) (p_borer : A .borer = true := by first | assumption | rfl)
    (p_thin : A .thin = true := by first | assumption | rfl) (p_fb : A .fb = true := by first | assumption | rfl) (p_axes : A .axes = true := by first | assumption | rfl)
    (p_dict : A .dict = true := by first | assumption | rfl) (p_ranger : A .ranger = true := by first | assumption | rfl) (p_tally : A .tally = true := by first | assumption | rfl)
    (p_power : A .power = true := by first | assumption | rfl) : OutKeeps A r0 (execFastSample main hall s) := by simp (maxDischargeDepth := 60) [execFastSample, SameBut, SameLists, *]

@[simp ↓] theorem voidHalf_keeps (s : State) {A : Part → Bool} {r0 : State} (h_s : Keeps A r0 s)
    (p_fe : A .fe = true := by first | assumption | rfl) : Keeps A r0 (voidHalf s) := by simp [voidHalf, SameBut, SameLists, *]

@[simp ↓] theorem execAuxContactChange_keeps (k : Nat) (no nc : Bool) (s : State) {A : Part → Bool} {r0 : State} (h : Keeps A r0 s)
    (p_core : A .core = true := by first | assumption | rfl) (p_ring : A .ring = true := by first | assumption | rfl) (p_heads : A .heads = true := by first | assumption | rfl)
    (p_fe : A .fe = true := by first | assumption | rfl) (p_cells : A .cells = true := by first | assumption | rfl) (p_borer : A .borer = true := by first | assumption | rfl)
    (p_thin : A .thin = true := by first | assumption | rfl) (p_fb : A .fb = true := by first | assumption | rfl) (p_dict : A .dict = true := by first | assumption | rfl)
    (p_ranger : A .ranger = true := by first | assumption | rfl) (p_tally : A .tally = true := by first | assumption | rfl)
    (p_power : A .power = true := by first | assumption | rfl) : OutKeeps A r0 (execAuxContactChange k no nc s) := by
  unfold execAuxContactChange
  extract_lets was wasOpen old s1 s2 s3 b1 s4 s5 s6 b2 s7
  have h1 : Keeps A r0 s1 := by simp (maxDischargeDepth := 60) [SameBut, SameLists, s1, h, *]
  have h2 : Keeps A r0 s2 := by simp (maxDischargeDepth := 60) [SameBut, SameLists, s2, h1, *]
  have h3 : Keeps A r0 s3 := by simp (maxDischargeDepth := 60) [SameBut, SameLists, s3, h2, *]
  have h4 : Keeps A r0 s4 := by simp (maxDischargeDepth := 60) [SameBut, SameLists, s4, h3, *]
  have h6 : Keeps A r0 s6 := by simp (maxDischargeDepth := 60) [SameBut, SameLists, s6, s5, h4, *]
  have h7 : Keeps A r0 s7 := by simp (maxDischargeDepth := 60) [SameBut, SameLists, s7, h6, *]
  simp (maxDischargeDepth := 60) [SameBut, SameLists, h7, *]

@[simp ↓] theorem execAuxiliaryContactFault_keeps (k : Nat) (s : State) {A : Part → Bool} {r0 : State} (h_s : Keeps A r0 s)
    (p_ranger : A .ranger = true := by first | assumption | rfl) : OutKeeps A r0 (execAuxiliaryContactFault k s) := by simp (maxDischargeDepth := 60) [execAuxiliaryContactFault, SameBut, SameLists, *]

@[simp ↓] theorem execCoilDriveFault_keeps (k : Nat) (within : Bool) (s : State) {A : Part → Bool} {r0 : State} (h_s : Keeps A r0 s)
    (p_ranger : A .ranger = true := by first | assumption | rfl) : OutKeeps A r0 (execCoilDriveFault k within s) := by simp (maxDischargeDepth := 60) [execCoilDriveFault, SameBut, SameLists, *]

@[simp ↓] theorem execPullInEnd_keeps (k : Nat) (s : State) {A : Part → Bool} {r0 : State} (h_s : Keeps A r0 s)
    (p_fe : A .fe = true := by first | assumption | rfl) : OutKeeps A r0 (execPullInEnd k s) := by simp (maxDischargeDepth := 60) [execPullInEnd, SameBut, SameLists, *]

@[simp ↓] theorem execCloseTimeout_keeps (s : State) {A : Part → Bool} {r0 : State} (h_s : Keeps A r0 s)
    (p_core : A .core = true := by first | assumption | rfl) (p_ring : A .ring = true := by first | assumption | rfl) (p_heads : A .heads = true := by first | assumption | rfl)
    (p_fe : A .fe = true := by first | assumption | rfl) (p_cells : A .cells = true := by first | assumption | rfl) (p_borer : A .borer = true := by first | assumption | rfl)
    (p_thin : A .thin = true := by first | assumption | rfl) (p_fb : A .fb = true := by first | assumption | rfl) (p_dict : A .dict = true := by first | assumption | rfl)
    (p_ranger : A .ranger = true := by first | assumption | rfl) (p_tally : A .tally = true := by first | assumption | rfl)
    (p_power : A .power = true := by first | assumption | rfl) : OutKeeps A r0 (execCloseTimeout s) := by simp (maxDischargeDepth := 60) [execCloseTimeout, SameBut, SameLists, *]

@[simp ↓] theorem execOpenRequestTimeout_keeps (s : State) {A : Part → Bool} {r0 : State} (h_s : Keeps A r0 s)
    (p_core : A .core = true := by first | assumption | rfl) (p_ring : A .ring = true := by first | assumption | rfl) (p_heads : A .heads = true := by first | assumption | rfl)
    (p_fe : A .fe = true := by first | assumption | rfl) (p_cells : A .cells = true := by first | assumption | rfl) (p_borer : A .borer = true := by first | assumption | rfl)
    (p_thin : A .thin = true := by first | assumption | rfl) (p_fb : A .fb = true := by first | assumption | rfl) (p_dict : A .dict = true := by first | assumption | rfl)
    (p_ranger : A .ranger = true := by first | assumption | rfl) (p_tally : A .tally = true := by first | assumption | rfl)
    (p_power : A .power = true := by first | assumption | rfl) : OutKeeps A r0 (execOpenRequestTimeout s) := by simp (maxDischargeDepth := 60) [execOpenRequestTimeout, SameBut, SameLists, *]

@[simp ↓] theorem declareWelded_keeps (s : State) (k : Nat) {A : Part → Bool} {r0 : State} (h_s : Keeps A r0 s)
    (p_fe : A .fe = true := by first | assumption | rfl)
    (p_ranger : A .ranger = true := by first | assumption | rfl) : Keeps A r0 (declareWelded s k) := by simp [declareWelded, *]

@[simp ↓] theorem execWeldCheckAuxTimeout_keeps (s : State) {A : Part → Bool} {r0 : State} (h_s : Keeps A r0 s)
    (p_fe : A .fe = true := by first | assumption | rfl) (p_ranger : A .ranger = true := by first | assumption | rfl) : OutKeeps A r0 (execWeldCheckAuxTimeout s) := by
  unfold execWeldCheckAuxTimeout
  simp +contextual (maxDischargeDepth := 60) [SameBut, SameLists, *]

@[simp ↓] theorem weldOver_keeps (s : State) {A : Part → Bool} {r0 : State} (h_s : Keeps A r0 s) (p_fe : A .fe = true := by first | assumption | rfl)
    : Keeps A r0 (weldOver s) := by
  unfold weldOver
  repeat' first
    | (simp +contextual (maxDischargeDepth := 60) [SameBut, SameLists, *]; done)
    | (rename_i e; have e := congrArg Prod.snd e; dsimp only at e; subst e)
    | split
    | (refine keeps_foldl (fun _ _ _ => ?_) ?_)
    | dsimp only

@[simp ↓] theorem weldInconclusive_keeps (s : State) {A : Part → Bool} {r0 : State} (h_s : Keeps A r0 s) (p_fe : A .fe = true := by first | assumption | rfl)
    (p_ranger : A .ranger = true := by first | assumption | rfl) : Keeps A r0 (weldInconclusive s) := by
  unfold weldInconclusive
  repeat' first
    | (simp +contextual (maxDischargeDepth := 60) [SameBut, SameLists, *]; done)
    | (rename_i e; have e := congrArg Prod.snd e; dsimp only at e; subst e)
    | split
    | (refine keeps_foldl (fun _ _ _ => ?_) ?_)
    | dsimp only

@[simp ↓] theorem decideWeld_keeps (k : Nat) (sum : Int) (s : State) {A : Part → Bool} {r0 : State} (h_s : Keeps A r0 s)
    (p_fe : A .fe = true := by first | assumption | rfl)
    (p_ranger : A .ranger = true := by first | assumption | rfl) : Keeps A r0 (decideWeld k sum s) := by simp (maxDischargeDepth := 60) [decideWeld, SameBut, SameLists, *]

@[simp ↓] theorem execWeldCheckVoltageStage_keeps (s : State) {A : Part → Bool} {r0 : State} (h_s : Keeps A r0 s)
    (p_fe : A .fe = true := by first | assumption | rfl)
    (p_ranger : A .ranger = true := by first | assumption | rfl) : OutKeeps A r0 (execWeldCheckVoltageStage s) := by simp (maxDischargeDepth := 60) [execWeldCheckVoltageStage, SameBut, SameLists, *]

@[simp ↓] theorem execWeldWaitExpiry_keeps (s : State) {A : Part → Bool} {r0 : State} (h_s : Keeps A r0 s)
    (p_fe : A .fe = true := by first | assumption | rfl)
    (p_ranger : A .ranger = true := by first | assumption | rfl) : OutKeeps A r0 (execWeldWaitExpiry s) := by simp (maxDischargeDepth := 60) [execWeldWaitExpiry, SameBut, SameLists, *]

@[simp ↓] theorem execInsulationHalfPeriodEnd_keeps (leak : Int) (drift cap pos : Nat) (s : State) {A : Part → Bool} {r0 : State} (h_s : Keeps A r0 s)
    (p_fe : A .fe = true := by first | assumption | rfl) (p_ranger : A .ranger = true := by first | assumption | rfl)
    : OutKeeps A r0 (execInsulationHalfPeriodEnd leak drift cap pos s) := by
  unfold execInsulationHalfPeriodEnd
  (repeat' split) <;> simp (maxDischargeDepth := 60) [SameBut, SameLists, *]

@[simp ↓] theorem execInsulationResultStale_keeps (s : State) {A : Part → Bool} {r0 : State} (h_s : Keeps A r0 s)
    (p_fe : A .fe = true := by first | assumption | rfl)
    (p_ranger : A .ranger = true := by first | assumption | rfl) : OutKeeps A r0 (execInsulationResultStale s) := by simp (maxDischargeDepth := 60) [execInsulationResultStale, SameBut, SameLists, *]

@[simp ↓] theorem effInjection_keeps (on : Bool) (s : State) {A : Part → Bool} {r0 : State} (h_s : Keeps A r0 s)
    (p_fe : A .fe = true := by first | assumption | rfl) (p_ranger : A .ranger = true := by first | assumption | rfl)
    (p_power : A .power = true := by first | assumption | rfl) : Keeps A r0 (effInjection on s) := by simp (maxDischargeDepth := 60) [effInjection, SameBut, SameLists, *]

@[simp ↓] theorem execChecksPass_keeps (s : State) {A : Part → Bool} {r0 : State} (h_s : Keeps A r0 s)
    (p_core : A .core = true := by first | assumption | rfl) (p_ring : A .ring = true := by first | assumption | rfl) (p_heads : A .heads = true := by first | assumption | rfl)
    (p_fe : A .fe = true := by first | assumption | rfl) (p_cells : A .cells = true := by first | assumption | rfl) (p_borer : A .borer = true := by first | assumption | rfl)
    (p_thin : A .thin = true := by first | assumption | rfl) (p_fb : A .fb = true := by first | assumption | rfl) (p_dict : A .dict = true := by first | assumption | rfl)
    (p_ranger : A .ranger = true := by first | assumption | rfl) (p_tally : A .tally = true := by first | assumption | rfl)
    (p_power : A .power = true := by first | assumption | rfl) : OutKeeps A r0 (execChecksPass s) := by simp (maxDischargeDepth := 60) [execChecksPass, SameBut, SameLists, *]

@[simp ↓] theorem execPrecheckTimeout_keeps (s : State) {A : Part → Bool} {r0 : State} (h_s : Keeps A r0 s)
    (p_core : A .core = true := by first | assumption | rfl) (p_ring : A .ring = true := by first | assumption | rfl) (p_heads : A .heads = true := by first | assumption | rfl)
    (p_fe : A .fe = true := by first | assumption | rfl) (p_cells : A .cells = true := by first | assumption | rfl) (p_borer : A .borer = true := by first | assumption | rfl)
    (p_thin : A .thin = true := by first | assumption | rfl) (p_fb : A .fb = true := by first | assumption | rfl) (p_dict : A .dict = true := by first | assumption | rfl)
    (p_ranger : A .ranger = true := by first | assumption | rfl) (p_tally : A .tally = true := by first | assumption | rfl)
    (p_power : A .power = true := by first | assumption | rfl) : OutKeeps A r0 (execPrecheckTimeout s) := by simp (maxDischargeDepth := 60) [execPrecheckTimeout, SameBut, SameLists, *]

/-! ### Roles -/

@[simp ↓] theorem raisePair_keeps (kind : Nat) (s : State) {A : Part → Bool} {r0 : State} (h_s : Keeps A r0 s)
    (p_ranger : A .ranger = true := by first | assumption | rfl) : Keeps A r0 (raisePair kind s) := by
  unfold raisePair
  repeat' first
    | (simp +contextual (maxDischargeDepth := 60) [SameBut, SameLists, *]; done)
    | (rename_i e; have e := congrArg Prod.snd e; dsimp only at e; subst e)
    | split
    | (refine keeps_foldl (fun _ _ _ => ?_) ?_)
    | dsimp only

@[simp ↓] theorem setRole_keeps (r : Role) (cause : Option Nat) (s : State) {A : Part → Bool} {r0 : State} (h : Keeps A r0 s)
    (p_pair : A .pair = true := by first | assumption | rfl) (p_tally : A .tally = true := by first | assumption | rfl) : Keeps A r0 (setRole r cause s) := by
  unfold setRole drawInt
  split
  · exact h
  · cases cause <;> dsimp only <;> simp (maxDischargeDepth := 60) [SameBut, SameLists, h, *]

@[simp ↓] theorem swapDone_keeps (s : State) {A : Part → Bool} {r0 : State} (h_s : Keeps A r0 s) (p_pair : A .pair = true := by first | assumption | rfl)
    (p_ranger : A .ranger = true := by first | assumption | rfl) : Keeps A r0 (swapDone s) := by simp [swapDone, SameBut, SameLists, *]

@[simp ↓] theorem releaseHighSides_keeps (s : State) {A : Part → Bool} {r0 : State} (h_s : Keeps A r0 s)
    (p_fe : A .fe = true := by first | assumption | rfl) : Keeps A r0 (releaseHighSides s) := by simp (maxDischargeDepth := 60) [releaseHighSides, SameBut, SameLists, *]

@[simp ↓] theorem driveCoils_keeps (s : State) {A : Part → Bool} {r0 : State} (h_s : Keeps A r0 s)
    (p_fe : A .fe = true := by first | assumption | rfl) : Keeps A r0 (driveCoils s) := by simp [driveCoils, SameBut, SameLists, *]

@[simp ↓] theorem giveOrigination_keeps (s : State) {A : Part → Bool} {r0 : State} (h_s : Keeps A r0 s)
    (p_ring : A .ring = true := by first | assumption | rfl) (p_heads : A .heads = true := by first | assumption | rfl)
    : Keeps A r0 (giveOrigination s) := by simp (maxDischargeDepth := 60) [giveOrigination, SameBut, SameLists, *]

@[simp ↓] theorem splitHeads_keeps (k : Nat) (s : State) {A : Part → Bool} {r0 : State} (h_s : Keeps A r0 s)
    (p_ring : A .ring = true := by first | assumption | rfl) (p_heads : A .heads = true := by first | assumption | rfl)
    (p_cruiser : A .cruiser = true := by first | assumption | rfl) : Keeps A r0 (splitHeads k s) := by
  unfold splitHeads
  simp +contextual (maxDischargeDepth := 60) [SameBut, SameLists, *]

@[simp ↓] theorem beginOrigination_keeps (both : Bool) (s : State) {A : Part → Bool} {r0 : State} (h_s : Keeps A r0 s)
    (p_ring : A .ring = true := by first | assumption | rfl) (p_pair : A .pair = true := by first | assumption | rfl)
    : Keeps A r0 (beginOrigination both s) := by
  unfold beginOrigination
  repeat' first
    | (simp +contextual (maxDischargeDepth := 60) [SameBut, SameLists, *]; done)
    | (rename_i e; have e := congrArg Prod.snd e; dsimp only at e; subst e)
    | split
    | (refine keeps_foldl (fun _ _ _ => ?_) ?_)
    | dsimp only

@[simp ↓] theorem takeOrigination_keeps (s : State) {A : Part → Bool} {r0 : State} (h_s : Keeps A r0 s)
    (p_ring : A .ring = true := by first | assumption | rfl) (p_heads : A .heads = true := by first | assumption | rfl) (p_cruiser : A .cruiser = true := by first | assumption | rfl)
    (p_pair : A .pair = true := by first | assumption | rfl) : Keeps A r0 (takeOrigination s) := by
  unfold takeOrigination
  split <;> simp (maxDischargeDepth := 60) [SameBut, SameLists, *]

@[simp ↓] theorem originateAlone_keeps (s : State) {A : Part → Bool} {r0 : State} (h_s : Keeps A r0 s)
    (p_ring : A .ring = true := by first | assumption | rfl) (p_heads : A .heads = true := by first | assumption | rfl) (p_cruiser : A .cruiser = true := by first | assumption | rfl)
    (p_pair : A .pair = true := by first | assumption | rfl)
    (p_ranger : A .ranger = true := by first | assumption | rfl) : Keeps A r0 (originateAlone s) := by simp (maxDischargeDepth := 60) [originateAlone, SameBut, SameLists, *]

@[simp ↓] theorem originateFresh_keeps (s : State) {A : Part → Bool} {r0 : State} (h_s : Keeps A r0 s)
    (p_ring : A .ring = true := by first | assumption | rfl) : Keeps A r0 (originateFresh s) := by simp [originateFresh, *]

@[simp ↓] theorem endHandOver_keeps (cause : Nat) (s : State) {A : Part → Bool} {r0 : State} (h_s : Keeps A r0 s)
    (p_pair : A .pair = true := by first | assumption | rfl)
    (p_ranger : A .ranger = true := by first | assumption | rfl) : Keeps A r0 (endHandOver cause s) := by simp [endHandOver, SameBut, SameLists, *]

@[simp ↓] theorem abortHandOver_keeps (cause : Nat) (tell : Bool) (s : State) {A : Part → Bool} {r0 : State} (h_s : Keeps A r0 s)
    (p_fe : A .fe = true := by first | assumption | rfl) (p_pair : A .pair = true := by first | assumption | rfl) (p_ranger : A .ranger = true := by first | assumption | rfl)
    (p_tally : A .tally = true := by first | assumption | rfl) : Keeps A r0 (abortHandOver cause tell s) := by
  unfold abortHandOver
  repeat' first
    | (simp +contextual (maxDischargeDepth := 60) [SameBut, SameLists, *]; done)
    | (rename_i e; have e := congrArg Prod.snd e; dsimp only at e; subst e)
    | split
    | (refine keeps_foldl (fun _ _ _ => ?_) ?_)
    | dsimp only

@[simp ↓] theorem settleOverlap_keeps (cause : Nat) (mine : Bool) (s : State) {A : Part → Bool} {r0 : State} (h_s : Keeps A r0 s)
    (p_pair : A .pair = true := by first | assumption | rfl) (p_ranger : A .ranger = true := by first | assumption | rfl)
    (p_tally : A .tally = true := by first | assumption | rfl) : Keeps A r0 (settleOverlap cause mine s) := by simp (maxDischargeDepth := 60) [settleOverlap, SameBut, SameLists, *]

@[simp ↓] theorem openRound_keeps (active : Bool) (s : State) {A : Part → Bool} {r0 : State} (h_s : Keeps A r0 s)
    (p_pair : A .pair = true := by first | assumption | rfl)
    (p_tally : A .tally = true := by first | assumption | rfl) : Keeps A r0 (openRound active s) := by simp [openRound, SameBut, SameLists, *]

@[simp ↓] theorem claimWon_keeps (cause : Option Nat) (s : State) {A : Part → Bool} {r0 : State} (h_s : Keeps A r0 s)
    (p_ring : A .ring = true := by first | assumption | rfl) (p_pair : A .pair = true := by first | assumption | rfl)
    (p_tally : A .tally = true := by first | assumption | rfl) : Keeps A r0 (claimWon cause s) := by simp [claimWon, *]

@[simp ↓] theorem beginTakeover_keeps (cause : Nat) (s : State) {A : Part → Bool} {r0 : State} (h_s : Keeps A r0 s)
    (p_fe : A .fe = true := by first | assumption | rfl) (p_pair : A .pair = true := by first | assumption | rfl)
    (p_ranger : A .ranger = true := by first | assumption | rfl) (p_tally : A .tally = true := by first | assumption | rfl)
    : Keeps A r0 (beginTakeover cause s) := by simp (maxDischargeDepth := 60) [beginTakeover, SameBut, SameLists, *]

@[simp ↓] theorem claimLost_keeps (cause : Option Nat) (s : State) {A : Part → Bool} {r0 : State} (h_s : Keeps A r0 s)
    (p_pair : A .pair = true := by first | assumption | rfl) (p_ranger : A .ranger = true := by first | assumption | rfl)
    (p_tally : A .tally = true := by first | assumption | rfl) : Keeps A r0 (claimLost cause s) := by simp [claimLost, *]

@[simp ↓] theorem effGrant_keeps (s : State) {A : Part → Bool} {r0 : State} (h_s : Keeps A r0 s)
    (p_ring : A .ring = true := by first | assumption | rfl) (p_fe : A .fe = true := by first | assumption | rfl)
    (p_pair : A .pair = true := by first | assumption | rfl) (p_ranger : A .ranger = true := by first | assumption | rfl)
    (p_tally : A .tally = true := by first | assumption | rfl) : Keeps A r0 (effGrant s) := by simp (maxDischargeDepth := 60) [effGrant, SameBut, SameLists, *]

@[simp ↓] theorem effDenied_keeps (s : State) {A : Part → Bool} {r0 : State} (h_s : Keeps A r0 s) (p_pair : A .pair = true := by first | assumption | rfl)
    (p_ranger : A .ranger = true := by first | assumption | rfl)
    (p_tally : A .tally = true := by first | assumption | rfl) : Keeps A r0 (effDenied s) := by simp (maxDischargeDepth := 60) [effDenied, SameBut, SameLists, *]

@[simp ↓] theorem execClaimTimeout_keeps (s : State) {A : Part → Bool} {r0 : State} (h_s : Keeps A r0 s)
    (p_ring : A .ring = true := by first | assumption | rfl) (p_pair : A .pair = true := by first | assumption | rfl) (p_ranger : A .ranger = true := by first | assumption | rfl)
    (p_tally : A .tally = true := by first | assumption | rfl) : OutKeeps A r0 (execClaimTimeout s) := by simp (maxDischargeDepth := 60) [execClaimTimeout, SameBut, SameLists, *]

@[simp ↓] theorem takeOverIfGone_keeps (s : State) {A : Part → Bool} {r0 : State} (h_s : Keeps A r0 s)
    (p_fe : A .fe = true := by first | assumption | rfl) (p_pair : A .pair = true := by first | assumption | rfl)
    (p_ranger : A .ranger = true := by first | assumption | rfl) (p_tally : A .tally = true := by first | assumption | rfl)
    : Keeps A r0 (takeOverIfGone s) := by
  unfold takeOverIfGone
  (repeat' split) <;> simp (maxDischargeDepth := 60) [SameBut, SameLists, *]

@[simp ↓] theorem partnerLost_keeps (s : State) {A : Part → Bool} {r0 : State} (h_s : Keeps A r0 s)
    (p_ranger : A .ranger = true := by first | assumption | rfl) : Keeps A r0 (partnerLost s) := by simp [partnerLost, *]

@[simp ↓] theorem lostRows_keeps (s : State) {A : Part → Bool} {r0 : State} (h_s : Keeps A r0 s) (p_fe : A .fe = true := by first | assumption | rfl)
    (p_pair : A .pair = true := by first | assumption | rfl) (p_ranger : A .ranger = true := by first | assumption | rfl)
    (p_tally : A .tally = true := by first | assumption | rfl) : Keeps A r0 (lostRows s) := by
  unfold lostRows
  split <;> simp (maxDischargeDepth := 60) [SameBut, SameLists, *]

@[simp ↓] theorem lostHeartbeat_keeps (s : State) {A : Part → Bool} {r0 : State} (h_s : Keeps A r0 s) (p_fe : A .fe = true := by first | assumption | rfl)
    (p_pair : A .pair = true := by first | assumption | rfl) (p_ranger : A .ranger = true := by first | assumption | rfl)
    (p_tally : A .tally = true := by first | assumption | rfl) : Keeps A r0 (lostHeartbeat s) := by simp (maxDischargeDepth := 60) [lostHeartbeat, SameBut, SameLists, *]

@[simp ↓] theorem execDenialHoldEnd_keeps (s : State) {A : Part → Bool} {r0 : State} (h_s : Keeps A r0 s) (p_fe : A .fe = true := by first | assumption | rfl)
    (p_pair : A .pair = true := by first | assumption | rfl) (p_ranger : A .ranger = true := by first | assumption | rfl)
    (p_tally : A .tally = true := by first | assumption | rfl) : OutKeeps A r0 (execDenialHoldEnd s) := by
  unfold execDenialHoldEnd
  split <;> simp (maxDischargeDepth := 60) [SameBut, SameLists, *]

@[simp ↓] theorem execHeartbeatLost_keeps (s : State) {A : Part → Bool} {r0 : State} (h_s : Keeps A r0 s) (p_fe : A .fe = true := by first | assumption | rfl)
    (p_pair : A .pair = true := by first | assumption | rfl) (p_ranger : A .ranger = true := by first | assumption | rfl)
    (p_tally : A .tally = true := by first | assumption | rfl) : OutKeeps A r0 (execHeartbeatLost s) := by simp (maxDischargeDepth := 60) [execHeartbeatLost, SameBut, SameLists, *]

@[simp ↓] theorem execPartnerSenseChange_keeps (sense : Sense) (s : State) {A : Part → Bool} {r0 : State} (h_s : Keeps A r0 s)
    (p_fe : A .fe = true := by first | assumption | rfl) (p_pair : A .pair = true := by first | assumption | rfl) (p_ranger : A .ranger = true := by first | assumption | rfl)
    (p_tally : A .tally = true := by first | assumption | rfl) : OutKeeps A r0 (execPartnerSenseChange sense s) := by simp (maxDischargeDepth := 60) [execPartnerSenseChange, SameBut, SameLists, *]

@[simp ↓] theorem execRoleDecisionTimeout_keeps (s : State) {A : Part → Bool} {r0 : State} (h_s : Keeps A r0 s)
    (p_ring : A .ring = true := by first | assumption | rfl) (p_pair : A .pair = true := by first | assumption | rfl) (p_ranger : A .ranger = true := by first | assumption | rfl)
    (p_tally : A .tally = true := by first | assumption | rfl) : OutKeeps A r0 (execRoleDecisionTimeout s) := by
  unfold execRoleDecisionTimeout
  repeat' first
    | (simp +contextual (maxDischargeDepth := 60) [SameBut, SameLists, *]; done)
    | (rename_i e; have e := congrArg Prod.snd e; dsimp only at e; subst e)
    | split
    | (refine keeps_foldl (fun _ _ _ => ?_) ?_)
    | dsimp only

@[simp ↓] theorem execPartnerSyncDetected_keeps (s : State) {A : Part → Bool} {r0 : State} (h_s : Keeps A r0 s)
    (p_pair : A .pair = true := by first | assumption | rfl) : OutKeeps A r0 (execPartnerSyncDetected s) := by simp (maxDischargeDepth := 60) [execPartnerSyncDetected, SameBut, SameLists, *]

@[simp ↓] theorem stepDownBoundary_keeps (s : State) {A : Part → Bool} {r0 : State} (h_s : Keeps A r0 s)
    (p_ring : A .ring = true := by first | assumption | rfl) (p_heads : A .heads = true := by first | assumption | rfl)
    (p_fe : A .fe = true := by first | assumption | rfl) (p_pair : A .pair = true := by first | assumption | rfl)
    (p_tally : A .tally = true := by first | assumption | rfl) : Keeps A r0 (stepDownBoundary s) := by
  unfold stepDownBoundary
  split <;> simp (maxDischargeDepth := 60) [SameBut, SameLists, *]

@[simp ↓] theorem originationBoundary_keeps (s : State) {A : Part → Bool} {r0 : State} (h_s : Keeps A r0 s)
    (p_ring : A .ring = true := by first | assumption | rfl) (p_heads : A .heads = true := by first | assumption | rfl) (p_cruiser : A .cruiser = true := by first | assumption | rfl)
    (p_pair : A .pair = true := by first | assumption | rfl) (p_ranger : A .ranger = true := by first | assumption | rfl) : Keeps A r0 (originationBoundary s) := by
  unfold originationBoundary
  split <;> simp (maxDischargeDepth := 60) [SameBut, SameLists, *]

/-! ### Commit -/

@[simp ↓] theorem effCommit_keeps (sess req type : Nat) (s : State) {A : Part → Bool} {r0 : State} (h_s : Keeps A r0 s)
    (p_dict : A .dict = true := by first | assumption | rfl)
    (p_pair : A .pair = true := by first | assumption | rfl) : Keeps A r0 (effCommit sess req type s) := by simp [effCommit, SameBut, SameLists, *]

@[simp ↓] theorem answerCommit_keeps (abort : Nat) (s : State) (c : CommitReq) {A : Part → Bool} {r0 : State} (h_s : Keeps A r0 s)
    (p_dict : A .dict = true := by first | assumption | rfl) : Keeps A r0 (answerCommit abort s c) := by simp [answerCommit, *]

@[simp ↓] theorem epochCell_keeps (slot nom axis new : Bool) (k : Nat) (s : State) {A : Part → Bool} {r0 : State} (h_s : Keeps A r0 s)
    (p_cells : A .cells = true := by first | assumption | rfl) (p_borer : A .borer = true := by first | assumption | rfl)
    : Keeps A r0 (epochCell slot nom axis new k s) := by simp (maxDischargeDepth := 60) [epochCell, SameBut, SameLists, *]

@[simp ↓] theorem loadEpoch_keeps (vals : Tab ObjVal) (first : Cycle) (s : State) {A : Part → Bool} {r0 : State} (h_s : Keeps A r0 s)
    (p_ring : A .ring = true := by first | assumption | rfl) (p_cells : A .cells = true := by first | assumption | rfl) (p_scaler : A .scaler = true := by first | assumption | rfl)
    (p_borer : A .borer = true := by first | assumption | rfl) (p_canopy : A .canopy = true := by first | assumption | rfl) (p_axes : A .axes = true := by first | assumption | rfl)
    (p_dict : A .dict = true := by first | assumption | rfl) (p_ranger : A .ranger = true := by first | assumption | rfl) (p_tally : A .tally = true := by first | assumption | rfl)
    (p_storage : A .storage = true := by first | assumption | rfl) : Keeps A r0 (loadEpoch vals first s) := by
  unfold loadEpoch
  simp +contextual (maxDischargeDepth := 60) [SameBut, SameLists, *]

@[simp ↓] theorem unstage_keeps (vals : Tab ObjVal) (s : State) {A : Part → Bool} {r0 : State} (h_s : Keeps A r0 s)
    (p_dict : A .dict = true := by first | assumption | rfl) : Keeps A r0 (unstage vals s) := by
  unfold unstage
  repeat' first
    | (simp +contextual (maxDischargeDepth := 60) [SameBut, SameLists, *]; done)
    | (rename_i e; have e := congrArg Prod.snd e; dsimp only at e; subst e)
    | split
    | (refine keeps_foldl (fun _ _ _ => ?_) ?_)
    | dsimp only

@[simp ↓] theorem commitBoundary_keeps (s : State) {A : Part → Bool} {r0 : State} (h_s : Keeps A r0 s)
    (p_ring : A .ring = true := by first | assumption | rfl) (p_cells : A .cells = true := by first | assumption | rfl) (p_scaler : A .scaler = true := by first | assumption | rfl)
    (p_borer : A .borer = true := by first | assumption | rfl) (p_canopy : A .canopy = true := by first | assumption | rfl) (p_axes : A .axes = true := by first | assumption | rfl)
    (p_dict : A .dict = true := by first | assumption | rfl) (p_ranger : A .ranger = true := by first | assumption | rfl) (p_tally : A .tally = true := by first | assumption | rfl)
    (p_storage : A .storage = true := by first | assumption | rfl) : Keeps A r0 (commitBoundary s) := by
  unfold commitBoundary
  simp +contextual (maxDischargeDepth := 60) [SameBut, SameLists, *]

end Sys2Proof.Machine
end

