-- ==== Sys2Proof/Laws/Keeps8.lean ====
section
/-! SUPPORT. What the operations of Thinning.lean, Lookout.lean, Cycle.lean keep (see Keeps.lean): no part beyond those named as hypotheses changes. -/

namespace Sys2Proof.Machine

set_option Elab.async false

open Sys2Proof

set_option linter.unusedSimpArgs false
set_option linter.unusedVariables false
set_option linter.tactic.unusedName false

/-! ### Thinning -/

@[simp ↓] theorem execTargetRecompute_keeps (s : State) {A : Part → Bool} {r0 : State} (h_s : Keeps A r0 s)
    (p_cells : A .cells = true := by first | assumption | rfl) : OutKeeps A r0 (execTargetRecompute s) := by
  unfold execTargetRecompute
  simp +contextual (maxDischargeDepth := 60) [SameBut, SameLists, *]

@[simp ↓] theorem decideSlot_keeps (n lead : Nat) (s : State) (p : Nat) {A : Part → Bool} {r0 : State} (h_s : Keeps A r0 s)
    (p_ring : A .ring = true := by first | assumption | rfl) (p_heads : A .heads = true := by first | assumption | rfl)
    (p_thin : A .thin = true := by first | assumption | rfl) : Keeps A r0 (decideSlot n lead s p) := by simp (maxDischargeDepth := 60) [decideSlot, SameBut, SameLists, *]

@[simp ↓] theorem execSlotDecision_keeps (s : State) {A : Part → Bool} {r0 : State} (h_s : Keeps A r0 s)
    (p_ring : A .ring = true := by first | assumption | rfl) (p_heads : A .heads = true := by first | assumption | rfl) (p_thin : A .thin = true := by first | assumption | rfl)
    (p_power : A .power = true := by first | assumption | rfl) : OutKeeps A r0 (execSlotDecision s) := by
  unfold execSlotDecision
  simp +contextual (maxDischargeDepth := 60) [SameBut, SameLists, *]

@[simp ↓] theorem execBleedSlotUnacknowledged_keeps (p : Nat) (s : State) {A : Part → Bool} {r0 : State} (h_s : Keeps A r0 s)
    (p_ring : A .ring = true := by first | assumption | rfl) (p_heads : A .heads = true := by first | assumption | rfl)
    (p_thin : A .thin = true := by first | assumption | rfl) : OutKeeps A r0 (execBleedSlotUnacknowledged p s) := by simp (maxDischargeDepth := 60) [execBleedSlotUnacknowledged, SameBut, SameLists, *]

@[simp ↓] theorem beginSlot_keeps (s : State) (p : Nat) {A : Part → Bool} {r0 : State} (h_s : Keeps A r0 s)
    (p_heads : A .heads = true := by first | assumption | rfl) (p_thin : A .thin = true := by first | assumption | rfl) : Keeps A r0 (beginSlot s p) := by simp [beginSlot, *]

@[simp ↓] theorem beginSlots_keeps (s : State) {A : Part → Bool} {r0 : State} (h_s : Keeps A r0 s) (p_heads : A .heads = true := by first | assumption | rfl)
    (p_thin : A .thin = true := by first | assumption | rfl) (p_power : A .power = true := by first | assumption | rfl) : Keeps A r0 (beginSlots s) := by
  unfold beginSlots
  simp +contextual (maxDischargeDepth := 60) [SameBut, SameLists, *]

@[simp ↓] theorem startRound_keeps (s : State) (p : Nat) {A : Part → Bool} {r0 : State} (h_s : Keeps A r0 s)
    (p_heads : A .heads = true := by first | assumption | rfl) (p_thin : A .thin = true := by first | assumption | rfl) : Keeps A r0 (startRound s p) := by simp [startRound, *]

@[simp ↓] theorem sendTest_keeps (s : State) (p : Nat) {A : Part → Bool} {r0 : State} (h_s : Keeps A r0 s)
    (p_ring : A .ring = true := by first | assumption | rfl) (p_heads : A .heads = true := by first | assumption | rfl)
    (p_thin : A .thin = true := by first | assumption | rfl) : Keeps A r0 (sendTest s p) := by
  unfold sendTest
  split <;> simp (maxDischargeDepth := 60) [SameBut, SameLists, *]

@[simp ↓] theorem execSwitchTestSchedule_keeps (s : State) {A : Part → Bool} {r0 : State} (h_s : Keeps A r0 s)
    (p_ring : A .ring = true := by first | assumption | rfl) (p_heads : A .heads = true := by first | assumption | rfl)
    (p_thin : A .thin = true := by first | assumption | rfl) : OutKeeps A r0 (execSwitchTestSchedule s) := by
  unfold execSwitchTestSchedule
  simp +contextual (maxDischargeDepth := 60) [SameBut, SameLists, *]

@[simp ↓] theorem collectTest_keeps (s : State) (p : Nat) {A : Part → Bool} {r0 : State} (h_s : Keeps A r0 s)
    (p_heads : A .heads = true := by first | assumption | rfl) (p_thin : A .thin = true := by first | assumption | rfl) : Keeps A r0 (collectTest s p) := by simp [collectTest, *]

@[simp ↓] theorem learnRw_keeps (p : Nat) (s : State) (o : Nat × Int) {A : Part → Bool} {r0 : State} (h_s : Keeps A r0 s)
    (p_tap : A .tap = true := by first | assumption | rfl) : Keeps A r0 (learnRw p s o) := by simp [learnRw, SameBut, SameLists, *]

@[simp ↓] theorem nextTest_keeps (p : Nat) (t : SwEval) (s : State) {A : Part → Bool} {r0 : State} (h_s : Keeps A r0 s)
    (p_heads : A .heads = true := by first | assumption | rfl) (p_tap : A .tap = true := by first | assumption | rfl)
    (p_thin : A .thin = true := by first | assumption | rfl) : Keeps A r0 (nextTest p t s) := by
  unfold nextTest
  split <;> simp (maxDischargeDepth := 60) [SameBut, SameLists, *]

@[simp ↓] theorem switchResult_keeps (p k res : Nat) (drop : Int) (s : State) {A : Part → Bool} {r0 : State} (h_s : Keeps A r0 s)
    (p_cells : A .cells = true := by first | assumption | rfl)
    (p_ranger : A .ranger = true := by first | assumption | rfl) : Keeps A r0 (switchResult p k res drop s) := by simp (maxDischargeDepth := 60) [switchResult, SameBut, SameLists, *]

@[simp ↓] theorem evalTest_keeps (p : Nat) (t : SwEval) (x : SwSums) (s : State) {A : Part → Bool} {r0 : State} (h_s : Keeps A r0 s)
    (p_heads : A .heads = true := by first | assumption | rfl) (p_tap : A .tap = true := by first | assumption | rfl) (p_cells : A .cells = true := by first | assumption | rfl)
    (p_thin : A .thin = true := by first | assumption | rfl) (p_ranger : A .ranger = true := by first | assumption | rfl) : Keeps A r0 (evalTest p t x s) := by
  unfold evalTest
  repeat' first
    | (simp +contextual (maxDischargeDepth := 60) [SameBut, SameLists, *]; done)
    | (rename_i e; have e := congrArg Prod.snd e; dsimp only at e; subst e)
    | split
    | (refine keeps_foldl (fun _ _ _ => ?_) ?_)
    | dsimp only

@[simp ↓] theorem execSwitchTestEvaluation_keeps (p : Nat) (s : State) {A : Part → Bool} {r0 : State} (h_s : Keeps A r0 s)
    (p_heads : A .heads = true := by first | assumption | rfl) (p_tap : A .tap = true := by first | assumption | rfl) (p_cells : A .cells = true := by first | assumption | rfl)
    (p_thin : A .thin = true := by first | assumption | rfl) (p_ranger : A .ranger = true := by first | assumption | rfl) : OutKeeps A r0 (execSwitchTestEvaluation p s) := by
  unfold execSwitchTestEvaluation
  (repeat' split) <;> simp (maxDischargeDepth := 60) [SameBut, SameLists, *]

@[simp ↓] theorem effSwitchTest_keeps (v : Nat) (s : State) {A : Part → Bool} {r0 : State} (h_s : Keeps A r0 s)
    (p_heads : A .heads = true := by first | assumption | rfl) (p_thin : A .thin = true := by first | assumption | rfl) : Keeps A r0 (effSwitchTest v s) := by
  unfold effSwitchTest
  simp +contextual (maxDischargeDepth := 60) [SameBut, SameLists, *]

@[simp ↓] theorem effExclusionClear_keeps (k : Nat) (s : State) {A : Part → Bool} {r0 : State} (h_s : Keeps A r0 s)
    (p_cells : A .cells = true := by first | assumption | rfl)
    (p_ranger : A .ranger = true := by first | assumption | rfl) : Keeps A r0 (effExclusionClear k s) := by simp (maxDischargeDepth := 60) [effExclusionClear, SameBut, SameLists, *]

/-! ### Lookout -/

@[simp ↓] theorem flushQueues_keeps (s : State) {A : Part → Bool} {r0 : State} (h : Keeps A r0 s)
    (p_cruiser : A .cruiser = true := by first | assumption | rfl) (p_dict : A .dict = true := by first | assumption | rfl) (p_ranger : A .ranger = true := by first | assumption | rfl)
    (p_tally : A .tally = true := by first | assumption | rfl) (p_storage : A .storage = true := by first | assumption | rfl) : Keeps A r0 (flushQueues s) := by
  unfold flushQueues
  extract_lets put q b1 s1 s2 t b2
  have h1 : Keeps A r0 s1 := by
    refine keeps_foldl (fun x a hx => ?_) (by simp (maxDischargeDepth := 60) [SameBut, SameLists, b1, h, *])
    simp only [put]
    split
    · exact writeFixed_keeps _ _ _ _ hx
    · exact writeLog_keeps _ _ _ hx
  have h2 : Keeps A r0 s2 := by simp (maxDischargeDepth := 60) [SameBut, SameLists, s2, h1, *]
  refine keeps_foldl (fun x a hx => writeRecord_keeps _ _ hx) (h2.of_parts (by simp [SameBut, b2, *]) rfl rfl rfl fun c => ?_)
  exact { c with q25 := Nat.zero_le _ }

@[simp ↓] theorem sleepDown_keeps (s : State) {A : Part → Bool} {r0 : State} (h_s : Keeps A r0 s) (p_ring : A .ring = true := by first | assumption | rfl)
    (p_fe : A .fe = true := by first | assumption | rfl) (p_cruiser : A .cruiser = true := by first | assumption | rfl) (p_fb : A .fb = true := by first | assumption | rfl)
    (p_dict : A .dict = true := by first | assumption | rfl) (p_ranger : A .ranger = true := by first | assumption | rfl) (p_tally : A .tally = true := by first | assumption | rfl)
    (p_power : A .power = true := by first | assumption | rfl) (p_lookout : A .lookout = true := by first | assumption | rfl)
    (p_storage : A .storage = true := by first | assumption | rfl) : Keeps A r0 (sleepDown s) := by simp (maxDischargeDepth := 60) [sleepDown, SameBut, SameLists, *]

@[simp ↓] theorem settleSleep_keeps (s : State) {A : Part → Bool} {r0 : State} (h_s : Keeps A r0 s) (p_ring : A .ring = true := by first | assumption | rfl)
    (p_fe : A .fe = true := by first | assumption | rfl) (p_cruiser : A .cruiser = true := by first | assumption | rfl) (p_fb : A .fb = true := by first | assumption | rfl)
    (p_dict : A .dict = true := by first | assumption | rfl) (p_ranger : A .ranger = true := by first | assumption | rfl) (p_tally : A .tally = true := by first | assumption | rfl)
    (p_power : A .power = true := by first | assumption | rfl) (p_lookout : A .lookout = true := by first | assumption | rfl)
    (p_storage : A .storage = true := by first | assumption | rfl) : Keeps A r0 (settleSleep s) := by simp [settleSleep, *]

@[simp ↓] theorem lookoutTell_keeps (event subject : Nat) (items : Bytes) (s : State) {A : Part → Bool} {r0 : State} (h_s : Keeps A r0 s)
    (p_lookout : A .lookout = true := by first | assumption | rfl) : Keeps A r0 (lookoutTell event subject items s) := by simp [lookoutTell, SameBut, SameLists, *]

@[simp ↓] theorem execLogFlush_keeps (s : State) {A : Part → Bool} {r0 : State} (h_s : Keeps A r0 s)
    (p_cruiser : A .cruiser = true := by first | assumption | rfl) (p_ranger : A .ranger = true := by first | assumption | rfl) (p_tally : A .tally = true := by first | assumption | rfl)
    (p_lookout : A .lookout = true := by first | assumption | rfl) : OutKeeps A r0 (execLogFlush s) := by
  unfold execLogFlush
  simp +contextual (maxDischargeDepth := 60) [SameBut, SameLists, *]

@[simp ↓] theorem setInput_keeps (code : Nat) (v : Int) (s : State) {A : Part → Bool} {r0 : State} (h_s : Keeps A r0 s)
    (p_lookout : A .lookout = true := by first | assumption | rfl) : Keeps A r0 (setInput code v s) := by simp [setInput, SameBut, SameLists, *]

@[simp ↓] theorem recordCurrent_keeps (i : Int) (s : State) {A : Part → Bool} {r0 : State} (h_s : Keeps A r0 s)
    (p_lookout : A .lookout = true := by first | assumption | rfl) : Keeps A r0 (recordCurrent i s) := by simp [recordCurrent, SameBut, SameLists, *]

@[simp ↓] theorem execSenseBurst_keeps (vStr current : Int) (s : State) {A : Part → Bool} {r0 : State} (h_s : Keeps A r0 s)
    (p_fe : A .fe = true := by first | assumption | rfl)
    (p_lookout : A .lookout = true := by first | assumption | rfl) : OutKeeps A r0 (execSenseBurst vStr current s) := by simp (maxDischargeDepth := 60) [execSenseBurst, SameBut, SameLists, *]

@[simp ↓] theorem execInsulationBurst_keeps (iPos iNeg : Int) (s : State) {A : Part → Bool} {r0 : State} (h_s : Keeps A r0 s)
    (p_fe : A .fe = true := by first | assumption | rfl)
    (p_lookout : A .lookout = true := by first | assumption | rfl) : OutKeeps A r0 (execInsulationBurst iPos iNeg s) := by simp (maxDischargeDepth := 60) [execInsulationBurst, SameBut, SameLists, *]

@[simp ↓] theorem keepSnap_keeps (cells : List (Nat × Int × Int)) (s : State) {A : Part → Bool} {r0 : State} (h_s : Keeps A r0 s)
    (p_lookout : A .lookout = true := by first | assumption | rfl) : Keeps A r0 (keepSnap cells s) := by
  unfold keepSnap
  split <;> simp (maxDischargeDepth := 60) [SameBut, SameLists, *]

@[simp ↓] theorem execRingPoll_keeps (cells : List (Nat × Int × Int)) (points : List Int) (changed : List Nat) (cycles : Nat) (s : State) {A : Part → Bool} {r0 : State} (h_s : Keeps A r0 s)
    (p_core : A .core = true := by first | assumption | rfl)
    (p_lookout : A .lookout = true := by first | assumption | rfl) : OutKeeps A r0 (execRingPoll cells points changed cycles s) := by
  unfold execRingPoll
  repeat' first
    | (simp +contextual (maxDischargeDepth := 60) [SameBut, SameLists, *]; done)
    | (rename_i e; have e := congrArg Prod.snd e; dsimp only at e; subst e)
    | split
    | (refine keeps_foldl (fun _ _ _ => ?_) ?_)
    | dsimp only

@[simp ↓] theorem wakeUp_keeps (cause rule : Nat) (lockout : Bool) (s : State) {A : Part → Bool} {r0 : State} (h : Keeps A r0 s)
    (p_core : A .core = true := by first | assumption | rfl) (p_ring : A .ring = true := by first | assumption | rfl) (p_heads : A .heads = true := by first | assumption | rfl)
    (p_tap : A .tap = true := by first | assumption | rfl) (p_fe : A .fe = true := by first | assumption | rfl) (p_cells : A .cells = true := by first | assumption | rfl)
    (p_points : A .points = true := by first | assumption | rfl) (p_scaler : A .scaler = true := by first | assumption | rfl)
    (p_cruiser : A .cruiser = true := by first | assumption | rfl) (p_borer : A .borer = true := by first | assumption | rfl) (p_thin : A .thin = true := by first | assumption | rfl)
    (p_fb : A .fb = true := by first | assumption | rfl) (p_sawyer : A .sawyer = true := by first | assumption | rfl) (p_canopy : A .canopy = true := by first | assumption | rfl)
    (p_axes : A .axes = true := by first | assumption | rfl) (p_links : A .links = true := by first | assumption | rfl) (p_clock : A .clock = true := by first | assumption | rfl)
    (p_dict : A .dict = true := by first | assumption | rfl) (p_sec : A .sec = true := by first | assumption | rfl) (p_pair : A .pair = true := by first | assumption | rfl)
    (p_ranger : A .ranger = true := by first | assumption | rfl) (p_tally : A .tally = true := by first | assumption | rfl) (p_inject : A .inject = true := by first | assumption | rfl)
    (p_power : A .power = true := by first | assumption | rfl) (p_lookout : A .lookout = true := by first | assumption | rfl)
    (p_storage : A .storage = true := by first | assumption | rfl) (p_update : A .update = true := by first | assumption | rfl)
    (p_seat : A .seat = true := by first | assumption | rfl) : Keeps A r0 (wakeUp cause rule lockout s) := by
  unfold wakeUp
  have h1 := bootBody_keeps true s h
  generalize ({ s with toBody := bootBody true s } : State) = t at h1 ⊢
  dsimp only
  simp (maxDischargeDepth := 60) [SameBut, SameLists, h1, *]

@[simp ↓] theorem execWakeTimer_keeps (s : State) {A : Part → Bool} {r0 : State} (h_s : Keeps A r0 s) (p_core : A .core = true := by first | assumption | rfl)
    (p_ring : A .ring = true := by first | assumption | rfl) (p_heads : A .heads = true := by first | assumption | rfl) (p_tap : A .tap = true := by first | assumption | rfl)
    (p_fe : A .fe = true := by first | assumption | rfl) (p_cells : A .cells = true := by first | assumption | rfl) (p_points : A .points = true := by first | assumption | rfl)
    (p_scaler : A .scaler = true := by first | assumption | rfl) (p_cruiser : A .cruiser = true := by first | assumption | rfl) (p_borer : A .borer = true := by first | assumption | rfl)
    (p_thin : A .thin = true := by first | assumption | rfl) (p_fb : A .fb = true := by first | assumption | rfl) (p_sawyer : A .sawyer = true := by first | assumption | rfl)
    (p_canopy : A .canopy = true := by first | assumption | rfl) (p_axes : A .axes = true := by first | assumption | rfl) (p_links : A .links = true := by first | assumption | rfl)
    (p_clock : A .clock = true := by first | assumption | rfl) (p_dict : A .dict = true := by first | assumption | rfl) (p_sec : A .sec = true := by first | assumption | rfl)
    (p_pair : A .pair = true := by first | assumption | rfl) (p_ranger : A .ranger = true := by first | assumption | rfl) (p_tally : A .tally = true := by first | assumption | rfl)
    (p_inject : A .inject = true := by first | assumption | rfl) (p_power : A .power = true := by first | assumption | rfl) (p_lookout : A .lookout = true := by first | assumption | rfl)
    (p_storage : A .storage = true := by first | assumption | rfl) (p_update : A .update = true := by first | assumption | rfl)
    (p_seat : A .seat = true := by first | assumption | rfl) : OutKeeps A r0 (execWakeTimer s) := by simp (maxDischargeDepth := 60) [execWakeTimer, SameBut, SameLists, *]

@[simp ↓] theorem execPpsInHold_keeps (s : State) {A : Part → Bool} {r0 : State} (h_s : Keeps A r0 s) (p_core : A .core = true := by first | assumption | rfl)
    (p_ring : A .ring = true := by first | assumption | rfl) (p_heads : A .heads = true := by first | assumption | rfl) (p_tap : A .tap = true := by first | assumption | rfl)
    (p_fe : A .fe = true := by first | assumption | rfl) (p_cells : A .cells = true := by first | assumption | rfl) (p_points : A .points = true := by first | assumption | rfl)
    (p_scaler : A .scaler = true := by first | assumption | rfl) (p_cruiser : A .cruiser = true := by first | assumption | rfl) (p_borer : A .borer = true := by first | assumption | rfl)
    (p_thin : A .thin = true := by first | assumption | rfl) (p_fb : A .fb = true := by first | assumption | rfl) (p_sawyer : A .sawyer = true := by first | assumption | rfl)
    (p_canopy : A .canopy = true := by first | assumption | rfl) (p_axes : A .axes = true := by first | assumption | rfl) (p_links : A .links = true := by first | assumption | rfl)
    (p_clock : A .clock = true := by first | assumption | rfl) (p_dict : A .dict = true := by first | assumption | rfl) (p_sec : A .sec = true := by first | assumption | rfl)
    (p_pair : A .pair = true := by first | assumption | rfl) (p_ranger : A .ranger = true := by first | assumption | rfl) (p_tally : A .tally = true := by first | assumption | rfl)
    (p_inject : A .inject = true := by first | assumption | rfl) (p_power : A .power = true := by first | assumption | rfl) (p_lookout : A .lookout = true := by first | assumption | rfl)
    (p_storage : A .storage = true := by first | assumption | rfl) (p_update : A .update = true := by first | assumption | rfl)
    (p_seat : A .seat = true := by first | assumption | rfl) : OutKeeps A r0 (execPpsInHold s) := by simp (maxDischargeDepth := 60) [execPpsInHold, SameBut, SameLists, *]

@[simp ↓] theorem execCanWakeUpPattern_keeps (s : State) {A : Part → Bool} {r0 : State} (h_s : Keeps A r0 s)
    (p_core : A .core = true := by first | assumption | rfl) (p_ring : A .ring = true := by first | assumption | rfl) (p_heads : A .heads = true := by first | assumption | rfl)
    (p_tap : A .tap = true := by first | assumption | rfl) (p_fe : A .fe = true := by first | assumption | rfl) (p_cells : A .cells = true := by first | assumption | rfl)
    (p_points : A .points = true := by first | assumption | rfl) (p_scaler : A .scaler = true := by first | assumption | rfl)
    (p_cruiser : A .cruiser = true := by first | assumption | rfl) (p_borer : A .borer = true := by first | assumption | rfl) (p_thin : A .thin = true := by first | assumption | rfl)
    (p_fb : A .fb = true := by first | assumption | rfl) (p_sawyer : A .sawyer = true := by first | assumption | rfl) (p_canopy : A .canopy = true := by first | assumption | rfl)
    (p_axes : A .axes = true := by first | assumption | rfl) (p_links : A .links = true := by first | assumption | rfl) (p_clock : A .clock = true := by first | assumption | rfl)
    (p_dict : A .dict = true := by first | assumption | rfl) (p_sec : A .sec = true := by first | assumption | rfl) (p_pair : A .pair = true := by first | assumption | rfl)
    (p_ranger : A .ranger = true := by first | assumption | rfl) (p_tally : A .tally = true := by first | assumption | rfl) (p_inject : A .inject = true := by first | assumption | rfl)
    (p_power : A .power = true := by first | assumption | rfl) (p_lookout : A .lookout = true := by first | assumption | rfl)
    (p_storage : A .storage = true := by first | assumption | rfl) (p_update : A .update = true := by first | assumption | rfl)
    (p_seat : A .seat = true := by first | assumption | rfl) : OutKeeps A r0 (execCanWakeUpPattern s) := by simp (maxDischargeDepth := 60) [execCanWakeUpPattern, SameBut, SameLists, *]

@[simp ↓] theorem execTetherLineEnergy_keeps (s : State) {A : Part → Bool} {r0 : State} (h_s : Keeps A r0 s)
    (p_core : A .core = true := by first | assumption | rfl) (p_ring : A .ring = true := by first | assumption | rfl) (p_heads : A .heads = true := by first | assumption | rfl)
    (p_tap : A .tap = true := by first | assumption | rfl) (p_fe : A .fe = true := by first | assumption | rfl) (p_cells : A .cells = true := by first | assumption | rfl)
    (p_points : A .points = true := by first | assumption | rfl) (p_scaler : A .scaler = true := by first | assumption | rfl)
    (p_cruiser : A .cruiser = true := by first | assumption | rfl) (p_borer : A .borer = true := by first | assumption | rfl) (p_thin : A .thin = true := by first | assumption | rfl)
    (p_fb : A .fb = true := by first | assumption | rfl) (p_sawyer : A .sawyer = true := by first | assumption | rfl) (p_canopy : A .canopy = true := by first | assumption | rfl)
    (p_axes : A .axes = true := by first | assumption | rfl) (p_links : A .links = true := by first | assumption | rfl) (p_clock : A .clock = true := by first | assumption | rfl)
    (p_dict : A .dict = true := by first | assumption | rfl) (p_sec : A .sec = true := by first | assumption | rfl) (p_pair : A .pair = true := by first | assumption | rfl)
    (p_ranger : A .ranger = true := by first | assumption | rfl) (p_tally : A .tally = true := by first | assumption | rfl) (p_inject : A .inject = true := by first | assumption | rfl)
    (p_power : A .power = true := by first | assumption | rfl) (p_lookout : A .lookout = true := by first | assumption | rfl)
    (p_storage : A .storage = true := by first | assumption | rfl) (p_update : A .update = true := by first | assumption | rfl)
    (p_seat : A .seat = true := by first | assumption | rfl) : OutKeeps A r0 (execTetherLineEnergy s) := by simp (maxDischargeDepth := 60) [execTetherLineEnergy, SameBut, SameLists, *]

@[simp ↓] theorem fireRule_keeps (j : Nat) (r : LookoutRule) (v : Int) (s : State) {A : Part → Bool} {r0 : State} (h_s : Keeps A r0 s)
    (p_ranger : A .ranger = true := by first | assumption | rfl)
    (p_lookout : A .lookout = true := by first | assumption | rfl) : Keeps A r0 (fireRule j r v s) := by simp (maxDischargeDepth := 60) [fireRule, SameBut, SameLists, *]

@[simp ↓] theorem evalRule_keeps (codes : List Nat) (acc : List (Nat × Nat) × State) (j : Nat) {A : Part → Bool} {r0 : State} (h : Keeps A r0 acc.2)
    (p_ranger : A .ranger = true := by first | assumption | rfl) (p_lookout : A .lookout = true := by first | assumption | rfl) :
    Keeps A r0 (evalRule codes acc j).2 := by
  unfold evalRule
  extract_lets s r x keep since
  have hs : Keeps A r0 s := h
  split
  · exact h
  · split
    · rename_i raw level _ _
      have h1 := filterStep_keeps (x.filtered.getD raw) raw (r.filter * 1000) x.filtered.isSome s hs
      generalize filterStep (x.filtered.getD raw) raw (r.filter * 1000) x.filtered.isSome s = q at h1 ⊢
      obtain ⟨v, t⟩ := q
      dsimp only at h1 ⊢
      have hk : ∀ y u, Keeps A r0 u → Keeps A r0 (keep y u) := fun y u hu => by simp (maxDischargeDepth := 60) [SameBut, SameLists, keep, hu, *]
      (repeat' split) <;> simp (maxDischargeDepth := 60) [SameBut, SameLists, h1, hk, *]
    · exact h

theorem foldl_evalRule_keeps (codes : List Nat) (l : List Nat) (acc : List (Nat × Nat) × State) {A : Part → Bool} {r0 : State} (h : Keeps A r0 acc.2)
    (p_ranger : A .ranger = true := by first | assumption | rfl) (p_lookout : A .lookout = true := by first | assumption | rfl) :
    Keeps A r0 (l.foldl (evalRule codes) acc).2 := by
  induction l generalizing acc with
  | nil => exact h
  | cons a t ih => exact ih _ (evalRule_keeps codes acc a h)
@[simp ↓] theorem sleepSecond_keeps (s : State) {A : Part → Bool} {r0 : State} (h_s : Keeps A r0 s) (p_clock : A .clock = true := by first | assumption | rfl)
    (p_sec : A .sec = true := by first | assumption | rfl) (p_power : A .power = true := by first | assumption | rfl)
    (p_lookout : A .lookout = true := by first | assumption | rfl) : Keeps A r0 (sleepSecond s) := by simp [sleepSecond, SameBut, SameLists, *]

@[simp ↓] theorem ownInput_keeps (bus : Int) (fire : Bool) (s : State) (code : Nat) {A : Part → Bool} {r0 : State} (h_s : Keeps A r0 s)
    (p_clock : A .clock = true := by first | assumption | rfl) (p_sec : A .sec = true := by first | assumption | rfl) (p_power : A .power = true := by first | assumption | rfl)
    (p_lookout : A .lookout = true := by first | assumption | rfl) : Keeps A r0 (ownInput bus fire s code) := by
  unfold ownInput
  (repeat' split) <;> simp (maxDischargeDepth := 60) [SameBut, SameLists, *]

@[simp ↓] theorem execRuleEvaluation_keeps (codes : List Nat) (bus : Int) (fire : Bool) (s : State) {A : Part → Bool} {r0 : State} (h : Keeps A r0 s)
    (p_core : A .core = true := by first | assumption | rfl) (p_ring : A .ring = true := by first | assumption | rfl) (p_heads : A .heads = true := by first | assumption | rfl)
    (p_tap : A .tap = true := by first | assumption | rfl) (p_fe : A .fe = true := by first | assumption | rfl) (p_cells : A .cells = true := by first | assumption | rfl)
    (p_points : A .points = true := by first | assumption | rfl) (p_scaler : A .scaler = true := by first | assumption | rfl)
    (p_cruiser : A .cruiser = true := by first | assumption | rfl) (p_borer : A .borer = true := by first | assumption | rfl) (p_thin : A .thin = true := by first | assumption | rfl)
    (p_fb : A .fb = true := by first | assumption | rfl) (p_sawyer : A .sawyer = true := by first | assumption | rfl) (p_canopy : A .canopy = true := by first | assumption | rfl)
    (p_axes : A .axes = true := by first | assumption | rfl) (p_links : A .links = true := by first | assumption | rfl) (p_clock : A .clock = true := by first | assumption | rfl)
    (p_dict : A .dict = true := by first | assumption | rfl) (p_sec : A .sec = true := by first | assumption | rfl) (p_pair : A .pair = true := by first | assumption | rfl)
    (p_ranger : A .ranger = true := by first | assumption | rfl) (p_tally : A .tally = true := by first | assumption | rfl) (p_inject : A .inject = true := by first | assumption | rfl)
    (p_power : A .power = true := by first | assumption | rfl) (p_lookout : A .lookout = true := by first | assumption | rfl)
    (p_storage : A .storage = true := by first | assumption | rfl) (p_update : A .update = true := by first | assumption | rfl) (p_seat : A .seat = true := by first | assumption | rfl) :
    OutKeeps A r0 (execRuleEvaluation codes bus fire s) := by
  unfold execRuleEvaluation
  split
  · simp (maxDischargeDepth := 60) [SameBut, SameLists, h, *]
  · extract_lets s1
    have h1 : Keeps A r0 s1 := keeps_foldl (fun x a hx => by simp (maxDischargeDepth := 60) [SameBut, SameLists, *]) h
    have h2 := foldl_evalRule_keeps codes (upFrom 0 32) ([], s1) h1
    generalize (upFrom 0 32).foldl (evalRule codes) ([], s1) = q at h2 ⊢
    obtain ⟨fired, t⟩ := q
    dsimp only at h2 ⊢
    (repeat' split) <;> simp (maxDischargeDepth := 60) [SameBut, SameLists, h2, *]

/-! ### Cycle -/

@[simp ↓] theorem hearPartner_keeps (heard : Option SyncHeader) (s : State) {A : Part → Bool} {r0 : State} (h_s : Keeps A r0 s)
    (p_ring : A .ring = true := by first | assumption | rfl) (p_pair : A .pair = true := by first | assumption | rfl)
    : Keeps A r0 (hearPartner heard s) := by
  unfold hearPartner
  (repeat' split) <;> simp (maxDischargeDepth := 60) [SameBut, SameLists, *]

@[simp ↓] theorem missHeartbeat_keeps (s : State) {A : Part → Bool} {r0 : State} (h_s : Keeps A r0 s)
    (p_pair : A .pair = true := by first | assumption | rfl) : Keeps A r0 (missHeartbeat s) := by simp [missHeartbeat, SameBut, SameLists, *]

@[simp ↓] theorem clearCycle_keeps (s : State) {A : Part → Bool} {r0 : State} (h_s : Keeps A r0 s) (p_ring : A .ring = true := by first | assumption | rfl)
    (p_tap : A .tap = true := by first | assumption | rfl)
    (p_pair : A .pair = true := by first | assumption | rfl) : Keeps A r0 (clearCycle s) := by simp [clearCycle, drainTether, SameBut, SameLists, *]

@[simp ↓] theorem pollStatus_keeps (s : State) {A : Part → Bool} {r0 : State} (h_s : Keeps A r0 s)
    (p_ring : A .ring = true := by first | assumption | rfl) : Keeps A r0 (pollStatus s) := by
  unfold pollStatus
  simp +contextual (maxDischargeDepth := 60) [SameBut, SameLists, *]

@[simp ↓] theorem sendSync_keeps (s : State) (port : Nat) {A : Part → Bool} {r0 : State} (h_s : Keeps A r0 s)
    (p_ring : A .ring = true := by first | assumption | rfl) (p_heads : A .heads = true := by first | assumption | rfl)
    (p_tap : A .tap = true := by first | assumption | rfl) (p_fe : A .fe = true := by first | assumption | rfl)
    (p_cells : A .cells = true := by first | assumption | rfl) (p_points : A .points = true := by first | assumption | rfl)
    (p_cruiser : A .cruiser = true := by first | assumption | rfl) (p_thin : A .thin = true := by first | assumption | rfl)
    (p_fb : A .fb = true := by first | assumption | rfl) (p_pair : A .pair = true := by first | assumption | rfl)
    (p_ranger : A .ranger = true := by first | assumption | rfl) (p_tally : A .tally = true := by first | assumption | rfl)
    (p_inject : A .inject = true := by first | assumption | rfl) : Keeps A r0 (sendSync s port) := by simp (maxDischargeDepth := 60) [sendSync, SameBut, SameLists, *]

@[simp ↓] theorem sendPost_keeps (s : State) (port : Nat) {A : Part → Bool} {r0 : State} (h_s : Keeps A r0 s)
    (p_ring : A .ring = true := by first | assumption | rfl) (p_heads : A .heads = true := by first | assumption | rfl)
    (p_tap : A .tap = true := by first | assumption | rfl) (p_fe : A .fe = true := by first | assumption | rfl)
    (p_cells : A .cells = true := by first | assumption | rfl) (p_points : A .points = true := by first | assumption | rfl)
    (p_cruiser : A .cruiser = true := by first | assumption | rfl) (p_thin : A .thin = true := by first | assumption | rfl)
    (p_fb : A .fb = true := by first | assumption | rfl) (p_pair : A .pair = true := by first | assumption | rfl)
    (p_ranger : A .ranger = true := by first | assumption | rfl) (p_tally : A .tally = true := by first | assumption | rfl)
    (p_inject : A .inject = true := by first | assumption | rfl) : Keeps A r0 (sendPost s port) := by
  unfold sendPost
  repeat' first
    | (simp +contextual (maxDischargeDepth := 60) [SameBut, SameLists, *]; done)
    | (rename_i e; have e := congrArg Prod.snd e; dsimp only at e; subst e)
    | split
    | (refine keeps_foldl (fun _ _ _ => ?_) ?_)
    | dsimp only

@[simp ↓] theorem takeRecord_keeps (r : StringRecord) (s : State) {A : Part → Bool} {r0 : State} (h_s : Keeps A r0 s)
    (p_ring : A .ring = true := by first | assumption | rfl) (p_fe : A .fe = true := by first | assumption | rfl) (p_fb : A .fb = true := by first | assumption | rfl)
    (p_ranger : A .ranger = true := by first | assumption | rfl) : Keeps A r0 (takeRecord r s) := by simp (maxDischargeDepth := 60) [takeRecord, SameBut, SameLists, *]

@[simp ↓] theorem noRecord_keeps (s : State) {A : Part → Bool} {r0 : State} (h_s : Keeps A r0 s) (p_ring : A .ring = true := by first | assumption | rfl)
    (p_fb : A .fb = true := by first | assumption | rfl) : Keeps A r0 (noRecord s) := by simp [noRecord, SameBut, SameLists, *]

@[simp ↓] theorem sendRecord_keeps (r : StringRecord) (s : State) (port : Nat) {A : Part → Bool} {r0 : State} (h_s : Keeps A r0 s)
    (p_ring : A .ring = true := by first | assumption | rfl) (p_pair : A .pair = true := by first | assumption | rfl)
    (p_tally : A .tally = true := by first | assumption | rfl) (p_inject : A .inject = true := by first | assumption | rfl)
    : Keeps A r0 (sendRecord r s port) := by
  unfold sendRecord
  repeat' first
    | (simp +contextual (maxDischargeDepth := 60) [SameBut, SameLists, *]; done)
    | (rename_i e; have e := congrArg Prod.snd e; dsimp only at e; subst e)
    | split
    | (refine keeps_foldl (fun _ _ _ => ?_) ?_)
    | dsimp only

@[simp ↓] theorem hearRecord_keeps (port : Nat) (s : State) {A : Part → Bool} {r0 : State} (h_s : Keeps A r0 s)
    (p_ring : A .ring = true := by first | assumption | rfl) (p_pair : A .pair = true := by first | assumption | rfl)
    (p_tally : A .tally = true := by first | assumption | rfl) (p_inject : A .inject = true := by first | assumption | rfl)
    : Keeps A r0 (hearRecord port s).2 := by
  unfold hearRecord
  repeat' first
    | (simp +contextual (maxDischargeDepth := 60) [SameBut, SameLists, *]; done)
    | (rename_i e; have e := congrArg Prod.snd e; dsimp only at e; subst e)
    | split
    | (refine keeps_foldl (fun _ _ _ => ?_) ?_)
    | dsimp only

@[simp ↓] theorem execStringRecord_keeps (heard : Option StringRecord) (s : State) {A : Part → Bool} {r0 : State} (h_s : Keeps A r0 s)
    (p_ring : A .ring = true := by first | assumption | rfl) (p_fe : A .fe = true := by first | assumption | rfl) (p_fb : A .fb = true := by first | assumption | rfl)
    (p_pair : A .pair = true := by first | assumption | rfl) (p_ranger : A .ranger = true := by first | assumption | rfl) (p_tally : A .tally = true := by first | assumption | rfl)
    (p_inject : A .inject = true := by first | assumption | rfl) : OutKeeps A r0 (execStringRecord heard s) := by
  unfold execStringRecord
  repeat' first
    | (simp +contextual (maxDischargeDepth := 60) [SameBut, SameLists, *]; done)
    | (rename_i e; have e := congrArg Prod.snd e; dsimp only at e; subst e)
    | split
    | (refine keeps_foldl (fun _ _ _ => ?_) ?_)
    | dsimp only

@[simp ↓] theorem laneWork_keeps (s : State) {A : Part → Bool} {r0 : State} (h_s : Keeps A r0 s) (p_heads : A .heads = true := by first | assumption | rfl)
    (p_cells : A .cells = true := by first | assumption | rfl) (p_scaler : A .scaler = true := by first | assumption | rfl) (p_cruiser : A .cruiser = true := by first | assumption | rfl)
    (p_borer : A .borer = true := by first | assumption | rfl) (p_thin : A .thin = true := by first | assumption | rfl) (p_sawyer : A .sawyer = true := by first | assumption | rfl)
    (p_canopy : A .canopy = true := by first | assumption | rfl) (p_ranger : A .ranger = true := by first | assumption | rfl) (p_tally : A .tally = true := by first | assumption | rfl)
    (p_storage : A .storage = true := by first | assumption | rfl) : Keeps A r0 (laneWork s) := by
  unfold laneWork
  simp +contextual (maxDischargeDepth := 60) [SameBut, SameLists, *]

@[simp ↓] theorem missDeadline_keeps (s : State) (m : Nat × Nat) {A : Part → Bool} {r0 : State} (h_s : Keeps A r0 s)
    (p_core : A .core = true := by first | assumption | rfl) (p_cruiser : A .cruiser = true := by first | assumption | rfl)
    (p_ranger : A .ranger = true := by first | assumption | rfl) : Keeps A r0 (missDeadline s m) := by
  unfold missDeadline
  repeat' first
    | (simp +contextual (maxDischargeDepth := 60) [SameBut, SameLists, *]; done)
    | (rename_i e; have e := congrArg Prod.snd e; dsimp only at e; subst e)
    | split
    | (refine keeps_foldl (fun _ _ _ => ?_) ?_)
    | dsimp only

@[simp ↓] theorem deadlineRuns_keeps (s : State) {A : Part → Bool} {r0 : State} (h_s : Keeps A r0 s) (p_core : A .core = true := by first | assumption | rfl)
    (p_ranger : A .ranger = true := by first | assumption | rfl) : Keeps A r0 (deadlineRuns s) := by
  unfold deadlineRuns
  simp +contextual (maxDischargeDepth := 60) [SameBut, SameLists, *]

@[simp ↓] theorem execCycleDataCrossing_keeps (missed : List (Nat × Nat)) (s : State) {A : Part → Bool} {r0 : State} (h_s : Keeps A r0 s)
    (p_core : A .core = true := by first | assumption | rfl) (p_ring : A .ring = true := by first | assumption | rfl)
    (p_heads : A .heads = true := by first | assumption | rfl) (p_tap : A .tap = true := by first | assumption | rfl)
    (p_fe : A .fe = true := by first | assumption | rfl) (p_cells : A .cells = true := by first | assumption | rfl)
    (p_points : A .points = true := by first | assumption | rfl) (p_scaler : A .scaler = true := by first | assumption | rfl)
    (p_cruiser : A .cruiser = true := by first | assumption | rfl) (p_borer : A .borer = true := by first | assumption | rfl)
    (p_thin : A .thin = true := by first | assumption | rfl) (p_fb : A .fb = true := by first | assumption | rfl)
    (p_sawyer : A .sawyer = true := by first | assumption | rfl) (p_canopy : A .canopy = true := by first | assumption | rfl)
    (p_links : A .links = true := by first | assumption | rfl) (p_pair : A .pair = true := by first | assumption | rfl)
    (p_ranger : A .ranger = true := by first | assumption | rfl) (p_tally : A .tally = true := by first | assumption | rfl)
    (p_inject : A .inject = true := by first | assumption | rfl) (p_lookout : A .lookout = true := by first | assumption | rfl)
    (p_storage : A .storage = true := by first | assumption | rfl) : OutKeeps A r0 (execCycleDataCrossing missed s) := by
  unfold execCycleDataCrossing
  simp +contextual (maxDischargeDepth := 60) [SameBut, SameLists, *]

end Sys2Proof.Machine
end

