-- ==== Sys2Proof/Laws/Keeps9.lean ====
section
/-! SUPPORT. What the operations of Pair.lean, Provoked.lean, HandOver.lean, Objects.lean keep (see Keeps.lean): no part beyond those named as hypotheses changes. -/

namespace Sys2Proof.Machine

set_option Elab.async false

open Sys2Proof

set_option linter.unusedSimpArgs false
set_option linter.unusedVariables false
set_option linter.tactic.unusedName false

/-! ### Pair -/

@[simp ↓] theorem refusePartner_keeps (s : State) {A : Part → Bool} {r0 : State} (h_s : Keeps A r0 s)
    (p_pair : A .pair = true := by first | assumption | rfl) : Keeps A r0 (refusePartner s) := by simp [refusePartner, SameBut, SameLists, *]

@[simp ↓] theorem checkHello_keeps (h : Hello) (s : State) {A : Part → Bool} {r0 : State} (h_s : Keeps A r0 s)
    (p_pair : A .pair = true := by first | assumption | rfl) (p_ranger : A .ranger = true := by first | assumption | rfl)
    (p_seat : A .seat = true := by first | assumption | rfl) : Keeps A r0 (checkHello h s) := by simp (maxDischargeDepth := 60) [checkHello, SameBut, SameLists, *]

@[simp ↓] theorem execPairHello_keeps (hello : Hello) (s : State) {A : Part → Bool} {r0 : State} (h_s : Keeps A r0 s)
    (p_pair : A .pair = true := by first | assumption | rfl) (p_ranger : A .ranger = true := by first | assumption | rfl)
    (p_seat : A .seat = true := by first | assumption | rfl) : OutKeeps A r0 (execPairHello hello s) := by simp (maxDischargeDepth := 60) [execPairHello, SameBut, SameLists, *]

@[simp ↓] theorem sendConfiguration_keeps (s : State) {A : Part → Bool} {r0 : State} (h_s : Keeps A r0 s)
    (p_pair : A .pair = true := by first | assumption | rfl) : Keeps A r0 (sendConfiguration s) := by
  unfold sendConfiguration
  have h1 : Keeps A r0 (tetherSend .configuration s) := tetherSend_keeps _ _ h_s
  generalize tetherSend .configuration s = x at *
  dsimp only
  split
  · exact keeps_ready h1 p_pair _
  · exact h1

@[simp ↓] theorem restartReadiness_keeps (s : State) {A : Part → Bool} {r0 : State} (h_s : Keeps A r0 s)
    (p_pair : A .pair = true := by first | assumption | rfl) : Keeps A r0 (restartReadiness s) := by simp [restartReadiness, SameBut, SameLists, *]

@[simp ↓] theorem joinPair_keeps (s : State) {A : Part → Bool} {r0 : State} (h_s : Keeps A r0 s)
    (p_pair : A .pair = true := by first | assumption | rfl) : Keeps A r0 (joinPair s) := by simp (maxDischargeDepth := 60) [joinPair, SameBut, SameLists, *]

@[simp ↓] theorem sendAdoption_keeps (s : State) {A : Part → Bool} {r0 : State} (h_s : Keeps A r0 s)
    (p_pair : A .pair = true := by first | assumption | rfl) : Keeps A r0 (sendAdoption s) := by
  unfold sendAdoption
  split <;> simp (maxDischargeDepth := 60) [SameBut, SameLists, *]

@[simp ↓] theorem execPairProof_keeps (ok : Bool) (s : State) {A : Part → Bool} {r0 : State} (h_s : Keeps A r0 s)
    (p_pair : A .pair = true := by first | assumption | rfl) : OutKeeps A r0 (execPairProof ok s) := by
  unfold execPairProof
  split <;> simp (maxDischargeDepth := 60) [SameBut, SameLists, *]

@[simp ↓] theorem effPartnerCode_keeps (v : ObjVal) (s : State) {A : Part → Bool} {r0 : State} (h_s : Keeps A r0 s)
    (p_pair : A .pair = true := by first | assumption | rfl) : Keeps A r0 (effPartnerCode v s) := by simp [effPartnerCode, SameBut, SameLists, *]

@[simp ↓] theorem heartbeatRole_keeps (h : Heartbeat) (s : State) {A : Part → Bool} {r0 : State} (h_s : Keeps A r0 s)
    (p_ring : A .ring = true := by first | assumption | rfl) (p_pair : A .pair = true := by first | assumption | rfl)
    (p_tally : A .tally = true := by first | assumption | rfl) : Keeps A r0 (heartbeatRole h s) := by
  unfold heartbeatRole
  split <;> simp (maxDischargeDepth := 60) [SameBut, SameLists, *]

@[simp ↓] theorem followState_keeps (before : Option Heartbeat) (h : Heartbeat) (s : State) {A : Part → Bool} {r0 : State} (h_s : Keeps A r0 s)
    (p_core : A .core = true := by first | assumption | rfl) (p_ring : A .ring = true := by first | assumption | rfl) (p_heads : A .heads = true := by first | assumption | rfl)
    (p_fe : A .fe = true := by first | assumption | rfl) (p_cells : A .cells = true := by first | assumption | rfl) (p_borer : A .borer = true := by first | assumption | rfl)
    (p_thin : A .thin = true := by first | assumption | rfl) (p_fb : A .fb = true := by first | assumption | rfl) (p_ranger : A .ranger = true := by first | assumption | rfl)
    (p_tally : A .tally = true := by first | assumption | rfl)
    (p_power : A .power = true := by first | assumption | rfl) : Keeps A r0 (followState before h s) := by simp [followState, *]

@[simp ↓] theorem compareEnvelope_keeps (h : Heartbeat) (s : State) {A : Part → Bool} {r0 : State} (h_s : Keeps A r0 s)
    (p_fb : A .fb = true := by first | assumption | rfl)
    (p_ranger : A .ranger = true := by first | assumption | rfl) : Keeps A r0 (compareEnvelope h s) := by simp (maxDischargeDepth := 60) [compareEnvelope, SameBut, SameLists, *]

@[simp ↓] theorem compareDigest_keeps (h : Heartbeat) (s : State) {A : Part → Bool} {r0 : State} (h_s : Keeps A r0 s)
    (p_fe : A .fe = true := by first | assumption | rfl) (p_pair : A .pair = true := by first | assumption | rfl) (p_ranger : A .ranger = true := by first | assumption | rfl)
    (p_tally : A .tally = true := by first | assumption | rfl) : Keeps A r0 (compareDigest h s) := by simp [compareDigest, *]

@[simp ↓] theorem compareFrames_keeps (h : Heartbeat) (s : State) {A : Part → Bool} {r0 : State} (h_s : Keeps A r0 s)
    (p_pair : A .pair = true := by first | assumption | rfl) (p_ranger : A .ranger = true := by first | assumption | rfl)
    (p_tally : A .tally = true := by first | assumption | rfl) : Keeps A r0 (compareFrames h s) := by simp [compareFrames, *]

@[simp ↓] theorem countCatch_keeps (h : Heartbeat) (s : State) {A : Part → Bool} {r0 : State} (h_s : Keeps A r0 s)
    (p_pair : A .pair = true := by first | assumption | rfl) : Keeps A r0 (countCatch h s) := keeps_mk h_s (by simp [SameBut, *]) (by simp [SameLists])

@[simp ↓] theorem heartbeatBack_keeps (s : State) {A : Part → Bool} {r0 : State} (h_s : Keeps A r0 s) (p_pair : A .pair = true := by first | assumption | rfl)
    (p_ranger : A .ranger = true := by first | assumption | rfl) : Keeps A r0 (heartbeatBack s) := by simp (maxDischargeDepth := 60) [heartbeatBack, SameBut, SameLists, *]

@[simp ↓] theorem takeHeartbeat_keeps (h : Heartbeat) (s : State) {A : Part → Bool} {r0 : State} (h_s : Keeps A r0 s)
    (p_core : A .core = true := by first | assumption | rfl) (p_ring : A .ring = true := by first | assumption | rfl) (p_heads : A .heads = true := by first | assumption | rfl)
    (p_fe : A .fe = true := by first | assumption | rfl) (p_cells : A .cells = true := by first | assumption | rfl) (p_borer : A .borer = true := by first | assumption | rfl)
    (p_thin : A .thin = true := by first | assumption | rfl) (p_fb : A .fb = true := by first | assumption | rfl) (p_pair : A .pair = true := by first | assumption | rfl)
    (p_ranger : A .ranger = true := by first | assumption | rfl) (p_tally : A .tally = true := by first | assumption | rfl)
    (p_power : A .power = true := by first | assumption | rfl) : Keeps A r0 (takeHeartbeat h s) := by simp (maxDischargeDepth := 60) [takeHeartbeat, SameBut, SameLists, *]

@[simp ↓] theorem takeMissing_keeps (c : Cycle) (blocks : List BlockRec) (answers : List RingResp) (s : State) {A : Part → Bool} {r0 : State}
    (h : Keeps A r0 s) (p_ring : A .ring = true := by first | assumption | rfl) (p_heads : A .heads = true := by first | assumption | rfl)
    (p_tap : A .tap = true := by first | assumption | rfl) (p_fe : A .fe = true := by first | assumption | rfl)
    (p_cells : A .cells = true := by first | assumption | rfl) (p_points : A .points = true := by first | assumption | rfl)
    (p_thin : A .thin = true := by first | assumption | rfl) (p_fb : A .fb = true := by first | assumption | rfl)
    (p_pair : A .pair = true := by first | assumption | rfl) (p_ranger : A .ranger = true := by first | assumption | rfl)
    : Keeps A r0 (takeMissing c blocks answers s) := by
  unfold takeMissing
  split
  · extract_lets s1
    have h1 : Keeps A r0 s1 := keeps_foldl (fun x a hx => keeps_ite hx (acceptBlock_keeps _ _ _ _ hx)) h
    simp (maxDischargeDepth := 60) [SameBut, SameLists, h1, *]
  · refine h.of_parts (by simp [SameBut, *]) rfl rfl rfl fun k => ?_
    exact { k with rawBuf := by simpa using k.rawBuf }

@[simp ↓] theorem inputGap_keeps (s : State) {A : Part → Bool} {r0 : State} (h_s : Keeps A r0 s) (p_fe : A .fe = true := by first | assumption | rfl)
    (p_pair : A .pair = true := by first | assumption | rfl) (p_ranger : A .ranger = true := by first | assumption | rfl)
    (p_tally : A .tally = true := by first | assumption | rfl) : Keeps A r0 (inputGap s) := by simp (maxDischargeDepth := 60) [inputGap, SameBut, SameLists, *]

@[simp ↓] theorem countInput_keeps (n : Nat) (s : State) {A : Part → Bool} {r0 : State} (h_s : Keeps A r0 s)
    (p_fe : A .fe = true := by first | assumption | rfl) (p_pair : A .pair = true := by first | assumption | rfl)
    (p_ranger : A .ranger = true := by first | assumption | rfl) (p_tally : A .tally = true := by first | assumption | rfl)
    : Keeps A r0 (countInput n s) := by
  unfold countInput
  extract_lets p
  split
  · simp (maxDischargeDepth := 60) [SameBut, SameLists, p, *]
  · exact keeps_mk h_s (by simp [SameBut, *]) (by simp [SameLists, p])

@[simp ↓] theorem takeInput_keeps (i : RepInput) (s : State) {A : Part → Bool} {r0 : State} (h_s : Keeps A r0 s)
    (p_fe : A .fe = true := by first | assumption | rfl) (p_cells : A .cells = true := by first | assumption | rfl)
    (p_scaler : A .scaler = true := by first | assumption | rfl) (p_borer : A .borer = true := by first | assumption | rfl)
    (p_fb : A .fb = true := by first | assumption | rfl) (p_dict : A .dict = true := by first | assumption | rfl)
    (p_sec : A .sec = true := by first | assumption | rfl) (p_pair : A .pair = true := by first | assumption | rfl)
    (p_ranger : A .ranger = true := by first | assumption | rfl) (p_tally : A .tally = true := by first | assumption | rfl)
    (p_storage : A .storage = true := by first | assumption | rfl) (p_update : A .update = true := by first | assumption | rfl)
    : Keeps A r0 (takeInput i s) := by
  unfold takeInput
  repeat' first
    | (simp +contextual (maxDischargeDepth := 60) [SameBut, SameLists, *]; done)
    | (rename_i e; have e := congrArg Prod.snd e; dsimp only at e; subst e)
    | split
    | (refine keeps_foldl (fun _ _ _ => ?_) ?_)
    | dsimp only

@[simp ↓] theorem holdImage_keeps (img : Image) (s : State) {A : Part → Bool} {r0 : State} (h : Keeps A r0 s)
    (p_pair : A .pair = true := by first | assumption | rfl) : Keeps A r0 (holdImage img s) := by
  refine h.of_parts (by simp [SameBut, holdImage, *]) rfl rfl rfl fun c => ?_
  have he : (holdImage img s).pair.images = keepN 2 (img :: s.pair.images) ∧ (holdImage img s).pair.rawBuf = s.pair.rawBuf ∧
      (holdImage img s).pair.sentFrames = s.pair.sentFrames := by
    unfold holdImage
    dsimp only
    split <;> split <;> exact ⟨rfl, rfl, rfl⟩
  exact { c with images := he.1 ▸ keepN_le 2 _, rawBuf := he.2.1 ▸ c.rawBuf, sentFrames := he.2.2 ▸ c.sentFrames }

@[simp ↓] theorem takePart_keeps (capture : Cycle) (part total : Nat) (image : Option Image) (s : State) {A : Part → Bool} {r0 : State} (h_s : Keeps A r0 s)
    (p_core : A .core = true := by first | assumption | rfl) (p_ring : A .ring = true := by first | assumption | rfl) (p_heads : A .heads = true := by first | assumption | rfl)
    (p_fe : A .fe = true := by first | assumption | rfl) (p_cells : A .cells = true := by first | assumption | rfl) (p_borer : A .borer = true := by first | assumption | rfl)
    (p_thin : A .thin = true := by first | assumption | rfl) (p_fb : A .fb = true := by first | assumption | rfl) (p_axes : A .axes = true := by first | assumption | rfl)
    (p_dict : A .dict = true := by first | assumption | rfl) (p_pair : A .pair = true := by first | assumption | rfl) (p_ranger : A .ranger = true := by first | assumption | rfl)
    (p_tally : A .tally = true := by first | assumption | rfl) (p_power : A .power = true := by first | assumption | rfl) : Keeps A r0 (takePart capture part total image s) := by
  unfold takePart
  (repeat' split) <;> simp (maxDischargeDepth := 60) [SameBut, SameLists, *]

@[simp ↓] theorem takeHeads_keeps (c : ConfigRx) (s : State) {A : Part → Bool} {r0 : State} (h_s : Keeps A r0 s)
    (p_ring : A .ring = true := by first | assumption | rfl) (p_heads : A .heads = true := by first | assumption | rfl) : Keeps A r0 (takeHeads c s) := by
  unfold takeHeads
  simp +contextual (maxDischargeDepth := 60) [SameBut, SameLists, *]

@[simp ↓] theorem takeValues_keeps (c : ConfigRx) (s : State) {A : Part → Bool} {r0 : State} (h_s : Keeps A r0 s)
    (p_dict : A .dict = true := by first | assumption | rfl)
    (p_storage : A .storage = true := by first | assumption | rfl) : Keeps A r0 (takeValues c s) := by simp (maxDischargeDepth := 60) [takeValues, SameBut, SameLists, *]

@[simp ↓] theorem takeConfiguration_keeps (c : ConfigRx) (s : State) {A : Part → Bool} {r0 : State} (h_s : Keeps A r0 s)
    (p_ring : A .ring = true := by first | assumption | rfl) (p_heads : A .heads = true := by first | assumption | rfl) (p_cells : A .cells = true := by first | assumption | rfl)
    (p_dict : A .dict = true := by first | assumption | rfl) (p_pair : A .pair = true := by first | assumption | rfl)
    (p_storage : A .storage = true := by first | assumption | rfl) : Keeps A r0 (takeConfiguration c s) := by
  unfold takeConfiguration
  simp +contextual (maxDischargeDepth := 60) [SameBut, SameLists, *]

@[simp ↓] theorem adoptHere_keeps (request document : Bytes) (s : State) {A : Part → Bool} {r0 : State} (h : Keeps A r0 s)
    (p_fe : A .fe = true := by first | assumption | rfl) (p_fb : A .fb = true := by first | assumption | rfl) (p_canopy : A .canopy = true := by first | assumption | rfl)
    (p_dict : A .dict = true := by first | assumption | rfl) (p_sec : A .sec = true := by first | assumption | rfl) (p_ranger : A .ranger = true := by first | assumption | rfl)
    (p_tally : A .tally = true := by first | assumption | rfl) (p_storage : A .storage = true := by first | assumption | rfl) : Keeps A r0 (adoptHere request document s).2 := by
  unfold adoptHere
  have ht := takeAdoption_keeps s.pairBinding request s h
  generalize takeAdoption s.pairBinding request s = q at ht ⊢
  obtain ⟨r, t⟩ := q
  dsimp only at ht ⊢
  split
  · split <;> simp (maxDischargeDepth := 60) [SameBut, SameLists, h, *]
  · split
    · simp (maxDischargeDepth := 60) [SameBut, SameLists, h, *]
    · split
      · exact ht
      · split
        · exact ht
        · split <;> simp (maxDischargeDepth := 60) [SameBut, SameLists, ht, *]

@[simp ↓] theorem takeAdoptionFrame_keeps (request document : Bytes) (result : Option Nat) (s : State) {A : Part → Bool} {r0 : State} (h_s : Keeps A r0 s)
    (p_fe : A .fe = true := by first | assumption | rfl) (p_fb : A .fb = true := by first | assumption | rfl) (p_canopy : A .canopy = true := by first | assumption | rfl)
    (p_dict : A .dict = true := by first | assumption | rfl) (p_sec : A .sec = true := by first | assumption | rfl) (p_pair : A .pair = true := by first | assumption | rfl)
    (p_ranger : A .ranger = true := by first | assumption | rfl) (p_tally : A .tally = true := by first | assumption | rfl)
    (p_storage : A .storage = true := by first | assumption | rfl) : Keeps A r0 (takeAdoptionFrame request document result s) := by
  unfold takeAdoptionFrame
  split <;> simp (maxDischargeDepth := 60) [SameBut, SameLists, *]

@[simp ↓] theorem takeHandOver_keeps (kind : Nat) (h : Cycle) (cause : Nat) (s : State) {A : Part → Bool} {r0 : State} (h_s : Keeps A r0 s)
    (p_fe : A .fe = true := by first | assumption | rfl) (p_pair : A .pair = true := by first | assumption | rfl) (p_ranger : A .ranger = true := by first | assumption | rfl)
    (p_tally : A .tally = true := by first | assumption | rfl) : Keeps A r0 (takeHandOver kind h cause s) := by
  unfold takeHandOver
  (repeat' split) <;> simp (maxDischargeDepth := 60) [SameBut, SameLists, *]

@[simp ↓] theorem takeTether_keeps (f : TetherRx) (s : State) {A : Part → Bool} {r0 : State} (h_s : Keeps A r0 s)
    (p_core : A .core = true := by first | assumption | rfl) (p_ring : A .ring = true := by first | assumption | rfl)
    (p_heads : A .heads = true := by first | assumption | rfl) (p_tap : A .tap = true := by first | assumption | rfl)
    (p_fe : A .fe = true := by first | assumption | rfl) (p_cells : A .cells = true := by first | assumption | rfl)
    (p_points : A .points = true := by first | assumption | rfl) (p_scaler : A .scaler = true := by first | assumption | rfl)
    (p_borer : A .borer = true := by first | assumption | rfl) (p_thin : A .thin = true := by first | assumption | rfl)
    (p_fb : A .fb = true := by first | assumption | rfl) (p_canopy : A .canopy = true := by first | assumption | rfl)
    (p_axes : A .axes = true := by first | assumption | rfl) (p_dict : A .dict = true := by first | assumption | rfl)
    (p_sec : A .sec = true := by first | assumption | rfl) (p_pair : A .pair = true := by first | assumption | rfl)
    (p_ranger : A .ranger = true := by first | assumption | rfl) (p_tally : A .tally = true := by first | assumption | rfl)
    (p_power : A .power = true := by first | assumption | rfl) (p_storage : A .storage = true := by first | assumption | rfl)
    (p_update : A .update = true := by first | assumption | rfl) : Keeps A r0 (takeTether f s) := by
  unfold takeTether
  split <;> simp (maxDischargeDepth := 60) [SameBut, SameLists, *]

@[simp ↓] theorem discardTether_keeps (s : State) {A : Part → Bool} {r0 : State} (h_s : Keeps A r0 s)
    (p_pair : A .pair = true := by first | assumption | rfl) : Keeps A r0 (discardTether s) := by simp [discardTether, SameBut, SameLists, *]

@[simp ↓] theorem deliverTether_keeps (seq : Nat) (ok : Bool) (f : TetherRx) (s : State) {A : Part → Bool} {r0 : State} (h_s : Keeps A r0 s)
    (p_core : A .core = true := by first | assumption | rfl) (p_ring : A .ring = true := by first | assumption | rfl)
    (p_heads : A .heads = true := by first | assumption | rfl) (p_tap : A .tap = true := by first | assumption | rfl)
    (p_fe : A .fe = true := by first | assumption | rfl) (p_cells : A .cells = true := by first | assumption | rfl)
    (p_points : A .points = true := by first | assumption | rfl) (p_scaler : A .scaler = true := by first | assumption | rfl)
    (p_borer : A .borer = true := by first | assumption | rfl) (p_thin : A .thin = true := by first | assumption | rfl)
    (p_fb : A .fb = true := by first | assumption | rfl) (p_canopy : A .canopy = true := by first | assumption | rfl)
    (p_axes : A .axes = true := by first | assumption | rfl) (p_dict : A .dict = true := by first | assumption | rfl)
    (p_sec : A .sec = true := by first | assumption | rfl) (p_pair : A .pair = true := by first | assumption | rfl)
    (p_ranger : A .ranger = true := by first | assumption | rfl) (p_tally : A .tally = true := by first | assumption | rfl)
    (p_power : A .power = true := by first | assumption | rfl) (p_storage : A .storage = true := by first | assumption | rfl)
    (p_update : A .update = true := by first | assumption | rfl) : Keeps A r0 (deliverTether seq ok f s) := by simp (maxDischargeDepth := 60) [deliverTether, SameBut, SameLists, *]

@[simp ↓] theorem drillTether_keeps (f : TetherRx) (s : State) {A : Part → Bool} {r0 : State} (h_s : Keeps A r0 s)
    (p_core : A .core = true := by first | assumption | rfl) (p_ring : A .ring = true := by first | assumption | rfl) (p_heads : A .heads = true := by first | assumption | rfl)
    (p_fe : A .fe = true := by first | assumption | rfl) (p_cells : A .cells = true := by first | assumption | rfl) (p_borer : A .borer = true := by first | assumption | rfl)
    (p_thin : A .thin = true := by first | assumption | rfl) (p_fb : A .fb = true := by first | assumption | rfl) (p_pair : A .pair = true := by first | assumption | rfl)
    (p_ranger : A .ranger = true := by first | assumption | rfl) (p_tally : A .tally = true := by first | assumption | rfl)
    (p_power : A .power = true := by first | assumption | rfl) : Keeps A r0 (drillTether f s) := by
  unfold drillTether
  split <;> simp (maxDischargeDepth := 60) [SameBut, SameLists, *]

@[simp ↓] theorem deliverHeldTether_keeps (s : State) (f : HeldFrame) {A : Part → Bool} {r0 : State} (h_s : Keeps A r0 s)
    (p_core : A .core = true := by first | assumption | rfl) (p_ring : A .ring = true := by first | assumption | rfl)
    (p_heads : A .heads = true := by first | assumption | rfl) (p_tap : A .tap = true := by first | assumption | rfl)
    (p_fe : A .fe = true := by first | assumption | rfl) (p_cells : A .cells = true := by first | assumption | rfl)
    (p_points : A .points = true := by first | assumption | rfl) (p_scaler : A .scaler = true := by first | assumption | rfl)
    (p_borer : A .borer = true := by first | assumption | rfl) (p_thin : A .thin = true := by first | assumption | rfl)
    (p_fb : A .fb = true := by first | assumption | rfl) (p_canopy : A .canopy = true := by first | assumption | rfl)
    (p_axes : A .axes = true := by first | assumption | rfl) (p_dict : A .dict = true := by first | assumption | rfl)
    (p_sec : A .sec = true := by first | assumption | rfl) (p_pair : A .pair = true := by first | assumption | rfl)
    (p_ranger : A .ranger = true := by first | assumption | rfl) (p_tally : A .tally = true := by first | assumption | rfl)
    (p_power : A .power = true := by first | assumption | rfl) (p_storage : A .storage = true := by first | assumption | rfl)
    (p_update : A .update = true := by first | assumption | rfl) : Keeps A r0 (deliverHeldTether s f) := by
  unfold deliverHeldTether
  split <;> simp (maxDischargeDepth := 60) [SameBut, SameLists, *]

@[simp ↓] theorem receiveTether_keeps (seq : Nat) (ok : Bool) (f : TetherRx) (s : State) {A : Part → Bool} {r0 : State} (h : Keeps A r0 s)
    (p_core : A .core = true := by first | assumption | rfl) (p_ring : A .ring = true := by first | assumption | rfl)
    (p_heads : A .heads = true := by first | assumption | rfl) (p_tap : A .tap = true := by first | assumption | rfl)
    (p_fe : A .fe = true := by first | assumption | rfl) (p_cells : A .cells = true := by first | assumption | rfl)
    (p_points : A .points = true := by first | assumption | rfl) (p_scaler : A .scaler = true := by first | assumption | rfl)
    (p_borer : A .borer = true := by first | assumption | rfl) (p_thin : A .thin = true := by first | assumption | rfl)
    (p_fb : A .fb = true := by first | assumption | rfl) (p_canopy : A .canopy = true := by first | assumption | rfl)
    (p_axes : A .axes = true := by first | assumption | rfl) (p_dict : A .dict = true := by first | assumption | rfl)
    (p_sec : A .sec = true := by first | assumption | rfl) (p_pair : A .pair = true := by first | assumption | rfl)
    (p_ranger : A .ranger = true := by first | assumption | rfl) (p_tally : A .tally = true := by first | assumption | rfl)
    (p_inject : A .inject = true := by first | assumption | rfl) (p_power : A .power = true := by first | assumption | rfl)
    (p_storage : A .storage = true := by first | assumption | rfl) (p_update : A .update = true := by first | assumption | rfl)
    : Keeps A r0 (receiveTether seq ok f s) := by
  unfold receiveTether
  have h1 := injectFrame_keeps 6 0 (s.injectCfg 6 0x10 = 0xFF || s.injectCfg 6 0x10 = f.code) s h
  generalize injectFrame 6 0 (s.injectCfg 6 0x10 = 0xFF || s.injectCfg 6 0x10 = f.code) s = q at h1 ⊢
  obtain ⟨what, t⟩ := q
  dsimp only at h1 ⊢
  have h2 := dueFrames_keeps 6 t h1
  generalize dueFrames 6 t = q at h2 ⊢
  obtain ⟨due, u⟩ := q
  dsimp only at h2 ⊢
  refine keeps_foldl (fun _ _ hx => by simp (maxDischargeDepth := 60) [SameBut, SameLists, *]) ?_
  split <;> simp (maxDischargeDepth := 60) [SameBut, SameLists, h2, *]

@[simp ↓] theorem execHeartbeatReceive_keeps (seq : Nat) (ok : Bool) (hb : Heartbeat) (s : State) {A : Part → Bool} {r0 : State} (h_s : Keeps A r0 s)
    (p_core : A .core = true := by first | assumption | rfl) (p_ring : A .ring = true := by first | assumption | rfl)
    (p_heads : A .heads = true := by first | assumption | rfl) (p_tap : A .tap = true := by first | assumption | rfl)
    (p_fe : A .fe = true := by first | assumption | rfl) (p_cells : A .cells = true := by first | assumption | rfl)
    (p_points : A .points = true := by first | assumption | rfl) (p_scaler : A .scaler = true := by first | assumption | rfl)
    (p_borer : A .borer = true := by first | assumption | rfl) (p_thin : A .thin = true := by first | assumption | rfl)
    (p_fb : A .fb = true := by first | assumption | rfl) (p_canopy : A .canopy = true := by first | assumption | rfl)
    (p_axes : A .axes = true := by first | assumption | rfl) (p_dict : A .dict = true := by first | assumption | rfl)
    (p_sec : A .sec = true := by first | assumption | rfl) (p_pair : A .pair = true := by first | assumption | rfl)
    (p_ranger : A .ranger = true := by first | assumption | rfl) (p_tally : A .tally = true := by first | assumption | rfl)
    (p_inject : A .inject = true := by first | assumption | rfl) (p_power : A .power = true := by first | assumption | rfl)
    (p_storage : A .storage = true := by first | assumption | rfl) (p_update : A .update = true := by first | assumption | rfl)
    : OutKeeps A r0 (execHeartbeatReceive seq ok hb s) := by simp (maxDischargeDepth := 60) [execHeartbeatReceive, SameBut, SameLists, *]

@[simp ↓] theorem execMissingData_keeps (seq : Nat) (ok : Bool) (cycle : Cycle) (blocks : List BlockRec) (answers : List RingResp) (s : State) {A : Part → Bool} {r0 : State}
    (h_s : Keeps A r0 s) (p_core : A .core = true := by first | assumption | rfl) (p_ring : A .ring = true := by first | assumption | rfl)
    (p_heads : A .heads = true := by first | assumption | rfl) (p_tap : A .tap = true := by first | assumption | rfl)
    (p_fe : A .fe = true := by first | assumption | rfl) (p_cells : A .cells = true := by first | assumption | rfl)
    (p_points : A .points = true := by first | assumption | rfl) (p_scaler : A .scaler = true := by first | assumption | rfl)
    (p_borer : A .borer = true := by first | assumption | rfl) (p_thin : A .thin = true := by first | assumption | rfl)
    (p_fb : A .fb = true := by first | assumption | rfl) (p_canopy : A .canopy = true := by first | assumption | rfl)
    (p_axes : A .axes = true := by first | assumption | rfl) (p_dict : A .dict = true := by first | assumption | rfl)
    (p_sec : A .sec = true := by first | assumption | rfl) (p_pair : A .pair = true := by first | assumption | rfl)
    (p_ranger : A .ranger = true := by first | assumption | rfl) (p_tally : A .tally = true := by first | assumption | rfl)
    (p_inject : A .inject = true := by first | assumption | rfl) (p_power : A .power = true := by first | assumption | rfl)
    (p_storage : A .storage = true := by first | assumption | rfl) (p_update : A .update = true := by first | assumption | rfl)
    : OutKeeps A r0 (execMissingData seq ok cycle blocks answers s) := by simp (maxDischargeDepth := 60) [execMissingData, SameBut, SameLists, *]

@[simp ↓] theorem execReplicatedInput_keeps (seq : Nat) (ok : Bool) (input : RepInput) (s : State) {A : Part → Bool} {r0 : State} (h_s : Keeps A r0 s)
    (p_core : A .core = true := by first | assumption | rfl) (p_ring : A .ring = true := by first | assumption | rfl)
    (p_heads : A .heads = true := by first | assumption | rfl) (p_tap : A .tap = true := by first | assumption | rfl)
    (p_fe : A .fe = true := by first | assumption | rfl) (p_cells : A .cells = true := by first | assumption | rfl)
    (p_points : A .points = true := by first | assumption | rfl) (p_scaler : A .scaler = true := by first | assumption | rfl)
    (p_borer : A .borer = true := by first | assumption | rfl) (p_thin : A .thin = true := by first | assumption | rfl)
    (p_fb : A .fb = true := by first | assumption | rfl) (p_canopy : A .canopy = true := by first | assumption | rfl)
    (p_axes : A .axes = true := by first | assumption | rfl) (p_dict : A .dict = true := by first | assumption | rfl)
    (p_sec : A .sec = true := by first | assumption | rfl) (p_pair : A .pair = true := by first | assumption | rfl)
    (p_ranger : A .ranger = true := by first | assumption | rfl) (p_tally : A .tally = true := by first | assumption | rfl)
    (p_inject : A .inject = true := by first | assumption | rfl) (p_power : A .power = true := by first | assumption | rfl)
    (p_storage : A .storage = true := by first | assumption | rfl) (p_update : A .update = true := by first | assumption | rfl)
    : OutKeeps A r0 (execReplicatedInput seq ok input s) := by simp (maxDischargeDepth := 60) [execReplicatedInput, SameBut, SameLists, *]

@[simp ↓] theorem execCheckpointPart_keeps (seq : Nat) (ok : Bool) (capture : Cycle) (part total : Nat) (image : Option Image) (s : State) {A : Part → Bool} {r0 : State}
    (h_s : Keeps A r0 s) (p_core : A .core = true := by first | assumption | rfl) (p_ring : A .ring = true := by first | assumption | rfl)
    (p_heads : A .heads = true := by first | assumption | rfl) (p_tap : A .tap = true := by first | assumption | rfl)
    (p_fe : A .fe = true := by first | assumption | rfl) (p_cells : A .cells = true := by first | assumption | rfl)
    (p_points : A .points = true := by first | assumption | rfl) (p_scaler : A .scaler = true := by first | assumption | rfl)
    (p_borer : A .borer = true := by first | assumption | rfl) (p_thin : A .thin = true := by first | assumption | rfl)
    (p_fb : A .fb = true := by first | assumption | rfl) (p_canopy : A .canopy = true := by first | assumption | rfl)
    (p_axes : A .axes = true := by first | assumption | rfl) (p_dict : A .dict = true := by first | assumption | rfl)
    (p_sec : A .sec = true := by first | assumption | rfl) (p_pair : A .pair = true := by first | assumption | rfl)
    (p_ranger : A .ranger = true := by first | assumption | rfl) (p_tally : A .tally = true := by first | assumption | rfl)
    (p_inject : A .inject = true := by first | assumption | rfl) (p_power : A .power = true := by first | assumption | rfl)
    (p_storage : A .storage = true := by first | assumption | rfl) (p_update : A .update = true := by first | assumption | rfl)
    : OutKeeps A r0 (execCheckpointPart seq ok capture part total image s) := by simp (maxDischargeDepth := 60) [execCheckpointPart, SameBut, SameLists, *]

@[simp ↓] theorem execConfiguration_keeps (seq : Nat) (ok : Bool) (frame : ConfigRx) (s : State) {A : Part → Bool} {r0 : State} (h_s : Keeps A r0 s)
    (p_core : A .core = true := by first | assumption | rfl) (p_ring : A .ring = true := by first | assumption | rfl)
    (p_heads : A .heads = true := by first | assumption | rfl) (p_tap : A .tap = true := by first | assumption | rfl)
    (p_fe : A .fe = true := by first | assumption | rfl) (p_cells : A .cells = true := by first | assumption | rfl)
    (p_points : A .points = true := by first | assumption | rfl) (p_scaler : A .scaler = true := by first | assumption | rfl)
    (p_borer : A .borer = true := by first | assumption | rfl) (p_thin : A .thin = true := by first | assumption | rfl)
    (p_fb : A .fb = true := by first | assumption | rfl) (p_canopy : A .canopy = true := by first | assumption | rfl)
    (p_axes : A .axes = true := by first | assumption | rfl) (p_dict : A .dict = true := by first | assumption | rfl)
    (p_sec : A .sec = true := by first | assumption | rfl) (p_pair : A .pair = true := by first | assumption | rfl)
    (p_ranger : A .ranger = true := by first | assumption | rfl) (p_tally : A .tally = true := by first | assumption | rfl)
    (p_inject : A .inject = true := by first | assumption | rfl) (p_power : A .power = true := by first | assumption | rfl)
    (p_storage : A .storage = true := by first | assumption | rfl) (p_update : A .update = true := by first | assumption | rfl)
    : OutKeeps A r0 (execConfiguration seq ok frame s) := by simp (maxDischargeDepth := 60) [execConfiguration, SameBut, SameLists, *]

@[simp ↓] theorem execAdoption_keeps (seq : Nat) (ok : Bool) (request document : Bytes) (result : Option Nat) (s : State) {A : Part → Bool} {r0 : State}
    (h_s : Keeps A r0 s) (p_core : A .core = true := by first | assumption | rfl) (p_ring : A .ring = true := by first | assumption | rfl)
    (p_heads : A .heads = true := by first | assumption | rfl) (p_tap : A .tap = true := by first | assumption | rfl)
    (p_fe : A .fe = true := by first | assumption | rfl) (p_cells : A .cells = true := by first | assumption | rfl)
    (p_points : A .points = true := by first | assumption | rfl) (p_scaler : A .scaler = true := by first | assumption | rfl)
    (p_borer : A .borer = true := by first | assumption | rfl) (p_thin : A .thin = true := by first | assumption | rfl)
    (p_fb : A .fb = true := by first | assumption | rfl) (p_canopy : A .canopy = true := by first | assumption | rfl)
    (p_axes : A .axes = true := by first | assumption | rfl) (p_dict : A .dict = true := by first | assumption | rfl)
    (p_sec : A .sec = true := by first | assumption | rfl) (p_pair : A .pair = true := by first | assumption | rfl)
    (p_ranger : A .ranger = true := by first | assumption | rfl) (p_tally : A .tally = true := by first | assumption | rfl)
    (p_inject : A .inject = true := by first | assumption | rfl) (p_power : A .power = true := by first | assumption | rfl)
    (p_storage : A .storage = true := by first | assumption | rfl) (p_update : A .update = true := by first | assumption | rfl)
    : OutKeeps A r0 (execAdoption seq ok request document result s) := by simp (maxDischargeDepth := 60) [execAdoption, SameBut, SameLists, *]

@[simp ↓] theorem execHandOver_keeps (seq : Nat) (ok : Bool) (kind : Nat) (h : Cycle) (cause : Nat) (s : State) {A : Part → Bool} {r0 : State}
    (h_s : Keeps A r0 s) (p_core : A .core = true := by first | assumption | rfl) (p_ring : A .ring = true := by first | assumption | rfl)
    (p_heads : A .heads = true := by first | assumption | rfl) (p_tap : A .tap = true := by first | assumption | rfl)
    (p_fe : A .fe = true := by first | assumption | rfl) (p_cells : A .cells = true := by first | assumption | rfl)
    (p_points : A .points = true := by first | assumption | rfl) (p_scaler : A .scaler = true := by first | assumption | rfl)
    (p_borer : A .borer = true := by first | assumption | rfl) (p_thin : A .thin = true := by first | assumption | rfl)
    (p_fb : A .fb = true := by first | assumption | rfl) (p_canopy : A .canopy = true := by first | assumption | rfl)
    (p_axes : A .axes = true := by first | assumption | rfl) (p_dict : A .dict = true := by first | assumption | rfl)
    (p_sec : A .sec = true := by first | assumption | rfl) (p_pair : A .pair = true := by first | assumption | rfl)
    (p_ranger : A .ranger = true := by first | assumption | rfl) (p_tally : A .tally = true := by first | assumption | rfl)
    (p_inject : A .inject = true := by first | assumption | rfl) (p_power : A .power = true := by first | assumption | rfl)
    (p_storage : A .storage = true := by first | assumption | rfl) (p_update : A .update = true := by first | assumption | rfl)
    : OutKeeps A r0 (execHandOver seq ok kind h cause s) := by simp (maxDischargeDepth := 60) [execHandOver, SameBut, SameLists, *]

@[simp ↓] theorem rawBoundary_keeps (s : State) {A : Part → Bool} {r0 : State} (h : Keeps A r0 s)
    (p_pair : A .pair = true := by first | assumption | rfl) : Keeps A r0 (rawBoundary s) := by
  unfold rawBoundary
  dsimp only
  split
  · exact h
  · refine h.of_parts (by simp [SameBut, *]) rfl rfl rfl fun c => ?_
    exact { c with rawBuf := keepN_le 1250 _ }

@[simp ↓] theorem execReadinessComplete_keeps (s : State) {A : Part → Bool} {r0 : State} (h_s : Keeps A r0 s)
    (p_pair : A .pair = true := by first | assumption | rfl)
    (p_tally : A .tally = true := by first | assumption | rfl) : OutKeeps A r0 (execReadinessComplete s) := by simp (maxDischargeDepth := 60) [execReadinessComplete, SameBut, SameLists, *]

/-! ### Provoked -/

@[simp ↓] theorem releaseHeld_keeps (link : Nat) (s : State) {A : Part → Bool} {r0 : State} (h_s : Keeps A r0 s)
    (p_core : A .core = true := by first | assumption | rfl) (p_ring : A .ring = true := by first | assumption | rfl)
    (p_heads : A .heads = true := by first | assumption | rfl) (p_tap : A .tap = true := by first | assumption | rfl)
    (p_fe : A .fe = true := by first | assumption | rfl) (p_cells : A .cells = true := by first | assumption | rfl)
    (p_points : A .points = true := by first | assumption | rfl) (p_scaler : A .scaler = true := by first | assumption | rfl)
    (p_cruiser : A .cruiser = true := by first | assumption | rfl) (p_borer : A .borer = true := by first | assumption | rfl)
    (p_thin : A .thin = true := by first | assumption | rfl) (p_fb : A .fb = true := by first | assumption | rfl)
    (p_canopy : A .canopy = true := by first | assumption | rfl) (p_axes : A .axes = true := by first | assumption | rfl)
    (p_links : A .links = true := by first | assumption | rfl) (p_dict : A .dict = true := by first | assumption | rfl)
    (p_sec : A .sec = true := by first | assumption | rfl) (p_pair : A .pair = true := by first | assumption | rfl)
    (p_ranger : A .ranger = true := by first | assumption | rfl) (p_tally : A .tally = true := by first | assumption | rfl)
    (p_inject : A .inject = true := by first | assumption | rfl) (p_power : A .power = true := by first | assumption | rfl)
    (p_storage : A .storage = true := by first | assumption | rfl) (p_update : A .update = true := by first | assumption | rfl)
    : Keeps A r0 (releaseHeld link s) := by
  unfold releaseHeld
  simp +contextual (maxDischargeDepth := 60) [SameBut, SameLists, *]

@[simp ↓] theorem stopInjection_keeps (link : Nat) (s : State) {A : Part → Bool} {r0 : State} (h_s : Keeps A r0 s)
    (p_core : A .core = true := by first | assumption | rfl) (p_ring : A .ring = true := by first | assumption | rfl)
    (p_heads : A .heads = true := by first | assumption | rfl) (p_tap : A .tap = true := by first | assumption | rfl)
    (p_fe : A .fe = true := by first | assumption | rfl) (p_cells : A .cells = true := by first | assumption | rfl)
    (p_points : A .points = true := by first | assumption | rfl) (p_scaler : A .scaler = true := by first | assumption | rfl)
    (p_cruiser : A .cruiser = true := by first | assumption | rfl) (p_borer : A .borer = true := by first | assumption | rfl)
    (p_thin : A .thin = true := by first | assumption | rfl) (p_fb : A .fb = true := by first | assumption | rfl)
    (p_canopy : A .canopy = true := by first | assumption | rfl) (p_axes : A .axes = true := by first | assumption | rfl)
    (p_links : A .links = true := by first | assumption | rfl) (p_dict : A .dict = true := by first | assumption | rfl)
    (p_sec : A .sec = true := by first | assumption | rfl) (p_pair : A .pair = true := by first | assumption | rfl)
    (p_ranger : A .ranger = true := by first | assumption | rfl) (p_tally : A .tally = true := by first | assumption | rfl)
    (p_inject : A .inject = true := by first | assumption | rfl) (p_power : A .power = true := by first | assumption | rfl)
    (p_storage : A .storage = true := by first | assumption | rfl) (p_update : A .update = true := by first | assumption | rfl)
    : Keeps A r0 (stopInjection link s) := by simp (maxDischargeDepth := 60) [stopInjection, SameBut, SameLists, *]

@[simp ↓] theorem execProvokedFaultStart_keeps (link : Nat) (s : State) {A : Part → Bool} {r0 : State} (h_s : Keeps A r0 s)
    (p_pair : A .pair = true := by first | assumption | rfl) (p_tally : A .tally = true := by first | assumption | rfl)
    (p_inject : A .inject = true := by first | assumption | rfl) : OutKeeps A r0 (execProvokedFaultStart link s) := by simp (maxDischargeDepth := 60) [execProvokedFaultStart, SameBut, SameLists, *]

@[simp ↓] theorem execProvokedFaultEnd_keeps (link : Nat) (s : State) {A : Part → Bool} {r0 : State} (h_s : Keeps A r0 s)
    (p_core : A .core = true := by first | assumption | rfl) (p_ring : A .ring = true := by first | assumption | rfl)
    (p_heads : A .heads = true := by first | assumption | rfl) (p_tap : A .tap = true := by first | assumption | rfl)
    (p_fe : A .fe = true := by first | assumption | rfl) (p_cells : A .cells = true := by first | assumption | rfl)
    (p_points : A .points = true := by first | assumption | rfl) (p_scaler : A .scaler = true := by first | assumption | rfl)
    (p_cruiser : A .cruiser = true := by first | assumption | rfl) (p_borer : A .borer = true := by first | assumption | rfl)
    (p_thin : A .thin = true := by first | assumption | rfl) (p_fb : A .fb = true := by first | assumption | rfl)
    (p_canopy : A .canopy = true := by first | assumption | rfl) (p_axes : A .axes = true := by first | assumption | rfl)
    (p_links : A .links = true := by first | assumption | rfl) (p_dict : A .dict = true := by first | assumption | rfl)
    (p_sec : A .sec = true := by first | assumption | rfl) (p_pair : A .pair = true := by first | assumption | rfl)
    (p_ranger : A .ranger = true := by first | assumption | rfl) (p_tally : A .tally = true := by first | assumption | rfl)
    (p_inject : A .inject = true := by first | assumption | rfl) (p_power : A .power = true := by first | assumption | rfl)
    (p_storage : A .storage = true := by first | assumption | rfl) (p_update : A .update = true := by first | assumption | rfl)
    : OutKeeps A r0 (execProvokedFaultEnd link s) := by simp (maxDischargeDepth := 60) [execProvokedFaultEnd, SameBut, SameLists, *]

/-! ### HandOver -/

@[simp ↓] theorem effHandOver_keeps (s : State) {A : Part → Bool} {r0 : State} (h_s : Keeps A r0 s) (p_pair : A .pair = true := by first | assumption | rfl)
    (p_tally : A .tally = true := by first | assumption | rfl) : Keeps A r0 (effHandOver s) := by simp (maxDischargeDepth := 60) [effHandOver, SameBut, SameLists, *]

@[simp ↓] theorem effCancel_keeps (s : State) {A : Part → Bool} {r0 : State} (h_s : Keeps A r0 s) (p_fe : A .fe = true := by first | assumption | rfl)
    (p_pair : A .pair = true := by first | assumption | rfl) (p_ranger : A .ranger = true := by first | assumption | rfl)
    (p_tally : A .tally = true := by first | assumption | rfl) : Keeps A r0 (effCancel s) := by simp [effCancel, *]

@[simp ↓] theorem execRoleSwapTimer_keeps (s : State) {A : Part → Bool} {r0 : State} (h_s : Keeps A r0 s)
    (p_pair : A .pair = true := by first | assumption | rfl) (p_ranger : A .ranger = true := by first | assumption | rfl)
    (p_tally : A .tally = true := by first | assumption | rfl) : OutKeeps A r0 (execRoleSwapTimer s) := by simp (maxDischargeDepth := 60) [execRoleSwapTimer, SameBut, SameLists, *]

@[simp ↓] theorem execNotWarmAbort_keeps (s : State) {A : Part → Bool} {r0 : State} (h_s : Keeps A r0 s) (p_fe : A .fe = true := by first | assumption | rfl)
    (p_pair : A .pair = true := by first | assumption | rfl) (p_ranger : A .ranger = true := by first | assumption | rfl)
    (p_tally : A .tally = true := by first | assumption | rfl) : OutKeeps A r0 (execNotWarmAbort s) := by simp (maxDischargeDepth := 60) [execNotWarmAbort, SameBut, SameLists, *]

@[simp ↓] theorem holdAxes_keeps (s : State) {A : Part → Bool} {r0 : State} (h_s : Keeps A r0 s)
    (p_axes : A .axes = true := by first | assumption | rfl) : Keeps A r0 (holdAxes s) := by
  unfold holdAxes
  simp +contextual (maxDischargeDepth := 60) [SameBut, SameLists, *]

@[simp ↓] theorem execStateFreeze_keeps (s : State) {A : Part → Bool} {r0 : State} (h_s : Keeps A r0 s)
    (p_axes : A .axes = true := by first | assumption | rfl)
    (p_pair : A .pair = true := by first | assumption | rfl) : OutKeeps A r0 (execStateFreeze s) := by simp (maxDischargeDepth := 60) [execStateFreeze, SameBut, SameLists, *]

@[simp ↓] theorem execOverlapStart_keeps (s : State) {A : Part → Bool} {r0 : State} (h_s : Keeps A r0 s) (p_fe : A .fe = true := by first | assumption | rfl)
    (p_pair : A .pair = true := by first | assumption | rfl) : OutKeeps A r0 (execOverlapStart s) := by simp (maxDischargeDepth := 60) [execOverlapStart, SameBut, SameLists, *]

@[simp ↓] theorem waitToInject_keeps (s : State) {A : Part → Bool} {r0 : State} (h_s : Keeps A r0 s)
    (p_fe : A .fe = true := by first | assumption | rfl) : Keeps A r0 (waitToInject s) := by
  unfold waitToInject
  repeat' first
    | (simp +contextual (maxDischargeDepth := 60) [SameBut, SameLists, *]; done)
    | (rename_i e; have e := congrArg Prod.snd e; dsimp only at e; subst e)
    | split
    | (refine keeps_foldl (fun _ _ _ => ?_) ?_)
    | dsimp only

@[simp ↓] theorem execOriginationChange_keeps (s : State) {A : Part → Bool} {r0 : State} (h_s : Keeps A r0 s)
    (p_ring : A .ring = true := by first | assumption | rfl) (p_heads : A .heads = true := by first | assumption | rfl)
    (p_fe : A .fe = true := by first | assumption | rfl) (p_cruiser : A .cruiser = true := by first | assumption | rfl)
    (p_pair : A .pair = true := by first | assumption | rfl) : OutKeeps A r0 (execOriginationChange s) := by simp (maxDischargeDepth := 60) [execOriginationChange, SameBut, SameLists, *]

@[simp ↓] theorem legsOff_keeps (s : State) {A : Part → Bool} {r0 : State} (h_s : Keeps A r0 s)
    (p_axes : A .axes = true := by first | assumption | rfl) : Keeps A r0 (legsOff s) := by
  unfold legsOff
  simp +contextual (maxDischargeDepth := 60) [SameBut, SameLists, *]

@[simp ↓] theorem execHandOverComplete_keeps (s : State) {A : Part → Bool} {r0 : State} (h : Keeps A r0 s)
    (p_fe : A .fe = true := by first | assumption | rfl) (p_fb : A .fb = true := by first | assumption | rfl) (p_axes : A .axes = true := by first | assumption | rfl)
    (p_pair : A .pair = true := by first | assumption | rfl) (p_ranger : A .ranger = true := by first | assumption | rfl) (p_tally : A .tally = true := by first | assumption | rfl)
    (p_power : A .power = true := by first | assumption | rfl) : OutKeeps A r0 (execHandOverComplete s) := by
  unfold execHandOverComplete
  split
  · extract_lets b0 s1 b1 s2
    have h1 : Keeps A r0 s1 := by simp (maxDischargeDepth := 60) [SameBut, SameLists, s1, b0, h, *]
    have h2 : Keeps A r0 s2 := by
      refine h1.of_parts (by simp [SameBut, s2, *]) rfl rfl rfl fun c => ?_
      exact { c with images := c.landing }
    (repeat' split) <;> simp (maxDischargeDepth := 60) [SameBut, SameLists, h1, h2, *]
  · simp (maxDischargeDepth := 60) [SameBut, SameLists, h, *]

@[simp ↓] theorem execCoilCatch_keeps (k : Nat) (s : State) {A : Part → Bool} {r0 : State} (h_s : Keeps A r0 s)
    (p_fe : A .fe = true := by first | assumption | rfl) (p_pair : A .pair = true := by first | assumption | rfl)
    (p_ranger : A .ranger = true := by first | assumption | rfl) : OutKeeps A r0 (execCoilCatch k s) := by simp (maxDischargeDepth := 60) [execCoilCatch, SameBut, SameLists, *]

@[simp ↓] theorem execCoilCatchEnd_keeps (k : Nat) (openPath : Bool) (s : State) {A : Part → Bool} {r0 : State} (h_s : Keeps A r0 s)
    (p_fe : A .fe = true := by first | assumption | rfl)
    (p_pair : A .pair = true := by first | assumption | rfl) : OutKeeps A r0 (execCoilCatchEnd k openPath s) := by simp (maxDischargeDepth := 60) [execCoilCatchEnd, SameBut, SameLists, *]

@[simp ↓] theorem takeAxis_keeps (keep : Bool) (img : Image) (s : State) (a : Nat) {A : Part → Bool} {r0 : State} (h_s : Keeps A r0 s)
    (p_axes : A .axes = true := by first | assumption | rfl) : Keeps A r0 (takeAxis keep img s a) := by simp (maxDischargeDepth := 60) [takeAxis, SameBut, SameLists, *]

@[simp ↓] theorem axesOver_keeps (s : State) {A : Part → Bool} {r0 : State} (h_s : Keeps A r0 s) (p_axes : A .axes = true := by first | assumption | rfl)
    (p_ranger : A .ranger = true := by first | assumption | rfl) (p_power : A .power = true := by first | assumption | rfl) : Keeps A r0 (axesOver s) := by
  unfold axesOver
  repeat' first
    | (simp +contextual (maxDischargeDepth := 60) [SameBut, SameLists, *]; done)
    | (rename_i e; have e := congrArg Prod.snd e; dsimp only at e; subst e)
    | split
    | (refine keeps_foldl (fun _ _ _ => ?_) ?_)
    | dsimp only

@[simp ↓] theorem execTakeover_keeps (late : Bool) (s : State) {A : Part → Bool} {r0 : State} (h_s : Keeps A r0 s)
    (p_fe : A .fe = true := by first | assumption | rfl) (p_fb : A .fb = true := by first | assumption | rfl) (p_sawyer : A .sawyer = true := by first | assumption | rfl)
    (p_axes : A .axes = true := by first | assumption | rfl) (p_pair : A .pair = true := by first | assumption | rfl) (p_ranger : A .ranger = true := by first | assumption | rfl)
    (p_power : A .power = true := by first | assumption | rfl) : OutKeeps A r0 (execTakeover late s) := by simp (maxDischargeDepth := 60) [execTakeover, SameBut, SameLists, *]

/-! ### Objects -/

@[simp ↓] theorem sendDispatch_keeps (e : DispatchEvent) (s : State) {A : Part → Bool} {r0 : State} (h_s : Keeps A r0 s)
    (p_sawyer : A .sawyer = true := by first | assumption | rfl)
    (p_pair : A .pair = true := by first | assumption | rfl) : Keeps A r0 (sendDispatch e s) := by simp [sendDispatch, *]

@[simp ↓] theorem lowEffect_keeps (sess dest req idx sub n : Nat) (s : State) {A : Part → Bool} {r0 : State} (h_s : Keeps A r0 s)
    (p_ring : A .ring = true := by first | assumption | rfl) (p_heads : A .heads = true := by first | assumption | rfl) (p_tap : A .tap = true := by first | assumption | rfl)
    (p_fe : A .fe = true := by first | assumption | rfl) (p_cells : A .cells = true := by first | assumption | rfl) (p_thin : A .thin = true := by first | assumption | rfl)
    (p_dict : A .dict = true := by first | assumption | rfl) (p_sec : A .sec = true := by first | assumption | rfl) (p_pair : A .pair = true := by first | assumption | rfl)
    (p_ranger : A .ranger = true := by first | assumption | rfl) (p_tally : A .tally = true := by first | assumption | rfl)
    (p_power : A .power = true := by first | assumption | rfl) : Keeps A r0 (lowEffect sess dest req idx sub n s) := by
  unfold lowEffect
  (repeat' split) <;> simp (maxDischargeDepth := 60) [SameBut, SameLists, *]

@[simp ↓] theorem cellEffect_keeps (idx sub n : Nat) (s : State) {A : Part → Bool} {r0 : State} (h_s : Keeps A r0 s)
    (p_heads : A .heads = true := by first | assumption | rfl) (p_cells : A .cells = true := by first | assumption | rfl)
    (p_points : A .points = true := by first | assumption | rfl) (p_scaler : A .scaler = true := by first | assumption | rfl)
    (p_cruiser : A .cruiser = true := by first | assumption | rfl) (p_borer : A .borer = true := by first | assumption | rfl)
    (p_thin : A .thin = true := by first | assumption | rfl) (p_ranger : A .ranger = true := by first | assumption | rfl)
    (p_tally : A .tally = true := by first | assumption | rfl) (p_storage : A .storage = true := by first | assumption | rfl)
    : Keeps A r0 (cellEffect idx sub n s) := by
  unfold cellEffect
  (repeat' split) <;> simp (maxDischargeDepth := 60) [SameBut, SameLists, *]

@[simp ↓] theorem effTrace_keeps (b n : Nat) (s : State) {A : Part → Bool} {r0 : State} (h_s : Keeps A r0 s)
    (p_sawyer : A .sawyer = true := by first | assumption | rfl) : Keeps A r0 (effTrace b n s) := by
  unfold effTrace
  split <;> simp (maxDischargeDepth := 60) [SameBut, SameLists, *]

@[simp ↓] theorem controlEffect_keeps (idx sub n : Nat) (v : ObjVal) (s : State) {A : Part → Bool} {r0 : State} (h_s : Keeps A r0 s)
    (p_sawyer : A .sawyer = true := by first | assumption | rfl) (p_axes : A .axes = true := by first | assumption | rfl) (p_ranger : A .ranger = true := by first | assumption | rfl)
    (p_storage : A .storage = true := by first | assumption | rfl)
    (p_update : A .update = true := by first | assumption | rfl) : Keeps A r0 (controlEffect idx sub n v s) := by simp (maxDischargeDepth := 60) [controlEffect, SameBut, SameLists, *]

@[simp ↓] theorem linkEffect_keeps (sess dest req idx sub : Nat) (v : ObjVal) (s : State) {A : Part → Bool} {r0 : State} (h_s : Keeps A r0 s)
    (p_fb : A .fb = true := by first | assumption | rfl) (p_links : A .links = true := by first | assumption | rfl) (p_clock : A .clock = true := by first | assumption | rfl)
    (p_dict : A .dict = true := by first | assumption | rfl) (p_sec : A .sec = true := by first | assumption | rfl) (p_pair : A .pair = true := by first | assumption | rfl)
    (p_ranger : A .ranger = true := by first | assumption | rfl) (p_tally : A .tally = true := by first | assumption | rfl)
    (p_storage : A .storage = true := by first | assumption | rfl) : Keeps A r0 (linkEffect sess dest req idx sub v s) := by
  unfold linkEffect
  (repeat' split) <;> simp (maxDischargeDepth := 60) [SameBut, SameLists, *]

@[simp ↓] theorem effRearm_keeps (n : Nat) (s : State) {A : Part → Bool} {r0 : State} (h_s : Keeps A r0 s)
    (p_ranger : A .ranger = true := by first | assumption | rfl) : Keeps A r0 (effRearm n s) := by simp (maxDischargeDepth := 60) [effRearm, SameBut, SameLists, *]

@[simp ↓] theorem effCursor_keeps (sess n : Nat) (s : State) {A : Part → Bool} {r0 : State} (h_s : Keeps A r0 s)
    (p_tally : A .tally = true := by first | assumption | rfl) : Keeps A r0 (effCursor sess n s) := by simp [effCursor, SameBut, SameLists, *]

@[simp ↓] theorem systemEffect_keeps (sess dest req idx sub n : Nat) (v : ObjVal) (s : State) {A : Part → Bool} {r0 : State} (h_s : Keeps A r0 s)
    (p_core : A .core = true := by first | assumption | rfl) (p_ring : A .ring = true := by first | assumption | rfl)
    (p_heads : A .heads = true := by first | assumption | rfl) (p_tap : A .tap = true := by first | assumption | rfl)
    (p_fe : A .fe = true := by first | assumption | rfl) (p_cells : A .cells = true := by first | assumption | rfl)
    (p_points : A .points = true := by first | assumption | rfl) (p_scaler : A .scaler = true := by first | assumption | rfl)
    (p_cruiser : A .cruiser = true := by first | assumption | rfl) (p_borer : A .borer = true := by first | assumption | rfl)
    (p_thin : A .thin = true := by first | assumption | rfl) (p_fb : A .fb = true := by first | assumption | rfl)
    (p_canopy : A .canopy = true := by first | assumption | rfl) (p_axes : A .axes = true := by first | assumption | rfl)
    (p_links : A .links = true := by first | assumption | rfl) (p_dict : A .dict = true := by first | assumption | rfl)
    (p_sec : A .sec = true := by first | assumption | rfl) (p_pair : A .pair = true := by first | assumption | rfl)
    (p_ranger : A .ranger = true := by first | assumption | rfl) (p_tally : A .tally = true := by first | assumption | rfl)
    (p_inject : A .inject = true := by first | assumption | rfl) (p_power : A .power = true := by first | assumption | rfl)
    (p_storage : A .storage = true := by first | assumption | rfl) (p_update : A .update = true := by first | assumption | rfl)
    : Keeps A r0 (systemEffect sess dest req idx sub n v s) := by
  unfold systemEffect
  (repeat' split) <;> simp (maxDischargeDepth := 60) [SameBut, SameLists, *]

@[simp ↓] theorem objectEffect_keeps (sess dest req idx sub : Nat) (v : ObjVal) (s : State) {A : Part → Bool} {r0 : State} (h_s : Keeps A r0 s)
    (p_core : A .core = true := by first | assumption | rfl) (p_ring : A .ring = true := by first | assumption | rfl)
    (p_heads : A .heads = true := by first | assumption | rfl) (p_tap : A .tap = true := by first | assumption | rfl)
    (p_fe : A .fe = true := by first | assumption | rfl) (p_cells : A .cells = true := by first | assumption | rfl)
    (p_points : A .points = true := by first | assumption | rfl) (p_scaler : A .scaler = true := by first | assumption | rfl)
    (p_cruiser : A .cruiser = true := by first | assumption | rfl) (p_borer : A .borer = true := by first | assumption | rfl)
    (p_thin : A .thin = true := by first | assumption | rfl) (p_fb : A .fb = true := by first | assumption | rfl)
    (p_sawyer : A .sawyer = true := by first | assumption | rfl) (p_canopy : A .canopy = true := by first | assumption | rfl)
    (p_axes : A .axes = true := by first | assumption | rfl) (p_links : A .links = true := by first | assumption | rfl)
    (p_clock : A .clock = true := by first | assumption | rfl) (p_dict : A .dict = true := by first | assumption | rfl)
    (p_sec : A .sec = true := by first | assumption | rfl) (p_pair : A .pair = true := by first | assumption | rfl)
    (p_ranger : A .ranger = true := by first | assumption | rfl) (p_tally : A .tally = true := by first | assumption | rfl)
    (p_inject : A .inject = true := by first | assumption | rfl) (p_power : A .power = true := by first | assumption | rfl)
    (p_storage : A .storage = true := by first | assumption | rfl) (p_update : A .update = true := by first | assumption | rfl)
    : Keeps A r0 (objectEffect sess dest req idx sub v s) := by simp (maxDischargeDepth := 60) [objectEffect, SameBut, SameLists, *]

end Sys2Proof.Machine
end

