-- ==== Sys2Proof/Laws/Keeps10.lean ====
section
/-! SUPPORT. What the operations of Serve.lean keep (see Keeps.lean): no part beyond those named as hypotheses changes. -/

namespace Sys2Proof.Machine

set_option Elab.async false

open Sys2Proof

set_option linter.unusedSimpArgs false
set_option linter.unusedVariables false
set_option linter.tactic.unusedName false

/-! ### Serve -/

@[simp ↓] theorem recordValue_keeps (key : Nat) (v : ObjVal) (cyc : Cycle) (release : Option Response) (s : State) {A : Part → Bool} {r0 : State} (h_s : Keeps A r0 s)
    (p_cruiser : A .cruiser = true := by first | assumption | rfl) (p_ranger : A .ranger = true := by first | assumption | rfl)
    (p_storage : A .storage = true := by first | assumption | rfl) : Keeps A r0 (recordValue key v cyc release s) := by
  unfold recordValue
  repeat' first
    | (simp +contextual (maxDischargeDepth := 60) [SameBut, SameLists, *]; done)
    | (rename_i e; have e := congrArg Prod.snd e; dsimp only at e; subst e)
    | split
    | (refine keeps_foldl (fun _ _ _ => ?_) ?_)
    | dsimp only

@[simp ↓] theorem finishWrite_keeps (dest req : Nat) (cyc : Cycle) (abort : Nat) (entries : List (Nat × ObjVal)) (s : State) {A : Part → Bool} {r0 : State} (h_s : Keeps A r0 s)
    (p_cruiser : A .cruiser = true := by first | assumption | rfl) (p_dict : A .dict = true := by first | assumption | rfl) (p_ranger : A .ranger = true := by first | assumption | rfl)
    (p_storage : A .storage = true := by first | assumption | rfl) : Keeps A r0 (finishWrite dest req cyc abort entries s) := by
  unfold finishWrite
  repeat' first
    | (simp +contextual (maxDischargeDepth := 60) [SameBut, SameLists, *]; done)
    | (rename_i e; have e := congrArg Prod.snd e; dsimp only at e; subst e)
    | split
    | (refine keeps_foldl (fun _ _ _ => ?_) ?_)
    | dsimp only

@[simp ↓] theorem enforce_keeps (sess dest req idx sub : Nat) (v : ObjVal) (s : State) {A : Part → Bool} {r0 : State} (h_s : Keeps A r0 s)
    (p_core : A .core = true := by first | assumption | rfl) (p_ring : A .ring = true := by first | assumption | rfl)
    (p_heads : A .heads = true := by first | assumption | rfl) (p_tap : A .tap = true := by first | assumption | rfl)
    (p_fe : A .fe = true := by first | assumption | rfl) (p_cells : A .cells = true := by first | assumption | rfl)
    (p_points : A .points = true := by first | assumption | rfl) (p_scaler : A .scaler = true := by first | assumption | rfl)
    (p_cruiser : A .cruiser = true := by first | assumption | rfl) (p_borer : A .borer = true := by first | assumption | rfl)
    (p_thin : A .thin = true := by first | assumption | rfl) (p_fb : A .fb = true := by first | assumption | rfl)
    (p_sawyer : A .sawyer = true := by first | assumption | rfl) (p_canopy : A .canopy = true := by first | assumption | rfl)
    (p_axes : A .axes = true := by first | assumption | rfl) (p_links : A .links = true := by first | assumption | rfl)
    (p_clock : A .clock = true := by first | assumption | rfl) (p_dict : A .dict = true := by first | assumption | rfl)
    (p_sec : A .sec = true := by first | assumption | rfl) (p_pair : A .pair = true := by first | assumption | rfl)
    (p_ranger : A .ranger = true := by first | assumption | rfl) (p_tally : A .tally = true := by first | assumption | rfl)
    (p_inject : A .inject = true := by first | assumption | rfl) (p_power : A .power = true := by first | assumption | rfl)
    (p_storage : A .storage = true := by first | assumption | rfl) (p_update : A .update = true := by first | assumption | rfl)
    : Keeps A r0 (enforce sess dest req idx sub v s) := by simp [enforce, *]

@[simp ↓] theorem queueWrite_keeps (sess req idx sub : Nat) (v : ObjVal) (s : State) {A : Part → Bool} {r0 : State} (h_s : Keeps A r0 s)
    (p_cells : A .cells = true := by first | assumption | rfl) (p_scaler : A .scaler = true := by first | assumption | rfl)
    (p_borer : A .borer = true := by first | assumption | rfl) (p_dict : A .dict = true := by first | assumption | rfl)
    (p_pair : A .pair = true := by first | assumption | rfl) (p_tally : A .tally = true := by first | assumption | rfl)
    (p_storage : A .storage = true := by first | assumption | rfl) : Keeps A r0 (queueWrite sess req idx sub v s) := by simp (maxDischargeDepth := 60) [queueWrite, SameBut, SameLists, *]

@[simp ↓] theorem refuseWrite_keeps (sess req idx sub code : Nat) (v : ObjVal) (s : State) {A : Part → Bool} {r0 : State} (h_s : Keeps A r0 s)
    (p_fb : A .fb = true := by first | assumption | rfl) (p_dict : A .dict = true := by first | assumption | rfl)
    (p_sec : A .sec = true := by first | assumption | rfl) : Keeps A r0 (refuseWrite sess req idx sub code v s) := by simp (maxDischargeDepth := 60) [refuseWrite, SameBut, SameLists, *]

@[simp ↓] theorem acceptWrite_keeps (sess req idx sub : Nat) (v : ObjVal) (s : State) {A : Part → Bool} {r0 : State} (h_s : Keeps A r0 s)
    (p_core : A .core = true := by first | assumption | rfl) (p_ring : A .ring = true := by first | assumption | rfl)
    (p_heads : A .heads = true := by first | assumption | rfl) (p_tap : A .tap = true := by first | assumption | rfl)
    (p_fe : A .fe = true := by first | assumption | rfl) (p_cells : A .cells = true := by first | assumption | rfl)
    (p_points : A .points = true := by first | assumption | rfl) (p_scaler : A .scaler = true := by first | assumption | rfl)
    (p_cruiser : A .cruiser = true := by first | assumption | rfl) (p_borer : A .borer = true := by first | assumption | rfl)
    (p_thin : A .thin = true := by first | assumption | rfl) (p_fb : A .fb = true := by first | assumption | rfl)
    (p_sawyer : A .sawyer = true := by first | assumption | rfl) (p_canopy : A .canopy = true := by first | assumption | rfl)
    (p_axes : A .axes = true := by first | assumption | rfl) (p_links : A .links = true := by first | assumption | rfl)
    (p_clock : A .clock = true := by first | assumption | rfl) (p_dict : A .dict = true := by first | assumption | rfl)
    (p_sec : A .sec = true := by first | assumption | rfl) (p_pair : A .pair = true := by first | assumption | rfl)
    (p_ranger : A .ranger = true := by first | assumption | rfl) (p_tally : A .tally = true := by first | assumption | rfl)
    (p_inject : A .inject = true := by first | assumption | rfl) (p_power : A .power = true := by first | assumption | rfl)
    (p_storage : A .storage = true := by first | assumption | rfl) (p_update : A .update = true := by first | assumption | rfl)
    : Keeps A r0 (acceptWrite sess req idx sub v s) := by
  unfold acceptWrite
  split <;> simp (maxDischargeDepth := 60) [SameBut, SameLists, *]

@[simp ↓] theorem writeChecked_keeps (sess req idx sub : Nat) (v : ObjVal) (code : Nat) (s : State) {A : Part → Bool} {r0 : State}
    (h_s : Keeps A r0 s) (p_core : A .core = true := by first | assumption | rfl) (p_ring : A .ring = true := by first | assumption | rfl)
    (p_heads : A .heads = true := by first | assumption | rfl) (p_tap : A .tap = true := by first | assumption | rfl)
    (p_fe : A .fe = true := by first | assumption | rfl) (p_cells : A .cells = true := by first | assumption | rfl)
    (p_points : A .points = true := by first | assumption | rfl) (p_scaler : A .scaler = true := by first | assumption | rfl)
    (p_cruiser : A .cruiser = true := by first | assumption | rfl) (p_borer : A .borer = true := by first | assumption | rfl)
    (p_thin : A .thin = true := by first | assumption | rfl) (p_fb : A .fb = true := by first | assumption | rfl)
    (p_sawyer : A .sawyer = true := by first | assumption | rfl) (p_canopy : A .canopy = true := by first | assumption | rfl)
    (p_axes : A .axes = true := by first | assumption | rfl) (p_links : A .links = true := by first | assumption | rfl)
    (p_clock : A .clock = true := by first | assumption | rfl) (p_dict : A .dict = true := by first | assumption | rfl)
    (p_sec : A .sec = true := by first | assumption | rfl) (p_pair : A .pair = true := by first | assumption | rfl)
    (p_ranger : A .ranger = true := by first | assumption | rfl) (p_tally : A .tally = true := by first | assumption | rfl)
    (p_inject : A .inject = true := by first | assumption | rfl) (p_power : A .power = true := by first | assumption | rfl)
    (p_storage : A .storage = true := by first | assumption | rfl) (p_update : A .update = true := by first | assumption | rfl)
    : Keeps A r0 (writeChecked sess req idx sub v code s) := by simp [writeChecked, *]

@[simp ↓] theorem serveWrite_keeps (sess req idx sub : Nat) (v : ObjVal) (s : State) {A : Part → Bool} {r0 : State} (h_s : Keeps A r0 s)
    (p_core : A .core = true := by first | assumption | rfl) (p_ring : A .ring = true := by first | assumption | rfl)
    (p_heads : A .heads = true := by first | assumption | rfl) (p_tap : A .tap = true := by first | assumption | rfl)
    (p_fe : A .fe = true := by first | assumption | rfl) (p_cells : A .cells = true := by first | assumption | rfl)
    (p_points : A .points = true := by first | assumption | rfl) (p_scaler : A .scaler = true := by first | assumption | rfl)
    (p_cruiser : A .cruiser = true := by first | assumption | rfl) (p_borer : A .borer = true := by first | assumption | rfl)
    (p_thin : A .thin = true := by first | assumption | rfl) (p_fb : A .fb = true := by first | assumption | rfl)
    (p_sawyer : A .sawyer = true := by first | assumption | rfl) (p_canopy : A .canopy = true := by first | assumption | rfl)
    (p_axes : A .axes = true := by first | assumption | rfl) (p_links : A .links = true := by first | assumption | rfl)
    (p_clock : A .clock = true := by first | assumption | rfl) (p_dict : A .dict = true := by first | assumption | rfl)
    (p_sec : A .sec = true := by first | assumption | rfl) (p_pair : A .pair = true := by first | assumption | rfl)
    (p_ranger : A .ranger = true := by first | assumption | rfl) (p_tally : A .tally = true := by first | assumption | rfl)
    (p_inject : A .inject = true := by first | assumption | rfl) (p_power : A .power = true := by first | assumption | rfl)
    (p_storage : A .storage = true := by first | assumption | rfl) (p_update : A .update = true := by first | assumption | rfl)
    : Keeps A r0 (serveWrite sess req idx sub v s) := by simp [serveWrite, *]

@[simp ↓] theorem tryEntry_keeps (sess idx sub : Nat) (v : ObjVal) (s : State) {A : Part → Bool} {r0 : State} (h_s : Keeps A r0 s)
    (p_core : A .core = true := by first | assumption | rfl) (p_ring : A .ring = true := by first | assumption | rfl)
    (p_heads : A .heads = true := by first | assumption | rfl) (p_tap : A .tap = true := by first | assumption | rfl)
    (p_fe : A .fe = true := by first | assumption | rfl) (p_cells : A .cells = true := by first | assumption | rfl)
    (p_points : A .points = true := by first | assumption | rfl) (p_scaler : A .scaler = true := by first | assumption | rfl)
    (p_cruiser : A .cruiser = true := by first | assumption | rfl) (p_borer : A .borer = true := by first | assumption | rfl)
    (p_thin : A .thin = true := by first | assumption | rfl) (p_fb : A .fb = true := by first | assumption | rfl)
    (p_sawyer : A .sawyer = true := by first | assumption | rfl) (p_canopy : A .canopy = true := by first | assumption | rfl)
    (p_axes : A .axes = true := by first | assumption | rfl) (p_links : A .links = true := by first | assumption | rfl)
    (p_clock : A .clock = true := by first | assumption | rfl) (p_dict : A .dict = true := by first | assumption | rfl)
    (p_sec : A .sec = true := by first | assumption | rfl) (p_pair : A .pair = true := by first | assumption | rfl)
    (p_ranger : A .ranger = true := by first | assumption | rfl) (p_tally : A .tally = true := by first | assumption | rfl)
    (p_inject : A .inject = true := by first | assumption | rfl) (p_power : A .power = true := by first | assumption | rfl)
    (p_storage : A .storage = true := by first | assumption | rfl) (p_update : A .update = true := by first | assumption | rfl)
    : Keeps A r0 (tryEntry sess idx sub v s) := by
  unfold tryEntry
  split <;> simp (maxDischargeDepth := 60) [SameBut, SameLists, *]

@[simp ↓] theorem refuseEntry_keeps (sess req n code : Nat) (s : State) {A : Part → Bool} {r0 : State} (h_s : Keeps A r0 s)
    (p_dict : A .dict = true := by first | assumption | rfl) : Keeps A r0 (refuseEntry sess req n code s) := by simp [refuseEntry, *]

@[simp ↓] theorem tellEntry_keeps (sess : Nat) (eff : Cycle) (s : State) (e : Nat × ObjVal) {A : Part → Bool} {r0 : State} (h_s : Keeps A r0 s)
    (p_cells : A .cells = true := by first | assumption | rfl) (p_scaler : A .scaler = true := by first | assumption | rfl)
    (p_borer : A .borer = true := by first | assumption | rfl) (p_pair : A .pair = true := by first | assumption | rfl)
    (p_tally : A .tally = true := by first | assumption | rfl) (p_storage : A .storage = true := by first | assumption | rfl)
    : Keeps A r0 (tellEntry sess eff s e) := by
  unfold tellEntry
  repeat' first
    | (simp +contextual (maxDischargeDepth := 60) [SameBut, SameLists, *]; done)
    | (rename_i e; have e := congrArg Prod.snd e; dsimp only at e; subst e)
    | split
    | (refine keeps_foldl (fun _ _ _ => ?_) ?_)
    | dsimp only

@[simp ↓] theorem serveAtomic_keeps (sess req : Nat) (l : List Entry) (s : State) {A : Part → Bool} {r0 : State} (h_s : Keeps A r0 s)
    (p_core : A .core = true := by first | assumption | rfl) (p_ring : A .ring = true := by first | assumption | rfl)
    (p_heads : A .heads = true := by first | assumption | rfl) (p_tap : A .tap = true := by first | assumption | rfl)
    (p_fe : A .fe = true := by first | assumption | rfl) (p_cells : A .cells = true := by first | assumption | rfl)
    (p_points : A .points = true := by first | assumption | rfl) (p_scaler : A .scaler = true := by first | assumption | rfl)
    (p_cruiser : A .cruiser = true := by first | assumption | rfl) (p_borer : A .borer = true := by first | assumption | rfl)
    (p_thin : A .thin = true := by first | assumption | rfl) (p_fb : A .fb = true := by first | assumption | rfl)
    (p_sawyer : A .sawyer = true := by first | assumption | rfl) (p_canopy : A .canopy = true := by first | assumption | rfl)
    (p_axes : A .axes = true := by first | assumption | rfl) (p_links : A .links = true := by first | assumption | rfl)
    (p_clock : A .clock = true := by first | assumption | rfl) (p_dict : A .dict = true := by first | assumption | rfl)
    (p_sec : A .sec = true := by first | assumption | rfl) (p_pair : A .pair = true := by first | assumption | rfl)
    (p_ranger : A .ranger = true := by first | assumption | rfl) (p_tally : A .tally = true := by first | assumption | rfl)
    (p_inject : A .inject = true := by first | assumption | rfl) (p_power : A .power = true := by first | assumption | rfl)
    (p_storage : A .storage = true := by first | assumption | rfl) (p_update : A .update = true := by first | assumption | rfl)
    : Keeps A r0 (serveAtomic sess req l s) := by
  unfold serveAtomic
  repeat' first
    | (simp +contextual (maxDischargeDepth := 60) [SameBut, SameLists, *]; done)
    | (rename_i e; have e := congrArg Prod.snd e; dsimp only at e; subst e)
    | split
    | (refine keeps_foldl (fun _ _ _ => ?_) ?_)
    | dsimp only

@[simp ↓] theorem serveWritePdu_keeps (sess req : Nat) (l : List Entry) (s : State) {A : Part → Bool} {r0 : State} (h_s : Keeps A r0 s)
    (p_core : A .core = true := by first | assumption | rfl) (p_ring : A .ring = true := by first | assumption | rfl)
    (p_heads : A .heads = true := by first | assumption | rfl) (p_tap : A .tap = true := by first | assumption | rfl)
    (p_fe : A .fe = true := by first | assumption | rfl) (p_cells : A .cells = true := by first | assumption | rfl)
    (p_points : A .points = true := by first | assumption | rfl) (p_scaler : A .scaler = true := by first | assumption | rfl)
    (p_cruiser : A .cruiser = true := by first | assumption | rfl) (p_borer : A .borer = true := by first | assumption | rfl)
    (p_thin : A .thin = true := by first | assumption | rfl) (p_fb : A .fb = true := by first | assumption | rfl)
    (p_sawyer : A .sawyer = true := by first | assumption | rfl) (p_canopy : A .canopy = true := by first | assumption | rfl)
    (p_axes : A .axes = true := by first | assumption | rfl) (p_links : A .links = true := by first | assumption | rfl)
    (p_clock : A .clock = true := by first | assumption | rfl) (p_dict : A .dict = true := by first | assumption | rfl)
    (p_sec : A .sec = true := by first | assumption | rfl) (p_pair : A .pair = true := by first | assumption | rfl)
    (p_ranger : A .ranger = true := by first | assumption | rfl) (p_tally : A .tally = true := by first | assumption | rfl)
    (p_inject : A .inject = true := by first | assumption | rfl) (p_power : A .power = true := by first | assumption | rfl)
    (p_storage : A .storage = true := by first | assumption | rfl) (p_update : A .update = true := by first | assumption | rfl)
    : Keeps A r0 (serveWritePdu sess req l s) := by
  unfold serveWritePdu
  split <;> simp (maxDischargeDepth := 60) [SameBut, SameLists, *]

@[simp ↓] theorem applyEntry_keeps (sess : Nat) (s : State) (e : Nat × ObjVal) {A : Part → Bool} {r0 : State} (h_s : Keeps A r0 s)
    (p_core : A .core = true := by first | assumption | rfl) (p_ring : A .ring = true := by first | assumption | rfl)
    (p_heads : A .heads = true := by first | assumption | rfl) (p_tap : A .tap = true := by first | assumption | rfl)
    (p_fe : A .fe = true := by first | assumption | rfl) (p_cells : A .cells = true := by first | assumption | rfl)
    (p_points : A .points = true := by first | assumption | rfl) (p_scaler : A .scaler = true := by first | assumption | rfl)
    (p_cruiser : A .cruiser = true := by first | assumption | rfl) (p_borer : A .borer = true := by first | assumption | rfl)
    (p_thin : A .thin = true := by first | assumption | rfl) (p_fb : A .fb = true := by first | assumption | rfl)
    (p_sawyer : A .sawyer = true := by first | assumption | rfl) (p_canopy : A .canopy = true := by first | assumption | rfl)
    (p_axes : A .axes = true := by first | assumption | rfl) (p_links : A .links = true := by first | assumption | rfl)
    (p_clock : A .clock = true := by first | assumption | rfl) (p_dict : A .dict = true := by first | assumption | rfl)
    (p_sec : A .sec = true := by first | assumption | rfl) (p_pair : A .pair = true := by first | assumption | rfl)
    (p_ranger : A .ranger = true := by first | assumption | rfl) (p_tally : A .tally = true := by first | assumption | rfl)
    (p_inject : A .inject = true := by first | assumption | rfl) (p_power : A .power = true := by first | assumption | rfl)
    (p_storage : A .storage = true := by first | assumption | rfl) (p_update : A .update = true := by first | assumption | rfl)
    : Keeps A r0 (applyEntry sess s e) := by
  unfold applyEntry
  repeat' first
    | (simp +contextual (maxDischargeDepth := 60) [SameBut, SameLists, *]; done)
    | (rename_i e; have e := congrArg Prod.snd e; dsimp only at e; subst e)
    | split
    | (refine keeps_foldl (fun _ _ _ => ?_) ?_)
    | dsimp only

@[simp ↓] theorem State.afterLeaseEvents_keeps (s : State) {A : Part → Bool} {r0 : State} (h_s : Keeps A r0 s)
    (p_sawyer : A .sawyer = true := by first | assumption | rfl) (p_dict : A .dict = true := by first | assumption | rfl) (p_ranger : A .ranger = true := by first | assumption | rfl)
    (p_tally : A .tally = true := by first | assumption | rfl) : Keeps A r0 (State.afterLeaseEvents s) := by
  unfold State.afterLeaseEvents
  simp +contextual (maxDischargeDepth := 60) [SameBut, SameLists, *]

@[simp ↓] theorem applyPending_keeps (s : State) (p : PendingWrite) {A : Part → Bool} {r0 : State} (h_s : Keeps A r0 s)
    (p_core : A .core = true := by first | assumption | rfl) (p_ring : A .ring = true := by first | assumption | rfl)
    (p_heads : A .heads = true := by first | assumption | rfl) (p_tap : A .tap = true := by first | assumption | rfl)
    (p_fe : A .fe = true := by first | assumption | rfl) (p_cells : A .cells = true := by first | assumption | rfl)
    (p_points : A .points = true := by first | assumption | rfl) (p_scaler : A .scaler = true := by first | assumption | rfl)
    (p_cruiser : A .cruiser = true := by first | assumption | rfl) (p_borer : A .borer = true := by first | assumption | rfl)
    (p_thin : A .thin = true := by first | assumption | rfl) (p_fb : A .fb = true := by first | assumption | rfl)
    (p_sawyer : A .sawyer = true := by first | assumption | rfl) (p_canopy : A .canopy = true := by first | assumption | rfl)
    (p_axes : A .axes = true := by first | assumption | rfl) (p_links : A .links = true := by first | assumption | rfl)
    (p_clock : A .clock = true := by first | assumption | rfl) (p_dict : A .dict = true := by first | assumption | rfl)
    (p_sec : A .sec = true := by first | assumption | rfl) (p_pair : A .pair = true := by first | assumption | rfl)
    (p_ranger : A .ranger = true := by first | assumption | rfl) (p_tally : A .tally = true := by first | assumption | rfl)
    (p_inject : A .inject = true := by first | assumption | rfl) (p_power : A .power = true := by first | assumption | rfl)
    (p_storage : A .storage = true := by first | assumption | rfl) (p_update : A .update = true := by first | assumption | rfl)
    : Keeps A r0 (applyPending s p) := by
  unfold applyPending
  repeat' first
    | (simp +contextual (maxDischargeDepth := 60) [SameBut, SameLists, *]; done)
    | (rename_i e; have e := congrArg Prod.snd e; dsimp only at e; subst e)
    | split
    | (refine keeps_foldl (fun _ _ _ => ?_) ?_)
    | dsimp only

@[simp ↓] theorem writesBoundary_keeps (s : State) {A : Part → Bool} {r0 : State} (h_s : Keeps A r0 s)
    (p_core : A .core = true := by first | assumption | rfl) (p_ring : A .ring = true := by first | assumption | rfl)
    (p_heads : A .heads = true := by first | assumption | rfl) (p_tap : A .tap = true := by first | assumption | rfl)
    (p_fe : A .fe = true := by first | assumption | rfl) (p_cells : A .cells = true := by first | assumption | rfl)
    (p_points : A .points = true := by first | assumption | rfl) (p_scaler : A .scaler = true := by first | assumption | rfl)
    (p_cruiser : A .cruiser = true := by first | assumption | rfl) (p_borer : A .borer = true := by first | assumption | rfl)
    (p_thin : A .thin = true := by first | assumption | rfl) (p_fb : A .fb = true := by first | assumption | rfl)
    (p_sawyer : A .sawyer = true := by first | assumption | rfl) (p_canopy : A .canopy = true := by first | assumption | rfl)
    (p_axes : A .axes = true := by first | assumption | rfl) (p_links : A .links = true := by first | assumption | rfl)
    (p_clock : A .clock = true := by first | assumption | rfl) (p_dict : A .dict = true := by first | assumption | rfl)
    (p_sec : A .sec = true := by first | assumption | rfl) (p_pair : A .pair = true := by first | assumption | rfl)
    (p_ranger : A .ranger = true := by first | assumption | rfl) (p_tally : A .tally = true := by first | assumption | rfl)
    (p_inject : A .inject = true := by first | assumption | rfl) (p_power : A .power = true := by first | assumption | rfl)
    (p_storage : A .storage = true := by first | assumption | rfl) (p_update : A .update = true := by first | assumption | rfl)
    : Keeps A r0 (writesBoundary s) := by
  unfold writesBoundary
  simp +contextual (maxDischargeDepth := 60) [SameBut, SameLists, *]

@[simp ↓] theorem execJournalWrite_keeps (cut : Nat) (s : State) {A : Part → Bool} {r0 : State} (h_s : Keeps A r0 s)
    (p_core : A .core = true := by first | assumption | rfl) (p_ring : A .ring = true := by first | assumption | rfl)
    (p_heads : A .heads = true := by first | assumption | rfl) (p_tap : A .tap = true := by first | assumption | rfl)
    (p_fe : A .fe = true := by first | assumption | rfl) (p_cells : A .cells = true := by first | assumption | rfl)
    (p_points : A .points = true := by first | assumption | rfl) (p_scaler : A .scaler = true := by first | assumption | rfl)
    (p_cruiser : A .cruiser = true := by first | assumption | rfl) (p_borer : A .borer = true := by first | assumption | rfl)
    (p_thin : A .thin = true := by first | assumption | rfl) (p_fb : A .fb = true := by first | assumption | rfl)
    (p_sawyer : A .sawyer = true := by first | assumption | rfl) (p_canopy : A .canopy = true := by first | assumption | rfl)
    (p_axes : A .axes = true := by first | assumption | rfl) (p_links : A .links = true := by first | assumption | rfl)
    (p_clock : A .clock = true := by first | assumption | rfl) (p_dict : A .dict = true := by first | assumption | rfl)
    (p_sec : A .sec = true := by first | assumption | rfl) (p_pair : A .pair = true := by first | assumption | rfl)
    (p_ranger : A .ranger = true := by first | assumption | rfl) (p_tally : A .tally = true := by first | assumption | rfl)
    (p_inject : A .inject = true := by first | assumption | rfl) (p_power : A .power = true := by first | assumption | rfl)
    (p_storage : A .storage = true := by first | assumption | rfl) (p_update : A .update = true := by first | assumption | rfl)
    : OutKeeps A r0 (execJournalWrite cut s) := by
  unfold execJournalWrite
  (repeat' split) <;> simp (maxDischargeDepth := 60) [SameBut, SameLists, *]

@[simp ↓] theorem captureRead_keeps (idx sub : Nat) (s : State) {A : Part → Bool} {r0 : State} (h_s : Keeps A r0 s)
    (p_sawyer : A .sawyer = true := by first | assumption | rfl) : Keeps A r0 (captureRead idx sub s) := by simp [captureRead, *]

@[simp ↓] theorem readObject_keeps (sess idx sub : Nat) (s : State) {A : Part → Bool} {r0 : State} (h : Keeps A r0 s)
    (p_sawyer : A .sawyer = true := by first | assumption | rfl) (p_clock : A .clock = true := by first | assumption | rfl)
    (p_tally : A .tally = true := by first | assumption | rfl) : Keeps A r0 (readObject sess idx sub s).2.2 := by
  unfold readObject
  dsimp only
  split
  · exact h
  · split
    · have h1 := readTally_keeps sess 1016 s h
      generalize readTally sess 1016 s = q at h1 ⊢
      exact h1
    · split
      · simp (maxDischargeDepth := 60) [SameBut, SameLists, h, *]
      · split <;> simp (maxDischargeDepth := 60) [SameBut, SameLists, h, *]

@[simp ↓] theorem readEntries_keeps (sess : Nat) (l : List (Nat × Nat)) (s : State) {A : Part → Bool} {r0 : State} (h : Keeps A r0 s)
    (p_sawyer : A .sawyer = true := by first | assumption | rfl) (p_clock : A .clock = true := by first | assumption | rfl) (p_tally : A .tally = true := by first | assumption | rfl) :
    Keeps A r0 (readEntries sess l s).2 := by
  induction l generalizing s with
  | nil => exact h
  | cons a t ih => exact ih _ (readObject_keeps sess a.1 a.2 s h)

@[simp ↓] theorem serveRead_keeps (sess req : Nat) (l : List (Nat × Nat)) (s : State) {A : Part → Bool} {r0 : State} (h : Keeps A r0 s)
    (p_sawyer : A .sawyer = true := by first | assumption | rfl) (p_clock : A .clock = true := by first | assumption | rfl) (p_dict : A .dict = true := by first | assumption | rfl)
    (p_tally : A .tally = true := by first | assumption | rfl) : Keeps A r0 (serveRead sess req l s) := by
  unfold serveRead
  dsimp only
  split
  · split
    · rename_i a _
      exact State.answer_keeps _ _ (readObject_keeps sess a.1 a.2 s h)
    · simp (maxDischargeDepth := 60) [SameBut, SameLists, h, *]
  · split
    · simp (maxDischargeDepth := 60) [SameBut, SameLists, h, *]
    · exact State.answer_keeps _ _ (readEntries_keeps sess l s h)

@[simp ↓] theorem serveReadBlock_keeps (sess req idx sub off len : Nat) (s : State) {A : Part → Bool} {r0 : State} (h_s : Keeps A r0 s)
    (p_sawyer : A .sawyer = true := by first | assumption | rfl) (p_dict : A .dict = true := by first | assumption | rfl)
    (p_tally : A .tally = true := by first | assumption | rfl) : Keeps A r0 (serveReadBlock sess req idx sub off len s) := by simp (maxDischargeDepth := 60) [serveReadBlock, SameBut, SameLists, *]

@[simp ↓] theorem dropBlock_keeps (sess : Nat) (s : State) {A : Part → Bool} {r0 : State} (h_s : Keeps A r0 s)
    (p_dict : A .dict = true := by first | assumption | rfl) : Keeps A r0 (dropBlock sess s) := by simp [dropBlock, *]

@[simp ↓] theorem takeBlockPart_keeps (sess req idx sub : Nat) (b : BlockXfer) (final : Bool) (data : Bytes) (s : State) {A : Part → Bool} {r0 : State}
    (h_s : Keeps A r0 s) (p_core : A .core = true := by first | assumption | rfl) (p_ring : A .ring = true := by first | assumption | rfl)
    (p_heads : A .heads = true := by first | assumption | rfl) (p_tap : A .tap = true := by first | assumption | rfl)
    (p_fe : A .fe = true := by first | assumption | rfl) (p_cells : A .cells = true := by first | assumption | rfl)
    (p_points : A .points = true := by first | assumption | rfl) (p_scaler : A .scaler = true := by first | assumption | rfl)
    (p_cruiser : A .cruiser = true := by first | assumption | rfl) (p_borer : A .borer = true := by first | assumption | rfl)
    (p_thin : A .thin = true := by first | assumption | rfl) (p_fb : A .fb = true := by first | assumption | rfl)
    (p_sawyer : A .sawyer = true := by first | assumption | rfl) (p_canopy : A .canopy = true := by first | assumption | rfl)
    (p_axes : A .axes = true := by first | assumption | rfl) (p_links : A .links = true := by first | assumption | rfl)
    (p_clock : A .clock = true := by first | assumption | rfl) (p_dict : A .dict = true := by first | assumption | rfl)
    (p_sec : A .sec = true := by first | assumption | rfl) (p_pair : A .pair = true := by first | assumption | rfl)
    (p_ranger : A .ranger = true := by first | assumption | rfl) (p_tally : A .tally = true := by first | assumption | rfl)
    (p_inject : A .inject = true := by first | assumption | rfl) (p_power : A .power = true := by first | assumption | rfl)
    (p_storage : A .storage = true := by first | assumption | rfl) (p_update : A .update = true := by first | assumption | rfl)
    : Keeps A r0 (takeBlockPart sess req idx sub b final data s) := by simp (maxDischargeDepth := 60) [takeBlockPart, SameBut, SameLists, *]

@[simp ↓] theorem serveWriteBlock_keeps (sess req idx sub off total crc : Nat) (final : Bool) (data : Bytes) (s : State) {A : Part → Bool} {r0 : State}
    (h_s : Keeps A r0 s) (p_core : A .core = true := by first | assumption | rfl) (p_ring : A .ring = true := by first | assumption | rfl)
    (p_heads : A .heads = true := by first | assumption | rfl) (p_tap : A .tap = true := by first | assumption | rfl)
    (p_fe : A .fe = true := by first | assumption | rfl) (p_cells : A .cells = true := by first | assumption | rfl)
    (p_points : A .points = true := by first | assumption | rfl) (p_scaler : A .scaler = true := by first | assumption | rfl)
    (p_cruiser : A .cruiser = true := by first | assumption | rfl) (p_borer : A .borer = true := by first | assumption | rfl)
    (p_thin : A .thin = true := by first | assumption | rfl) (p_fb : A .fb = true := by first | assumption | rfl)
    (p_sawyer : A .sawyer = true := by first | assumption | rfl) (p_canopy : A .canopy = true := by first | assumption | rfl)
    (p_axes : A .axes = true := by first | assumption | rfl) (p_links : A .links = true := by first | assumption | rfl)
    (p_clock : A .clock = true := by first | assumption | rfl) (p_dict : A .dict = true := by first | assumption | rfl)
    (p_sec : A .sec = true := by first | assumption | rfl) (p_pair : A .pair = true := by first | assumption | rfl)
    (p_ranger : A .ranger = true := by first | assumption | rfl) (p_tally : A .tally = true := by first | assumption | rfl)
    (p_inject : A .inject = true := by first | assumption | rfl) (p_power : A .power = true := by first | assumption | rfl)
    (p_storage : A .storage = true := by first | assumption | rfl) (p_update : A .update = true := by first | assumption | rfl)
    : Keeps A r0 (serveWriteBlock sess req idx sub off total crc final data s) := by simp (maxDischargeDepth := 60) [serveWriteBlock, SameBut, SameLists, *]

@[simp ↓] theorem execBlockTransferTimeout_keeps (session : Nat) (s : State) {A : Part → Bool} {r0 : State} (h_s : Keeps A r0 s)
    (p_dict : A .dict = true := by first | assumption | rfl) : OutKeeps A r0 (execBlockTransferTimeout session s) := by
  unfold execBlockTransferTimeout
  split <;> simp (maxDischargeDepth := 60) [SameBut, SameLists, *]

@[simp ↓] theorem serveSubscribe_keeps (sess req period : Nat) (l : List (Nat × Nat)) (s : State) {A : Part → Bool} {r0 : State} (h : Keeps A r0 s) (p_dict : A .dict = true := by first | assumption | rfl) :
    Keeps A r0 (serveSubscribe sess req period l s) := by
  unfold serveSubscribe
  dsimp only
  (repeat' split) <;> simp (maxDischargeDepth := 60) [SameBut, SameLists, h, *]

@[simp ↓] theorem serveUnsubscribe_keeps (sess req id : Nat) (s : State) {A : Part → Bool} {r0 : State} (h_s : Keeps A r0 s)
    (p_dict : A .dict = true := by first | assumption | rfl) : Keeps A r0 (serveUnsubscribe sess req id s) := by simp (maxDischargeDepth := 60) [serveUnsubscribe, SameBut, SameLists, *]

@[simp ↓] theorem serveDescribe_keeps (sess req : Nat) (l : List (Nat × Nat)) (s : State) {A : Part → Bool} {r0 : State} (h_s : Keeps A r0 s)
    (p_dict : A .dict = true := by first | assumption | rfl) : Keeps A r0 (serveDescribe sess req l s) := by
  unfold serveDescribe
  repeat' first
    | (simp +contextual (maxDischargeDepth := 60) [SameBut, SameLists, *]; done)
    | (rename_i e; have e := congrArg Prod.snd e; dsimp only at e; subst e)
    | split
    | (refine keeps_foldl (fun _ _ _ => ?_) ?_)
    | dsimp only

@[simp ↓] theorem serveCommit_keeps (sess req : Nat) (s : State) {A : Part → Bool} {r0 : State} (h_s : Keeps A r0 s)
    (p_dict : A .dict = true := by first | assumption | rfl)
    (p_pair : A .pair = true := by first | assumption | rfl) : Keeps A r0 (serveCommit sess req s) := by simp [serveCommit, *]

@[simp ↓] theorem servePdu_keeps (sess req : Nat) (p : Pdu) (s : State) {A : Part → Bool} {r0 : State} (h_s : Keeps A r0 s)
    (p_core : A .core = true := by first | assumption | rfl) (p_ring : A .ring = true := by first | assumption | rfl)
    (p_heads : A .heads = true := by first | assumption | rfl) (p_tap : A .tap = true := by first | assumption | rfl)
    (p_fe : A .fe = true := by first | assumption | rfl) (p_cells : A .cells = true := by first | assumption | rfl)
    (p_points : A .points = true := by first | assumption | rfl) (p_scaler : A .scaler = true := by first | assumption | rfl)
    (p_cruiser : A .cruiser = true := by first | assumption | rfl) (p_borer : A .borer = true := by first | assumption | rfl)
    (p_thin : A .thin = true := by first | assumption | rfl) (p_fb : A .fb = true := by first | assumption | rfl)
    (p_sawyer : A .sawyer = true := by first | assumption | rfl) (p_canopy : A .canopy = true := by first | assumption | rfl)
    (p_axes : A .axes = true := by first | assumption | rfl) (p_links : A .links = true := by first | assumption | rfl)
    (p_clock : A .clock = true := by first | assumption | rfl) (p_dict : A .dict = true := by first | assumption | rfl)
    (p_sec : A .sec = true := by first | assumption | rfl) (p_pair : A .pair = true := by first | assumption | rfl)
    (p_ranger : A .ranger = true := by first | assumption | rfl) (p_tally : A .tally = true := by first | assumption | rfl)
    (p_inject : A .inject = true := by first | assumption | rfl) (p_power : A .power = true := by first | assumption | rfl)
    (p_storage : A .storage = true := by first | assumption | rfl) (p_update : A .update = true := by first | assumption | rfl)
    : Keeps A r0 (servePdu sess req p s) := by
  unfold servePdu
  split <;> simp (maxDischargeDepth := 60) [SameBut, SameLists, *]

@[simp ↓] theorem beginService_keeps (sess req : Nat) (at_ : Cycle) (s : State) {A : Part → Bool} {r0 : State} (h_s : Keeps A r0 s)
    (p_dict : A .dict = true := by first | assumption | rfl) : Keeps A r0 (beginService sess req at_ s) := by simp [beginService, *]

@[simp ↓] theorem serveNow_keeps (sess req : Nat) (p : Pdu) (s : State) {A : Part → Bool} {r0 : State} (h_s : Keeps A r0 s)
    (p_core : A .core = true := by first | assumption | rfl) (p_ring : A .ring = true := by first | assumption | rfl)
    (p_heads : A .heads = true := by first | assumption | rfl) (p_tap : A .tap = true := by first | assumption | rfl)
    (p_fe : A .fe = true := by first | assumption | rfl) (p_cells : A .cells = true := by first | assumption | rfl)
    (p_points : A .points = true := by first | assumption | rfl) (p_scaler : A .scaler = true := by first | assumption | rfl)
    (p_cruiser : A .cruiser = true := by first | assumption | rfl) (p_borer : A .borer = true := by first | assumption | rfl)
    (p_thin : A .thin = true := by first | assumption | rfl) (p_fb : A .fb = true := by first | assumption | rfl)
    (p_sawyer : A .sawyer = true := by first | assumption | rfl) (p_canopy : A .canopy = true := by first | assumption | rfl)
    (p_axes : A .axes = true := by first | assumption | rfl) (p_links : A .links = true := by first | assumption | rfl)
    (p_clock : A .clock = true := by first | assumption | rfl) (p_dict : A .dict = true := by first | assumption | rfl)
    (p_sec : A .sec = true := by first | assumption | rfl) (p_pair : A .pair = true := by first | assumption | rfl)
    (p_ranger : A .ranger = true := by first | assumption | rfl) (p_tally : A .tally = true := by first | assumption | rfl)
    (p_inject : A .inject = true := by first | assumption | rfl) (p_power : A .power = true := by first | assumption | rfl)
    (p_storage : A .storage = true := by first | assumption | rfl) (p_update : A .update = true := by first | assumption | rfl)
    : OutKeeps A r0 (serveNow sess req p s) := by simp (maxDischargeDepth := 60) [serveNow, SameBut, SameLists, *]

@[simp ↓] theorem writeNow_keeps (sess req idx sub : Nat) (v : ObjVal) (s : State) {A : Part → Bool} {r0 : State} (h_s : Keeps A r0 s)
    (p_core : A .core = true := by first | assumption | rfl) (p_ring : A .ring = true := by first | assumption | rfl)
    (p_heads : A .heads = true := by first | assumption | rfl) (p_tap : A .tap = true := by first | assumption | rfl)
    (p_fe : A .fe = true := by first | assumption | rfl) (p_cells : A .cells = true := by first | assumption | rfl)
    (p_points : A .points = true := by first | assumption | rfl) (p_scaler : A .scaler = true := by first | assumption | rfl)
    (p_cruiser : A .cruiser = true := by first | assumption | rfl) (p_borer : A .borer = true := by first | assumption | rfl)
    (p_thin : A .thin = true := by first | assumption | rfl) (p_fb : A .fb = true := by first | assumption | rfl)
    (p_sawyer : A .sawyer = true := by first | assumption | rfl) (p_canopy : A .canopy = true := by first | assumption | rfl)
    (p_axes : A .axes = true := by first | assumption | rfl) (p_links : A .links = true := by first | assumption | rfl)
    (p_clock : A .clock = true := by first | assumption | rfl) (p_dict : A .dict = true := by first | assumption | rfl)
    (p_sec : A .sec = true := by first | assumption | rfl) (p_pair : A .pair = true := by first | assumption | rfl)
    (p_ranger : A .ranger = true := by first | assumption | rfl) (p_tally : A .tally = true := by first | assumption | rfl)
    (p_inject : A .inject = true := by first | assumption | rfl) (p_power : A .power = true := by first | assumption | rfl)
    (p_storage : A .storage = true := by first | assumption | rfl) (p_update : A .update = true := by first | assumption | rfl)
    : OutKeeps A r0 (writeNow sess req idx sub v s) := by simp (maxDischargeDepth := 60) [writeNow, SameBut, SameLists, *]

end Sys2Proof.Machine
end

