-- ==== Sys2Proof/Laws/Keeps12.lean ====
section
/-! SUPPORT. What the operations of Boundary.lean, Commands.lean keep (see Keeps.lean): no part beyond those named as hypotheses changes. -/

namespace Sys2Proof.Machine

set_option Elab.async false

open Sys2Proof

set_option linter.unusedSimpArgs false
set_option linter.unusedVariables false
set_option linter.tactic.unusedName false

/-! ### Boundary -/

theorem execSync_next (heard : Option SyncHeader) (s : State) {A : Part → Bool} (p_core : A .core = true := by first | assumption | rfl)
    (p_ring : A .ring = true := by first | assumption | rfl) (p_heads : A .heads = true := by first | assumption | rfl) (p_tap : A .tap = true := by first | assumption | rfl)
    (p_points : A .points = true := by first | assumption | rfl) (p_fe : A .fe = true := by first | assumption | rfl) (p_cells : A .cells = true := by first | assumption | rfl) (p_cruiser : A .cruiser = true := by first | assumption | rfl)
    (p_borer : A .borer = true := by first | assumption | rfl) (p_thin : A .thin = true := by first | assumption | rfl) (p_fb : A .fb = true := by first | assumption | rfl)
    (p_clock : A .clock = true := by first | assumption | rfl) (p_dict : A .dict = true := by first | assumption | rfl) (p_sec : A .sec = true := by first | assumption | rfl)
    (p_pair : A .pair = true := by first | assumption | rfl) (p_ranger : A .ranger = true := by first | assumption | rfl) (p_tally : A .tally = true := by first | assumption | rfl)
    (p_inject : A .inject = true := by first | assumption | rfl) (p_power : A .power = true := by first | assumption | rfl) (p_lookout : A .lookout = true := by first | assumption | rfl)
    (p_storage : A .storage = true := by first | assumption | rfl) : ∃ t, execSync heard s = .next t ∧ t.pending = s.pending ∧
    t.sec.serial = s.sec.serial ∧ (Bounded s → Bounded t) ∧ SameBut A s.toBody t.toBody := by
  unfold execSync
  split
  · exact ⟨s, rfl, rfl, rfl, id, .refl _ _⟩
  · extract_lets hd s1 c _ _ s2 s3 s4 s5 s6 quiet
    have h1 : Keeps A s s1 := missHeartbeat_keeps s (Keeps.refl A s)
    have h2 : Keeps A s s2 := keeps_mk h1 (by simp [SameBut, *]) (by simp [SameLists])
    have h3 : Keeps A s s3 := partnerLost_keeps _ (takeOverIfGone_keeps _ (publishRelation_keeps _ (advanceTime_keeps _ (hearPartner_keeps hd _ (clearCycle_keeps s2 h2)))))
    have h6 : Keeps A { s3 with boundary := s3.toBody } s6 :=
      beginSlots_keeps _ (pollStatus_keeps _ (serviceLost_keeps _ (evalDeferred_keeps _ (sampleSubs_keeps _ (Keeps.refl A { s3 with boundary := s3.toBody })))))
    have h7 := settleSleep_keeps _ (keeps_foldl (xs := s6.originPorts) (fun x a hx => sendSync_keeps x a hx)
      (keeps_foldl (xs := quiet) (fun x a hx => idlePort_keeps a x hx) h6))
    refine ⟨_, rfl, ?_⟩
    clear_value quiet s6 s5 s4 s3
    refine ⟨h7.pending.trans h3.pending, h7.serial.trans h3.serial, fun b => ?_, h3.parts.trans h7.parts⟩
    have c := h3.bounded b
    exact h7.bounded ⟨c.q24, c.active, c.last16, c.landing, c.checkpoints, c.images, c.rawBuf, c.sentFrames, c.keep, c.circ, c.q25⟩

@[simp ↓] theorem clearOccurrences_keeps (s : State) {A : Part → Bool} {r0 : State} (h_s : Keeps A r0 s)
    (p_ranger : A .ranger = true := by first | assumption | rfl) : Keeps A r0 (clearOccurrences s) := by
  unfold clearOccurrences
  simp +contextual (maxDischargeDepth := 60) [SameBut, SameLists, *]

@[simp ↓] theorem ringWindow_keeps (s : State) (port : Nat) {A : Part → Bool} {r0 : State} (h_s : Keeps A r0 s)
    (p_ring : A .ring = true := by first | assumption | rfl)
    (p_ranger : A .ranger = true := by first | assumption | rfl) : Keeps A r0 (ringWindow s port) := by simp (maxDischargeDepth := 60) [ringWindow, SameBut, SameLists, *]

@[simp ↓] theorem injectionBoundary_keeps (s : State) {A : Part → Bool} {r0 : State} (h_s : Keeps A r0 s)
    (p_core : A .core = true := by first | assumption | rfl) (p_ring : A .ring = true := by first | assumption | rfl)
    (p_heads : A .heads = true := by first | assumption | rfl) (p_tap : A .tap = true := by first | assumption | rfl)
    (p_fe : A .fe = true := by first | assumption | rfl) (p_cells : A .cells = true := by first | assumption | rfl)
    (p_points : A .points = true := by first | assumption | rfl) (p_scaler : A .scaler = true := by first | assumption | rfl)
    (p_cruiser : A .cruiser = true := by first | assumption | rfl) (p_borer : A .borer = true := by first | assumption | rfl)
    (p_thin : A .thin = true := by first | assumption | rfl) (p_fb : A .fb = true := by first | assumption | rfl)
    (p_canopy : A .canopy = true := by first | assumption | rfl) (p_axes : A .axes = true := by first | assumption | rfl)
    (p_links : A .links = true := by first | assumption | rfl) (p_dict : A .dict = true := by first | assumption | rfl)
    (p_sec : A .sec = true := by first | assumption | rfl) (p_pair : A .pair = true := by first | assumption | rfl)
    (p_ranger : A .ranger = true := by first | assumption | rfl) (p_tally : A .tally = true := by first | assumption | rfl)
    (p_inject : A .inject = true := by first | assumption | rfl) (p_power : A .power = true := by first | assumption | rfl)
    (p_storage : A .storage = true := by first | assumption | rfl) (p_update : A .update = true := by first | assumption | rfl)
    : Keeps A r0 (injectionBoundary s) := by
  unfold injectionBoundary
  simp +contextual (maxDischargeDepth := 60) [SameBut, SameLists, *]

@[simp ↓] theorem captureStep_keeps (s : State) {A : Part → Bool} {r0 : State} (h_s : Keeps A r0 s) (p_pair : A .pair = true := by first | assumption | rfl)
    (p_storage : A .storage = true := by first | assumption | rfl) : Keeps A r0 (captureStep s) := by simp (maxDischargeDepth := 60) [captureStep, SameBut, SameLists, *]

@[simp ↓] theorem epochStep_keeps (s : State) {A : Part → Bool} {r0 : State} (h_s : Keeps A r0 s) (p_ring : A .ring = true := by first | assumption | rfl)
    (p_cells : A .cells = true := by first | assumption | rfl) (p_scaler : A .scaler = true := by first | assumption | rfl) (p_borer : A .borer = true := by first | assumption | rfl)
    (p_canopy : A .canopy = true := by first | assumption | rfl) (p_axes : A .axes = true := by first | assumption | rfl) (p_dict : A .dict = true := by first | assumption | rfl)
    (p_ranger : A .ranger = true := by first | assumption | rfl) (p_tally : A .tally = true := by first | assumption | rfl)
    (p_storage : A .storage = true := by first | assumption | rfl) : Keeps A r0 (epochStep s) := by
  unfold epochStep
  simp +contextual (maxDischargeDepth := 60) [SameBut, SameLists, *]

@[simp ↓] theorem bankStep_keeps (s : State) {A : Part → Bool} {r0 : State} (h_s : Keeps A r0 s) (p_ring : A .ring = true := by first | assumption | rfl)
    (p_heads : A .heads = true := by first | assumption | rfl) (p_fe : A .fe = true := by first | assumption | rfl) (p_cruiser : A .cruiser = true := by first | assumption | rfl)
    (p_pair : A .pair = true := by first | assumption | rfl) (p_ranger : A .ranger = true := by first | assumption | rfl)
    (p_tally : A .tally = true := by first | assumption | rfl) : Keeps A r0 (bankStep s) := by simp (maxDischargeDepth := 60) [bankStep, SameBut, SameLists, *]

@[simp ↓] theorem inputStep_keeps (s : State) {A : Part → Bool} {r0 : State} (h_s : Keeps A r0 s) (p_core : A .core = true := by first | assumption | rfl)
    (p_ring : A .ring = true := by first | assumption | rfl) (p_heads : A .heads = true := by first | assumption | rfl) (p_tap : A .tap = true := by first | assumption | rfl)
    (p_fe : A .fe = true := by first | assumption | rfl) (p_cells : A .cells = true := by first | assumption | rfl) (p_points : A .points = true := by first | assumption | rfl)
    (p_scaler : A .scaler = true := by first | assumption | rfl) (p_cruiser : A .cruiser = true := by first | assumption | rfl) (p_borer : A .borer = true := by first | assumption | rfl)
    (p_thin : A .thin = true := by first | assumption | rfl) (p_fb : A .fb = true := by first | assumption | rfl) (p_sawyer : A .sawyer = true := by first | assumption | rfl)
    (p_canopy : A .canopy = true := by first | assumption | rfl) (p_axes : A .axes = true := by first | assumption | rfl) (p_links : A .links = true := by first | assumption | rfl)
    (p_clock : A .clock = true := by first | assumption | rfl) (p_dict : A .dict = true := by first | assumption | rfl) (p_sec : A .sec = true := by first | assumption | rfl)
    (p_pair : A .pair = true := by first | assumption | rfl) (p_ranger : A .ranger = true := by first | assumption | rfl) (p_tally : A .tally = true := by first | assumption | rfl)
    (p_inject : A .inject = true := by first | assumption | rfl) (p_power : A .power = true := by first | assumption | rfl) (p_storage : A .storage = true := by first | assumption | rfl)
    (p_update : A .update = true := by first | assumption | rfl) : Keeps A r0 (inputStep s) := by simp (maxDischargeDepth := 60) [inputStep, SameBut, SameLists, *]

@[simp ↓] theorem secondStep_keeps (s : State) {A : Part → Bool} {r0 : State} (h_s : Keeps A r0 s) (p_dict : A .dict = true := by first | assumption | rfl)
    (p_storage : A .storage = true := by first | assumption | rfl) : Keeps A r0 (secondStep s) := by simp (maxDischargeDepth := 60) [secondStep, SameBut, SameLists, *]

@[simp ↓] theorem closeCycle_keeps (s : State) {A : Part → Bool} {r0 : State} (h_s : Keeps A r0 s) (p_ring : A .ring = true := by first | assumption | rfl)
    (p_axes : A .axes = true := by first | assumption | rfl) (p_links : A .links = true := by first | assumption | rfl) (p_clock : A .clock = true := by first | assumption | rfl)
    (p_sec : A .sec = true := by first | assumption | rfl) (p_pair : A .pair = true := by first | assumption | rfl) (p_ranger : A .ranger = true := by first | assumption | rfl)
    (p_tally : A .tally = true := by first | assumption | rfl) (p_inject : A .inject = true := by first | assumption | rfl)
    (p_power : A .power = true := by first | assumption | rfl) : Keeps A r0 (closeCycle s) := by simp (maxDischargeDepth := 60) [closeCycle, SameBut, SameLists, *]

@[simp ↓] theorem execCycleBoundary_keeps (s : State) {A : Part → Bool} {r0 : State} (h_s : Keeps A r0 s)
    (p_core : A .core = true := by first | assumption | rfl) (p_ring : A .ring = true := by first | assumption | rfl) (p_heads : A .heads = true := by first | assumption | rfl)
    (p_tap : A .tap = true := by first | assumption | rfl) (p_fe : A .fe = true := by first | assumption | rfl) (p_cells : A .cells = true := by first | assumption | rfl)
    (p_points : A .points = true := by first | assumption | rfl) (p_scaler : A .scaler = true := by first | assumption | rfl)
    (p_cruiser : A .cruiser = true := by first | assumption | rfl) (p_borer : A .borer = true := by first | assumption | rfl) (p_thin : A .thin = true := by first | assumption | rfl)
    (p_fb : A .fb = true := by first | assumption | rfl) (p_sawyer : A .sawyer = true := by first | assumption | rfl) (p_canopy : A .canopy = true := by first | assumption | rfl)
    (p_axes : A .axes = true := by first | assumption | rfl) (p_links : A .links = true := by first | assumption | rfl) (p_clock : A .clock = true := by first | assumption | rfl)
    (p_dict : A .dict = true := by first | assumption | rfl) (p_sec : A .sec = true := by first | assumption | rfl) (p_pair : A .pair = true := by first | assumption | rfl)
    (p_ranger : A .ranger = true := by first | assumption | rfl) (p_tally : A .tally = true := by first | assumption | rfl) (p_inject : A .inject = true := by first | assumption | rfl)
    (p_power : A .power = true := by first | assumption | rfl) (p_storage : A .storage = true := by first | assumption | rfl)
    (p_update : A .update = true := by first | assumption | rfl) : OutKeeps A r0 (execCycleBoundary s) := by simp (maxDischargeDepth := 60) [execCycleBoundary, SameBut, SameLists, *]

/-! ### Commands -/

@[simp ↓] theorem stateRequest_keeps (kind : SmKind) (code session req : Nat) (s : State) {A : Part → Bool} {r0 : State} (h_s : Keeps A r0 s)
    (p_core : A .core = true := by first | assumption | rfl) (p_ring : A .ring = true := by first | assumption | rfl) (p_heads : A .heads = true := by first | assumption | rfl)
    (p_fe : A .fe = true := by first | assumption | rfl) (p_cells : A .cells = true := by first | assumption | rfl) (p_borer : A .borer = true := by first | assumption | rfl)
    (p_thin : A .thin = true := by first | assumption | rfl) (p_fb : A .fb = true := by first | assumption | rfl) (p_dict : A .dict = true := by first | assumption | rfl)
    (p_pair : A .pair = true := by first | assumption | rfl) (p_ranger : A .ranger = true := by first | assumption | rfl) (p_tally : A .tally = true := by first | assumption | rfl)
    (p_power : A .power = true := by first | assumption | rfl) : OutKeeps A r0 (stateRequest kind code session req s) := by simp (maxDischargeDepth := 60) [stateRequest, SameBut, SameLists, *]

@[simp ↓] theorem execCloseRequest_keeps (session req : Nat) (s : State) {A : Part → Bool} {r0 : State} (h_s : Keeps A r0 s)
    (p_core : A .core = true := by first | assumption | rfl) (p_ring : A .ring = true := by first | assumption | rfl) (p_heads : A .heads = true := by first | assumption | rfl)
    (p_fe : A .fe = true := by first | assumption | rfl) (p_cells : A .cells = true := by first | assumption | rfl) (p_borer : A .borer = true := by first | assumption | rfl)
    (p_thin : A .thin = true := by first | assumption | rfl) (p_fb : A .fb = true := by first | assumption | rfl) (p_dict : A .dict = true := by first | assumption | rfl)
    (p_pair : A .pair = true := by first | assumption | rfl) (p_ranger : A .ranger = true := by first | assumption | rfl) (p_tally : A .tally = true := by first | assumption | rfl)
    (p_power : A .power = true := by first | assumption | rfl) : OutKeeps A r0 (execCloseRequest session req s) := by simp [execCloseRequest, *]

@[simp ↓] theorem execOpenRequest_keeps (session req : Nat) (s : State) {A : Part → Bool} {r0 : State} (h_s : Keeps A r0 s)
    (p_core : A .core = true := by first | assumption | rfl) (p_ring : A .ring = true := by first | assumption | rfl) (p_heads : A .heads = true := by first | assumption | rfl)
    (p_fe : A .fe = true := by first | assumption | rfl) (p_cells : A .cells = true := by first | assumption | rfl) (p_borer : A .borer = true := by first | assumption | rfl)
    (p_thin : A .thin = true := by first | assumption | rfl) (p_fb : A .fb = true := by first | assumption | rfl) (p_dict : A .dict = true := by first | assumption | rfl)
    (p_pair : A .pair = true := by first | assumption | rfl) (p_ranger : A .ranger = true := by first | assumption | rfl) (p_tally : A .tally = true := by first | assumption | rfl)
    (p_power : A .power = true := by first | assumption | rfl) : OutKeeps A r0 (execOpenRequest session req s) := by simp [execOpenRequest, *]

@[simp ↓] theorem execServiceRequest_keeps (session req : Nat) (s : State) {A : Part → Bool} {r0 : State} (h_s : Keeps A r0 s)
    (p_core : A .core = true := by first | assumption | rfl) (p_ring : A .ring = true := by first | assumption | rfl) (p_heads : A .heads = true := by first | assumption | rfl)
    (p_fe : A .fe = true := by first | assumption | rfl) (p_cells : A .cells = true := by first | assumption | rfl) (p_borer : A .borer = true := by first | assumption | rfl)
    (p_thin : A .thin = true := by first | assumption | rfl) (p_fb : A .fb = true := by first | assumption | rfl) (p_dict : A .dict = true := by first | assumption | rfl)
    (p_pair : A .pair = true := by first | assumption | rfl) (p_ranger : A .ranger = true := by first | assumption | rfl) (p_tally : A .tally = true := by first | assumption | rfl)
    (p_power : A .power = true := by first | assumption | rfl) : OutKeeps A r0 (execServiceRequest session req s) := by simp [execServiceRequest, *]

@[simp ↓] theorem execExitRequest_keeps (session req : Nat) (s : State) {A : Part → Bool} {r0 : State} (h_s : Keeps A r0 s)
    (p_core : A .core = true := by first | assumption | rfl) (p_ring : A .ring = true := by first | assumption | rfl) (p_heads : A .heads = true := by first | assumption | rfl)
    (p_fe : A .fe = true := by first | assumption | rfl) (p_cells : A .cells = true := by first | assumption | rfl) (p_borer : A .borer = true := by first | assumption | rfl)
    (p_thin : A .thin = true := by first | assumption | rfl) (p_fb : A .fb = true := by first | assumption | rfl) (p_dict : A .dict = true := by first | assumption | rfl)
    (p_pair : A .pair = true := by first | assumption | rfl) (p_ranger : A .ranger = true := by first | assumption | rfl) (p_tally : A .tally = true := by first | assumption | rfl)
    (p_power : A .power = true := by first | assumption | rfl) : OutKeeps A r0 (execExitRequest session req s) := by simp [execExitRequest, *]

@[simp ↓] theorem execResetRequest_keeps (session req : Nat) (s : State) {A : Part → Bool} {r0 : State} (h_s : Keeps A r0 s)
    (p_core : A .core = true := by first | assumption | rfl) (p_ring : A .ring = true := by first | assumption | rfl) (p_heads : A .heads = true := by first | assumption | rfl)
    (p_fe : A .fe = true := by first | assumption | rfl) (p_cells : A .cells = true := by first | assumption | rfl) (p_borer : A .borer = true := by first | assumption | rfl)
    (p_thin : A .thin = true := by first | assumption | rfl) (p_fb : A .fb = true := by first | assumption | rfl) (p_dict : A .dict = true := by first | assumption | rfl)
    (p_pair : A .pair = true := by first | assumption | rfl) (p_ranger : A .ranger = true := by first | assumption | rfl) (p_tally : A .tally = true := by first | assumption | rfl)
    (p_power : A .power = true := by first | assumption | rfl) : OutKeeps A r0 (execResetRequest session req s) := by simp [execResetRequest, *]

@[simp ↓] theorem execClearRequest_keeps (session req : Nat) (s : State) {A : Part → Bool} {r0 : State} (h_s : Keeps A r0 s)
    (p_core : A .core = true := by first | assumption | rfl) (p_ring : A .ring = true := by first | assumption | rfl) (p_heads : A .heads = true := by first | assumption | rfl)
    (p_fe : A .fe = true := by first | assumption | rfl) (p_cells : A .cells = true := by first | assumption | rfl) (p_borer : A .borer = true := by first | assumption | rfl)
    (p_thin : A .thin = true := by first | assumption | rfl) (p_fb : A .fb = true := by first | assumption | rfl) (p_dict : A .dict = true := by first | assumption | rfl)
    (p_pair : A .pair = true := by first | assumption | rfl) (p_ranger : A .ranger = true := by first | assumption | rfl) (p_tally : A .tally = true := by first | assumption | rfl)
    (p_power : A .power = true := by first | assumption | rfl) : OutKeeps A r0 (execClearRequest session req s) := by simp [execClearRequest, *]

@[simp ↓] theorem execTallyRead_keeps (session req : Nat) (block : Bool) (s : State) {A : Part → Bool} {r0 : State} (h_s : Keeps A r0 s)
    (p_all : ∀ p, p ≠ .lookout → p ≠ .seat → A p = true) : OutKeeps A r0 (execTallyRead session req block s) := by simp (maxDischargeDepth := 60) [execTallyRead, SameBut, SameLists, *]

@[simp ↓] theorem execSleepRequest_keeps (session req : Nat) (s : State) {A : Part → Bool} {r0 : State} (h_s : Keeps A r0 s)
    (p_all : ∀ p, p ≠ .lookout → p ≠ .seat → A p = true) : OutKeeps A r0 (execSleepRequest session req s) := by simp [execSleepRequest, *]

@[simp ↓] theorem execAutoZeroRequest_keeps (session req : Nat) (s : State) {A : Part → Bool} {r0 : State} (h_s : Keeps A r0 s)
    (p_all : ∀ p, p ≠ .lookout → p ≠ .seat → A p = true) : OutKeeps A r0 (execAutoZeroRequest session req s) := by simp [execAutoZeroRequest, *]

@[simp ↓] theorem execInjectionEnable_keeps (session req : Nat) (on : Bool) (s : State) {A : Part → Bool} {r0 : State} (h_s : Keeps A r0 s)
    (p_all : ∀ p, p ≠ .lookout → p ≠ .seat → A p = true) : OutKeeps A r0 (execInjectionEnable session req on s) := by simp [execInjectionEnable, *]

@[simp ↓] theorem execUnwrapRelease_keeps (session req : Nat) (s : State) {A : Part → Bool} {r0 : State} (h_s : Keeps A r0 s)
    (p_all : ∀ p, p ≠ .lookout → p ≠ .seat → A p = true) : OutKeeps A r0 (execUnwrapRelease session req s) := by simp [execUnwrapRelease, *]

@[simp ↓] theorem execReEnumerate_keeps (session req : Nat) (s : State) {A : Part → Bool} {r0 : State} (h_s : Keeps A r0 s)
    (p_all : ∀ p, p ≠ .lookout → p ≠ .seat → A p = true) : OutKeeps A r0 (execReEnumerate session req s) := by simp [execReEnumerate, *]

@[simp ↓] theorem execRingCounterClear_keeps (session req : Nat) (port : Nat) (s : State) {A : Part → Bool} {r0 : State} (h_s : Keeps A r0 s)
    (p_all : ∀ p, p ≠ .lookout → p ≠ .seat → A p = true) : OutKeeps A r0 (execRingCounterClear session req port s) := by simp [execRingCounterClear, *]

@[simp ↓] theorem execOpenWireTestRequest_keeps (session req : Nat) (head tap : Nat) (s : State) {A : Part → Bool} {r0 : State} (h_s : Keeps A r0 s)
    (p_all : ∀ p, p ≠ .lookout → p ≠ .seat → A p = true) : OutKeeps A r0 (execOpenWireTestRequest session req head tap s) := by simp [execOpenWireTestRequest, *]

@[simp ↓] theorem execSenseLostClear_keeps (session req : Nat) (head tap : Nat) (s : State) {A : Part → Bool} {r0 : State} (h_s : Keeps A r0 s)
    (p_all : ∀ p, p ≠ .lookout → p ≠ .seat → A p = true) : OutKeeps A r0 (execSenseLostClear session req head tap s) := by simp [execSenseLostClear, *]

@[simp ↓] theorem execBleedGateFailureClear_keeps (session req : Nat) (head : Nat) (s : State) {A : Part → Bool} {r0 : State} (h_s : Keeps A r0 s)
    (p_all : ∀ p, p ≠ .lookout → p ≠ .seat → A p = true) : OutKeeps A r0 (execBleedGateFailureClear session req head s) := by simp [execBleedGateFailureClear, *]

@[simp ↓] theorem execStagedWrite_keeps (session req : Nat) (index sub : Nat) (value : ObjVal) (s : State) {A : Part → Bool} {r0 : State}
    (h_s : Keeps A r0 s) (p_all : ∀ p, p ≠ .lookout → p ≠ .seat → A p = true) : OutKeeps A r0 (execStagedWrite session req index sub value s) := by simp [execStagedWrite, *]

@[simp ↓] theorem execCommit_keeps (session req : Nat) (s : State) {A : Part → Bool} {r0 : State} (h_s : Keeps A r0 s)
    (p_all : ∀ p, p ≠ .lookout → p ≠ .seat → A p = true) : OutKeeps A r0 (execCommit session req s) := by simp [execCommit, *]

@[simp ↓] theorem execDiscardStaging_keeps (session req : Nat) (s : State) {A : Part → Bool} {r0 : State} (h_s : Keeps A r0 s)
    (p_all : ∀ p, p ≠ .lookout → p ≠ .seat → A p = true) : OutKeeps A r0 (execDiscardStaging session req s) := by simp [execDiscardStaging, *]

@[simp ↓] theorem execInsertionCommand_keeps (session req : Nat) (cell : Nat) (s : State) {A : Part → Bool} {r0 : State} (h_s : Keeps A r0 s)
    (p_all : ∀ p, p ≠ .lookout → p ≠ .seat → A p = true) : OutKeeps A r0 (execInsertionCommand session req cell s) := by simp [execInsertionCommand, *]

@[simp ↓] theorem execCapacityReset_keeps (session req : Nat) (cell : Nat) (s : State) {A : Part → Bool} {r0 : State} (h_s : Keeps A r0 s)
    (p_all : ∀ p, p ≠ .lookout → p ≠ .seat → A p = true) : OutKeeps A r0 (execCapacityReset session req cell s) := by simp [execCapacityReset, *]

@[simp ↓] theorem execCycleCountReset_keeps (session req : Nat) (cell : Nat) (s : State) {A : Part → Bool} {r0 : State} (h_s : Keeps A r0 s)
    (p_all : ∀ p, p ≠ .lookout → p ≠ .seat → A p = true) : OutKeeps A r0 (execCycleCountReset session req cell s) := by simp [execCycleCountReset, *]

@[simp ↓] theorem execChemistryTableWrite_keeps (session req : Nat) (slot : Nat) (table : Bytes) (s : State) {A : Part → Bool} {r0 : State}
    (h_s : Keeps A r0 s) (p_all : ∀ p, p ≠ .lookout → p ≠ .seat → A p = true) : OutKeeps A r0 (execChemistryTableWrite session req slot table s) := by simp [execChemistryTableWrite, *]

@[simp ↓] theorem execExtremesClear_keeps (session req : Nat) (point : Nat) (s : State) {A : Part → Bool} {r0 : State} (h_s : Keeps A r0 s)
    (p_all : ∀ p, p ≠ .lookout → p ≠ .seat → A p = true) : OutKeeps A r0 (execExtremesClear session req point s) := by simp [execExtremesClear, *]

@[simp ↓] theorem execLaneDrainRequest_keeps (session req : Nat) (lane : Nat) (s : State) {A : Part → Bool} {r0 : State} (h_s : Keeps A r0 s)
    (p_all : ∀ p, p ≠ .lookout → p ≠ .seat → A p = true) : OutKeeps A r0 (execLaneDrainRequest session req lane s) := by simp [execLaneDrainRequest, *]

@[simp ↓] theorem execSweepRequest_keeps (session req : Nat) (hours : Nat) (s : State) {A : Part → Bool} {r0 : State} (h_s : Keeps A r0 s)
    (p_all : ∀ p, p ≠ .lookout → p ≠ .seat → A p = true) : OutKeeps A r0 (execSweepRequest session req hours s) := by simp [execSweepRequest, *]

@[simp ↓] theorem execImpedanceTableReset_keeps (session req : Nat) (cell : Nat) (s : State) {A : Part → Bool} {r0 : State} (h_s : Keeps A r0 s)
    (p_all : ∀ p, p ≠ .lookout → p ≠ .seat → A p = true) : OutKeeps A r0 (execImpedanceTableReset session req cell s) := by simp [execImpedanceTableReset, *]

@[simp ↓] theorem execSuspicionClear_keeps (session req : Nat) (cell : Nat) (s : State) {A : Part → Bool} {r0 : State} (h_s : Keeps A r0 s)
    (p_all : ∀ p, p ≠ .lookout → p ≠ .seat → A p = true) : OutKeeps A r0 (execSuspicionClear session req cell s) := by simp [execSuspicionClear, *]

@[simp ↓] theorem execSwitchTestRequest_keeps (session req : Nat) (head : Nat) (s : State) {A : Part → Bool} {r0 : State} (h_s : Keeps A r0 s)
    (p_all : ∀ p, p ≠ .lookout → p ≠ .seat → A p = true) : OutKeeps A r0 (execSwitchTestRequest session req head s) := by simp [execSwitchTestRequest, *]

@[simp ↓] theorem execExclusionClear_keeps (session req : Nat) (cell : Nat) (s : State) {A : Part → Bool} {r0 : State} (h_s : Keeps A r0 s)
    (p_all : ∀ p, p ≠ .lookout → p ≠ .seat → A p = true) : OutKeeps A r0 (execExclusionClear session req cell s) := by simp [execExclusionClear, *]

@[simp ↓] theorem execEnvelopeInstall_keeps (session req : Nat) (document : Bytes) (s : State) {A : Part → Bool} {r0 : State} (h_s : Keeps A r0 s)
    (p_all : ∀ p, p ≠ .lookout → p ≠ .seat → A p = true) : OutKeeps A r0 (execEnvelopeInstall session req document s) := by simp [execEnvelopeInstall, *]

@[simp ↓] theorem execEnvelopeKeyChange_keeps (session req : Nat) (document : Bytes) (s : State) {A : Part → Bool} {r0 : State} (h_s : Keeps A r0 s)
    (p_all : ∀ p, p ≠ .lookout → p ≠ .seat → A p = true) : OutKeeps A r0 (execEnvelopeKeyChange session req document s) := by simp [execEnvelopeKeyChange, *]

@[simp ↓] theorem execClaim_keeps (session req : Nat) (s : State) {A : Part → Bool} {r0 : State} (h_s : Keeps A r0 s)
    (p_all : ∀ p, p ≠ .lookout → p ≠ .seat → A p = true) : OutKeeps A r0 (execClaim session req s) := by simp [execClaim, *]

@[simp ↓] theorem execRenew_keeps (session req : Nat) (s : State) {A : Part → Bool} {r0 : State} (h_s : Keeps A r0 s)
    (p_all : ∀ p, p ≠ .lookout → p ≠ .seat → A p = true) : OutKeeps A r0 (execRenew session req s) := by simp [execRenew, *]

@[simp ↓] theorem execRelease_keeps (session req : Nat) (s : State) {A : Part → Bool} {r0 : State} (h_s : Keeps A r0 s)
    (p_all : ∀ p, p ≠ .lookout → p ≠ .seat → A p = true) : OutKeeps A r0 (execRelease session req s) := by simp [execRelease, *]

@[simp ↓] theorem execRevoke_keeps (session req : Nat) (s : State) {A : Part → Bool} {r0 : State} (h_s : Keeps A r0 s)
    (p_all : ∀ p, p ≠ .lookout → p ≠ .seat → A p = true) : OutKeeps A r0 (execRevoke session req s) := by simp [execRevoke, *]

@[simp ↓] theorem execDispatchRequestWrite_keeps (session req : Nat) (sub : Nat) (value : Int) (s : State) {A : Part → Bool} {r0 : State}
    (h_s : Keeps A r0 s) (p_all : ∀ p, p ≠ .lookout → p ≠ .seat → A p = true) : OutKeeps A r0 (execDispatchRequestWrite session req sub value s) := by simp [execDispatchRequestWrite, *]

@[simp ↓] theorem execSlotModeWrite_keeps (session req : Nat) (slot mode : Nat) (s : State) {A : Part → Bool} {r0 : State} (h_s : Keeps A r0 s)
    (p_all : ∀ p, p ≠ .lookout → p ≠ .seat → A p = true) : OutKeeps A r0 (execSlotModeWrite session req slot mode s) := by simp [execSlotModeWrite, *]

@[simp ↓] theorem execTraceArmSingle_keeps (session req : Nat) (b : Nat) (s : State) {A : Part → Bool} {r0 : State} (h_s : Keeps A r0 s)
    (p_all : ∀ p, p ≠ .lookout → p ≠ .seat → A p = true) : OutKeeps A r0 (execTraceArmSingle session req b s) := by simp [execTraceArmSingle, *]

@[simp ↓] theorem execTraceArmRearm_keeps (session req : Nat) (b : Nat) (s : State) {A : Part → Bool} {r0 : State} (h_s : Keeps A r0 s)
    (p_all : ∀ p, p ≠ .lookout → p ≠ .seat → A p = true) : OutKeeps A r0 (execTraceArmRearm session req b s) := by simp [execTraceArmRearm, *]

@[simp ↓] theorem execTraceDisarm_keeps (session req : Nat) (b : Nat) (s : State) {A : Part → Bool} {r0 : State} (h_s : Keeps A r0 s)
    (p_all : ∀ p, p ≠ .lookout → p ≠ .seat → A p = true) : OutKeeps A r0 (execTraceDisarm session req b s) := by simp [execTraceDisarm, *]

@[simp ↓] theorem execTraceSoftwareTrigger_keeps (session req : Nat) (b : Nat) (s : State) {A : Part → Bool} {r0 : State} (h_s : Keeps A r0 s)
    (p_all : ∀ p, p ≠ .lookout → p ≠ .seat → A p = true) : OutKeeps A r0 (execTraceSoftwareTrigger session req b s) := by simp [execTraceSoftwareTrigger, *]

@[simp ↓] theorem execChopperRestore_keeps (session req : Nat) (axis : Nat) (s : State) {A : Part → Bool} {r0 : State} (h_s : Keeps A r0 s)
    (p_all : ∀ p, p ≠ .lookout → p ≠ .seat → A p = true) : OutKeeps A r0 (execChopperRestore session req axis s) := by simp [execChopperRestore, *]

@[simp ↓] theorem execHomeRequest_keeps (session req : Nat) (axis : Nat) (s : State) {A : Part → Bool} {r0 : State} (h_s : Keeps A r0 s)
    (p_all : ∀ p, p ≠ .lookout → p ≠ .seat → A p = true) : OutKeeps A r0 (execHomeRequest session req axis s) := by simp [execHomeRequest, *]

@[simp ↓] theorem execDisconnectorStop_keeps (session req : Nat) (s : State) {A : Part → Bool} {r0 : State} (h_s : Keeps A r0 s)
    (p_all : ∀ p, p ≠ .lookout → p ≠ .seat → A p = true) : OutKeeps A r0 (execDisconnectorStop session req s) := by simp [execDisconnectorStop, *]

@[simp ↓] theorem execDisconnectorClose_keeps (session req : Nat) (s : State) {A : Part → Bool} {r0 : State} (h_s : Keeps A r0 s)
    (p_all : ∀ p, p ≠ .lookout → p ≠ .seat → A p = true) : OutKeeps A r0 (execDisconnectorClose session req s) := by simp [execDisconnectorClose, *]

@[simp ↓] theorem execDisconnectorOpen_keeps (session req : Nat) (s : State) {A : Part → Bool} {r0 : State} (h_s : Keeps A r0 s)
    (p_all : ∀ p, p ≠ .lookout → p ≠ .seat → A p = true) : OutKeeps A r0 (execDisconnectorOpen session req s) := by simp [execDisconnectorOpen, *]

@[simp ↓] theorem execManualTarget_keeps (session req : Nat) (axis : Nat) (target : Int) (s : State) {A : Part → Bool} {r0 : State}
    (h_s : Keeps A r0 s) (p_all : ∀ p, p ≠ .lookout → p ≠ .seat → A p = true) : OutKeeps A r0 (execManualTarget session req axis target s) := by simp [execManualTarget, *]

@[simp ↓] theorem execTimeSourceWrite_keeps (session req : Nat) (source : Nat) (s : State) {A : Part → Bool} {r0 : State} (h_s : Keeps A r0 s)
    (p_all : ∀ p, p ≠ .lookout → p ≠ .seat → A p = true) : OutKeeps A r0 (execTimeSourceWrite session req source s) := by simp [execTimeSourceWrite, *]

@[simp ↓] theorem execLocalTimeWrite_keeps (session req : Nat) (time : Bytes) (s : State) {A : Part → Bool} {r0 : State} (h_s : Keeps A r0 s)
    (p_all : ∀ p, p ≠ .lookout → p ≠ .seat → A p = true) : OutKeeps A r0 (execLocalTimeWrite session req time s) := by simp [execLocalTimeWrite, *]

@[simp ↓] theorem execQ26OverflowClear_keeps (session req : Nat) (race : Bool) (s : State) {A : Part → Bool} {r0 : State} (h_s : Keeps A r0 s)
    (p_all : ∀ p, p ≠ .lookout → p ≠ .seat → A p = true) : OutKeeps A r0 (execQ26OverflowClear session req race s) := by simp (maxDischargeDepth := 60) [execQ26OverflowClear, SameBut, SameLists, *]

@[simp ↓] theorem execPulseParameterWrite_keeps (session req : Nat) (output sub : Nat) (value : ObjVal) (s : State) {A : Part → Bool} {r0 : State}
    (h_s : Keeps A r0 s) (p_all : ∀ p, p ≠ .lookout → p ≠ .seat → A p = true)
    : OutKeeps A r0 (execPulseParameterWrite session req output sub value s) := by simp [execPulseParameterWrite, *]

@[simp ↓] theorem execBusOffRecovery_keeps (session req : Nat) (controller : Nat) (s : State) {A : Part → Bool} {r0 : State} (h_s : Keeps A r0 s)
    (p_all : ∀ p, p ≠ .lookout → p ≠ .seat → A p = true) : OutKeeps A r0 (execBusOffRecovery session req controller s) := by simp [execBusOffRecovery, *]

@[simp ↓] theorem execEndSession_keeps (session req : Nat) (target : Nat) (s : State) {A : Part → Bool} {r0 : State} (h_s : Keeps A r0 s)
    (p_all : ∀ p, p ≠ .lookout → p ≠ .seat → A p = true) : OutKeeps A r0 (execEndSession session req target s) := by simp [execEndSession, *]

@[simp ↓] theorem execChannelEnable_keeps (session req : Nat) (channel : Nat) (on : Bool) (s : State) {A : Part → Bool} {r0 : State}
    (h_s : Keeps A r0 s) (p_all : ∀ p, p ≠ .lookout → p ≠ .seat → A p = true) : OutKeeps A r0 (execChannelEnable session req channel on s) := by simp [execChannelEnable, *]

@[simp ↓] theorem execFastChannelOpen_keeps (session req : Nat) (s : State) {A : Part → Bool} {r0 : State} (h_s : Keeps A r0 s)
    (p_all : ∀ p, p ≠ .lookout → p ≠ .seat → A p = true) : OutKeeps A r0 (execFastChannelOpen session req s) := by simp [execFastChannelOpen, *]

@[simp ↓] theorem execFastChannelClose_keeps (session req : Nat) (s : State) {A : Part → Bool} {r0 : State} (h_s : Keeps A r0 s)
    (p_all : ∀ p, p ≠ .lookout → p ≠ .seat → A p = true) : OutKeeps A r0 (execFastChannelClose session req s) := by simp [execFastChannelClose, *]

@[simp ↓] theorem execAdoptionRequest_keeps (session req : Nat) (document : Bytes) (s : State) {A : Part → Bool} {r0 : State} (h_s : Keeps A r0 s)
    (p_all : ∀ p, p ≠ .lookout → p ≠ .seat → A p = true) : OutKeeps A r0 (execAdoptionRequest session req document s) := by simp [execAdoptionRequest, *]

@[simp ↓] theorem execDeAdopt_keeps (session req : Nat) (s : State) {A : Part → Bool} {r0 : State} (h_s : Keeps A r0 s)
    (p_all : ∀ p, p ≠ .lookout → p ≠ .seat → A p = true) : OutKeeps A r0 (execDeAdopt session req s) := by simp [execDeAdopt, *]

@[simp ↓] theorem execTrustAnchorWrite_keeps (session req : Nat) (anchor sub : Nat) (value : ObjVal) (s : State) {A : Part → Bool} {r0 : State}
    (h_s : Keeps A r0 s) (p_all : ∀ p, p ≠ .lookout → p ≠ .seat → A p = true) : OutKeeps A r0 (execTrustAnchorWrite session req anchor sub value s) := by simp [execTrustAnchorWrite, *]

@[simp ↓] theorem execDenialListWrite_keeps (session req : Nat) (digests : Bytes) (s : State) {A : Part → Bool} {r0 : State} (h_s : Keeps A r0 s)
    (p_all : ∀ p, p ≠ .lookout → p ≠ .seat → A p = true) : OutKeeps A r0 (execDenialListWrite session req digests s) := by simp [execDenialListWrite, *]

@[simp ↓] theorem execChannelKeyWrite_keeps (session req : Nat) (channel : Nat) (key : Bytes) (s : State) {A : Part → Bool} {r0 : State}
    (h_s : Keeps A r0 s) (p_all : ∀ p, p ≠ .lookout → p ≠ .seat → A p = true) : OutKeeps A r0 (execChannelKeyWrite session req channel key s) := by simp [execChannelKeyWrite, *]

@[simp ↓] theorem execSignedSnapshot_keeps (session req : Nat) (nonce : Bytes) (s : State) {A : Part → Bool} {r0 : State} (h_s : Keeps A r0 s)
    (p_all : ∀ p, p ≠ .lookout → p ≠ .seat → A p = true) : OutKeeps A r0 (execSignedSnapshot session req nonce s) := by simp [execSignedSnapshot, *]

@[simp ↓] theorem execAttestation_keeps (session req : Nat) (nonce : Bytes) (s : State) {A : Part → Bool} {r0 : State} (h_s : Keeps A r0 s)
    (p_all : ∀ p, p ≠ .lookout → p ≠ .seat → A p = true) : OutKeeps A r0 (execAttestation session req nonce s) := by simp [execAttestation, *]

@[simp ↓] theorem execPartnerAdoptionCode_keeps (session req : Nat) (code : Bytes) (s : State) {A : Part → Bool} {r0 : State} (h_s : Keeps A r0 s)
    (p_all : ∀ p, p ≠ .lookout → p ≠ .seat → A p = true) : OutKeeps A r0 (execPartnerAdoptionCode session req code s) := by simp [execPartnerAdoptionCode, *]

@[simp ↓] theorem execHandOverRequest_keeps (session req : Nat) (s : State) {A : Part → Bool} {r0 : State} (h_s : Keeps A r0 s)
    (p_all : ∀ p, p ≠ .lookout → p ≠ .seat → A p = true) : OutKeeps A r0 (execHandOverRequest session req s) := by simp [execHandOverRequest, *]

@[simp ↓] theorem execHandOverCancel_keeps (session req : Nat) (s : State) {A : Part → Bool} {r0 : State} (h_s : Keeps A r0 s)
    (p_all : ∀ p, p ≠ .lookout → p ≠ .seat → A p = true) : OutKeeps A r0 (execHandOverCancel session req s) := by simp [execHandOverCancel, *]

@[simp ↓] theorem execGrant_keeps (session req : Nat) (round : Nat) (s : State) {A : Part → Bool} {r0 : State} (h_s : Keeps A r0 s)
    (p_all : ∀ p, p ≠ .lookout → p ≠ .seat → A p = true) : OutKeeps A r0 (execGrant session req round s) := by simp [execGrant, *]

@[simp ↓] theorem execDenial_keeps (session req : Nat) (round : Nat) (s : State) {A : Part → Bool} {r0 : State} (h_s : Keeps A r0 s)
    (p_all : ∀ p, p ≠ .lookout → p ≠ .seat → A p = true) : OutKeeps A r0 (execDenial session req round s) := by simp [execDenial, *]

@[simp ↓] theorem execFirstFaultRearm_keeps (session req : Nat) (s : State) {A : Part → Bool} {r0 : State} (h_s : Keeps A r0 s)
    (p_all : ∀ p, p ≠ .lookout → p ≠ .seat → A p = true) : OutKeeps A r0 (execFirstFaultRearm session req s) := by simp [execFirstFaultRearm, *]

@[simp ↓] theorem execFirstTripRearm_keeps (session req : Nat) (s : State) {A : Part → Bool} {r0 : State} (h_s : Keeps A r0 s)
    (p_all : ∀ p, p ≠ .lookout → p ≠ .seat → A p = true) : OutKeeps A r0 (execFirstTripRearm session req s) := by simp [execFirstTripRearm, *]

@[simp ↓] theorem execProvokedFaultArm_keeps (session req : Nat) (link : Nat) (s : State) {A : Part → Bool} {r0 : State} (h_s : Keeps A r0 s)
    (p_all : ∀ p, p ≠ .lookout → p ≠ .seat → A p = true) : OutKeeps A r0 (execProvokedFaultArm session req link s) := by simp [execProvokedFaultArm, *]

@[simp ↓] theorem execProvokedFaultStop_keeps (session req : Nat) (link : Nat) (s : State) {A : Part → Bool} {r0 : State} (h_s : Keeps A r0 s)
    (p_all : ∀ p, p ≠ .lookout → p ≠ .seat → A p = true) : OutKeeps A r0 (execProvokedFaultStop session req link s) := by simp [execProvokedFaultStop, *]

@[simp ↓] theorem execKeepAreaClear_keeps (session req : Nat) (s : State) {A : Part → Bool} {r0 : State} (h_s : Keeps A r0 s)
    (p_all : ∀ p, p ≠ .lookout → p ≠ .seat → A p = true) : OutKeeps A r0 (execKeepAreaClear session req s) := by simp [execKeepAreaClear, *]

@[simp ↓] theorem execRestartRequest_keeps (session req : Nat) (s : State) {A : Part → Bool} {r0 : State} (h_s : Keeps A r0 s)
    (p_all : ∀ p, p ≠ .lookout → p ≠ .seat → A p = true) : OutKeeps A r0 (execRestartRequest session req s) := by simp [execRestartRequest, *]

@[simp ↓] theorem execRuleTableWrite_keeps (session req : Nat) (table : Bytes) (s : State) {A : Part → Bool} {r0 : State} (h_s : Keeps A r0 s)
    (p_all : ∀ p, p ≠ .lookout → p ≠ .seat → A p = true) : OutKeeps A r0 (execRuleTableWrite session req table s) := by simp [execRuleTableWrite, *]

@[simp ↓] theorem execPackageLength_keeps (session req : Nat) (length : Nat) (s : State) {A : Part → Bool} {r0 : State} (h_s : Keeps A r0 s)
    (p_all : ∀ p, p ≠ .lookout → p ≠ .seat → A p = true) : OutKeeps A r0 (execPackageLength session req length s) := by simp [execPackageLength, *]

@[simp ↓] theorem execStagingChunk_keeps (session req : Nat) (chunk : Bytes) (s : State) {A : Part → Bool} {r0 : State} (h_s : Keeps A r0 s)
    (p_all : ∀ p, p ≠ .lookout → p ≠ .seat → A p = true) : OutKeeps A r0 (execStagingChunk session req chunk s) := by simp [execStagingChunk, *]

@[simp ↓] theorem execPackageDigest_keeps (session req : Nat) (digest : Bytes) (s : State) {A : Part → Bool} {r0 : State} (h_s : Keeps A r0 s)
    (p_all : ∀ p, p ≠ .lookout → p ≠ .seat → A p = true) : OutKeeps A r0 (execPackageDigest session req digest s) := by simp [execPackageDigest, *]

@[simp ↓] theorem execUpdateStart_keeps (session req : Nat) (s : State) {A : Part → Bool} {r0 : State} (h_s : Keeps A r0 s)
    (p_all : ∀ p, p ≠ .lookout → p ≠ .seat → A p = true) : OutKeeps A r0 (execUpdateStart session req s) := by simp [execUpdateStart, *]

@[simp ↓] theorem execUpdateStop_keeps (session req : Nat) (s : State) {A : Part → Bool} {r0 : State} (h_s : Keeps A r0 s)
    (p_all : ∀ p, p ≠ .lookout → p ≠ .seat → A p = true) : OutKeeps A r0 (execUpdateStop session req s) := by simp [execUpdateStop, *]

@[simp ↓] theorem execGenerationAdvance_keeps (session req : Nat) (s : State) {A : Part → Bool} {r0 : State} (h_s : Keeps A r0 s)
    (p_all : ∀ p, p ≠ .lookout → p ≠ .seat → A p = true) : OutKeeps A r0 (execGenerationAdvance session req s) := by simp [execGenerationAdvance, *]

@[simp ↓] theorem execUpdateConfirm_keeps (session req : Nat) (s : State) {A : Part → Bool} {r0 : State} (h_s : Keeps A r0 s)
    (p_all : ∀ p, p ≠ .lookout → p ≠ .seat → A p = true) : OutKeeps A r0 (execUpdateConfirm session req s) := by simp [execUpdateConfirm, *]

@[simp ↓] theorem execRollBack_keeps (session req : Nat) (s : State) {A : Part → Bool} {r0 : State} (h_s : Keeps A r0 s)
    (p_all : ∀ p, p ≠ .lookout → p ≠ .seat → A p = true) : OutKeeps A r0 (execRollBack session req s) := by simp [execRollBack, *]

end Sys2Proof.Machine
end

