-- ==== Sys2Proof/Laws/OpStates.lean ====
section
/-! SUPPORT. What an event does that the operating state machine takes (R31, R32). -/

namespace Sys2Proof.Machine

open Sys2Proof

/-- The entry actions leave the core's part as it is but for the lockout latch. -/
theorem entryActions_core (old new : OpState) (s : State) :
    (entryActions old new s).core = { s.core with lockoutLatched := (entryActions old new s).core.lockoutLatched } := by
  have hw : ∀ u, (withdrawBleed u).core = u.core := fun u => (withdrawBleed_keeps u (A := fun q => q != .core) (.refl _ _)).core_eq
  have hr : ∀ u, (releaseTrip u).core = u.core := fun u => (releaseTrip_keeps u (A := fun q => q != .core) (.refl _ _)).core_eq
  have hc : ∀ u, (closeLowSides u).core = u.core := fun u => (closeLowSides_keeps u (A := fun q => q != .core) (.refl _ _)).core_eq
  unfold entryActions
  split
  · rfl
  · rfl
  · split
    · have : (rearmFirstTrip (closeLowSides (releaseTrip s))).core = s.core := (hc _).trans (hr s)
      rw [this]
    · have : ∀ u : State, (rearmFirstTrip (closeLowSides (releaseTrip u))).core = u.core := fun u => (hc _).trans (hr u)
      rw [this]
    · split <;> rfl
    · rfl
  · rfl
  · rfl
  · rw [hw]
  · rw [hw]
  · rw [hw]
  · have : ∀ f, (pullIn 1 { withdrawBleed s with fe := f }).core = s.core := fun f => hw s
    rw [this]
  · have : (startTrip false (withdrawBleed (stopPerturbation s))).core = s.core := by
      rw [(startTrip_keeps _ _ (A := fun q => q != .core) (.refl _ _)).core_eq, hw,
        (stopPerturbation_keeps _ (A := fun q => q != .core) (.refl _ _)).core_eq]
    rw [this]
  · rw [hw]
  · have : (withdrawBleed s).core = s.core := hw s
    show ({ (withdrawBleed s).core with lockoutLatched := true } : Core) = _
    rw [this]; rfl

/-- What an event leaves of the core's part when it takes the state to `t`: the state, its cycle, the event and what it left behind, who asked for SERVICE; an
accepted open request goes on between ONLINE and DERATED. -/
abbrev entered (s : State) (e : SmEvent) (t : OpState) (u : State) : Core :=
  { s.core with taken := some e, undo := u.core.undo, opState := t, stateEntered := s.core.cycle,
                opening := s.core.opening && (t = .online || t = .derated),
                service := (if t = .service && e.session != 0xFFFF then some e.session else none), lockoutLatched := u.core.lockoutLatched }

theorem takeEvent_enters {e : SmEvent} (t : OpState) (s : State) (h : e.kind ≠ .openRequest) :
    (takeEvent e t s).core = entered s e t (takeEvent e t s) := by
  unfold takeEvent
  extract_lets _ u _ s1
  rw [if_neg h]
  unfold enterState
  extract_lets old s2 who opening _ s3
  have h3 : s2.core = s1.core := (State.tell_keeps _ _ _ (A := fun q => q != .core) (.refl _ _)).core_eq
  show (entryActions old t s3).core = entered s e t (entryActions old t s3)
  have e3 : s3.core = { s.core with taken := some e, undo := some u, opState := t, stateEntered := s.core.cycle,
                                    opening := s.core.opening && (t = .online || t = .derated),
                                    service := (if t = .service && e.session != 0xFFFF then some e.session else none) } := by
    show ({ s2.core with opState := t, stateEntered := s2.core.cycle, opening := s2.core.opening && (t = .online || t = .derated), service := who } : Core) = _
    rw [h3]
  have hu : (entryActions old t s3).core.undo = some u := by rw [entryActions_core, e3]
  rw [entered, hu, entryActions_core, e3]

theorem answerRequest_core (e : SmEvent) (a : Nat) (s : State) : (answerRequest e a s).core = s.core := by
  unfold answerRequest State.reply State.replyAt State.answer
  split
  · split <;> rfl
  · rfl

theorem answerRequest_ranger (e : SmEvent) (a : Nat) (s : State) : (answerRequest e a s).ranger = s.ranger ∧ (answerRequest e a s).fe = s.fe := by
  unfold answerRequest State.reply State.replyAt State.answer
  split
  · split <;> exact ⟨rfl, rfl⟩
  · exact ⟨rfl, rfl⟩

theorem smEvent_eq {e : SmEvent} {s : State} {t : OpState} (h0 : s.core.taken = none) (h1 : smTarget s s.core.opState e = some t) :
    smEvent e s = answerRequest e 0 (takeEvent e t s) := by
  unfold smEvent
  rw [h0]
  dsimp only
  rw [h1]

/-- The first event of a cycle that has a row with its condition met is taken. -/
theorem smEvent_enters {e : SmEvent} {s : State} {t : OpState} (h0 : s.core.taken = none) (h1 : smTarget s s.core.opState e = some t)
    (h : e.kind ≠ .openRequest) : (smEvent e s).core = entered s e t (smEvent e s) := by
  rw [smEvent_eq h0 h1, entered, answerRequest_core]
  exact takeEvent_enters t s h

/-- A request that is taken is answered with success. -/
theorem smEvent_answers {e : SmEvent} {s : State} {t : OpState} (h0 : s.core.taken = none) (h1 : smTarget s s.core.opState e = some t)
    (hr : e.kind.request = true) (hs : e.session ≠ 0xFFFF) :
    ∃ r ∈ (smEvent e s).dict.responses, r.session = e.session ∧ r.req = e.req ∧ r.abort = 0 := by
  rw [smEvent_eq h0 h1, answerRequest, if_pos hr]
  unfold State.reply State.replyAt State.answer
  rw [if_neg hs]
  exact ⟨_, List.mem_append_right _ (List.mem_singleton.2 rfl), rfl, rfl, rfl⟩

end Sys2Proof.Machine
end

