-- ==== Sys2Proof/Laws/Reads.lean ====
section
/-! SUPPORT. What the reads of the state depend on, and small facts about the named operations that write one field. -/

namespace Sys2Proof.Machine

open Sys2Proof

theorem find_drop {α : Type} (t : Tab α) (k : Nat) : Tab.find (Tab.drop t k) k = none := by
  induction t with
  | nil => rfl
  | cons a t ih =>
    unfold Tab.drop
    simp only [List.filter]
    split
    · rename_i h
      rw [Tab.find_cons, if_neg (by simpa using h)]
      exact ih
    · exact ih

theorem feBit_setFe (s : State) (i j : Nat) (v : Bool) (hj : j < 16) : (s.setFe i v).feBit j = if i = j then v else s.feBit j := by
  unfold State.feBit State.setFe
  simp only [getLsbD_setBit, hj, decide_true, Bool.and_true]

theorem val_congr {s t : State} (h : t.dict = s.dict) (idx sub : Nat) : t.val idx sub = s.val idx sub := by
  unfold State.val; rw [h]

theorem num_congr {s t : State} (h : t.dict = s.dict) (idx sub : Nat) : t.num idx sub = s.num idx sub := by
  unfold State.num; rw [val_congr h]

theorem cfg_congr {s t : State} (h : t.dict = s.dict) (idx sub : Nat) : t.cfg idx sub = s.cfg idx sub := by
  unfold State.cfg; rw [num_congr h]

theorem env_congr {s t : State} (h : t.fb.envelope = s.fb.envelope) (idx sub : Nat) : t.env idx sub = s.env idx sub := by
  unfold State.env; rw [h]

theorem inPair_congr {s t : State} (h : t.dict = s.dict) (k : t.pair = s.pair) : t.inPair = s.inPair := by
  unfold State.inPair; rw [cfg_congr h, k]

theorem starting_congr {s t : State} (h : t.core = s.core) (k : t.power = s.power) : t.starting = s.starting := by
  unfold State.starting; rw [h, k]

/-- A fault of another kind does not touch whether one is raised. -/
theorem raised_raiseOnce_ne (s : State) {source kind source' kind' : Nat} (sev : Sev) (cls val cls' val' : Nat)
    (h : source ≠ source' ∨ kind ≠ kind' ∨ cls ≠ cls' ∨ val ≠ val') :
    (s.raiseOnce source kind sev cls val).raised source' kind' cls' val' = s.raised source' kind' cls' val' := by
  unfold State.raiseOnce
  split
  · rfl
  · unfold State.report State.send State.raised State.faultOnWay
    simp only [List.foldl_append, List.foldl_cons, List.foldl_nil]
    rw [if_neg (by simp only [FaultMsg.same, Bool.and_eq_true, decide_eq_true_eq, not_and]; omega)]
    rfl

/-- A clear of another fault does not touch whether one is raised. -/
theorem raised_clearOnce_ne (s : State) {source kind source' kind' : Nat} (cls val cls' val' : Nat)
    (h : source ≠ source' ∨ kind ≠ kind' ∨ cls ≠ cls' ∨ val ≠ val') :
    (s.clearOnce source kind cls val).raised source' kind' cls' val' = s.raised source' kind' cls' val' := by
  unfold State.clearOnce
  split
  · unfold State.clearFault State.send State.raised State.faultOnWay
    simp only [List.foldl_append, List.foldl_cons, List.foldl_nil]
    rw [if_neg (by simp only [FaultMsg.same, Bool.and_eq_true, decide_eq_true_eq, not_and]; omega)]
    rfl
  · rfl

theorem raiseOnce_fb (s : State) (source kind : Nat) (sev : Sev) (cls val : Nat) : (s.raiseOnce source kind sev cls val).fb = s.fb := by
  unfold State.raiseOnce; split <;> rfl

theorem noEnvelope_other (s : State) : (noEnvelope s).fb.active = s.fb.active ∧ (noEnvelope s).fb.selfTestFailed = s.fb.selfTestFailed ∧
    ∀ k c v, k ≠ 0x17 → (noEnvelope s).raised 0x010 k c v = s.raised 0x010 k c v := by
  unfold noEnvelope
  split
  · exact ⟨rfl, rfl, fun _ _ _ _ => rfl⟩
  · have h : ∀ k c v, k ≠ 0x17 → (s.raiseOnce 0x010 0x17 .degrade 0 0).raised 0x010 k c v = s.raised 0x010 k c v :=
      fun k c v hk => raised_raiseOnce_ne s .degrade 0 0 c v (by omega)
    have hf := raiseOnce_fb s 0x010 0x17 .degrade 0 0
    generalize s.raiseOnce 0x010 0x17 .degrade 0 0 = w at *
    dsimp only
    split
    · exact ⟨by rw [← hf], by rw [← hf], h⟩
    · exact ⟨by rw [← hf], by rw [← hf], h⟩

theorem mem_upFrom (lo n x : Nat) : x ∈ upFrom lo n ↔ lo ≤ x ∧ x < lo + n := by
  induction n generalizing lo with
  | zero => simp [upFrom]
  | succ n ih => simp [upFrom, ih]; omega

theorem nodup_upFrom (lo n : Nat) : (upFrom lo n).Nodup := by
  induction n generalizing lo with
  | zero => simp [upFrom]
  | succ n ih =>
    refine List.nodup_cons.2 ⟨fun h => ?_, ih _⟩
    have := (mem_upFrom ..).1 h
    omega

theorem cell_congr {s t : State} (h : t.cells = s.cells) (k : Nat) : t.cell k = s.cell k := by unfold State.cell; rw [h]

/-- A fold that changes each cell of a list once. -/
theorem cell_fold (f : Nat → CellState → CellState) (l : List Nat) (h : l.Nodup) (s : State) (j : Nat) :
    (l.foldl (fun s k => s.modCell k (f k)) s).cell j = if j ∈ l then f j (s.cell j) else s.cell j := by
  induction l generalizing s with
  | nil => simp
  | cons a t ih =>
    rw [List.foldl_cons, ih (List.nodup_cons.1 h).2, cell_modCell]
    by_cases hj : a = j
    · subst hj
      simp [(List.nodup_cons.1 h).1]
    · by_cases ht : j ∈ t <;> simp [ht, hj, Ne.symm hj]

/-- Every cell keeps what `g` reads of it. -/
def SameCell {α : Type} (g : CellState → α) (s t : State) : Prop := ∀ j, g (t.cell j) = g (s.cell j)
theorem SameCell.of_eq {α : Type} {g : CellState → α} {s t : State} (h : t.cells = s.cells) : SameCell g s t := fun j => by rw [cell_congr h]
theorem SameCell.trans {α : Type} {g : CellState → α} {s t u : State} (h : SameCell g s t) (k : SameCell g t u) : SameCell g s u := fun j => (k j).trans (h j)
theorem SameCell.mod {α : Type} {g : CellState → α} (s : State) (k : Nat) (f : CellState → CellState) (h : ∀ c, g (f c) = g c) : SameCell g s (s.modCell k f) := by
  intro j
  rw [cell_modCell]
  split
  · rename_i h'; rw [h, h']
  · rfl
theorem SameCell.fold {α β : Type} {g : CellState → α} {f : State → β → State} (h : ∀ s a, SameCell g s (f s a)) (l : List β) (s : State) : SameCell g s (l.foldl f s) := by
  induction l generalizing s with
  | nil => exact fun _ => rfl
  | cons a t ih => exact .trans (h s a) (ih _)

theorem cells_raise (s : State) (a b : Nat) (c : Sev) (d e : Nat) : (s.raiseOnce a b c d e).cells = s.cells := by
  unfold State.raiseOnce; split <;> rfl

theorem cells_clear (s : State) (a b c d : Nat) : (s.clearOnce a b c d).cells = s.cells := by
  unfold State.clearOnce; split <;> rfl

end Sys2Proof.Machine
end

