-- ==== Sys2Proof/Laws/Ring.lean ====
section
/-! SUPPORT. Operations that touch the Yarder only by putting commands on its transmit queues, and what enumeration loads. -/

namespace Sys2Proof.Machine

open Sys2Proof

/-- Of the Yarder only the transmit queues differ. -/
def QueuesOnly (s t : State) : Prop :=
  t.ring = { s.ring with q0 := t.ring.q0, q1 := t.ring.q1, q4 := t.ring.q4, q5 := t.ring.q5 }

theorem QueuesOnly.of_eq {s t : State} (h : t.ring = s.ring) : QueuesOnly s t := by rw [QueuesOnly, h]

theorem QueuesOnly.refl (s : State) : QueuesOnly s s := .of_eq rfl

theorem QueuesOnly.trans {s t u : State} (h : QueuesOnly s t) (h' : QueuesOnly t u) : QueuesOnly s u := by
  rw [QueuesOnly] at *
  rw [h', h]

theorem QueuesOnly.fields {s t : State} (h : QueuesOnly s t) : t.ring.state = s.ring.state ∧ t.ring.blocks = s.ring.blocks ∧
    t.ring.validP = s.ring.validP ∧ t.ring.seenP = s.ring.seenP ∧ t.ring.heads = s.ring.heads ∧ t.ring.inFlight = s.ring.inFlight ∧
    t.ring.q2 = s.ring.q2 ∧ t.ring.q6 = s.ring.q6 ∧ t.ring.counters = s.ring.counters ∧ t.ring.enum = s.ring.enum ∧
    t.ring.bothPorts = s.ring.bothPorts ∧ t.ring.originating = s.ring.originating ∧ t.ring.headCount = s.ring.headCount := by
  rw [QueuesOnly] at h
  rw [h]
  exact ⟨rfl, rfl, rfl, rfl, rfl, rfl, rfl, rfl, rfl, rfl, rfl, rfl, rfl⟩

theorem enqueue_queues (urgent : Bool) (c : RingCmd) (s : State) : QueuesOnly s (enqueue urgent c s) := by
  unfold enqueue
  extract_lets r
  (repeat' split) <;> rfl

theorem command_queues (s : State) (urgent : Bool) (p op : Nat) (payload : Bytes) : QueuesOnly s (s.command urgent p op payload) := by
  unfold State.command
  split
  · exact .refl _
  · exact enqueue_queues ..

theorem foldl_queues {α : Type} {f : State → α → State} (hf : ∀ s a, QueuesOnly s (f s a)) (l : List α) (s : State) : QueuesOnly s (l.foldl f s) := by
  induction l generalizing s with
  | nil => exact .refl _
  | cons a t ih => exact (hf s a).trans (ih _)

theorem startOwTest_queues (p tap : Nat) (s : State) : QueuesOnly s (startOwTest p tap s) := by
  unfold startOwTest
  split
  · exact .of_eq rfl
  · extract_lets k s1 s2
    refine .trans (.trans (.of_eq ?_) (command_queues s1 _ _ _ _)) (.of_eq rfl)
    exact (emptyMap_keeps p (k + 2) (s.keepSafe p tap) (A := fun q => q != .ring) (State.keepSafe_keeps s p tap (.refl _ s) rfl) rfl rfl).ring_eq

theorem suspectTap_queues (p tap : Nat) (inj : Bool) (s : State) : QueuesOnly s (suspectTap p tap inj s) := by
  unfold suspectTap
  extract_lets s1 s2 _ s3 s4 _ s5 s6
  refine .trans (.of_eq ?_) (startOwTest_queues p tap s6)
  have h1 : s1.ring = s.ring := rfl
  have h2 : s2.ring = s1.ring := (State.keepSafe_keeps s1 p tap (A := fun q => q != .ring) (.refl _ s1) rfl).ring_eq
  have h3 : s5.ring = s2.ring := rfl
  have h4 : s6.ring = s5.ring :=
    Keeps.ring_eq (A := fun q => q != .ring) (keeps_foldl (fun x a h => State.setCellFlag_keeps _ _ _ _ h rfl) (.refl _ _))
  rw [h4, h3, h2, h1]

theorem pairSum_queues (p tap : Nat) (inj : Bool) (s : State) : QueuesOnly s (pairSum p tap inj s) := by
  unfold pairSum
  dsimp only
  split
  · exact .refl _
  · split
    · split
      · exact suspectTap_queues ..
      · exact .refl _
    · exact .refl _

theorem gateCheck_queues (b : HeadBlock) (inj : Bool) (s : State) : QueuesOnly s (gateCheck b inj s).2 := by
  unfold gateCheck
  split
  · extract_lets n s1 _ s3 s4
    split
    · exact .trans (.of_eq rfl) (command_queues _ _ _ _ _)
    · exact .of_eq rfl
  · exact .of_eq rfl

theorem refCheck_ring (b : HeadBlock) (inj : Bool) (s : State) : (refCheck b inj s).2.ring = s.ring :=
  (refCheck_keeps b inj s (A := fun q => q != .ring) (.refl _ _) rfl rfl).ring_eq

theorem cellsOfBlock_queues (b : HeadBlock) (prevOw inj : Bool) (s : State) : QueuesOnly s (cellsOfBlock b prevOw inj s) := by
  unfold cellsOfBlock
  extract_lets p n first maps comp v put src s1 s2 s3 s4
  have h1 : QueuesOnly s s1 := .of_eq rfl
  have h2 : QueuesOnly s1 s2 := by
    simp only [s2]; split
    · exact .refl _
    · exact foldl_queues (fun s t => pairSum_queues p t inj s) _ _
  have h3 : QueuesOnly s2 s3 := by
    simp only [s3]; split
    · exact .refl _
    · exact .of_eq (headSum_keeps p v b.stack s2 (A := fun q => q != .ring) (.refl _ _) rfl rfl).ring_eq
  have h4 : QueuesOnly s3 s4 := foldl_queues (fun s i => .of_eq
    (compareCell_keeps _ _ inj s (A := fun q => q != .ring) (.refl _ _) rfl rfl rfl rfl).ring_eq) _ _
  exact h1.trans (h2.trans (h3.trans (h4.trans (.of_eq (stackCompare_keeps b inj s4 (A := fun q => q != .ring) (.refl _ _) rfl rfl rfl).ring_eq))))

/-- After the block is noted and recorded, checking it touches only the transmit queues. -/
theorem acceptBlock_queues (port : Nat) (b : HeadBlock) (inj : Bool) (s : State) :
    QueuesOnly (recordBlock port b (noteBlock port b s)) (acceptBlock port b inj s) := by
  unfold acceptBlock
  extract_lets prevOw s1
  rcases hg : gateCheck b inj s1 with ⟨gate, s2⟩
  rcases hr : refCheck b inj s2 with ⟨ref, s3⟩
  have h1 : QueuesOnly s1 s2 := by have := gateCheck_queues b inj s1; rwa [hg] at this
  have h2 : s3.ring = s2.ring := by have := refCheck_ring b inj s2; rwa [hr] at this
  have h3 : (swSample b (owSample b prevOw s3)).ring = s3.ring :=
    (swSample_keeps b _ (A := fun q => q != .ring) (owSample_keeps b prevOw s3 (.refl _ _) rfl) rfl rfl).ring_eq
  have h4 : QueuesOnly s1 (swSample b (owSample b prevOw s3)) := h1.trans (.of_eq (h3.trans h2))
  have h5 : ∀ u, QueuesOnly u (tempsOfBlock b inj u) := fun u =>
    .of_eq (tempsOfBlock_keeps b inj u (A := fun q => q != .ring) (.refl _ _) rfl rfl rfl rfl).ring_eq
  dsimp only
  rw [hr]
  dsimp only
  refine .trans ?_ (h5 _)
  split
  · exact h4
  · exact h4.trans (cellsOfBlock_queues ..)

/-- What the Yarder's registers of a head hold after its valid block: a head that was unreachable is read again from the port it is heard on (R49, R74, R162). -/
def blockNoted (port : Nat) (b : HeadBlock) (s : State) (h : HeadInfo) : HeadInfo :=
  { h with flags := HeadBlockFlags b, missRun := 0, failRun := 0, unreachable := false,
           from_ := if h.unreachable then port else h.from_, hop := if h.unreachable then s.hopFrom port b.p else h.hop }

/-- What the Yarder notes of a valid block (R49, R74). -/
theorem noteBlock_ring (port : Nat) (b : HeadBlock) (s : State) :
    (noteBlock port b s).ring.validP = s.ring.validP ++ [b.p] ∧ (noteBlock port b s).ring.blocks = s.ring.blocks ∧
    (noteBlock port b s).info b.p = blockNoted port b s (s.info b.p) := by
  unfold noteBlock
  extract_lets s1 s2 _ s3 _
  have h2 : s2.ring = s1.ring := (State.clearOnce_keeps s1 _ _ _ _ (A := fun q => q != .ring) (.refl _ _) rfl).ring_eq
  have h5 : s3.ring.validP = s.ring.validP ++ [b.p] ∧ s3.ring.blocks = s.ring.blocks ∧ s3.ring.heads = s1.ring.heads := by
    refine ⟨?_, ?_, ?_⟩
    · show s2.ring.validP ++ [b.p] = _; rw [h2]; rfl
    · show s2.ring.blocks = _; rw [h2]; rfl
    · show s2.ring.heads = _; rw [h2]
  have h6 : ∀ u : State, u.ring.heads = s3.ring.heads → u.info b.p = blockNoted port b s (s.info b.p) := by
    intro u hu
    rw [State.info, hu, h5.2.2]
    show s1.info b.p = _
    simp only [s1, info_modInfo, if_true]
    rfl
  split
  · exact ⟨h5.1, h5.2.1, h6 _ rfl⟩
  · exact ⟨h5.1, h5.2.1, h6 _ rfl⟩

/-- A valid block is recorded and its head's registers take it (R49, R72, R74). -/
theorem acceptBlock_ring (port : Nat) (b : HeadBlock) (inj : Bool) (s : State) :
    (acceptBlock port b inj s).ring.validP = s.ring.validP ++ [b.p] ∧
    (acceptBlock port b inj s).ring.blocks = s.ring.blocks ++ [{ cycle := s.core.cycle, port := port, block := b }] ∧
    (acceptBlock port b inj s).info b.p = blockNoted port b s (s.info b.p) := by
  have h := (acceptBlock_queues port b inj s).fields
  have hn := noteBlock_ring port b s
  have hc : (noteBlock port b s).core = s.core := (noteBlock_keeps port b s (A := fun q => q != .core) (.refl _ _) rfl rfl rfl).core_eq
  refine ⟨h.2.2.1.trans hn.1, h.2.1.trans ?_, ?_⟩
  · show (noteBlock port b s).ring.blocks ++ [_] = _
    rw [hn.2.1, hc]
  · rw [State.info, h.2.2.2.2.1]
    exact hn.2.2

theorem head_congr {s t : State} (h : t.heads = s.heads) (p : Nat) : t.head p = s.head p := by rw [State.head, h]; rfl

theorem info_congr {s t : State} (h : t.ring.heads = s.ring.heads) (p : Nat) : t.info p = s.info p := by rw [State.info, h]; rfl

/-- A frame that leaves a port touches no register of a head. -/
theorem launch_heads (port kind p : Nat) (l : List RingChar) (s : State) : (launch port kind p l s).ring.heads = s.ring.heads := by
  unfold launch transmit
  have h := (injectFrame_keeps port 1 (s.ringFilter port 1 kind p) s (A := fun q => q != .ring) (.refl _ _) rfl rfl rfl).ring_eq
  generalize injectFrame port 1 (s.ringFilter port 1 kind p) s = q at h
  obtain ⟨what, u⟩ := q
  dsimp only at h ⊢
  show (if what = .clean then u else u.count port 11 1).ring.heads = _
  split
  · rw [h]
  · show u.ring.heads = _; rw [h]

/-- Nor do frames that leave it one after another. -/
theorem launchAll_heads (port : Nat) (cmds : List RingCmd) (s : State) : (launchAll port cmds s).ring.heads = s.ring.heads := by
  unfold launchAll
  generalize numberFrames _ _ _ = q
  obtain ⟨frames, n⟩ := q
  dsimp only
  suffices ∀ u : State, (frames.foldl (fun s c => launch port 3 c.head c.chars s) u).ring.heads = u.ring.heads from this _
  intro u
  induction frames generalizing u with
  | nil => rfl
  | cons c t ih => rw [List.foldl_cons, ih, launch_heads]

/-- What enumeration or readmission loads into a head and its registers (R59, R67). -/
theorem loadHead_loaded (p from_ hop : Nat) (i : HeadIdent) (dW dE : Option Nat) (s : State) :
    ∀ t, t = loadHead p from_ hop i dW dE s →
    (t.head p).state = .enumerated ∧ (t.head p).wrapped = false ∧ (t.head p).p = some p ∧ (t.head p).serial = i.serial ∧
    (t.head p).dW = dW ∧ (t.head p).dE = dE ∧ (t.info p).serial = i.serial ∧ (t.info p).missRun = 0 ∧ (t.info p).unreachable = false := by
  rintro t rfl
  unfold loadHead
  extract_lets s0 s1
  clear_value s0
  have h : ∀ f : Head → Head, (s1.modHead p f).info p = s1.info p := fun f => info_congr rfl p
  rw [h, head_modHead, if_pos rfl]
  have : s1.info p = _ := info_modInfo ..
  rw [this, if_pos rfl]
  exact ⟨rfl, rfl, rfl, rfl, rfl, rfl, rfl, rfl, rfl⟩

theorem headInserted_ring (s : State) (p : Nat) : (headInserted s p).ring = s.ring ∧ (headInserted s p).heads = s.heads := by
  unfold headInserted
  extract_lets s1
  have h : Keeps (fun q => q = .cells) s s1 := keeps_foldl (fun x a h => State.modCell_keeps _ _ _ h (by rfl)) (.refl _ _)
  exact ⟨h.ring_eq, h.heads_eq⟩

theorem tryUnwrap_heads (s : State) : (tryUnwrap s).ring.heads = s.ring.heads := by
  unfold tryUnwrap
  extract_lets r past u0 x
  split
  · rfl
  · have hx : x.ring.heads = s.ring.heads := by
      simp only [x]; split
      · rfl
      · exact (command_queues u0 _ _ _ _).fields.2.2.2.2.1.trans rfl
    split
    · exact hx
    · exact (command_queues x _ _ _ _).fields.2.2.2.2.1.trans hx

theorem configureHead_queues (s : State) (p : Nat) : QueuesOnly s (configureHead s p) := command_queues ..

end Sys2Proof.Machine
end

