-- ==== Sys2Proof/WellFormed.lean ====
section
/-! DEFINITION. Well-formed commands: every operand that names a thing of the block names one that the spec gives it (ports, positions, cells, taps,
points, axes, channels, links, sessions and request identifiers: R2 to R5, R135, R394, R402, R485). The meanings are total: they do not rest on this. -/

namespace Sys2Proof

/-- Whether the operands of a command lie in the ranges of what they name. -/
def Instr.wellFormed : Instr → Bool
  | .sync _ => true
  | .stringRecord _ => true
  | .cycleBoundary => true
  | .headSyncReceive place port _ => 1 ≤ place && place ≤ 64 && port < 2
  | .headSample place _ _ _ _ => 1 ≤ place && place ≤ 64
  | .containerPass place _ => 1 ≤ place && place ≤ 64
  | .quietWindowOpen place => 1 ≤ place && place ≤ 64
  | .quietWindowClose place => 1 ≤ place && place ≤ 64
  | .frontEndSample _ _ => true
  | .fastSample _ _ => true
  | .hallComparatorTrip => true
  | .headBlockReceive port _ => port < 2
  | .headSumMismatch p => 1 ≤ p && p ≤ 64
  | .stringSumMismatch => true
  | .cellsUnmeasured k => 1 ≤ k && k ≤ 512
  | .temperaturePointLost n => n < 2048
  | .headTemperatureLost p => 1 ≤ p && p ≤ 64
  | .firebreakCauseClear bit _ _ => bit < 32
  | .breakDecision _ => true
  | .breakWaitExpiry _ => true
  | .cycleDataCrossing _ => true
  | .closeRequest session req => session < 256 && req < 65536
  | .checksPass => true
  | .precheckTimeout => true
  | .closeTimeout => true
  | .pullInEnd k => k < 2
  | .openRequest session req => session < 256 && req < 65536
  | .openRequestTimeout => true
  | .serviceRequest session req => session < 256 && req < 65536
  | .exitRequest session req => session < 256 && req < 65536
  | .resetRequest session req => session < 256 && req < 65536
  | .clearRequest session req => session < 256 && req < 65536
  | .sleepRequest session req => session < 256 && req < 65536
  | .auxContactChange k _ _ => k < 2
  | .auxiliaryContactFault k => k < 2
  | .coilDriveFault k _ => k < 2
  | .weldCheckAuxTimeout => true
  | .weldCheckVoltageStage => true
  | .weldWaitExpiry => true
  | .autoZeroRequest session req => session < 256 && req < 65536
  | .autoZeroTimer => true
  | .autoZeroStart => true
  | .autoZeroComplete _ _ _ => true
  | .inServiceZero => true
  | .insulationHalfPeriodEnd _ _ _ _ => true
  | .insulationResultStale => true
  | .injectionEnable session req _ => session < 256 && req < 65536
  | .losDeclared port _ _ _ => port < 2
  | .losCleared port => port < 2
  | .headWrap input => 1 ≤ input.place && input.place ≤ 64 && input.side ≤ 1
  | .syncNotReturned port _ => port < 2
  | .headUnreachable p => 1 ≤ p && p ≤ 64
  | .farSideRestored far => 1 ≤ far.place && far.place ≤ 64
  | .unwrapRelease session req => session < 256 && req < 65536
  | .headReadmission p _ => 1 ≤ p && p ≤ 64
  | .enumeration _ _ _ _ _ => true
  | .enumerationComplete => true
  | .reEnumerate session req => session < 256 && req < 65536
  | .commandFrameReturn port _ _ _ _ => port < 2
  | .ringCounterClear session req port => session < 256 && req < 65536 && port < 2
  | .identify place _ => 1 ≤ place && place ≤ 64
  | .openHead place _ => 1 ≤ place && place ≤ 64
  | .setPosition place _ _ => 1 ≤ place && place ≤ 64
  | .setDelay place _ _ => 1 ≤ place && place ≤ 64
  | .configure place _ _ => 1 ≤ place && place ≤ 64
  | .unwrap place _ => 1 ≤ place && place ≤ 64
  | .bleedSlot place _ _ => 1 ≤ place && place ≤ 64
  | .bleedSlotStart place => 1 ≤ place && place ≤ 64
  | .bleedOff place _ => 1 ≤ place && place ≤ 64
  | .owTest place _ _ => 1 ≤ place && place ≤ 64
  | .switchTest place _ _ => 1 ≤ place && place ≤ 64
  | .readStatus place _ => 1 ≤ place && place ≤ 64
  | .testRef place _ _ => 1 ≤ place && place ≤ 64
  | .restart place _ _ => 1 ≤ place && place ≤ 64
  | .echo place _ _ => 1 ≤ place && place ≤ 64
  | .headCycleMissing place => 1 ≤ place && place ≤ 64
  | .headSyncLost place => 1 ≤ place && place ≤ 64
  | .headInitialState place => 1 ≤ place && place ≤ 64
  | .headLowPower place => 1 ≤ place && place ≤ 64
  | .headWake place => 1 ≤ place && place ≤ 64
  | .openWireTestSchedule p => 1 ≤ p && p ≤ 64
  | .openWireTestRequest session req head tap => session < 256 && req < 65536 && 1 ≤ head && head ≤ 64 && (tap ≤ 16 || tap = 255)
  | .openWireEvaluation p => 1 ≤ p && p ≤ 64
  | .tapSuspicionTimeout p tap => 1 ≤ p && p ≤ 64 && tap ≤ 16
  | .senseLostClear session req head tap => session < 256 && req < 65536 && 1 ≤ head && head ≤ 64 && tap ≤ 16
  | .bleedGateFailureClear session req head => session < 256 && req < 65536 && 1 ≤ head && head ≤ 64
  | .stagedWrite session req index sub _ => session < 256 && req < 65536 && index < 65536 && sub < 256
  | .commit session req => session < 256 && req < 65536
  | .discardStaging session req => session < 256 && req < 65536
  | .stagingIdleTimeout => true
  | .insertionCommand session req cell => session < 256 && req < 65536 && 1 ≤ cell && cell ≤ 512
  | .capacityReset session req cell => session < 256 && req < 65536 && 1 ≤ cell && cell ≤ 512
  | .cycleCountReset session req cell => session < 256 && req < 65536 && 1 ≤ cell && cell ≤ 512
  | .chemistryTableWrite session req slot _ => session < 256 && req < 65536 && slot < 8
  | .tableEntryRepaired _ _ _ => true
  | .pointStale n => n < 2048
  | .extremesClear session req point => session < 256 && req < 65536 && point < 2048
  | .laneDrainRequest session req lane => session < 256 && req < 65536 && lane < 8
  | .storageCheckpoint _ => true
  | .minuteAggregate => true
  | .hourAggregate => true
  | .wearSwap => true
  | .cellTemperatureUnknown k => 1 ≤ k && k ≤ 512
  | .endOfCharge => true
  | .endOfDischarge => true
  | .endEventRearm _ => true
  | .countingDivergenceClear k => 1 ≤ k && k ≤ 512
  | .stateRebuild _ => true
  | .perturbationWindowRequest => true
  | .perturbationStop => true
  | .sweepRequest session req _ => session < 256 && req < 65536
  | .windowEnd => true
  | .resultApplication => true
  | .impedanceAgeAdvance => true
  | .impedanceTableReset session req cell => session < 256 && req < 65536 && 1 ≤ cell && cell ≤ 512
  | .healthEvaluation => true
  | .restSnapshot => true
  | .restEvaluation => true
  | .suspicionClear session req cell => session < 256 && req < 65536 && 1 ≤ cell && cell ≤ 512
  | .targetRecompute => true
  | .slotDecision => true
  | .bleedSlotUnacknowledged p => 1 ≤ p && p ≤ 64
  | .switchTestSchedule => true
  | .switchTestRequest session req head => session < 256 && req < 65536 && ((1 ≤ head && head ≤ 64) || head = 255)
  | .switchTestEvaluation p => 1 ≤ p && p ≤ 64
  | .exclusionClear session req cell => session < 256 && req < 65536 && 1 ≤ cell && cell ≤ 512
  | .envelopeInstall session req _ => session < 256 && req < 65536
  | .firebreakSelfTest _ => true
  | .envelopeKeyChange session req _ => session < 256 && req < 65536
  | .protectionSummaryCompare _ => true
  | .claim session req => session < 256 && req < 65536
  | .renew session req => session < 256 && req < 65536
  | .release session req => session < 256 && req < 65536
  | .revoke session req => session < 256 && req < 65536
  | .dispatchLeaseExpired => true
  | .dispatchRequestWrite session req sub _ => session < 256 && req < 65536 && 2 ≤ sub && sub ≤ 4
  | .slotModeWrite session req slot mode => session < 256 && req < 65536 && slot < 16 && mode < 256
  | .traceArmSingle session req b => session < 256 && req < 65536 && b < 4
  | .traceArmRearm session req b => session < 256 && req < 65536 && b < 4
  | .traceDisarm session req b => session < 256 && req < 65536 && b < 4
  | .traceSoftwareTrigger session req b => session < 256 && req < 65536 && b < 4
  | .traceCaptureComplete b => b < 4
  | .traceCaptureRead session req b => session < 256 && req < 65536 && b < 4
  | .thresholdSample j => j < 32
  | .entryDwellExpired j => j < 32
  | .exitDwellExpired j => j < 32
  | .canopyFailSafe n => 2 ≤ n && n < 12
  | .axisTargetChange a _ => 1 ≤ a && a ≤ 4
  | .standstillDelay a => 1 ≤ a && a ≤ 4
  | .chopperFallBack a _ => 1 ≤ a && a ≤ 4
  | .chopperRestore session req axis => session < 256 && req < 65536 && 1 ≤ axis && axis ≤ 4
  | .stepLoss a _ => 1 ≤ a && a ≤ 4
  | .switchEdge a _ _ _ _ _ => 1 ≤ a && a ≤ 4
  | .gearingLag a _ => 1 ≤ a && a ≤ 4
  | .homeRequest session req axis => session < 256 && req < 65536 && 1 ≤ axis && axis ≤ 4
  | .disconnectorStop session req => session < 256 && req < 65536
  | .disconnectorClose session req => session < 256 && req < 65536
  | .disconnectorOpen session req => session < 256 && req < 65536
  | .travelTimeout => true
  | .manualTarget session req axis _ => session < 256 && req < 65536 && 1 ≤ axis && axis ≤ 4
  | .ethernetFrameReceive port _ => port < 2
  | .linkLoss port => port < 2
  | .prpSupervision => true
  | .ptpMessageReceive port => port < 2
  | .offsetMeasured _ => true
  | .announceReceiptTimeout port _ => port < 2
  | .holdoverExpiry => true
  | .timeSourceWrite session req _ => session < 256 && req < 65536
  | .localTimeWrite session req time => session < 256 && req < 65536 && time.length = 10
  | .ppsInEdge _ => true
  | .transmitTimeStamp port _ _ _ _ => port < 2
  | .q26OverflowClear session req _ => session < 256 && req < 65536
  | .overflowOccurrencesRead session req => session < 256 && req < 65536
  | .pulseEdge o _ => o < 4
  | .pulseParameterWrite session req output sub _ => session < 256 && req < 65536 && output < 4 && sub < 256
  | .canFrameReceive n _ => n < 2
  | .canTransmitAttempt n _ => n < 2
  | .busOff n => n < 2
  | .busOffRecoveryDelay n => n < 2
  | .busOffRecovery session req controller => session < 256 && req < 65536 && controller < 2
  | .roleStrapChanged => true
  | .read session req _ => session < 256 && req < 65536
  | .write session req _ => session < 256 && req < 65536
  | .objectWrite session req index sub _ => session < 256 && req < 65536 && index < 65536 && sub < 256
  | .readBlock session req index sub _ _ => session < 256 && req < 65536 && index < 65536 && sub < 256
  | .writeBlock session req index sub _ _ _ _ _ => session < 256 && req < 65536 && index < 65536 && sub < 256
  | .blockTransferTimeout session => session < 256
  | .subscribe session req period _ => session < 256 && req < 65536 && period < 65536
  | .unsubscribe session req id => session < 256 && req < 65536 && id < 65536
  | .describe session req _ => session < 256 && req < 65536
  | .canSegment controller frame => controller < 2 && frame.length ≤ 64
  | .segmentAcknowledge channel _ => channel < 64
  | .transferTimeout channel => channel < 64
  | .engineRound _ => true
  | .tlsHandshake _ port _ _ => port < 2
  | .connectionLost session => session < 256
  | .sessionResumption session port _ => session < 256 && port < 2
  | .dormantWindowExpiry session => session < 256
  | .closeNotify session => session < 256
  | .endSession session req _ => session < 256 && req < 65536
  | .channelEnable session req channel _ => session < 256 && req < 65536 && channel < 64
  | .fastChannelOpen session req => session < 256 && req < 65536
  | .fastChannelClose session req => session < 256 && req < 65536
  | .fastChannelDatagram port => port < 2
  | .adoptionRequest session req _ => session < 256 && req < 65536
  | .adoptionWaitExpiry => true
  | .deAdopt session req => session < 256 && req < 65536
  | .trustAnchorWrite session req anchor sub _ => session < 256 && req < 65536 && 1 ≤ anchor && anchor ≤ 4 && sub < 256
  | .denialListWrite session req _ => session < 256 && req < 65536
  | .channelKeyWrite session req channel key => session < 256 && req < 65536 && channel < 64 && key.length = 16
  | .signedSnapshot session req _ => session < 256 && req < 65536
  | .attestation session req _ => session < 256 && req < 65536
  | .pairHello _ => true
  | .pairProof _ => true
  | .heartbeatReceive _ _ _ => true
  | .heartbeatLost => true
  | .partnerSenseChange _ => true
  | .roleDecisionTimeout => true
  | .missingData _ _ _ _ _ => true
  | .replicatedInput _ _ _ => true
  | .checkpointPart _ _ _ _ _ _ => true
  | .configuration _ _ _ => true
  | .adoption _ _ _ _ _ => true
  | .partnerAdoptionCode session req code => session < 256 && req < 65536 && code.length = 8
  | .readinessComplete => true
  | .handOverRequest session req => session < 256 && req < 65536
  | .handOverCancel session req => session < 256 && req < 65536
  | .roleSwapTimer => true
  | .notWarmAbort => true
  | .stateFreeze => true
  | .overlapStart => true
  | .originationChange => true
  | .handOverComplete => true
  | .coilCatch k => k < 2
  | .coilCatchEnd k _ => k < 2
  | .takeover _ => true
  | .catchUpComplete => true
  | .grant session req _ => session < 256 && req < 65536
  | .denial session req _ => session < 256 && req < 65536
  | .claimTimeout => true
  | .denialHoldEnd => true
  | .partnerSyncDetected => true
  | .faultMessage _ => true
  | .faultClear _ => true
  | .faultAcknowledge _ => true
  | .graceExpiry _ => true
  | .firstFaultCaptureClose => true
  | .firstFaultRearm session req => session < 256 && req < 65536
  | .firstTripRearm session req => session < 256 && req < 65536
  | .watchdogService _ => true
  | .watchdogExpired => true
  | .provokedFaultArm session req link => session < 256 && req < 65536 && link < 7
  | .provokedFaultStop session req link => session < 256 && req < 65536 && link < 7
  | .provokedFaultStart link => link < 7
  | .provokedFaultEnd link => link < 7
  | .tallyWrite => true
  | .keepAreaClear session req => session < 256 && req < 65536
  | .tallyRead session req _ => session < 256 && req < 65536
  | .supplyPresent _ _ _ _ _ _ => true
  | .bootComplete => true
  | .sourceLoss _ _ => true
  | .backupRegulating _ => true
  | .auxReturn _ _ => true
  | .powerGoodFall => true
  | .holdUpExpiry => true
  | .holdUpTest _ => true
  | .powerDomainFault d => d < 13
  | .restartRequest session req => session < 256 && req < 65536
  | .moduleRestart => true
  | .clockCheck _ _ _ => true
  | .temperatureSensorSample n _ => 1 ≤ n && n ≤ 6
  | .thermalShutDown => true
  | .senseBurst _ _ => true
  | .insulationBurst _ _ => true
  | .ringPoll _ _ _ _ => true
  | .logFlush => true
  | .ruleEvaluation _ _ _ => true
  | .ruleTableWrite session req _ => session < 256 && req < 65536
  | .wakeTimer => true
  | .ppsInHold => true
  | .canWakeUpPattern => true
  | .tetherLineEnergy => true
  | .journalWrite cut => cut < 3
  | .logRefresh => true
  | .storageUnitFailure _ _ => true
  | .imageVerification type number _ _ => 1 ≤ type && type ≤ 4 && number < (if type = 2 then 8 else if type = 4 then 2 else 1)
  | .packageLength session req _ => session < 256 && req < 65536
  | .stagingChunk session req _ => session < 256 && req < 65536
  | .packageDigest session req digest => session < 256 && req < 65536 && digest.length = 32
  | .updateStart session req => session < 256 && req < 65536
  | .updateStop session req => session < 256 && req < 65536
  | .generationAdvance session req => session < 256 && req < 65536
  | .updateConfirm session req => session < 256 && req < 65536
  | .rollBack session req => session < 256 && req < 65536
  | .updateStep => true
  | .updateStepComplete step _ _ => 1 ≤ step && step ≤ 11
  | .coreHandOver => true
  | .confirmationPeriodExpiry => true
  | .seatDetect => true
  | .seatDetectOpening => true
  | .breakNotice _ => true
  | .ptpMessageInterval => true
  | .ethernetLinkUp port _ => port < 2
  | .auxInputOutOfRange _ _ => true
  | .moveComplete a _ => 1 ≤ a && a ≤ 4
  | .clientHello _ port _ => port < 2
  | .tlsHandshakeTimeout _ => true
  | .busOffRecoveryComplete n => n < 2
  | .handOver _ _ kind _ _ => kind < 3
  | .envelopePartnerTimeout => true

end Sys2Proof
end

