-- ==== Sys2Proof/Tests/Slice0.lean ====
section
/-! SUPPORT. Witnesses of the statements' hypotheses, each with what the command then does at that state; smoke tests of the checks; small worked examples
of the spec. -/

namespace Sys2Proof.Tests

set_option Elab.async false

open Sys2Proof Sys2Proof.Machine

/-! ### Helpers -/

/-- Command `i` completes on `s` with a next state that passes the test `q`. -/
def goes (i : Instr) (s : State) (q : State → Bool) : Bool :=
  match exec i s with
  | .next t => q t
  | .fault _ => false
  | .refused _ => false

/-- Command `i` leaves `s` as it is. -/
def stays (i : Instr) (s : State) : Bool := goes i s fun t => t == s

/-- A powered single module in a state, at cycle 100,000. -/
def up (o : OpState) : State :=
  { State.reset with core := { State.reset.core with opState := o, cycle := 100000 },
                     pair := { State.reset.pair with role := .single },
                     power := { State.reset.power with domains := BitVec.allOnes _, good := true, opTime := 200000000 } }

/-- One open TLS session with every role, on context 1, of an adopted module. -/
def withSession (s : State) : State :=
  { s with dict := { s.dict with sessions := [(1, { state := .isOpen, roles := 0x7F, identity := 7 })] }, sec := { s.sec with adopted := true } }

/-- A powered module with an open session. -/
def on (o : OpState) : State := withSession (up o)

/-- A ring in a state, originated from this unit. -/
def ringUp (r : RingState) (s : State) : State := { s with ring := { s.ring with state := r, originating := true } }

/-- The head at place 1, enumerated at position 1. -/
def oneHead (s : State) : State := { s with heads := [(1, { state := .enumerated, p := some 1, n := 4, serial := 11, rBleed := 5000 })] }

/-- The state with object `index`.`sub` at a number. -/
def setCfg (index sub : Nat) (v : Int) (s : State) : State := { s with dict := { s.dict with vals := Tab.put s.dict.vals (okey index sub) (.num v) } }

/-- A contactor held closed, its auxiliary contacts confirming it. -/
def held : Contactor := { coil := .hold, commanded := true, no := true, nc := false }

/-- Both contactors held closed. -/
def coilsOn (s : State) : State := { s with fe := { s.fe with kp := held, kn := held } }

/-- A unit of a pair in a role. -/
def paired (r : Role) (s : State) : State :=
  { s with links := { s.links with strap := 1 }, pair := { s.pair with role := r, tether := 2, keys := some 5, rxSeq := 7 } }

/-! ### The whole block, the base cycle -/

theorem test_step_front : let s := on .isolated
    (match step { s with pending := [.insulationResultStale] } with | .next t => t == s | _ => false) = true ∧
    (match step s with | .next t => t == s | _ => false) = true := by decide +kernel
theorem test_sync : let s := ringUp .closed (up .isolated)
    s.cycling = true ∧ s.ring.originating = true ∧ s.core.deferred = [] ∧ s.core.service = none ∧ s.core.opState ≠ .sleep ∧
    (∀ p < 2, (s.injector p).heldFrames = []) ∧ goes (.sync none) s (fun t => t.core.cycle == 100001 && !t.core.crossed) = true := by decide +kernel
theorem test_sync_wraps : let s := ringUp .closed (up .isolated)
    goes (.sync none) { s with core := { s.core with cycle := 0xFFFFFFFF } } (fun t => t.core.cycle == 0) = true := by decide +kernel
theorem test_sync_heard : let s := up .isolated
    s.cycling = true ∧ s.ring.originating = false ∧ s.core.deferred = [] ∧ s.core.service = none ∧
    goes (.sync (some { cycle := 7, checkOk := true })) s (fun t => t.core.cycle == 7 && t.pair.lastSync == some 7) = true ∧
    goes (.sync (some { cycle := 7, checkOk := false })) s (fun t => t.core.cycle == 100001 && t.pair.lastSync == none) = true := by decide +kernel
theorem test_crossing : let s := up .isolated
    s.cycling = true ∧ s.core.crossed = false ∧
    goes (.cycleDataCrossing [(0x030, 2)]) s (fun t => t.core.crossed && t.raised 0x030 0xB6 5 2) = true ∧
    stays (.cycleDataCrossing [(0x030, 2)]) { s with core := { s.core with crossed := true } } = true := by decide +kernel
theorem test_boundary : (up .isolated).cycling = true ∧ goes .cycleBoundary (up .isolated) (fun t => t.core.opState == .isolated) = true := by decide +kernel

/-! ### Operating states and contactors -/

theorem test_requests : let s := fun o => on o
    (s .isolated).sessOpen 1 = true ∧ ((s .isolated).inPair && (s .isolated).countsStandby) = false ∧ (s .isolated).core.taken = none ∧
    (s .isolated).requestRole .close 1 = 0 ∧ (s .isolated).handingOver = false ∧ (s .isolated).raised 0x020 0x23 0 0 = false ∧
    goes (.closeRequest 1 9) (s .isolated) (fun t => t.core.opState == .precheck) = true ∧ (s .derated).requestRole .openRequest 1 = 0 ∧
    goes (.openRequest 1 9) (s .derated) (fun t => t.core.opState == .derated && t.core.opening) = true ∧ (s .isolated).requestRole .service 1 = 0 ∧
    goes (.serviceRequest 1 9) (s .isolated) (fun t => t.core.opState == .service && t.core.service == some 1) = true := by decide +kernel
theorem test_requests_back : let s := fun o => on o
    (s .service).requestRole .exit 1 = 0 ∧ (s .service).axesStopped = true ∧ goes (.exitRequest 1 9) (s .service) (fun t => t.core.opState == .isolated) = true ∧
    (s .tripped).requestRole .reset 1 = 0 ∧ (s .tripped).tripFault = false ∧ goes (.resetRequest 1 9) (s .tripped) (fun t => t.core.opState == .isolated) = true ∧
    (s .lockout).requestRole .clear 1 = 0 ∧ (s .lockout).lockoutCause = false ∧
    goes (.clearRequest 1 9) (s .lockout) (fun t => t.core.opState == .isolated && !t.core.lockoutLatched) = true := by decide +kernel
theorem test_requests_refused : let s := on .online
    s.sessOpen 1 = true ∧ s.core.taken = none ∧ smTarget s s.core.opState { kind := .close, session := 1, req := 9 } = none ∧
    goes (.closeRequest 1 9) s (fun t => t.core == s.core && t.fe == s.fe) = true ∧
    goes (.closeRequest 1 9) { on .isolated with sec := { (on .isolated).sec with adopted := false } } (fun t => t.core.opState == .isolated) = true := by
  decide +kernel
theorem test_precheck_timeout : let s := up .precheck
    let s := { s with core := { s.core with stateEntered := 90000 } }
    s.core.taken = none ∧ s.passed s.core.stateEntered 10000 = true ∧ s.closeCheck ≠ 0 ∧
    goes .precheckTimeout s (fun t => t.core.opState == .isolated) = true := by decide +kernel
theorem test_close_timeout : let s := coilsOn (up .closing)
    let s := { s with fe := { s.fe with closingSince := some 99850, kp := { s.fe.kp with no := false } } }
    s.ran s.fe.closingSince 150 = true ∧ s.bothClosed = false ∧
    goes .closeTimeout s (fun t => t.core.opState == .tripping && t.fe.kp.coil == .off && t.fe.kn.coil == .off) = true := by decide +kernel
theorem test_open_timeout : let s := coilsOn (up .online)
    let s := { s with core := { s.core with opening := true, openSince := 98000 } }
    s.online = true ∧ s.passed s.core.openSince 2000 = true ∧ goes .openRequestTimeout s (fun t => t.core.opState == .tripping && !t.core.opening) = true := by
  decide +kernel
theorem test_positive_closes : let s := coilsOn (up .closing)
    let s := { s with fe := { s.fe with closingSince := some 99850, kp := { s.fe.kp with no := false } } }
    s.confirmedClosed 1 = true ∧ s.fe.kp.commanded = true ∧ s.since 99850 ≤ 150 ∧ s.degraded = false ∧
    goes (.auxContactChange 0 true false) s (fun t => t.core.opState == .online && t.fe.kp.no) = true := by decide +kernel
theorem test_pull_in_end : let s := up .closing
    let s := { s with fe := { s.fe with kn := { s.fe.kn with coil := .pullIn, since := 100000 - BitVec.ofNat 32 (s.cfg 0x2013 1) } } }
    (s.contactor 1).coil = .pullIn ∧ s.passed (s.contactor 1).since (s.cfg 0x2013 1) = true ∧
    goes (.pullInEnd 1) s (fun t => (t.contactor 1).coil == .hold) = true := by decide +kernel
theorem test_aux_fault : let s := setCfg 0x2013 4 3 (up .isolated)
    let s := { s with fe := { s.fe with kp := { s.fe.kp with sameSince := some 99949 } } }
    s.ncWired 0 = true ∧ s.ran (s.contactor 0).sameSince 51 = true ∧ goes (.auxiliaryContactFault 0) s (fun t => t.raised 0x02A 0x46 5 0) = true := by
  decide +kernel
theorem test_coil_drive : goes (.coilDriveFault 0 false) (coilsOn (up .online)) (fun t => t.raised 0x02A 0x44 5 0) = true ∧
    goes (.coilDriveFault 0 true) (coilsOn (up .online)) (fun t => !t.raised 0x02A 0x44 5 0) = true := by decide +kernel
/-- A weld check in a stage, begun 100 cycles ago, K+ with its auxiliary contact still made. -/
def weld (g : WeldStage) (sums : Int × Int × Nat) : State :=
  let s := up .isolated
  { s with fe := { s.fe with weldStage := g, weldSince := 99900, weldSums := sums, vStr := 700000, kp := { s.fe.kp with no := true } } }
theorem test_weld_aux : let s := weld .aux (0, 0, 0)
    s.passed s.fe.weldSince 100 = true ∧ s.confirmedOpen 0 = false ∧
    goes .weldCheckAuxTimeout s (fun t => (t.contactor 0).welded && t.raised 0x02A 0x47 5 0 && t.fe.weldStage == .volt) = true := by decide +kernel
theorem test_weld_unknown : let s := setCfg 0x2012 3 0 (weld .volt (0, 0, 10))
    s.insulationKnown = false ∧ goes .weldCheckVoltageStage s (fun t => t.fe.weldStage == .idle && t.fe.weldResult == 2 && t.raised 0x02A 0x48 0 0) = true := by
  decide +kernel
theorem test_weld_wait : let s := weld .volt (0, 0, 9)
    let s := { s with fe := { s.fe with weldSince := 100000 - BitVec.ofNat 32 (s.cfg 0x2013 10 * 1000) } }
    s.passed s.fe.weldSince (s.cfg 0x2013 10 * 1000) = true ∧ goes .weldWaitExpiry s (fun t => t.fe.weldStage == .idle && t.fe.weldResult == 2) = true := by
  decide +kernel
/-- The same with a known insulation resistance. -/
def weldKnown (sums : Int × Int × Nat) : State :=
  let s := weld .volt sums
  { s with fe := { s.fe with rIso := 1000, kp := {}, kn := {} } }
theorem test_weld_clean : let s := setCfg 0x2012 3 1 (weldKnown (140000, 140000, 10))
    s.insulationKnown = true ∧ s.bothOpen = true ∧ 2 * s.fe.vStr.natAbs ≤ 10 * s.fe.weldSums.1.natAbs ∧
    goes .weldCheckVoltageStage s (fun t => t.fe.weldStage == .idle && !t.fe.weldRepeat && t.fe.weldResult == 0) = true := by decide +kernel
theorem test_weld_found : let s := setCfg 0x2012 3 1 (weldKnown (139999, 140000, 10))
    10 * s.fe.weldSums.1.natAbs < 2 * s.fe.vStr.natAbs ∧
    goes .weldCheckVoltageStage s (fun t => (t.contactor 0).welded && t.raised 0x02A 0x47 5 0) = true := by decide +kernel

/-! ### The ring -/

/-- A closed ring of four heads, each known and on RING-W. -/
def ring4 (r : RingState) (o : OpState) : State :=
  let s := ringUp r (up o)
  { s with ring := { s.ring with headCount := 4, heads := [1, 2, 3, 4].map fun p => (p, { serial := 10 + p, hop := p }) },
           heads := [1, 2, 3, 4].map fun p => (p, { state := .enumerated, p := some p, n := 4, serial := 10 + p }) }

/-- What IDENTIFY tells of a head. -/
def identOf (serial : Nat) : HeadIdent := { serial := serial, cellCh := 4, tempCh := 0, lf := 0, lr := 0, lt := 0, rBleed := 0, groupDelay := 0, roundTrip := 0 }
/-- A block of head `p`, its check correct. -/
def blockOf (p : Nat) : HeadBlock := { p := p, cells := [], stack := none, tempA := none, tempB := none }

theorem test_break_los : let s := ring4 .closed .isolated
    s.ring.state = .closed ∧ s.ring.originating = true ∧
    goes (.losDeclared s.receivePort 1 2 false) s (fun t => t.ring.state == .wrapped && t.ring.breakFrom == some 100001 && t.raised 0x020 0x2A 0 0) = true ∧
    goes (.breakNotice true) s (fun t => t.ring.state == .wrapped && t.ring.breakFrom == some 100002) = true := by decide +kernel
theorem test_break_sync : let s := ring4 .closed .isolated
    let s := { s with ring := { s.ring with syncMissAt := 99999, syncMissRun := 1 } }
    goes (.syncNotReturned s.receivePort false) s (fun t => t.ring.state == .wrapped && t.counter s.receivePort 9 == 1) = true ∧
    goes (.syncNotReturned s.receivePort false) { s with ring := { s.ring with syncMissAt := 99998 } }
      (fun t => t.ring.state == .closed && t.ring.syncMissRun == 1) = true := by decide +kernel
theorem test_los_elsewhere : let s := ring4 .closed .isolated
    (0 : Nat) ≠ s.receivePort ∧
    goes (.losDeclared 0 0 0 false) s (fun t => t.ring.state == .closed && t.counter 0 3 == 1 && t.counter 0 1 == 0) = true ∧
    goes (.losCleared 0) s (fun t => !t.raised 0x020 0x27 5 0) = true ∧ stays (.breakNotice false) (ring4 .wrapped .isolated) = true := by decide +kernel
theorem test_unreachable : let s := ring4 .wrapped .isolated
    let s := { s with ring := { s.ring with bothPorts := true, heads := Tab.put s.ring.heads 4 { missRun := 3 } } }
    3 ≤ (s.info 4).missRun ∧ (s.info 4).unreachable = false ∧
    goes (.headUnreachable 4) s (fun t => (t.info 4).unreachable && (t.info 4).from_ == 255 && t.cause 13 && t.fb.tripPcs) = true := by decide +kernel
theorem test_far_side : let s := setCfg 0x2100 4 100 (ring4 .wrapped .isolated)
    let s := { s with heads := Tab.put s.heads 2 { state := .enumerated, wrapped := true, failedAt := 99900 } }
    s.passed (s.head 2).failedAt (s.cfg 0x2100 4) = true ∧ goes (.farSideRestored ⟨2, some 40⟩) s (fun t => (t.head 2).farSide && t.head 3 == s.head 3) = true := by
  decide +kernel
theorem test_readmission : let s := ring4 .wrapped .isolated
    let s := { s with heads := Tab.put s.heads 2 { state := .initial } }
    2 ∈ s.allHeads ∧ 3 ∈ s.allHeads ∧ s.portOf 3 = s.portOf 2 ∧ (s.head 3).state = .enumerated ∧
    goes (.headReadmission 2 (identOf 77)) s (fun t => (t.head 2).state == .enumerated && (t.head 2).serial == 77 && (t.head 2).p == some 2) = true := by
  decide +kernel
theorem test_readmission_all : let s := ring4 .wrapped .isolated
    let s := { s with heads := [1, 2, 3, 4].map fun p => (p, { state := .initial }) }
    (∀ q ∈ s.allHeads, s.portOf q = s.portOf 2 → (s.head q).state = .initial ∨ (s.head q).state = .lowPower) ∧
    goes (.headReadmission 2 (identOf 77)) s (fun t => t.ring.state == .enum && t.ring.enum.running) = true := by decide +kernel
theorem test_enumeration : let s := ring4 .enum .isolated
    s.ring.state = .enum ∧
    goes (.enumeration [identOf 5, identOf 6] [identOf 7] false 3 40) s
      (fun t => t.ring.headCount == 3 && t.ring.enum.found == (2, 1, false) && t.ring.endPath == 40) = true ∧
    goes .enumerationComplete { s with ring := { s.ring with enum := { s.ring.enum with running := true, found := (2, 1, false) } } }
      (fun t => t.ring.state == .wrapped && t.ring.bothPorts) = true ∧
    goes .enumerationComplete { s with ring := { s.ring with enum := { s.ring.enum with running := true, found := (2, 0, true) } } }
      (fun t => t.ring.state == .closed && !t.ring.bothPorts) = true := by decide +kernel
theorem test_block : let s := ring4 .closed .isolated
    let b := blockOf 4
    (s.injector 0).state ≠ 2 ∧ (s.injector 0).heldFrames = [] ∧ (s.injector 0).drill = false ∧ b.checkOk = true ∧ s.expects s.receivePort 4 = true ∧
    4 ∉ s.ring.seenP ∧ goes (.headBlockReceive s.receivePort b) s (fun t => t.ring.validP == [4] && (t.info 4).missRun == 0) = true ∧
    goes (.headBlockReceive s.receivePort { b with checkOk := false }) s
      (fun t => t.ring.validP == [] && t.counter s.receivePort 5 == 1 && (t.info 4).failRun == 1) = true := by decide +kernel
theorem test_block_moves : let s := ring4 .wrapped .isolated
    let s := { s with ring := { s.ring with bothPorts := true } }
    s.expects 1 4 = false ∧ s.ring.bothPorts = true ∧ 4 ∈ s.allHeads ∧
    goes (.headBlockReceive 1 (blockOf 4)) s (fun t => t.ring.validP == [] && Tab.at t.cruiser.assign 4 0 == 1 && t.cruiser.portsPending) = true := by
  decide +kernel
theorem test_answer : let s := ring4 .closed .isolated
    let c : RingCmd := { port := 1, seq := 9, mode := .position, opcode := opEcho, head := 4, addr := 4 }
    let s := { s with ring := { s.ring with inFlight := [c] } }
    s.ring.inFlight.find? (fun d => d.port = 1 && d.seq = c.seq) = some c ∧
    goes (.commandFrameReturn 1 9 4 (some { status := 0, data := [1] }) none) s (fun t => t.ring.inFlight == [] && t.ring.q6.length == 1) = true := by
  decide +kernel

/-! ### Sense heads -/

def frame1 : Frame := { mode := .position, addr := 1, seq := 5, checkOk := true }
/-- A frame a head takes and has not executed. -/
def hearsNew (s : State) (f : Frame) : Bool := (s.head 1).takes f && (s.head 1).lastSeq == none && !f.unlisted && f.extra == 0
/-- The head at place 1 changed. -/
def head1 (f : Head → Head) : State := let s := oneHead (up .isolated); { s with heads := Tab.put s.heads 1 (f (s.head 1)) }
/-- The status of the response a head has stored. -/
def said (t : State) : Option Nat := (t.head 1).lastSeq.map fun x => x.2.status

theorem test_head_setup : let s := oneHead (up .isolated)
    hearsNew s frame1 = true ∧ goes (.identify 1 frame1) s (fun t => said t == some 0) = true ∧
    goes (.setPosition 1 frame1 [64]) s (fun t => (t.head 1).p == some 64) = true ∧
    goes (.setDelay 1 frame1 [1, 0, 0xFF, 0xFF]) s (fun t => (t.head 1).dW == some 1 && (t.head 1).dE == none && (t.head 1).delaySet) = true ∧
    goes (.configure 1 frame1 [16, 0, 3, 0]) s (fun t => (t.head 1).pendingCfg == some (16, 3)) = true ∧
    goes (.readStatus 1 frame1) s (fun t => said t == some 0) = true ∧ goes (.restart 1 frame1 [0x5A, 0xA5]) s (fun t => (t.head 1).state == .initial) = true ∧
    goes (.echo 1 frame1 [7]) s (fun t => (t.head 1).lastSeq == some (5, { status := 0, data := [7] })) = true := by decide +kernel
theorem test_head_open : let s := head1 fun h => { h with state := .initial }
    let f := { frame1 with mode := .hop, addr := 1 }
    hearsNew s f = true ∧ goes (.openHead 1 f) s (fun t => !(t.head 1).wrapped && said t == some 0) = true := by decide +kernel
theorem test_head_unwrap : let s := head1 fun h => { h with wrapped := true, lastSync := some 40 }
    hearsNew s frame1 = true ∧ goes (.unwrap 1 frame1) s (fun t => (t.head 1).unwrapAt == some 42) = true := by decide +kernel
theorem test_head_bleeds : let s := oneHead (up .isolated)
    (s.head 1).refuses 5 false = false ∧ goes (.bleedSlot 1 frame1 [10, 0, 5, 0, 100, 0]) s (fun t => (t.head 1).slots.length == 1) = true ∧
    goes (.bleedOff 1 frame1) s (fun t => (t.head 1).switches == 0 && said t == some 0) = true ∧
    goes (.bleedSlot 1 frame1 [10, 0, 5, 0, 101, 0]) s (fun t => (t.head 1).slots.length == 0) = true := by decide +kernel
theorem test_head_tests : let s := oneHead (up .isolated)
    (s.head 1).testing = false ∧ goes (.owTest 1 frame1 [4, 8]) s (fun t => (t.head 1).owTest.isSome) = true ∧
    goes (.owTest 1 frame1 [5, 8]) s (fun t => (t.head 1).owTest.isNone) = true ∧
    goes (.switchTest 1 frame1 [4, 20]) s (fun t => (t.head 1).swTest.isSome) = true ∧ s.maySend opTestRef = true ∧ (s.head 1).p = some 1 ∧
    goes (.testRef 1 frame1 [16]) s (fun t => (t.head 1).refCycles == 16 && Tab.at t.tap.refUntil 1 0 == 100016) = true := by decide +kernel
theorem test_head_repeats : let s := head1 fun h => { h with lastSeq := some (5, { status := 0, data := [9] }) }
    (s.head 1).takes frame1 = true ∧
    goes (.restart 1 frame1 [0x5A, 0xA5]) s (fun t => (t.head 1).state == .enumerated && (t.head 1).returned == answerArea { status := 0, data := [9] }) = true := by
  decide +kernel
theorem test_head_passes_on : let s := oneHead (up .isolated)
    let f := { frame1 with addr := 2 }
    (s.head 1).takes f = false ∧ goes (.restart 1 f [0x5A, 0xA5]) s (fun t => (t.head 1).state == .enumerated && (t.head 1).passedOn.isSome) = true ∧
    stays (.restart 1 f [0x5A, 0xA5]) (head1 fun h => { h with state := .lowPower }) = true := by decide +kernel
theorem test_head_samples : let s := head1 fun h => { h with syncPort := some 0 }
    goes (.headSample 1 [some 37000] (some 148000) [some 2500] 9499) s (fun t => (t.head 1).sampled && !(t.head 1).dieHot) = true ∧
    goes (.containerPass 1 (blockLen 4)) (head1 fun h => { h with sampled := true, container := blockLen 4 })
      (fun t => (t.head 1).lastBlock != (s.head 1).lastBlock) = true ∧
    goes (.containerPass 1 (blockLen 4 - 1)) (head1 fun h => { h with sampled := true, container := blockLen 4 }) (fun t => (t.head 1).noFit == 1) = true := by
  decide +kernel
theorem test_head_window : let b : BleedSlot := { start := 40, mask := 3, len := 1, continuous := true, from_ := some 40 }
    let h := fun (s : State) => s.head 1
    goes (.quietWindowOpen 1) (oneHead (up .isolated)) (fun t => (h t).quiet && (h t).switches == 0) = true ∧
    goes (.quietWindowClose 1) (head1 fun h => { h with quiet := true }) (fun t => !(h t).quiet) = true ∧
    (h (head1 fun h => { h with slots := [b], lastSync := some 40 })).slotNow = some b ∧
    (h (head1 fun h => { h with slots := [b], lastSync := some 40 })).swHolds = false := by decide +kernel
theorem test_head_slot_starts : let b : BleedSlot := { start := 40, mask := 3, len := 1, continuous := true, from_ := some 40 }
    let s := head1 fun h => { h with slots := [b], lastSync := some 40, syncPort := some 0 }
    (s.head 1).slotNow = some b ∧ (s.head 1).bleedFree = true ∧ goes (.bleedSlotStart 1) s (fun t => (t.head 1).switches == 3) = true := by decide +kernel
theorem test_head_loses_sync : let h := fun (s : State) => (s.head 1).state
    goes (.headWrap ⟨1, 0⟩) (oneHead (up .isolated)) (fun t => (t.head 1).wrapped && (t.head 1).failedSide == some 0) = true ∧
    goes (.headCycleMissing 1) (head1 fun h => { h with missing := 4, switches := 3 }) (fun t => (t.head 1).missing == 5 && (t.head 1).switches == 0) = true ∧
    goes (.headSyncLost 1) (head1 fun h => { h with missing := 5 }) (fun t => h t == .syncLost) = true ∧
    goes (.headSyncLost 1) (head1 fun h => { h with missing := 4 }) (fun t => h t == .enumerated) = true ∧
    goes (.headInitialState 1) (head1 fun h => { h with missing := 99 }) (fun t => h t == .initial && (t.head 1).p == none) = true ∧
    goes (.headLowPower 1) (head1 fun h => { h with state := .initial, missing := 9999 }) (fun t => h t == .lowPower) = true ∧
    goes (.headWake 1) (head1 fun h => { h with state := .lowPower }) (fun t => h t == .initial) = true := by decide +kernel
theorem test_head_sync : let hdr : SyncHeader := { cycle := 41, checkOk := true, ts := 10, entry := 0 }
    goes (.headSyncReceive 1 0 hdr) (head1 fun h => { h with state := .syncLost, dW := some 300, pendingCfg := some (8, 1) })
      (fun t => (t.head 1).state == .enumerated && (t.head 1).sampleAt == 700 && (t.head 1).n == 8 && (t.head 1).syncPort == some 0) = true ∧
    goes (.headSyncReceive 1 0 { hdr with checkOk := false }) (oneHead (up .isolated)) (fun t => (t.head 1).inboundErr && (t.head 1).syncPort == none) = true ∧
    goes (.headSyncReceive 1 1 hdr) (head1 fun h => { h with syncPort := some 0, lastSync := some 41 })
      (fun t => (t.head 1).inboundErr && t.raised 0x020 0x25 0 0) = true := by decide +kernel

/-! ### Tap monitor and front-end -/

/-- Two cells on channels 1 and 2 of head 1, known to an originating ring. -/
def cells2 (o : OpState) : State :=
  let s := setCfg 0x3001 2 2 (setCfg 0x3001 1 1 (setCfg 0x3000 2 1 (setCfg 0x3000 1 1 (ringUp .closed (on o)))))
  { s with ring := { s.ring with headCount := 1, heads := [(1, { serial := 11, hop := 1 })] }, heads := (oneHead s).heads,
           cells := [(1, { lane := some 0 }), (2, { lane := some 1 })] }

theorem test_sums : let s := cells2 .isolated
    let s := { s with tap := { s.tap with sumBad := [(1, 10)], strBad := 10 } }
    s.channels 1 = 2 ∧ (s.diag 1).getLsbD 0 = false ∧ s.tapState 1 0 ≠ 4 ∧ s.tapState 1 (s.channels 1) ≠ 4 ∧
    goes (.headSumMismatch 1) s (fun t => (t.diag 1).getLsbD 0 && t.raised 0x018 0x34 2 (1 * 256 + 255)) = true ∧
    goes .stringSumMismatch s (fun t => t.raised 0x018 0x35 0 0) = true := by decide +kernel
theorem test_schedule : let s := cells2 .isolated
    let s := { s with tap := { s.tap with nextTap := [(1, 3)] } }
    s.ring.originating = true ∧ s.owTesting 1 = none ∧ Tab.at s.tap.testQueue 1 [] = [] ∧ 1 ≤ s.channels 1 ∧ s.owDue 1 = true ∧
    goes (.openWireTestSchedule 1) s (fun t => (t.owTesting 1).map (fun e => e.tap) == some 0 && Tab.nat t.tap.nextTap 1 == 1) = true := by decide +kernel
/-- A test of tap 1 of head 1 under evaluation, its two neighbouring cells read apart by `x`. -/
def owRun (tap1 : Nat) (x : Int) : State :=
  let s := cells2 .isolated
  let e : OwEval := { tap := 1, k := 3, cr := some 99990, base := some { cells := [some 37000, some 37000], stack := some 7400 },
                      last := some { cells := [some (37000 + x), some 37000], stack := some 7400 } }
  { s with tap := { s.tap with tests := [(1, e)], tapState := [(tapKey 1 1, tap1)] } }
theorem test_ow_intact : let s := owRun 2 400
    (OwEval.twiceD { tap := 1, k := 3, base := some { cells := [some 37000, some 37000], stack := some 7400 },
                     last := some { cells := [some 37400, some 37000], stack := some 7400 } } 2) = some 400 ∧ s.tapState 1 1 = 2 ∧
    goes (.openWireEvaluation 1) s (fun t => t.tapState 1 1 == 0 && Tab.at t.tap.lastTest 1 0 == 100000) = true := by decide +kernel
theorem test_ow_high : goes (.openWireEvaluation 1) (owRun 2 401) (fun t => t.tapState 1 1 == 3 && t.raised 0x018 0x32 2 (1 * 256 + 1)) = true ∧
    goes (.openWireEvaluation 1) (owRun 1 19999) (fun t => t.tapState 1 1 == 3) = true := by decide +kernel
theorem test_ow_open : goes (.openWireEvaluation 1) (owRun 2 20000) (fun t => t.tapState 1 1 == 4 && t.raised 0x018 0x33 2 (1 * 256 + 1)) = true := by
  decide +kernel
theorem test_ow_timeout : let s := owRun 2 0
    let s := { s with tap := { s.tap with tests := [], suspectedAt := [(tapKey 1 1, 99000)] } }
    s.tapState 1 1 = 2 ∧ s.ran (Tab.find s.tap.suspectedAt (tapKey 1 1)) 1000 = true ∧
    goes (.tapSuspicionTimeout 1 1) s (fun t => t.tapState 1 1 == 4 && t.raised 0x018 0x33 2 (1 * 256 + 1)) = true := by decide +kernel

/-- A powered module late in its life: cycle 1,000,000. -/
def late (s : State) : State := { s with core := { s.core with cycle := 1000000 } }
theorem test_zero_timer : let s := late (up .isolated)
    let s := { s with fe := { s.fe with zeroTimer := 400000 } }
    s.passed s.fe.zeroTimer 600000 = true ∧ goes .autoZeroTimer s (fun t => t.fe.zeroDue) = true := by decide +kernel
theorem test_zero_start : let s := late (up .isolated)
    let s := ({ s with fe := { s.fe with zeroDue := true, bothOpenSince := some 999000, hall := -20000 } } : State).setFe feHallOk true
    s.zeroAllowed = true ∧ s.feBit feHallOk = true ∧ s.fe.hall.natAbs ≤ 20000 ∧ s.fe.zeroing = none ∧
    goes .autoZeroStart s (fun t => t.fe.zeroing == some 1000000 && t.feBit feZeroing) = true := by decide +kernel
theorem test_zero_done : let s := late (up .isolated)
    let s := { s with fe := { s.fe with zeroing := some 999800 } }
    s.ran s.fe.zeroing 200 = true ∧ goes (.autoZeroComplete 12 (-7) 2500) s (fun t => t.fe.offset == 12 && t.fe.hallOffset == -7 && t.fe.zeroing == none) = true := by
  decide +kernel
theorem test_in_service : let s := coilsOn (late (up .online))
    let s := { s with fe := { s.fe with inServiceLast := 990000 } }
    s.bothClosed = true ∧ s.passed s.fe.inServiceLast 10000 = true ∧ goes .inServiceZero s (fun t => t.fe.inService == some 1000000) = true := by decide +kernel
/-- Injecting since `c`, with a settled level of 100. -/
def halfFrom (c : Cycle) (positive void : Bool) : State :=
  let s := late (up .isolated)
  { s with fe := { s.fe with injecting := true, halfStart := c, settled := 100, halfPositive := positive, halfVoid := void, iPos := some 90 } }
theorem test_half_not_over : stays (.insulationHalfPeriodEnd 500 1 0 0) (halfFrom 999001 true false) = true ∧
    stays (.insulationHalfPeriodEnd 200 1 0 0) (halfFrom 940001 true false) = true := by decide +kernel
theorem test_half_over : goes (.insulationHalfPeriodEnd 201 1 0 0) (halfFrom 999000 true true)
      (fun t => t.fe.iPos == none && !t.fe.halfPositive && t.fe.halfStart == 1000000) = true ∧
    goes (.insulationHalfPeriodEnd 200 1 0 0) (halfFrom 940000 true false) (fun t => t.fe.iPos == some 200 && !t.fe.halfPositive) = true := by decide +kernel
theorem test_half_result : let s := halfFrom 940000 false false
    goes (.insulationHalfPeriodEnd 80 1 3 40) s (fun t => t.fe.rIso == insulationResult 90 80 (s.unitsIn * (2 + s.notOpen)) && t.fe.leakCap == 3 &&
      t.fe.isoLast == some 1000000 && t.fe.injecting == s.injects) = true := by decide +kernel
theorem test_iso_stale : let s := setCfg 0x2012 3 1 (late (up .isolated))
    let s := { s with fe := { s.fe with isoLast := some 880000 } }
    s.ran s.fe.isoLast 120000 = true ∧ goes .insulationResultStale s (fun t => t.feBit feIsoStale && t.raised 0x029 0x43 0 0) = true := by decide +kernel
/-- A strobe of the front-end. -/
def strobe (main : Int) : StrobeSample :=
  { vStr := 700000, vLink := 1, vStrP := 350000, vStrN := 350000, vLinkP := 0, vLinkN := 1, main := main, hall := 5, discrete := 0 }
theorem test_strobe : let s := up .isolated
    s.pd 8 = true ∧ s.fe.zeroing = none ∧ s.inServiceNow = false ∧
    goes (.frontEndSample (strobe 2050001) []) s (fun t => t.fe.main == 2050000 && t.fe.vStr == 700000 && t.fe.hall == 5) = true ∧
    goes (.frontEndSample (strobe (-2050000)) []) s (fun t => t.fe.main == -2050000) = true := by decide +kernel
theorem test_fast : goes (.fastSample 77 (-3)) (up .isolated) (fun t => t.fe.fastMain == 77 && t.fe.fastHall == -3) = true := by decide +kernel

/-! ### Tables, estimation, impedance, balancing -/

theorem test_staging_idle : let s := setCfg 0x1F00 7 60 (on .isolated)
    let s := { s with dict := { s.dict with owner := some 1, ownerAt := 40000, staged := [(3, .num 1)] } }
    s.passed s.dict.ownerAt (s.cfg 0x1F00 7 * 1000) = true ∧ goes .stagingIdleTimeout s (fun t => t.dict.staged == [] && t.dict.owner == none) = true := by
  decide +kernel
theorem test_point_stale : let s := up .isolated
    let s := { setCfg 0x3403 1 1 s with points := [(3, { quality := .good, updated := 99976 })] }
    s.passed (s.point 3).updated (3 * sourcePeriod (s.pointCfg 3 1)) = true ∧ goes (.pointStale 3) s (fun t => (t.point 3).quality == .stale) = true := by
  decide +kernel
theorem test_minute : let s := late (cells2 .isolated)
    let s := { s with cruiser := { s.cruiser with minuteSram := [{ cycle := 940000, header := [], data := [] }] } }
    (∀ r ∈ s.cruiser.minuteSram.head?, s.passed r.cycle 60000 = true) ∧
    goes .minuteAggregate s (fun t => t.cruiser.minuteSram.length == 2 && (t.cell 1).minute == {}) = true := by decide +kernel
theorem test_hour : let s := { late (cells2 .isolated) with core := { (cells2 .isolated).core with cycle := 3700000 } }
    let s := { s with cruiser := { s.cruiser with hourAt := some 100000 } }
    (∀ c, s.cruiser.hourAt = some c → s.passed c 3600000 = true) ∧ goes .hourAggregate s (fun t => t.cruiser.hourAt == some 3700000) = true := by
  refine ⟨fun c h => ?_, by decide +kernel⟩
  cases h
  decide +kernel
theorem test_checkpoint : let s := cells2 .isolated
    s.storageOk = true ∧ goes (.storageCheckpoint true) s (fun t => t.raised 0x078 0xE8 0 0) = true := by decide +kernel
theorem test_repair : let s := cells2 .isolated
    let s := { s with storage := { s.storage with landing := [{ s.makeImage with cells := [(1, { lane := some 5 })] }] } }
    goes (.tableEntryRepaired true false 1) s (fun t => t.cells == s.cells) = true ∧
    goes (.tableEntryRepaired true true 1) s (fun t => (t.cell 1).lane == some 5 && t.cell 2 == s.cell 2) = true ∧
    goes (.tableEntryRepaired false true 3) s (fun t => t.point 3 == Tab.at s.points 3 {}) = true := by decide +kernel
theorem test_rebuild : let s := cells2 .boot
    s.starting = true ∧ s.pd 1 = true ∧ s.power.boot.getLsbD 2 = false ∧
    goes (.stateRebuild []) s (fun t => t.power.boot.getLsbD 2 && (t.cell 2).lane == some 1) = true := by decide +kernel
theorem test_end_events : let s := setCfg 0x4000 2 5 (up .online)
    let c := { s with scaler := { s.scaler with chgArmed := true, chgRun := 5000, disArmed := true, disRun := 5000 } }
    s.cfg 0x4000 2 * 1000 ≤ c.scaler.chgRun ∧ goes .endOfCharge c (fun t => !t.scaler.chgArmed && t.scaler.lastEndCycle == 100000) = true ∧
    goes .endOfDischarge c (fun t => !t.scaler.disArmed && t.scaler.usable == 0 && t.scaler.lastEnd == 2) = true := by decide +kernel
theorem test_rearm : let s := cells2 .online
    let c := { s with scaler := { s.scaler with chgArmed := false, chgClear := 60000, disArmed := false, disClear := 60000 } }
    goes (.endEventRearm true) c (fun t => t.scaler.chgArmed) = true ∧ goes (.endEventRearm false) c (fun t => t.scaler.disArmed) = true := by decide +kernel
theorem test_holds : let s := late (cells2 .online)
    let s := { s with cells := [(1, ({ lane := some 0, heldSince := some 990000, heldLow := some 400000 } : CellState).setFlag cfDivergence true)] }
    (s.cell 1).lane.getD 0 < 8 ∧ s.ran (s.cell 1).heldSince 10000 = true ∧ goes (.cellTemperatureUnknown 1) s (fun t => t.raised 0x030 0x54 1 1) = true ∧
    (s.cell 1).flag cfDivergence = true ∧ s.ran (s.cell 1).heldLow 600000 = true ∧
    goes (.countingDivergenceClear 1) s (fun t => !(t.cell 1).flag cfDivergence) = true := by decide +kernel

theorem test_window_due : let s := setCfg 0x4800 5 10 (setCfg 0x4800 4 600 (setCfg 0x4800 2 1 (setCfg 0x4800 1 1 (up .online))))
    let s := { s with sawyer := { s.sawyer with lChg := 1000000, lDis := 1000000 } }
    s.pertIdle = true ∧ s.pertDue = true ∧ s.mayPerturb = true ∧
    goes .perturbationWindowRequest s (fun t => t.borer.state == .requested && t.borer.desc.command == 1 && t.borer.desc.start == 101000) = true := by
  decide +kernel
/-- A window that ends in this cycle. -/
def windowAt (st : BorerState) (mask : BitVec 8) (spoil : Option Nat) : State :=
  let s := up .isolated
  { s with borer := { s.borer with state := st, spoil := spoil, desc := { command := 1, mask := mask, amp := 5, start := 99001, length := 1, seq := 4 } } }
theorem test_window_stops : (windowAt .running 1 none).mayPerturb = false ∧
    goes .perturbationStop (windowAt .requested 1 none) (fun t => t.borer.state == .idle && t.borer.desc.command == 2 && t.borer.discarded == 0) = true ∧
    goes .perturbationStop (windowAt .running 1 none) (fun t => t.borer.state == .idle && t.borer.discarded == 1 && t.borer.cause == 3) = true := by decide +kernel
theorem test_window_ends : notBefore (windowAt .running 0 none).core.cycle (windowAt .running 0 none).windowEnd = true ∧
    goes .windowEnd (windowAt .running 0 (some 5)) (fun t => t.borer.discarded == 1 && t.borer.cause == 5) = true ∧
    goes .windowEnd (windowAt .running 0 none) (fun t => t.borer.completed == 1 && t.borer.state == .idle) = true := by decide +kernel
theorem test_window_weak : let s := windowAt .running 1 none
    (∃ k ∈ tonesOf s.borer.desc.mask, 2 * toneCurrent (Tab.at s.borer.cells 0 {}) k < s.borer.desc.amp * 10) ∧
    goes .windowEnd s (fun t => t.borer.discarded == 1 && t.borer.cause == 1 && t.borer.ampRun == 1) = true := by decide +kernel
theorem test_borer_upkeep : let s := { up .isolated with core := { (up .isolated).core with cycle := 86400000 } }
    s.passed s.borer.ageBase 86400000 = true ∧ goes .impedanceAgeAdvance s (fun t => t.borer.ageBase == 86400000) = true ∧
    stays .resultApplication s = true ∧ goes .restSnapshot s (fun t => t.borer.lastSnap == some 86400000) = true := by decide +kernel
theorem test_rest_snapshot : let s := cells2 .isolated
    let s := { s with cells := [(1, { restN := 1000, restSum := 37000000, restStart := some 5 }), (2, { restN := 999, restStart := some 5 })] }
    goes .restSnapshot s (fun t => (t.cell 1).restN == 0 && (t.cell 1).snapshots.length == 1 && t.cell 2 == s.cell 2) = true := by decide +kernel
theorem test_targets : let s := { cells2 .isolated with core := { (cells2 .isolated).core with cycle := 9999 }, scaler := { (cells2 .isolated).scaler with evals := [(1, 0, 0, 0)] } }
    s.C % 10000 = 9999 ∧ (s.scaler.evals.map Prod.fst).Nodup ∧ s.eligible 2 = false ∧
    goes .targetRecompute s (fun t => t.cell 2 == s.cell 2) = true := by decide +kernel
theorem test_slots_withdrawn : let s := { cells2 .online with thin := { (cells2 .online).thin with heads := [(1, { map := 3 })], power := 9 } }
    let s := { setCfg 0x5000 1 0 s with core := { s.core with cycle := 100000 - BitVec.ofNat 32 (s.cfg 0x5000 7) } }
    (s.C + s.cfg 0x5000 7) % 100 = 0 ∧ s.mayBalance = false ∧ goes .slotDecision s (fun t => t.thin.power == 0 && (t.thinHead 1).map == 0) = true := by
  decide +kernel
theorem test_slot_unacknowledged : let b : BleedSlot := { start := 40, mask := 3, len := 100, continuous := false }
    let s := { cells2 .online with core := { (cells2 .online).core with cycle := 100099 }, thin := { (cells2 .online).thin with heads := [(1, { state := 2, sent := some b })] } }
    s.C % 100 = 99 ∧ goes (.bleedSlotUnacknowledged 1) s (fun t => (t.thinHead 1).state == 3) = true := by decide +kernel
theorem test_switch_tests : let s := { setCfg 0x2100 2 1 (cells2 .isolated) with thin := { (cells2 .isolated).thin with heads := [(1, { testWanted := true })] } }
    s.allHeads = [1] ∧ s.channels 1 ≠ 0 ∧
    goes .switchTestSchedule s (fun t => !(t.thinHead 1).testWanted && (t.thinHead 1).test.map (fun x => (x.cell, x.left)) == some (1, [2])) = true := by
  decide +kernel

/-! ### Firebreak -/

/-- With the default envelope in force. -/
def guarded (o : OpState) : State := { cells2 o with fb := { (cells2 o).fb with envelope := some [], armed := true } }
theorem test_causes : let s := coilsOn (guarded .online)
    s.hasEnv = true ∧ s.pd 8 = true ∧
    goes .hallComparatorTrip s (fun t => t.cause 9 && t.feBit feHallTrip && t.fb.tripPcs && t.fb.trip.running) = true := by decide +kernel
theorem test_cells_unmeasured : let s := guarded .isolated
    let s := { s with fb := { s.fb with missRun := [(1, (s.env 0x5800 9).toNat)] } }
    s.env 0x5800 9 ≤ (Tab.nat s.fb.missRun 1 : Int) ∧ s.causeRaised 13 1 1 = false ∧
    goes (.cellsUnmeasured 1) s (fun t => t.cause 13 && t.causeRaised 13 1 1 && !t.fe.kp.lowSide) = true := by decide +kernel
theorem test_point_lost : let s := setCfg 0x3403 8 1 (setCfg 0x3403 1 1 (guarded .isolated))
    let s := { s with fb := { s.fb with lastReport := [(3, 99900)] } }
    s.reportLost 3 100 = true ∧ stays (.temperaturePointLost 4) s = true := by decide +kernel
theorem test_cause_clears : let s := guarded .isolated
    let m : FaultMsg := { source := 0x010, kind := causeKind 13, sev := some .trip, cls := 1, val := 1 }
    let s := { s with fb := { s.fb with goodRun := [(1, 1000)], causes := 0x2000 }, ranger := { s.ranger with active := [{ msg := m, raised := 0 }] } }
    s.causeRaised 13 1 1 = true ∧ s.causeGone 13 1 1 = true ∧ s.cause 13 = true ∧
    (∀ a ∈ s.ranger.active, a.msg.source = 0x010 → a.msg.kind = causeKind 13 → a.msg.cls = 1 ∧ a.msg.val = 1) ∧
    goes (.firebreakCauseClear 13 1 1) s (fun t => !t.causeRaised 13 1 1 && !t.cause 13) = true := by decide +kernel
/-- A trip that runs, with a wait of 3 ms. -/
def tripping : State := let s := coilsOn (guarded .tripping); { s with fb := { s.fb with trip := { running := true, released := false, at_ := 100000, wait := 3 } } }
theorem test_break : let s := tripping
    s.fb.trip.running = true ∧ s.fb.trip.released = false ∧
    goes (.breakWaitExpiry (s.tripLead + 3000)) s (fun t => t.fb.trip.released && t.fe.kp.coil == .off && !t.fe.kn.lowSide && t.fe.openAbove == 1) = true ∧
    goes (.breakDecision s.tripLead) { s with fb := { s.fb with trip := { s.fb.trip with wait := 0 } } } (fun t => t.fb.trip.released) = true := by decide +kernel
theorem test_break_waits : let s := { tripping with fe := { tripping.fe with main := 2000000, hall := 2000000 } }
    goes (.breakDecision s.tripLead) s (fun t => t.fb.trip.us == s.tripLead) = true := by decide +kernel
/-- An envelope that waits for the self-test. -/
def envWaiting (partner : Bool) : State :=
  let s := guarded .isolated
  { s with fb := { s.fb with envPending := [{ doc := [], fields := [], digest := s.fb.digest, seq := 1, session := 1, req := 9, selfTest := !partner, partner := partner, since := 99000 }] } }
theorem test_self_test : (up .boot).starting = true ∧ goes (.firebreakSelfTest true) (up .boot) (fun t => t.fb.active && !t.fb.selfTestFailed) = true ∧
    goes (.firebreakSelfTest false) (up .boot) (fun t => !t.fb.active && t.raised 0x010 0x16 0 0) = true ∧ (envWaiting false).starting = false ∧
    (envWaiting false).inPair = false ∧
    goes (.firebreakSelfTest true) (envWaiting false) (fun t => t.fb.envPending.map (fun p => (p.selfTest, p.effective)) == [(false, some 100001)]) = true ∧
    goes (.firebreakSelfTest false) (envWaiting false) (fun t => t.fb.envPending == [] && t.fb.selfTestFailed) = true := by decide +kernel
theorem test_partner_timeout : (envWaiting true).passed 99000 1000 = true ∧
    goes .envelopePartnerTimeout (envWaiting true) (fun t => t.fb.envPending == [] && t.dict.responses.any fun r => r.session == 1 && r.req == 9 && r.abort == abPartner) = true := by
  decide +kernel
theorem test_string_record : let s := ringUp .closed (up .isolated)
    s.cycling = true ∧ goes (.stringRecord none) s (fun t => t.ring.record == s.ownRecord) = true ∧
    goes (.stringRecord (some { cycle := 100000, checkOk := true, vStr := 700000 })) (up .isolated) (fun t => t.ring.record.vStr == 700000) = true ∧
    goes (.stringRecord (some { cycle := 100000, checkOk := false, vStr := 700000 })) (up .isolated) (fun t => t.ring.record.vStr == 0 && t.fb.dir == .rest) = true := by
  decide +kernel
theorem test_summaries : let own : Summary := { own := true, cycle := 100000, cellCrc := 1, tempCrc := 2, causes := 0, hall := 0, vStr := 0 }
    let s := paired .active (up .isolated)
    let s := { s with pair := { s.pair with summaries := [own] }, fb := { s.fb with cellMis := 2 } }
    s.inPair = true ∧ goes (.protectionSummaryCompare (some { own with own := false, cellCrc := 3 })) s
      (fun t => t.pair.summaries == [] && t.fb.cellMis == 3 && t.raised 0x010 0x1A 0 0) = true ∧
    goes (.protectionSummaryCompare (some { own with own := false })) s (fun t => t.fb.cellMis == 0 && !t.raised 0x010 0x1A 0 0) = true := by decide +kernel

/-! ### Dispatch, Canopy, axes -/

theorem test_lease_ends : let s := up .online
    let s := { s with sawyer := { s.sawyer with holder := 7, lease := 0, mode := 1 } }
    goes .dispatchLeaseExpired s (fun t => t.sawyer.holder == 0 && t.sawyer.mode == 0 && t.sawyer.leaseEnds == 1) = true := by decide +kernel
theorem test_trace_complete : let s := up .online
    let s := { s with sawyer := { s.sawyer with traces := [(2, { state := 2, post := 1000000, newest := 100000, seq := 4 })] } }
    (s.trace 2).state = 2 ∧ s.postCount 2 ≤ (s.trace 2).post ∧ goes (.traceCaptureComplete 2) s (fun t => (t.trace 2).state == 3 && (t.trace 2).seq == 5) = true := by
  decide +kernel
/-- Threshold 31 on point 3 at 60 °C with 2 °C of hysteresis, in a state. -/
def threshold (x : Threshold) (v : Int) : State :=
  let s := setCfg 0x682F 6 100 (setCfg 0x682F 5 100 (setCfg 0x682F 4 200 (setCfg 0x682F 3 6000 (setCfg 0x682F 1 3 (up .isolated)))))
  { s with points := [(3, { quality := .good, seen := true, filtered := v, updated := 99990 })], canopy := { s.canopy with thresholds := [(31, x)] } }
theorem test_threshold_pends : let s := threshold { state := .normal, count := 2 } 6000
    (s.thrCfg 31 1).toNat ≠ 0xFFFF ∧ (s.point 3).seen = true ∧ (s.point 3).quality = .good ∧ s.thrBeyond 31 (s.point 3).filtered = true ∧
    goes (.thresholdSample 31) s (fun t => (t.thr 31).state == .pending && (t.thr 31).since == 100000) = true ∧
    goes (.thresholdSample 31) (threshold { state := .pending } 5999) (fun t => (t.thr 31).state == .normal) = true := by decide +kernel
theorem test_threshold_clears : (threshold { state := .active, count := 2 } 5800).thrClear 31 5800 = true ∧
    goes (.thresholdSample 31) (threshold { state := .active, count := 2 } 5800) (fun t => (t.thr 31).state == .clearing) = true ∧
    goes (.thresholdSample 31) (threshold { state := .clearing } 5801) (fun t => (t.thr 31).state == .active) = true := by decide +kernel
theorem test_dwells : goes (.entryDwellExpired 31) (threshold { state := .pending, since := 99900 } 6000) (fun t => (t.thr 31).state == .active && (t.thr 31).activations == 1) = true ∧
    goes (.exitDwellExpired 31) (threshold { state := .clearing, since := 99900 } 0) (fun t => (t.thr 31).state == .normal) = true := by decide +kernel
theorem test_fail_safe : let s := setCfg 0x6800 6 5 (setCfg 0x601B 2 0x5003 (setCfg 0x601B 1 1 (up .isolated)))
    let s := { s with sawyer := { s.sawyer with slots := [(11, { badSince := some 95000 })] } }
    canopySlots.contains 11 = true ∧ s.slotCfg 11 1 ≠ 0 ∧ s.slotBad 11 = true ∧
    goes (.canopyFailSafe 11) s (fun t => (t.slot 11).failSafe && t.raised 0x041 0x77 5 11) = true := by decide +kernel
/-- Axis 1 as given. -/
def axis1 (x : Axis) : State := let s := up .isolated; { s with axes := [(1, x)] }
def here : AxisNow := { pos := 40, vel := 5 }
theorem test_axis_target : let s := setCfg 0x6860 1 1 (axis1 { homed := true })
    s.axisMode 1 = 1 ∧ (s.axis 1).homed = true ∧ s.cause pcFire = false ∧ (s.axis 1).homing = .idle ∧ s.axisCfg 1 2 / 4096 ≠ 6 ∧
    goes (.axisTargetChange 1 here) s (fun t => (t.axis 1).target == s.node (s.axisCfg 1 2)) = true := by decide +kernel
theorem test_axis_still : let s := axis1 { stillSince := some 90000, state := .standstill }
    s.ran (s.axis 1).stillSince (s.axisCfg 1 5) = true ∧ (s.axis 1).state ≠ .disabled ∧
    goes (.standstillDelay 1) s (fun t => (t.axis 1).coil == s.standCurrent 1) = true := by decide +kernel
theorem test_chopper : goes (.chopperFallBack 1 4) (axis1 {}) (fun t => (t.axis 1).fallBack && t.raised (srcAxis 1) 0x81 5 1) = true ∧
    goes (.chopperFallBack 1 3) (axis1 {}) (fun t => !(t.axis 1).fallBack) = true := by decide +kernel
theorem test_limit_switch : let s := setCfg 0x6862 1 0 <| axis1 { vel := 5, ramp := .toTarget }
    s.axisMode 1 ≠ 3 ∧ s.axisMode 3 ≠ 3 ∧
    goes (.switchEdge 1 0 true 38 2 here) s (fun t => (t.axis 1).limP && (t.axis 1).latched == 38 && (t.axis 1).ramp == .hardStop && t.raised (srcAxis 1) 0x84 5 1) = true := by
  decide +kernel
theorem test_travel_time : let s := setCfg 0x68B0 3 1000 (up .isolated)
    let s := { s with axes := [(3, { discCmd := .open_, discSince := 99000, vel := 5 })] }
    s.passed (s.axis 3).discSince (s.cfg 0x68B0 3) = true ∧ goes .travelTimeout s (fun t => (t.axis 3).discCmd == .none && t.raised (srcAxis 3) 0x87 5 3) = true := by
  decide +kernel
theorem test_move_done : goes (.moveComplete 1 here) (axis1 { ramp := .toTarget, target := 41 })
    (fun t => (t.axis 1).pos == 41 && (t.axis 1).vel == 0 && !(t.axis 1).moving) = true := by decide +kernel

/-! ### Writes -/

/-- Command `i` is a write that an open session makes and that passes its checks. -/
def accepted (i : Instr) (s : State) : Bool :=
  match writeOf i with
  | some w => s.sessOpen w.session && s.verdict w == 0
  | none => false

/-- An accepted write, with what it does at once. -/
def takes (i : Instr) (s : State) (q : State → Bool) : Bool := accepted i s && goes i s q

/-- An accepted write of string scope, with what it does at its boundary. -/
def atBoundary (i : Instr) (s : State) (q : State → Bool) : Bool :=
  takes i s fun t => match t.dict.pending with
    | [p] => firstFailing (fun t i b v => t.recheck p.session i b v) p.session 0 p.entries s.afterLeaseEvents == none && q (applyPending s p)
    | _ => false

theorem test_write_refused : let s := on .isolated
    (s.serving 1 9).sessOpen 1 = true ∧ s.verdict ⟨1, 9, 0x2010, 6, .bytes [1]⟩ ≠ 0 ∧
    goes (.objectWrite 1 9 0x2010 6 (.bytes [1])) s (fun t => t.dict.vals == s.dict.vals && t.dict.responses.length == 1) = true := by decide +kernel
theorem test_write_closed : stays (.objectWrite 2 9 0x2010 6 (.num 1)) (on .isolated) = true := by decide +kernel
theorem test_write_network : takes (.objectWrite 1 9 0x7010 2 (.num 500)) (on .isolated) (fun t => t.val 0x7010 2 == .num 500) = true := by decide +kernel
/-- An idle module whose contactors have been open for long. -/
def openLong : State :=
  let s := on .isolated
  { s with fe := { s.fe with bothOpenSince := some 50000 } }
theorem test_at_once : let s := openLong
    takes (.autoZeroRequest 1 9) s (fun t => t.fe.zeroDue) = true ∧
    takes (.injectionEnable 1 9 true) s (fun t => t.val 0x2012 3 == .num 1) = true ∧
    takes (.injectionEnable 1 9 false) s (fun t => t.val 0x2012 3 == .num 0 && t.feBit feIsoStale && !t.pd 9) = true ∧
    takes (.ringCounterClear 1 9 1) { s with ring := { s.ring with counters := [(16 + 3, 7)] } } (fun t => t.counter 1 3 == 0) = true := by decide +kernel
theorem test_traces : let s := on .isolated
    takes (.traceArmSingle 1 9 3) s (fun t => (t.trace 3).state == 1 && !(t.trace 3).rearm) = true ∧
    takes (.traceArmRearm 1 9 3) s (fun t => (t.trace 3).state == 1 && (t.trace 3).rearm) = true ∧
    takes (.traceDisarm 1 9 0) s (fun t => (t.trace 0).state == 0) = true ∧
    takes (.traceSoftwareTrigger 1 9 0) { s with sawyer := { s.sawyer with traces := [(0, { state := 1 })] } } (fun t => (t.trace 0).state == 2) = true ∧
    takes (.traceSoftwareTrigger 1 9 0) s (fun t => (t.trace 0).missed == 1) = true := by decide +kernel
theorem test_time_writes : let s := on .isolated
    takes (.timeSourceWrite 1 9 2) s (fun t => t.val 0x7100 1 == .num 2 && t.clock.state == .free) = true ∧
    takes (.localTimeWrite 1 9 [1, 2, 0, 0, 0, 0, 0, 0, 0, 0]) (setCfg 0x7100 1 2 s) (fun t => t.clock.sec == 513 && t.clock.trusted) = true ∧
    takes (.q26OverflowClear 1 9 false) { s with clock := { s.clock with overflow := true } } (fun t => !t.clock.overflow) = true ∧
    goes (.q26OverflowClear 1 9 true) s (fun t => t.clock.overflow && t.clock.occurrences == 1) = true := by decide +kernel
theorem test_pulses : let s := on .isolated
    takes (.pulseParameterWrite 1 9 3 3 (.num 1000)) s (fun t => t.val 0x7133 3 == .num 1000) = true ∧
    takes (.pulseParameterWrite 1 9 3 3 (.num 1000)) { s with links := { s.links with pulses := [(3, { active := true })] } }
      (fun t => t.dict.vals == s.dict.vals && (t.pulse 3).waiting.length == 1) = true := by decide +kernel
theorem test_can_recovery : let s := on .isolated
    takes (.busOffRecovery 1 9 1) { s with links := { s.links with canB := { s.links.canB with err := .busOff } } } (fun t => (t.can 1).recovering) = true := by
  decide +kernel
theorem test_session_ends : takes (.endSession 1 9 1) (on .isolated) (fun t => (t.session 1).state == .free) = true := by decide +kernel
theorem test_fast_channels : let s := on .isolated
    let c := { s with dict := { s.dict with sessions := s.dict.sessions ++ [(128, { state := .isOpen, parent := some 1, transport := 2 })] },
                      sec := { s.sec with fast := [(0, { isOpen := true })] } }
    s.fastFor 1 = some 0 ∧ s.sessOpen 128 = false ∧ takes (.fastChannelOpen 1 9) s (fun t => (t.fast 0).isOpen && (t.session 128).parent == some 1) = true ∧
    c.fastOf 1 = some 0 ∧ takes (.fastChannelClose 1 9) c (fun t => !(t.fast 0).isOpen && (t.session 128).state == .free) = true := by decide +kernel
theorem test_de_adoption : takes (.deAdopt 1 9) (on .isolated) (fun t => !t.sec.adopted && (t.session 1).state == .free) = true := by decide +kernel
theorem test_signed : let n : Bytes := [1, 2, 3, 4, 5, 6, 7, 8, 9, 10, 11, 12, 13, 14, 15, 16]
    takes (.signedSnapshot 1 9 n) (on .isolated) (fun t => t.sec.snapReq.isSome) = true ∧ accepted (.attestation 1 9 n) (on .isolated) = true := by decide +kernel
/-- The active unit of a pair whose standby is ready. -/
def readyPair : State :=
  let s := setCfg 0x1F00 8 1 (paired .active (on .isolated))
  { s with pair := { s.pair with hb := some { role := .standby, flags := 0xC0 } }, fb := { s.fb with envMatch := true, envelope := some [] } }
theorem test_pair_writes : takes (.partnerAdoptionCode 1 9 [1, 2, 3, 4, 5, 6, 7, 8]) readyPair (fun t => t.pair.code.isSome && t.pair.join == 0) = true ∧
    takes (.handOverRequest 1 9) readyPair (fun t => t.pair.role == .outgoing && t.pair.phase == 1 && t.pair.h == readyPair.firstHalf 2500) = true ∧
    takes (.handOverCancel 1 9) { readyPair with pair := { readyPair.pair with role := .outgoing, phase := 2, h := 100051 } }
      (fun t => t.pair.phase == 6 && t.pair.abort == 6 && t.pair.role == .active) = true := by decide +kernel
/-- A unit whose claim round 99,900 is open. -/
def claiming (wasActive : Bool) : State :=
  let s := paired .claiming (on .isolated)
  { s with pair := { s.pair with claim := 1, round := 99900, wasActive := wasActive } }
theorem test_claim_round : takes (.grant 1 9 99900) (claiming true) (fun t => t.pair.role == .active && t.pair.claim == 2) = true ∧
    takes (.grant 1 9 99900) (claiming false) (fun t => t.pair.role == .takingOver) = true ∧
    takes (.denial 1 9 99900) (claiming true) (fun t => t.pair.holdUntil == some 100100) = true ∧
    takes (.denial 1 9 99900) (claiming false) (fun t => t.pair.role == .standby && t.raised 0x060 0xA1 0 0) = true := by decide +kernel
theorem test_fault_writes : let s := on .isolated
    takes (.firstFaultRearm 1 9) s (fun t => t.ranger.firstFault == {}) = true ∧ takes (.firstTripRearm 1 9) s (fun t => t.ranger.firstTrip == {}) = true ∧
    takes (.provokedFaultArm 1 9 6) s (fun t => (t.injector 6).state == 1 && (t.injector 6).start == 100001) = true ∧
    takes (.provokedFaultStop 1 9 6) { s with inject := [(6, { state := 2 })] } (fun t => (t.injector 6).state == 4) = true ∧
    takes (.keepAreaClear 1 9) s (fun t => t.tally.keep.length == 1 && !t.tally.keepFull) = true ∧
    takes (.restartRequest 1 9) s (fun t => t.power.restartPending == some (4, 1)) = true := by decide +kernel
theorem test_update_writes : let s := on .isolated
    takes (.packageLength 1 9 4096) s (fun t => t.update.staging == 1 && t.update.length == 4096) = true ∧
    takes (.generationAdvance 1 9) { s with update := { s.update with running := [(1, (0, 1)), (2, (0, 1)), (3, (0, 1)), (4, (0, 1))] } } (fun t => t.update.ha == some (s.firstHalf 2000, s.update.g + 1)) = true ∧
    takes (.updateStop 1 9) s (fun t => t.update == s.update) = true ∧ takes (.rollBack 1 9) { s with update := { s.update with next := 3, paused := true } } (fun t => t.update.reverse) = true := by
  decide +kernel
theorem test_sleep_request : takes (.sleepRequest 1 9) (on .isolated) (fun t => t.core.opState == .sleep) = true ∧
    goes (.sleepRequest 1 9) (on .online) (fun t => t.core.opState == .online) = true := by decide +kernel
theorem test_commit : let s := on .isolated
    (s.serving 1 9).entryCheck 1 0x1F00 1 (.num 1) ≠ 0 ∧ goes (.commit 1 9) s (fun t => t.dict.commit == []) = true := by decide +kernel

theorem test_boundary_ring : let s := { setCfg 0x2100 2 1 (cells2 .isolated) with ring := { (cells2 .isolated).ring with unwrapHold := true } }
    atBoundary (.unwrapRelease 1 9) s (fun t => !t.ring.unwrapHold) = true ∧
    atBoundary (.reEnumerate 1 9) s (fun t => t.ring.state == .enum && t.ring.enum.running) = true := by decide +kernel
theorem test_boundary_taps : let s := setCfg 0x2100 2 1 (cells2 .isolated)
    atBoundary (.openWireTestRequest 1 9 1 2) s (fun t => (t.owTesting 1).map (fun e => e.tap) == some 2) = true ∧
    atBoundary (.openWireTestRequest 1 9 1 2) { s with tap := { s.tap with tests := [(1, { tap := 0, k := 3 })] } }
      (fun t => (Tab.at t.tap.testQueue 1 []).contains 2) = true ∧
    accepted (.bleedGateFailureClear 1 9 1) { s with tap := { s.tap with diag := [(1, 2)] } } = true := by decide +kernel
theorem test_boundary_staging : let s := on .isolated
    atBoundary (.discardStaging 1 9) { s with dict := { s.dict with owner := some 1, staged := [(3, .num 1)] } } (fun t => t.dict.staged == []) = true ∧
    atBoundary (.extremesClear 1 9 3) { s with points := [(3, { filtered := 7 })] } (fun t => (t.point 3).min == 7 && (t.point 3).max == 7) = true ∧
    atBoundary (.laneDrainRequest 1 9 7) s (fun t => Tab.at t.cruiser.lanes 7 .active == .draining) = true ∧
    atBoundary (.sweepRequest 1 9 0) s (fun t => t.borer.sweepUntil == none) = true ∧
    atBoundary (.sweepRequest 1 9 24) s (fun t => t.borer.sweepUntil.isSome) = true := by decide +kernel
theorem test_boundary_cells : let s := cells2 .isolated
    atBoundary (.impedanceTableReset 1 9 2) s (fun t => (t.cell 2).impHead.reset == 100000) = true ∧
    atBoundary (.suspicionClear 1 9 2) { s with cells := [(2, { suspicion := .suspected, rates := [0, 0, 0] })] } (fun t => (t.cell 2).suspicion == .none) = true ∧
    atBoundary (.switchTestRequest 1 9 0xFF) s (fun t => (t.thinHead 1).testWanted) = true ∧
    atBoundary (.exclusionClear 1 9 2) { s with cells := [(2, { swStuck := true })] } (fun t => !(t.cell 2).swStuck) = true := by decide +kernel
theorem test_cell_commands : let s := cells2 .isolated
    takes (.insertionCommand 1 9 2) s (fun t => t.dict.cellCmds == [(s.effective, 2, 1)]) = true ∧
    takes (.capacityReset 1 9 1) s (fun t => t.dict.cellCmds == [(s.effective, 1, 2)]) = true ∧
    takes (.cycleCountReset 1 9 1) s (fun t => t.dict.cellCmds == [(s.effective, 1, 3)]) = true ∧
    ((cellCommand 2 3 s).cell 2).efc = 0 := by decide +kernel
theorem test_boundary_axes : let s := setCfg 0x6860 1 1 (on .isolated)
    atBoundary (.slotModeWrite 1 9 15 1) s (fun t => t.cfg 0x601F 1 == 1) = true ∧
    atBoundary (.chopperRestore 1 9 4) { s with axes := [(4, { fallBack := true })] } (fun t => !(t.axis 4).fallBack) = true ∧
    s.axisMode 1 = 1 ∧ s.motionHeld = false ∧ atBoundary (.homeRequest 1 9 1) s (fun t => (t.axis 1).homing == .search) = true := by decide +kernel
theorem test_boundary_disconnector : let s := { openLong with fe := { openLong.fe with status := 0x4 } }
    atBoundary (.disconnectorStop 1 9) s (fun t => (t.axis 3).discCmd == .none) = true ∧
    atBoundary (.disconnectorClose 1 9) s (fun t => (t.axis 3).discCmd == .close && (t.axis 3).operations == 1) = true ∧
    atBoundary (.disconnectorOpen 1 9) s (fun t => (t.axis 3).discCmd == .open_) = true := by decide +kernel
theorem test_manual_target : let s := setCfg 0x6860 1 4 (on .service)
    accepted (.manualTarget 1 9 1 40) s = true := by decide +kernel
theorem test_boundary_security : let s := on .isolated
    let k : Bytes := [1, 2, 3, 4, 5, 6, 7, 8, 9, 10, 11, 12, 13, 14, 15, 16]
    atBoundary (.channelKeyWrite 1 9 63 k) s (fun t => (t.channel 63).key == some (unle k)) = true ∧
    atBoundary (.trustAnchorWrite 1 9 4 2 (.num 3)) { s with sec := { s.sec with anchors := [(0, [1]), (4, [1])], masks := [(0, 0x10)] } } (fun t => Tab.at t.sec.masks 4 0 == 3) = true := by decide +kernel
theorem test_dispatch : let s := { setCfg 0x6108 5 1000 (on .online) with sawyer := { (on .online).sawyer with holder := 0 } }
    let h := { s with sawyer := { s.sawyer with holder := 7 } }
    takes (.claim 1 9) s (fun t => t.sawyer.events.length == 1) = true ∧ accepted (.renew 1 9) h = true ∧ accepted (.release 1 9) h = true ∧
    accepted (.revoke 1 9) h = true ∧ takes (.dispatchRequestWrite 1 9 3 5000) h (fun t => t.sawyer.events.length == 1) = true ∧
    (applyDispatch s (dispatchEvent 1 1 9 0x6108 1 (.num 1) s.effective s)).sawyer.holder = 7 := by decide +kernel
theorem test_staged : let s := on .isolated
    takes (.stagedWrite 1 9 0x3000 3 (.num 3)) s (fun t => Tab.find t.dict.staged (okey 0x3000 3) == some (.num 3) && t.dict.owner == some 1) = true ∧
    goes (.write 1 9 [{ index := 0x3000, sub := 3, typeCode := typeCodeOf 0x3000 3, value := .num 3 }]) s
      (fun t => Tab.find t.dict.staged (okey 0x3000 3) == some (.num 3)) = true := by decide +kernel

/-! ### Ethernet, time, CAN -/

/-- Port A as given, its supply on. -/
def portA (e : EthPort) : State := let s := up .isolated; { s with links := { s.links with ethA := e } }
def frame (c : EthContent) : EthRx := { length := 64, content := c }
theorem test_links : let s := portA { link := 2 }
    goes (.linkLoss 0) s (fun t => (t.eth 0).link == 0 && t.raised (srcEth 0) 0x90 0 0 && t.raised 0x050 0x91 0 0) = true ∧
    goes (.ethernetLinkUp 0 1) s (fun t => (t.eth 0).link == 1 && !t.raised (srcEth 0) 0x90 0 0) = true := by decide +kernel
theorem test_frames_discarded : let s := portA { link := 2 }
    s.ethUp 0 = true ∧ s.vlanOk 0 (some 5) = false ∧
    goes (.ethernetFrameReceive 0 { frame .arp with length := 1523 }) s (fun t => (t.eth 0).discarded == 1 && t.eth 1 == s.eth 1) = true ∧
    goes (.ethernetFrameReceive 0 { frame .arp with length := 63 }) s (fun t => (t.eth 0).discarded == 1) = true := by decide +kernel
theorem test_duplicates : let s := setCfg 0x7010 1 1 (portA { link := 2 })
    let s := { s with links := { s.links with prp := [(5, 6, 99900)] } }
    s.ethUp 0 = true ∧ s.prpOn = true ∧ s.vlanOk 0 none = true ∧ s.since 99900 < s.cfg 0x7010 2 ∧
    goes (.ethernetFrameReceive 0 { frame .arp with trailer := some (5, 6, 0) }) s (fun t => t.eth 0 == s.eth 0 && Tab.nat t.links.prpCounts 3 == 1) = true ∧
    goes (.ethernetFrameReceive 0 { frame .arp with trailer := some (5, 6, 1) }) s (fun t => Tab.nat t.links.prpCounts 3 == 1 && Tab.nat t.links.prpCounts 4 == 1) = true ∧
    goes .prpSupervision s (fun t => t.links.prpSeq == 1) = true := by decide +kernel
/-- A datagram with request 3 of fast channel 0. -/
def datagram : Datagram := { channel := 0, epoch := 4, seq := 9, req := 3, pdu := .read [(0x1000, 1)] }
theorem test_datagram_joins : let s := portA { link := 2 }
    (s.injector 2).state ≠ 2 ∧ (s.injector 2).heldFrames = [] ∧
    goes (.ethernetFrameReceive 0 (frame (.fast datagram))) s (fun t => t.eth 0 == { s.eth 0 with rx := [frame (.fast datagram)] }) = true := by decide +kernel
theorem test_strap : let s := { up .isolated with links := { (up .isolated).links with strapRead := true } }
    s.core.opState ≠ .boot ∧ goes .roleStrapChanged s (fun t => t.ranger.outbox.map (fun m => m.kind) == [0x9B]) = true := by decide +kernel
theorem test_ptp : let s := portA { link := 2, rx := [frame (.ptp 0 (.pdelayReq 513))] }
    firstPtp (s.eth 0).rx = some (s.cfg 0x7100 7, .pdelayReq 513) ∧ firstPtp (s.eth 1).rx = none ∧ stays (.ptpMessageReceive 1) s = true ∧
    goes (.ptpMessageReceive 0) s (fun t => (t.eth 0).rx == [] && (t.eth 0).tx.map (fun f => f.data) == [[3, 1, 2]]) = true ∧
    s.cfg 0x7100 1 = 0 ∧ goes .ptpMessageInterval s (fun t => (t.eth 0).ptpSeq == 1) = true := by decide +kernel
/-- A clock that follows port A, in a state. -/
def clockIn (x : ClockState) (good bad : Nat) : State :=
  let s := up .isolated
  { s with clock := { s.clock with state := x, port := 0, goodRun := good, badRun := bad, sec := 1000, heldSince := 50000 } }
theorem test_offsets : goes (.offsetMeasured 100001) (clockIn .acquiring 0 0) (fun t => t.clock.sec == 999 && t.clock.ns == 999899999 && t.clock.steps == 1) = true ∧
    goes (.offsetMeasured 250) (clockIn .acquiring 15 0) (fun t => t.clock.state == .locked) = true ∧
    goes (.offsetMeasured 250) (clockIn .acquiring 14 0) (fun t => t.clock.state == .acquiring) = true ∧
    goes (.offsetMeasured (-251)) (clockIn .acquiring 15 0) (fun t => t.clock.state == .acquiring) = true ∧
    goes (.offsetMeasured 10001) (clockIn .locked 0 2) (fun t => t.clock.state == .acquiring) = true ∧
    goes (.offsetMeasured 10000) (clockIn .locked 0 2) (fun t => t.clock.state == .locked) = true := by decide +kernel
theorem test_holdover : goes (.announceReceiptTimeout 0 true) (clockIn .locked 0 0) (fun t => t.clock.state == .holdover) = true ∧
    (setCfg 0x7100 0xB 50 (clockIn .holdover 0 0)).passed 50000 (1000 * (setCfg 0x7100 0xB 50 (clockIn .holdover 0 0)).cfg 0x7100 0xB) = true ∧
    goes .holdoverExpiry (setCfg 0x7100 0xB 50 (clockIn .holdover 0 0)) (fun t => t.clock.state == .free && t.clock.sec == 1000) = true := by decide +kernel
theorem test_pps : let s := setCfg 0x7100 1 1 (clockIn .free 0 0)
    s.cfg 0x7100 1 = 1 ∧ goes (.ppsInEdge 5) s (fun t => t.clock.ppsEdges == 1 && t.clock.state == .free) = true ∧
    goes (.ppsInEdge 5) { s with clock := { s.clock with ppsEdges := 1 } } (fun t => t.clock.ppsEdges == 2 && t.clock.state == .acquiring) = true := by decide +kernel
theorem test_time_stamps : let e : TimeStamp := { port := 0, sequence := 1, msgType := 2, sec := 3, ns := 4 }
    let s := up .isolated
    let full := { s with clock := { s.clock with q26 := List.replicate 16 e } }
    goes (.transmitTimeStamp 0 1 2 3 4) s (fun t => t.clock.q26 == [e]) = true ∧
    goes (.transmitTimeStamp 0 1 2 3 4) full (fun t => t.clock.q26.length == 16 && t.clock.overflow && t.clock.discarded == 1 && t.ranger.outbox.length == 1) = true := by
  decide +kernel
theorem test_pulse_edges : let s := setCfg 0x7133 3 1000 (setCfg 0x7133 1 2 (clockIn .free 0 0))
    let s := { s with links := { s.links with pulses := [(3, { next := some 1000000999999 })] } }
    s.pulseCfg 3 1 = 2 ∧ (1000000999999 : Int) < s.nowNs + 1000000 ∧
    goes (.pulseEdge 3 false) s (fun t => t.pulse 3 == { active := true, lastEdge := some 1000000999999, next := some 1000001000999 }) = true ∧
    goes (.pulseEdge 3 true) { s with links := { s.links with pulses := [(3, { active := true })] } } (fun t => !(t.pulse 3).active) = true := by decide +kernel
/-- CAN-A sends and receives, as given. -/
def canA (c : CanCtl) : State :=
  let s := setCfg 0x7200 1 1 (up .isolated)
  { s with links := { s.links with canA := c } }
theorem test_can_receive : let s := setCfg 0x7219 2 0x123 (setCfg 0x7219 1 1 (canA {}))
    let f : CanRx := { id := 0x123, data := [7] }
    s.canOn 0 = true ∧ s.canCfg 0 1 ≠ 2 ∧ s.canAcceptor 0 f = some 9 ∧ s.rxChannel 0 9 f = none ∧ (s.injector 4).heldFrames = [] ∧
    goes (.canFrameReceive 0 f) s (fun t => (t.can 0).rx.map (fun x => (x.object, x.data)) == [(9, [7])] && Tab.nat (t.can 0).moved 9 == 1) = true ∧
    goes (.canFrameReceive 0 { id := 0x123, remote := true }) s (fun t => (t.can 0).unaccepted == 1 && (t.can 0).rx == []) = true ∧
    stays (.canFrameReceive 0 f) (canA { err := .busOff }) = true := by decide +kernel
theorem test_can_sends : let f : CanFrame := { object := 9, id := 0x123 }
    let s := canA { tx := [f, { f with id := 0x122 }] }
    s.canSends 0 = true ∧ firstFrame (s.can 0).tx = some { f with id := 0x122 } ∧ (s.injector 4).state ≠ 2 ∧
    goes (.canTransmitAttempt 0 .begun) s (fun t => (t.can 0).inTx == some { f with id := 0x122 } && (t.can 0).tx == [f]) = true := by decide +kernel
theorem test_bus_off : goes (.busOff 0) (canA { txErr := 256 }) (fun t => (t.can 0).err == .busOff && (t.can 0).busOffs == 1 && t.ranger.outbox.length == 1) = true ∧
    goes (.busOffRecoveryComplete 0) (canA { err := .busOff, recovering := true, txErr := 256 }) (fun t => (t.can 0).err == .active && (t.can 0).txErr == 0) = true ∧
    (let s := setCfg 0x7200 0xA 100 (canA { err := .busOff, offAt := some 99900, recent := [1, 99000, 99500] })
     s.ran (s.can 0).offAt (s.canCfg 0 0xA) = true ∧ (s.recent 60000 (s.can 0).recent).length = 2 ∧
      goes (.busOffRecoveryDelay 0) s (fun t => (t.can 0).recovering) = true) := by decide +kernel

/-! ### Reads, sessions, requests -/

theorem test_staged_reads : let s := setCfg 0x3400 1 2 (setCfg 0x3000 3 2 (on .isolated))
    let s := { s with dict := { s.dict with staged := [(okey 0x3000 3, .num 5)] } }
    s.readVal 1 0x3000 3 = .num 2 ∧ s.readVal 1 0x3000 0x83 = .num 5 ∧ s.readVal 1 0x3400 1 = .num 2 ∧ s.readVal 1 0x3400 0x81 = .num 2 := by decide +kernel
theorem test_weights : ({ state := .isOpen, roles := 0x01 } : Session).weight = 1 ∧ ({ state := .isOpen, roles := 0x0A } : Session).weight = 2 ∧
    ({ state := .isOpen, roles := 0x27 } : Session).weight = 4 ∧ (∃ r, r ≤ 6 ∧ ({ state := .isOpen, roles := 0x40 } : Session).has r = true) := by decide +kernel
/-- `s` with a session on the CAN context 192. -/
def onCan (s : State) : State := { s with dict := { s.dict with sessions := s.dict.sessions ++ [(192, { state := .isOpen, roles := 0x7F, transport := 4 })] } }
/-- Command `i` completes with exactly one response of type `ty`, its abort 0, that passes the test `q`. -/
def answers (i : Instr) (s : State) (ty : Nat) (q : State → Response → Bool) : Bool :=
  goes i s fun t => match t.dict.responses with
    | [r] => r.type == ty && r.abort == 0 && q t r
    | _ => false
theorem test_reads : let s := on .isolated
    answers (.read 1 9 [(0x7010, 2)]) s 0x81 (fun _ r => r.session == 1 && r.req == 9 && r.body.take 4 == [1, 0, 0, 0]) = true ∧
    answers (.read 192 9 [(0x7010, 2)]) (onCan s) 0x81 (fun _ r => r.session == 192) = true ∧
    (s.serving 1 9).readCheck 1 0x7120 4 = 0 ∧
    answers (.overflowOccurrencesRead 1 9) { s with clock := { s.clock with occurrences := 3 } } 0x81 (fun t r => t.clock.occurrences == 0 && r.body.length != 0) = true := by
  decide +kernel
theorem test_tally_reads : let s := on .isolated
    (s.serving 1 9).readCheck 1 0x8A10 2 = 0 ∧ answers (.tallyRead 1 9 false) s 0x81 (fun _ r => r.req == 9) = true ∧
    answers (.tallyRead 1 9 true) s 0x83 (fun _ r => r.req == 9) = true := by decide +kernel
theorem test_read_block : let s := on .isolated
    (s.serving 1 9).readCheck 1 0x7010 2 = 0 ∧ answers (.readBlock 1 9 0x7010 2 0 1) s 0x83 (fun _ r => r.body.drop 4 == [0, 0, 0, 0, 1, 0, 0, 0, 0x90]) = true := by
  decide +kernel
theorem test_capture_read : let s := on .isolated
    let s := { s with sawyer := { s.sawyer with traces := [(2, { state := 3, rearm := true })] } }
    answers (.traceCaptureRead 1 9 2) s 0x83 (fun t r => (t.trace 2).state == 1 && r.req == 9) = true := by decide +kernel
theorem test_write_blocks : let s := on .isolated
    (s.serving 1 9).writeCheck 1 0x7804 1 (.bytes []) = 0 ∧
    answers (.writeBlock 1 9 0x7804 1 0 3 0 false [1, 2]) s 0x84 (fun t r => (t.session 1).block.isSome && r.body == [2, 0, 0, 0]) = true := by decide +kernel
theorem test_subscriptions : let s := on .isolated
    (s.serving 1 9).readCheck 1 0x7010 2 = 0 ∧ notePeriod 1 100 = (100, true) ∧ (s.serving 1 9).noteFits 1 [okey 0x7010 2] = true ∧
    answers (.subscribe 1 9 100 [(0x7010, 2)]) s 0x85 (fun t r => (t.session 1).subs.length == 1 && r.body.length == 2) = true ∧
    answers (.unsubscribe 1 9 4) { s with dict := { s.dict with sessions := [(1, { state := .isOpen, roles := 0x7F, subs := [{ id := 4, period := 100, objects := [] }] })] } } 0x86
      (fun t _ => (t.session 1).subs == []) = true ∧
    answers (.describe 1 9 [(0x7010, 2)]) s 0x89 (fun _ r => r.body.take 4 == [1, 0, 0, 0]) = true := by decide +kernel

/-! ### Transfers, rounds, sessions -/

/-- An open session 192 on CAN-A with a segmented transfer. -/
def transfer (x : SegXfer) : State :=
  let s := onCan (setCfg 0x7200 1 1 (on .isolated))
  { s with dict := { s.dict with sessions := [(192, { state := .isOpen, roles := 0x7F, transport := 4, seg := some x })] } }
theorem test_block_timeout : let s := on .isolated
    let c : Session := { state := .isOpen, block := some { key := 1, total := 2, crc := 3, last := 40000 } }
    s.passed 40000 60000 = true ∧ goes (.blockTransferTimeout 1) { s with dict := { s.dict with sessions := [(1, c)] } } (fun t => (t.session 1).block == none) = true := by
  decide +kernel
theorem test_segments : let f : Bytes := [0x20, 0, 2, 9, 0x04, 0x78, 1, 0, 44, 0, 0, 0, 1, 0, 0, 0] ++ zeros 40
    let x : SegXfer := { write := true, reqType := 2, reqId := 9, key := okey 0x7804 1, total := 44, crc := 1, data := zeros 40, last := 100000 }
    fieldN f 0 1 / 32 = 1 ∧ fieldN f 1 1 = 0 ∧ (onCan (on .isolated)).sessOpen 192 = true ∧ fieldN f 2 1 = 2 ∧
    goes (.canSegment 0 f) (onCan (on .isolated)) (fun t => (t.session 192).seg == some x) = true ∧
    goes (.canSegment 0 ([0x40, 0, 0, 0] ++ zeros 52)) (transfer x)
      (fun t => (t.session 192).seg == some { x with data := zeros 44, next := 1, sinceAck := 1 }) = true := by decide +kernel
theorem test_acknowledge : let x : SegXfer := { write := false, reqType := 0x81, reqId := 9, key := 0, total := 92, crc := 1, data := zeros 92, waiting := true, last := 98999 }
    goes (.segmentAcknowledge 0 40) (transfer x) (fun t => (t.session 192).seg == none) = true ∧
    goes (.segmentAcknowledge 0 41) (transfer x) (fun t => (t.session 192).seg == none) = true ∧
    (transfer x).passed 98999 1001 = true ∧ goes (.transferTimeout 0) (transfer x) (fun t => (t.session 192).seg == none) = true := by decide +kernel
/-- Session 1 with one READ in its queue, its port up. -/
def queued : State :=
  let s := on .isolated
  let c : Session := { state := .isOpen, roles := 0x7F, queue := [{ req := 9, pdu := .read [(0x7010, 2)], at_ := 100000 }] }
  { s with links := { s.links with ethA := { link := 2 } }, dict := { s.dict with sessions := [(1, c)] } }
theorem test_round : queued.pd 1 = true ∧ queued.canTransmit [] 1 = true ∧ queued.engineActive [1] 1 = false ∧ inSteps (.read [(0x7010, 2)]) = false ∧
    (let r := serveHead 1 { req := 9, pdu := .read [(0x7010, 2)], at_ := 100000 } (queued.modSession 1 fun x => { x with deficit := x.deficit + 4096 })
     r.1 ≤ 4096 ∧ (r.2.session 1).queue = [] ∧ (r.2.session 1).notes = []) ∧
    goes (.engineRound []) queued (fun t => (t.session 1).queue == [] && (t.eth 0).tx.length == 1 && t.dict.responses == []) = true ∧
    goes (.engineRound [1]) queued (fun t => (t.session 1).queue.length == 1) = true := by decide +kernel
/-- A certificate of an unadopted module's client. -/
def clientCert : ClientCert := { digest := [1, 2, 3], roles := 0x7F, anchor := some 0 }
theorem test_handshakes : let s := portA { link := 2 }
    let h := { s with sec := { s.sec with handshakes := [(3, 95000)] } }
    s.ethUp 0 = true ∧ goes (.clientHello 3 0 true) s (fun t => t.sec.handshakes == [(3, 100000)]) = true ∧
    goes (.clientHello 3 0 false) s (fun t => t.sec.handshakes == [] && t.sec.hsFailed == 1) = true ∧ s.passed 90000 10000 = true ∧
    goes (.tlsHandshakeTimeout 3) { s with sec := { s.sec with handshakes := [(3, 90000)] } } (fun t => t.sec.handshakes == [] && t.sec.hsFailed == 1) = true ∧
    stays (.tlsHandshakeTimeout 3) h = true ∧ goes (.tlsHandshake 3 0 { clientCert with p256 := false } 8) h (fun t => t.sec.hsFailed == 1) = true ∧
    h.certOk clientCert = true ∧ h.denied clientCert.digest = false ∧ h.perIdentity clientCert.digest < h.cfg 0x1010 6 ∧
    h.freeOf (tlsContexts (h.grantedRoles clientCert)) = some 0 ∧
    goes (.tlsHandshake 3 0 clientCert 8) h (fun t => (t.session 0).state == .isOpen && (t.session 0).roles == 1 && (t.session 0).secret == 8) = true := by decide +kernel
theorem test_session_lost : let s := on .isolated
    let w := { s with dict := { s.dict with owner := some 1, staged := [(okey 0x3000 3, .num 5)],
                                            sessions := [(1, { state := .isOpen, subs := [{ id := 0, period := 100, objects := [] }] }), (128, { state := .isOpen, parent := some 1 })] } }
    goes (.connectionLost 1) w (fun t => (t.session 1).state == .dormant && (t.session 1).subs.all (fun x => x.paused) && t.dict.staged == w.dict.staged &&
      (t.session 128).state == .isOpen) = true ∧
    goes (.closeNotify 1) w (fun t => (t.session 1).state == .free && (t.session 128).state == .free && t.dict.owner == none && t.dict.staged == []) = true := by
  decide +kernel
/-- Session 1 dormant since a cycle. -/
def dormant (at_ : Cycle) : State :=
  let s := on .isolated
  { s with dict := { s.dict with sessions := [(1, { state := .dormant, dormantAt := some at_, roles := 2, subs := [{ id := 0, period := 100, objects := [], paused := true }] })] } }
theorem test_resumption : (dormant 99900).inWindow 1 = true ∧
    goes (.sessionResumption 1 1 6) (dormant 99900) (fun t => (t.session 1).state == .isOpen && (t.session 1).transport == 1 && (t.session 1).subs.all (fun x => !x.paused)) = true ∧
    stays (.dormantWindowExpiry 1) (dormant 99900) = true ∧
    (setCfg 0x1010 5 10 (dormant 90000)).inWindow 1 = false ∧
    goes (.dormantWindowExpiry 1) (setCfg 0x1010 5 10 (dormant 90000)) (fun t => (t.session 1).state == .free) = true := by decide +kernel
/-- Fast channel 0 open, a datagram waiting on port A. -/
def datagramIn (d : Datagram) : State :=
  let s := on .isolated
  { s with links := { s.links with ethA := { link := 2, rx := [frame (.fast d)] } }, sec := { s.sec with fast := [(0, { isOpen := true, epoch := some 4, rxTop := 8 })] },
           dict := { s.dict with sessions := s.dict.sessions ++ [(128, { state := .isOpen, roles := 0x7F, transport := 2, parent := some 1 })] } }
theorem test_datagrams : splitDatagram ((datagramIn datagram).eth 0).rx = some (datagram, []) ∧ (datagramIn datagram).datagramOk datagram = true ∧
    (datagramIn datagram).datagramOk { datagram with tagOk := false } = false ∧
    goes (.fastChannelDatagram 0) (datagramIn datagram) (fun t => (t.fast 0).rxTop == 9 && (t.session 128).queue.map (fun q => q.req) == [3]) = true ∧
    goes (.fastChannelDatagram 0) (datagramIn { datagram with tagOk := false }) (fun t => t.sec.datagramsDiscarded == 1 && (t.eth 0).rx == []) = true := by decide +kernel
theorem test_adoption_wait : let s := up .isolated
    let w := fun (n : Nat) => { s with sec := { s.sec with waitFrom := some 90000, waitLen := n } }
    (w 10).waitLeft = 0 ∧ (w 11).waitLeft = 1 ∧ goes .adoptionWaitExpiry (w 10) (fun t => t.sec.waitFrom == none) = true ∧ stays .adoptionWaitExpiry (w 11) = true := by
  decide +kernel

/-! ### The pair -/

/-- The unit of a pair in a role, with a hand-over in a phase to instant `h`. -/
def handing (r : Role) (phase : Nat) (h : Cycle) : State :=
  let s := paired r (on .isolated)
  { s with pair := { s.pair with phase := phase, h := h } }
def hello : Hello := { identity := 1, stringId := 0, strap := 0, nonce := 2, ephemeral := 3, certOk := true }
theorem test_pairing : let s := paired .single (up .boot)
    s.cycling = true ∧ s.links.strap = 1 ∧ s.foreignString hello = false ∧
    goes (.pairHello { hello with strap := 1 }) s (fun t => t.pair.tether == 3 && t.seat.conflicts == 1) = true ∧
    goes (.pairHello hello) s (fun t => t.pair.tether == 1 && t.pair.rxSeq == 0 && t.pair.role == .undecided) = true ∧
    (let u := { on .isolated with pair := { (on .isolated).pair with tether := 1, hello := some hello } }
     u.sec.adopted = true ∧ hello.stringId = u.sec.stringId ∧ goes (.pairProof false) u (fun t => t.pair.tether == 3) = true ∧
      goes (.pairProof true) u (fun t => t.pair.tether == 2 && t.pair.keys.isSome) = true) := by decide +kernel
theorem test_partner_frames : let s := paired .standby (on .isolated)
    let hb : Heartbeat := { role := .active, inSeq := 3 }
    s.cycling = true ∧ s.pair.keys.isSome = true ∧ s.pair.tether = 2 ∧ s.pair.rxSeq < 8 ∧ (s.injector 6).state ≠ 2 ∧ (s.injector 6).heldFrames = [] ∧
    goes (.heartbeatReceive 8 true hb) s (fun t => t.pair.rxSeq == 8 && t.pair.hb == some hb) = true ∧
    goes (.heartbeatReceive 7 true hb) s (fun t => t.pair.rxSeq == 7 && t.pair.hb == none) = true ∧
    goes (.handOver 8 true 1 102500 0) s (fun t => t.pair.role == .incoming && t.pair.h == 102500 && t.pair.phase == 1) = true ∧
    goes (.adoption 8 true [] [] (some 2)) s (fun t => t.pair.join == 2) = true ∧
    goes (.checkpointPart 8 true 90000 0 19 none) s (fun t => t.pair.partial_ == some { cycle := 90000, parts := [0], total := 19 }) = true ∧
    goes (.handOver 8 true 2 0 3) (handing .incoming 1 102500) (fun t => t.pair.role == .standby && t.pair.phase == 6 && t.pair.abort == 3) = true ∧
    goes (.handOver 8 true 2 0 3) (handing .outgoing 3 102500) (fun t => t.pair.role == .active && t.pair.phase == 6) = true := by decide +kernel
theorem test_partner_image : let s := paired .standby (on .isolated)
    goes (.checkpointPart 8 true 100000 0 1 (some s.makeImage)) s (fun t => t.pair.partial_ == none && t.pair.image == 100000 && t.pair.images.length == 1) = true := by
  decide +kernel
theorem test_missing_data : let s := paired .standby (on .isolated)
    let b : BlockRec := { cycle := 99999, block := { p := 1, cells := [], stack := none, tempA := none, tempB := none, checkOk := true }, port := 0 }
    let s := { s with pair := { s.pair with rawBuf := [{ cycle := 99999, record := {}, blocks := [], answers := [] }] } }
    goes (.missingData 8 true 99999 [b] []) s (fun t => t.pair.rawBuf.map (fun r => r.blocks) == [[b]] && t.ring.blocks == s.ring.blocks) = true ∧
    goes (.missingData 8 true 100000 [] []) s (fun t => t.pair.rxSeq == 8 && t.ring.q2 == s.ring.q2) = true := by decide +kernel
theorem test_replicated : let s := paired .standby (on .isolated)
    s.countsStandby = true ∧ goes (.replicatedInput 8 true { seq := 1, effective := 100003, what := .request 0 }) s (fun t => t.pair.inSeq == 1 && t.pair.inputs.length == 1) = true ∧
    goes (.replicatedInput 8 true { seq := 1, effective := 100003, what := .generation 5 }) s (fun t => t.update.ha == some (100003, 5)) = true ∧
    goes (.configuration 8 true { stepping := true }) s (fun t => t.pair.stepping && t.pair.ready.getLsbD 2) = true := by decide +kernel
theorem test_heartbeat_lost : let s := fun (r : Role) (x : Sense) => let s := paired r (on .isolated); { s with pair := { s.pair with missRun := 5, sense := x } }
    (s .standby .stopped).inPair = true ∧ (s .standby .stopped).partnerGone = true ∧ (s .standby .stopped).hearsSync = false ∧
    goes .heartbeatLost (s .standby .stopped) (fun t => t.pair.lost && t.pair.role == .takingOver && t.pair.takeover == 100000) = true ∧
    goes .heartbeatLost (s .active .absent) (fun t => t.pair.role == .active && t.raised 0x060 0xA0 0 0) = true ∧
    goes .heartbeatLost (s .active .stale) (fun t => t.pair.role == .claiming && t.pair.round == 100000 && t.pair.wasActive) = true := by decide +kernel
theorem test_role_decisions : let s := paired .undecided (on .isolated)
    goes (.partnerSenseChange .stale) s (fun t => t.pair.sense == .stale && t.pair.stoppedSince == none) = true ∧
    (let u := { s with pair := { s.pair with sense := .absent, phyAt := 98000 } }
     u.passed 98000 2000 = true ∧ goes .roleDecisionTimeout u (fun t => t.pair.role == .active && t.raised 0x060 0xA0 0 0) = true) ∧
    (let u := { s with pair := { s.pair with role := .joining, ready := 15 } }
     goes .readinessComplete u (fun t => t.pair.role == .standby && t.core == u.core) = true) ∧
    (let u := setCfg 0x8010 1 1 readyPair
     u.pair.swapFrom + u.cfg 0x8010 1 * 86400000 ≤ u.power.opTime ∧ u.pair.lastTry = none ∧ condHandOver u = 0 ∧
      goes .roleSwapTimer u (fun t => t.pair.role == .outgoing && t.pair.phase == 1) = true) := by decide +kernel
theorem test_hand_over : goes .notWarmAbort (handing .incoming 1 100100) (fun t => t.pair.role == .standby && t.pair.abort == 5) = true ∧
    (handing .outgoing 1 100051).ahead 51 = 100051 ∧ goes .stateFreeze (handing .outgoing 1 100051) (fun t => t.pair.phase == 3 && t.pair.digest.isSome) = true ∧
    goes .stateFreeze (handing .incoming 2 100051) (fun t => t.pair.phase == 3) = true ∧
    goes .overlapStart (handing .outgoing 3 100000) (fun t => t.pair.phase == 4) = true ∧
    goes .overlapStart { handing .incoming 3 100000 with pair := { (handing .incoming 3 100000).pair with hb := some { flags := 4 } } }
      (fun t => t.pair.phase == 4 && t.fe.kp.coil == .hold && t.fe.kn.coil == .hold) = true ∧
    goes .handOverComplete (handing .outgoing 4 99901) (fun t => t.pair.role == .standby && t.pair.phase == 5) = true ∧
    goes .handOverComplete (handing .incoming 4 99901) (fun t => t.pair.role == .active && t.pair.phase == 5) = true := by decide +kernel
theorem test_origination : let s := fun r => ringUp .closed (handing r 4 99951)
    (s .outgoing).ahead 1 = (s .outgoing).pair.h + 50 ∧ goes .originationChange (s .outgoing) (fun t => !t.ring.originating) = true ∧
    goes .originationChange { s .incoming with ring := { (s .incoming).ring with originating := false } } (fun t => t.ring.originating && t.fe.injectFrom.isSome) = true := by
  decide +kernel
theorem test_coil_catch : let s := paired .standby (on .online)
    let s := { s with pair := { s.pair with hb := some { flags := 4 } }, fe := { s.fe with discrete := 0x80 } }
    s.countsStandby = true ∧ s.mayDrive 0 = false ∧ s.di diLoop = true ∧ s.online = true ∧ s.fb.causes = 0 ∧
    goes (.coilCatch 0) s (fun t => t.fe.kp.coil == .hold && Tab.flag t.pair.catching 0 && t.pair.catches == 1) = true ∧
    goes (.coilCatchEnd 0 false) { s with pair := { s.pair with catching := [(0, true)], catchRun := 100 } } (fun t => !Tab.flag t.pair.catching 0) = true := by decide +kernel
theorem test_takeover : let s := paired .takingOver (on .isolated)
    s.dict.epoch = 0 ∧ goes (.takeover false) s (fun t => t.pair.bridging && t.pair.originateAt == none) = true ∧
    goes (.takeover true) { s with dict := { s.dict with epoch := 1 } } (fun t => t.pair.originateAt == some 100002 && !t.pair.bridging) = true ∧
    goes .catchUpComplete { s with pair := { s.pair with bridging := true } } (fun t => t.pair.role == .active && !t.pair.bridging && t.pair.riseClamp) = true := by
  decide +kernel
theorem test_warm : let s := handing .incoming 1 101500
    let s := { s with pair := { s.pair with images := [s.makeImage] } }
    s.handOverImage = some s.makeImage ∧ goes .catchUpComplete s (fun t => t.pair.warm && t.pair.phase == 2) = true := by decide +kernel
theorem test_claims_end : (claiming true).passed 99900 100 = true ∧
    goes .claimTimeout { claiming true with pair := { (claiming true).pair with round := 99800 } } (fun t => t.pair.claim == 4 && t.pair.role == .active) = true ∧
    goes .claimTimeout { claiming false with pair := { (claiming false).pair with round := 99800 } } (fun t => t.pair.role == .standby) = true ∧
    goes .denialHoldEnd { claiming true with pair := { (claiming true).pair with holdUntil := some 100000 } } (fun t => t.pair.holdUntil == none) = true ∧
    (let s := paired .active (on .isolated)
     let u := { s with pair := { s.pair with syncRun := 3 } }
     u.unitB = true ∧ goes .partnerSyncDetected u (fun t => t.pair.stepDown == some (some 4)) = true) := by decide +kernel

/-! ### Faults, power, Lookout, storage, update, seat -/

/-- A front-end fault at DEGRADE, and the module with it active at WARN and past its grace. -/
def fault : FaultMsg := { source := 0x028, kind := 0x41, sev := some .degrade, cycle := 100000 }
def faulty : State :=
  let s := setCfg 0x8941 3 3 (up .isolated)
  { s with ranger := { s.ranger with active := [{ msg := { fault with sev := some .warn, cycle := 40000 }, raised := 40000, graceFrom := 0 }] } }
theorem test_fault_messages : let m := { fault with sev := some Sev.notice }
    let s := up .isolated
    s.findFault m = none ∧ goes (.faultMessage (some m)) s (fun t => t.ranger.received == 1 && t.ranger.active.map (fun a => (a.msg, a.count, a.acked)) == [(m, 1, false)] && t.fb == s.fb) = true ∧
    goes (.faultMessage none) { s with ranger := { s.ranger with outbox := [m] } } (fun t => t.ranger.outbox == [] && t.ranger.received == 1) = true ∧
    goes (.faultMessage (some fault)) s (fun t => t.ranger.active.length == 1) = true := by decide +kernel
theorem test_faults_served : faulty.findFault fault = some 0 ∧
    goes (.faultClear (some fault)) faulty (fun t => t.ranger.active == [] && t.ranger.received == 1) = true ∧
    goes (.faultAcknowledge fault) faulty (fun t => t.ranger.active.all fun a => a.acked) = true ∧ faulty.passed 0 (faulty.grace 0x41) = true ∧
    (∀ a ∈ faulty.ranger.active, a.acked = false ∧ a.code < faulty.ceiling a.msg.kind a.code) ∧
    goes (.graceExpiry fault) faulty (fun t => t.ranger.escalations == 1 && t.ranger.active.map (fun a => (a.msg.sev, a.escalated)) == [(some .degrade, true)]) = true := by
  decide +kernel
theorem test_capture_closes : let s := up .isolated
    let c : Capture := { msg := some fault, cycle := 99998, open_ := true }
    s.passed 99998 2 = true ∧ goes .firstFaultCaptureClose { s with ranger := { s.ranger with firstFault := c } } (fun t => t.ranger.firstFault == { c with open_ := false }) = true := by
  decide +kernel
theorem test_watchdog : let s := coilsOn (paired .active (up .online))
    goes (.watchdogService 0x5A5A) s (fun t => t.ranger.wdAlt && t.ranger.wdServed == 100000) = true ∧
    s.coreRuns = true ∧ s.passed s.ranger.wdServed (s.cfg 0x8802 2) = true ∧ s.inPair = true ∧
    goes .watchdogExpired s (fun t => t.power.restartPending == some (1, 0xFFFF) && t.ranger.wdExpired && t.fe.kp.coil == .off && t.fe.kn.coil == .off) = true := by
  decide +kernel
theorem test_injections : let s := fun n => { up .isolated with inject := [(6, { state := n, start := 99000 })] }
    (s 1).mayInject = true ∧ goes (.provokedFaultStart 6) (s 1) (fun t => (t.injector 6).state == 2) = true ∧
    goes (.provokedFaultStart 6) { s 1 with core := { (s 1).core with opState := .online } } (fun t => (t.injector 6).state == 4) = true ∧
    (s 2).injectCfg 6 11 ≤ (s 2).since 99000 ∧ goes (.provokedFaultEnd 6) (s 2) (fun t => (t.injector 6).state == 3) = true := by decide +kernel
theorem test_tally_write : let s := up .isolated
    let s := { s with tally := { s.tally with q25 := [{ kind := 0x10, body := [1, 2] }], seq := 0xFFFFFFFF } }
    s.tallyWrites = true ∧ goes .tallyWrite s (fun t => t.tally.q25 == [] && t.tally.seq == 0) = true := by decide +kernel
theorem test_supply : let s := { up .off with power := { (up .off).power with good := false, domains := 0 } }
    goes (.supplyPresent 18000 0 12000 800 0 true) s (fun t => t.core.opState == .boot && t.power.good && t.power.powerCycles == 1) = true := by decide +kernel
/-- A unit that has passed its start-up. -/
def started (o : OpState) : State :=
  let s := up o
  { s with fb := { s.fb with active := true }, update := { s.update with images := [(10, { bank := 0 }), (11, { bank := 0 })] }, power := { s.power with boot := 4 } }
theorem test_boot : (started .boot).booted = true ∧ goes .bootComplete (started .boot) (fun t => t.core.opState == .isolated) = true ∧
    goes .bootComplete { started .boot with core := { (started .boot).core with lockoutLatched := true } } (fun t => t.core.opState == .lockout) = true := by decide +kernel
theorem test_sources : let s := up .isolated
    let w := fun (p : Power → Power) => { s with power := p s.power }
    goes (.sourceLoss 150 false) s (fun t => t.power.changeover == some 100000 && !t.power.lost) = true ∧
    goes (.sourceLoss 149 false) s (fun t => t.power.changeover == none && t.power.lost) = true ∧
    goes (.backupRegulating 11800) (w fun p => { p with changeover := some 99999 }) (fun t => t.power.onBackup && t.power.source == 3 && t.power.changeovers == 1) = true ∧
    goes (.auxReturn 18000 17999) (w fun p => { p with onBackup := true }) (fun t => !t.power.onBackup && t.power.source == 0) = true ∧
    goes .powerGoodFall (w fun p => { p with lost := true }) (fun t => !t.power.good && t.power.branch.isSome && !t.pd 2) = true ∧
    goes .holdUpExpiry (w fun p => { p with good := false }) (fun t => t.core.opState == .off && t.power.domains == 0) = true ∧
    goes (.holdUpTest 199) s (fun t => t.raised 0x070 0xC4 0 0) = true ∧ goes (.holdUpTest 200) s (fun t => !t.raised 0x070 0xC4 0 0) = true := by decide +kernel
theorem test_restarts : let s := up .isolated
    goes (.powerDomainFault 12) s (fun t => !t.pd 12 && t.power.faulted.getLsbD 12) = true ∧
    goes .moduleRestart { s with power := { s.power with restartPending := some (4, 1) } } (fun t => t.core.opState == .off && t.power.restartCause == 4) = true ∧
    goes (.clockCheck [] false 32768) { s with power := { s.power with clockBad := [(3, 1)] } } (fun t => t.power.rc == 32768 && Tab.nat t.power.clockBad 3 == 0) = true := by
  decide +kernel
theorem test_module_temperature : let s := up .tripped
    (s.sensor 6).broken = false ∧ goes (.temperatureSensorSample 6 2500) s (fun t => (t.sensor 6).temp == 2500) = true ∧
    (let z := { s with power := { s.power with zones := 0x0C } }
     (upFrom 1 3).find? (fun n => zoneField z.power.zones n = 3) = some 2 ∧
      goes .thermalShutDown z (fun t => t.power.shutDown && t.power.thermalLatch && t.power.latchZone == 2 && !t.pd 2) = true) := by decide +kernel
/-- A module in SLEEP with rule 0 on input 1, above 500 V. -/
def sleeping (action : Nat) : State :=
  let s := setCfg 0x9050 3 7 (setCfg 0x9050 2 60 (up .sleep))
  { s with power := { s.power with domains := 1 },
           lookout := { s.lookout with slept := 60, inputs := [(1, 600000)], table := [{ input := 1, cmp := 1, action := action, level := 500000 }] } }
theorem test_sleep : (sleeping 1).asleep = true ∧ (sleeping 1).pollsRing = true ∧
    goes (.senseBurst 700000 (-5)) (sleeping 1) (fun t => t.fe.vStr == 700000 && Tab.find t.lookout.inputs 2 == some 5) = true ∧
    stays (.ruleEvaluation [] 12000 false) (sleeping 1) = true ∧
    goes (.ruleEvaluation [1] 12000 false) (sleeping 1) (fun t => t.core.opState == .boot && t.lookout.wakeCause == 1) = true ∧
    goes (.ruleEvaluation [1] 12000 false) (sleeping 2) (fun t => t.core.opState == .lockout) = true := by decide +kernel
theorem test_wakes : goes .wakeTimer (sleeping 1) (fun t => t.core.opState == .boot && t.lookout.wakeCause == 2) = true ∧
    goes .ppsInHold (sleeping 1) (fun t => t.lookout.wakeCause == 3) = true ∧ goes .canWakeUpPattern (sleeping 1) (fun t => t.lookout.wakeCause == 4) = true ∧
    goes .tetherLineEnergy (paired .active (sleeping 1)) (fun t => t.lookout.wakeCause == 5) = true := by decide +kernel
theorem test_polls : let s := setCfg 0x2012 3 1 (sleeping 1)
    s.pollsRing = true ∧ goes (.insulationBurst 100 (-100)) s (fun t => Tab.find t.lookout.inputs 3 == some (t.fe.rIso : Int)) = true ∧
    goes (.ringPoll [(1, 370000, 2500), (2, 360000, 2400)] [] [3] 100) s
      (fun t => t.core.cycle == 100100 && Tab.find t.lookout.inputs 4 == some 370000 && Tab.find t.lookout.inputs 5 == some 360000 && t.lookout.changedHeads == [3]) = true := by
  decide +kernel
theorem test_log_flush : let s := sleeping 1
    let s := { s with lookout := { s.lookout with buffer := List.replicate 64 { kind := 1, body := zeros 160, flags := 0x0A } } }
    12288 ≤ (s.lookout.buffer.map TallyRec.size).foldl (· + ·) 0 ∧ goes .logFlush s (fun t => t.lookout.buffer == []) = true := by decide +kernel
theorem test_seat : let s := up .isolated
    goes .seatDetect s (fun t => t.seat.state == 2 && t.seat.insertions == 1) = true ∧
    goes .seatDetectOpening { s with seat := { s.seat with state := 2 } } (fun t => t.seat.state == 0 && t.seat.noWait && t.power.lost) = true ∧
    goes (.auxInputOutOfRange 1 18000) s (fun t => t.power.aux1 == 18000 && !t.raised 0x070 0xC0 5 1) = true ∧
    goes (.auxInputOutOfRange 2 17999) { s with power := { s.power with onBackup := true } } (fun t => t.power.aux2 == 17999 && t.raised 0x070 0xC0 5 2) = true := by decide +kernel
theorem test_storage : let s := up .isolated
    s.storageOk = true ∧ s.cruiser.retired.contains (s.physical 2047) = false ∧
    goes (.storageUnitFailure true 6) s (fun t => t.storage.state == 1 && t.storage.readErrors == [6] && t.raised 0x078 0xE2 5 6) = true ∧
    goes (.storageUnitFailure false 2047) s (fun t => t.cruiser.retired == [2047] && t.cruiser.spare == s.cruiser.spare - 1) = true ∧
    (let w : JournalRec := { slot := none, kind := 0x21, payload := [], key := 7, value := some (.num 3) }
     goes .logRefresh { s with storage := { s.storage with log := List.replicate 1032 w } } (fun t => t.storage.log == [] && t.storage.persisted == [(7, .num 3)]) = true) := by decide +kernel
theorem test_journal : let s := up .isolated
    let w : JournalRec := { slot := none, kind := 0x21, payload := [], key := 7, value := some (.num 3) }
    let q := fun (r : JournalRec) => { s with storage := { s.storage with queue := [r], seq := 4 } }
    goes (.journalWrite 0) (q w) (fun t => t.storage.queue == [] && t.storage.seq == 5 && t.storage.log.map (fun r => r.seq) == [5]) = true ∧
    goes (.journalWrite 0) (q { w with slot := some 1, kind := 0x31, payload := [9] })
      (fun t => t.storage.seq == 5 && t.storage.log == [] && (t.storage.fixed.map fun e => e.1) == [1]) = true := by decide +kernel
/-- Step `i` of an update to bank 1 is running, its image verified. -/
def stepping (i : Nat) : State :=
  let s := up .isolated
  { s with storage := { s.storage with bankBad := [] },
           update := { s.update with next := i, step := i, started := true, target := 1, running := [(1, (1, 1)), (2, (1, 1)), (3, (1, 1)), (4, (1, 1))],
                                     images := [(0, { bank := 1 }), (10, { bank := 0 }), (11, { bank := 0 })] } }
theorem test_update_steps : let s := { stepping 1 with update := { (stepping 1).update with started := false } }
    s.updateRuns = true ∧ s.stepState = true ∧ s.storageOk = true ∧ s.handingOver = false ∧ s.findStep 1 = some 1 ∧
    goes .updateStep s (fun t => t.update.started && t.update.step == 1) = true ∧
    goes (.updateStepComplete 1 false 7) (stepping 1) (fun t => !t.update.started && t.update.paused && t.update.step == 15 && t.update.last == 7 && t.raised 0x079 0xE6 5 1) = true ∧
    (stepping 1).stepRejected = false ∧ (stepping 1).stepDone = true ∧ goes (.updateStepComplete 1 true 0) (stepping 1) (fun t => !t.update.started) = true := by decide +kernel
theorem test_core_steps : let s := { stepping 11 with update := { (stepping 11).update with coreReady := true, hc := 100000, handArea := some 100000 } }
    goes .coreHandOver s (fun t => t.update.core1 && t.update.idleLoaded && t.update.handArea == none) = true ∧
    (let u := setCfg 0x9830 6 1 (up .isolated)
     let u := { u with update := { u.update with confirmFrom := some 196400000, kept := [(1, 1, 1)] } }
     goes .confirmationPeriodExpiry u (fun t => t.update.confirmFrom == none && t.update.kept == [] && t.update.step == 13) = true) := by decide +kernel
theorem test_update_ends : let s := { stepping 11 with update := { (stepping 11).update with started := false } }
    let i : BankImage := { version := 1 }
    let s := { s with update := { s.update with banks := (upFrom 0 2).flatMap fun b => (upFrom 0 5).map fun t => (8 * b + t, i) } }
    s.findStep 11 = none ∧ s.update.reverse = false ∧ goes .updateStep s (fun t => t.update.next == 0 && t.update.step == 12 && t.update.confirmFrom == some 200000000) = true := by
  decide +kernel
theorem test_image_verified (h : Config.ecdsaVerify Config.imageAnchor (Config.sha256 []) [] = true) : let s := stepping 1
    s.stepBoots 0 = true ∧ verifyImage s.stepBank (imageType 0) 0 s = some (s.bankImage 1 1) := by
  have e : (Config.ecdsaVerify Config.imageAnchor (Config.sha256 ((stepping 1).bankImage 1 1).header) ((stepping 1).bankImage 1 1).signature) = true := h
  refine ⟨by decide +kernel, ?_⟩
  unfold verifyImage BankImage.verifies
  have b : (stepping 1).stepBank = 1 := by decide +kernel
  simp only [b, show imageType 0 = 1 from rfl, e]
  decide +kernel

/-! ### The checks refuse ill-formed operands -/

theorem test_ill_formed_places : ([.headSyncReceive 0 0 {}, .headSyncReceive 1 2 {}, .headSample 65 [] none [] 0, .containerPass 0 0, .headWrap ⟨1, 2⟩, .headSumMismatch 65,
    .cellsUnmeasured 513, .temperaturePointLost 2048, .pullInEnd 2, .firebreakCauseClear 32 0 0, .openWireTestRequest 1 9 1 17, .tapSuspicionTimeout 0 1] : List Instr).all
      (fun i => !i.wellFormed) = true := by decide +kernel
theorem test_ill_formed_requests : ([.closeRequest 256 9, .closeRequest 1 65536, .stagedWrite 1 9 65536 0 (.num 0), .objectWrite 1 9 0 256 (.num 0), .insertionCommand 1 9 0,
    .chemistryTableWrite 1 9 8 [], .laneDrainRequest 1 9 8, .switchTestRequest 1 9 65, .dispatchRequestWrite 1 9 5 0, .slotModeWrite 1 9 16 0, .traceDisarm 1 9 4,
    .localTimeWrite 1 9 [], .channelKeyWrite 1 9 0 [], .trustAnchorWrite 1 9 5 1 (.num 0), .partnerAdoptionCode 1 9 [], .provokedFaultArm 1 9 7, .packageDigest 1 9 []] : List Instr).all
      (fun i => !i.wellFormed) = true := by decide +kernel
theorem test_ill_formed_events : ([.thresholdSample 32, .canopyFailSafe 12, .standstillDelay 0, .homeRequest 1 9 5, .linkLoss 2, .pulseEdge 4 true, .busOff 2, .canSegment 0 (zeros 65),
    .segmentAcknowledge 64 0, .coilCatch 2, .powerDomainFault 13, .temperatureSensorSample 0 0, .journalWrite 3, .imageVerification 2 8 0 0, .clientHello 0 2 true,
    .handOver 0 true 3 0 0, .subscribe 1 9 65536 [], .unsubscribe 1 9 65536] : List Instr).all (fun i => !i.wellFormed) = true := by decide +kernel
theorem test_well_formed : ([.sync none, .headSample 64 [] none [] 0, .openWireTestRequest 1 9 64 255, .switchTestRequest 1 9 255, .canSegment 1 (zeros 64), .canopyFailSafe 11] :
    List Instr).all Instr.wellFormed = true := by decide +kernel

end Sys2Proof.Tests
end

section
/-! SUPPORT. Every command keeps the bounds of queues and stores (R26, R164, R449, R472, R474, R490, R491, R492). -/

namespace Sys2Proof.Machine

open Sys2Proof

/-- Every part of the state: `Keeps anyPart` speaks of the bounds, the queue of commands and the snapshot alone. -/
abbrev anyPart : Part → Bool := fun _ => true

/-- Every command but SYNC, which takes the snapshot, keeps the bounds and the snapshot: each by the lemma of its meaning. -/
theorem exec_keeps (i : Instr) (s : State) (h : ∀ heard, i ≠ .sync heard) : OutKeeps anyPart s (exec i s) := by
  have h_s : Keeps anyPart s s := .refl _ s
  cases i with
  | sync heard => exact absurd rfl (h heard)
  | _ => simp only [exec]; simp [h_s]

theorem exec_bounded {i : Instr} {s t : State} (hs : Bounded s) (h : exec i s = .next t) : Bounded t := by
  by_cases hi : ∃ heard, i = .sync heard
  · obtain ⟨heard, rfl⟩ := hi
    obtain ⟨u, hu, -, -, hb, -⟩ := execSync_next heard s (A := anyPart)
    rw [exec, hu, Host.Outcome.next.injEq] at h
    exact h ▸ hb hs
  · obtain ⟨u, hu, hk⟩ := exec_keeps i s fun heard e => hi ⟨heard, e⟩
    rw [hu, Host.Outcome.next.injEq] at h
    exact h ▸ hk.bounded hs

/-- The waiting commands are no queue that the bounds speak of. -/
theorem Bounded.withPending {s : State} (h : Bounded s) (q : List Instr) : Bounded (s.withPending q) :=
  ⟨h.q24, h.active, h.last16, h.landing, h.checkpoints, h.images, h.rawBuf, h.sentFrames, h.keep, h.circ, h.q25⟩

/-- Settles O5: the idle step leaves the state, any other runs a command, and each command keeps the bounds. -/
theorem stepKeepsBounded : Obligations.StepKeepsBounded := by
  intro s t hs h
  unfold step at h
  split at h
  case h_1 => cases h; exact hs
  case h_2 c rest _ => exact exec_bounded (hs.withPending rest) h

/-- Settles O3: the fields of the state after reset. -/
theorem resetState : Obligations.ResetState :=
  ⟨rfl, rfl, rfl, rfl, rfl, rfl, rfl, rfl, rfl, rfl, fun _ => ⟨rfl, rfl⟩, fun _ => ⟨rfl, rfl, rfl, rfl⟩, fun _ => rfl, fun _ => rfl, rfl, rfl, rfl⟩

/-- Settles O9: base cycles run, so the boundary takes its branch, whose steps are the statement's in their order. -/
theorem boundaryOrder : Obligations.BoundaryOrder := by
  intro s h
  show execCycleBoundary s = _
  unfold execCycleBoundary inputStep
  rw [h]
  rfl

end Sys2Proof.Machine
end

section
/-! SUPPORT. SYNC in its three parts: the cycle's number and times, what the cycle's beginning evaluates, and what leaves the ports (R16, R44, R349, R391). -/

namespace Sys2Proof.Machine

open Sys2Proof

/-! ### The three parts of SYNC -/

/-- The next cycle's number, and one more millisecond of operation. -/
def countCycle (heard : Option SyncHeader) (s : State) : State :=
  { s with core := { s.core with cycle := s.nextCycle heard, crossed := false }, power := { s.power with opTime := s.power.opTime + 1 } }

/-- The number and the times of the cycle that begins; what is left of the ended one goes, and the partner is heard. -/
def syncTimes (heard : Option SyncHeader) (s : State) : State :=
  partnerLost (takeOverIfGone (publishRelation (advanceTime (hearPartner heard (clearCycle (countCycle heard (missHeartbeat s)))))))

/-- The snapshot is taken; subscriptions, events left over, heads and slots of the cycle follow. -/
def syncEvaluates (s : State) : State :=
  beginSlots (pollStatus (serviceLost (evalDeferred (sampleSubs { s with boundary := s.toBody }))))

/-- Ports that do not originate fall quiet, the others send SYNC and header. -/
def syncSends (s : State) : State :=
  s.originPorts.foldl sendSync (((upFrom 0 2).filter fun p => !s.originPorts.contains p).foldl (fun s p => idlePort p s) s)

theorem execSync_eq {heard : Option SyncHeader} {s : State} (h : s.cycling = true) :
    execSync heard s = .next (settleSleep (syncSends (syncEvaluates (syncTimes (goodHeader heard) s)))) := by
  unfold execSync
  rw [h]
  rfl

/-! ### Number and times -/

theorem missHeartbeat_pair (s : State) : ∃ p : Pair, missHeartbeat s = { s with pair := p } ∧ p.lastSync = s.pair.lastSync := by
  unfold missHeartbeat
  dsimp only
  split <;> exact ⟨_, rfl, rfl⟩

theorem publishRelation_clock (s : State) : ∃ c : Clock, publishRelation s = { s with clock := c } ∧ c.sec = s.clock.sec ∧ c.ns = s.clock.ns ∧
    c.t0 = s.clock.t0 := by
  unfold publishRelation
  split
  · exact ⟨_, rfl, rfl, rfl, rfl⟩
  · exact ⟨s.clock, rfl, rfl, rfl, rfl⟩

/-- A unit that originates records no header of its partner; another one takes the header it hears with the present cycle (R70, R437). -/
theorem hearPartner_ring (heard : Option SyncHeader) (s : State) : ∃ (p : Pair) (h : Option SyncHeader),
    hearPartner heard s = { s with pair := p, ring := { s.ring with heardHeader := h } } ∧
    p.lastSync = (if s.ring.originating || heard.isNone then s.pair.lastSync else some s.core.cycle) ∧
    h = if s.ring.originating || heard.isNone then s.ring.heardHeader else heard := by
  unfold hearPartner
  cases s.ring.originating <;> cases heard <;> exact ⟨_, _, rfl, rfl, rfl⟩

theorem beginTakeover_fenced (cause : Nat) (s : State) : (beginTakeover cause s).ranger.fenced = s.ranger.fenced ∧
    (beginTakeover cause s).pair.lastSync = s.pair.lastSync := by
  unfold beginTakeover setRole State.tell State.tallyFlags
  dsimp only
  (repeat' split) <;> exact ⟨rfl, rfl⟩

theorem takeOverIfGone_fenced (s : State) : (takeOverIfGone s).ranger.fenced = s.ranger.fenced ∧
    (takeOverIfGone s).pair.lastSync = s.pair.lastSync := by
  have h : ∀ (c : Prop) [Decidable c], (if c then s else beginTakeover 1 s).ranger.fenced = s.ranger.fenced ∧
      (if c then s else beginTakeover 1 s).pair.lastSync = s.pair.lastSync := by
    intro c _
    split
    · exact ⟨rfl, rfl⟩
    · exact beginTakeover_fenced 1 s
  unfold takeOverIfGone
  split
  · exact ⟨rfl, rfl⟩
  · cases s.pair.role with
    | standby | joining | claiming => exact h _
    | _ => exact ⟨rfl, rfl⟩

theorem partnerLost_fenced (s : State) : (partnerLost s).ranger.fenced = s.ranger.fenced ∧ (partnerLost s).pair.lastSync = s.pair.lastSync := by
  unfold partnerLost raisePair
  (repeat' split) <;> exact ⟨rfl, rfl⟩

/-- What a partner that is gone brings about is no part of the cycle's times, nor fences anything. -/
theorem partnerGone_keeps (s : State) : Keeps (fun p => p = .fe || p = .pair || p = .ranger || p = .tally) s (partnerLost (takeOverIfGone s)) ∧
    (partnerLost (takeOverIfGone s)).ranger.fenced = s.ranger.fenced ∧ (partnerLost (takeOverIfGone s)).pair.lastSync = s.pair.lastSync :=
  ⟨partnerLost_keeps _ (takeOverIfGone_keeps _ (.refl _ s)), (partnerLost_fenced _).1.trans (takeOverIfGone_fenced s).1,
   (partnerLost_fenced _).2.trans (takeOverIfGone_fenced s).2⟩

/-- The cycle's number and times after SYNC, what it leaves of the ended cycle, and what it does not touch. -/
structure TimesSet (heard : Option SyncHeader) (s t : State) : Prop where
  core : t.core = { s.core with cycle := s.nextCycle heard, crossed := false }
  power : t.power = { s.power with opTime := s.power.opTime + 1 }
  time : (t.clock.sec, t.clock.ns) = splitNs (s.nowNs + 1000000 + s.steering)
  t0 : t.clock.t0 = (t.clock.sec, t.clock.ns)
  tap : t.tap.v = [] ∧ t.tap.vPrev = s.tap.v
  blocks : t.ring.blocks = []
  origin : t.ring.originating = s.ring.originating ∧ t.ring.bothPorts = s.ring.bothPorts ∧ t.ranger.fenced = s.ranger.fenced
  inject : t.inject = s.inject
  lastSync : t.pair.lastSync = if s.ring.originating || heard.isNone then s.pair.lastSync else some (s.nextCycle heard)
  header : t.ring.heardHeader = if s.ring.originating || heard.isNone then none else heard

theorem syncTimes_set (heard : Option SyncHeader) (s : State) : TimesSet heard s (syncTimes heard s) := by
  unfold syncTimes
  obtain ⟨p, hp, hl⟩ := missHeartbeat_pair s
  rw [hp]
  obtain ⟨q, h, hh, hq, rfl⟩ := hearPartner_ring heard (clearCycle (countCycle heard { s with pair := p }))
  rw [hh]
  obtain ⟨c, hc, hs, hn, h0⟩ := publishRelation_clock (advanceTime _)
  rw [hc]
  obtain ⟨hk, hf, hy⟩ := partnerGone_keeps _
  refine ⟨hk.core_eq, hk.power_eq, ?_, ?_, ?_, ?_, ?_, hk.inject_eq, ?_, ?_⟩
  · rw [hk.clock_eq]; exact Prod.ext hs hn
  · rw [hk.clock_eq]; exact h0.trans (Prod.ext hs hn).symm
  · rw [hk.tap_eq]; exact ⟨rfl, rfl⟩
  · rw [hk.ring_eq]; rfl
  · rw [hk.ring_eq]; exact ⟨rfl, rfl, hf⟩
  · rw [hy]; exact hq.trans (by rw [← hl]; rfl)
  · rw [hk.ring_eq]; rfl

/-! ### What the beginning evaluates -/

theorem evalDeferred_none {s : State} (h : s.core.deferred = []) :
    evalDeferred s = { s with core := { s.core with cycleState := s.core.opState, taken := none, undo := none } } := by
  unfold evalDeferred
  dsimp only
  rw [h]
  rfl

theorem serviceLost_none {s : State} (h : s.core.service = none) : serviceLost s = s := by unfold serviceLost; rw [h]

theorem QueuesOnly.origin {s t : State} (h : QueuesOnly s t) : t.ring.originating = s.ring.originating ∧ t.ring.bothPorts = s.ring.bothPorts := by
  rw [QueuesOnly] at h
  rw [h]
  exact ⟨rfl, rfl⟩

theorem QueuesOnly.blocks {s t : State} (h : QueuesOnly s t) : t.ring.blocks = s.ring.blocks := h.fields.2.1

theorem pollStatus_queues (s : State) : QueuesOnly s (pollStatus s) := by
  unfold pollStatus
  split
  · exact foldl_queues (fun s p => command_queues s ..) _ _
  · exact .refl s

theorem foldl_beginSlot_thin (l : List Nat) (s : State) : ∃ x : Thinning, l.foldl beginSlot s = { s with thin := x } := by
  induction l generalizing s with
  | nil => exact ⟨s.thin, rfl⟩
  | cons p l ih => exact ih (beginSlot s p)

theorem beginSlots_thin (s : State) : ∃ x : Thinning, beginSlots s = { s with thin := x } := by
  unfold beginSlots
  split
  · exact ⟨s.thin, rfl⟩
  · obtain ⟨x, hx⟩ := foldl_beginSlot_thin s.allHeads s
    dsimp only
    rw [hx]
    exact ⟨_, rfl⟩

/-- The beginning of a cycle with no event left over and no SERVICE: the snapshot is what stood, the cycle's events start anew, and of the Yarder only the
transmit queues fill. -/
theorem syncEvaluates_quiet {s : State} (hd : s.core.deferred = []) (hs : s.core.service = none) :
    (syncEvaluates s).core = { s.core with cycleState := s.core.opState, taken := none, undo := none } ∧
    Keeps (fun p => p = .core || p = .ring || p = .thin || p = .dict) { s with boundary := s.toBody } (syncEvaluates s) ∧
    QueuesOnly s (syncEvaluates s) := by
  unfold syncEvaluates
  obtain ⟨hc, hq, hk⟩ : (sampleSubs { s with boundary := s.toBody }).core = s.core ∧ (sampleSubs { s with boundary := s.toBody }).ring = s.ring ∧
      Keeps (fun p => p = .core || p = .ring || p = .thin || p = .dict) { s with boundary := s.toBody } (sampleSubs { s with boundary := s.toBody }) :=
    have h := sampleSubs_keeps _ (.refl (fun p => p = .dict) { s with boundary := s.toBody })
    ⟨h.core_eq, h.ring_eq, sampleSubs_keeps _ (.refl _ _)⟩
  generalize sampleSubs { s with boundary := s.toBody } = u at *
  rw [evalDeferred_none (hc ▸ hd), serviceLost_none (hc ▸ hs)]
  obtain ⟨x, hx⟩ := beginSlots_thin (pollStatus { u with core := { u.core with cycleState := u.core.opState, taken := none, undo := none } })
  rw [hx]
  have hp := pollStatus_keeps { u with core := { u.core with cycleState := u.core.opState, taken := none, undo := none } } (.refl (fun p => p = .ring) _)
  refine ⟨?_, ?_, ?_⟩
  · rw [← hc]; exact hp.core_eq
  · exact keeps_mk (pollStatus_keeps _ (keeps_mk hk (by simp [SameBut]) (by simp [SameLists]))) (by simp [SameBut]) (by simp [SameLists])
  · exact .trans (.of_eq hq) (pollStatus_queues _)

/-! ### What leaves the ports -/

theorem injector_modInject (s : State) (l n : Nat) (f : Inject → Inject) :
    (s.modInject l f).injector n = if l = n then f (s.injector l) else s.injector n := Tab.at_mod _ _ _ _ _

theorem injector_congr {s t : State} (h : t.inject = s.inject) (n : Nat) : t.injector n = s.injector n := by unfold State.injector; rw [h]

/-- A held frame that is a command's. -/
def HeldFrame.isCommand : HeldFrame → Bool
  | .command _ _ => true
  | .block _ _ | .answer _ _ _ _ | .relayed _ _ _ | .eth _ _ | .can _ _ | .tether _ _ _ => false

/-- The injection of a link holds back no frame but commands. -/
def State.holdsCommands (s : State) (link : Nat) : Bool := (s.injector link).heldFrames.all fun h => h.1.isCommand

/-- What sending at a port leaves alone, as long as no frame that was received waits there: the cell values, the blocks and the headers. -/
def SendsAt (port : Nat) (s t : State) : Prop :=
  s.holdsCommands port = true → (∀ n, s.holdsCommands n = true → t.holdsCommands n = true) ∧ t.tap = s.tap ∧ t.ring.blocks = s.ring.blocks ∧ t.ring.headers = s.ring.headers

theorem SendsAt.trans {port : Nat} {s t u : State} (h : SendsAt port s t) (h' : SendsAt port t u) : SendsAt port s u := by
  intro hs
  obtain ⟨hn, ht, hb, hh⟩ := h hs
  obtain ⟨hn', ht', hb', hh'⟩ := h' (hn _ hs)
  exact ⟨fun n hn1 => hn' n (hn n hn1), ht'.trans ht, hb'.trans hb, hh'.trans hh⟩

theorem SendsAt.of_eq {port : Nat} {s t : State} (hi : t.inject = s.inject) (ht : t.tap = s.tap)
    (hr : t.ring.blocks = s.ring.blocks ∧ t.ring.headers = s.ring.headers) : SendsAt port s t :=
  fun _ => ⟨fun n hn => by rwa [State.holdsCommands, injector_congr hi], ht, hr⟩

theorem SendsAt.refl (port : Nat) (s : State) : SendsAt port s s := .of_eq rfl rfl ⟨rfl, rfl⟩

theorem SendsAt.fold {α : Type} {port : Nat} {f : State → α → State} (h : ∀ s a, SendsAt port s (f s a)) (l : List α) (s : State) : SendsAt port s (l.foldl f s) := by
  induction l generalizing s with
  | nil => exact .refl _ _
  | cons a l ih => exact (h s a).trans (ih _)

/-- A change of an injector that holds back no other frame. -/
theorem SendsAt.modInject (port link : Nat) (f : Inject → Inject) (s : State)
    (h : (s.injector link).heldFrames.all (fun h => h.1.isCommand) = true → (f (s.injector link)).heldFrames.all (fun h => h.1.isCommand) = true) :
    SendsAt port s (s.modInject link f) := by
  refine fun _ => ⟨fun n hn => ?_, rfl, rfl, rfl⟩
  unfold State.holdsCommands at hn ⊢
  rw [injector_modInject]
  split
  · subst n; exact h hn
  · exact hn

theorem sendChars_sends (what : Injected) (port : Nat) (l : List RingChar) (s : State) : SendsAt port s (sendChars what port l s) :=
  .of_eq rfl rfl ⟨rfl, rfl⟩

theorem endInjection_sends (port st link : Nat) (s : State) : SendsAt port s (endInjection st link s) := by
  refine .trans (.modInject port link (fun i => { i with state := st }) s id) ?_
  unfold endInjection tellInject State.tallyFlags
  dsimp only
  (repeat' split) <;> exact .of_eq rfl rfl ⟨rfl, rfl⟩

theorem injectFrame_sends (port link dir : Nat) (eligible : Bool) (s : State) : SendsAt port s (injectFrame link dir eligible s).2 := by
  unfold injectFrame
  extract_lets i n x hit s1
  have h1 : SendsAt port s s1 := .modInject _ _ _ _ (by simp [List.all_map, Function.comp_def])
  split
  · exact .refl _ _
  · split
    · exact endInjection_sends _ _ _ _
    · split <;> exact h1

theorem transmit_sends (port link kind p : Nat) (s : State) : SendsAt port s (transmit link kind p s).2 := by
  unfold transmit
  have h := injectFrame_sends port link 1 (s.ringFilter link 1 kind p) s
  generalize injectFrame link 1 (s.ringFilter link 1 kind p) s = q at h
  obtain ⟨what, u⟩ := q
  dsimp only at h ⊢
  split
  · exact h
  · exact h.trans (.of_eq rfl rfl ⟨rfl, rfl⟩)

theorem launch_sends (port kind p : Nat) (l : List RingChar) (s : State) : SendsAt port s (launch port kind p l s) := by
  unfold launch
  exact (transmit_sends port port kind p s).trans (sendChars_sends (transmit port kind p s).1 port l _)

/-- A command that was held back leaves as characters. -/
theorem deliverHeld_sends {port : Nat} {f : HeldFrame} (hf : f.isCommand = true) (s : State) : SendsAt port s (deliverHeld s f) := by
  cases f with
  | command n c => exact .of_eq rfl rfl ⟨rfl, rfl⟩
  | _ => cases hf

theorem deliverAll_sends {port : Nat} {l : List HeldFrame} (h : l.all HeldFrame.isCommand = true) (s : State) : SendsAt port s (l.foldl deliverHeld s) := by
  induction l generalizing s with
  | nil => exact .refl _ _
  | cons f l ih =>
    rw [List.all_cons, Bool.and_eq_true] at h
    exact (deliverHeld_sends h.1 s).trans (ih h.2 _)

theorem dueFrames_sends (port : Nat) (s : State) : SendsAt port s (dueFrames port s).2 ∧
    (s.holdsCommands port = true → (dueFrames port s).1.all HeldFrame.isCommand = true) := by
  unfold dueFrames
  refine ⟨.modInject _ _ _ _ fun h => ?_, fun h => ?_⟩
  · exact List.all_eq_true.2 fun x hx => List.all_eq_true.1 h x (List.mem_filter.1 hx).1
  · rw [List.all_map]
    exact List.all_eq_true.2 fun x hx => List.all_eq_true.1 h x (List.mem_filter.1 hx).1

theorem holdFrame_sends (port : Nat) (c : RingCmd) (s : State) : SendsAt port s (holdFrame port (.command port c) s) :=
  .modInject _ _ _ _ fun h => by simpa [List.all_append, HeldFrame.isCommand] using h

theorem launchCommand_sends (port : Nat) (s : State) (c : RingCmd) : SendsAt port s (launchCommand port s c) := by
  unfold launchCommand
  have h1 := transmit_sends port port 3 c.head s
  generalize transmit port 3 c.head s = q at h1
  obtain ⟨what, u⟩ := q
  have h2 := dueFrames_sends port u
  dsimp only at h1 ⊢
  generalize dueFrames port u = r at h2
  obtain ⟨due, v⟩ := r
  obtain ⟨h2, h3⟩ := h2
  dsimp only at h2 h3 ⊢
  have h4 : SendsAt port v (if what = .reorder then holdFrame port (.command port c) v else sendChars what port c.chars v) := by
    split
    · exact holdFrame_sends _ _ _
    · exact sendChars_sends _ _ _ _
  intro hs
  exact (h1.trans (h2.trans (h4.trans (deliverAll_sends (h3 ((h1 hs).1 _ hs)) _)))) hs

theorem sendPart_sends (port room : Nat) (s : State) : SendsAt port s (sendPart port room s) := by
  unfold sendPart
  dsimp only
  refine .trans ?_ (.fold (launchCommand_sends port) _ _)
  split <;> exact .of_eq rfl rfl ⟨rfl, rfl⟩

/-- A header of the present cycle has been sent at a port. -/
def State.headerSent (s : State) (p : Nat) : Prop := ∃ h, Tab.find s.ring.headers p = some h ∧ h.cycle = s.core.cycle

/-- The parts that sending at the ports leaves alone whatever the injections hold back. -/
abbrev sendParts : Part → Bool := fun p => !(p = .core || p = .power || p = .clock)

theorem sendSync_core (s : State) (port : Nat) : (sendSync s port).core = s.core := (sendSync_keeps s port (A := sendParts) (.refl _ s)).core_eq

theorem sendSync_sends {s : State} {port : Nat} (h : s.holdsCommands port = true) :
    (∀ n, s.holdsCommands n = true → (sendSync s port).holdsCommands n = true) ∧ (sendSync s port).tap = s.tap ∧
    (sendSync s port).ring.blocks = s.ring.blocks ∧ (sendSync s port).ring.headers = Tab.put s.ring.headers port (s.header port) := by
  unfold sendSync
  extract_lets hdr _ s1
  have h1 : SendsAt port _ (sendPart port hdr.pre s1) := (launch_sends port 0 0 (headerChars hdr) _).trans (sendPart_sends port hdr.pre s1)
  exact h1 h

theorem sendSync_headerSent {s : State} {port p : Nat} (h : s.holdsCommands port = true) (hp : p = port ∨ s.headerSent p) : (sendSync s port).headerSent p := by
  unfold State.headerSent
  rw [(sendSync_sends h).2.2.2, sendSync_core, Tab.find_put]
  split
  · exact ⟨_, rfl, rfl⟩
  · exact hp.resolve_left (Ne.symm ‹_›)

theorem foldl_sendSync {l : List Nat} {s : State} (h : ∀ p ∈ l, s.holdsCommands p = true) :
    (l.foldl sendSync s).tap = s.tap ∧ (l.foldl sendSync s).ring.blocks = s.ring.blocks ∧ ∀ p, p ∈ l ∨ s.headerSent p → (l.foldl sendSync s).headerSent p := by
  induction l generalizing s with
  | nil => exact ⟨rfl, rfl, fun p hp => hp.resolve_left (by simp)⟩
  | cons a l ih =>
    obtain ⟨hc, ht, hb, -⟩ := sendSync_sends (h a (by simp))
    obtain ⟨it, ib, ih⟩ := ih fun p hp => hc p (h p (by simp [hp]))
    refine ⟨it.trans ht, ib.trans hb, fun p hp => ih p ?_⟩
    rcases hp with hp | hp
    · rcases List.mem_cons.1 hp with rfl | hp
      · exact .inr (sendSync_headerSent (h p (by simp)) (.inl rfl))
      · exact .inl hp
    · exact .inr (sendSync_headerSent (h a (by simp)) (.inr hp))

/-- A port that falls quiet drops commands of its urgent queue. -/
theorem idlePort_queues (port : Nat) (s : State) : QueuesOnly s (idlePort port s) := by
  unfold idlePort
  dsimp only
  split <;> rfl

theorem settleSleep_awake {s : State} (h : s.core.opState ≠ .sleep) : settleSleep s = s := by
  unfold settleSleep
  simp [h]

/-- The state once the ports that do not originate have fallen quiet. -/
def syncIdles (s : State) : State := ((upFrom 0 2).filter fun p => !s.originPorts.contains p).foldl (fun s p => idlePort p s) s

theorem syncIdles_keeps (s : State) : Keeps (fun p => p = .ring) s (syncIdles s) := keeps_foldl (fun x p hx => idlePort_keeps p x hx) (.refl _ s)

theorem syncIdles_queues (s : State) : QueuesOnly s (syncIdles s) := foldl_queues (fun s p => idlePort_queues p s) _ _

theorem syncSends_keeps (s : State) : Keeps sendParts s (syncSends s) :=
  keeps_foldl (fun x p hx => sendSync_keeps x p hx) (keeps_foldl (fun x p hx => idlePort_keeps p x hx) (.refl _ s))

/-- A unit that does not originate sends nothing. -/
theorem syncSends_silent {s : State} (h : s.ring.originating = false) : syncSends s = syncIdles s := by
  have : s.originPorts = [] := by simp [State.originPorts, State.originates, h]
  unfold syncSends
  rw [this]
  simp [syncIdles, this]

theorem syncSends_sends {s : State} (h : ∀ p ∈ s.originPorts, s.holdsCommands p = true) :
    (syncSends s).tap = s.tap ∧ (syncSends s).ring.blocks = s.ring.blocks ∧ ∀ p ∈ s.originPorts, (syncSends s).headerSent p := by
  have hk := syncIdles_keeps s
  have hi : ∀ p, (syncIdles s).holdsCommands p = s.holdsCommands p := fun p => by rw [State.holdsCommands, injector_congr hk.inject_eq, State.holdsCommands]
  obtain ⟨ht, hb, hs⟩ := foldl_sendSync (s := syncIdles s) fun p hp => (hi p).trans (h p hp)
  exact ⟨ht.trans hk.tap_eq, hb.trans (syncIdles_queues s).blocks, fun p hp => hs p (.inl hp)⟩

/-! ### SYNC -/

/-- What SYNC leaves with no event left over and no SERVICE: the times are set, the snapshot is taken, the cycle's events start anew, and the ports send. -/
theorem sync_gives (heard : Option SyncHeader) {s : State} (hc : s.cycling = true) (hd : s.core.deferred = []) (hs : s.core.service = none)
    (ho : s.core.opState ≠ .sleep) : ∃ t u : State, exec (.sync heard) s = .next (syncSends u) ∧ TimesSet (goodHeader heard) s t ∧
      Keeps (fun p => p = .core || p = .ring || p = .thin || p = .dict) { t with boundary := t.toBody } u ∧ QueuesOnly t u ∧
      u.core = { t.core with cycleState := t.core.opState, taken := none, undo := none } := by
  have ht := syncTimes_set (goodHeader heard) s
  obtain ⟨h1, h2, h3⟩ := syncEvaluates_quiet (s := syncTimes (goodHeader heard) s) (by rw [ht.core, hd]) (by rw [ht.core, hs])
  refine ⟨_, _, ?_, ht, h2, h3, h1⟩
  show execSync heard s = _
  rw [execSync_eq hc, settleSleep_awake]
  rwa [(syncSends_keeps _).core_eq, h1, ht.core]

/-- Settles O6: the number and the times are those that `syncTimes` sets; what the cycle's beginning evaluates and sends leaves them, and each port originated
on has its header. -/
theorem syncBeginsCycle : Obligations.SyncBeginsCycle := by
  intro s heard hc hg hd hs ho hh
  obtain ⟨t, u, he, ht, hk, hq, hu⟩ := sync_gives heard hc hd hs ho
  have hn : s.nextCycle (goodHeader heard) = s.core.cycle + 1 := by unfold State.nextCycle; rw [if_pos hg]; rfl
  have htc := ht.core
  rw [hn] at htc
  have hP : ∀ p, u.originates p = s.originates p ∧ u.pd (4 + p) = s.pd (4 + p) := by
    intro p
    obtain ⟨h1, h2, h3⟩ := ht.origin
    unfold State.originates State.portFenced State.pd
    rw [hk.ranger_eq, hk.power_eq, h3, ht.power, hq.origin.1, hq.origin.2, h1, h2]
    exact ⟨rfl, rfl⟩
  have hm : ∀ p, p ∈ u.originPorts ↔ p < 2 ∧ s.originates p = true ∧ s.pd (4 + p) = true := by
    intro p
    simp only [State.originPorts, List.mem_filter, mem_upFrom, Bool.and_eq_true, hP, Nat.zero_le, true_and, Nat.zero_add]
  have hx := syncSends_keeps u
  have hheld : ∀ p ∈ u.originPorts, u.holdsCommands p = true := fun p hp => by
    unfold State.holdsCommands
    rw [injector_congr (hk.inject_eq.trans ht.inject), hh p ((hm p).1 hp).1]
    rfl
  obtain ⟨htap, hb, hsent⟩ := syncSends_sends hheld
  have hucore : (syncSends u).core = { s.core with cycle := s.core.cycle + 1, crossed := false, cycleState := s.core.opState, taken := none, undo := none } := by
    rw [hx.core_eq, hu, htc]
  refine ⟨_, he, hucore, ?_, ?_, ?_, ?_, ?_, ?_, ?_, ?_⟩
  · rw [hx.power_eq, hk.power_eq]; exact congrArg Power.opTime ht.power
  · rw [hx.clock_eq, hk.clock_eq]; exact ht.time
  · rw [hx.clock_eq, hk.clock_eq]; exact ht.t0
  · rw [hb, hq.blocks]; exact ht.blocks
  · rw [htap, hk.tap_eq]; exact ht.tap.1
  · rw [htap, hk.tap_eq]; exact ht.tap.2
  · rw [hx.boundary, hk.boundary]; exact congrArg Core.cycle htc
  · intro p hp ho hpd
    have := hsent p ((hm p).2 ⟨hp, ho, hpd⟩)
    rwa [State.headerSent, hucore] at this

/-- Settles O7: without origination nothing is sent, so what `syncTimes` hears of the partner stands. -/
theorem syncFollowsPartner : Obligations.SyncFollowsPartner := by
  intro s hc hg hd hs ho
  have hfollow : ∀ heard, Gives (.sync heard) s fun t => t.core.cycle = s.nextCycle (goodHeader heard) ∧
      t.pair.lastSync = (if (goodHeader heard).isNone then s.pair.lastSync else some (s.nextCycle (goodHeader heard))) ∧
      t.ring.heardHeader = goodHeader heard := by
    intro heard
    obtain ⟨t, u, he, ht, hk, hq, hu⟩ := sync_gives heard hc hd hs ho
    rw [syncSends_silent (by rw [hq.origin.1, ht.origin.1, hg])] at he
    have hi := syncIdles_keeps u
    refine ⟨_, he, ?_, ?_, ?_⟩
    · rw [hi.core_eq, hu, ht.core]
    · rw [hi.pair_eq, hk.pair_eq, ht.lastSync, hg, Bool.false_or]
    · rw [syncIdles_queues u, hq, ht.header, hg]
      cases goodHeader heard <;> rfl
  refine ⟨fun h hok => ?_, fun heard hbad => ?_⟩
  · have hgood : goodHeader (some h) = some h := by unfold goodHeader; rw [Option.filter_some, if_pos hok]
    have := hfollow (some h)
    rw [hgood] at this
    simpa [State.nextCycle, hg] using this
  · have hnone : goodHeader heard = none := by
      cases heard with
      | none => rfl
      | some h => simp [goodHeader, hbad h rfl]
    have := hfollow heard
    rw [hnone] at this
    simpa [State.nextCycle, hg, State.ahead] using this

end Sys2Proof.Machine
end

section
/-! SUPPORT. What the crossing makes of missed deadlines (R29): a report is not taken back by what the crossing reports after it. -/

namespace Sys2Proof.Machine

open Sys2Proof

/-- What the crossing does before it turns to the missed deadlines. -/
def crossData (missed : List (Nat × Nat)) (s : State) : State :=
  let s := s.originPorts.foldl sendPost (sendMissing (sendHeartbeat (stringSum (endOfBlocks s))))
  let s := { s with core := { s.core with crossed := true } }
  let s := if s.computes then laneWork (computePoints s) else s
  let s := sendStateless (sendFrame (missed.contains (0x040, 2)) s)
  let s := switchFaultClear (recurringEnds s)
  if s.mainUsable then recordCurrent s.fe.main s else if s.feBit feHallOk then recordCurrent s.fe.hall s else s

theorem execCycleDataCrossing_eq {s : State} (missed : List (Nat × Nat)) (hc : s.cycling = true) (hx : s.core.crossed = false) :
    execCycleDataCrossing missed s = .next (missed.foldl missDeadline (deadlineRuns (crossData missed s))) := by
  unfold execCycleDataCrossing
  rw [hc, hx]
  rfl

/-- The mark of the crossing lies in the core's part, which none of the crossing's further work changes. -/
theorem crossData_crossed (missed : List (Nat × Nat)) (s : State) : (crossData missed s).core.crossed = true := by
  unfold crossData
  extract_lets s1 _ s2 s3 s4 s5
  have hs : Keeps (fun p => p != .core) s2 s5 := by
    simp only [s5, s4, s3]
    exact switchFaultClear_keeps _ (recurringEnds_keeps _ (sendStateless_keeps _ (sendFrame_keeps _ _
      (keeps_ite (laneWork_keeps _ (computePoints_keeps _ (.refl _ s2))) (.refl _ s2)))))
  have h := (keeps_ite (c := s5.mainUsable = true) (recordCurrent_keeps s5.fe.main s5 hs)
    (keeps_ite (c := s5.feBit feHallOk = true) (recordCurrent_keeps s5.fe.hall s5 hs) hs)).core_eq
  rw [h]

theorem raised_report_of_raised {s : State} {source kind cls val : Nat} (h : s.raised source kind cls val = true) (source' kind' : Nat) (sev : Sev) (cls' val' : Nat) :
    (s.report source' kind' sev cls' val').raised source kind cls val = true := by
  unfold State.report State.send State.raised State.faultOnWay
  simp only [List.foldl_append, List.foldl_cons, List.foldl_nil]
  split
  · rename_i b hb
    split at hb
    · cases hb; rfl
    · unfold State.raised State.faultOnWay at h
      rwa [hb] at h
  · rename_i hb
    split at hb
    · cases hb
    · unfold State.raised State.faultOnWay at h
      rwa [hb] at h

theorem raised_raiseOnce_of_raised {s : State} {source kind cls val : Nat} (h : s.raised source kind cls val = true) (source' kind' : Nat) (sev : Sev) (cls' val' : Nat) :
    (s.raiseOnce source' kind' sev cls' val').raised source kind cls val = true := by
  unfold State.raiseOnce
  split
  · exact h
  · exact raised_report_of_raised h ..

theorem raised_missF_of_raised {s : State} {source kind cls val : Nat} (h : s.raised source kind cls val = true) (lane : Nat) :
    (missF lane s).raised source kind cls val = true := by
  unfold missF
  dsimp only
  split
  · exact raised_raiseOnce_of_raised (by rwa [raised_congr rfl]) ..
  · rwa [raised_congr rfl]

/-- A missed deadline withdraws no report and leaves the crossing's mark. -/
theorem missDeadline_of_raised (s : State) (m : Nat × Nat) : (missDeadline s m).core.crossed = s.core.crossed ∧
    ∀ {source kind cls val}, s.raised source kind cls val = true → (missDeadline s m).raised source kind cls val = true := by
  unfold missDeadline
  split
  · exact ⟨rfl, fun h => raised_report_of_raised (by rwa [raised_congr rfl]) ..⟩
  · extract_lets s1 _ s2
    have h1 : s1.core = s.core := (keeps_ite (missF_keeps _ s (A := fun p => p != .core) (.refl _ s)) (.refl _ s)).core_eq
    refine ⟨?_, fun h => raised_raiseOnce_of_raised (s := s2) ?_ ..⟩
    · rw [(State.raiseOnce_keeps s2 _ _ _ _ _ (A := fun p => p != .core) (.refl _ s2)).core_eq]
      show s1.core.crossed = _
      rw [h1]
    · rw [raised_congr (s := s1) (t := s2) rfl]
      simp only [s1]
      split
      · exact raised_missF_of_raised h _
      · exact h

/-- A deadline of the first two classes that is missed is a fault of its block (R29). -/
theorem missDeadline_raises (s : State) {m : Nat × Nat} (h : m.2 < 3) : (missDeadline s m).raised m.1 0xB6 5 m.2 = true := by
  unfold missDeadline
  rw [if_neg (by omega)]
  exact raised_raiseOnce ..

theorem foldl_missDeadline (l : List (Nat × Nat)) (s : State) : (l.foldl missDeadline s).core.crossed = s.core.crossed ∧
    ∀ m, (m ∈ l ∧ m.2 < 3) ∨ s.raised m.1 0xB6 5 m.2 = true → (l.foldl missDeadline s).raised m.1 0xB6 5 m.2 = true := by
  induction l generalizing s with
  | nil => exact ⟨rfl, fun m hm => hm.resolve_left (by simp)⟩
  | cons a l ih =>
    obtain ⟨hx, hr⟩ := ih (missDeadline s a)
    obtain ⟨hx1, hr1⟩ := missDeadline_of_raised s a
    refine ⟨hx.trans hx1, fun m hm => hr m ?_⟩
    rcases hm with ⟨hm, h3⟩ | hm
    · rcases List.mem_cons.1 hm with rfl | hm
      · exact .inr (missDeadline_raises s h3)
      · exact .inl ⟨hm, h3⟩
    · exact .inr (hr1 hm)

theorem deadlineRuns_crossed (s : State) : (deadlineRuns s).core.crossed = s.core.crossed := by
  unfold deadlineRuns
  extract_lets l s1
  have h : s1.core = s.core := (keeps_foldl (fun x e hx => State.clearOnce_keeps x _ _ _ _ hx) (.refl (fun p => p = .ranger) s)).core_eq
  show s1.core.crossed = _
  rw [h]

/-- Settles O8: the crossing leaves its mark before it reports, each report stands to its end, and a second crossing of a cycle does nothing. -/
theorem crossingReportsDeadlines : Obligations.CrossingReportsDeadlines := by
  intro s missed hc
  refine ⟨fun hx => ?_, fun hx => ?_⟩
  · obtain ⟨h1, h2⟩ := foldl_missDeadline missed (deadlineRuns (crossData missed s))
    refine ⟨_, execCycleDataCrossing_eq missed hc hx, ?_, fun m hm h3 => h2 m (.inl ⟨hm, h3⟩)⟩
    rw [h1, deadlineRuns_crossed, crossData_crossed]
  · show execCycleDataCrossing missed s = _
    unfold execCycleDataCrossing
    rw [hx, Bool.or_true, if_pos rfl]

end Sys2Proof.Machine
end

section
/-! SUPPORT. Requests of a session to the operating state machine (R31): what is served, taken and answered. -/

namespace Sys2Proof.Machine

open Sys2Proof

/-- A session's roles are the same while it is served. -/
theorem meets_beginService (s : State) (sess req : Nat) (at_ : Cycle) (n role : Nat) : (beginService sess req at_ s).meets n role = s.meets n role := by
  have hr : ((beginService sess req at_ s).session n).roles = (s.session n).roles ∧ ((beginService sess req at_ s).session n).identity = (s.session n).identity := by
    unfold beginService
    rw [session_modSession]
    split
    · subst n; exact ⟨rfl, rfl⟩
    · exact ⟨rfl, rfl⟩
  unfold State.meets Session.has
  dsimp only
  rw [hr.1, hr.2]
  rfl

theorem requestRole_beginService (s : State) (sess req : Nat) (at_ : Cycle) (kind : SmKind) (n : Nat) :
    (beginService sess req at_ s).requestRole kind n = s.requestRole kind n := by
  unfold State.requestRole
  simp only [meets_beginService]

/-- A request whose row's condition holds reaches the state machine, with the state as it was but for the session's record and the frame to the partner. -/
theorem stateRequest_taken {kind : SmKind} {code sess req : Nat} {s : State} {t : OpState} (ho : s.sessOpen sess = true) (ha : s.sec.adopted = true)
    (hr : s.requestRole kind sess = 0) (hs : (s.inPair && s.countsStandby) = false) (hh : (kind = .close && s.handingOver) = false)
    (ht : ∀ u : State, u.core = s.core → u.ranger = s.ranger → u.axes = s.axes → smTarget u s.core.opState { kind := kind, session := sess, req := req } = some t) :
    ∃ u : State, stateRequest kind code sess req s = .next (smEvent { kind := kind, session := sess, req := req } u) ∧ u.core = s.core ∧
      smTarget u u.core.opState { kind := kind, session := sess, req := req } = some t := by
  generalize he : ({ kind := kind, session := sess, req := req } : SmEvent) = e at ht ⊢
  have hk := beginService_keeps sess req s.core.cycle s (.refl (fun p => p = .dict || p = .pair) s)
  have hk2 := replicate_keeps (.request code) (beginService sess req s.core.cycle s).effective _ hk
  have ht1 : smTarget (beginService sess req s.core.cycle s) (beginService sess req s.core.cycle s).core.opState e = some t :=
    ht _ hk.core_eq hk.ranger_eq hk.axes_eq
  refine ⟨_, ?_, hk2.core_eq, ?_⟩
  · unfold stateRequest
    rw [he, ho]
    dsimp only
    rw [show (beginService sess req s.core.cycle s).sec.adopted = true from ha, requestRole_beginService, hr,
      show ((beginService sess req s.core.cycle s).inPair && (beginService sess req s.core.cycle s).countsStandby) = false from hs,
      show (kind = .close && (beginService sess req s.core.cycle s).handingOver) = false from hh, ht1]
    rfl
  · rw [hk2.core_eq]
    exact ht _ hk2.core_eq hk2.ranger_eq hk2.axes_eq

/-- A request that is taken, is no open request, and comes from a session: the state it leads to, and its answer. -/
theorem request_enters {e : SmEvent} {s u : State} {t : OpState} (h0 : s.core.taken = none) (hu : u.core = s.core) (ht : smTarget u u.core.opState e = some t)
    (hk : e.kind.request = true) (ho : e.kind ≠ .openRequest) (hs : e.session ≠ 0xFFFF) :
    (smEvent e u).core = entered s e t (smEvent e u) ∧ ∃ r ∈ (smEvent e u).dict.responses, r.session = e.session ∧ r.req = e.req ∧ r.abort = 0 := by
  refine ⟨?_, smEvent_answers (hu ▸ h0) ht hk hs⟩
  have h := smEvent_enters (hu ▸ h0) ht ho
  rwa [entered, hu] at h

/-- An open request that is taken leaves the state to the contactors. -/
theorem openRequest_opens {e : SmEvent} {u : State} {t : OpState} (h0 : u.core.taken = none) (ht : smTarget u u.core.opState e = some t)
    (hk : e.kind = .openRequest) : (smEvent e u).core.opState = u.core.opState ∧ (smEvent e u).core.opening = true ∧
      (smEvent e u).core.openSince = u.core.cycle := by
  rw [smEvent_eq h0 ht, answerRequest_core]
  unfold takeEvent
  dsimp only
  rw [if_pos hk]
  exact ⟨rfl, rfl, rfl⟩

/-- From TRIPPED or LOCKOUT back to ISOLATED the first-trip register is armed again, and the lockout latch goes (R31, R478). -/
theorem entryActions_rearms {old : OpState} (h : old = .tripped ∨ old = .lockout) (s : State) :
    (entryActions old .isolated s).ranger.firstTrip = {} ∧ (old = .lockout → (entryActions old .isolated s).core.lockoutLatched = false) := by
  refine ⟨by rcases h with rfl | rfl <;> rfl, ?_⟩
  rintro rfl
  have hc : ∀ u : State, (rearmFirstTrip (closeLowSides (releaseTrip u))).core = u.core := fun u =>
    (closeLowSides_keeps _ (releaseTrip_keeps u (.refl (fun p => p != .core) u))).core_eq
  show (rearmFirstTrip (closeLowSides (releaseTrip _))).core.lockoutLatched = false
  rw [hc]

theorem enterIsolated_rearms {e : SmEvent} {s : State} (h : s.core.opState = .tripped ∨ s.core.opState = .lockout) :
    (enterState e .isolated s).ranger.firstTrip = {} ∧ (s.core.opState = .lockout → (enterState e .isolated s).core.lockoutLatched = false) := by
  unfold enterState
  extract_lets old _ _ _ _ s1
  exact entryActions_rearms h s1

theorem request_rearms {e : SmEvent} {u : State} (h0 : u.core.taken = none) (ht : smTarget u u.core.opState e = some .isolated)
    (hk : e.kind ≠ .openRequest) (hs : u.core.opState = .tripped ∨ u.core.opState = .lockout) :
    (smEvent e u).ranger.firstTrip = {} ∧ (u.core.opState = .lockout → (smEvent e u).core.lockoutLatched = false) := by
  rw [smEvent_eq h0 ht, answerRequest_core, (answerRequest_ranger _ _ _).1]
  unfold takeEvent
  dsimp only
  rw [if_neg hk]
  exact enterIsolated_rearms hs

theorem tripFault_congr {s t : State} (hr : t.ranger = s.ranger) (hc : t.core = s.core) : t.tripFault = s.tripFault := by
  unfold State.tripFault State.maxSev
  rw [hr, hc]

/-- Settles O10: each request has a row whose condition holds, so the state machine takes it. -/
theorem stateRequests : Obligations.StateRequests := by
  intro s sess req ho hn ha hs h0
  refine ⟨fun hr hst hh hm => ?_, fun hr hst => ?_, fun hr hst => ?_, fun hr hst hx => ?_, fun hr hst hf => ?_, fun hr hst hl => ?_⟩
  · obtain ⟨u, he, hu, ht⟩ := stateRequest_taken (kind := .close) (code := 0) (req := req) (t := .precheck) ho ha hr hs (by rw [hh]; rfl)
      fun u hc hrg hax => by simp [smTarget, smRow, smCondition, hst, srcRing, raised_congr hrg, hm]
    obtain ⟨hcore, hans⟩ := request_enters h0 hu ht rfl nofun hn
    exact ⟨_, he, by rw [hcore], by rw [hcore], hans⟩
  · obtain ⟨u, he, hu, ht⟩ := stateRequest_taken (kind := .openRequest) (code := 1) (req := req) (t := s.core.opState) ho ha hr hs rfl
      fun u hc hrg hax => by rcases hst with hst | hst <;> rw [hst] <;> rfl
    obtain ⟨h1, h2, h3⟩ := openRequest_opens (hu ▸ h0) ht rfl
    exact ⟨_, he, by rw [h1, hu], h2, by rw [h3, hu], smEvent_answers (hu ▸ h0) ht rfl hn⟩
  · obtain ⟨u, he, hu, ht⟩ := stateRequest_taken (kind := .service) (code := 2) (req := req) (t := .service) ho ha hr hs rfl
      fun u hc hrg hax => by rw [hst]; rfl
    obtain ⟨hcore, hans⟩ := request_enters h0 hu ht rfl nofun hn
    exact ⟨_, he, by rw [hcore], by rw [hcore]; simp [hn], by rw [hcore], hans⟩
  · obtain ⟨u, he, hu, ht⟩ := stateRequest_taken (kind := .exit) (code := 3) (req := req) (t := .isolated) ho ha hr hs rfl
      fun u hc hrg hax => by simp [smTarget, smRow, smCondition, hst, State.axesStopped, hax, show (s.axes.all fun e => e.2.vel = 0) = true from hx]
    obtain ⟨hcore, hans⟩ := request_enters h0 hu ht rfl nofun hn
    exact ⟨_, he, by rw [hcore], by rw [hcore]; rfl, hans⟩
  · obtain ⟨u, he, hu, ht⟩ := stateRequest_taken (kind := .reset) (code := 4) (req := req) (t := .isolated) ho ha hr hs rfl
      fun u hc hrg hax => by simp [smTarget, smRow, smCondition, hst, tripFault_congr hrg hc, hf]
    obtain ⟨hcore, hans⟩ := request_enters h0 hu ht rfl nofun hn
    exact ⟨_, he, by rw [hcore], (request_rearms (hu ▸ h0) ht nofun (.inl (hu ▸ hst))).1, hans⟩
  · obtain ⟨u, he, hu, ht⟩ := stateRequest_taken (kind := .clear) (code := 5) (req := req) (t := .isolated) ho ha hr hs rfl
      fun u hc hrg hax => by simp [smTarget, smRow, smCondition, hst, State.lockoutCause, hrg, show (s.ranger.active.any fun a => 5 ≤ a.code) = false from hl]
    obtain ⟨hcore, hans⟩ := request_enters h0 hu ht rfl nofun hn
    obtain ⟨hft, hll⟩ := request_rearms (hu ▸ h0) ht nofun (.inr (hu ▸ hst))
    exact ⟨_, he, by rw [hcore], hll (hu ▸ hst), hft, hans⟩

end Sys2Proof.Machine
end

section
/-! SUPPORT. What moves the operating state machine without a request (R31, R130): the coils and contacts that an event leaves. -/

namespace Sys2Proof.Machine

open Sys2Proof

/-- The coils and contacts an event leaves are those the entry's actions leave. -/
theorem takeEvent_fe {e : SmEvent} (t : OpState) (s : State) (h : e.kind ≠ .openRequest) :
    ∃ u : State, (takeEvent e t s).fe = (entryActions s.core.opState t u).fe ∧ u.fe = s.fe ∧ u.core.cycle = s.core.cycle ∧ u.core.opState = t := by
  unfold takeEvent
  extract_lets _ _ _ s1
  rw [if_neg h]
  unfold enterState
  extract_lets old s2 _ _ _ s3
  have h2 := State.tell_keeps s1 0x0010 (stateBody e old t) (.refl (fun p => p = .tally) s1)
  refine ⟨s3, rfl, h2.fe_eq, ?_, rfl⟩
  show s2.core.cycle = _
  rw [h2.core_eq]

theorem smEvent_fe {e : SmEvent} {s : State} {t : OpState} (h0 : s.core.taken = none) (h1 : smTarget s s.core.opState e = some t) (h : e.kind ≠ .openRequest) :
    ∃ u : State, (smEvent e s).fe = (entryActions s.core.opState t u).fe ∧ u.fe = s.fe ∧ u.core.cycle = s.core.cycle ∧ u.core.opState = t := by
  rw [smEvent_eq h0 h1, (answerRequest_ranger _ _ _).2]
  exact takeEvent_fe t s h

/-- Entering CLOSING drives K− and starts the time the contactors have (R130). -/
theorem entryActions_closing_fe (old : OpState) (s : State) : (entryActions old .closing s).fe.kn.coil = .pullIn ∧
    (entryActions old .closing s).fe.kn.commanded = true ∧ (entryActions old .closing s).fe.closingSince = some s.core.cycle := ⟨rfl, rfl, rfl⟩

/-- Entering ONLINE or DERATED moves no contactor. -/
theorem entryActions_online_fe {t : OpState} (h : t = .online ∨ t = .derated) (old : OpState) (s : State) : (entryActions old t s).fe = s.fe := by
  rcases h with rfl | rfl <;> rfl

theorem startTripWait_fe {s : State} (h : s.core.opState = .tripping) (wait : Nat) (firebreak : Bool) : (startTripWait wait firebreak s).fe = s.fe := by
  unfold startTripWait
  rw [h]
  dsimp only
  split <;> rfl

/-- Entering TRIPPING starts the sequencer, which releases no coil itself (R269). -/
theorem entryActions_tripping_fe (old : OpState) {s : State} (h : s.core.opState = .tripping) : (entryActions old .tripping s).fe = s.fe := by
  have hk := withdrawBleed_keeps _ (stopPerturbation_keeps s (.refl (fun p => p != .fe && p != .core) s))
  show (startTrip false (withdrawBleed (stopPerturbation s))).fe = s.fe
  rw [startTrip, startTripWait_fe (by rw [hk.core_eq, h]), hk.fe_eq]

/-! ### The auxiliary contacts -/

/-- The inputs of a contactor are taken, with what follows from them before the state machine and the weld check see them. -/
def takeContacts (k : Nat) (no nc : Bool) (s : State) : State :=
  let was := s.bothOpen
  let wasOpen := s.confirmedOpen k
  let old := s.contactor k
  let s := s.modContactor k fun c =>
    { c with no := no, nc := nc,
             sameSince := if no = nc then s.start (if old.no = old.nc then c.sameSince else none) else none,
             oppositeSince := if no = nc then none else s.start (if old.no = old.nc then none else c.oppositeSince) }
  let s := if old.commanded && old.no && !no then s.raiseOnce 0x02A 0x45 .trip 5 k else s
  let s := if wasOpen != s.confirmedOpen k then voidHalf s else s
  let s := { s with fe := { s.fe with bothOpenSince := if s.bothOpen then s.start s.fe.bothOpenSince else none,
                                      zeroDue := s.fe.zeroDue || (!was && s.bothOpen) } }
  closeKp (positionClears k s)

theorem execAuxContactChange_eq {k : Nat} {no nc : Bool} {s u : State} {c : Cycle} (hu : u = takeContacts k no nc s) (h : u.core.opState = .closing)
    (hb : u.bothClosed = true) (hc : u.fe.closingSince = some c) (ht : u.since c ≤ 150) :
    execAuxContactChange k no nc s = .next (auxStage (smEvent { kind := .auxClosed } { u with fe := { u.fe with closingSince := none } })) := by
  have he : execAuxContactChange k no nc s = .next (auxStage (if u.core.opState = .closing && u.bothClosed && (match u.fe.closingSince with
        | some c => decide (u.since c ≤ 150)
        | none => false) then smEvent { kind := .auxClosed } { u with fe := { u.fe with closingSince := none } } else u)) := by rw [hu]; rfl
  rw [he, h, hb, hc]
  simp [ht]

theorem clearOnce_active (s : State) (source kind cls val : Nat) : (s.clearOnce source kind cls val).ranger.active = s.ranger.active := by
  unfold State.clearOnce
  split <;> rfl

theorem positionClears_active (k : Nat) (s : State) : (positionClears k s).ranger.active = s.ranger.active := by
  unfold positionClears
  extract_lets _ s1
  have h1 : s1.ranger.active = s.ranger.active := by
    simp only [s1]
    split
    · exact clearOnce_active ..
    · rfl
  split
  · exact (clearOnce_active ..).trans h1
  · exact h1

theorem voidHalf_fe (s : State) : (voidHalf s).fe = { s.fe with halfVoid := (voidHalf s).fe.halfVoid } := by
  unfold voidHalf
  split <;> rfl

/-- K+ is driven once only. -/
theorem closeKp_commanded {s : State} (h : s.fe.kp.commanded = true) : closeKp s = s := by
  unfold closeKp
  simp [h]

/-- The inputs of K+ change while it is driven and was not closed: it takes them, and of all else that decides on the closing nothing changes. -/
theorem takeContacts_closing {no nc : Bool} {s : State} (hk : s.fe.kp.commanded = true) (ho : s.fe.kp.no = false) :
    ∀ u, u = takeContacts 0 no nc s → u.core = s.core ∧ u.dict = s.dict ∧ u.ranger.active = s.ranger.active ∧ u.fe.kp.no = no ∧ u.fe.kp.nc = nc ∧
      u.fe.kn = s.fe.kn ∧ u.fe.closingSince = s.fe.closingSince := by
  rintro u rfl
  unfold takeContacts
  extract_lets was wasOpen old s1 s2 s3 _ s4
  have h2 : s2 = s1 := if_neg (by simp [old, State.contactor, ho])
  have h3 : Keeps (fun p => p = .fe) s1 s3 := by
    simp only [s3]
    rw [h2]
    exact keeps_ite (voidHalf_keeps _ (.refl _ _)) (.refl _ _)
  have h3f : s3.fe.kp = s1.fe.kp ∧ s3.fe.kn = s1.fe.kn ∧ s3.fe.closingSince = s1.fe.closingSince := by
    simp only [s3]
    rw [h2]
    split
    · rw [voidHalf_fe]; exact ⟨rfl, rfl, rfl⟩
    · exact ⟨rfl, rfl, rfl⟩
  have h4 := positionClears_keeps 0 s4 (.refl (fun p => p = .ranger) s4)
  rw [closeKp_commanded (by rw [h4.fe_eq]; exact (congrArg Contactor.commanded h3f.1).trans hk), h4.core_eq, h4.dict_eq, h4.fe_eq, positionClears_active]
  exact ⟨h3.core_eq, h3.dict_eq, congrArg Ranger.active h3.ranger_eq, congrArg Contactor.no h3f.1, congrArg Contactor.nc h3f.1, h3f.2.1, h3f.2.2⟩

/-- With a contact closed the weld check's auxiliary stage goes on. -/
theorem auxStage_closed {s : State} (h : s.fe.kp.no = true) : auxStage s = s := by
  unfold auxStage State.bothOpen State.confirmedOpen State.contactor
  simp [h]

theorem degraded_congr {s t : State} (hr : t.ranger.active = s.ranger.active) (hc : t.core = s.core) : t.degraded = s.degraded := by
  unfold State.degraded State.maxSev
  rw [hr, hc]

/-- K+ confirms its closing in time: the state machine takes it (R130). -/
theorem auxContactChange_closes {no nc : Bool} {s : State} {c : Cycle} (h0 : s.core.taken = none) (hst : s.core.opState = .closing)
    (hkn : s.confirmedClosed 1 = true) (hkp : s.fe.kp.commanded = true) (hno : s.fe.kp.no = false) (hn : no = true) (hw : s.ncWired 0 = false ∨ nc = false)
    (hc : s.fe.closingSince = some c) (ht : s.since c ≤ 150) :
    ∃ t, execAuxContactChange 0 no nc s = .next t ∧ t.core.opState = (if s.degraded then .derated else .online) ∧ t.fe.kp.no = no ∧ t.fe.kp.nc = nc := by
  obtain ⟨hcore, hdict, hact, hno', hnc, hkn', hcs⟩ := takeContacts_closing (no := no) (nc := nc) hkp hno _ rfl
  have he := execAuxContactChange_eq (k := 0) (no := no) (nc := nc) (s := s) (c := c) rfl
  generalize takeContacts 0 no nc s = u at *
  have hwired : ∀ k, u.ncWired k = s.ncWired k := fun k => by unfold State.ncWired; rw [cfg_congr hdict]
  have hclosed : u.bothClosed = true := by
    have h1 : u.confirmedClosed 1 = true := by
      simpa only [State.confirmedClosed, State.contactor, hwired, hkn', if_neg (show (1 : Nat) ≠ 0 by decide)] using hkn
    have h2 : u.confirmedClosed 0 = true := by
      simp only [State.confirmedClosed, State.contactor, hwired, hno', hnc, hn, if_true, Bool.true_and]
      rcases hw with hw | hw <;> simp [hw]
    rw [State.bothClosed, h1, h2]
    rfl
  have he := he (by rw [hcore, hst]) hclosed (by rw [hcs, hc]) (by unfold State.since; rw [hcore]; exact ht)
  generalize hv : ({ u with fe := { u.fe with closingSince := none } } : State) = v at he
  have hvc : v.core = s.core := by rw [← hv]; exact hcore
  have hdeg : v.degraded = s.degraded := degraded_congr (by rw [← hv]; exact hact) hvc
  have hvk : v.fe.kp.no = no ∧ v.fe.kp.nc = nc := by rw [← hv]; exact ⟨hno', hnc⟩
  have h1 : smTarget v v.core.opState { kind := .auxClosed } = some (if s.degraded then .derated else .online) := by
    rw [show v.core.opState = .closing from by rw [hvc, hst], ← hdeg]; rfl
  obtain ⟨w, hwf, hf, -, -⟩ := smEvent_fe (hvc ▸ h0) h1 nofun
  rw [entryActions_online_fe (by split <;> simp), hf] at hwf
  rw [auxStage_closed (by rw [hwf]; exact hvk.1.trans hn)] at he
  exact ⟨_, he, by rw [smEvent_enters (hvc ▸ h0) h1 nofun], by rw [hwf]; exact hvk.1, by rw [hwf]; exact hvk.2⟩

/-- Settles O12: each event has a row whose condition holds, so the state machine takes it; the entry's actions and the coils follow. -/
theorem stateEvents : Obligations.StateEvents := by
  intro s h0
  refine ⟨fun hst ha hcc => ?_, fun hst hp hcc => ?_, fun hst hr hb => ?_, fun ho hl hp => ?_, fun no nc c hst hkn hkp hno hn hw hc ht =>
    auxContactChange_closes h0 hst hkn hkp hno hn hw hc ht⟩
  · have h1 : smTarget s s.core.opState { kind := .checksPass } = some .closing := by rw [hst]; rfl
    have hcore := smEvent_enters h0 h1 nofun
    obtain ⟨u, hu, hf, hcy, -⟩ := smEvent_fe h0 h1 nofun
    obtain ⟨hc1, hc2, hc3⟩ := entryActions_closing_fe s.core.opState u
    refine ⟨smEvent { kind := .checksPass } s, ?_, by rw [hcore], by rw [hcore], by rw [hu, hc1], by rw [hu, hc2], by rw [hu, hc3, hcy]⟩
    show execChecksPass s = _
    unfold execChecksPass
    simp [hst, ha, hcc]
  · have hk := State.tellEvent_keeps s 0x0040 1 s.closeCheck [] (.refl (fun p => p = .tally) s)
    have hcore := smEvent_enters (e := { kind := .checkFails }) (s := s.tellEvent 0x0040 1 s.closeCheck []) (t := .isolated) (by rw [hk.core_eq, h0])
      (by rw [hk.core_eq, hst]; rfl) nofun
    refine ⟨smEvent { kind := .checkFails } (s.tellEvent 0x0040 1 s.closeCheck []), ?_, by rw [hcore], by rw [hcore]; exact congrArg Core.cycle hk.core_eq⟩
    show execPrecheckTimeout s = _
    unfold execPrecheckTimeout
    simp [hst, hp, hcc]
  · have h1 : smTarget (releaseCoils true s) (releaseCoils true s).core.opState { kind := .closeExpired } = some .tripping := by
      rw [show (releaseCoils true s).core.opState = .closing from hst]; rfl
    have hcore := smEvent_enters (s := releaseCoils true s) h0 h1 nofun
    obtain ⟨u, hu, hf, -, ho⟩ := smEvent_fe (s := releaseCoils true s) h0 h1 nofun
    rw [entryActions_tripping_fe _ ho, hf] at hu
    refine ⟨smEvent { kind := .closeExpired } (releaseCoils true s), ?_, by rw [hcore], by rw [hu]; rfl, by rw [hu]; rfl, by rw [hu]; rfl, by rw [hu]; rfl⟩
    show execCloseTimeout s = _
    unfold execCloseTimeout
    simp [hst, hr, hb]
  · have h1 : smTarget s s.core.opState { kind := .openTimeout } = some .tripping := by
      simp only [State.online, Bool.or_eq_true, decide_eq_true_eq] at hl
      rcases hl with hl | hl <;> rw [hl] <;> rfl
    have hcore := smEvent_enters h0 h1 nofun
    refine ⟨smEvent { kind := .openTimeout } s, ?_, by rw [hcore], by rw [hcore]; simp⟩
    show execOpenRequestTimeout s = _
    unfold execOpenRequestTimeout
    simp [ho, hl, hp]

end Sys2Proof.Machine
end

section
/-! SUPPORT. Writes that answer for themselves (R31, R413, R414, R428): SLEEP, envelope install, adoption; and COMMIT (R394). -/

namespace Sys2Proof.Machine

open Sys2Proof

/-! ### An accepted write of an object that answers itself -/

/-- An object that answers its writes itself, is not staged, and is kept by no dictionary entry. -/
def AnswersItself (idx sub : Nat) : Prop :=
  ownAnswer idx sub = true ∧ dispatchObject idx sub = false ∧ ∃ d, objDesc idx sub = some d ∧ d.staged = false ∧ d.access = 2

theorem sleep_answersItself : AnswersItself 0x9050 1 :=
  ⟨rfl, rfl, ⟨0x9050, 0x9050, 1, 1, 1, 2, 2, 0, 0, 0, 0, 1, "", "Sleep request"⟩, by decide +kernel, rfl, rfl⟩

theorem envelope_answersItself : AnswersItself 0x7850 1 :=
  ⟨rfl, rfl, ⟨0x7850, 0x7850, 1, 1, 16, 2, 5, 0, 2, 0, 0, 0, "", "Envelope document"⟩, by decide +kernel, rfl, rfl⟩

theorem adoption_answersItself : AnswersItself 0x7801 1 :=
  ⟨rfl, rfl, ⟨0x7801, 0x7801, 1, 1, 16, 2, 1, 0, 1, 0, 0, 0, "", "Adoption request"⟩, by decide +kernel, rfl, rfl⟩

/-- Such an object acts as soon as its write is accepted. -/
theorem acceptWrite_answersItself {idx sub : Nat} (h : AnswersItself idx sub) (sess req : Nat) (v : ObjVal) (s : State) :
    acceptWrite sess req idx sub v s = objectEffect sess sess req idx sub v s := by
  obtain ⟨ho, hn, d, hd, hs, -⟩ := h
  simp [acceptWrite, hd, hs, hn, ho]

/-- Of the objects from 0x7000 on, such an object leaves no value in the dictionary: what is left is its effect. -/
theorem objectEffect_answersItself {idx sub : Nat} (h : AnswersItself idx sub) (hi : 0x7000 ≤ idx) (sess req : Nat) (v : ObjVal) (s : State) :
    objectEffect sess sess req idx sub v s =
      if idx < 0x8000 then linkEffect sess sess req idx sub v s else systemEffect sess sess req idx sub v.toInt.toNat v s := by
  obtain ⟨-, hn, d, hd, -, ha⟩ := h
  simp [objectEffect, hd, hn, dictObject, ha, show ¬ idx < 0x3000 by omega, show ¬ idx < 0x6000 by omega, show ¬ idx < 0x7000 by omega]

/-- An accepted write goes from the state that serves it to what its acceptance gives. -/
theorem takes_of_acceptWrite {i : Instr} {s : State} {sess req idx sub : Nat} {v : ObjVal} {Q : State → Prop}
    (hw : writeOf i = some ⟨sess, req, idx, sub, v⟩) (he : exec i s = writeNow sess req idx sub v s)
    (hq : Q (acceptWrite sess req idx sub v (s.serving sess req))) : Takes i s Q := by
  rintro ⟨w, hw', ho, hv⟩
  obtain rfl : (⟨sess, req, idx, sub, v⟩ : Wr) = w := Option.some.inj (hw.symm.trans hw')
  refine ⟨_, he.trans (if_pos ho), ?_⟩
  show Q (writeChecked sess req idx sub v (s.verdict ⟨sess, req, idx, sub, v⟩) (s.serving sess req))
  rw [hv]
  exact hq

theorem takes_sleepRequest {a r : Nat} {s : State} {Q : State → Prop}
    (hq : Q (smEvent { kind := .sleep, session := a, req := r } (s.serving a r))) : Takes (.sleepRequest a r) s Q := by
  refine takes_of_acceptWrite rfl rfl ?_
  rw [acceptWrite_answersItself sleep_answersItself, objectEffect_answersItself sleep_answersItself (by decide)]
  exact hq

theorem takes_envelopeInstall {a r : Nat} {doc : Bytes} {s : State} {Q : State → Prop}
    (hq : Q (acceptEnvelope a r false doc (s.serving a r))) : Takes (.envelopeInstall a r doc) s Q := by
  refine takes_of_acceptWrite rfl rfl ?_
  rw [acceptWrite_answersItself envelope_answersItself, objectEffect_answersItself envelope_answersItself (by decide)]
  exact hq

theorem takes_adoptionRequest {a r : Nat} {doc : Bytes} {s : State} {Q : State → Prop}
    (hq : Q (effAdoption a a r doc (s.serving a r))) : Takes (.adoptionRequest a r doc) s Q := by
  refine takes_of_acceptWrite rfl rfl ?_
  rw [acceptWrite_answersItself adoption_answersItself, objectEffect_answersItself adoption_answersItself (by decide)]
  exact hq

/-- The answer to a write of a session, in the present cycle. -/
theorem reply_write {a : Nat} (ha : a ≠ 0xFFFF) (r idx sub c : Nat) (v : ObjVal) (s : State) :
    (s.reply a r 2 c).dict.responses = s.dict.responses ++ [s.writeAnswer ⟨a, r, idx, sub, v⟩ c] ∧
      (s.reply a r 2 c).core = s.core ∧ (s.reply a r 2 c).sec = s.sec := by
  unfold State.reply State.replyAt State.answer
  rw [if_neg ha]
  exact ⟨rfl, rfl, rfl⟩

/-! ### SLEEP (R31, R523) -/

/-- From ISOLATED with both contactors open the request is taken. -/
theorem smEvent_sleep {e : SmEvent} {s : State} (he : e.kind = .sleep) (h0 : s.core.taken = none) (hi : s.core.opState = .isolated)
    (hb : s.bothOpen = true) : (smEvent e s).core.opState = .sleep := by
  have ht : smTarget s s.core.opState e = some .sleep := by simp [smTarget, smRow, smCondition, he, hi, hb]
  rw [smEvent_enters h0 ht (by rw [he]; exact nofun)]

/-- No state but ISOLATED has a row for it. -/
theorem smRow_sleep {e : SmEvent} (he : e.kind = .sleep) {st : OpState} (h : st ≠ .isolated) (s : State) : smRow s st e = none := by
  unfold smRow
  rw [he]
  cases st
  case isolated => exact absurd rfl h
  all_goals rfl

/-- Elsewhere the request is refused at once. -/
theorem smEvent_sleep_refused {e : SmEvent} {s : State} (he : e.kind = .sleep) (h0 : s.core.taken = none) (hi : s.core.opState ≠ .isolated) :
    smEvent e s = s.reply e.session e.req 2 (abortArg 0x04020000 s.core.opState.code) := by
  simp [smEvent, h0, smTarget, smRow_sleep he hi, he, SmKind.request, answerRequest, requestAbort]

/-! ### Envelope install (R428, R429) -/

/-- A checked envelope waits for its self-test behind those that wait already; the one in force stands. -/
theorem acceptEnvelope_waits (a r : Nat) (doc : Bytes) (s : State) :
    (acceptEnvelope a r false doc s).fb.envelope = s.fb.envelope ∧ ∃ p, (acceptEnvelope a r false doc s).fb.envPending = s.fb.envPending ++ [p] ∧
      p.doc = doc ∧ p.fields = envFields doc ∧ p.seq = fieldN doc 8 4 ∧ p.selfTest = true ∧ p.effective = none ∧ p.partner = s.inPair ∧
      p.session = a ∧ p.req = r := by
  unfold acceptEnvelope
  extract_lets pair p _ s1
  have hfb : (if pair then tetherInput (.envelope doc) s1.core.cycle s1 else s1).fb = s1.fb :=
    (keeps_ite (A := fun q => q == .pair) (tetherInput_keeps _ _ _ (.refl _ s1)) (.refl _ s1)).fb_eq
  rw [hfb]
  exact ⟨rfl, p, rfl, rfl, rfl, rfl, rfl, rfl, Bool.and_true _, rfl, rfl⟩

/-! ### The end of every session (R403, R413) -/

/-- A context that becomes FREE has no record among the sessions left, and the security counters and anchors stand. -/
def Frees (f : State → Nat → State) : Prop := ∀ s n,
  (∀ e ∈ (f s n).dict.sessions, e ∈ s.dict.sessions ∧ e.1 ≠ n) ∧ ∃ x, (f s n).sec = { s.sec with fast := x }

/-- Freeing one context after another frees them all. -/
theorem Frees.foldl {f : State → Nat → State} (h : Frees f) (ns : List Nat) (s : State) :
    (∀ e ∈ (ns.foldl f s).dict.sessions, e ∈ s.dict.sessions ∧ e.1 ∉ ns) ∧ ∃ x, (ns.foldl f s).sec = { s.sec with fast := x } := by
  induction ns generalizing s with
  | nil => exact ⟨fun e he => ⟨he, List.not_mem_nil⟩, _, rfl⟩
  | cons n ns ih =>
    obtain ⟨hs, x, hx⟩ := h s n
    obtain ⟨hs', y, hy⟩ := ih (f s n)
    refine ⟨fun e he => ?_, y, by rw [List.foldl_cons, hy, hx]⟩
    obtain ⟨h1, h2⟩ := hs' e he
    obtain ⟨h3, h4⟩ := hs e h1
    exact ⟨h3, by simp [h2, h4]⟩

theorem freeContext_frees : Frees freeContext := by
  intro s n
  have hd : (freeContext s n).dict.sessions = Tab.drop s.dict.sessions n := by
    unfold freeContext
    split <;> split <;> rfl
  refine ⟨fun e he => ?_, ?_⟩
  · rw [hd] at he
    simpa [Tab.drop] using he
  · unfold freeContext
    split <;> split <;> exact ⟨_, rfl⟩

theorem endSession_frees : Frees endSession := by
  intro s n
  unfold endSession
  extract_lets kids
  obtain ⟨hs, x, hx⟩ := freeContext_frees.foldl kids s
  obtain ⟨hs', y, hy⟩ := freeContext_frees (kids.foldl freeContext s) n
  refine ⟨fun e he => ?_, y, by rw [hy, hx]⟩
  obtain ⟨h1, h2⟩ := hs' e he
  exact ⟨(hs e h1).1, h2⟩

/-- When every session has ended, every context is FREE. -/
theorem endAll_free (s : State) : (∀ n, ((endAll s).session n).state = .free) ∧ ∃ x, (endAll s).sec = { s.sec with fast := x } := by
  unfold endAll endWhere
  obtain ⟨hs, hx⟩ := endSession_frees.foldl ((s.dict.sessions.filter fun _ => true).map Prod.fst) s
  refine ⟨fun n => ?_, hx⟩
  have hnil : (((s.dict.sessions.filter fun _ => true).map Prod.fst).foldl endSession s).dict.sessions = [] := by
    refine List.eq_nil_iff_forall_not_mem.2 fun e he => ?_
    obtain ⟨h1, h2⟩ := hs e he
    exact h2 (List.mem_map.2 ⟨e, List.mem_filter.2 ⟨h1, rfl⟩, rfl⟩)
  unfold State.session
  rw [hnil]
  rfl

/-! ### Adoption (R413, R414) -/

/-- A read of a table made of one entry for each number of a list. -/
theorem at_map_pair {α : Type} (f : Nat → α) (d : α) {l : List Nat} {k : Nat} (h : k ∈ l) : Tab.at (l.map fun i => (i, f i)) k d = f k := by
  induction l with
  | nil => cases h
  | cons j l ih =>
    rw [List.map_cons, Tab.at_cons]
    split
    case isTrue hj => rw [hj]
    case isFalse hj => exact ih ((List.mem_cons.1 h).resolve_left (Ne.symm hj))

/-- What an accepted adoption request stores. -/
theorem adopt_stores (doc : Bytes) (s : State) : (adopt doc s).sec.adopted = true ∧ (adopt doc s).sec.stringId = fieldN doc 8 16 ∧
    (adopt doc s).sec.verifyKey = some (slice doc 24 64) ∧ (adopt doc s).sec.failures = 0 ∧ (∀ n, ((adopt doc s).session n).state = .free) ∧
    ∀ i, 1 ≤ i → i ≤ fieldN doc 5 1 → Tab.at (adopt doc s).sec.anchors i [] = anchorOf doc i := by
  unfold adopt
  extract_lets ns anchors masks
  obtain ⟨hfree, x, hx⟩ := endAll_free (journalSecurity { s with sec := { s.sec with
    adopted := true, stringId := fieldN doc 8 16, verifyKey := some (slice doc 24 64), anchors := anchors, masks := masks,
    failures := 0, waitLen := 0, waitFrom := none } })
  rw [hx]
  refine ⟨rfl, rfl, rfl, rfl, hfree, fun i h1 h2 => ?_⟩
  exact at_map_pair (anchorOf doc) [] ((mem_upFrom ..).2 (by omega))

/-- A session's binding is the same while it is served. -/
theorem binding_serving (s : State) (a r : Nat) : (s.serving a r).binding a = s.binding a := by
  unfold State.binding State.serving beginService
  rw [session_modSession, if_pos rfl]

/-- A request whose code and content pass adopts the module. -/
theorem effAdoption_adopts {sess dest req : Nat} {doc : Bytes} {s : State} (hk : s.codeOk (s.binding sess) doc = true) (hc : adoptionContent doc = 0) :
    effAdoption sess dest req doc s = adopt doc s := by
  simp [effAdoption, takeAdoption, hk, hc]

/-- A request whose code fails is counted, and refused with the tries left before a wait. -/
theorem effAdoption_fails {sess dest req : Nat} {doc : Bytes} {s : State} (hk : s.codeOk (s.binding sess) doc = false) :
    effAdoption sess dest req doc s = (codeFailed s).reply dest req 2 (abortArg abCode (3 - inc8 s.sec.failures)) := by
  have hn : ∀ n, abortArg abCode n ≠ 0 := fun n => by unfold abortArg abCode; omega
  simp [effAdoption, takeAdoption, hk, hn]
  rfl

/-! ### COMMIT (R149, R394) -/

theorem gives_commit {a r : Nat} {s : State} {Q : State → Prop} (ho : s.sessOpen a = true) (hq : Q (serveCommit a r (s.serving a r))) :
    Gives (.commit a r) s Q := ⟨_, if_pos ho, hq⟩

/-- A COMMIT waits for its boundary, and the partner is told. -/
theorem effCommit_waits (a r type : Nat) (s : State) :
    (effCommit a r type s).dict = { s.dict with commit := s.dict.commit ++ [
      { effective := s.effective, vals := s.dict.staged, session := a, req := r, type := type }] } := by
  unfold effCommit
  exact (replicate_keeps (A := fun p => p == .pair) _ _ _ (.refl _ _)).dict_eq

/-- Settles O50: each request through the rule of its object; COMMIT through its own check. -/
theorem selfAnsweredRequests : Obligations.SelfAnsweredRequests := by
  intro s a r
  refine ⟨fun hi h0 hb => ?_, fun h0 hi ha => ?_, fun doc => ?_, fun doc hk hc => ?_, fun doc hk ha => ?_, fun ho hc => ?_, fun ho ha hc => ?_⟩
  · exact takes_sleepRequest (smEvent_sleep rfl h0 hi hb)
  · refine takes_sleepRequest ?_
    rw [smEvent_sleep_refused (s := s.serving a r) rfl h0 hi]
    obtain ⟨hr, hcore, -⟩ := reply_write ha r 0x9050 1 (abortArg 0x04020000 s.core.opState.code) (.num 1) (s.serving a r)
    exact ⟨hcore, hr⟩
  · exact takes_envelopeInstall (acceptEnvelope_waits a r doc (s.serving a r))
  · refine takes_adoptionRequest ?_
    rw [effAdoption_adopts (by rw [binding_serving]; exact hk) hc]
    exact adopt_stores doc (s.serving a r)
  · refine takes_adoptionRequest ?_
    rw [effAdoption_fails (s := s.serving a r) (by rw [binding_serving]; exact hk), show (s.serving a r).sec.failures = s.sec.failures from rfl]
    obtain ⟨hr, -, hsec⟩ := reply_write ha r 0x7801 1 (abortArg abCode (3 - inc8 s.sec.failures)) (.bytes doc) (codeFailed (s.serving a r))
    exact ⟨by rw [hsec]; rfl, by rw [hsec]; rfl, by rw [hsec]; rfl, hr⟩
  · refine gives_commit ho ?_
    unfold serveCommit
    rw [if_pos hc]
    have hk : Keeps (fun p => [Part.dict, .pair].contains p) s (s.serving a r) := beginService_keeps a r s.core.cycle s (.refl _ s) (by decide)
    refine ⟨(effCommit_keeps a r 8 _ hk (by decide) (by decide)).changesOnly, ?_⟩
    rw [effCommit_waits]
    exact ⟨rfl, rfl, rfl, rfl⟩
  · refine gives_commit ho ?_
    unfold serveCommit
    generalize (s.serving a r).entryCheck a 0x1F00 1 (.num 1) = c at hc ⊢
    rw [if_neg hc]
    have hk : Keeps (fun p => [Part.dict].contains p) s (s.serving a r) := beginService_keeps a r s.core.cycle s (.refl _ s) (by decide)
    refine ⟨(State.reply_keeps _ a r 8 _ hk (by decide)).changesOnly, ?_⟩
    unfold State.reply State.replyAt State.answer
    rw [if_neg ha]
    exact ⟨rfl, rfl, _, rfl, rfl, rfl, rfl⟩

end Sys2Proof.Machine
end

section
/-! SUPPORT. What a head does with a frame that it executes for the first time (R51, R52, R86): one rule for every command, then each command by its own act. -/

namespace Sys2Proof.Machine

open Sys2Proof

/-- Head `g` as it stands while the frame that `h` heard goes on and its response area is still empty (R50, R51). -/
def Head.relays (h g : Head) (f : Frame) : Head :=
  { g with passedOn := some (onwardAddress f, h.exit f.port), returned := [] }

/-- A head asleep takes no frame, so one that takes it is in a state that hears commands (R85). -/
theorem Head.hears_of_takes {h : Head} {f : Frame} (ht : h.takes f = true) : anyHead.contains h.state = true := by
  unfold Head.takes at ht
  cases hs : h.state <;> simp_all [anyHead]

/-- A new frame whose payload and state pass is carried out, answered and passed on. -/
theorem headCommand_says {s : State} {place : Nat} {f : Frame} {lenOk : Bool} {states : List HeadState} {act : Head → HeadResponse × Head} {g : Head}
    {r : HeadResponse} (hn : HearsNew s place f) (hl : lenOk = true) (hs : states.contains (s.head place).state = true)
    (ha : act ((s.head place).relays (s.head place) f) = (r, (s.head place).relays g f)) :
    headCommand place f lenOk states act s = s.withHead place ((s.head place).said g f r) := by
  obtain ⟨ht, hnew, hlisted, hextra⟩ := hn
  have hawake : (s.head place).state ≠ .lowPower := fun e => by
    have := Head.hears_of_takes ht
    rw [e] at this
    exact absurd this (by decide)
  have hrun : headCommand.run place f lenOk states act s ((s.head place).relays (s.head place) f)
      = s.withHead place ((s.head place).said g f r) := by
    have hs' : states.contains ((s.head place).relays (s.head place) f).state = true := hs
    simp only [headCommand.run, hlisted, hl, hextra, hs', ha]
    rfl
  unfold headCommand
  dsimp only
  split
  · exact absurd ‹_› hawake
  split
  next hno => exact absurd (show (!(s.head place).takes f) = true from hno) (by simp [ht])
  split
  next q _ hlast => exact (if_neg (hnew q _ hlast)).trans hrun
  next => exact hrun

/-! ### Payload fields -/

@[simp] theorem fieldN_cons_succ (b : Byte) (l : Bytes) (off n : Nat) : fieldN (b :: l) (off + 1) n = fieldN l off n := rfl

@[simp] theorem fieldN_cons_zero (b : Byte) (l : Bytes) : fieldN (b :: l) 0 1 = b.toNat := rfl

/-! ### The commands -/

/-- The outcome of a head command whose frame is carried out (R51, R52). -/
theorem next_headCommand_says {s : State} {place : Nat} {f : Frame} {lenOk : Bool} {states : List HeadState} {act : Head → HeadResponse × Head} {g : Head}
    {r : HeadResponse} (hn : HearsNew s place f) (hl : lenOk = true) (hs : states.contains (s.head place).state = true)
    (ha : act ((s.head place).relays (s.head place) f) = (r, (s.head place).relays g f)) :
    Host.Outcome.next (headCommand place f lenOk states act s) = (.next (s.withHead place ((s.head place).said g f r)) : Out) :=
  congrArg _ (headCommand_says hn hl hs ha)

/-- SET-POSITION, SET-DELAY and CONFIGURE are accepted before and after a head is enumerated (R86). -/
theorem contains_of_initial_or_enumerated {st : HeadState} (h : st = .initial ∨ st = .enumerated) :
    ([.initial, .enumerated] : List HeadState).contains st = true := by
  rcases h with rfl | rfl <;> rfl

/-- Settles O19: each command by the rule of a frame carried out, with its own act. -/
theorem headSetUpCommands : Obligations.HeadSetUpCommands := by
  rintro s place f h rfl hn
  have hany := Head.hears_of_takes hn.1
  refine ⟨next_headCommand_says hn rfl hany rfl, fun hi => ?openHead, fun p hs h1 h64 => ?setPosition, fun payload hs hlen => ?setDelay,
    fun payload hs hlen h1 h16 => ?configure, fun he hw => ?unwrap, next_headCommand_says hn rfl hany rfl, next_headCommand_says hn rfl hany rfl,
    fun payload h1 h123 => ?echo⟩
  case openHead => exact next_headCommand_says hn rfl (by rw [hi]; rfl) rfl
  case setPosition =>
    refine next_headCommand_says hn rfl (contains_of_initial_or_enumerated hs) ?_
    simp only [fieldN_cons_zero, h1, h64, decide_true, Bool.and_self, if_true]
    rfl
  case setDelay => exact next_headCommand_says hn (decide_eq_true hlen) (contains_of_initial_or_enumerated hs) rfl
  case configure =>
    refine next_headCommand_says hn (decide_eq_true hlen) (contains_of_initial_or_enumerated hs) ?_
    simp only [h1, h16, decide_true, Bool.and_self, if_true]
    rfl
  case unwrap =>
    refine next_headCommand_says hn rfl (by rw [he]; rfl) ?_
    exact if_pos hw
  case echo => exact next_headCommand_says hn (by simp [h1, h123]) hany rfl

/-- A slot in range that the head has no ground to refuse is accepted in place of those it overlaps (R91). -/
theorem execBleedSlot_accepts {s : State} {place : Nat} {f : Frame} {payload : Bytes} {b : BleedSlot} (hn : HearsNew s place f)
    (he : (s.head place).state = .enumerated) (hlen : payload.length = 6)
    (hb : b = { start := fieldN payload 0 2, mask := BitVec.ofNat 16 (fieldN payload 2 2), len := fieldN payload 4 1, continuous := fieldN payload 5 1 = 1 })
    (h1 : 1 ≤ b.len) (h100 : b.len ≤ 100) (hmode : fieldN payload 5 1 ≤ 1) (hmask : b.mask.toNat < 2 ^ (s.head place).n)
    (href : (s.head place).refuses b.mask b.continuous = false) :
    execBleedSlot place f payload s = .next (s.withHead place ((s.head place).said
      { s.head place with slots := (s.head place).slots.filter (fun o => !o.overlaps b) ++ [b] } f { status := 0, data := le 1 opBleedSlot })) := by
  refine next_headCommand_says hn (decide_eq_true hlen) (by rw [he]; rfl) ?_
  subst hb
  dsimp only at h1 h100 hmask href ⊢
  have hrange : ¬(decide (fieldN payload 4 1 = 0) || decide (100 < fieldN payload 4 1) || decide (1 < fieldN payload 5 1)
      || decide (2 ^ (s.head place).n ≤ (BitVec.ofNat 16 (fieldN payload 2 2)).toNat)) = true := by
    simp only [Bool.or_eq_true, decide_eq_true_eq]; omega
  exact (if_neg hrange).trans (if_neg (Bool.eq_false_iff.1 href))

/-- A head with no test running and a tap and length in range begins an open-wire test (R90). -/
theorem execOwTest_accepts {s : State} {place : Nat} {f : Frame} {tap k : Byte} (hn : HearsNew s place f) (he : (s.head place).state = .enumerated)
    (ht : (s.head place).testing = false) (htap : tap.toNat ≤ (s.head place).n) (h1 : 1 ≤ k.toNat) (h8 : k.toNat ≤ 8) :
    execOwTest place f [tap, k] s = .next (s.withHead place ((s.head place).said
      { s.head place with owTest := some { tap := tap.toNat, k := k.toNat, cr := (s.head place).cycle } } f { status := 0, data := le 1 opOwTest })) := by
  refine next_headCommand_says hn rfl (by rw [he]; rfl) ?_
  have hrange : ¬(decide ((s.head place).n < tap.toNat) || decide (k.toNat = 0) || decide (8 < k.toNat)) = true := by
    simp only [Bool.or_eq_true, decide_eq_true_eq]; omega
  exact (if_neg (Bool.eq_false_iff.1 ht)).trans (if_neg hrange)

/-- A head with no test running and a cell and length in range begins a switch test and gives up its slots (R247). -/
theorem execSwitchTest_accepts {s : State} {place : Nat} {f : Frame} {cell m : Byte} (hn : HearsNew s place f) (he : (s.head place).state = .enumerated)
    (ht : (s.head place).testing = false) (h1 : 1 ≤ cell.toNat) (hcell : cell.toNat ≤ (s.head place).n) (hm : 1 ≤ m.toNat) (h20 : m.toNat ≤ 20) :
    execSwitchTest place f [cell, m] s = .next (s.withHead place ((s.head place).said
      { s.head place with swTest := some { cell := cell.toNat, m := m.toNat, cr := (s.head place).cycle }, slots := [] } f
        { status := 0, data := le 1 opSwitchTest })) := by
  refine next_headCommand_says hn rfl (by rw [he]; rfl) ?_
  have hrange : ¬(decide (cell.toNat = 0) || decide ((s.head place).n < cell.toNat) || decide (m.toNat = 0) || decide (20 < m.toNat)) = true := by
    simp only [Bool.or_eq_true, decide_eq_true_eq]; omega
  exact (if_neg (Bool.eq_false_iff.1 ht)).trans (if_neg hrange)

theorem head_withHead (s : State) (place : Nat) (h : Head) : (s.withHead place h).head place = h := Tab.at_put_same ..

/-- A head with no test running and a length in range measures its reference (R92). -/
theorem headCommand_testRef {s : State} {place : Nat} {f : Frame} {n : Byte} (hn : HearsNew s place f) (he : (s.head place).state = .enumerated)
    (ht : (s.head place).testing = false) (h1 : 1 ≤ n.toNat) (h16 : n.toNat ≤ 16) :
    headCommand place f true [.enumerated] (fun h => testRefHead h [n]) s
      = s.withHead place ((s.head place).said { s.head place with refCycles := n.toNat } f { status := 0, data := le 1 opTestRef }) := by
  refine headCommand_says hn rfl (by rw [he]; rfl) ?_
  have hrange : ¬(decide (n.toNat = 0) || decide (16 < n.toNat)) = true := by simp only [Bool.or_eq_true, decide_eq_true_eq]; omega
  exact (if_neg (Bool.eq_false_iff.1 ht)).trans (if_neg hrange)

/-- TEST-REF on a head whose command leaves `u`: the tap monitor hears of it where the head has a position, its reference was not measured before
and now is, and the Yarder may send the command (R92). -/
theorem execTestRef_of {s u : State} {place : Nat} {f : Frame} {payload : Bytes}
    (hu : headCommand place f (payload.length = 1) [.enumerated] (fun h => testRefHead h payload) s = u) :
    ((u.head place).p = none ∨ s.maySend opTestRef = false → execTestRef place f payload s = .next u) ∧
    (∀ p, (u.head place).p = some p → (s.head place).refCycles = 0 → (u.head place).refCycles ≠ 0 → s.maySend opTestRef = true →
      execTestRef place f payload s = .next { u with tap := { u.tap with
        refUntil := Tab.put u.tap.refUntil p (s.ahead (fieldN payload 0 1)), refBad := Tab.drop u.tap.refBad p } }) := by
  unfold execTestRef
  rw [hu]
  dsimp only
  refine ⟨fun h => ?_, fun p hp h0 hne hm => ?_⟩
  · split
    · rename_i p hp
      have hm := h.resolve_left (by rw [hp]; exact Option.some_ne_none p)
      exact if_neg (by rw [hm, Bool.and_false]; decide)
    · rfl
  · rw [hp]
    exact if_pos (by simp [h0, hne, hm])

/-- Settles O20: each command by the lemma of its accepted form. -/
theorem headBleedAndTestCommands : Obligations.HeadBleedAndTestCommands := by
  rintro s place f h rfl hn
  refine ⟨next_headCommand_says hn rfl (Head.hears_of_takes hn.1) rfl, fun he => ⟨fun payload b hlen hb h1 h100 hmode hmask href => ?_, fun ht =>
    ⟨fun tap k htap h1 h8 => ?_, fun cell m h1 hcell hm h20 => ?_, fun n u h1 h16 hu => ⟨fun hno => ?_, fun p hmay hp => ?_⟩⟩⟩⟩
  · exact execBleedSlot_accepts hn he hlen hb h1 h100 hmode hmask href
  · exact execOwTest_accepts hn he ht htap h1 h8
  · exact execSwitchTest_accepts hn he ht h1 hcell hm h20
  · subst hu
    exact (execTestRef_of (headCommand_testRef hn he ht h1 h16)).1 (by rw [head_withHead]; exact hno.symm)
  · subst hu
    have hidle : (s.head place).refCycles = 0 := by simpa using (Bool.or_eq_false_iff.1 ht).2
    have hrun : n.toNat ≠ 0 := by omega
    exact (execTestRef_of (headCommand_testRef hn he ht h1 h16)).2 p (by rw [head_withHead]; exact hp) hidle (by rw [head_withHead]; exact hrun) hmay

end Sys2Proof.Machine
end

section
/-! SUPPORT. The tap monitor's qualified sums and open-wire tests (R98, R99, R101, R102, R103): what the start of a test leaves alone, and what a test makes
of its tap. -/

namespace Sys2Proof.Machine

open Sys2Proof

/-! ### The start of a test -/

/-- Of the tap monitor only the values kept as safe, the tests and the taps waiting for one differ. -/
def TestsOnly (s t : State) : Prop :=
  t.tap = { s.tap with vSafe := t.tap.vSafe, tests := t.tap.tests, testQueue := t.tap.testQueue }

theorem TestsOnly.of_eq {s t : State} (h : t.tap = s.tap) : TestsOnly s t := by rw [TestsOnly, h]

theorem TestsOnly.refl (s : State) : TestsOnly s s := .of_eq rfl

theorem TestsOnly.trans {s t u : State} (h : TestsOnly s t) (h' : TestsOnly t u) : TestsOnly s u := by
  rw [TestsOnly] at *
  rw [h', h]

theorem TestsOnly.fields {s t : State} (h : TestsOnly s t) : t.tap.diag = s.tap.diag ∧ t.tap.tapState = s.tap.tapState ∧
    t.tap.lastTest = s.tap.lastTest ∧ t.tap.nextTap = s.tap.nextTap ∧ t.tap.dueAt = s.tap.dueAt := by
  rw [TestsOnly] at h
  rw [h]
  exact ⟨rfl, rfl, rfl, rfl, rfl⟩

theorem foldl_testsOnly {α : Type} {f : State → α → State} (hf : ∀ s a, TestsOnly s (f s a)) (l : List α) (s : State) : TestsOnly s (l.foldl f s) := by
  induction l generalizing s with
  | nil => exact .refl _
  | cons a t ih => exact (hf s a).trans (ih _)

theorem keepSafe_testsOnly (s : State) (p tap : Nat) : TestsOnly s (s.keepSafe p tap) := by
  unfold State.keepSafe
  split
  · exact .refl s
  · refine foldl_testsOnly (fun s k => ?_) _ s
    dsimp only
    split
    · exact rfl
    · exact .refl s

theorem startOwTest_testsOnly (p tap : Nat) (s : State) : TestsOnly s (startOwTest p tap s) := by
  unfold startOwTest
  split
  · exact rfl
  · extract_lets k s1 s2
    have h2 : s2.tap = (s.keepSafe p tap).tap := (State.command_other s1 true p opOwTest _).2.2.1
    exact (keepSafe_testsOnly s p tap).trans ((TestsOnly.of_eq h2).trans rfl)

/-- The start of a test sends no message and clears none. -/
theorem startOwTest_ranger (p tap : Nat) (s : State) : (startOwTest p tap s).ranger = s.ranger :=
  (startOwTest_keeps p tap s (A := fun q => q != .ranger) (.refl _ s) rfl rfl rfl rfl).ranger_eq

/-- On a head that runs no test the test of the tap is the one under evaluation (R101). -/
theorem startOwTest_owTesting {p : Nat} (tap : Nat) {s : State} (h : s.owTesting p = none) :
    (startOwTest p tap s).owTesting p = some { tap := tap, k := s.cfg 0x2103 2, sentAt := s.core.cycle } := by
  unfold startOwTest
  rw [h]
  extract_lets _ k s1 s2
  have hc : s2.core = s.core := by
    rw [(State.command_other s1 true p opOwTest _).1]
    exact (emptyMap_keeps p (k + 2) _ (A := fun q => q != .core) (State.keepSafe_keeps s p tap (.refl _ s) rfl) rfl rfl).core_eq
  show Tab.find (Tab.put s2.tap.tests p _) p = _
  rw [Tab.find_put_same, hc]

/-! ### Sums -/

theorem diag_setDiag (s : State) (p : Nat) {i : Nat} (v : Bool) (hi : i < 8) : ((s.setDiag p i v).diag p).getLsbD i = v := by
  show ((Tab.at (Tab.put s.tap.diag p (setBit (s.diag p) i v)) p 0).getLsbD i) = v
  rw [Tab.at_put_same, getLsbD_setBit]
  simp [hi]

theorem raiseOnce_tap (s : State) (source kind : Nat) (sev : Sev) (cls val : Nat) : (s.raiseOnce source kind sev cls val).tap = s.tap :=
  (State.raiseOnce_keeps s source kind sev cls val (A := fun q => q != .tap) (.refl _ s) rfl).tap_eq

/-- The tests of several taps of a head, one after the other: the diagnosis and the faults stay. -/
theorem foldl_startOwTest (p : Nat) (l : List Nat) (s : State) : (l.foldl (fun s t => startOwTest p t s) s).tap.diag = s.tap.diag ∧
    (l.foldl (fun s t => startOwTest p t s) s).ranger = s.ranger := by
  obtain ⟨hdiag, -⟩ := (foldl_testsOnly (fun s t => startOwTest_testsOnly p t s) l s).fields
  exact ⟨hdiag, (keeps_foldl (fun x t h => startOwTest_keeps p t x h rfl rfl rfl rfl) (.refl (fun q => q != .ranger) s)).ranger_eq⟩

/-- A head whose sum is diagnosed and reported, its scheduled round of tests begun anew (R98, R101). -/
def headSumDiagnosed (p : Nat) (s : State) : State :=
  let s := (s.setDiag p 0 true).raiseOnce 0x018 0x34 .degrade 2 (headTap p 0xFF)
  { s with tap := { s.tap with nextTap := Tab.put s.tap.nextTap p 0, dueAt := Tab.put s.tap.dueAt p (s.ahead (s.cfg 0x2103 1 * 1000)) } }

theorem headSumDiagnosed_taken (p : Nat) (s : State) :
    ((headSumDiagnosed p s).diag p).getLsbD 0 = true ∧ (headSumDiagnosed p s).raised 0x018 0x34 2 (p * 256 + 255) = true := by
  refine ⟨?_, raised_raiseOnce ..⟩
  have h := congrArg TapMon.diag (raiseOnce_tap (s.setDiag p 0 true) 0x018 0x34 .degrade 2 (headTap p 0xFF))
  rw [State.diag, show (headSumDiagnosed p s).tap.diag = (s.setDiag p 0 true).tap.diag from h]
  exact diag_setDiag s p true (by decide)

/-- A mismatch that has lasted, is not diagnosed yet and that no open end tap explains is diagnosed, and the head's taps are tested, end taps first. -/
theorem execHeadSumMismatch_diagnoses {p : Nat} {s : State} (h10 : 10 ≤ Tab.nat s.tap.sumBad p) (hd : (s.diag p).getLsbD 0 = false)
    (h0 : s.tapState p 0 ≠ 4) (hn : s.tapState p (s.channels p) ≠ 4) : execHeadSumMismatch p s =
      .next (([0, s.channels p] ++ upFrom 1 (s.channels p - 1)).foldl (fun s t => startOwTest p t s) (headSumDiagnosed p s)) := by
  refine if_neg ?_
  rw [hd]
  simpa [h0, hn] using h10

/-- Settles O24: the tests that a head sum starts leave its diagnosis and its fault as they are. -/
theorem tapSumMismatches : Obligations.TapSumMismatches := by
  intro s
  refine ⟨fun p h10 hd h0 hn => ⟨_, execHeadSumMismatch_diagnoses h10 hd h0 hn, ?_⟩, fun h10 => ⟨_, if_pos h10, raised_raiseOnce ..⟩⟩
  obtain ⟨hdiag, hranger⟩ := foldl_startOwTest p ([0, s.channels p] ++ upFrom 1 (s.channels p - 1)) (headSumDiagnosed p s)
  rw [State.diag, hdiag, raised_congr hranger]
  exact headSumDiagnosed_taken p s

/-! ### Tap states -/

theorem tapState_congr {s t : State} (h : t.tap.tapState = s.tap.tapState) (p tap : Nat) : t.tapState p tap = s.tapState p tap := by
  rw [State.tapState, h, State.tapState]

theorem tapState_setTap (s : State) (p tap v : Nat) : (s.setTap p tap v).tapState p tap = v := Tab.at_put_same ..

theorem clearOnce_tap (s : State) (source kind cls val : Nat) : (s.clearOnce source kind cls val).tap = s.tap :=
  (State.clearOnce_keeps s source kind cls val (A := fun q => q != .tap) (.refl _ s) rfl).tap_eq

theorem tapFlags_tap (p tap : Nat) (s : State) : (tapFlags p tap s).tap = s.tap :=
  (tapFlags_keeps p tap s (A := fun q => q != .tap) (.refl _ s) rfl).tap_eq

/-- Recurrence counts suspicions and moves no tap (R103). -/
theorem transient_tapState (p tap : Nat) (s : State) : (transient p tap s).tap.tapState = s.tap.tapState := by
  unfold transient
  dsimp only
  split
  · rw [raiseOnce_tap]
  · rfl

/-- An open tap is in state 4 with its fault raised (R102, R103). -/
theorem tapOpen_taken (p tap : Nat) (inj : Bool) (s : State) :
    (tapOpen p tap inj s).tapState p tap = 4 ∧ (tapOpen p tap inj s).raised 0x018 0x33 2 (p * 256 + tap) = true := by
  unfold tapOpen
  extract_lets s1
  have h : s1.tapState p tap = 4 := (tapState_congr (by rw [tapFlags_tap]) p tap).trans (tapState_setTap s p tap 4)
  split
  · exact ⟨h, ‹_›⟩
  · exact ⟨h, raised_reportInj ..⟩

/-- What an intact test makes of its tap (R102, R107). -/
theorem tapIntact_tapState (p tap : Nat) (s : State) : (tapIntact p tap s).tapState p tap =
    if s.tapState p tap = 2 then (if Tab.flag s.tap.wasHigh (tapKey p tap) then 3 else 0)
    else if s.tapState p tap = 1 then 0 else s.tapState p tap := by
  unfold tapIntact
  extract_lets key _ s1
  have h1 : s1.tapState p tap = s.tapState p tap := tapState_congr rfl p tap
  split
  next h2 =>
    rw [if_pos (h1.symm.trans h2)]
    exact (tapState_congr (by rw [transient_tapState, tapFlags_tap, clearOnce_tap]) p tap).trans (tapState_setTap s1 p tap _)
  next h2 =>
    rw [if_neg (by rw [← h1, h2]; decide), if_pos (h1.symm.trans h2)]
    exact tapState_setTap s1 p tap 0
  next h2 h3 =>
    rw [if_neg (fun e => h2 (h1.trans e)), if_neg (fun e => h3 (h1.trans e))]
    exact h1

/-! ### Evaluation -/

/-- The state in which a test's plausible drive is judged: what the channels were suspected of is taken back (R102). -/
def drivePlausible (p tap : Nat) (s : State) : State := chanDiag p (s.clearOnce 0x018 0x36 2 (headTap p tap))

theorem drivePlausible_tap (p tap : Nat) (s : State) :
    (drivePlausible p tap s).tap.tapState = s.tap.tapState ∧ (drivePlausible p tap s).tap.wasHigh = s.tap.wasHigh := by
  have h := clearOnce_tap s 0x018 0x36 2 (headTap p tap)
  have hstate := congrArg TapMon.tapState h
  have hhigh := congrArg TapMon.wasHigh h
  exact ⟨hstate, hhigh⟩

/-- The state in which a drive that is not small is judged: the run of intact tests and the suspicion are over (R102, R107). -/
def driveLarge (p tap : Nat) (s : State) : State :=
  let s := drivePlausible p tap s
  ({ s with tap := { s.tap with intactTests := Tab.drop s.tap.intactTests (tapKey p tap) } } : State).clearOnce 0x018 0x30 2 (headTap p tap)

theorem driveLarge_tapState (p tap : Nat) (s : State) : (driveLarge p tap s).tap.tapState = s.tap.tapState := by
  unfold driveLarge
  rw [clearOnce_tap]
  exact (drivePlausible_tap p tap s).1

/-- A drive within 2 mV finds the tap intact (R102). -/
theorem classify_intact (p tap : Nat) {d : Int} (inj : Bool) (s : State) (hlow : -400 ≤ d) (hd : d ≤ 400) :
    classify p tap d inj s = (true, tapIntact p tap (drivePlausible p tap s)) :=
  (if_neg (by omega)).trans (if_pos hd)

/-- A drive above 2 mV and below 100 mV marks the tap as of high resistance, unless it counts as open (R102). -/
theorem classify_high {p tap : Nat} {d : Int} (inj : Bool) {s : State} (hlow : 400 < d) (hd : d < 20000) (hs : s.tapState p tap ≠ 4) :
    (classify p tap d inj s).1 = true ∧ (classify p tap d inj s).2.tapState p tap = 3 ∧
      (classify p tap d inj s).2.raised 0x018 0x32 2 (p * 256 + tap) = true := by
  have hs' : (driveLarge p tap s).tapState p tap ≠ 4 := by rwa [tapState_congr (driveLarge_tapState p tap s)]
  have e : classify p tap d inj s = (true,
      if (tapFlags p tap ((driveLarge p tap s).setTap p tap 3)).raised 0x018 0x32 2 (headTap p tap) then tapFlags p tap ((driveLarge p tap s).setTap p tap 3)
      else (tapFlags p tap ((driveLarge p tap s).setTap p tap 3)).reportInj inj 0x018 0x32 .warn 2 (headTap p tap)) :=
    (if_neg (by omega)).trans ((if_neg (by omega)).trans ((if_pos hd).trans (if_neg hs')))
  have h3 : (tapFlags p tap ((driveLarge p tap s).setTap p tap 3)).tapState p tap = 3 :=
    (tapState_congr (by rw [tapFlags_tap]) p tap).trans (tapState_setTap (driveLarge p tap s) p tap 3)
  rw [e]
  dsimp only
  split
  · exact ⟨rfl, h3, ‹_›⟩
  · exact ⟨rfl, h3, raised_reportInj ..⟩

/-- A drive of 100 mV and more finds the tap open (R102). -/
theorem classify_open (p tap : Nat) {d : Int} (inj : Bool) (s : State) (hd : 20000 ≤ d) :
    classify p tap d inj s = (true, tapOpen p tap inj (driveLarge p tap s)) :=
  (if_neg (by omega)).trans ((if_neg (by omega)).trans (if_neg (by omega)))

/-- A head whose test is over, before it turns to the taps that wait (R101, R106). -/
def owTestEnded (p : Nat) (e : OwEval) (s : State) : State :=
  let s := match e.cr with
    | some c => { s with tap := { s.tap with afterTest := Tab.put s.tap.afterTest p (e.tap, c + BitVec.ofNat 32 (e.k + 2)) } }
    | none => s
  { s with tap := { s.tap with tests := Tab.drop s.tap.tests p, lastTest := Tab.put s.tap.lastTest p s.core.cycle } }

theorem owTestEnded_tap (p : Nat) (e : OwEval) (s : State) :
    (owTestEnded p e s).tap.tapState = s.tap.tapState ∧ Tab.at (owTestEnded p e s).tap.lastTest p 0 = s.core.cycle := by
  unfold owTestEnded
  cases e.cr <;> exact ⟨rfl, Tab.at_put_same ..⟩

theorem nextOwTest_testsOnly (p : Nat) (e : OwEval) (s : State) : TestsOnly (owTestEnded p e s) (nextOwTest p e s) := by
  show TestsOnly _ (match Tab.at (owTestEnded p e s).tap.testQueue p [] with
    | [] => owTestEnded p e s
    | t :: rest => startOwTest p t { owTestEnded p e s with tap := { (owTestEnded p e s).tap with
        testQueue := Tab.put (owTestEnded p e s).tap.testQueue p rest } })
  split
  · exact .refl _
  · refine .trans ?_ (startOwTest_testsOnly ..)
    rfl

/-- What follows a test moves no tap, notes the cycle and touches no fault. -/
theorem nextOwTest_result (p : Nat) (e : OwEval) (s : State) : (nextOwTest p e s).tap.tapState = s.tap.tapState ∧
    Tab.at (nextOwTest p e s).tap.lastTest p 0 = s.core.cycle ∧ (nextOwTest p e s).ranger = s.ranger := by
  obtain ⟨-, hstate, hlast, -⟩ := (nextOwTest_testsOnly p e s).fields
  obtain ⟨hstate', hlast'⟩ := owTestEnded_tap p e s
  exact ⟨hstate.trans hstate', by rw [hlast, hlast'], (nextOwTest_keeps p e s (A := fun q => q != .ranger) (.refl _ s) rfl rfl rfl rfl).ranger_eq⟩

/-- A test with a plausible drive ends with the state that its classification gives its tap (R102). -/
theorem execOpenWireEvaluation_ends {s : State} {p : Nat} {e : OwEval} {c : Cycle} {d : Int} (he : s.owTesting p = some e) (hc : e.cr = some c)
    (hd : e.twiceD (s.channels p) = some d) (hok : (classify p e.tap d (s.tainted (s.portOf p)) s).1 = true) :
    execOpenWireEvaluation p s = .next (nextOwTest p e (classify p e.tap d (s.tainted (s.portOf p)) s).2) := by
  unfold execOpenWireEvaluation
  simp only [he, hc, hd]
  exact if_pos (by rw [hok]; rfl)

/-- Where a classification accepts its drive and sets the tap's state, the evaluation leaves that state, the faults as classified and the test's cycle. -/
theorem gives_openWireEvaluation {s : State} {p : Nat} {e : OwEval} {c : Cycle} {d : Int} {Q : State → Prop} (he : s.owTesting p = some e)
    (hc : e.cr = some c) (hd : e.twiceD (s.channels p) = some d) (hok : (classify p e.tap d (s.tainted (s.portOf p)) s).1 = true)
    (hq : ∀ t, t.tap.tapState = (classify p e.tap d (s.tainted (s.portOf p)) s).2.tap.tapState →
      t.ranger = (classify p e.tap d (s.tainted (s.portOf p)) s).2.ranger → Tab.at t.tap.lastTest p 0 = s.core.cycle → Q t) :
    Gives (.openWireEvaluation p) s Q := by
  obtain ⟨hstate, hlast, hranger⟩ := nextOwTest_result p e (classify p e.tap d (s.tainted (s.portOf p)) s).2
  have hcore : (classify p e.tap d (s.tainted (s.portOf p)) s).2.core = s.core :=
    (classify_keeps p e.tap d _ s (A := fun q => q != .core) (.refl _ s) rfl rfl rfl).core_eq
  exact ⟨_, execOpenWireEvaluation_ends he hc hd hok, hq _ hstate hranger (hlast.trans (by rw [hcore]))⟩

/-! ### Schedule and suspicion -/

/-- A head whose scheduled test is due, with nothing under test or waiting, has its next tap tested (R101). -/
theorem execOpenWireTestSchedule_starts {s : State} {p tap : Nat} (ho : s.ring.originating = true) (hidle : s.owTesting p = none)
    (hq : Tab.at s.tap.testQueue p [] = []) (hn : 1 ≤ s.channels p) (hdue : s.owDue p = true)
    (htap : tap = (if s.channels p < Tab.nat s.tap.nextTap p then 0 else Tab.nat s.tap.nextTap p)) :
    execOpenWireTestSchedule p s = .next (startOwTest p tap { s with tap := { s.tap with
      nextTap := Tab.put s.tap.nextTap p ((tap + 1) % (s.channels p + 1)),
      dueAt := Tab.put s.tap.dueAt p (Tab.at s.tap.dueAt p s.core.cycle + BitVec.ofNat 32 (s.cfg 0x2103 1 * 1000 / (s.channels p + 1))) } }) := by
  subst htap
  refine if_neg ?_
  rw [ho, hidle, hq, hdue]
  simpa using Nat.ne_of_gt hn

/-- Settles O25: the schedule through the start of its test, the evaluations through their classification, the time-out through the open tap. -/
theorem tapOpenWireTests : Obligations.TapOpenWireTests := by
  intro s p
  refine ⟨fun tap ho hidle hq hn hdue htap => ?schedule, fun e c d he hc hd => ⟨fun hlow hle => ?intact, fun hlow hlt h4 => ?high, fun hge => ?open_⟩,
    fun tap h2 hran => ?timeout⟩
  case schedule =>
    refine ⟨_, execOpenWireTestSchedule_starts ho hidle hq hn hdue htap, startOwTest_owTesting tap hidle, ?_⟩
    obtain ⟨-, -, -, hnext, hdueAt⟩ := (startOwTest_testsOnly p tap { s with tap := { s.tap with
      nextTap := Tab.put s.tap.nextTap p ((tap + 1) % (s.channels p + 1)),
      dueAt := Tab.put s.tap.dueAt p (Tab.at s.tap.dueAt p s.core.cycle + BitVec.ofNat 32 (s.cfg 0x2103 1 * 1000 / (s.channels p + 1))) } }).fields
    rw [hnext, hdueAt]
    exact ⟨Tab.at_put_same .., Tab.find_put_same ..⟩
  case intact =>
    have hclass := classify_intact p e.tap (s.tainted (s.portOf p)) s hlow hle
    refine gives_openWireEvaluation he hc hd (by rw [hclass]) fun t hstate _ hlast => ⟨?_, hlast⟩
    obtain ⟨hsame, hhigh⟩ := drivePlausible_tap p e.tap s
    rw [tapState_congr hstate, hclass, tapIntact_tapState, tapState_congr hsame, hhigh]
  case high =>
    obtain ⟨hok, h3, hraised⟩ := classify_high (s.tainted (s.portOf p)) hlow hlt h4
    refine gives_openWireEvaluation he hc hd hok fun t hstate hranger _ => ?_
    rw [tapState_congr hstate, raised_congr hranger]
    exact ⟨h3, hraised⟩
  case open_ =>
    have hclass := classify_open p e.tap (s.tainted (s.portOf p)) s hge
    refine gives_openWireEvaluation he hc hd (by rw [hclass]) fun t hstate hranger _ => ?_
    rw [tapState_congr hstate, raised_congr hranger, hclass]
    exact tapOpen_taken ..
  case timeout => exact ⟨_, if_pos (by rw [h2, hran]; rfl), tapOpen_taken ..⟩

end Sys2Proof.Machine
end

section
/-! SUPPORT. Auto-zero and the in-service zero (R113, R114), and the insulation monitor's half-periods, results and staleness (R119, R121, R122). -/

namespace Sys2Proof.Machine

set_option Elab.async false

open Sys2Proof

/-- A command that writes the front-end's part alone. -/
theorem changesOnly_fe (s : State) (x : FrontEnd) : ChangesOnly [.fe] s { s with fe := x } :=
  (keeps_mk (.refl _ s) (by simp [SameBut]) (by simp [SameLists])).changesOnly

/-! ### Auto-zero -/

/-- The state that a full auto-zero leaves (R113). -/
def zeroStored (mainOffset hallOffset baseplate : Int) (s : State) : State :=
  (({ s with fe := { s.fe with offset := mainOffset, hallOffset := hallOffset, zeroCycle := s.core.cycle, zeroTemp := baseplate,
                               zeroing := none, zeroTimer := s.core.cycle } } : State).setFe feZeroing false).setFe feInService false

theorem execAutoZeroComplete_stores {s : State} (mainOffset hallOffset baseplate : Int) (h : s.ran s.fe.zeroing 200 = true) :
    execAutoZeroComplete mainOffset hallOffset baseplate s = .next (zeroStored mainOffset hallOffset baseplate s) := if_pos h

theorem zeroStored_feZeroing (mainOffset hallOffset baseplate : Int) (s : State) :
    (zeroStored mainOffset hallOffset baseplate s).feBit feZeroing = false := by
  rw [zeroStored, feBit_setFe _ _ _ _ (by decide), if_neg (by decide), feBit_setFe _ _ _ _ (by decide), if_pos rfl]

/-- Settles O26: each command finds its condition met; the status bit of a completed zero survives that of the base temperature. -/
theorem autoZero : Obligations.AutoZero := by
  intro s
  refine ⟨fun hst hp => ?timer, fun hdue hidle hallow hok hsmall => ?start, fun main hall base hran => ?complete, fun hclosed hp => ?inService⟩
  case timer => exact if_pos (by simp [hst, hp])
  case start => exact if_pos (by simp [hdue, hidle, hallow, hok, hsmall])
  case complete =>
    exact ⟨_, execAutoZeroComplete_stores main hall base hran, changesOnly_fe .., rfl, rfl, rfl, rfl, rfl, zeroStored_feZeroing main hall base s⟩
  case inService => exact if_pos (by rw [hclosed, hp]; rfl)

/-! ### The insulation monitor -/

/-- The next half-period, of the other polarity, begins in this cycle (R119). -/
def nextHalf (leak : Int) (s : State) : State :=
  { s with fe := { s.fe with halfPositive := !s.fe.halfPositive, halfStart := s.core.cycle, lastHalf := s.since s.fe.halfStart, settled := leak,
                             halfVoid := false } }

/-- A half-period before its first second, or one whose current still moves before its sixtieth, is not over (R119). -/
theorem halfSettled_early {s : State} {leak : Int} {drift : Nat} (h : s.passed s.fe.halfStart 1000 = false ∨
    (leak - s.fe.settled).natAbs ≤ 100 * drift ∧ s.passed s.fe.halfStart 60000 = false) : s.halfSettled leak drift = false := by
  unfold State.halfSettled
  rcases h with h1 | ⟨hmoves, h60⟩
  · rw [h1]; rfl
  · rw [h60, decide_eq_false (by omega), Bool.or_self, Bool.and_false]

/-- A half-period is over once its current has settled after its first second, and at its sixtieth in any case (R119). -/
theorem halfSettled_over {s : State} {leak : Int} {drift : Nat} (h1 : s.passed s.fe.halfStart 1000 = true)
    (h : 100 * drift < (leak - s.fe.settled).natAbs ∨ s.passed s.fe.halfStart 60000 = true) : s.halfSettled leak drift = true := by
  unfold State.halfSettled
  rcases h with hsettled | h60
  · rw [h1, decide_eq_true hsettled]; rfl
  · rw [h1, h60, Bool.or_true, Bool.and_true]

theorem execInsulationHalfPeriodEnd_waits {s : State} {leak : Int} {drift : Nat} (cap pos : Nat) (h : s.halfSettled leak drift = false) :
    execInsulationHalfPeriodEnd leak drift cap pos s = .next s := if_pos (by rw [h]; exact Bool.or_true _)

section
variable {s : State} {leak : Int} {drift : Nat} (cap pos : Nat) (hinj : s.fe.injecting = true) (hover : s.halfSettled leak drift = true)
include hinj hover

/-- A void half-period gives no current (R119). -/
theorem execInsulationHalfPeriodEnd_void (hvoid : s.fe.halfVoid = true) : execInsulationHalfPeriodEnd leak drift cap pos s =
    .next { nextHalf leak s with fe := { (nextHalf leak s).fe with iPos := none, iNeg := none } } :=
  (if_neg (by simp [hinj, hover])).trans (if_pos hvoid)

/-- A positive half-period gives the first current of its period (R119). -/
theorem execInsulationHalfPeriodEnd_positive (hvoid : s.fe.halfVoid = false) (hpos : s.fe.halfPositive = true) :
    execInsulationHalfPeriodEnd leak drift cap pos s = .next { nextHalf leak s with fe := { (nextHalf leak s).fe with iPos := some leak } } :=
  (if_neg (by simp [hinj, hover])).trans ((if_neg (by simp [hvoid])).trans (if_pos hpos))

end

/-- The state with the result of a full period (R119, R122), its staleness not yet taken back. -/
def isoResult (p leak : Int) (cap pos : Nat) (s : State) : State :=
  { nextHalf leak s with fe := { (nextHalf leak s).fe with
      iPos := none, iNeg := some leak, rIso := insulationResult p leak (s.unitsIn * (2 + s.notOpen)), isoSeq := (s.fe.isoSeq + 1) % 0x10000,
      leakCap := cap, faultPos := pos, isoLast := some s.core.cycle, isoStale := false, injecting := s.injects } }

/-- A negative half-period that follows a positive one completes a result (R119). -/
theorem execInsulationHalfPeriodEnd_result {s : State} {leak p : Int} {drift : Nat} (cap pos : Nat) (hinj : s.fe.injecting = true)
    (hover : s.halfSettled leak drift = true) (hvoid : s.fe.halfVoid = false) (hneg : s.fe.halfPositive = false) (hp : s.fe.iPos = some p) :
    execInsulationHalfPeriodEnd leak drift cap pos s =
      .next (((isoResult p leak cap pos s).setFe feIsoStale false).clearOnce 0x029 0x43 0 0) := by
  refine (if_neg (by simp [hinj, hover])).trans ((if_neg (by simp [hvoid])).trans ((if_neg (by simp [hneg])).trans ?_))
  rw [hp]
  rfl

theorem clearOnce_fe (s : State) (source kind cls val : Nat) : (s.clearOnce source kind cls val).fe = s.fe :=
  (State.clearOnce_keeps s source kind cls val (.refl (fun q => q = .ranger) s)).fe_eq

theorem raiseOnce_fe (s : State) (source kind : Nat) (sev : Sev) (cls val : Nat) : (s.raiseOnce source kind sev cls val).fe = s.fe :=
  (State.raiseOnce_keeps s source kind sev cls val (.refl (fun q => q = .ranger) s)).fe_eq

theorem feBit_congr {s t : State} (h : t.fe = s.fe) (i : Nat) : t.feBit i = s.feBit i := by rw [State.feBit, h, State.feBit]

/-- Settles O27: a half-period that is not over changes nothing; one that is over begins the next, with what its kind gives. -/
theorem insulationMonitor : Obligations.InsulationMonitor := by
  intro s
  refine ⟨fun hinj leak drift cap pos => ⟨fun hearly => execInsulationHalfPeriodEnd_waits cap pos (halfSettled_early hearly), fun h1 hend => ?_⟩,
    fun hon hran => ?stale⟩
  · have hover := halfSettled_over h1 hend
    refine ⟨fun hvoid => ?void, fun hvoid hpos => ?positive, fun p hvoid hneg hp => ?result⟩
    case void =>
      exact ⟨_, execInsulationHalfPeriodEnd_void cap pos hinj hover hvoid, changesOnly_fe .., rfl, rfl, rfl, rfl, rfl⟩
    case positive =>
      exact ⟨_, execInsulationHalfPeriodEnd_positive cap pos hinj hover hvoid hpos, changesOnly_fe .., rfl, congrArg not hpos, rfl, rfl, rfl⟩
    case result =>
      refine ⟨_, execInsulationHalfPeriodEnd_result cap pos hinj hover hvoid hneg hp, ?_⟩
      dsimp only
      rw [feBit_congr (clearOnce_fe ..), clearOnce_fe, feBit_setFe _ _ _ _ (by decide), if_pos rfl]
      exact ⟨rfl, rfl, rfl, rfl, rfl, rfl, raised_clearOnce .., rfl⟩
  case stale =>
    refine ⟨_, if_pos (by simp [hon, hran]), ?_, raised_raiseOnce ..⟩
    rw [feBit_congr (raiseOnce_fe ..), feBit_setFe _ _ _ _ (by decide), if_pos rfl]

end Sys2Proof.Machine
end

section
/-! SUPPORT. Coil drive, auxiliary contacts and the weld check with its stages (R127, R128, R130, R131, R132): what declaring or deciding one contactor leaves
of the other. -/

namespace Sys2Proof.Machine

set_option Elab.async false

open Sys2Proof

/-! ### One contactor -/

theorem contactor_congr {s t : State} (h : t.fe = s.fe) (k : Nat) : t.contactor k = s.contactor k := by rw [State.contactor, h, State.contactor]

theorem contactor_modContactor (s : State) (k : Nat) (f : Contactor → Contactor) : (s.modContactor k f).contactor k = f (s.contactor k) := by
  unfold State.modContactor State.contactor
  split <;> rfl

theorem contactor_modContactor_ne (s : State) {j k : Nat} (hj : j < 2) (hk : k < 2) (h : j ≠ k) (f : Contactor → Contactor) :
    (s.modContactor j f).contactor k = s.contactor k := by
  unfold State.modContactor State.contactor
  by_cases h0 : j = 0
  · rw [if_pos h0, if_neg (by omega), if_neg (by omega)]
  · rw [if_neg h0, if_pos (by omega), if_pos (by omega)]

/-- A hold current outside its band is reported (R127). -/
theorem execCoilDriveFault_outside {k : Nat} {s : State} (h : (s.contactor k).coil = .hold) :
    execCoilDriveFault k false s = .next (s.raiseOnce 0x02A 0x44 .trip 5 k) := by
  unfold execCoilDriveFault
  rw [if_neg Bool.false_ne_true, if_pos h]

/-! ### Welds declared -/

/-- Contactor k counts as welded, with its fault raised (R131). -/
def WeldShown (k : Nat) (s : State) : Prop := (s.contactor k).welded = true ∧ s.raised 0x02A 0x47 5 k = true

theorem WeldShown.congr {k : Nat} {s t : State} (h : WeldShown k s) (hw : (t.contactor k).welded = (s.contactor k).welded) (hr : t.ranger = s.ranger) :
    WeldShown k t := ⟨hw.trans h.1, by rw [raised_congr hr]; exact h.2⟩

theorem declareWelded_shown (s : State) (k : Nat) : WeldShown k (declareWelded s k) := by
  refine ⟨?_, raised_raiseOnce ..⟩
  unfold declareWelded
  rw [contactor_congr (raiseOnce_fe ..), contactor_modContactor]

theorem WeldShown.modContactor {j k : Nat} {s : State} (h : WeldShown k s) (hj : j < 2) (hk : k < 2) (hjk : j ≠ k) (f : Contactor → Contactor) :
    WeldShown k (s.modContactor j f) :=
  h.congr (by rw [contactor_modContactor_ne s hj hk hjk]) (State.modContactor_keeps s j f (.refl (fun q => q = .fe) s)).ranger_eq

theorem WeldShown.clearOnce {k : Nat} {s : State} (h : WeldShown k s) {source kind cls val : Nat}
    (hne : source ≠ 0x02A ∨ kind ≠ 0x47 ∨ cls ≠ 5 ∨ val ≠ k) :
    WeldShown k (s.clearOnce source kind cls val) :=
  ⟨by rw [contactor_congr (clearOnce_fe ..)]; exact h.1, (raised_clearOnce_ne s cls val 5 k hne).trans h.2⟩

/-- A weld declared stays when the other contactor's is declared too. -/
theorem declareWelded_keeps_shown {j k : Nat} {s : State} (h : WeldShown k s) (hj : j < 2) (hk : k < 2) : WeldShown k (declareWelded s j) := by
  by_cases hjk : j = k
  · rw [hjk]
    exact declareWelded_shown s k
  · obtain ⟨hwelded, hraised⟩ := h.modContactor hj hk hjk fun c => { c with welded := true, weldNew := true }
    refine ⟨?_, (raised_raiseOnce_ne _ _ _ _ _ _ (by omega)).trans hraised⟩
    unfold declareWelded
    rw [contactor_congr (raiseOnce_fe ..)]
    exact hwelded

theorem foldl_declareWelded {l : List Nat} (hl : ∀ j ∈ l, j < 2) {k : Nat} (hk : k < 2) (s : State) (h : k ∈ l ∨ WeldShown k s) :
    WeldShown k (l.foldl declareWelded s) := by
  induction l generalizing s with
  | nil => exact h.resolve_left (by simp)
  | cons a l ih =>
    have ha := hl a (by simp)
    refine ih (fun j hj => hl j (by simp [hj])) _ ?_
    rcases h with h | h
    · rcases List.mem_cons.1 h with rfl | h
      · exact .inr (declareWelded_shown s k)
      · exact .inl h
    · exact .inr (declareWelded_keeps_shown h ha hk)

/-- The contactors that are not confirmed open at the end of the auxiliary stage (R131). -/
def State.notOpened (s : State) : List Nat := (upFrom 0 2).filter fun k => !s.confirmedOpen k

theorem mem_notOpened (s : State) (k : Nat) : k ∈ s.notOpened ↔ k < 2 ∧ s.confirmedOpen k = false := by
  simp [State.notOpened, mem_upFrom]

/-- The auxiliary stage ends with a weld declared for each contactor not confirmed open, and the voltage stage begins (R131). -/
theorem execWeldCheckAuxTimeout_declares {s u : State} (hst : s.fe.weldStage = .aux) (hp : s.passed s.fe.weldSince 100 = true) (hbad : s.notOpened ≠ [])
    (hu : u = s.notOpened.foldl declareWelded s) :
    execWeldCheckAuxTimeout s = .next { u with fe := { u.fe with weldStage := .volt, weldSince := u.core.cycle, weldResult := u.weldCode } } := by
  subst hu
  exact (if_pos (by rw [hst, hp]; rfl)).trans (if_neg (by simpa [State.notOpened] using hbad))

/-! ### The voltage stage -/

/-- A decision writes one contactor of the front-end (R131). -/
theorem decideWeld_fe (k : Nat) (sum : Int) (s : State) : ∃ f, (decideWeld k sum s).fe = (s.modContactor k f).fe := by
  unfold decideWeld
  split
  · exact ⟨_, raiseOnce_fe ..⟩
  · split
    · exact ⟨_, clearOnce_fe ..⟩
    · refine ⟨id, ?_⟩
      unfold State.modContactor
      split <;> rfl

theorem decideWeld_vStr (k : Nat) (sum : Int) (s : State) : (decideWeld k sum s).fe.vStr = s.fe.vStr := by
  obtain ⟨f, hf⟩ := decideWeld_fe k sum s
  rw [hf, State.modContactor]
  split <;> rfl

theorem decideWeld_contactor_ne {j k : Nat} (hj : j < 2) (hk : k < 2) (h : j ≠ k) (sum : Int) (s : State) :
    (decideWeld j sum s).contactor k = s.contactor k := by
  obtain ⟨f, hf⟩ := decideWeld_fe j sum s
  rw [contactor_congr hf, contactor_modContactor_ne s hj hk h]

theorem decideWeld_confirmedOpen_ne {j k : Nat} (hj : j < 2) (hk : k < 2) (h : j ≠ k) (sum : Int) (s : State) :
    (decideWeld j sum s).confirmedOpen k = s.confirmedOpen k := by
  have hkeeps := decideWeld_keeps j sum s (.refl (fun q => q = .fe || q = .ranger) s)
  rw [State.confirmedOpen, State.confirmedOpen, decideWeld_contactor_ne hj hk h, State.ncWired, State.ncWired, cfg_congr hkeeps.dict_eq]

/-- Less than 2 % of the string voltage across a contactor is a weld (R131). -/
theorem decideWeld_welds {k : Nat} {sum : Int} {s : State} (h : 10 * sum.natAbs < 2 * s.fe.vStr.natAbs) : WeldShown k (decideWeld k sum s) := by
  unfold decideWeld
  rw [if_pos h]
  exact declareWelded_shown s k

/-- 2 % and more across an open contactor end a weld, unless this check has declared it (R131). -/
theorem decideWeld_passes {k : Nat} {sum : Int} {s : State} (h : 2 * s.fe.vStr.natAbs ≤ 10 * sum.natAbs) (ho : s.confirmedOpen k = true) :
    ((decideWeld k sum s).contactor k).welded = ((s.contactor k).welded && (s.contactor k).weldNew) := by
  unfold decideWeld
  rw [if_neg (by omega), ho, Bool.true_and]
  cases hnew : (s.contactor k).weldNew
  · rw [Bool.not_false, if_pos rfl, contactor_congr (clearOnce_fe ..), contactor_modContactor, Bool.and_false]
  · rw [Bool.not_true, if_neg nofun, Bool.and_true]

/-- What is decided on one contactor leaves a weld shown on the other. -/
theorem decideWeld_keeps_shown {j k : Nat} {s : State} (h : WeldShown k s) (hj : j < 2) (hk : k < 2) (hjk : j ≠ k) (sum : Int) :
    WeldShown k (decideWeld j sum s) := by
  unfold decideWeld
  split
  · exact declareWelded_keeps_shown h hj hk
  · split
    · exact (h.modContactor hj hk hjk _).clearOnce (by omega)
    · exact h

theorem weldOver_welded (s : State) (k : Nat) : ((weldOver s).contactor k).welded = (s.contactor k).welded := by
  unfold weldOver State.contactor
  split <;> rfl

/-- Both contactors decided on, on the sums of the ten cycles (R131). -/
def weldsDecided (s : State) : State := weldOver (decideWeld 1 s.fe.weldSums.2.1 (decideWeld 0 s.fe.weldSums.1 s))

/-- The state that the voltage stage leaves once both contactors are decided on (R131, R132). -/
def weldEnded (u : State) : State :=
  ({ u with fe := { u.fe with weldStage := .idle, weldResult := u.weldCode, weldRepeat := false, weldSince := u.core.cycle } } : State).clearOnce 0x02A 0x48 0 0

theorem weldEnded_fe (u : State) :
    (weldEnded u).fe = { u.fe with weldStage := .idle, weldResult := u.weldCode, weldRepeat := false, weldSince := u.core.cycle } := clearOnce_fe ..

theorem weldEnded_shown {k : Nat} {u : State} (h : WeldShown k u) : WeldShown k (weldEnded u) := by
  show WeldShown k (State.clearOnce _ _ _ _ _)
  refine WeldShown.clearOnce ?_ (.inr (.inl (by decide)))
  exact h.congr rfl rfl

section
variable {s : State} (hst : s.fe.weldStage = .volt) (hn : 10 ≤ s.fe.weldSums.2.2)
include hst hn

theorem execWeldCheckVoltageStage_decides (hknown : s.insulationKnown = true) : execWeldCheckVoltageStage s = .next (weldEnded (weldsDecided s)) :=
  (if_pos (by simp [hst, hn])).trans (if_neg (by simp [hknown]))

theorem execWeldCheckVoltageStage_inconclusive (hknown : s.insulationKnown = false) : execWeldCheckVoltageStage s = .next (weldInconclusive s) :=
  (if_pos (by simp [hst, hn])).trans (if_pos (by simp [hknown]))

end

/-- With both contactors open and neither below 2 %, only the welds that this check has declared are left. -/
theorem weldsDecided_passes {s : State} (hopen : s.bothOpen = true) (h0 : 2 * s.fe.vStr.natAbs ≤ 10 * s.fe.weldSums.1.natAbs)
    (h1 : 2 * s.fe.vStr.natAbs ≤ 10 * s.fe.weldSums.2.1.natAbs) :
    (weldsDecided s).fe.kp.welded = (s.fe.kp.welded && s.fe.kp.weldNew) ∧ (weldsDecided s).fe.kn.welded = (s.fe.kn.welded && s.fe.kn.weldNew) := by
  obtain ⟨ho0, ho1⟩ : s.confirmedOpen 0 = true ∧ s.confirmedOpen 1 = true := by simpa [State.bothOpen] using hopen
  constructor
  · refine (weldOver_welded _ 0).trans ?_
    rw [decideWeld_contactor_ne (by decide) (by decide) (by decide)]
    exact decideWeld_passes h0 ho0
  · have hpass := decideWeld_passes (k := 1) (s := decideWeld 0 s.fe.weldSums.1 s) (by rwa [decideWeld_vStr])
      (by rwa [decideWeld_confirmedOpen_ne (by decide) (by decide) (by decide)])
    rw [decideWeld_contactor_ne (j := 0) (by decide) (by decide) (by decide)] at hpass
    exact (weldOver_welded _ 1).trans hpass

/-- A contactor below 2 % is shown welded, whatever is decided on the other. -/
theorem weldsDecided_shown {s : State} {k : Nat} (hk : k < 2)
    (h : 10 * (if k = 0 then s.fe.weldSums.1 else s.fe.weldSums.2.1).natAbs < 2 * s.fe.vStr.natAbs) : WeldShown k (weldsDecided s) := by
  have hdecided : WeldShown k (decideWeld 1 s.fe.weldSums.2.1 (decideWeld 0 s.fe.weldSums.1 s)) := by
    obtain rfl | rfl : k = 0 ∨ k = 1 := by omega
    · exact decideWeld_keeps_shown (decideWeld_welds h) (by decide) (by decide) (by decide) _
    · exact decideWeld_welds (by rwa [decideWeld_vStr])
  exact hdecided.congr (weldOver_welded _ k) rfl

/-- A voltage stage that cannot decide leaves its result, is to be repeated and is reported (R132). -/
theorem weldInconclusive_left (s : State) : (weldInconclusive s).fe.weldStage = .idle ∧ (weldInconclusive s).fe.weldResult = 2 ∧
    (weldInconclusive s).fe.weldRepeat = true ∧ (weldInconclusive s).raised 0x02A 0x48 0 0 = true := by
  unfold weldInconclusive
  dsimp only
  rw [raiseOnce_fe]
  exact ⟨rfl, rfl, rfl, raised_raiseOnce ..⟩

/-- Settles O13: each command finds its condition met; the weld check through what it declares and decides, one contactor after the other. -/
theorem contactorSupervision : Obligations.ContactorSupervision := by
  intro s k hk
  refine ⟨fun hcoil hp => ?pullIn, fun hwired hran => ?aux, fun hcoil => ?drive, ⟨_, rfl, raised_clearOnce ..⟩, fun hst hp hopen => ?auxStage,
    fun hst hn hknown hopen h0 h1 => ?pass, fun hst hn hknown hlow => ?weld, fun hst hn hknown => ?unknown, fun hst hp hn => ?wait⟩
  case pullIn => exact if_pos (by simp [hcoil, hp])
  case aux => exact ⟨_, if_pos (by rw [hwired, hran]; rfl), raised_raiseOnce ..⟩
  case drive => exact ⟨_, execCoilDriveFault_outside hcoil, raised_raiseOnce ..⟩
  case auxStage =>
    have hmem := (mem_notOpened s k).2 ⟨hk, hopen⟩
    obtain ⟨hwelded, hraised⟩ := foldl_declareWelded (fun j hj => ((mem_notOpened s j).1 hj).1) hk s (.inl hmem)
    refine ⟨_, execWeldCheckAuxTimeout_declares hst hp (List.ne_nil_of_mem hmem) rfl, hwelded, hraised, rfl, ?_⟩
    exact congrArg Core.cycle (keeps_foldl (fun x j h => declareWelded_keeps x j h) (.refl (fun q => q = .fe || q = .ranger) s)).core_eq
  case pass =>
    obtain ⟨hkp, hkn⟩ := weldsDecided_passes hopen h0 h1
    refine ⟨_, execWeldCheckVoltageStage_decides hst hn hknown, ?_⟩
    dsimp only
    rw [weldEnded_fe]
    exact ⟨rfl, rfl, hkp, hkn, fun hp0 hp1 => by simp [State.weldCode, hkp, hkn, hp0, hp1]⟩
  case weld =>
    obtain ⟨hwelded, hraised⟩ := weldEnded_shown (weldsDecided_shown hk hlow)
    exact ⟨_, execWeldCheckVoltageStage_decides hst hn hknown, by rw [weldEnded_fe], hwelded, hraised⟩
  case unknown => exact ⟨_, execWeldCheckVoltageStage_inconclusive hst hn hknown, weldInconclusive_left s⟩
  case wait => exact ⟨_, if_pos (by simp [hst, hp, hn]), weldInconclusive_left s⟩

end Sys2Proof.Machine
end

section
/-! SUPPORT. The strobe and the fast sample pair (R109, R110, R112, R113, R114): what the front-end has sampled stands through all that is checked and decided
on it. -/

namespace Sys2Proof.Machine

set_option Elab.async false

open Sys2Proof

/-! ### The samples of the front-end -/

/-- The sampled values alone, with all else of the front-end as after reset. -/
def FrontEnd.samples (f : FrontEnd) : FrontEnd :=
  { main := f.main, hall := f.hall, vStr := f.vStr, vLink := f.vLink, vStrP := f.vStrP, vStrN := f.vStrN, vLinkP := f.vLinkP, vLinkN := f.vLinkN,
    fastMain := f.fastMain, fastHall := f.fastHall }

/-- Of the front-end no sampled value differs. -/
def SameSamples (s t : State) : Prop := t.fe.samples = s.fe.samples

theorem SameSamples.of_eq {s t : State} (h : t.fe = s.fe) : SameSamples s t := congrArg FrontEnd.samples h

theorem SameSamples.refl (s : State) : SameSamples s s := .of_eq rfl

theorem SameSamples.trans {s t u : State} (h : SameSamples s t) (h' : SameSamples t u) : SameSamples s u := Eq.trans h' h

theorem SameSamples.ite {s a b : State} {c : Prop} [Decidable c] (h : SameSamples s a) (h' : SameSamples s b) : SameSamples s (if c then a else b) := by
  split <;> assumption

theorem SameSamples.foldl {α : Type} {f : State → α → State} (hf : ∀ s a, SameSamples s (f s a)) (l : List α) (s : State) :
    SameSamples s (l.foldl f s) := by
  induction l generalizing s with
  | nil => exact .refl s
  | cons a l ih => exact (hf s a).trans (ih _)

theorem raiseOnce_samples (s : State) (source kind : Nat) (sev : Sev) (cls val : Nat) : SameSamples s (s.raiseOnce source kind sev cls val) :=
  .of_eq (raiseOnce_fe ..)

theorem clearOnce_samples (s : State) (source kind cls val : Nat) : SameSamples s (s.clearOnce source kind cls val) := .of_eq (clearOnce_fe ..)

theorem setFe_samples (s : State) (i : Nat) (v : Bool) : SameSamples s (s.setFe i v) := rfl

theorem modContactor_samples (s : State) (k : Nat) (f : Contactor → Contactor) : SameSamples s (s.modContactor k f) := by
  unfold State.modContactor
  exact .ite rfl rfl

/-! ### Trips and comparators -/

theorem startTripWait_samples (wait : Nat) (firebreak : Bool) (s : State) : SameSamples s (startTripWait wait firebreak s) := by
  unfold startTripWait
  (repeat' split) <;> rfl

theorem qualify_samples (bit cls val : Nat) (inj : Bool) (s : State) : SameSamples s (qualify bit cls val inj s) := by
  unfold qualify fbCause startTrip
  refine .trans ?_ (startTripWait_samples ..)
  rfl

theorem compliance_samples (bit cls val : Nat) (ok : Bool) (s : State) : SameSamples s (compliance bit cls val ok s) :=
  .of_eq (compliance_keeps bit cls val ok s (.refl (fun q => q = .fb) s)).fe_eq

theorem tempCompare_samples (n slot : Nat) (beyond inj : Bool) (s : State) : SameSamples s (tempCompare n slot beyond inj s) := by
  unfold tempCompare
  refine .trans (.ite (.trans ?_ (qualify_samples ..)) ?_) (compliance_samples ..) <;> rfl

theorem cycleCompare_samples (bit need : Nat) (beyond : Bool) (s : State) : SameSamples s (cycleCompare bit need beyond s) := by
  unfold cycleCompare
  refine .trans (.ite (.trans ?_ (qualify_samples ..)) ?_) (compliance_samples ..) <;> rfl

theorem comparePoint_samples (n : Nat) (raw : Option Int) (inj : Bool) (s : State) : SameSamples s (comparePoint n raw inj s) := by
  unfold comparePoint
  split
  · exact .refl s
  · split
    · rfl
    · extract_lets _ _ _ s1 _ s2 _ _ s3
      have h2 : SameSamples s1 s2 := .ite ((clearOnce_samples ..).trans (.ite (clearOnce_samples ..) (.refl _))) (.refl _)
      have h3 : SameSamples s2 s3 := .ite ((tempCompare_samples ..).trans ((tempCompare_samples ..).trans (tempCompare_samples ..))) (.refl _)
      exact .trans (t := s1) rfl (h2.trans (.ite (.refl _) (h3.trans (.ite (tempCompare_samples ..) (.refl _)))))

theorem ownCompare_samples (limitsOk : Bool) (s : State) : SameSamples s (ownCompare limitsOk s) := by
  unfold ownCompare
  split
  · exact .refl s
  · extract_lets _ s1 _ _ _ _ s2 s3 s4 s5 s6 s7 s8 s9 s10
    have h1 : SameSamples s s1 := .ite (cycleCompare_samples ..) (.refl _)
    have h3 : SameSamples s2 s3 := .ite (qualify_samples ..) (.refl _)
    have h5 : SameSamples s3 s5 := (compliance_samples ..).trans (compliance_samples ..)
    have h10 : SameSamples s5 s10 := (cycleCompare_samples ..).trans ((cycleCompare_samples ..).trans ((cycleCompare_samples ..).trans
      ((cycleCompare_samples ..).trans (cycleCompare_samples ..))))
    exact h1.trans (.trans (t := s2) rfl (h3.trans (h5.trans (h10.trans (.ite (.refl _) (.ite (.refl _) (qualify_samples ..)))))))

/-! ### The operating state machine -/

theorem releaseCoils_samples (open_ : Bool) (s : State) : SameSamples s (releaseCoils open_ s) := rfl

theorem releaseTrip_samples (s : State) : SameSamples s (releaseTrip s) := by
  unfold releaseTrip
  exact .ite (.refl s) (.ite rfl rfl)

theorem pullIn_samples (k : Nat) (s : State) : SameSamples s (pullIn k s) := modContactor_samples ..

theorem closeLowSides_samples (s : State) : SameSamples s (closeLowSides s) := rfl

theorem withdrawBleed_samples (s : State) : SameSamples s (withdrawBleed s) :=
  .of_eq (withdrawBleed_keeps s (.refl (fun q => q != .fe) s)).fe_eq

theorem stopPerturbation_samples (s : State) : SameSamples s (stopPerturbation s) :=
  .of_eq (stopPerturbation_keeps s (.refl (fun q => q != .fe) s)).fe_eq

/-- The low sides that a trip opened conduct again, and the first-trip register is armed. -/
theorem rearmed_samples (s : State) : SameSamples s (rearmFirstTrip (closeLowSides (releaseTrip s))) :=
  (releaseTrip_samples s).trans (closeLowSides_samples _)

theorem entryActions_samples (old new : OpState) (s : State) : SameSamples s (entryActions old new s) := by
  have hw := withdrawBleed_samples s
  cases new with
  | off | boot | online | derated => exact .refl s
  | isolated =>
    cases old with
    | tripped => exact rearmed_samples s
    | lockout => exact rearmed_samples { s with core := { s.core with lockoutLatched := false } }
    | boot => exact .ite rfl (.refl s)
    | _ => exact .refl s
  | precheck | service | sleep => exact hw
  | closing =>
    show SameSamples s (pullIn 1 { withdrawBleed s with fe := { (withdrawBleed s).fe with closingSince := some s.core.cycle } })
    generalize withdrawBleed s = u at *
    exact hw.trans rfl
  | tripping => exact (stopPerturbation_samples s).trans ((withdrawBleed_samples _).trans (startTripWait_samples ..))
  | tripped => exact withdrawBleed_samples { s with fb := { s.fb with tripPcs := true } }
  | lockout =>
    show SameSamples s (openLowSides (latchLockout { withdrawBleed s with fb := { s.fb with tripPcs := true } }))
    generalize withdrawBleed s = u at *
    exact hw.trans rfl

theorem takeEvent_samples (e : SmEvent) (t : OpState) (s : State) : SameSamples s (takeEvent e t s) := by
  unfold takeEvent
  extract_lets _ u _ s1
  refine .ite rfl ?_
  unfold enterState
  extract_lets old s2 who opening _ s3
  have h2 : SameSamples s1 s2 := .of_eq (State.tell_keeps s1 _ _ (.refl (fun q => q = .tally) s1)).fe_eq
  have h3 : SameSamples s1 s3 := h2.trans rfl
  exact .trans (t := s1) rfl (h3.trans (entryActions_samples old t s3))

theorem unTake_samples (t : SmEvent) (s : State) : SameSamples s (unTake t s) := by
  unfold unTake
  split
  · exact .refl s
  · exact .ite rfl rfl

theorem answerRequest_samples (e : SmEvent) (abort : Nat) (s : State) : SameSamples s (answerRequest e abort s) :=
  .of_eq (answerRequest_ranger e abort s).2

/-- Whatever the operating state machine makes of an event, the samples stand. -/
theorem smEvent_samples (e : SmEvent) (s : State) : SameSamples s (smEvent e s) := by
  unfold smEvent
  split
  · split
    · exact (takeEvent_samples ..).trans (answerRequest_samples ..)
    · exact .ite (answerRequest_samples ..) rfl
  · rename_i t _
    refine .ite ?_ rfl
    split
    · refine (unTake_samples t s).trans (.trans ?_ ((takeEvent_samples ..).trans (answerRequest_samples ..)))
      rfl
    · rfl

/-! ### The checks of a cycle -/

/-- The runs of the current cross-check are no samples, whatever they count to. -/
theorem crossRuns_samples (s : State) (bad good : Nat) : SameSamples s { s with fe := { s.fe with crossBad := bad, crossGood := good } } := rfl

theorem currentCheck_samples (s : State) : SameSamples s (currentCheck s) := by
  unfold currentCheck
  extract_lets d _ s1 bad _ s2
  have h2 : SameSamples s1 s2 := crossRuns_samples s1 _ _
  refine .trans (t := s1) rfl (.ite (.refl s1) (h2.trans ?_))
  exact .ite ((setFe_samples ..).trans (raiseOnce_samples ..)) (.ite ((setFe_samples ..).trans (clearOnce_samples ..)) (.refl _))

/-- Nor are those of the voltage cross-check. -/
theorem pathRuns_samples (s : State) (dev : Int) (bad good : Nat) :
    SameSamples s { s with fe := { s.fe with voltDev := dev, pathBad := bad, pathGood := good } } := rfl

theorem voltageCheck_samples (s : State) : SameSamples s (voltageCheck s) := by
  unfold voltageCheck
  extract_lets d bad _ s1
  have h1 : SameSamples s s1 := pathRuns_samples s _ _ _
  exact h1.trans (.ite ((setFe_samples ..).trans (raiseOnce_samples ..)) (.ite ((setFe_samples ..).trans (clearOnce_samples ..)) (.refl _)))

theorem startInjection_samples (s : State) : SameSamples s (startInjection s) := by
  unfold startInjection
  refine .ite (.refl s) ?_
  split
  iterate 3 exact .refl s
  all_goals exact .ite rfl rfl

theorem weldCycle_samples (s : State) : SameSamples s (weldCycle s) := by
  unfold weldCycle
  extract_lets again pre _ s1
  clear_value again pre
  have h1 : SameSamples s s1 := .ite rfl (.refl s)
  refine h1.trans (.ite ?_ rfl)
  exact .ite rfl (.refl s1)

theorem contactorClears_samples (s : State) : SameSamples s (contactorClears s) :=
  .of_eq (contactorClears_keeps s (.refl (fun q => q = .ranger) s)).fe_eq

theorem closeKp_samples (s : State) : SameSamples s (closeKp s) := by
  unfold closeKp
  exact .ite (pullIn_samples ..) (.refl s)

theorem auxStage_samples (s : State) : SameSamples s (auxStage s) := by
  unfold auxStage
  refine .ite (.trans ?_ (.ite (smEvent_samples ..) (.refl _))) (.refl s)
  rfl

theorem samplePoint_samples (n : Nat) (raw : Option Int) (cyc : Cycle) (s : State) : SameSamples s (samplePoint n raw cyc s) :=
  .of_eq (samplePoint_keeps n raw cyc s (.refl (fun q => q = .points) s)).fe_eq

theorem openWhenLow_samples (s : State) : SameSamples s (openWhenLow s) := by
  unfold openWhenLow
  exact .ite ((releaseCoils_samples false s).trans (smEvent_samples ..)) (.refl s)

theorem interlock_samples (s : State) : SameSamples s (interlock s) :=
  .of_eq (interlock_keeps s (.refl (fun q => q != .fe) s)).fe_eq

theorem i2tSample_samples (s : State) : SameSamples s (i2tSample s) := by
  unfold i2tSample
  extract_lets m h pick
  refine .ite (.refl s) ?_
  clear_value pick
  cases pick with
  | none => exact .refl s
  | some i =>
    refine .trans (.trans ?_ (.ite (qualify_samples ..) (.refl _))) (.ite (qualify_samples ..) (.refl _))
    rfl

/-! ### The strobe -/

/-- The readings of a strobe as the front-end takes them (R109). -/
def takeStrobe (x : StrobeSample) (main hall : Int) (s : State) : State :=
  { s with fe := { s.fe with
      main := main, hall := hall, vStr := x.vStr, vLink := x.vLink, vStrP := x.vStrP, vStrN := x.vStrN, vLinkP := x.vLinkP, vLinkN := x.vLinkN,
      discrete := s.discreteWord x.discrete } }

/-- The main reading clamped (R112): within ±2,000 A the limits of ±2,050 A change nothing. -/
theorem mainRange_clamps (main : Int) (s : State) : (mainRange main s).1 = clampI (-2050000) 2050000 main := by
  unfold mainRange
  split
  · rfl
  next h =>
    have hclamp : main = clampI (-2050000) 2050000 main := by unfold clampI; omega
    split <;> exact hclamp

/-- Of the front-end the range check writes its own run and the status. -/
theorem mainRange_fe (main : Int) (s : State) : ∃ n w, (mainRange main s).2.fe = { s.fe with inRange := n, status := w } := by
  unfold mainRange
  split
  · exact ⟨_, _, raiseOnce_fe ..⟩
  · split
    · dsimp only
      split
      · exact ⟨_, _, clearOnce_fe ..⟩
      · exact ⟨_, _, rfl⟩
    · exact ⟨_, _, rfl⟩

/-- Without a zero and outside the reversal the record carries the reading itself (R113, R114). -/
theorem heldMain_reading {s : State} (h : s.inServiceNow = false) (main : Int) : heldMain false main s = (main, s) := by
  unfold heldMain
  rw [if_neg Bool.false_ne_true]
  unfold State.inServiceNow at h
  split
  next c hc =>
    rw [hc] at h
    have hpast : ¬ s.since c < 2 := of_decide_eq_false h
    rw [if_neg (by omega), if_neg (by omega)]
  · rfl

/-- What a strobe does before it is read: the time since which both contactors are open goes on, and a zero that its conditions no longer allow ends (R113). -/
def beforeStrobe (x : StrobeSample) (s : State) : State :=
  let s := { s with fe := { s.fe with bothOpenSince := if s.bothOpen then s.start s.fe.bothOpenSince else none } }
  if s.fe.zeroing.isSome && s.zeroFails x.hallOk (x.hall - s.fe.hallOffset) then
    { s with fe := { s.fe with zeroing := none, zeroDue := true } }.setFe feZeroing false
  else s

/-- The outcome is a next state with the samples of this one. -/
def LeavesSamples (s : State) (o : Out) : Prop := ∃ t, o = .next t ∧ SameSamples s t

theorem linkRun_samples (s : State) (n : Nat) : SameSamples s { s with fe := { s.fe with linkRun := n } } := rfl

/-- The points of the auxiliary inputs of a strobe are no samples of the front-end (R109, R142). -/
theorem sampleAux_samples (aux : List (Nat × Option Int)) (s : State) : SameSamples s
    (aux.foldl (fun s e => (s.auxPoints e.1).foldl (fun s n => samplePoint n e.2 s.core.cycle (comparePoint n e.2 false s)) s) s) := by
  refine .foldl (fun s e => .foldl (fun s n => ?_) _ s) aux s
  exact (comparePoint_samples ..).trans (samplePoint_samples ..)

/-- Once the readings are taken no check and no decision writes a sample: not the status bits, the cross-checks, the insulation monitor's start, the weld
check, the Firebreak's own comparators, the close sequence or the points (R109). -/
theorem execFrontEndSample_samples {s u : State} {x : StrobeSample} {main : Int} (aux : List (Nat × Option Int)) (hp : s.pd 8 = true)
    (hm : mainRange (x.main - (beforeStrobe x s).fe.offset) (beforeStrobe x s) = (main, u)) (hz : u.fe.zeroing = none) (hi : u.inServiceNow = false) :
    LeavesSamples (takeStrobe x main (x.hall - u.fe.hallOffset) u) (execFrontEndSample x aux s) := by
  unfold execFrontEndSample
  rw [if_neg (by rw [hp]; decide)]
  extract_lets _ _ _ b _
  have hb : mainRange (x.main - b.fe.offset) b = (main, u) := hm
  clear_value b
  split
  next _ _ hrange =>
  cases hb.symm.trans hrange
  extract_lets hold
  have hnone : hold = false := congrArg Option.isSome hz
  clear_value hold
  subst hnone
  rw [heldMain_reading hi]
  split
  next _ _ hheld =>
  cases hheld
  extract_lets _ s1 s2 s3 s4 s5 _ s6 s7 s8 s9 s10 s11 s12
  have h4 : SameSamples s1 s4 := (setFe_samples ..).trans ((setFe_samples ..).trans ((setFe_samples ..).trans ((setFe_samples ..).trans
    ((setFe_samples ..).trans (setFe_samples ..)))))
  have h6 : SameSamples s4 s6 := (setFe_samples ..).trans (linkRun_samples s5 _)
  have h8 : SameSamples s6 s8 := (currentCheck_samples s6).trans ((voltageCheck_samples _).trans (startInjection_samples _))
  have h10 : SameSamples s8 s10 := (setFe_samples ..).trans ((setFe_samples ..).trans (setFe_samples ..))
  have h12 : SameSamples s10 s12 := (weldCycle_samples s10).trans ((contactorClears_samples _).trans ((ownCompare_samples ..).trans
    ((closeKp_samples _).trans (auxStage_samples _))))
  exact ⟨_, rfl, .trans (t := s1) rfl (h4.trans (h6.trans (h8.trans (h10.trans (h12.trans (sampleAux_samples aux s12))))))⟩

/-- The range check leaves the offsets, a zero and the reversal of an in-service zero as they are. -/
theorem mainRange_zeros (main : Int) (s : State) : (mainRange main s).2.fe.zeroing = s.fe.zeroing ∧
    (mainRange main s).2.fe.hallOffset = s.fe.hallOffset ∧ (mainRange main s).2.inServiceNow = s.inServiceNow := by
  obtain ⟨n, w, hfe⟩ := mainRange_fe main s
  have hcore := (mainRange_keeps main s (.refl (fun q => q != .core) s)).core_eq
  unfold State.inServiceNow State.since
  rw [hfe, hcore]
  exact ⟨rfl, rfl, rfl⟩

/-- With no zero running only the time since which both contactors are open goes on. -/
theorem beforeStrobe_noZero {s : State} (x : StrobeSample) (hz : s.fe.zeroing = none) :
    beforeStrobe x s = { s with fe := { s.fe with bothOpenSince := if s.bothOpen then s.start s.fe.bothOpenSince else none } } := by
  have hno : ∀ b, ¬ (s.fe.zeroing.isSome && b) = true := by simp [hz]
  exact if_neg (hno _)

/-- A fast pair with no zero running, before it is integrated and compared (R110, R114). -/
def takeFast (main hall : Int) (s : State) : State :=
  { s with fe := { s.fe with fastMain := if s.inServiceNow then s.fe.fastMain else main - s.fe.offset, fastHall := hall - s.fe.hallOffset } }

theorem execFastSample_eq {s : State} (main hall : Int) (hp : s.pd 8 = true) (hz : s.fe.zeroing = none) :
    execFastSample main hall s = .next (openWhenLow (interlock (i2tSample (takeFast main hall s)))) := by
  unfold execFastSample
  rw [if_neg (by rw [hp]; decide), hz]
  rfl

/-- Settles O28: the samples are taken less their offsets, and nothing that follows writes one. -/
theorem frontEndSamples : Obligations.FrontEndSamples := by
  intro s hp hz
  refine ⟨fun x aux hi => ?strobe, fun main hall => ?fast⟩
  case strobe =>
    have hb := beforeStrobe_noZero x hz
    obtain ⟨hzero, hhall, hnow⟩ := mainRange_zeros (x.main - (beforeStrobe x s).fe.offset) (beforeStrobe x s)
    obtain ⟨t, ht, h⟩ := execFrontEndSample_samples (main := (mainRange _ _).1) (u := (mainRange _ _).2) aux hp rfl
      (hzero.trans (by rw [hb]; exact hz)) (hnow.trans (by rw [hb]; exact hi))
    rw [mainRange_clamps, hhall, hb] at h
    exact ⟨t, ht, congrArg FrontEnd.vStr h, congrArg FrontEnd.vLink h, congrArg FrontEnd.vStrP h, congrArg FrontEnd.vStrN h, congrArg FrontEnd.vLinkP h,
      congrArg FrontEnd.vLinkN h, congrArg FrontEnd.hall h, congrArg FrontEnd.main h⟩
  case fast =>
    refine ⟨_, execFastSample_eq main hall hp hz, ?_⟩
    have h := (i2tSample_samples (takeFast main hall s)).trans ((interlock_samples _).trans (openWhenLow_samples _))
    exact ⟨congrArg FrontEnd.fastMain h, congrArg FrontEnd.fastHall h⟩

end Sys2Proof.Machine
end

section
/-! SUPPORT. Causes of the Firebreak that qualify by a command of their own (R115, R262, R264): what surrounds a qualified cause leaves of it. -/

namespace Sys2Proof.Machine

set_option Elab.async false

open Sys2Proof

/-- A report of another fault does not touch whether one is raised. -/
theorem raised_reportInj_ne (s : State) (inj : Bool) {source kind source' kind' : Nat} (sev : Sev) (cls val cls' val' : Nat)
    (h : source ≠ source' ∨ kind ≠ kind' ∨ cls ≠ cls' ∨ val ≠ val') :
    (s.reportInj inj source kind sev cls val).raised source' kind' cls' val' = s.raised source' kind' cls' val' := by
  unfold State.reportInj State.send State.raised State.faultOnWay
  simp only [List.foldl_append, List.foldl_cons, List.foldl_nil]
  rw [if_neg (by simp only [FaultMsg.same, Bool.and_eq_true, decide_eq_true_eq, not_and]; omega)]
  rfl

/-- A cause that qualifies raises its own fault and no other. -/
theorem raised_qualify_ne (bit cls val : Nat) (inj : Bool) (s : State) {kind : Nat} (cls' val' : Nat) (h : causeKind bit ≠ kind) :
    (qualify bit cls val inj s).raised 0x010 kind cls' val' = s.raised 0x010 kind cls' val' := by
  unfold qualify
  rw [raised_congr (fbCause_causes _ _ _).2, raised_reportInj_ne _ _ _ _ _ _ _ (.inr (.inl h))]

/-- What comes before the sequencer without touching what it decides on: the operating state, the sequence and the coils. -/
theorem TripTaken.before {b : Bool} {s s' t : State} (h : TripTaken b s' t) (hc : s'.core = s.core) (ht : s'.fb.trip = s.fb.trip)
    (hh : s'.coilsHeld = s.coilsHeld) : TripTaken b s t :=
  ⟨fun h1 h2 h3 => h.line (hc ▸ h1) (hc ▸ h2) (hc ▸ h3),
   fun h1 h2 h3 => hc ▸ h.starts (hc ▸ h1) (ht ▸ h2) (hh ▸ h3),
   fun h1 => (h.goesOn (ht ▸ h1)).trans ht,
   fun h1 h2 => h.lowSides h1 (hc ▸ h2)⟩

/-- A Hall comparator that has operated shows in the front-end's status beside its cause (R115, R264). -/
theorem hallTrip_taken (s : State) : ∀ t, t = (qualify pcHall 0 0 false { s with fe := { s.fe with hallOperated := true } }).setFe feHallTrip true →
    t.cause 9 = true ∧ t.causeRaised 9 0 0 = true ∧ t.feBit feHallTrip = true ∧ TripTaken true s t := by
  rintro t rfl
  obtain ⟨hcause, hraised, htaken⟩ := qualify_taken pcHall 0 0 false { s with fe := { s.fe with hallOperated := true } } (by decide)
  exact ⟨hcause, hraised, by rw [feBit_setFe _ _ _ _ (by decide), if_pos rfl], (htaken.before (s := s) rfl rfl rfl).after rfl rfl rfl rfl⟩

/-- A lost temperature point is reported; its run of good reports ends and no cause changes (R262). -/
theorem pointLost_reported (n : Nat) (s : State) :
    ∀ t, t = ({ s with fb := { s.fb with goodSince := Tab.drop s.fb.goodSince n } } : State).raiseOnce 0x010 0x1C .warn 3 n →
    ChangesOnly [.fb, .ranger] s t ∧ t.raised 0x010 0x1C 3 n = true ∧ Tab.find t.fb.goodSince n = none ∧ t.fb.causes = s.fb.causes := by
  rintro t rfl
  rw [raiseOnce_fb]
  refine ⟨Keeps.changesOnly ?_, raised_raiseOnce .., find_drop .., rfl⟩
  exact State.raiseOnce_keeps _ _ _ _ _ _ (keeps_mk (.refl _ s) (by simp [SameBut]) (by simp [SameLists]))

/-- Where every cell-temperature point of a watched head is lost, the head is reported, and with more such heads than the envelope allows the cause qualifies. -/
theorem execHeadTemperatureLost_eq {p : Nat} {s u : State} (hp : p ∈ s.allHeads) (hpts : s.headCellPoints p ≠ [])
    (hlost : ∀ n ∈ s.headCellPoints p, s.reportLost n 1000 = true) (hu : u = s.raiseOnce 0x010 0x1D .degrade 2 (p * 256 + 255)) :
    execHeadTemperatureLost p s =
      .next (if u.hasEnv && u.env 0x5801 8 < u.headsLost && !u.causeRaised 13 0 0 then qualify 13 0 0 false u else u) := by
  subst hu
  unfold execHeadTemperatureLost
  dsimp only
  rw [if_pos (by simpa [hp, hpts] using hlost)]
  exact (apply_ite Host.Outcome.next _ _ _).symm

/-- The report of a lost head and the cause that may follow it (R262). -/
theorem headLost_taken {p : Nat} {s : State} (henv : s.hasEnv = true) (hp : p ∈ s.allHeads) (hpts : s.headCellPoints p ≠ [])
    (hlost : ∀ n ∈ s.headCellPoints p, s.reportLost n 1000 = true) : Gives (.headTemperatureLost p) s fun t =>
    t.raised 0x010 0x1D 2 (p * 256 + 255) = true ∧
      (s.env 0x5801 8 < (s.raiseOnce 0x010 0x1D .degrade 2 (p * 256 + 255)).headsLost → s.causeRaised 13 0 0 = false →
        t.cause 13 = true ∧ TripTaken true s t) := by
  refine ⟨_, execHeadTemperatureLost_eq hp hpts hlost rfl, ?_⟩
  have hraised := raised_raiseOnce s 0x010 0x1D .degrade 2 (p * 256 + 255)
  have hkeeps := State.raiseOnce_keeps s 0x010 0x1D .degrade 2 (p * 256 + 255) (.refl (fun q => q = .ranger) s)
  have hother : (s.raiseOnce 0x010 0x1D .degrade 2 (p * 256 + 255)).causeRaised 13 0 0 = s.causeRaised 13 0 0 :=
    raised_raiseOnce_ne s .degrade 2 (p * 256 + 255) 0 0 (.inr (.inl (by decide)))
  generalize s.raiseOnce 0x010 0x1D .degrade 2 (p * 256 + 255) = u at *
  obtain ⟨hcause, -, htaken⟩ := qualify_taken 13 0 0 false u (by decide)
  split
  case isTrue =>
    exact ⟨(raised_qualify_ne 13 0 0 false u 2 (p * 256 + 255) (by decide)).trans hraised, fun _ _ =>
      ⟨hcause, htaken.congr hkeeps.core_eq (by rw [hkeeps.fb_eq]) hkeeps.fe_eq⟩⟩
  case isFalse hno =>
    have henv' : u.hasEnv = true := by rw [State.hasEnv, hkeeps.fb_eq]; exact henv
    have hlimit : u.env 0x5801 8 = s.env 0x5801 8 := env_congr (by rw [hkeeps.fb_eq]) ..
    exact ⟨hraised, fun hmany hnot => absurd (by simp [henv', hlimit, hother, hmany, hnot]) hno⟩

/-- Settles O35: each cause qualifies in a state that differs from the one before by its report or its status bit alone. -/
theorem firebreakCauses : Obligations.FirebreakCauses := by
  intro s henv
  refine ⟨fun hpd => ?hall, fun k harmed hrun hnot => ?cells, fun n hwatched hlost => ?point, fun p hp hpts hlost => headLost_taken henv hp hpts hlost⟩
  case hall => exact ⟨_, if_pos (by rw [hpd, henv]; rfl), hallTrip_taken s _ rfl⟩
  case cells =>
    obtain ⟨hcause, hraised, htaken⟩ := qualify_taken 13 1 k (s.tainted 0 || s.tainted 1) s (by decide)
    exact ⟨_, if_pos (by simp [henv, harmed, hrun, hnot]), hcause, hraised, htaken⟩
  case point => exact ⟨_, if_pos (by rw [hwatched, hlost]; rfl), pointLost_reported n s _ rfl⟩

end Sys2Proof.Machine
end

section
/-! SUPPORT. The state after reset within its bounds, and reads of the staged copy of the two tables (R147). -/

namespace Sys2Proof.Machine

open Sys2Proof

/-- Settles O4: after reset every queue and every store is empty. -/
theorem boundedAtReset : Obligations.BoundedAtReset where
  q24 := Nat.zero_le _
  active := Nat.zero_le _
  last16 := Nat.zero_le _
  landing := Nat.zero_le _
  checkpoints := Nat.zero_le _
  images := Nat.zero_le _
  rawBuf := Nat.zero_le _
  sentFrames := Nat.zero_le _
  keep := Nat.zero_le _
  circ := Nat.zero_le _
  q25 := Nat.zero_le _

/-- The objects of the two tables are shown by the table reads, whichever session reads (R137, R142). -/
theorem readShown_tables {idx : Nat} (hlo : 0x3000 ≤ idx) (hhi : idx ≤ 0x3BFF) (s : State) (sess sub : Nat) :
    s.readShown sess idx sub = s.readTables idx sub := by
  unfold State.readShown
  rw [if_neg (by omega), if_neg (by omega), if_neg (by omega), if_neg (by omega), if_pos (by omega)]

/-- A configuration subindex of a cell reads as written, there being no other value to show (R138). -/
theorem readTables_cell {idx sub : Nat} (hidx : idx ≤ 0x31FF) (hsub : sub ≤ 0x1F) (s : State) : s.readTables idx sub = none := by
  unfold State.readTables State.readCellState
  rw [if_pos hidx, if_neg (by omega)]
  split
  case h_26 => rfl
  all_goals omega

/-- A configuration subindex of a point shows its configuration with the default map of R143. -/
theorem readTables_point {idx sub : Nat} (hidx : 0x3200 ≤ idx) (hsub : sub ≤ 0x1F) (s : State) :
    s.readTables idx sub = some (.num (s.pointCfg (idx - 0x3400) sub)) := by
  unfold State.readTables
  rw [if_neg (by omega)]
  dsimp only
  split
  case h_8 => rfl
  all_goals omega

/-- A READ below the staged copy shows what the tables show, else the value in force (R147). -/
theorem readVal_active {sub : Nat} (h0 : 1 ≤ sub) (hsub : sub ≤ 0x1F) (s : State) (sess idx : Nat) :
    s.readVal sess idx sub = (s.readShown sess idx sub).getD (s.readPlain idx sub) := by
  unfold State.readVal
  rw [if_neg (by omega), if_neg (by simp; omega)]
  cases s.readShown sess idx sub <;> rfl

/-- A READ of subindex s + 0x80 of the two tables shows the staged copy of s (R147). -/
theorem readVal_stagedCopy {idx : Nat} (hlo : 0x3000 ≤ idx) (hhi : idx ≤ 0x3BFF) (s : State) (sess sub : Nat) :
    s.readVal sess idx (sub + 0x80) = s.readStaged idx sub := by
  unfold State.readVal
  rw [if_neg (by omega), if_pos (by simp; omega), Nat.add_sub_cancel]

/-- A number in force reads as it is. -/
theorem readPlain_num {s : State} {idx sub : Nat} {v : Int} (h : Tab.find s.dict.vals (okey idx sub) = some (.num v)) :
    s.readPlain idx sub = .num v := by
  unfold State.readPlain State.val
  rw [h]

/-- What is staged is no part of the value in force. -/
theorem readTables_staged {idx sub : Nat} (hsub : sub ≤ 0x1F) (s : State) (staged : Tab ObjVal) :
    ({ s with dict := { s.dict with staged := staged } } : State).readTables idx sub = s.readTables idx sub := by
  by_cases hidx : idx ≤ 0x31FF
  · rw [readTables_cell hidx hsub, readTables_cell hidx hsub]
  · rw [readTables_point (by omega) hsub, readTables_point (by omega) hsub]
    rfl

/-- Settles O53: below 0x80 a READ goes to the tables and the values in force, which staging does not touch; from 0x80 on to the staged copy. -/
theorem stagedReads : Obligations.StagedReads := by
  intro b sess idx sub staged hlo hhi h0 hsub
  have hactive : ∀ s : State, s.readVal sess idx sub = (s.readTables idx sub).getD (s.readPlain idx sub) := fun s => by
    rw [readVal_active h0 hsub, readShown_tables hlo hhi]
  refine ⟨?unstaged, fun v hidx hv => ?cell, fun hidx => ?point, fun v hv => ?staged, fun hv => ?same⟩
  case unstaged =>
    rw [hactive, hactive, readTables_staged hsub]
    rfl
  case cell => rw [hactive, readTables_cell hidx hsub, Option.getD_none, readPlain_num hv]
  case point => rw [hactive, readTables_point (by omega) hsub, Option.getD_some]
  case staged =>
    rw [readVal_stagedCopy hlo hhi, State.readStaged, hv]
  case same =>
    rw [readVal_stagedCopy hlo hhi, State.readStaged, hv, readShown_tables hlo hhi, hactive]

end Sys2Proof.Machine
end

section
/-! SUPPORT. What becomes of a write of an open session (R146, R382, R388, R389, R394): refused, staged, an event of the dispatch, waiting for its boundary, or in
force at once; each branch of the engine's acceptance said once. -/

namespace Sys2Proof.Machine

open Sys2Proof

/-! ### A write reaches the dictionary engine -/

/-- Every command that is a write goes the way of every write. -/
theorem exec_writeOf {i : Instr} {w : Wr} (h : writeOf i = some w) (s : State) : exec i s = writeNow w.session w.req w.index w.sub w.value s := by
  cases i with
  | q26OverflowClear sess req race =>
    cases race with
    | false => cases h; rfl
    | true => cases h
  | _ => cases h <;> rfl

/-- A state once it has accepted a write. -/
def State.accepting (s : State) (w : Wr) : State := acceptWrite w.session w.req w.index w.sub w.value (s.serving w.session w.req)

theorem exec_closed {i : Instr} {w : Wr} {s : State} (h : writeOf i = some w) (ho : s.sessOpen w.session = false) : exec i s = .next s := by
  rw [exec_writeOf h, writeNow, ho]
  rfl

theorem exec_open {i : Instr} {w : Wr} {s : State} (h : writeOf i = some w) (ho : s.sessOpen w.session = true) :
    exec i s = .next (writeChecked w.session w.req w.index w.sub w.value (s.verdict w) (s.serving w.session w.req)) := by
  rw [exec_writeOf h, writeNow, if_pos ho]
  rfl

theorem exec_refused {i : Instr} {w : Wr} {s : State} (h : writeOf i = some w) (ho : s.sessOpen w.session = true) (hv : s.verdict w ≠ 0) :
    exec i s = .next (refuseWrite w.session w.req w.index w.sub (s.verdict w) w.value (s.serving w.session w.req)) := by
  rw [exec_open h ho, writeChecked, if_neg hv]

theorem exec_accepted {i : Instr} {w : Wr} {s : State} (h : writeOf i = some w) (ha : Accepted i s) : exec i s = .next (s.accepting w) := by
  obtain ⟨w', hw, ho, hv⟩ := ha
  obtain rfl : w = w' := Option.some.inj (h.symm.trans hw)
  rw [exec_open h ho, writeChecked, if_pos hv]
  rfl

/-- Service begins with the session's record alone (R397). -/
theorem serving_keeps {A : Part → Bool} (hd : A .dict = true) (s : State) (sess req : Nat) : Keeps A s (s.serving sess req) :=
  beginService_keeps sess req s.core.cycle s (.refl _ s) hd

theorem served_serving (s : State) (sess req : Nat) : ((s.serving sess req).session sess).served = inc32 (s.session sess).served := by
  unfold State.serving beginService
  rw [session_modSession, if_pos rfl]

theorem identity_serving (s : State) (sess req n : Nat) : ((s.serving sess req).session n).identity = (s.session n).identity := by
  unfold State.serving beginService
  rw [session_modSession]
  split
  case isTrue h => rw [h]
  case isFalse => rfl

/-! ### Refused -/

/-- The answer to a write joins the responses (R394, R397). -/
theorem reply_dict {sess : Nat} (hs : sess ≠ 0xFFFF) (s : State) (req idx sub code : Nat) (v : ObjVal) : (s.reply sess req 2 code).dict =
    { s.dict with responses := s.dict.responses ++ [s.writeAnswer ⟨sess, req, idx, sub, v⟩ code] } := by
  unfold State.reply State.replyAt State.answer
  rw [if_neg hs]
  rfl

/-- A refused write leaves its answer, and an envelope its result (7850.02): the envelope in force stands. -/
theorem refuseWrite_refuses {sess : Nat} (hs : sess ≠ 0xFFFF) (s : State) (req idx sub code : Nat) (v : ObjVal) :
    (refuseWrite sess req idx sub code v s).dict =
      { s.dict with responses := s.dict.responses ++ [s.writeAnswer ⟨sess, req, idx, sub, v⟩ code] } ∧
    (refuseWrite sess req idx sub code v s).fb.envelope = s.fb.envelope := by
  have hfb : ∀ t : State, (t.reply sess req 2 code).fb = t.fb := fun t =>
    (State.reply_keeps t sess req 2 code (.refl (fun p => p = .dict) t)).fb_eq
  unfold refuseWrite
  dsimp only
  rw [hfb]
  split
  case isTrue => exact ⟨reply_dict hs .., rfl⟩
  case isFalse => exact ⟨reply_dict hs .., rfl⟩

/-! ### Staged -/

/-- A write of a staged field enters the staging area, whose owner its session becomes, and is answered (R146). -/
theorem accepting_staged {w : Wr} {d : ObjDesc} (hd : objDesc w.index w.sub = some d) (hst : d.staged = true) (hs : w.session ≠ 0xFFFF) (s : State) :
    ChangesOnly [.dict] s (s.accepting w) ∧ (s.accepting w).dict = { (s.serving w.session w.req).dict with
      staged := Tab.put s.dict.staged (okey w.index w.sub) w.value, owner := some w.session, ownerAt := s.core.cycle,
      responses := s.dict.responses ++ [s.writeAnswer w 0] } := by
  have he : s.accepting w = (stageValue w.session (okey w.index w.sub) w.value (s.serving w.session w.req)).reply w.session w.req 2 0 := by
    unfold State.accepting acceptWrite
    rw [hd]
    exact if_pos hst
  rw [he]
  exact ⟨(State.reply_keeps _ _ _ _ _ (stageValue_keeps _ _ _ _ (serving_keeps rfl s w.session w.req))).changesOnly, reply_dict hs ..⟩

/-! ### An event of the dispatch -/

/-- A write of a dispatch object joins the events of its cycle, unanswered; the partner is told (R300). -/
theorem accepting_dispatch {w : Wr} {d : ObjDesc} (hd : objDesc w.index w.sub = some d) (hst : d.staged = false)
    (hdis : dispatchObject w.index w.sub = true) (s : State) :
    ChangesOnly [.dict, .sawyer, .pair] s (s.accepting w) ∧ (s.accepting w).dict = (s.serving w.session w.req).dict ∧
    (s.accepting w).sawyer = { s.sawyer with
      events := s.sawyer.events ++ [dispatchEvent w.session w.session w.req w.index w.sub w.value s.effective s] } := by
  have he : s.accepting w = sendDispatch (dispatchEvent w.session w.session w.req w.index w.sub w.value s.effective s) (s.serving w.session w.req) := by
    have hev : dispatchEvent w.session w.session w.req w.index w.sub w.value (s.serving w.session w.req).effective (s.serving w.session w.req) =
        dispatchEvent w.session w.session w.req w.index w.sub w.value s.effective s := by
      unfold dispatchEvent
      rw [identity_serving]
      rfl
    unfold State.accepting acceptWrite
    rw [hd]
    dsimp only
    rw [if_neg (by simp [hst]), if_pos hdis, hev]
  rw [he]
  refine ⟨(sendDispatch_keeps _ _ (serving_keeps rfl s w.session w.req)).changesOnly, ?_, ?_⟩
  · exact (sendDispatch_keeps (A := fun p => p = .sawyer || p = .pair) _ _ (.refl _ _)).dict_eq
  · exact (replicate_keeps (A := fun p => p = .pair) _ _ _ (.refl _ _)).sawyer_eq

/-! ### Waiting for its boundary -/

/-- An accepted write of string scope that is neither staged, an event of the dispatch nor answered by its object is queued. -/
theorem accepting_queues {w : Wr} {d : ObjDesc} (hd : objDesc w.index w.sub = some d) (hst : d.staged = false)
    (hdis : dispatchObject w.index w.sub = false) (hown : ownAnswer w.index w.sub = false) (hsc : d.stringScope = true) (s : State) :
    s.accepting w = queueWrite w.session w.req w.index w.sub w.value (s.serving w.session w.req) := by
  simp [State.accepting, acceptWrite, hd, hst, hdis, hown, hsc]

/-- What waits for a boundary: the write itself; of a cell command only its answer waits with the writes, its code with the cell commands (R141, R388). -/
theorem queueWrite_waits (sess req idx sub : Nat) (v : ObjVal) (s : State) :
    ChangesOnly [.dict, .pair] s (queueWrite sess req idx sub v s) ∧ (queueWrite sess req idx sub v s).dict =
      if cellCommandObject idx sub then
        { s.dict with pending := s.dict.pending ++ [{ session := sess, req := req, entries := [], effective := s.effective }],
                      cellCmds := s.dict.cellCmds ++ [(s.effective, idx - 0x3000 + 1, v.toInt.toNat)] }
      else { s.dict with pending := s.dict.pending ++ [{ session := sess, req := req, entries := [(okey idx sub, v)], effective := s.effective }] } := by
  have hk : ∀ (what : RepKind) (eff : Cycle) (x : Dict), ChangesOnly [.dict, .pair] s (replicate what eff { s with dict := x }) ∧
      (replicate what eff { s with dict := x }).dict = x := fun what eff x =>
    ⟨(replicate_keeps what eff _ (keeps_mk (.refl _ s) (by simp [SameBut]) (by simp [SameLists]))).changesOnly,
     (replicate_keeps (A := fun p => p = .pair) what eff _ (.refl _ _)).dict_eq⟩
  unfold queueWrite
  split
  case isTrue => exact hk ..
  case isFalse => exact hk ..

/-! ### In force at once -/

/-- An entry that no record keeps is answered at once (R386, R392). -/
theorem finishWrite_plain {dest req : Nat} {cyc : Cycle} {abort idx sub : Nat} {v : ObjVal} (hp : persists idx sub = false) (hsub : sub < 256) (s : State) :
    finishWrite dest req cyc abort [(okey idx sub, v)] s = s.replyAt dest req 2 abort cyc := by
  have hkey : okey idx sub / 256 = idx ∧ okey idx sub % 256 = sub := by unfold okey; omega
  unfold finishWrite
  simp [hkey, hp]

/-- The subindices of the dictionary's rows fit a byte. -/
theorem objDesc_sub_lt {idx sub : Nat} {d : ObjDesc} (h : objDesc idx sub = some d) : sub < 256 := by
  have hrows : ∀ e ∈ catalog, e.subHi < 256 := by decide +kernel
  have hd := List.find?_some h
  have := hrows d (List.mem_of_find?_eq_some h)
  simp only [Bool.and_eq_true, decide_eq_true_eq] at hd
  omega

/-- No object of 0x7000 to 0x70FF acts beyond its value (R343 to R345). -/
theorem objectEffect_link {idx sub : Nat} {d : ObjDesc} (hlo : 0x7000 ≤ idx) (hhi : idx ≤ 0x70FF) (hd : objDesc idx sub = some d)
    (hdict : dictObject idx sub d = true) (sess dest req : Nat) (v : ObjVal) (s : State) :
    objectEffect sess dest req idx sub v s = s.setVal (okey idx sub) v := by
  have hlink : ∀ t : State, linkEffect sess dest req idx sub v t = t := by
    intro t
    unfold linkEffect
    rw [if_neg (by simp; omega), if_neg (by simp; omega), if_neg (by simp; omega), if_neg (by simp; omega)]
    split
    case h_12 => rfl
    all_goals omega
  have hself : storesItself idx sub = false := by simp [storesItself]; omega
  have hdis : dispatchObject idx sub = false := by simp [dispatchObject]; omega
  simp [objectEffect, hd, hdict, hself, hdis, show ¬ idx < 0x3000 by omega, show ¬ idx < 0x6000 by omega, show ¬ idx < 0x7000 by omega,
    show idx < 0x8000 by omega, hlink]

/-- A write to one of them that no record keeps is in force at once, and answered (R388). -/
theorem accepting_inForce {w : Wr} {d : ObjDesc} (hlo : 0x7000 ≤ w.index) (hhi : w.index ≤ 0x70FF) (hd : objDesc w.index w.sub = some d)
    (hst : d.staged = false) (hsc : d.stringScope = false) (hdict : dictObject w.index w.sub d = true) (hp : persists w.index w.sub = false) (s : State) :
    s.accepting w = ((s.serving w.session w.req).setVal (okey w.index w.sub) w.value).reply w.session w.req 2 0 := by
  have hdis : dispatchObject w.index w.sub = false := by simp [dispatchObject]; omega
  have hown : ownAnswer w.index w.sub = false := by simp [ownAnswer, hdis]; omega
  have hen : enforce w.session w.session w.req w.index w.sub w.value (s.serving w.session w.req) =
      (s.serving w.session w.req).setVal (okey w.index w.sub) w.value := by
    simp [enforce, waitsForRecord, hp, objectEffect_link hlo hhi hd hdict]
  have hres : ∀ t : State, t.resultOf w.index w.sub = 0 := fun t => if_neg (by simp; omega)
  simp only [State.accepting, acceptWrite, hd, hst, hdis, hown, hsc, hen, hres, finishWrite_plain hp (objDesc_sub_lt hd), Bool.false_eq_true, if_false]
  rfl

theorem val_setVal (s : State) (idx sub : Nat) (v : ObjVal) : (s.setVal (okey idx sub) v).val idx sub = v := by
  unfold State.val
  rw [vals_setVal, Tab.find_put_same]

/-- Settles O47: each outcome by the rule of its branch. -/
theorem writeOutcome : Obligations.WriteOutcome := by
  intro i w s hw hlt
  have hs : w.session ≠ 0xFFFF := by omega
  refine ⟨exec_closed hw, fun ho hv => ?refused, fun d ha hd => ⟨_, exec_accepted hw ha, fun hst => ?staged, fun hst hdis => ?dispatch,
    fun hst hdis hown hsc => ?queued, fun hlo hhi hst hsc hdict hp => ?inForce⟩⟩
  case refused =>
    obtain ⟨hdict, hfb⟩ := refuseWrite_refuses hs (s.serving w.session w.req) w.req w.index w.sub (s.verdict w) w.value
    refine ⟨_, exec_refused hw ho hv, (refuseWrite_keeps _ _ _ _ _ _ _ (serving_keeps rfl s w.session w.req)).changesOnly, ?_⟩
    unfold State.session
    rw [hdict]
    exact ⟨rfl, rfl, rfl, hfb, rfl, served_serving s w.session w.req⟩
  case staged =>
    obtain ⟨hk, hdict⟩ := accepting_staged hd hst hs s
    rw [hdict]
    exact ⟨hk, rfl, Tab.find_put_same .., fun k hne => Tab.find_put_other _ _ hne.symm, rfl, rfl⟩
  case dispatch =>
    obtain ⟨hk, hdict, hsawyer⟩ := accepting_dispatch hd hst hdis s
    rw [hdict, hsawyer]
    exact ⟨hk, rfl, rfl, rfl⟩
  case queued =>
    rw [accepting_queues hd hst hdis hown hsc]
    obtain ⟨hk, hdict⟩ := queueWrite_waits w.session w.req w.index w.sub w.value (s.serving w.session w.req)
    have hk' : ChangesOnly [.dict, .pair] s (s.serving w.session w.req) := (serving_keeps rfl s w.session w.req).changesOnly
    rw [hdict]
    refine ⟨hk'.trans hk, ?_, ?_, fun hc => ?_, fun hc => ?_⟩
    · split <;> rfl
    · split <;> rfl
    · rw [if_neg (by simp [hc])]; exact ⟨rfl, rfl⟩
    · rw [if_pos hc]; exact ⟨rfl, rfl⟩
  case inForce =>
    rw [accepting_inForce hlo hhi hd hst hsc hdict hp]
    have hr := reply_dict hs ((s.serving w.session w.req).setVal (okey w.index w.sub) w.value) w.req w.index w.sub 0 w.value
    refine ⟨?_, by rw [hr]; rfl⟩
    unfold State.val
    rw [hr]
    exact val_setVal ..

end Sys2Proof.Machine
end

section
/-! SUPPORT. Writes that pass their checks, by what becomes of them (R141, R146, R181, R298 to R300, R386, R388, R389): one entry or several, by whatever request
they come. -/

namespace Sys2Proof.Machine

open Sys2Proof

/-- The row of an object that lies within one row's range, no earlier row reaching into it. -/
theorem objDesc_of_range {lo hi sub : Nat} {d : ObjDesc}
    (h : catalog.find? (fun e => e.lo ≤ hi && lo ≤ e.hi && e.subLo ≤ sub && sub ≤ e.subHi) = some d) (hlo : d.lo ≤ lo) (hhi : hi ≤ d.hi)
    {idx : Nat} (h1 : lo ≤ idx) (h2 : idx ≤ hi) : objDesc idx sub = some d := by
  unfold objDesc
  generalize catalog = l at h
  induction l with
  | nil => cases h
  | cons e l ih =>
    rw [List.find?_cons] at h ⊢
    split at h
    case h_1 hp =>
      cases h
      have : (d.lo ≤ idx && idx ≤ d.hi && d.subLo ≤ sub && sub ≤ d.subHi) = true := by simp at hp ⊢; omega
      rw [this]
    case h_2 hp =>
      have : (e.lo ≤ idx && idx ≤ e.hi && e.subLo ≤ sub && sub ≤ e.subHi) = false := by simp at hp ⊢; omega
      rw [this]
      exact ih h

/-! ### One entry -/

/-- A WRITE of one entry that passes its checks is accepted as the write of its object is. -/
theorem exec_write_one {s : State} {a r : Nat} {e : Entry} (ho : s.sessOpen a = true) (hc : (s.serving a r).pduCheck a e = 0) :
    exec (.write a r [e]) s = .next (s.accepting ⟨a, r, e.index, e.sub, e.value⟩) := by
  show serveNow a r (.write [e]) s = _
  rw [serveNow, if_pos ho]
  show Host.Outcome.next (writeChecked a r e.index e.sub e.value ((s.serving a r).pduCheck a e) (s.serving a r)) = _
  rw [hc]
  rfl

/-- A command that is a write does, accepted, what the acceptance of its write does. -/
theorem takes_of_accepting {i : Instr} {w : Wr} {s : State} {Q : State → Prop} (hw : writeOf i = some w) (hq : Q (s.accepting w)) : Takes i s Q :=
  takes_of_acceptWrite hw (exec_writeOf hw s) hq

/-- A staged field holds the value written, the values in force stand, and the write is answered (R146). -/
theorem accepting_stages {w : Wr} {d : ObjDesc} (hd : objDesc w.index w.sub = some d) (hst : d.staged = true) (hs : w.session ≠ 0xFFFF) (s : State) :
    ChangesOnly [.dict] s (s.accepting w) ∧ Tab.find (s.accepting w).dict.staged (okey w.index w.sub) = some w.value ∧
      (s.accepting w).dict.vals = s.dict.vals ∧ (s.accepting w).dict.owner = some w.session ∧ Responds s (s.accepting w) (s.writeAnswer w 0) := by
  obtain ⟨hk, hdict⟩ := accepting_staged hd hst hs s
  rw [Responds, hdict]
  exact ⟨hk, Tab.find_put_same .., rfl, rfl, rfl⟩

/-- The chemistry tables: one row for all slots, staged (R181). -/
theorem chemistryTable_row {slot : Nat} (h : slot < 8) :
    objDesc (0x4010 + slot) 1 = some ⟨0x4010, 0x4017, 1, 1, 16, 4, 4, 0, 1, 3, 0, 0, "", "Chemistry table"⟩ :=
  objDesc_of_range (lo := 0x4010) (hi := 0x4017) (by decide +kernel) (by decide) (by decide) (by omega) (by omega)

/-- The cell command objects: one row for all cells, of string scope, not staged (R141). -/
theorem cellCommand_row {k : Nat} (h1 : 1 ≤ k) (h2 : k ≤ 512) :
    ∃ d, objDesc (0x3000 + k - 1) 0x41 = some d ∧ d.staged = false ∧ d.stringScope = true :=
  ⟨⟨0x3000, 0x31FF, 0x41, 0x41, 2, 2, 4, 0, 0, 2, 1, 3, "", "Cell command"⟩,
   objDesc_of_range (lo := 0x3000) (hi := 0x31FF) (by decide +kernel) (by decide) (by decide) (by omega) (by omega), rfl, rfl⟩

/-- A cell command waits for its boundary with its code, unanswered; the cell stands (R141). -/
theorem takes_cellCommand {i : Instr} {s : State} {a r k n : Nat} (h1 : 1 ≤ k) (h2 : k ≤ 512)
    (hw : writeOf i = some ⟨a, r, 0x3000 + k - 1, 0x41, .num n⟩) : Takes i s fun t =>
      t.dict.cellCmds = s.dict.cellCmds ++ [(s.effective, k, n)] ∧ t.cells = s.cells ∧ t.dict.responses = s.dict.responses := by
  obtain ⟨d, hd, hst, hsc⟩ := cellCommand_row h1 h2
  have hcell : cellCommandObject (0x3000 + k - 1) 0x41 = true := by simp [cellCommandObject]; omega
  have hdis : dispatchObject (0x3000 + k - 1) 0x41 = false := by simp [dispatchObject]
  have hown : ownAnswer (0x3000 + k - 1) 0x41 = false := by simp only [ownAnswer, hdis]; simp
  have hk : 0x3000 + k - 1 - 0x3000 + 1 = k := by omega
  refine takes_of_accepting hw ?_
  rw [accepting_queues hd hst hdis hown hsc]
  obtain ⟨⟨hparts, -⟩, hdict⟩ := queueWrite_waits a r (0x3000 + k - 1) 0x41 (.num n) (s.serving a r)
  rw [if_pos hcell, hk] at hdict
  obtain ⟨-, -, -, -, -, hcells, -⟩ := hparts
  rw [hdict]
  exact ⟨rfl, hcells.resolve_left (by decide), rfl⟩

/-- The objects of the dispatch lease and of its requests (R297 to R299). -/
def dispatchKeys : List (Nat × Nat) := [(0x6108, 1), (0x6108, 2), (0x6108, 3), (0x6108, 7), (0x6100, 2), (0x6100, 3), (0x6100, 4)]

theorem dispatchKeys_rows : ∀ e ∈ dispatchKeys, dispatchObject e.1 e.2 = true ∧ ∃ d ∈ objDesc e.1 e.2, d.staged = false := by decide +kernel

/-- A write to one of them is an event of its cycle, unanswered (R300). -/
theorem takes_dispatch {i : Instr} {s : State} {a r idx sub : Nat} {v : ObjVal} (hw : writeOf i = some ⟨a, r, idx, sub, v⟩) (hx : (idx, sub) ∈ dispatchKeys) :
    Takes i s fun t => ChangesOnly [.dict, .sawyer, .pair] s t ∧
      t.sawyer = { s.sawyer with events := s.sawyer.events ++ [dispatchEvent a a r idx sub v s.effective s] } ∧ t.dict.responses = s.dict.responses := by
  obtain ⟨hdis, d, hd, hst⟩ := dispatchKeys_rows _ hx
  obtain ⟨hk, hdict, hsawyer⟩ := accepting_dispatch (w := ⟨a, r, idx, sub, v⟩) hd hst hdis s
  exact takes_of_accepting hw ⟨hk, hsawyer, by rw [hdict]; rfl⟩

/-! ### Several entries -/

/-- What the partner is told of an entry changes the pair's part alone. -/
theorem tellEntry_keepsPair (sess : Nat) (eff : Cycle) (e : Nat × ObjVal) {A : Part → Bool} (hp : A .pair = true) {r s : State} (h : Keeps A r s) :
    Keeps A r (tellEntry sess eff s e) := by
  unfold tellEntry
  dsimp only
  split
  case h_1 => exact h
  case h_2 => exact keeps_ite h (keeps_ite (replicate_keeps _ _ _ h) (keeps_ite (replicate_keeps _ _ _ h) (replicate_keeps _ _ _ h)))

/-- Entries that all pass wait for one boundary together (R389). -/
theorem serveAtomic_waits {sess req : Nat} {l : List Entry} {kv : List (Nat × ObjVal)} {s : State} (hkv : kv = l.map fun e => (okey e.index e.sub, e.value))
    (htype : ∀ e ∈ l, typeAbort e = 0) (hchk : firstFailing (fun t i b v => t.entryCheck sess i b v) sess 0 kv s = none) :
    (serveAtomic sess req l s).dict =
      { s.dict with pending := s.dict.pending ++ [{ session := sess, req := req, entries := kv, effective := s.effective }] } := by
  have hbad : ((upFrom 0 l.length).zip l).find? (fun e => typeAbort e.2 != 0 &&
      s.writeCheck sess e.2.index e.2.sub e.2.value / 2 ^ 24 ∈ [0, 3]) = none :=
    List.find?_eq_none.2 fun e he => by simp [htype e.2 (List.of_mem_zip he).2]
  unfold serveAtomic
  dsimp only
  rw [hbad, ← hkv, hchk]
  exact (keeps_foldl (fun x e h => tellEntry_keepsPair sess _ e rfl h) (.refl (fun p => p = .pair) _)).dict_eq

/-- A WRITE of two to sixteen entries is served as one (R389). -/
theorem exec_write_several {s : State} {a r : Nat} {l : List Entry} (ho : s.sessOpen a = true) (h2 : 2 ≤ l.length) (h16 : l.length ≤ 16) :
    exec (.write a r l) s = .next (serveAtomic a r l (s.serving a r)) := by
  show serveNow a r (.write l) s = _
  rw [serveNow, if_pos ho]
  obtain _ | ⟨e, _ | ⟨e', l⟩⟩ := l
  · simp at h2
  · simp at h2
  · show Host.Outcome.next (if _ then _ else _) = _
    rw [if_neg (by simpa [Nat.lt_succ_iff] using h16)]
    rfl

/-- Settles O56: each write by what its acceptance gives. -/
theorem writesTaken : Obligations.WritesTaken := by
  rintro s u a r ho rfl ha
  have hs : a ≠ 0xFFFF := by omega
  refine ⟨fun idx sub v d hd hst => ⟨takes_of_accepting rfl (accepting_stages hd hst hs s), takes_of_accepting rfl (accepting_stages hd hst hs s), ?one⟩,
    fun l kv hkv h2 h16 htype hchk => ?several, fun slot table hslot => ?chemistry,
    fun k h1 h2 => ⟨takes_cellCommand (n := 1) h1 h2 rfl, takes_cellCommand (n := 2) h1 h2 rfl, takes_cellCommand (n := 3) h1 h2 rfl⟩,
    takes_dispatch rfl (by decide), takes_dispatch rfl (by decide), takes_dispatch rfl (by decide), takes_dispatch rfl (by decide),
    fun sub v hsub => takes_dispatch rfl ?request⟩
  case one =>
    rintro e rfl rfl rfl hc
    exact ⟨_, exec_write_one ho hc, accepting_stages hd hst hs s⟩
  case several =>
    refine ⟨_, exec_write_several ho h2 h16, ?_⟩
    dsimp only
    rw [serveAtomic_waits hkv htype hchk]
    exact ⟨rfl, rfl, rfl⟩
  case chemistry =>
    obtain ⟨-, hfind, hvals, -, hresp⟩ := accepting_stages (w := ⟨a, r, 0x4010 + slot, 1, .bytes table⟩) (chemistryTable_row hslot) rfl hs s
    exact takes_of_accepting rfl ⟨hvals, hfind, hresp⟩
  case request => rcases hsub with rfl | rfl | rfl <;> decide

end Sys2Proof.Machine
end

section
/-! SUPPORT. What the Cruiser does in time (R144, R146, R164, R166): a written area takes no record away, aggregates begin anew in every cell, two worn units
change places. -/

namespace Sys2Proof.Machine

set_option Elab.async false

open Sys2Proof

/-! ### Writing to an area -/

/-- The records of the minutes and hours are the same. -/
structure SameAggregates (s t : State) : Prop where
  minuteSram : t.cruiser.minuteSram = s.cruiser.minuteSram
  minutes : t.cruiser.minutes = s.cruiser.minutes
  hours : t.cruiser.hours = s.cruiser.hours
  hourAt : t.cruiser.hourAt = s.cruiser.hourAt

theorem SameAggregates.of_eq {s t : State} (h : t.cruiser = s.cruiser) : SameAggregates s t := by constructor <;> rw [h]

theorem SameAggregates.trans {s t u : State} (h : SameAggregates s t) (h' : SameAggregates t u) : SameAggregates s u :=
  ⟨h'.minuteSram.trans h.minuteSram, h'.minutes.trans h.minutes, h'.hours.trans h.hours, h'.hourAt.trans h.hourAt⟩

theorem beginUnit_aggregates (area : Nat) (s : State) : SameAggregates s (beginUnit area s) := by
  unfold beginUnit
  split
  case h_1 => exact .of_eq rfl
  case h_2 => exact ⟨rfl, rfl, rfl, rfl⟩

theorem foldl_beginUnit_aggregates (area : Nat) (l : List Nat) (s : State) : SameAggregates s (l.foldl (fun s _ => beginUnit area s) s) := by
  induction l generalizing s with
  | nil => exact .of_eq rfl
  | cons _ l ih => exact (beginUnit_aggregates area s).trans (ih _)

/-- Writing to an area takes no record away (R166). -/
theorem wrote_aggregates (area n : Nat) (s : State) : SameAggregates s (wrote area n s) := by
  unfold wrote
  extract_lets fill b _ s1 s2
  have h2 : SameAggregates s s2 := by
    simp only [s2]
    split
    case isTrue => exact ⟨rfl, rfl, rfl, rfl⟩
    case isFalse =>
      have hf := foldl_beginUnit_aggregates area (upFrom 0 (fill / unitBytes)) s1
      exact ⟨hf.minuteSram, hf.minutes, hf.hours, hf.hourAt⟩
  split
  case isTrue => exact h2.trans (.of_eq (State.raiseOnce_keeps s2 _ _ _ _ _ (.refl (fun p => p = .ranger) s2)).cruiser_eq)
  case isFalse => exact h2

theorem wrote_cells (area n : Nat) (s : State) : (wrote area n s).cells = s.cells :=
  (wrote_keeps area n s (.refl (fun p => p != .cells) s)).cells_eq

theorem storageOk_congr {s t : State} (hp : t.power = s.power) (hs : t.storage = s.storage) : t.storageOk = s.storageOk := by
  unfold State.storageOk State.pd
  rw [hp, hs]

/-! ### Aggregates (R164) -/

/-- Every cell changed in the same way. -/
def eachCell (f : CellState → CellState) (s : State) : State := s.allCells.foldl (fun s k => s.modCell k f) s

theorem eachCell_keeps (f : CellState → CellState) (s : State) : Keeps (fun p => p = .cells) s (eachCell f s) :=
  keeps_foldl (fun x k h => State.modCell_keeps x k f h) (.refl _ s)

theorem cell_eachCell (f : CellState → CellState) (s : State) : ∀ k ∈ s.allCells, (eachCell f s).cell k = f (s.cell k) := fun k hk =>
  (cell_fold (fun _ => f) s.allCells (nodup_upFrom ..) s k).trans (if_pos hk)

theorem storageOk_eachCell (f : CellState → CellState) (s : State) : (eachCell f s).storageOk = s.storageOk :=
  storageOk_congr (eachCell_keeps f s).power_eq (eachCell_keeps f s).storage_eq

/-- The record of the minute that ends. -/
def minuteRecord (s : State) : AggRecord :=
  { cycle := s.core.cycle, header := aggHeader 104 s, data := ((upFrom 1 512).map fun k => minutePart (s.cell k)).flatten }

/-- The record of the hour that ends. -/
def hourRecord (s : State) : AggRecord :=
  { cycle := s.core.cycle, header := aggHeader 512 s, data := ((upFrom 1 512).map fun k => hourPart (s.cell k)).flatten }

theorem length_upFrom (lo n : Nat) : (upFrom lo n).length = n := by
  induction n generalizing lo with
  | zero => rfl
  | succ n ih => exact congrArg (· + 1) (ih _)

theorem length_aggHeader (n : Nat) (s : State) : (aggHeader n s).length = n := by
  unfold aggHeader
  rw [List.length_map, length_upFrom]

/-- A minute's record is kept in storage while that works. -/
def storeMinute (r : AggRecord) (s : State) : State :=
  if s.storageOk then wrote 3 9320 { s with cruiser := { s.cruiser with minutes := keepN 7200 (r :: s.cruiser.minutes) } } else s

/-- An hour's record is kept in storage while that works. -/
def storeHour (r : AggRecord) (s : State) : State :=
  if s.storageOk then wrote 4 8704 { s with cruiser := { s.cruiser with hours := keepN 3855 (r :: s.cruiser.hours) } } else s

theorem storeMinute_stores (r : AggRecord) (s : State) : (storeMinute r s).cells = s.cells ∧ (storeMinute r s).cruiser.minuteSram = s.cruiser.minuteSram ∧
    (storeMinute r s).cruiser.minutes = if s.storageOk then keepN 7200 (r :: s.cruiser.minutes) else s.cruiser.minutes := by
  unfold storeMinute
  split
  case isTrue => exact ⟨wrote_cells .., (wrote_aggregates ..).minuteSram, (wrote_aggregates ..).minutes⟩
  case isFalse => exact ⟨rfl, rfl, rfl⟩

theorem storeHour_stores (r : AggRecord) (s : State) : (storeHour r s).cells = s.cells ∧ (storeHour r s).cruiser.hourAt = s.cruiser.hourAt ∧
    (storeHour r s).cruiser.hours = if s.storageOk then keepN 3855 (r :: s.cruiser.hours) else s.cruiser.hours := by
  unfold storeHour
  split
  case isTrue => exact ⟨wrote_cells .., (wrote_aggregates ..).hourAt, (wrote_aggregates ..).hours⟩
  case isFalse => exact ⟨rfl, rfl, rfl⟩

/-- A minute's record is kept in shared SRAM, and in storage while that works. -/
def keepMinute (r : AggRecord) (s : State) : State :=
  storeMinute r { s with cruiser := { s.cruiser with minuteSram := keepN 16 (r :: s.cruiser.minuteSram) } }

/-- An hour's record is kept in storage while that works, and its time noted. -/
def keepHour (r : AggRecord) (s : State) : State := storeHour r { s with cruiser := { s.cruiser with hourAt := some s.core.cycle } }

theorem keepMinute_keeps (r : AggRecord) (s : State) : (keepMinute r s).cells = s.cells ∧
    (keepMinute r s).cruiser.minuteSram = keepN 16 (r :: s.cruiser.minuteSram) ∧
    (keepMinute r s).cruiser.minutes = if s.storageOk then keepN 7200 (r :: s.cruiser.minutes) else s.cruiser.minutes := storeMinute_stores r _

theorem keepHour_keeps (r : AggRecord) (s : State) : (keepHour r s).cells = s.cells ∧ (keepHour r s).cruiser.hourAt = some s.core.cycle ∧
    (keepHour r s).cruiser.hours = if s.storageOk then keepN 3855 (r :: s.cruiser.hours) else s.cruiser.hours := storeHour_stores r _

/-- A due minute: its record, the aggregates anew, the record kept. -/
theorem execMinuteAggregate_eq {s : State} (h : ∀ r ∈ s.cruiser.minuteSram.head?, s.passed r.cycle 60000 = true) :
    execMinuteAggregate s = .next (keepMinute (minuteRecord s) (eachCell (fun c => { c with minute := {} }) s)) := by
  unfold execMinuteAggregate
  extract_lets due
  have hdue : due = true := by
    simp only [due]
    split
    case h_1 r hr => exact h r hr
    case h_2 => rfl
  rw [hdue]
  rfl

/-- A due hour: its record, the aggregates anew, the record kept. -/
theorem execHourAggregate_eq {s : State} (h : ∀ c, s.cruiser.hourAt = some c → s.passed c 3600000 = true) :
    execHourAggregate s = .next (keepHour (hourRecord s) (eachCell (fun c => { c with hour := {} }) s)) := by
  unfold execHourAggregate
  extract_lets due
  have hdue : due = true := by
    simp only [due]
    split
    case h_1 c hc => exact h c hc
    case h_2 => rfl
  rw [hdue]
  rfl

/-! ### Wear (R166) -/

/-- The units have changed places, and the erase of one of them is counted. -/
theorem execWearSwap_eq {s : State} {a b : Nat} (hok : s.storageOk = true) (hspread : 2000 < s.eraseSpread) (ha : leastWorn s s.liveUnits = some a)
    (hb : mostWorn s s.liveUnits = some b) : execWearSwap s = .next (noteSpread { s with cruiser := { s.cruiser with
      erases := Tab.put s.cruiser.erases (s.physical b) (s.erasesOf (s.physical b) + 1),
      unitMap := Tab.put (Tab.put s.cruiser.unitMap a (s.physical b)) b (s.physical a) } }) := by
  unfold execWearSwap
  rw [if_neg (by simp [hok]; omega), ha, hb]
  rfl

/-- Settles O29: each timer by its own condition. -/
theorem cruiserTimers : Obligations.CruiserTimers := by
  intro s
  refine ⟨fun ho hp => if_pos (by rw [ho, hp]; rfl), fun n hg hp => ?stale, fun h => ?minute, fun h => ?hour, fun a b hok hsp ha hb hne => ?wear⟩
  case stale =>
    refine ⟨_, if_pos (by simp [hg, hp]), ?_, fun m hm => ?_⟩
    · rw [point_modPoint, if_pos rfl]
    · rw [point_modPoint, if_neg hm.symm]
  case minute =>
    obtain ⟨hcells, hsram, hmin⟩ := keepMinute_keeps (minuteRecord s) (eachCell (fun c => { c with minute := {} }) s)
    rw [(eachCell_keeps ..).cruiser_eq] at hsram hmin
    rw [storageOk_eachCell] at hmin
    exact ⟨_, execMinuteAggregate_eq h, ⟨minuteRecord s, rfl, length_aggHeader .., rfl, hsram, hmin⟩,
      fun k hk => (cell_congr hcells k).trans (cell_eachCell _ s k hk)⟩
  case hour =>
    obtain ⟨hcells, hat, hhours⟩ := keepHour_keeps (hourRecord s) (eachCell (fun c => { c with hour := {} }) s)
    rw [(eachCell_keeps ..).core_eq] at hat
    rw [(eachCell_keeps ..).cruiser_eq, storageOk_eachCell] at hhours
    exact ⟨_, execHourAggregate_eq h, ⟨hourRecord s, rfl, length_aggHeader .., rfl, hhours⟩, hat,
      fun k hk => (cell_congr hcells k).trans (cell_eachCell _ s k hk)⟩
  case wear =>
    refine ⟨_, execWearSwap_eq hok hsp ha hb, ?_, ?_, fun u hua hub => ?_, ?_, rfl⟩
    · exact (Tab.at_put_other _ _ _ hne.symm).trans (Tab.at_put_same ..)
    · exact Tab.at_put_same ..
    · exact (Tab.at_put_other _ _ _ (Ne.symm hub)).trans (Tab.at_put_other _ _ _ (Ne.symm hua))
    · exact Tab.at_put_same ..

end Sys2Proof.Machine
end

section
/-! SUPPORT. Storage checkpoints, repaired entries of the tables, and a rebuild from storage (R137, R164, R204). -/

namespace Sys2Proof.Machine

set_option Elab.async false

open Sys2Proof

/-! ### Checkpoints (R164) -/

/-- The storage checkpoints and the cycle of the latest. -/
def State.checkpoints (s : State) : List Image × Cycle := (s.storage.checkpoints, s.storage.lastCp)

theorem checkpoints_congr {s t : State} (h : t.storage = s.storage) : t.checkpoints = s.checkpoints := by unfold State.checkpoints; rw [h]

theorem wrote_checkpoints (area n : Nat) (s : State) : (wrote area n s).checkpoints = s.checkpoints :=
  checkpoints_congr (wrote_keeps area n s (.refl (fun p => p != .storage) s)).storage_eq

theorem clearOnce_checkpoints (s : State) (source kind cls val : Nat) : (s.clearOnce source kind cls val).checkpoints = s.checkpoints :=
  checkpoints_congr (State.clearOnce_keeps s source kind cls val (.refl (fun p => p != .storage) s)).storage_eq

theorem healArea_checkpoints (area : Nat) (s : State) : (healArea area s).checkpoints = s.checkpoints := by
  unfold healArea
  split
  case isTrue => exact clearOnce_checkpoints ..
  case isFalse => rfl

theorem refreshDictionary_checkpoints (s : State) : (refreshDictionary s).checkpoints = s.checkpoints := by
  unfold refreshDictionary
  dsimp only
  split
  case isTrue => rfl
  case isFalse => rw [healArea_checkpoints, clearOnce_checkpoints, wrote_checkpoints]; rfl

/-- Of eight checkpoints the newest holds the Landing's latest image; what follows its write takes none away. -/
theorem storeCheckpoint_checkpoints (s : State) :
    (storeCheckpoint s).checkpoints = (keepN 8 (s.checkpointImage :: s.storage.checkpoints), s.core.cycle) := by
  unfold storeCheckpoint drawInt
  dsimp only
  rw [refreshDictionary_checkpoints, healArea_checkpoints, clearOnce_checkpoints, wrote_checkpoints]
  rfl

theorem sendTables_checkpoints (s : State) : (sendTables s).checkpoints = s.checkpoints :=
  checkpoints_congr (sendTables_keeps s (.refl (fun p => p != .storage) s)).storage_eq

/-! ### The rebuild from storage (R204) -/

/-- The state that knows that it has begun the rebuild. -/
def beginRebuild (s : State) : State := { s with power := { s.power with boot := s.power.boot ||| 4 } }

/-- Every cell restarts, and after SLEEP its rest goes on. -/
def restartCells (s : State) : State :=
  let s := s.allCells.foldl restartCell s
  if s.power.boot.getLsbD 3 then s.allCells.foldl continueRest s else s

/-- Insertions that the Lookout saw wait for their boundary, and open taps mark their cells. -/
def markCells (s : State) : State :=
  let s := s.lookout.changedHeads.foldl (fun s p => (s.cellsOf p).foldl (fun s k => s.modCell k fun c => { c with insertPending := true }) s) s
  { tapMarks s with lookout := { s.lookout with changedHeads := [] } }

/-- The parts a rebuild works on, but for its marks in power and Lookout. -/
abbrev rebuildParts : Part → Bool := fun p => !(p = .dict || p = .power || p = .lookout)

/-- A rebuild reads back what journal, checkpoint, records and snapshots give; then every cell restarts, is placed anew, and is marked. -/
theorem execStateRebuild_steps (bad : List Nat) {s : State} (hs : s.starting = true) (hp : s.pd 1 = true) (hb : s.power.boot.getLsbD 2 = false) :
    ∃ u, Keeps rebuildParts (beginRebuild s) u ∧
      execStateRebuild bad s = .next (markCells (bad.foldl repairTable (placeCells (restartCells u)))) := by
  unfold execStateRebuild
  rw [if_neg (by rw [hs, hp, hb]; decide)]
  extract_lets _ s1 img _ s2 s3 s4 _ s5 s6 s7 s8 s9 s10
  have h1 : Keeps rebuildParts (beginRebuild s) s1 := scanJournal_keeps _ (.refl _ _)
  have h2 : Keeps rebuildParts (beginRebuild s) s2 := by
    cases hi : img with
    | none => simpa only [s2, hi] using h1
    | some i =>
      simp only [s2, hi]
      exact keeps_mk h1 (by simp [SameBut]) (by simp [SameLists])
  have h4 : Keeps rebuildParts (beginRebuild s) s4 := keeps_foldl (fun x k h => restoreLearned_keeps _ x k h) (skipBlocks_keeps s2 h2)
  have h5 : Keeps rebuildParts (beginRebuild s) s5 := keeps_mk h4 (by simp [SameBut]) (by simp [SameLists])
  have h6 : Keeps rebuildParts (beginRebuild s) s6 := keeps_foldl (fun x k h => restoreSoc_keeps img x k h) h5
  refine ⟨s6, h6, ?_⟩
  clear_value s6
  rfl

theorem restartCells_keeps (s : State) : Keeps rebuildParts s (restartCells s) := by
  have h : Keeps rebuildParts s (s.allCells.foldl restartCell s) := keeps_foldl (fun x k h => restartCell_keeps x k h) (.refl _ s)
  unfold restartCells
  dsimp only
  split
  case isTrue => exact keeps_foldl (fun x k h => continueRest_keeps x k h) h
  case isFalse => exact h

theorem repairTables_keeps (bad : List Nat) (s : State) : Keeps rebuildParts s (bad.foldl repairTable (placeCells s)) :=
  keeps_foldl (fun x k h => repairTable_keeps x k h) (placeCells_keeps s (.refl _ s))

theorem markCells_keeps (s : State) : Keeps (fun p => p = .cells || p = .lookout) s (markCells s) := by
  unfold markCells
  extract_lets u
  have hu : Keeps (fun p => p = .cells || p = .lookout) s u :=
    keeps_foldl (fun x p h => keeps_foldl (fun x k h => State.modCell_keeps x k _ h) h) (.refl _ s)
  exact keeps_mk (tapMarks_keeps u hu) (by simp [SameBut]) (by simp [SameLists])

/-- What no restart outlasts in a cell: the traverse and the running aggregates (R194, R204). -/
def CellState.running (c : CellState) : Option Anchor × Agg × Agg := (c.anchor, c.minute, c.hour)

/-- A cell's lane and what no restart outlasts. -/
def CellState.placed (c : CellState) : Option Nat × Option Anchor × Agg × Agg := (c.lane, c.running)

theorem cell_rejectTraverse_other {k j : Nat} (h : k ≠ j) (s : State) : (rejectTraverse k s).cell j = s.cell j := by
  unfold rejectTraverse
  split
  case h_1 => rw [cell_modCell, if_neg h]; exact cell_congr (State.tellEvent_other ..).2.2.2.2.2.1 j
  case h_2 => rfl

theorem running_restartCell (s : State) (k j : Nat) : ((restartCell s k).cell j).running = if k = j then (none, {}, {}) else (s.cell j).running := by
  unfold restartCell
  rw [cell_modCell]
  split
  case isTrue => rfl
  case isFalse h => rw [cell_rejectTraverse_other h]

theorem running_foldl_restartCell (l : List Nat) {s : State} {j : Nat} (h : j ∈ l ∨ (s.cell j).running = (none, {}, {})) :
    ((l.foldl restartCell s).cell j).running = (none, {}, {}) := by
  induction l generalizing s with
  | nil => exact h.resolve_left (by simp)
  | cons k l ih =>
    refine ih ?_
    rw [running_restartCell]
    split
    case isTrue => exact .inr rfl
    case isFalse hk => exact h.imp_left fun hm => (List.mem_cons.1 hm).resolve_left (Ne.symm hk)

theorem allCells_congr {s t : State} (h : t.dict = s.dict) : t.allCells = s.allCells := by
  unfold State.allCells State.cellCount
  rw [h]

theorem continueRest_running (s : State) (k : Nat) : SameCell CellState.running s (continueRest s k) := by
  unfold continueRest
  exact SameCell.mod _ _ _ fun _ => rfl

theorem running_restartCells (s : State) : ∀ k ∈ s.allCells, ((restartCells s).cell k).running = (none, {}, {}) := by
  intro k hk
  have h := running_foldl_restartCell s.allCells (s := s) (.inl hk)
  unfold restartCells
  dsimp only
  split
  case isTrue => exact (SameCell.fold continueRest_running _ _ k).trans h
  case isFalse => exact h

/-- Every cell is placed on its first lane, its traverse and its aggregates as they are (R158). -/
theorem placed_placeCells (s : State) : ∀ k ∈ s.allCells, ((placeCells s).cell k).placed = (some ((k - 1) % 8), (s.cell k).running) := by
  intro k hk
  have h := cell_fold (fun k c => { c with lane := some ((k - 1) % 8), nextClass := none, nextLane := none }) s.allCells (nodup_upFrom ..) s k
  rw [if_pos hk] at h
  exact congrArg CellState.placed h

theorem repairTable_placed (s : State) (k : Nat) : SameCell CellState.placed s (repairTable s k) := by
  unfold repairTable resetImpedance
  refine .trans (SameCell.mod s k _ ?_) (.of_eq (State.report_other ..).2.2.2.2.2.1)
  exact fun _ => rfl

theorem setCellFlag_placed (s : State) (k i : Nat) (v : Bool) : SameCell CellState.placed s (s.setCellFlag k i v) := by
  unfold State.setCellFlag
  exact SameCell.mod s k _ fun _ => rfl

theorem tapFlags_placed (p tap : Nat) (s : State) : SameCell CellState.placed s (tapFlags p tap s) := by
  unfold tapFlags
  refine SameCell.fold (fun s k => ?_) _ s
  exact SameCell.trans (setCellFlag_placed s k _ _) (setCellFlag_placed _ k _ _)

theorem tapMarks_placed (s : State) : SameCell CellState.placed s (tapMarks s) := by
  unfold tapMarks
  refine .fold (fun s p => .fold (fun s t => ?_) _ s) _ s
  split
  case isTrue => exact tapFlags_placed p t s
  case isFalse => exact .of_eq rfl

theorem markCells_placed (s : State) : SameCell CellState.placed s (markCells s) := by
  unfold markCells
  extract_lets u
  have hu : SameCell CellState.placed s u := by
    refine .fold (fun s p => .fold (fun s k => ?_) _ s) _ s
    exact SameCell.mod s k _ fun _ => rfl
  exact hu.trans (.trans (tapMarks_placed u) (.of_eq rfl))

/-- Every restarted cell is on its first lane, with no traverse and empty aggregates. -/
theorem placed_rebuilt (u : State) (bad : List Nat) {k : Nat} (hk : k ∈ u.allCells) :
    ((markCells (bad.foldl repairTable (placeCells (restartCells u)))).cell k).placed = (some ((k - 1) % 8), none, {}, {}) := by
  have hcells : (restartCells u).allCells = u.allCells := allCells_congr (restartCells_keeps u).dict_eq
  rw [markCells_placed, SameCell.fold repairTable_placed, placed_placeCells _ k (hcells ▸ hk), running_restartCells u k hk]

/-- From its beginning on a rebuild leaves the marks in power alone. -/
theorem power_rebuilt {s u : State} (hu : Keeps rebuildParts (beginRebuild s) u) (bad : List Nat) :
    (markCells (bad.foldl repairTable (placeCells (restartCells u)))).power = (beginRebuild s).power := by
  rw [(markCells_keeps _).power_eq, (repairTables_keeps bad _).power_eq, (restartCells_keeps u).power_eq, hu.power_eq]

/-! ### Repaired entries (R137) -/

/-- A configuration entry is read again from what is persisted. -/
theorem execTableEntryRepaired_config (n : Nat) (s : State) : ∃ d : Dict, execTableEntryRepaired true false n s =
    .next ({ s with dict := d }.report (s.laneSrc n) 0x50 .warn 1 n) := by
  unfold execTableEntryRepaired
  dsimp only [Bool.not_false, ↓reduceIte]
  exact ⟨_, rfl⟩

/-- A cell's state comes from the Landing's latest image. -/
theorem execTableEntryRepaired_cell (n : Nat) {s : State} {i : Image} (hi : s.storage.landing.head? = some i) :
    execTableEntryRepaired true true n s =
      .next (let u := { s with cells := Tab.put s.cells n (Tab.at i.cells n {}) }; u.report (u.laneSrc n) 0x50 .warn 1 n) := by
  unfold execTableEntryRepaired
  rw [hi]
  rfl

/-- A point's state comes from the Landing's latest image. -/
theorem execTableEntryRepaired_point (n : Nat) {s : State} {i : Image} (hi : s.storage.landing.head? = some i) :
    execTableEntryRepaired false true n s =
      .next ({ s with points := Tab.put s.points n (Tab.at i.points n {}) }.report 0x038 0x50 .warn 3 n) := by
  unfold execTableEntryRepaired
  rw [hi]
  rfl

/-! ### What each command gives -/

theorem gives_checkpointFailed {s : State} (hok : s.storageOk = true) : Gives (.storageCheckpoint true) s fun t => t.raised 0x078 0xE8 0 0 = true := by
  refine ⟨s.raiseOnce 0x078 0xE8 .warn 0 0, ?_, raised_raiseOnce ..⟩
  show execStorageCheckpoint true s = _
  simp [execStorageCheckpoint, hok]

theorem gives_checkpoint {s : State} (hok : s.storageOk = true) : Gives (.storageCheckpoint false) s fun t =>
    t.storage.checkpoints = keepN 8 (s.checkpointImage :: s.storage.checkpoints) ∧ t.storage.lastCp = s.core.cycle := by
  have h := (sendTables_checkpoints (storeCheckpoint s)).trans (storeCheckpoint_checkpoints s)
  simp only [State.checkpoints, Prod.mk.injEq] at h
  refine ⟨sendTables (storeCheckpoint s), ?_, h⟩
  show execStorageCheckpoint false s = _
  simp [execStorageCheckpoint, hok]

theorem gives_configRepaired (s : State) (n : Nat) : Gives (.tableEntryRepaired true false n) s fun t =>
    Sent s t (s.msg (s.laneSrc n) 0x50 .warn 1 n) ∧ t.cells = s.cells := by
  obtain ⟨d, hd⟩ := execTableEntryRepaired_config n s
  refine ⟨_, hd, ?_, ?_⟩
  · exact sent_report { s with dict := d } (s.laneSrc n) 0x50 .warn 1 n
  · exact (State.report_other ..).2.2.2.2.2.1

theorem gives_cellRepaired {s : State} (n : Nat) {i : Image} (hi : s.storage.landing.head? = some i) : Gives (.tableEntryRepaired true true n) s fun t =>
    t.cell n = Tab.at i.cells n {} ∧ (∀ k, k ≠ n → t.cell k = s.cell k) ∧ Sent s t (s.msg (t.laneSrc n) 0x50 .warn 1 n) := by
  refine ⟨_, execTableEntryRepaired_cell n hi, ?_⟩
  extract_lets u
  have hcells : (u.report (u.laneSrc n) 0x50 .warn 1 n).cells = u.cells := (State.report_other ..).2.2.2.2.2.1
  have hc : ∀ k, (u.report (u.laneSrc n) 0x50 .warn 1 n).cell k = if n = k then Tab.at i.cells n {} else s.cell k := fun k =>
    (cell_congr hcells k).trans (Tab.at_put ..)
  have hsrc : (u.report (u.laneSrc n) 0x50 .warn 1 n).laneSrc n = u.laneSrc n :=
    congrArg (fun c : CellState => 0x030 + c.lane.getD 0) (cell_congr hcells n)
  refine ⟨by rw [hc, if_pos rfl], fun k hk => by rw [hc, if_neg (Ne.symm hk)], ?_⟩
  rw [hsrc]
  exact sent_report u (u.laneSrc n) 0x50 .warn 1 n

theorem gives_pointRepaired {s : State} (n : Nat) {i : Image} (hi : s.storage.landing.head? = some i) : Gives (.tableEntryRepaired false true n) s fun t =>
    t.point n = Tab.at i.points n {} ∧ (∀ k, k ≠ n → t.point k = s.point k) ∧ Sent s t (s.msg 0x038 0x50 .warn 3 n) := by
  refine ⟨_, execTableEntryRepaired_point n hi, ?_⟩
  generalize hu : ({ s with points := Tab.put s.points n (Tab.at i.points n {}) } : State) = u
  have hp : ∀ k, (u.report 0x038 0x50 .warn 3 n).point k = if n = k then Tab.at i.points n {} else s.point k := fun k => by
    unfold State.point
    rw [(State.report_other ..).2.2.2.2.2.2.1, ← hu]
    exact Tab.at_put ..
  refine ⟨by rw [hp, if_pos rfl], fun k hk => by rw [hp, if_neg (Ne.symm hk)], ?_⟩
  subst hu
  exact sent_report { s with points := Tab.put s.points n (Tab.at i.points n {}) } 0x038 0x50 .warn 3 n

theorem gives_rebuilt {s : State} (bad : List Nat) (hs : s.starting = true) (hp : s.pd 1 = true) (hb : s.power.boot.getLsbD 2 = false) :
    Gives (.stateRebuild bad) s fun t => t.power.boot.getLsbD 2 = true ∧ t.lookout.changedHeads = [] ∧
      ∀ k ∈ s.allCells, (t.cell k).lane = some ((k - 1) % 8) ∧ (t.cell k).anchor = none ∧ (t.cell k).minute = {} ∧ (t.cell k).hour = {} := by
  obtain ⟨u, hu, he⟩ := execStateRebuild_steps bad hs hp hb
  refine ⟨_, he, ?_, rfl, fun k hk => ?_⟩
  · rw [power_rebuilt hu bad]
    simp [beginRebuild]
  · have hcells : u.allCells = s.allCells := allCells_congr hu.dict_eq
    have h := placed_rebuilt u bad (hcells ▸ hk)
    simp only [CellState.placed, CellState.running, Prod.mk.injEq] at h
    exact h

/-- Settles O30: a checkpoint's image and a repair's report stand to the end; of a rebuild's steps the placement comes after the restart, and none after it
touches what they set. -/
theorem storageAndRepair : Obligations.StorageAndRepair := fun s =>
  ⟨gives_checkpointFailed, gives_checkpoint, gives_configRepaired s, fun n _ => gives_cellRepaired n, fun n _ => gives_pointRepaired n, gives_rebuilt⟩

end Sys2Proof.Machine
end

section
/-! SUPPORT. Perturbation windows (R208, R210, R212, R214, R215): the request, the stop, and the three ways in which a window ends. -/

namespace Sys2Proof.Machine

set_option Elab.async false

open Sys2Proof

/-! ### Request and stop (R208, R210) -/

/-- A command that writes the Borer's part alone. -/
theorem changesOnly_borer (s : State) (x : Borer) : ChangesOnly [.borer] s { s with borer := x } :=
  (keeps_mk (.refl _ s) (by simp [SameBut]) (by simp [SameLists])).changesOnly

theorem gives_windowRequest {s : State} (hidle : s.pertIdle = true) (hdue : s.pertDue = true) (hmay : s.mayPerturb = true) :
    Gives .perturbationWindowRequest s fun t => ChangesOnly [.borer] s t ∧ t.borer.state = .requested ∧ t.borer.desc.command = 1 ∧
      t.borer.desc.mask = BitVec.ofNat 8 (s.cfg 0x4800 2) ∧ t.borer.desc.start = s.ahead 1000 ∧ t.borer.desc.length = s.cfg 0x4800 5 ∧
      t.borer.desc.seq = (s.borer.desc.seq + 1) % 65536 :=
  ⟨_, if_pos (by rw [hidle, hdue, hmay]; rfl), changesOnly_borer .., rfl, rfl, rfl, rfl, rfl, rfl⟩

/-- A window that is requested or running, and may not go on, is stopped (R210). -/
theorem execPerturbationStop_stops {s : State} (hidle : s.pertIdle = false) (hmay : s.mayPerturb = false) :
    execPerturbationStop s = .next (stopPerturbation s) := if_neg (by simp [hidle, hmay])

theorem gives_stopRequested {s : State} (hst : s.borer.state = .requested) (hmay : s.mayPerturb = false) : Gives .perturbationStop s fun t =>
    t.borer.state = .idle ∧ t.borer.desc.command = 2 ∧ t.borer.discarded = s.borer.discarded := by
  refine ⟨_, execPerturbationStop_stops (by simp [State.pertIdle, hst]) hmay, ?_⟩
  simp [stopPerturbation, hst]

theorem gives_stopRunning {s : State} (hst : s.borer.state = .running) (hmay : s.mayPerturb = false) : Gives .perturbationStop s fun t =>
    t.borer.state = .idle ∧ t.borer.desc.command = 2 ∧ t.borer.discarded = inc32 s.borer.discarded ∧ t.borer.cause = 3 := by
  refine ⟨_, execPerturbationStop_stops (by simp [State.pertIdle, hst]) hmay, ?_⟩
  simp [stopPerturbation, hst]

/-! ### The end of a window (R212, R214, R215) -/

/-- The state with the measured amplitudes of the masked tones (4801.06), from which a window's end goes on. -/
def withAmps (s : State) : State :=
  { s with borer := { s.borer with
      amps := (upFrom 1 8).map fun k => if (tonesOf s.borer.desc.mask).contains k then toneCurrent (Tab.at s.borer.cells 0 {}) k else 0 } }

/-- Whether a tone's measured current is within 0.5 and 1.5 of the amplitude asked for (R212). -/
def toneInRange (s : State) (k : Nat) : Bool :=
  decide (s.borer.desc.amp * 10 ≤ 2 * toneCurrent (Tab.at s.borer.cells 0 {}) k) &&
    decide (2 * toneCurrent (Tab.at s.borer.cells 0 {}) k ≤ 3 * (s.borer.desc.amp * 10))

theorem toneInRange_iff (s : State) (k : Nat) : toneInRange s k = true ↔
    s.borer.desc.amp * 10 ≤ 2 * toneCurrent (Tab.at s.borer.cells 0 {}) k ∧
      2 * toneCurrent (Tab.at s.borer.cells 0 {}) k ≤ 3 * (s.borer.desc.amp * 10) := by
  rw [toneInRange, Bool.and_eq_true, decide_eq_true_iff, decide_eq_true_iff]

section
variable {s : State} (hrun : s.borer.state = .running) (hend : notBefore s.core.cycle s.windowEnd = true)
include hrun hend

/-- A window spoilt as a whole is discarded for its cause, whatever its amplitudes (R215, log 49). -/
theorem execWindowEnd_spoilt {c : Nat} (hc : s.borer.spoil = some c) : execWindowEnd s = .next (discardWindow c (withAmps s)) := by
  refine (if_pos (by simp [hrun, hend])).trans ?_
  dsimp only
  rw [hc]
  rfl

/-- A window that nothing spoilt goes by the amplitudes of its tones (R212, R214). -/
theorem execWindowEnd_unspoilt (hc : s.borer.spoil = none) : execWindowEnd s =
    if (tonesOf s.borer.desc.mask).all (toneInRange s) then .next (completeWindow (withAmps s)) else .next (amplitudeFailed (withAmps s)) := by
  refine (if_pos (by simp [hrun, hend])).trans ?_
  dsimp only
  split
  case h_1 c hsome => exact absurd (hc.symm.trans hsome) (by simp)
  case h_2 => rfl

end

theorem clearOnce_borer (s : State) (source kind cls val : Nat) : (s.clearOnce source kind cls val).borer = s.borer :=
  (State.clearOnce_keeps s source kind cls val (.refl (fun q => q = .ranger) s)).borer_eq

theorem raiseOnce_borer (s : State) (source kind : Nat) (sev : Sev) (cls val : Nat) : (s.raiseOnce source kind sev cls val).borer = s.borer :=
  (State.raiseOnce_keeps s source kind sev cls val (.refl (fun q => q = .ranger) s)).borer_eq

/-- A complete window counts as such, ends the run of amplitude discards, and its fault is clear afterwards (R212). -/
theorem completeWindow_counts (s : State) : (completeWindow s).borer.completed = inc32 s.borer.completed ∧ (completeWindow s).borer.state = .idle ∧
    (completeWindow s).borer.ampRun = 0 ∧ (completeWindow s).raised 0x039 0x5A 0 0 = false := by
  unfold completeWindow
  dsimp only
  rw [clearOnce_borer]
  exact ⟨rfl, rfl, rfl, raised_clearOnce ..⟩

/-- The state with the run of amplitude discards longer by one, and from the third on the request interval extended (R212). -/
def lengthenAmpRun (s : State) : State :=
  { s with borer := { s.borer with ampRun := s.borer.ampRun + 1, extended := s.borer.extended || 3 ≤ s.borer.ampRun + 1 } }

theorem amplitudeFailed_reported {s : State} (h : 3 ≤ s.borer.ampRun + 1) :
    amplitudeFailed s = discardWindow 1 ((lengthenAmpRun s).raiseOnce 0x039 0x5A .notice 0 0) := congrArg (discardWindow 1) (if_pos h)

theorem amplitudeFailed_unreported {s : State} (h : ¬ 3 ≤ s.borer.ampRun + 1) : amplitudeFailed s = discardWindow 1 (lengthenAmpRun s) :=
  congrArg (discardWindow 1) (if_neg h)

/-- A window discarded for its amplitudes adds to the run of those, and from the third in a row on the fault is raised (R212). -/
theorem amplitudeFailed_counts (s : State) : (amplitudeFailed s).borer.discarded = inc32 s.borer.discarded ∧ (amplitudeFailed s).borer.cause = 1 ∧
    (amplitudeFailed s).borer.ampRun = s.borer.ampRun + 1 ∧
    (3 ≤ (amplitudeFailed s).borer.ampRun → (amplitudeFailed s).raised 0x039 0x5A 0 0 = true) := by
  by_cases h : 3 ≤ s.borer.ampRun + 1
  case pos =>
    have hraised (t : State) : (discardWindow 1 t).raised 0x039 0x5A 0 0 = t.raised 0x039 0x5A 0 0 := raised_congr rfl ..
    rw [amplitudeFailed_reported h, hraised, raised_raiseOnce]
    dsimp only [discardWindow]
    rw [raiseOnce_borer]
    exact ⟨rfl, rfl, rfl, fun _ => rfl⟩
  case neg =>
    rw [amplitudeFailed_unreported h]
    exact ⟨rfl, rfl, rfl, fun hthird => absurd hthird h⟩

/-- Settles O32: request and stop by their conditions; a window's end by whether it is spoilt, in range or out of range. -/
theorem perturbationWindows : Obligations.PerturbationWindows := by
  intro s
  refine ⟨gives_windowRequest, gives_stopRequested, gives_stopRunning, fun hrun hend =>
    ⟨fun c hc => ?spoilt, fun hc hin => ?complete, fun hc ⟨k, hk, hlow⟩ => ?weak⟩⟩
  case spoilt => exact ⟨_, execWindowEnd_spoilt hrun hend hc, rfl, rfl, rfl⟩
  case complete =>
    have hall : (tonesOf s.borer.desc.mask).all (toneInRange s) = true := List.all_eq_true.2 fun k hk => (toneInRange_iff s k).2 (hin k hk)
    exact ⟨_, (execWindowEnd_unspoilt hrun hend hc).trans (if_pos hall), completeWindow_counts _⟩
  case weak =>
    have hout : ¬ (tonesOf s.borer.desc.mask).all (toneInRange s) = true := fun hall => by
      have hge := ((toneInRange_iff s k).1 (List.all_eq_true.1 hall k hk)).1
      omega
    exact ⟨_, (execWindowEnd_unspoilt hrun hend hc).trans (if_neg hout), amplitudeFailed_counts _⟩

end Sys2Proof.Machine
end

section
/-! SUPPORT. The end of a raised cause of the Firebreak (R273): its clear, its bit, and the loop that it alone held open. -/

namespace Sys2Proof.Machine

open Sys2Proof

theorem clearOnce_fb (s : State) (source kind cls val : Nat) : (s.clearOnce source kind cls val).fb = s.fb :=
  (State.clearOnce_keeps s source kind cls val (.refl (fun q => q = .ranger) s)).fb_eq

/-- The causes of the Firebreak and the Ranger's part stand. -/
structure SameCauses (s t : State) : Prop where
  causes : t.fb.causes = s.fb.causes
  ranger : t.ranger = s.ranger

theorem SameCauses.refl (s : State) : SameCauses s s := ⟨rfl, rfl⟩

theorem SameCauses.ite {s a b : State} {c : Prop} [Decidable c] (h : SameCauses s a) (h' : SameCauses s b) : SameCauses s (if c then a else b) := by
  split <;> assumption

theorem SameCauses.causeRaised_eq {s t : State} (h : SameCauses s t) (bit cls val : Nat) : t.causeRaised bit cls val = s.causeRaised bit cls val :=
  raised_congr h.ranger ..

theorem SameCauses.cause_eq {s t : State} (h : SameCauses s t) (bit : Nat) : t.cause bit = s.cause bit := congrArg (·.getLsbD bit) h.causes

theorem releaseTrip_sameCauses (s : State) : SameCauses s (releaseTrip s) := by
  unfold releaseTrip
  exact .ite (.refl s) (.ite ⟨rfl, rfl⟩ ⟨rfl, rfl⟩)

/-- Every active fault of the Firebreak of a cause's kind is that of the cause itself. -/
def State.OnlyOfKind (s : State) (bit cls val : Nat) : Prop :=
  ∀ a ∈ s.ranger.active, a.msg.source = 0x010 → a.msg.kind = causeKind bit → a.msg.cls = cls ∧ a.msg.val = val

/-- A cleared cause is no longer raised, and its bit falls where every active fault of its kind is its own (R273). -/
theorem clearCause_ends (bit cls val : Nat) (s : State) : (clearCause bit cls val s).causeRaised bit cls val = false ∧
    (s.OnlyOfKind bit cls val → (clearCause bit cls val s).cause bit = false) := by
  unfold clearCause
  extract_lets s1 other s2 _ s3
  have hraised : s3.causeRaised bit cls val = false := by
    have hranger : s3.ranger = s1.ranger := by
      show s2.ranger = s1.ranger
      simp only [s2]
      split <;> rfl
    exact (raised_congr hranger ..).trans (raised_clearOnce ..)
  have hcause (honly : s.OnlyOfKind bit cls val) : s3.cause bit = false := by
    have hother : other = false := by
      have hactive : s1.ranger.active = s.ranger.active := clearOnce_active ..
      simp only [other, hactive, Bool.and_eq_false_iff, List.any_eq_false]
      refine .inr fun a ha => ?_
      have hown := honly a ha
      grind
    show s2.cause bit = false
    simp [s2, hother]
  have hends (t : State) (h : SameCauses s3 t) : t.causeRaised bit cls val = false ∧ (s.OnlyOfKind bit cls val → t.cause bit = false) :=
    ⟨(h.causeRaised_eq ..).trans hraised, fun honly => (h.cause_eq bit).trans (hcause honly)⟩
  have hloop : SameCauses s3 (if s3.fb.tripPcs then releaseTrip s3 else s3) := .ite (releaseTrip_sameCauses s3) (.refl s3)
  split
  iterate 3 exact hends _ hloop
  exact hends _ (.refl s3)

/-- A raised cause whose condition is gone is cleared; a head that was unreachable counts as reachable again beside it. -/
theorem execFirebreakCauseClear_clears {s : State} {bit cls val : Nat} (hraised : s.causeRaised bit cls val = true)
    (hgone : s.causeGone bit cls val = true) : ∃ t, execFirebreakCauseClear bit cls val s = .next t ∧ SameCauses (clearCause bit cls val s) t := by
  unfold execFirebreakCauseClear
  rw [if_pos (by rw [hraised, hgone]; rfl)]
  dsimp only
  split
  · exact ⟨_, rfl, rfl, rfl⟩
  · exact ⟨_, rfl, .refl _⟩

/-- Settles O36: the clear ends the fault, and what follows it touches neither the causes nor the Ranger. -/
theorem firebreakCauseClears : Obligations.FirebreakCauseClears := by
  intro s bit cls val _ hraised hgone
  obtain ⟨t, ht, hsame⟩ := execFirebreakCauseClear_clears hraised hgone
  obtain ⟨hends, hfalls⟩ := clearCause_ends bit cls val s
  exact ⟨t, ht, (hsame.causeRaised_eq ..).trans hends, fun honly => (hsame.cause_eq bit).trans (hfalls honly)⟩

end Sys2Proof.Machine
end

section
/-! SUPPORT. The Firebreak's self-test and the one envelope that waits for it or for the partner (R278, R428, R429). -/

namespace Sys2Proof.Machine

open Sys2Proof

/-- The outcome of a self-test shows in 5810.0B and in nothing else of the Firebreak. -/
theorem selfTest_fb (pass : Bool) (s : State) : (selfTest pass s).fb = { s.fb with selfTestFailed := !pass } := by
  cases pass
  · exact raiseOnce_fb ..
  · exact clearOnce_fb ..

/-- A failed self-test is a fault that a passed one clears. -/
theorem raised_selfTest (pass : Bool) (s : State) : (selfTest pass s).raised 0x010 0x16 0 0 = !pass := by
  cases pass
  · exact raised_raiseOnce ..
  · exact raised_clearOnce ..

/-- Outside the Firebreak and the Ranger a self-test touches nothing. -/
theorem selfTest_others (pass : Bool) (s : State) : Keeps (fun q => q = .fb || q = .ranger) s (selfTest pass s) :=
  selfTest_keeps pass s (.refl _ s)

theorem starting_selfTest (pass : Bool) (s : State) : (selfTest pass s).starting = s.starting :=
  starting_congr (selfTest_others pass s).core_eq (selfTest_others pass s).power_eq

/-- The state with another list of envelopes that wait. -/
def setPending (l : List EnvPending) (s : State) : State := { s with fb := { s.fb with envPending := l } }

theorem inPair_setPending (l : List EnvPending) (s : State) : (setPending l s).inPair = s.inPair := inPair_congr rfl rfl

/-- In BOOT the run decides whether the Firebreak is active. -/
theorem execFirebreakSelfTest_starting {s : State} (hstart : s.starting = true) (pass : Bool) : execFirebreakSelfTest pass s =
    .next (noEnvelope { selfTest pass s with fb := { (selfTest pass s).fb with active := pass } }) := by
  unfold execFirebreakSelfTest
  exact if_pos ((starting_selfTest pass s).trans hstart)

/-- After BOOT a run that passes lets a waiting envelope of this unit go on to its boundary. -/
theorem execFirebreakSelfTest_passes {s : State} {p : EnvPending} (hstart : s.starting = false) (hp : s.fb.envPending = [p]) (ht : p.selfTest = true)
    (hf : p.foreign = false) : execFirebreakSelfTest true s =
      .next (scheduleEnvelopes (setPending [{ p with selfTest := false }] (selfTest true s))) := by
  have hpending : (selfTest true s).fb.envPending = [p] := by rw [selfTest_fb]; exact hp
  unfold execFirebreakSelfTest
  dsimp only
  rw [starting_selfTest, hstart, hpending, List.find?_cons_of_pos ht]
  simp [modFirst, hf, setPending]

/-- After BOOT a run that fails refuses a waiting envelope of this unit. -/
theorem execFirebreakSelfTest_fails {s : State} {p : EnvPending} (hstart : s.starting = false) (hp : s.fb.envPending = [p]) (ht : p.selfTest = true)
    (hf : p.foreign = false) : execFirebreakSelfTest false s = .next (refuseEnvelope p abSelfTest (selfTest false s)) := by
  have hpending : (selfTest false s).fb.envPending = [p] := by rw [selfTest_fb]; exact hp
  unfold execFirebreakSelfTest
  dsimp only
  rw [starting_selfTest, hstart, hpending, List.find?_cons_of_pos ht]
  simp [hf]

/-- The only envelope waits for nothing any more: its boundary is the next one (R258, R428). -/
theorem scheduleEnvelopes_single {s : State} {p : EnvPending} (hp : s.fb.envPending = [p]) (heff : p.effective = none) (ht : p.selfTest = false)
    (hw : p.partner = false) (hf : p.foreign = false) (hpair : s.inPair = false) :
    scheduleEnvelopes s = setPending [{ p with effective := some (s.ahead 1) }] s := by
  have hset : modFirst (fun q => q = p) (fun q => { q with effective := some (s.ahead 1) }) [p] = [{ p with effective := some (s.ahead 1) }] :=
    if_pos (decide_eq_true rfl)
  unfold scheduleEnvelopes
  rw [hp, List.find?_cons_of_pos (by rw [heff]; rfl)]
  dsimp only
  rw [if_neg (by rw [ht, hw, hf]; decide), hpair, if_neg Bool.false_ne_true, hset]
  exact if_neg (by rw [← setPending, inPair_setPending, hpair]; decide)

/-- The only envelope is refused: none waits any more, and its session has the answer. -/
theorem refuseEnvelope_single {s : State} {p : EnvPending} (code : Nat) (hp : s.fb.envPending = [p]) (hf : p.foreign = false) (hs : p.session ≠ 0xFFFF) :
    (refuseEnvelope p code s).fb.envPending = [] ∧
      ∃ r ∈ (refuseEnvelope p code s).dict.responses, r.session = p.session ∧ r.req = p.req ∧ r.abort = code := by
  unfold refuseEnvelope
  extract_lets _ u
  have hnone : u.fb.envPending = [] := by
    show s.fb.envPending.filter (fun q => q != p) = []
    simp [hp]
  rw [if_neg (by rw [hf]; decide)]
  refine ⟨?_, ?_⟩
  · rw [(State.reply_keeps u p.session p.req 2 code (.refl (fun q => q = .dict) u)).fb_eq, hnone]
  · rw [(reply_write hs p.req 0x7850 1 code (.bytes p.doc) u).1]
    exact ⟨_, List.mem_append_right _ (List.mem_singleton.2 rfl), rfl, rfl, rfl⟩

/-- A refusal touches neither the outcome of the self-test nor the Ranger. -/
theorem refuseEnvelope_selfTest (p : EnvPending) (code : Nat) (s : State) :
    (refuseEnvelope p code s).fb.selfTestFailed = s.fb.selfTestFailed ∧ (refuseEnvelope p code s).ranger = s.ranger := by
  refine ⟨?_, (refuseEnvelope_keeps p code s (.refl (fun q => q = .fb || q = .dict || q = .sec) s)).ranger_eq⟩
  unfold refuseEnvelope
  split
  · rfl
  · rw [(State.reply_keeps _ p.session p.req 2 code (.refl (fun q => q = .dict) _)).fb_eq]
    rfl

/-- The only envelope is refused once its partner has not answered for 1 s. -/
theorem execEnvelopePartnerTimeout_refuses {s : State} {p : EnvPending} (hp : s.fb.envPending = [p]) (hw : p.partner = true) (heff : p.effective = none)
    (hpassed : s.passed p.since 1000 = true) : execEnvelopePartnerTimeout s = .next (refuseEnvelope p abPartner s) := by
  unfold execEnvelopePartnerTimeout
  rw [hp, List.find?_cons_of_pos (by rw [hw, heff, hpassed]; rfl)]

/-- Settles O38: the self-test itself, then what it makes of the envelope that waits, and the partner's silence. -/
theorem selfTestAndPartner : Obligations.SelfTestAndPartner := by
  intro s
  refine ⟨fun pass hstart => ?boot, fun p hstart hp ht hw hf heff hpair => ?passes, fun p hstart hp ht hf hs => ?fails,
    fun p hp hw hf heff hpassed hs => ?silent⟩
  case boot =>
    obtain ⟨hactive, hfailed, hother⟩ := noEnvelope_other { selfTest pass s with fb := { (selfTest pass s).fb with active := pass } }
    refine ⟨_, execFirebreakSelfTest_starting hstart pass, hactive, hfailed.trans ?_, (hother 0x16 0 0 (by decide)).trans (raised_selfTest pass s)⟩
    exact congrArg Firebreak.selfTestFailed (selfTest_fb pass s)
  case passes =>
    have hkeeps := selfTest_others true s
    refine ⟨_, execFirebreakSelfTest_passes hstart hp ht hf, ?_⟩
    have hpair' : (setPending [{ p with selfTest := false }] (selfTest true s)).inPair = false := by
      rw [inPair_setPending, inPair_congr hkeeps.dict_eq hkeeps.pair_eq, hpair]
    rw [scheduleEnvelopes_single (p := { p with selfTest := false }) rfl heff rfl hw hf hpair']
    refine ⟨?_, congrArg Firebreak.selfTestFailed (selfTest_fb true s)⟩
    show [{ p with selfTest := false, effective := some ((selfTest true s).core.cycle + 1) }] = _
    rw [hkeeps.core_eq]
  case fails =>
    obtain ⟨hnone, hanswer⟩ := refuseEnvelope_single (s := selfTest false s) abSelfTest (by rw [selfTest_fb]; exact hp) hf hs
    obtain ⟨hfailed, hranger⟩ := refuseEnvelope_selfTest p abSelfTest (selfTest false s)
    refine ⟨_, execFirebreakSelfTest_fails hstart hp ht hf, hnone, hfailed.trans ?_, (raised_congr hranger ..).trans (raised_selfTest false s), hanswer⟩
    exact congrArg Firebreak.selfTestFailed (selfTest_fb false s)
  case silent => exact ⟨_, execEnvelopePartnerTimeout_refuses hp hw heff hpassed, refuseEnvelope_single abPartner hp hf hs⟩

end Sys2Proof.Machine
end

section
/-! SUPPORT. The comparison of protection summaries between partners (R275, R276). -/

namespace Sys2Proof.Machine

open Sys2Proof

/-- What one compared cycle makes of the two runs, and of the mismatch by the runs: raised from 3 or from 10 on, ended by a match in both parts. -/
theorem compareSummaries_counts (own other : Summary) (s : State) : ∀ t, t = compareSummaries own other s →
    t.fb.cellMis = (if cellPartOk own other then 0 else s.fb.cellMis + 1) ∧
    t.fb.feMis = (if frontPartOk own other then 0 else s.fb.feMis + 1) ∧
    (3 ≤ t.fb.cellMis ∨ 10 ≤ t.fb.feMis → t.raised 0x010 0x1A 0 0 = true) ∧
    (t.fb.cellMis = 0 → t.fb.feMis = 0 → t.raised 0x010 0x1A 0 0 = false) := by
  rintro t rfl
  unfold compareSummaries
  extract_lets f c e u
  have hruns (t : State) (h : t.fb = u.fb) : t.fb.cellMis = c ∧ t.fb.feMis = e := by rw [h]; exact ⟨rfl, rfl⟩
  split
  case isTrue hlong =>
    obtain ⟨hc, he⟩ := hruns _ (raiseOnce_fb u 0x010 0x1A .degrade 0 0)
    refine ⟨hc, he, fun _ => raised_raiseOnce .., fun hc0 he0 => ?_⟩
    simp only [Bool.or_eq_true, decide_eq_true_eq] at hlong
    omega
  case isFalse hshort =>
    simp only [Bool.or_eq_true, decide_eq_true_eq, not_or, Nat.not_le] at hshort
    split
    case isTrue =>
      obtain ⟨hc, he⟩ := hruns _ (clearOnce_fb u 0x010 0x1A 0 0)
      exact ⟨hc, he, fun hlong => by omega, fun _ _ => raised_clearOnce ..⟩
    case isFalse hsome =>
      obtain ⟨hc, he⟩ := hruns u rfl
      exact ⟨hc, he, fun hlong => by omega, fun hc0 he0 => absurd (by simp [← hc, ← he, hc0, he0]) hsome⟩

/-- With this unit's summary of the cycle waiting, the partner's is compared with it, and neither waits any more nor is late. -/
theorem execProtectionSummaryCompare_compares {s : State} {own other : Summary} (hpair : s.inPair = true) (hsum : s.pair.summaries = [own])
    (hown : own.own = true) (hcycle : own.cycle = other.cycle) : ∀ t, t = compareSummaries own { other with own := false } s →
    execProtectionSummaryCompare (some other) s =
      .next { t with pair := { t.pair with summaries := [] }, fb := { t.fb with late := add32 t.fb.late 0 } } := by
  rintro t rfl
  unfold execProtectionSummaryCompare
  rw [if_neg (by rw [hpair]; decide)]
  simp [hsum, hown, hcycle]

/-- Settles O40: the runs and the mismatch are those of the one cycle compared. -/
theorem protectionSummaries : Obligations.ProtectionSummaries := by
  intro s own other hpair hsum hown hcycle
  obtain ⟨hcell, hfront, hlong, hmatch⟩ := compareSummaries_counts own { other with own := false } s _ rfl
  exact ⟨_, execProtectionSummaryCompare_compares hpair hsum hown hcycle _ rfl, rfl, hcell, hfront, hlong, hmatch⟩

end Sys2Proof.Machine
end

section
/-! SUPPORT. The end of a dispatch lease and of a trace's capture (R299, R310), and what the dispatch makes of a subindex of 6108 that no dispatch event has. -/

namespace Sys2Proof.Machine

open Sys2Proof

/-! ### The end of a lease -/

/-- The ended lease leaves no mode, no holder and no time, and is counted (R299). -/
theorem endLease_sawyer (s : State) :
    (endLease s).sawyer = { s.sawyer with mode := 0, holder := 0, lease := 0, leaseEnds := inc32 s.sawyer.leaseEnds } := by simp [endLease]

/-- The end of a lease reported as an occurrence: the report is of the present cycle, and the Sawyer's part is that of the ended lease. -/
theorem endLease_reported (s : State) (source kind : Nat) (sev : Sev) (cls val : Nat) :
    ((endLease s).report source kind sev cls val).sawyer =
      { s.sawyer with mode := 0, holder := 0, lease := 0, leaseEnds := inc32 s.sawyer.leaseEnds } ∧
    Sent s ((endLease s).report source kind sev cls val) (s.msg source kind sev cls val) := by
  have hk : Keeps (fun p => p = .sawyer || p = .tally) s (endLease s) := endLease_keeps s (.refl _ s)
  have hmsg : (endLease s).msg source kind sev cls val = s.msg source kind sev cls val := by rw [State.msg, State.msg, hk.core_eq]
  exact ⟨endLease_sawyer s, hmsg ▸ (sent_report (endLease s) source kind sev cls val).from (.of_eq (by rw [hk.ranger_eq]))⟩

/-- A held lease whose time has run out ends, and its end is reported (R299). -/
theorem expireLease_ended {s : State} (hheld : s.sawyer.holder ≠ 0) (hout : s.sawyer.lease = 0) :
    expireLease s = (endLease s).report 0x040 0x70 .notice 0 0 := if_pos (by simp [hheld, hout])

/-! ### A capture -/

theorem trace_modTrace (s : State) (b c : Nat) (f : Trace → Trace) : (s.modTrace b f).trace c = if b = c then f (s.trace b) else s.trace c :=
  Tab.at_mod ..

/-- A capture with its samples after the trigger is complete, numbered, and begins its sample periods before its newest sample (R310). -/
theorem execTraceCaptureComplete_completes {s : State} {b : Nat} (hst : (s.trace b).state = 2) (hpost : s.postCount b ≤ (s.trace b).post) :
    execTraceCaptureComplete b s = .next (s.modTrace b fun x => { x with
      state := 3, seq := x.seq + 1, first := x.newest - BitVec.ofNat 32 (((s.trace b).samples.length - 1) * max 1 (s.cfg (0x6400 + b) 9)) }) :=
  if_pos (by simp [hst, hpost])

/-- Settles O41: a lease that has run out ends as `endLease` says, and a complete capture changes its own buffer alone. -/
theorem leaseAndTraceEnds : Obligations.LeaseAndTraceEnds := by
  refine fun s => ⟨fun hheld hout => ?lease, fun b hst hpost => ?trace⟩
  case lease => exact ⟨_, congrArg Host.Outcome.next (expireLease_ended hheld hout), endLease_reported s 0x040 0x70 .notice 0 0⟩
  case trace =>
    refine ⟨_, execTraceCaptureComplete_completes hst hpost, ?_⟩
    simp only [trace_modTrace, if_true, true_and]
    exact fun c hne => if_neg hne.symm

/-! ### A subindex that no dispatch event has -/

/-- Of the subindices of 6108 only 1 to 3 have a kind of their own; every other one counts as a revocation (R299, R300). -/
theorem dispatchEvent_kind_other {sub : Nat} (h1 : sub ≠ 1) (h2 : sub ≠ 2) (h3 : sub ≠ 3) (sess dest req : Nat) (v : ObjVal) (eff : Cycle) (s : State) :
    (dispatchEvent sess dest req 0x6108 sub v eff s).kind = 0 := by simp [dispatchEvent]

/-- A revocation ends a held lease, whoever holds it (R299). -/
theorem applyDispatch_revokes {u : State} {e : DispatchEvent} (hkind : e.kind = 0) (hheld : u.sawyer.holder ≠ 0) :
    (applyDispatch u e).sawyer = { u.sawyer with mode := 0, holder := 0, lease := 0, leaseEnds := inc32 u.sawyer.leaseEnds } := by
  simp [applyDispatch, hkind, hheld, endLease_sawyer]

/-- The state after reset with the dispatch lease held by identity 1. -/
def leaseHeld : State := { State.reset with sawyer := { State.reset.sawyer with holder := 1 } }

/-- Refutes O52: its clause for every subindex of 6108 but 1 and 7 says that an event of another identity than the holder's leaves the Sawyer's part. It holds
for 2 and 3; 6108.05, the lease time, is no dispatch object, and its event counts as a revocation, which ends the lease of the holder. -/
theorem not_writesAtBoundaryHigh : ¬ Obligations.WritesAtBoundaryHigh := by
  intro h
  obtain ⟨-, -, -, -, -, -, -, -, -, -, -, -, -, -, hlease, -, -⟩ := h leaseHeld 0 0
  obtain ⟨-, -, -, -, -, hother⟩ := hlease State.reset 0 5 (.num 0)
  have hstands := hother (by decide) (by decide) (by decide)
  have hends := applyDispatch_revokes (u := leaseHeld) (dispatchEvent_kind_other (sub := 5) (by decide) (by decide) (by decide) 0 0 0 (.num 0) 0 State.reset)
    (by decide)
  exact absurd (congrArg Sawyer.holder (hends.symm.trans hstands)) (by decide)

end Sys2Proof.Machine
end

section
/-! SUPPORT. The Canopy's thresholds through the states of R316, one lemma for each row of its table, and the fail-safe of a slot (R321). -/

namespace Sys2Proof.Machine

open Sys2Proof

/-! ### Thresholds and slots, read after a write -/

theorem thr_modThr (s : State) (j i : Nat) (f : Threshold → Threshold) : (s.modThr j f).thr i = if j = i then f (s.thr j) else s.thr i :=
  Tab.at_mod ..

@[simp] theorem thr_modThr_same (s : State) (j : Nat) (f : Threshold → Threshold) : (s.modThr j f).thr j = f (s.thr j) := Tab.at_mod_same ..

theorem thr_congr {s t : State} (h : t.canopy = s.canopy) (j : Nat) : t.thr j = s.thr j := by rw [State.thr, h, State.thr]

@[simp] theorem thr_raiseOnce (s : State) (source kind : Nat) (sev : Sev) (cls val j : Nat) : (s.raiseOnce source kind sev cls val).thr j = s.thr j :=
  thr_congr (State.raiseOnce_keeps s source kind sev cls val (.refl (fun q => q = .ranger) s)).canopy_eq j

@[simp] theorem thr_clearOnce (s : State) (source kind cls val j : Nat) : (s.clearOnce source kind cls val).thr j = s.thr j :=
  thr_congr (State.clearOnce_keeps s source kind cls val (.refl (fun q => q = .ranger) s)).canopy_eq j

@[simp] theorem slot_modSlot_same (s : State) (n : Nat) (f : Slot → Slot) : (s.modSlot n f).slot n = f (s.slot n) := Tab.at_mod_same ..

@[simp] theorem slot_raiseOnce (s : State) (source kind : Nat) (sev : Sev) (cls val n : Nat) :
    (s.raiseOnce source kind sev cls val).slot n = s.slot n :=
  congrArg (fun x : Sawyer => Tab.at x.slots n {}) (State.raiseOnce_keeps s source kind sev cls val (.refl (fun q => q = .ranger) s)).sawyer_eq

/-! ### One good sample: the rows of R316 -/

section
variable {t : Threshold} (now : Cycle) {beyond clear : Bool}

theorem Threshold.sample_third_beyond (hst : t.state = .normal) (hbeyond : beyond = true) (hcount : t.count = 2) :
    (t.sample now beyond clear).state = .pending ∧ (t.sample now beyond clear).since = now := by simp [Threshold.sample, hst, hbeyond, hcount]

/-- A sample leaves a threshold normal that has not counted two before it. -/
theorem Threshold.sample_normal_of_few (hst : t.state = .normal) (hfew : t.count < 2) : (t.sample now beyond clear).state = .normal := by
  cases beyond
  case false => simp [Threshold.sample, hst]
  case true => simp [Threshold.sample, hst, show t.count + 1 < 3 by omega]

theorem Threshold.sample_pending_undone (hst : t.state = .pending) (hbeyond : beyond = false) : (t.sample now beyond clear).state = .normal := by
  simp [Threshold.sample, hst, hbeyond]

theorem Threshold.sample_third_clear (hst : t.state = .active) (hclear : clear = true) (hcount : t.count = 2) :
    (t.sample now beyond clear).state = .clearing ∧ (t.sample now beyond clear).since = now := by simp [Threshold.sample, hst, hclear, hcount]

theorem Threshold.sample_clearing_undone (hst : t.state = .clearing) (hclear : clear = false) : (t.sample now beyond clear).state = .active := by
  simp [Threshold.sample, hst, hclear]

theorem Threshold.sample_seenAt : (t.sample now beyond clear).seenAt = t.seenAt := by
  unfold Threshold.sample
  repeat' split
  all_goals rfl

end

/-- Threshold j's point. -/
def State.thrPoint (s : State) (j : Nat) : PointState := s.point (s.thrCfg j 1).toNat

/-- Threshold j with its point's sample marked as seen. -/
def State.markedThr (s : State) (j : Nat) : Threshold := { s.thr j with seenAt := some (s.thrPoint j).updated }

/-- A good sample that the threshold has not seen yet is taken by that threshold alone (R315). -/
theorem gives_sampledThr {s : State} {j : Nat} (hj : j < 32) (hpoint : (s.thrCfg j 1).toNat ≠ 0xFFFF) (hseen : (s.thrPoint j).seen = true)
    (hnew : (s.thr j).seenAt ≠ some (s.thrPoint j).updated) (hgood : (s.thrPoint j).quality = .good) :
    Gives (.thresholdSample j) s fun t => (∀ i, i ≠ j → t.thr i = s.thr i) ∧ t.thr j =
      (s.markedThr j).sample s.core.cycle (s.thrBeyond j (s.thrPoint j).filtered) (s.thrClear j (s.thrPoint j).filtered) := by
  have hskip : ¬ (32 ≤ j || (s.thrCfg j 1).toNat = 0xFFFF || !(s.thrPoint j).seen || (s.thr j).seenAt = some (s.thrPoint j).updated) = true := by
    simp [hpoint, hseen, hnew, hj]
  refine ⟨_, (if_neg hskip).trans (if_pos hgood), fun i hi => ?others, ?own⟩
  case others => rw [thr_modThr, if_neg hi.symm, thr_modThr, if_neg hi.symm]
  case own =>
    rw [thr_modThr_same, thr_modThr_same]
    rfl

/-! ### Dwells (R316) and the fail-safe (R321) -/

/-- A threshold whose entry dwell has expired. -/
def activateThr (j : Nat) (s : State) : State :=
  s.modThr j fun t => { t with state := .active, count := 0, activations := inc32 t.activations }

theorem execEntryDwellExpired_activates {s : State} {j : Nat} (hst : (s.thr j).state = .pending)
    (hdwell : s.passed (s.thr j).since (s.thrCfg j 5).toNat = true) : execEntryDwellExpired j s =
    .next (if (s.thrCfg j 7).toNat = 0 then activateThr j s
      else (activateThr j s).raiseOnce 0x041 0x75 (Sev.ofCode ((s.thrCfg j 7).toNat - 1)) 5 j) := if_pos (by simp [hst, hdwell])

theorem gives_activated {s : State} {j : Nat} (hst : (s.thr j).state = .pending) (hdwell : s.passed (s.thr j).since (s.thrCfg j 5).toNat = true) :
    Gives (.entryDwellExpired j) s fun t => (t.thr j).state = .active ∧ (t.thr j).activations = inc32 (s.thr j).activations ∧
      ((s.thrCfg j 7).toNat ≠ 0 → t.raised 0x041 0x75 5 j = true) ∧ ((s.thrCfg j 7).toNat = 0 → t.ranger = s.ranger) := by
  refine ⟨_, execEntryDwellExpired_activates hst hdwell, ?_⟩
  by_cases hsev : (s.thrCfg j 7).toNat = 0 <;> simp [hsev, activateThr]

theorem execExitDwellExpired_ends {s : State} {j : Nat} (hst : (s.thr j).state = .clearing)
    (hdwell : s.passed (s.thr j).since (s.thrCfg j 6).toNat = true) : execExitDwellExpired j s =
    .next ((s.modThr j fun t => { t with state := .normal, count := 0 }).clearOnce 0x041 0x75 5 j) := if_pos (by simp [hst, hdwell])

theorem execCanopyFailSafe_fails {s : State} {n : Nat} (hslot : canopySlots.contains n = true) (hmode : s.slotCfg n 1 ≠ 0) (hbad : s.slotBad n = true)
    (hnot : (s.slot n).failSafe = false) (hdelay : s.ran (s.slot n).badSince (s.cfg 0x6800 6 * 1000) = true) :
    execCanopyFailSafe n s = .next ((s.modSlot n fun x => { x with failSafe := true }).raiseOnce 0x041 0x77 .warn 5 n) :=
  if_pos (by simp [hslot, hmode, hbad, hnot, hdelay, -List.contains_eq_mem])

/-- Settles O42: a good sample is one row of R316, and the dwells and the fail-safe delay end as their rules say. -/
theorem canopyEvaluation : Obligations.CanopyEvaluation := by
  refine fun s j hj => ⟨fun hpoint hseen hnew hgood => ?sample, gives_activated, fun hst hdwell => ?exit, fun n hslot hmode hbad hnot hdelay => ?failSafe⟩
  case sample =>
    obtain ⟨t, hexec, hothers, hown⟩ := gives_sampledThr hj hpoint hseen hnew hgood
    refine ⟨t, hexec, hothers, ?rows⟩
    rw [hown]
    refine ⟨?seen, fun hst hbeyond hcount => ?pends, fun hst hleft => ?third, fun hst hbeyond => ?undone, fun hst hclear hcount => ?clears,
      fun hst hclear => ?resumed⟩
    case seen => exact Threshold.sample_seenAt ..
    case pends => exact Threshold.sample_third_beyond _ hst hbeyond hcount
    case third => exact Nat.le_of_not_lt fun hfew => hleft (Threshold.sample_normal_of_few _ hst hfew)
    case undone => exact Threshold.sample_pending_undone _ hst hbeyond
    case clears => exact Threshold.sample_third_clear _ hst hclear hcount
    case resumed => exact Threshold.sample_clearing_undone _ hst hclear
  case exit => exact ⟨_, execExitDwellExpired_ends hst hdwell, by simp, raised_clearOnce ..⟩
  case failSafe => exact ⟨_, execCanopyFailSafe_fails hslot hmode hbad hnot hdelay, by simp, raised_raiseOnce ..⟩

end Sys2Proof.Machine
end

section
/-! SUPPORT. Local time: PTP at a port (R352), the clock's states (R354), the PPS edge (R351), time stamps (R358, R359) and pulse outputs (R360 to R362). -/

namespace Sys2Proof.Machine

set_option Elab.async false

open Sys2Proof

/-! ### Ports and outputs, read after a write -/

@[simp] theorem eth_modEth_same (s : State) (p : Nat) (f : EthPort → EthPort) : (s.modEth p f).eth p = f (s.eth p) := by
  unfold State.modEth State.eth
  split <;> rfl

theorem eth_modEth_other (s : State) {p q : Nat} (hp : p < 2) (hq : q < 2) (hne : q ≠ p) (f : EthPort → EthPort) :
    (s.modEth p f).eth q = s.eth q := by
  unfold State.modEth State.eth
  by_cases h0 : p = 0
  case pos => rw [if_pos h0, if_neg (by omega), if_neg (by omega)]
  case neg => rw [if_neg h0, if_pos (by omega), if_pos (by omega)]

/-- Whether a port can pass frames depends on its link and the power. -/
theorem ethUp_congr {s t : State} {p : Nat} (hpower : t.power = s.power) (hport : t.eth p = s.eth p) : t.ethUp p = s.ethUp p := by
  unfold State.ethUp State.pd
  rw [hpower, hport]

/-- The tag of a port's frames is a matter of configuration (R344). -/
theorem ethTag_congr {s t : State} (hdict : t.dict = s.dict) (p cls : Nat) : t.ethTag p cls = s.ethTag p cls := by
  have hcfg (sub : Nat) : t.ethCfg p sub = s.ethCfg p sub := cfg_congr hdict ..
  have hpcp : t.ethPcp p cls = s.ethPcp p cls := by
    unfold State.ethPcp
    rw [hcfg, hcfg, cfg_congr hdict]
  rw [State.ethTag, hcfg, hpcp, State.ethTag]

@[simp] theorem pulse_modPulse_same (s : State) (o : Nat) (f : Pulse → Pulse) : (s.modPulse o f).pulse o = f (s.pulse o) := Tab.at_mod_same ..

/-! ### PTP frames leave by their own port (R345, R352) -/

/-- PTP carries no redundancy trailer: its frames go to the one port, PRP or not. -/
theorem ethSend_ptp (p cls session : Nat) (data : Bytes) (s : State) :
    ethSend p cls 0 session data s = ethQueue p { cls := cls, kind := 0, session := session, data := data } s := if_neg (by simp)

theorem ethQueue_open {s : State} {p : Nat} (hopen : (s.eth p).fenced = false) (f : EthFrame) :
    ethQueue p f s = s.modEth p fun e => { e with tx := e.tx ++ [{ f with tag := s.ethTag p f.cls }] } := if_neg (by simp [hopen])

theorem ptpSeq_ethSend_ptp (p cls session : Nat) (data : Bytes) (s : State) : ((ethSend p cls 0 session data s).eth p).ptpSeq = (s.eth p).ptpSeq := by
  rw [ethSend_ptp, ethQueue]
  split
  case isTrue => rfl
  case isFalse => rw [eth_modEth_same]

theorem eth_ethSend_ptp_other {p q : Nat} (hp : p < 2) (hq : q < 2) (hne : q ≠ p) (cls session : Nat) (data : Bytes) (s : State) :
    (ethSend p cls 0 session data s).eth q = s.eth q := by
  rw [ethSend_ptp, ethQueue]
  split
  case isTrue => rfl
  case isFalse => exact eth_modEth_other s hp hq hne _

/-! ### PTP messages (R352, R353) -/

theorem execPtpMessageReceive_none {s : State} {port : Nat} (hnone : firstPtp (s.eth port).rx = none) : execPtpMessageReceive port s = .next s := by
  unfold execPtpMessageReceive
  rw [hnone]

/-- A delay request of the domain in use is answered on the port it came by. -/
theorem execPtpMessageReceive_answers {s : State} {port q : Nat} (hreq : firstPtp (s.eth port).rx = some (s.cfg 0x7100 7, .pdelayReq q)) :
    execPtpMessageReceive port s = .next (ethSend port 0 0 0 (le 1 3 ++ le 2 q) (s.modEth port fun e => { e with rx := dropPtp e.rx })) := by
  have hdomain : (s.modEth port fun e => { e with rx := dropPtp e.rx }).cfg 0x7100 7 = s.cfg 0x7100 7 :=
    cfg_congr (State.modEth_keeps s port _ (.refl (fun p => p = .links) s)).dict_eq ..
  unfold execPtpMessageReceive
  rw [hreq]
  exact congrArg Host.Outcome.next (if_neg (by simp [hdomain]))

/-- The answer leaves by that port with the port's tag, and the request leaves the queue. -/
theorem gives_delayAnswer {s : State} {port q : Nat} (hreq : firstPtp (s.eth port).rx = some (s.cfg 0x7100 7, .pdelayReq q))
    (hopen : (s.eth port).fenced = false) : Gives (.ptpMessageReceive port) s fun t => (t.eth port).rx = dropPtp (s.eth port).rx ∧
      (t.eth port).tx = (s.eth port).tx ++ [{ cls := 0, kind := 0, session := 0, data := le 1 3 ++ le 2 q, tag := s.ethTag port 0 }] := by
  refine ⟨_, execPtpMessageReceive_answers hreq, ?_⟩
  dsimp only
  have hdict := (State.modEth_keeps s port (fun e => { e with rx := dropPtp e.rx }) (.refl (fun p => p = .links) s)).dict_eq
  rw [ethSend_ptp, ethQueue_open (by rw [eth_modEth_same]; exact hopen), eth_modEth_same, eth_modEth_same, ethTag_congr hdict]
  exact ⟨rfl, rfl⟩

theorem ptpSeq_ptpInterval {s : State} {p : Nat} (hup : s.ethUp p = true) :
    ((ptpInterval s p).eth p).ptpSeq = ((s.eth p).ptpSeq + 1) % 65536 := by
  unfold ptpInterval
  rw [if_neg (by simp [hup])]
  dsimp only
  split
  case isTrue => rw [ptpSeq_ethSend_ptp, ptpSeq_ethSend_ptp, ptpSeq_ethSend_ptp, eth_modEth_same]
  case isFalse => rw [ptpSeq_ethSend_ptp, eth_modEth_same]

theorem eth_ptpInterval_other {p q : Nat} (hp : p < 2) (hq : q < 2) (hne : q ≠ p) (s : State) : (ptpInterval s p).eth q = s.eth q := by
  have hsend (data : Bytes) (u : State) : (ethSend p 0 0 0 data u).eth q = u.eth q := eth_ethSend_ptp_other hp hq hne ..
  unfold ptpInterval
  split
  case isTrue => rfl
  case isFalse =>
    dsimp only
    split
    case isTrue => rw [hsend, hsend, hsend, eth_modEth_other s hp hq hne]
    case isFalse => rw [hsend, eth_modEth_other s hp hq hne]

/-- The ports take their turns, ETH-A first, and neither touches the other. -/
theorem ptpSeq_intervals {s : State} {p : Nat} (hp : p < 2) (hup : s.ethUp p = true) :
    (((upFrom 0 2).foldl ptpInterval s).eth p).ptpSeq = ((s.eth p).ptpSeq + 1) % 65536 := by
  change ((ptpInterval (ptpInterval s 0) 1).eth p).ptpSeq = _
  obtain rfl | rfl : p = 0 ∨ p = 1 := by omega
  · rw [eth_ptpInterval_other (by decide) (by decide) (by decide), ptpSeq_ptpInterval hup]
  · have hport : (ptpInterval s 0).eth 1 = s.eth 1 := eth_ptpInterval_other (by decide) (by decide) (by decide) s
    have hpower : (ptpInterval s 0).power = s.power := (ptpInterval_keeps s 0 (.refl (fun p => p = .links) s)).power_eq
    rw [ptpSeq_ptpInterval ((ethUp_congr hpower hport).trans hup), hport]

/-! ### The clock's states (R354) -/

/-- A step moves local time and t0; the edges it skips fire at the outputs and leave the clock (R349, R362). -/
theorem stepTime_clock (d : Int) (s : State) : ∃ t0 phase, (stepTime d s).clock =
    { s.clock with sec := (splitNs (s.nowNs + d)).1, ns := (splitNs (s.nowNs + d)).2, t0 := t0, phase := phase } := by
  unfold stepTime
  extract_lets t z c u
  refine ⟨z, phaseOf (z.2 : Nat), ?_⟩
  split
  case isTrue =>
    have hedges : Keeps (fun p => p = .links) u ((upFrom 0 4).foldl stepPulse u) := keeps_foldl (fun x o hx => stepPulse_keeps x o hx) (.refl _ u)
    exact hedges.clock_eq
  case isFalse => rfl

/-- The state in which an offset is judged: it is the latest. -/
def withOffset (off : Int) (s : State) : State := { s with clock := { s.clock with offset := off } }

/-- Consecutive offsets within 250 ns, after this one. -/
def State.goodRunAfter (s : State) (off : Int) : Nat := if off.natAbs ≤ 250 then s.clock.goodRun + 1 else 0

/-- Consecutive offsets above 10 µs, after this one. -/
def State.badRunAfter (s : State) (off : Int) : Nat := if 10000 < off.natAbs then s.clock.badRun + 1 else 0

/-- A clock about to step counts the step, and its run of good offsets ends. -/
def countStep (s : State) : State := { s with clock := { s.clock with goodRun := 0, steps := inc32 s.clock.steps } }

def putGoodRun (n : Nat) (s : State) : State := { s with clock := { s.clock with goodRun := n } }

def putBadRun (n : Nat) (s : State) : State := { s with clock := { s.clock with badRun := n } }

section
variable {s : State} {off : Int}

theorem applyOffset_steps (hacq : s.clock.state = .acquiring) (hfar : s.cfg 0x7100 6 < off.natAbs) :
    applyOffset off s = (stepTime (-off) (countStep (withOffset off s))).tellEvent 0x0050 1 0x7100 (leI 4 off) := by
  unfold applyOffset
  extract_lets c u
  simp only [show u.clock.state = .acquiring from hacq]
  exact if_pos hfar

/-- Within the step threshold an acquiring clock slews, and the sixteenth good offset in a row locks it. -/
theorem applyOffset_slews (hacq : s.clock.state = .acquiring) (hnear : off.natAbs ≤ s.cfg 0x7100 6) :
    applyOffset off s = if 16 ≤ s.goodRunAfter off then setClock .locked (slew (putGoodRun (s.goodRunAfter off) (withOffset off s)))
      else slew (putGoodRun (s.goodRunAfter off) (withOffset off s)) := by
  unfold applyOffset
  extract_lets c u
  simp only [show u.clock.state = .acquiring from hacq]
  exact if_neg (Nat.not_lt.2 hnear)

/-- The third bad offset in a row loses the lock; else a locked clock slews. -/
theorem applyOffset_locked (hlock : s.clock.state = .locked) : applyOffset off s =
    if 3 ≤ s.badRunAfter off then setClock .acquiring (withOffset off s) else slew (putBadRun (s.badRunAfter off) (withOffset off s)) := by
  unfold applyOffset
  extract_lets c u
  simp only [show u.clock.state = .locked from hlock]
  rfl

/-- A step takes the offset off local time and is counted. -/
theorem applyOffset_stepped (hacq : s.clock.state = .acquiring) (hfar : s.cfg 0x7100 6 < off.natAbs) :
    (applyOffset off s).clock.offset = off ∧
    ((applyOffset off s).clock.sec, (applyOffset off s).clock.ns) = splitNs (s.nowNs - off) ∧
    (applyOffset off s).clock.steps = inc32 s.clock.steps := by
  obtain ⟨t0, phase, hclock⟩ := stepTime_clock (-off) (countStep (withOffset off s))
  have htold : (applyOffset off s).clock = (stepTime (-off) (countStep (withOffset off s))).clock := by
    rw [applyOffset_steps hacq hfar]
    exact (State.tellEvent_keeps _ _ _ _ _ (.refl (fun p => p = .tally) _)).clock_eq
  rw [htold, hclock]
  exact ⟨rfl, rfl, rfl⟩

theorem applyOffset_slewed (hacq : s.clock.state = .acquiring) (hnear : off.natAbs ≤ s.cfg 0x7100 6) :
    (applyOffset off s).clock.offset = off ∧
    (applyOffset off s).clock.state = if 16 ≤ s.goodRunAfter off then .locked else .acquiring := by
  rw [applyOffset_slews hacq hnear]
  split
  case isTrue => exact ⟨rfl, rfl⟩
  case isFalse => exact ⟨rfl, hacq⟩

theorem applyOffset_kept (hlock : s.clock.state = .locked) : (applyOffset off s).clock.offset = off ∧
    (applyOffset off s).clock.state = if 3 ≤ s.badRunAfter off then .acquiring else .locked := by
  rw [applyOffset_locked hlock]
  split
  case isTrue => exact ⟨rfl, rfl⟩
  case isFalse => exact ⟨rfl, hlock⟩

theorem execOffsetMeasured_judges (hsource : s.cfg 0x7100 1 = 0) (hport : s.clock.port < 2) :
    execOffsetMeasured off s = .next (applyOffset off s) := if_pos (by simp [hsource, hport])

theorem gives_acquiringOffset (hsource : s.cfg 0x7100 1 = 0) (hport : s.clock.port < 2) (hacq : s.clock.state = .acquiring) :
    Gives (.offsetMeasured off) s fun t =>
      t.clock.offset = off ∧ (s.cfg 0x7100 6 < off.natAbs → (t.clock.sec, t.clock.ns) = splitNs (s.nowNs - off) ∧ t.clock.steps = inc32 s.clock.steps) ∧
      (off.natAbs ≤ s.cfg 0x7100 6 → off.natAbs ≤ 250 → 15 ≤ s.clock.goodRun → t.clock.state = .locked) ∧
      (off.natAbs ≤ s.cfg 0x7100 6 → 250 < off.natAbs → t.clock.state = .acquiring) := by
  refine ⟨_, execOffsetMeasured_judges hsource hport, ?offset, fun hfar => (applyOffset_stepped hacq hfar).2, fun hnear hgood hrun => ?locks,
    fun hnear hfair => ?stays⟩
  case offset =>
    by_cases hfar : s.cfg 0x7100 6 < off.natAbs
    case pos => exact (applyOffset_stepped hacq hfar).1
    case neg => exact (applyOffset_slewed hacq (Nat.le_of_not_lt hfar)).1
  case locks => rw [(applyOffset_slewed hacq hnear).2, State.goodRunAfter, if_pos hgood, if_pos (by omega)]
  case stays => rw [(applyOffset_slewed hacq hnear).2, State.goodRunAfter, if_neg (Nat.not_le.2 hfair), if_neg (by decide)]

theorem gives_lockedOffset (hsource : s.cfg 0x7100 1 = 0) (hport : s.clock.port < 2) (hlock : s.clock.state = .locked) :
    Gives (.offsetMeasured off) s fun t => t.clock.offset = off ∧
      (t.clock.state = if 10000 < off.natAbs ∧ 2 ≤ s.clock.badRun then .acquiring else .locked) := by
  obtain ⟨hoffset, hstate⟩ := applyOffset_kept (off := off) hlock
  have hthird : 3 ≤ s.badRunAfter off ↔ 10000 < off.natAbs ∧ 2 ≤ s.clock.badRun := by
    unfold State.badRunAfter
    split <;> omega
  exact ⟨_, execOffsetMeasured_judges hsource hport, hoffset, by simp only [hstate, hthird]⟩

end

theorem execAnnounceReceiptTimeout_holds {s : State} {port : Nat} (hsource : s.cfg 0x7100 1 = 0) (hport : port = s.clock.port)
    (hlock : s.clock.state = .locked) : execAnnounceReceiptTimeout port true s = .next (setClock .holdover s) := by
  unfold execAnnounceReceiptTimeout
  refine (if_pos rfl).trans ((if_neg (by simp [hsource])).trans ((if_pos (by simp [hsource, hport])).trans ?_))
  exact congrArg Host.Outcome.next (if_pos hlock)

theorem execHoldoverExpiry_frees {s : State} (hheld : s.clock.state = .holdover)
    (hpassed : s.passed s.clock.heldSince (1000 * s.cfg 0x7100 0xB) = true) : execHoldoverExpiry s = .next (setClock .free s) :=
  if_pos (by simp [hheld, hpassed])

/-! ### PPS-IN (R351) -/

/-- An edge of the PPS source is counted. -/
def countPps (s : State) : State := { s with clock := { s.clock with ppsEdges := s.clock.ppsEdges + 1 } }

/-- With the clock free the first edge is only counted, and from the second on it acquires. -/
theorem execPpsInEdge_free {s : State} (hsource : s.cfg 0x7100 1 = 1) (hfree : s.clock.state = .free) (ns : Nat) :
    execPpsInEdge ns s = if 2 ≤ s.clock.ppsEdges + 1 then .next (setClock .acquiring (countPps s)) else .next (countPps s) := by
  unfold execPpsInEdge
  refine (if_neg (by simp [hsource])).trans ((if_pos hfree).trans ?_)
  rfl

theorem gives_ppsEdge {s : State} (hsource : s.cfg 0x7100 1 = 1) (hfree : s.clock.state = .free) (ns : Nat) :
    Gives (.ppsInEdge ns) s fun t => t.clock.ppsEdges = s.clock.ppsEdges + 1 ∧
      (t.clock.state = if 1 ≤ s.clock.ppsEdges then .acquiring else .free) := by
  by_cases hsecond : 1 ≤ s.clock.ppsEdges
  case pos => exact ⟨_, (execPpsInEdge_free hsource hfree ns).trans (if_pos (by omega)), rfl, (if_pos hsecond).symm⟩
  case neg => exact ⟨_, (execPpsInEdge_free hsource hfree ns).trans (if_neg (by omega)), rfl, hfree.trans (if_neg hsecond).symm⟩

/-! ### Transmit time stamps (R358, R359) -/

theorem execTransmitTimeStamp_enters {s : State} (hroom : s.clock.q26.length < 16) (port sequence msgType sec ns : Nat) :
    execTransmitTimeStamp port sequence msgType sec ns s = .next { s with clock := { s.clock with
      q26 := s.clock.q26 ++ [{ port := port, sequence := sequence, msgType := msgType, sec := sec, ns := ns }] } } := if_pos hroom

/-- A stamp lost at a full queue sets the flag and is counted. -/
def loseStamp (s : State) : State :=
  { s with clock := { s.clock with overflow := true, occurrences := inc8 s.clock.occurrences, discarded := inc32 s.clock.discarded } }

/-- The overflow is reported once per setting of the flag. -/
theorem execTransmitTimeStamp_loses {s : State} (hfull : 16 ≤ s.clock.q26.length) (port sequence msgType sec ns : Nat) :
    execTransmitTimeStamp port sequence msgType sec ns s =
      if s.clock.overflow then .next (loseStamp s) else .next ((loseStamp s).report 0x052 0x94 .warn 0 0) := if_neg (Nat.not_lt.2 hfull)

theorem gives_lostStamp {s : State} (hfull : 16 ≤ s.clock.q26.length) (port sequence msgType sec ns : Nat) :
    Gives (.transmitTimeStamp port sequence msgType sec ns) s fun t => t.clock.q26 = s.clock.q26 ∧ t.clock.overflow = true ∧
      t.clock.discarded = inc32 s.clock.discarded ∧ (s.clock.overflow = false → Sent s t (s.msg 0x052 0x94 .warn 0 0)) := by
  have hexec := execTransmitTimeStamp_loses hfull port sequence msgType sec ns
  cases hset : s.clock.overflow
  case true => exact ⟨_, hexec.trans (if_pos hset), rfl, rfl, rfl, nofun⟩
  case false => exact ⟨_, hexec.trans (if_neg (by simp [hset])), rfl, rfl, rfl, fun _ => sent_report (loseStamp s) 0x052 0x94 .warn 0 0⟩

/-! ### Pulse outputs (R360 to R362) -/

/-- A periodic output fires at its instant, and the next one lies a period on. -/
theorem execPulseEdge_begins {s : State} {o : Nat} {x : Int} (ho : o < 4) (hmode : s.pulseCfg o 1 = 2) (hnext : (s.pulse o).next = some x)
    (hdue : x < s.nowNs + 1000000) : execPulseEdge o false s = .next (s.modPulse o fun p =>
      { p with active := true, lastEdge := some x, next := some (x + (max 1 (s.pulseCfg o 3) : Nat)) }) := by
  unfold execPulseEdge
  simp [Nat.not_le.2 ho, hmode, hnext, hdue]

theorem execPulseEdge_ends {s : State} {o : Nat} (ho : o < 4) (hactive : (s.pulse o).active = true) (hnone : (s.pulse o).waiting = []) :
    execPulseEdge o true s = .next (s.modPulse o fun p => { p with active := false, waiting := [] }) := by
  unfold execPulseEdge
  simp [Nat.not_le.2 ho, hactive, hnone]

/-- Settles O45: each command finds its condition met; an edge or a step at the outputs leaves the clock, and one port's turn the other port. -/
theorem timeEvents : Obligations.TimeEvents := by
  refine fun s => ⟨fun port hnone => execPtpMessageReceive_none hnone, fun port q hreq hopen => gives_delayAnswer hreq hopen, fun hsource => ?interval,
    fun off hsource hport hacq => gives_acquiringOffset hsource hport hacq, fun off hsource hport hlock => gives_lockedOffset hsource hport hlock,
    fun port hsource hport hlock => ⟨_, execAnnounceReceiptTimeout_holds hsource hport hlock, rfl⟩,
    fun hheld hpassed => ⟨_, execHoldoverExpiry_frees hheld hpassed, rfl, rfl⟩, fun ns hsource hfree => gives_ppsEdge hsource hfree ns,
    fun port sequence msgType sec ns hroom => ⟨_, execTransmitTimeStamp_enters hroom port sequence msgType sec ns, rfl, rfl⟩,
    fun port sequence msgType sec ns hfull => gives_lostStamp hfull port sequence msgType sec ns,
    fun o x ho hmode hnext hdue => ⟨_, execPulseEdge_begins ho hmode hnext hdue, pulse_modPulse_same ..⟩, fun o ho hactive hnone => ?ends⟩
  case interval => exact ⟨_, if_pos hsource, fun p hp hup => ptpSeq_intervals hp hup⟩
  case ends => exact ⟨_, execPulseEdge_ends ho hactive hnone, (pulse_modPulse_same ..).trans (by rw [← hnone])⟩

end Sys2Proof.Machine
end

section
/-! SUPPORT. The CAN controllers (R364, R366, R368, R369): what an update of one leaves of the other, what is heard, tried and counted, and bus-off with its recovery. -/

namespace Sys2Proof.Machine

set_option Elab.async false

open Sys2Proof

/-! ### Controllers, read after a write -/

theorem can_congr {s t : State} (h : t.links = s.links) (n : Nat) : t.can n = s.can n := by rw [State.can, h, State.can]

@[simp] theorem can_modCan_same (s : State) (n : Nat) (f : CanCtl → CanCtl) : (s.modCan n f).can n = f (s.can n) := by
  unfold State.modCan State.can
  split <;> rfl

theorem can_modCan_other (s : State) {n m : Nat} (hn : n < 2) (hm : m < 2) (hne : m ≠ n) (f : CanCtl → CanCtl) :
    (s.modCan n f).can m = s.can m := by
  unfold State.modCan State.can
  by_cases h0 : n = 0
  case pos => rw [if_pos h0, if_neg (by omega), if_neg (by omega)]
  case neg => rw [if_neg h0, if_pos (by omega), if_pos (by omega)]

theorem strap_modCan (s : State) (n : Nat) (f : CanCtl → CanCtl) : (s.modCan n f).links.strap = s.links.strap := by
  unfold State.modCan
  split <;> rfl

theorem can_canCount_moved (s : State) (n o : Nat) : (canCount n o 0x0A s).can n = { s.can n with moved := Tab.mod (s.can n).moved o 0 inc32 } :=
  can_modCan_same ..

theorem can_canCount_lost (s : State) (n o : Nat) : (canCount n o 0x0B s).can n = { s.can n with lost := Tab.mod (s.can n).lost o 0 inc32 } :=
  can_modCan_same ..

theorem can_canCount_other (s : State) {n m : Nat} (hn : n < 2) (hm : m < 2) (hne : m ≠ n) (o sub : Nat) : (canCount n o sub s).can m = s.can m :=
  can_modCan_other s hn hm hne _

theorem can_clearOnce (s : State) (source kind cls val n : Nat) : (s.clearOnce source kind cls val).can n = s.can n :=
  can_congr (State.clearOnce_keeps s source kind cls val (.refl (fun p => p = .ranger) s)).links_eq n

/-! ### An injection that does not run -/

theorem injectFrame_idle {s : State} {link : Nat} (hidle : (s.injector link).state ≠ 2) (dir : Nat) (eligible : Bool) :
    injectFrame link dir eligible s = (.clean, s) := if_pos (by simp [hidle])

theorem dueFrames_nothing {s : State} {link : Nat} (hnone : (s.injector link).heldFrames = []) : (dueFrames link s).1 = [] := by
  simp [dueFrames, hnone]

/-! ### Frames heard (R364) -/

/-- The controller's error counter and error state once it has heard a frame; in bus monitoring mode nothing counts (R372). -/
def countHeard (n : Nat) (ok : Bool) (s : State) : State :=
  if s.canCfg n 1 = 2 then s else s.modCan n fun c =>
    { c with rxErr := rxErrStep ok c.rxErr, err := if 127 < rxErrStep ok c.rxErr || 127 < c.txErr then .passive else .active }

theorem countHeard_keeps (n : Nat) (ok : Bool) (s : State) {A : Part → Bool} (hlinks : A .links = true) : Keeps A s (countHeard n ok s) := by
  unfold countHeard
  split
  case isTrue => exact .refl _ s
  case isFalse => exact State.modCan_keeps s n _ (.refl _ s)

theorem can_countHeard_other {n m : Nat} (hn : n < 2) (hm : m < 2) (hne : m ≠ n) (ok : Bool) (s : State) :
    (countHeard n ok s).can m = s.can m := by
  unfold countHeard
  split
  case isTrue => rfl
  case isFalse => exact can_modCan_other s hn hm hne _

/-- What a controller has received and counted stands when it hears another frame. -/
theorem can_countHeard_received (n : Nat) (ok : Bool) (s : State) : ((countHeard n ok s).can n).rx = (s.can n).rx ∧
    ((countHeard n ok s).can n).moved = (s.can n).moved ∧ ((countHeard n ok s).can n).unaccepted = (s.can n).unaccepted := by
  unfold countHeard
  split
  case isTrue => exact ⟨rfl, rfl, rfl⟩
  case isFalse => simp

theorem strap_countHeard (n : Nat) (ok : Bool) (s : State) : (countHeard n ok s).links.strap = s.links.strap := by
  unfold countHeard
  split
  case isTrue => rfl
  case isFalse => exact strap_modCan ..

theorem execCanFrameReceive_deaf {s : State} {n : Nat} (hdeaf : s.canOn n = false ∨ (s.can n).err = .busOff) (f : CanRx) :
    execCanFrameReceive n f s = .next s := if_pos (by simpa using hdeaf)

/-- A remote frame is counted and goes no further (R363). -/
theorem execCanFrameReceive_remote {s : State} {n : Nat} {f : CanRx} (hon : s.canOn n = true) (hbus : (s.can n).err ≠ .busOff)
    (hok : f.ok = true) (hremote : f.remote = true) : execCanFrameReceive n f s =
      .next ((countHeard n f.ok s).modCan n fun c => { c with unaccepted := inc32 c.unaccepted }) := by
  unfold execCanFrameReceive
  rw [if_neg (by simp [hon, hbus])]
  refine (if_neg (by simp [hok])).trans ((if_pos hremote).trans ?_)
  rfl

/-- The state in which a data frame meets the acceptance filters: it has been heard, recorded if it is a converter frame (R457), and no held frame is due. -/
def heardFrame (n : Nat) (f : CanRx) (s : State) : State := (dueFrames (4 + n) (recordFrame n f (countHeard n f.ok s))).2

theorem heardFrame_keeps (n : Nat) (f : CanRx) (s : State) : Keeps (fun p => p = .links || p = .pair || p = .inject) s (heardFrame n f s) :=
  dueFrames_keeps _ _ (recordFrame_keeps _ _ _ (countHeard_keeps n f.ok s rfl))

theorem links_heardFrame (n : Nat) (f : CanRx) (s : State) : (heardFrame n f s).links = (countHeard n f.ok s).links :=
  (recordFrame_keeps n f (countHeard n f.ok s) (.refl (fun p => p = .pair) _)).links_eq

theorem inPair_recordFrame (n : Nat) (f : CanRx) (s : State) : (recordFrame n f s).inPair = s.inPair := by
  unfold recordFrame
  dsimp only
  (repeat' split) <;> rfl

theorem inPair_heardFrame (n : Nat) (f : CanRx) (s : State) : (heardFrame n f s).inPair = s.inPair := by
  have hheard : Keeps (fun p => p = .links) s (countHeard n f.ok s) := countHeard_keeps n f.ok s rfl
  have hdue (u : State) : (dueFrames (4 + n) u).2.inPair = u.inPair := rfl
  rw [heardFrame, hdue, inPair_recordFrame, inPair_congr hheard.dict_eq hheard.pair_eq]

/-- A data frame with no injection in its way meets the acceptance filters. -/
theorem execCanFrameReceive_takes {s : State} {n : Nat} {f : CanRx} (hon : s.canOn n = true) (hbus : (s.can n).err ≠ .busOff)
    (hok : f.ok = true) (hdata : f.remote = false) (hidle : (s.injector (4 + n)).state ≠ 2) (hheld : (s.injector (4 + n)).heldFrames = []) :
    execCanFrameReceive n f s = .next (canTake n f (heardFrame n f s)) := by
  have hkeeps : Keeps (fun p => p = .links || p = .pair) s (recordFrame n f (countHeard n f.ok s)) :=
    recordFrame_keeps n f _ (countHeard_keeps n f.ok s rfl)
  have hinject : (recordFrame n f (countHeard n f.ok s)).injector (4 + n) = s.injector (4 + n) := injector_congr hkeeps.inject_eq _
  have hnothing : (dueFrames (4 + n) (recordFrame n f (countHeard n f.ok s))).1 = [] := dueFrames_nothing (by rw [hinject, hheld])
  unfold execCanFrameReceive
  rw [if_neg (by simp [hon, hbus])]
  refine (if_neg (by simp [hok])).trans ((if_neg (by simp [hdata])).trans ?_)
  dsimp only
  rw [← countHeard, injectFrame_idle (by rw [hinject]; exact hidle)]
  dsimp only
  rw [hnothing]
  rfl

/-! ### Acceptance (R364) -/

section
variable {s t : State} (hdict : t.dict = s.dict)
include hdict

theorem canObj_congr (n o sub : Nat) : t.canObj n o sub = s.canObj n o sub := cfg_congr hdict ..

theorem canDir_congr (n o : Nat) : t.canDir n o = s.canDir n o := by
  unfold State.canDir
  rw [canObj_congr hdict]

theorem canExt_congr (n o : Nat) : t.canExt n o = s.canExt n o := by rw [State.canExt, canObj_congr hdict, State.canExt]

theorem canFormat_congr (n o : Nat) : t.canFormat n o = s.canFormat n o := by rw [State.canFormat, canObj_congr hdict, State.canFormat]

theorem rxChannel_congr (n o : Nat) (f : CanRx) : t.rxChannel n o f = s.rxChannel n o f := by
  rw [State.rxChannel, State.canChannel, canObj_congr hdict, State.rxChannel, State.canChannel]

/-- The identifiers of a pair differ by unit (R365). -/
theorem canId_congr (hpair : t.inPair = s.inPair) (hunit : t.unitB = s.unitB) (n o : Nat) : t.canId n o = s.canId n o := by
  rw [State.canId, State.canCfg, cfg_congr hdict, canObj_congr hdict, hpair, hunit, State.canId, State.canCfg]

theorem canAdmits_congr (hpair : t.inPair = s.inPair) (hunit : t.unitB = s.unitB) (n : Nat) (f : CanRx) : t.canAdmits n f = s.canAdmits n f := by
  funext o
  unfold State.canAdmits
  rw [canDir_congr hdict, canId_congr hdict hpair hunit, canExt_congr hdict, canFormat_congr hdict, canObj_congr hdict]

/-- Which object accepts a frame depends on the configuration and, in a pair, on which unit this is. -/
theorem canAcceptor_congr (hpair : t.inPair = s.inPair) (hunit : t.unitB = s.unitB) (n : Nat) (f : CanRx) :
    t.canAcceptor n f = s.canAcceptor n f := by rw [State.canAcceptor, canAdmits_congr hdict hpair hunit, State.canAcceptor]

end

theorem canAcceptor_heardFrame (n m : Nat) (f g : CanRx) (s : State) : (heardFrame n f s).canAcceptor m g = s.canAcceptor m g := by
  have hkeeps := heardFrame_keeps n f s
  refine canAcceptor_congr hkeeps.dict_eq (inPair_heardFrame n f s) ?unit m g
  rw [State.unitB, links_heardFrame, strap_countHeard, State.unitB]

/-- An accepted frame of an object without a secure channel joins what the controller has received while there is room (R364). -/
theorem canTake_joins {s : State} {n o : Nat} {f : CanRx} (hacc : s.canAcceptor n f = some o) (hplain : s.rxChannel n o f = none)
    (hroom : (s.can n).rx.length < 64) : canTake n f s = canCount n o 0x0A (s.modCan n fun c =>
      { c with rx := c.rx ++ [{ object := o, id := f.id, ext := f.ext, fd := f.fd, brs := f.brs, data := f.data, cycle := s.core.cycle }] }) := by
  unfold canTake
  simp only [hacc, hplain]
  exact if_pos hroom

/-! ### What a heard frame gives -/

section
variable {s : State} {n : Nat} {f : CanRx} (hn : n < 2) (hon : s.canOn n = true) (hbus : (s.can n).err ≠ .busOff) (hok : f.ok = true)
include hn hon hbus hok

theorem gives_remoteCounted (hcounts : s.canCfg n 1 ≠ 2) (hremote : f.remote = true) : Gives (.canFrameReceive n f) s fun t =>
    (t.can n).unaccepted = inc32 (s.can n).unaccepted ∧ (t.can n).rxErr = rxErrStep true (s.can n).rxErr ∧ ∀ m < 2, m ≠ n → t.can m = s.can m := by
  obtain ⟨-, -, hunaccepted⟩ := can_countHeard_received n f.ok s
  refine ⟨_, execCanFrameReceive_remote hon hbus hok hremote, ?unaccepted, ?rxErr, fun m hm hne => ?others⟩
  case unaccepted => rw [can_modCan_same, hunaccepted]
  case rxErr => rw [can_modCan_same, countHeard, if_neg hcounts, can_modCan_same, hok]
  case others => rw [can_modCan_other _ hn hm hne, can_countHeard_other hn hm hne]

theorem gives_accepted {o : Nat} (hdata : f.remote = false) (hacc : s.canAcceptor n f = some o) (hplain : s.rxChannel n o f = none)
    (hroom : (s.can n).rx.length < 64) (hidle : (s.injector (4 + n)).state ≠ 2) (hheld : (s.injector (4 + n)).heldFrames = []) :
    Gives (.canFrameReceive n f) s fun t =>
      (t.can n).rx = (s.can n).rx ++ [{ object := o, id := f.id, ext := f.ext, fd := f.fd, brs := f.brs, data := f.data, cycle := s.core.cycle }] ∧
      (t.can n).moved = Tab.mod (s.can n).moved o 0 inc32 ∧ ∀ m < 2, m ≠ n → t.can m = s.can m := by
  obtain ⟨hrx, hmoved, -⟩ := can_countHeard_received n f.ok s
  have hkeeps := heardFrame_keeps n f s
  have hcan (m : Nat) : (heardFrame n f s).can m = (countHeard n f.ok s).can m := can_congr (links_heardFrame n f s) m
  have hjoins := canTake_joins ((canAcceptor_heardFrame n n f f s).trans hacc) ((rxChannel_congr hkeeps.dict_eq n o f).trans hplain)
    (by rwa [hcan, hrx])
  refine ⟨_, (execCanFrameReceive_takes hon hbus hok hdata hidle hheld).trans (congrArg Host.Outcome.next hjoins), ?rx, ?moved, fun m hm hne => ?others⟩
  case rx => rw [can_canCount_moved, can_modCan_same, hcan, hrx, hkeeps.core_eq]
  case moved => rw [can_canCount_moved, can_modCan_same, hcan, hmoved]
  case others => rw [can_canCount_other _ hn hm hne, can_modCan_other _ hn hm hne, hcan, can_countHeard_other hn hm hne]

end

/-! ### Transmission (R364, R366) -/

theorem execCanTransmitAttempt_begins {s : State} {n : Nat} {f : CanFrame} (hsends : s.canSends n = true) (hbus : (s.can n).err ≠ .busOff)
    (hfree : (s.can n).inTx = none) (hfirst : firstFrame (s.can n).tx = some f) (hidle : (s.injector (4 + n)).state ≠ 2) :
    execCanTransmitAttempt n .begun s = .next (s.modCan n fun c => { c with inTx := some f, tx := dropFrame f c.tx }) := by
  have hinject (g : CanCtl → CanCtl) : ((s.modCan n g).injector (4 + n)).state ≠ 2 := by
    rwa [injector_congr (State.modCan_keeps s n g (.refl (fun p => p = .links) s)).inject_eq]
  unfold execCanTransmitAttempt
  rw [if_neg (by simp [hsends, hbus])]
  simp only [hfree, hfirst, injectFrame_idle (hinject _)]
  rfl

/-! ### Bus-off and recovery (R369) -/

/-- The frames a controller has pending: the one in arbitration before those that wait. -/
def CanCtl.pendingTx (c : CanCtl) : List CanFrame := c.inTx.toList ++ c.tx

/-- A controller gone off the bus: of its pending frames it keeps those of replace-pending objects. -/
def enterBusOff (n : Nat) (s : State) : State := s.modCan n fun c =>
  { c with err := .busOff, recovering := false, offAt := some s.core.cycle, busOffs := inc32 c.busOffs, inTx := none,
           tx := (s.can n).pendingTx.filter fun f => s.canReplace n f.object }

/-- The frames lost are counted on their objects, one by one. -/
def countLost (n : Nat) (gone : List CanFrame) (s : State) : State := gone.foldl (fun s f => canCount n f.object 0x0B s) s

/-- Counting lost frames changes the loss counters of that controller alone. -/
theorem can_countLost (n : Nat) (gone : List CanFrame) (s : State) :
    ∃ lost, (countLost n gone s).can n = { s.can n with lost := lost } := by
  induction gone generalizing s with
  | nil => exact ⟨_, rfl⟩
  | cons f gone ih =>
    obtain ⟨lost, h⟩ := ih (canCount n f.object 0x0B s)
    exact ⟨lost, by rw [show countLost n (f :: gone) s = countLost n gone (canCount n f.object 0x0B s) from rfl, h, can_canCount_lost]⟩

theorem countLost_keeps (n : Nat) (gone : List CanFrame) (s : State) {A : Part → Bool} {r : State} (hlinks : A .links = true) (h : Keeps A r s) :
    Keeps A r (countLost n gone s) := keeps_foldl (fun x f hx => canCount_keeps n f.object 0x0B x hx) h

theorem execBusOff_goes {s : State} {n : Nat} (hsends : s.canSends n = true) (hbus : (s.can n).err ≠ .busOff) (herrors : 255 < (s.can n).txErr) :
    execBusOff n s = .next ((countLost n ((s.can n).pendingTx.filter fun f => !s.canReplace n f.object) (enterBusOff n s)).report
      (srcCan n) 0x96 .warn 0 0) := by
  unfold execBusOff
  refine (if_pos (by simp [hsends, hbus, herrors])).trans ?_
  unfold enterBusOff countLost CanCtl.pendingTx
  cases (s.can n).inTx <;> rfl

theorem gives_busOff {s : State} {n : Nat} (hsends : s.canSends n = true) (hbus : (s.can n).err ≠ .busOff) (herrors : 255 < (s.can n).txErr) :
    Gives (.busOff n) s fun t => (t.can n).err = .busOff ∧ (t.can n).inTx = none ∧
      (t.can n).busOffs = inc32 (s.can n).busOffs ∧ (t.can n).offAt = some s.core.cycle ∧ (∀ f ∈ (t.can n).tx, s.canReplace n f.object = true) ∧
      Sent s t (s.msg (srcCan n) 0x96 .warn 0 0) := by
  refine ⟨_, execBusOff_goes hsends hbus herrors, ?_⟩
  generalize ((s.can n).pendingTx.filter fun f => !s.canReplace n f.object) = gone
  obtain ⟨lost, hcan⟩ := can_countLost n gone (enterBusOff n s)
  have hkeeps : Keeps (fun p => p = .links) s (countLost n gone (enterBusOff n s)) :=
    countLost_keeps n gone _ rfl (State.modCan_keeps s n _ (.refl _ s))
  have hreport : ((countLost n gone (enterBusOff n s)).report (srcCan n) 0x96 .warn 0 0).can n = (countLost n gone (enterBusOff n s)).can n := rfl
  rw [hreport, hcan, enterBusOff, can_modCan_same]
  refine ⟨rfl, rfl, rfl, rfl, fun f hf => (List.mem_filter.1 hf).2, ?_⟩
  have hmsg : (countLost n gone (enterBusOff n s)).msg (srcCan n) 0x96 .warn 0 0 = s.msg (srcCan n) 0x96 .warn 0 0 := by
    rw [State.msg, State.msg, hkeeps.core_eq]
  exact hmsg ▸ (sent_report (countLost n gone (enterBusOff n s)) (srcCan n) 0x96 .warn 0 0).from (.of_eq (by rw [hkeeps.ranger_eq]))

theorem execBusOffRecoveryDelay_starts {s : State} {n : Nat} (hbus : (s.can n).err = .busOff) (hdelay : s.canCfg n 0xA ≠ 0)
    (hran : s.ran (s.can n).offAt (s.canCfg n 0xA) = true) (hfew : (s.recent 60000 (s.can n).recent).length < 3) :
    execBusOffRecoveryDelay n s = .next ((s.modCan n fun c => { c with recent := s.core.cycle :: s.recent 60000 c.recent }).modCan n
      fun c => { c with recovering := true, offAt := none }) := by
  unfold execBusOffRecoveryDelay startRecovery
  refine (if_pos (by simp [hbus, hdelay, hran, hfew])).trans ?_
  rw [if_pos (by rw [can_modCan_same]; exact hbus)]

theorem execBusOffRecoveryComplete_ends {s : State} {n : Nat} (hbus : (s.can n).err = .busOff) (hrec : (s.can n).recovering = true) :
    execBusOffRecoveryComplete n s =
      .next ((s.modCan n fun c => { c with err := .active, recovering := false, txErr := 0, rxErr := 0 }).clearOnce (srcCan n) 0x96 0 0) :=
  if_pos (by simp [hbus, hrec])

/-- Settles O46: each command finds its condition met; a heard frame changes its own controller alone. -/
theorem canEvents : Obligations.CanEvents := by
  refine fun s n hn => ⟨fun f hon hbus hcounts hok hremote => gives_remoteCounted hn hon hbus hok hcounts hremote,
    fun f o hon hbus hok hdata hacc hplain hroom hidle hheld => gives_accepted hn hon hbus hok hdata hacc hplain hroom hidle hheld,
    fun f hdeaf => execCanFrameReceive_deaf hdeaf f, fun f hsends hbus hfree hfirst hidle => ?begun, gives_busOff,
    fun hbus hdelay hran hfew => ?recovers, fun hbus hrec => ?recovered⟩
  case begun => exact ⟨_, execCanTransmitAttempt_begins hsends hbus hfree hfirst hidle, by simp⟩
  case recovers => exact ⟨_, execBusOffRecoveryDelay_starts hbus hdelay hran hfew, by simp⟩
  case recovered => exact ⟨_, execBusOffRecoveryComplete_ends hbus hrec, by simp [can_clearOnce]⟩

end Sys2Proof.Machine
end

section
/-! SUPPORT. The weight of a session (R405). -/

namespace Sys2Proof.Machine

open Sys2Proof

/-- Settles O54: the heaviest class of roles that the session holds one of gives its weight. -/
theorem sessionWeights : Obligations.SessionWeights := by
  intro c hstate ⟨r, hr, hrole⟩
  simp only [Session.weight, if_neg hstate]
  split
  case isTrue heavy =>
    simp only [Bool.or_eq_true] at heavy
    refine ⟨fun q _ _ => ?_, ?_⟩
    · split
      · exact Nat.le_refl 4
      · split <;> omega
    obtain (h2 | h5) | h6 := heavy
    · exact ⟨2, by omega, h2, rfl⟩
    · exact ⟨5, by omega, h5, rfl⟩
    · exact ⟨6, by omega, h6, rfl⟩
  case isFalse light =>
    simp only [Bool.or_eq_true, not_or] at light
    obtain ⟨⟨n2, n5⟩, n6⟩ := light
    have hnot : ∀ q, c.has q = true → ¬ (q = 2 ∨ q = 5 ∨ q = 6) := by
      rintro q hq (rfl | rfl | rfl)
      · exact n2 hq
      · exact n5 hq
      · exact n6 hq
    split
    case isTrue middle =>
      simp only [Bool.or_eq_true] at middle
      refine ⟨fun q _ hq => by rw [if_neg (hnot q hq)]; split <;> omega, ?_⟩
      obtain (h4 | h3) | h1 := middle
      · exact ⟨4, by omega, h4, rfl⟩
      · exact ⟨3, by omega, h3, rfl⟩
      · exact ⟨1, by omega, h1, rfl⟩
    case isFalse least =>
      simp only [Bool.or_eq_true, not_or] at least
      obtain ⟨⟨n4, n3⟩, n1⟩ := least
      have hnone : ∀ q, c.has q = true → ¬ (q = 4 ∨ q = 3 ∨ q = 1) := by
        rintro q hq (rfl | rfl | rfl)
        · exact n4 hq
        · exact n3 hq
        · exact n1 hq
      have hone : ∀ q, c.has q = true → (if q = 2 ∨ q = 5 ∨ q = 6 then 4 else if q = 4 ∨ q = 3 ∨ q = 1 then 2 else 1) = 1 := fun q hq => by
        rw [if_neg (hnot q hq), if_neg (hnone q hq)]
      exact ⟨fun q _ hq => Nat.le_of_eq (hone q hq), r, hr, hrole, (hone r hrole).symm⟩

end Sys2Proof.Machine
end

section
/-! SUPPORT. Every command completes and changes no part of the state but those of its row (the rules of each command; the snapshot R391): the writes by what every
write keeps, the others each by the lemma of its meaning. -/

namespace Sys2Proof.Machine

open Sys2Proof

/-- A write can change what any request can: every part but the Lookout's and the seat's. -/
theorem touched_writeOf {i : Instr} {w : Wr} (h : writeOf i = some w) : touched i = touched (.read 0 0 []) := by
  cases i with
  | q26OverflowClear => rfl
  | _ => cases h <;> rfl

theorem mem_touched_request (p : Part) (hl : p ≠ .lookout) (hs : p ≠ .seat) : p ∈ touched (.read 0 0 []) := by
  cases p with
  | lookout => exact absurd rfl hl
  | seat => exact absurd rfl hs
  | _ => simp [touched]

/-- A write changes no part but those that a request can reach. -/
theorem exec_write_keeps {i : Instr} {w : Wr} (hw : writeOf i = some w) {A : Part → Bool} (hA : ∀ p ∈ touched i, A p = true) (s : State) :
    OutKeeps A s (exec i s) := by
  have h_s : Keeps A s s := .refl _ s
  have hall : ∀ p, p ≠ .lookout → p ≠ .seat → A p = true := fun p hl hs => hA p (touched_writeOf hw ▸ mem_touched_request p hl hs)
  rw [exec_writeOf hw]
  simp [h_s, hall]

/-- Every command but SYNC and the writes changes no part but those of its row, each by the lemma of its meaning. -/
theorem exec_nonwrite_keeps {i : Instr} (hsync : ∀ heard, i ≠ .sync heard) (hw : writeOf i = none) {A : Part → Bool} (hA : ∀ p ∈ touched i, A p = true)
    (s : State) : OutKeeps A s (exec i s) := by
  have h_s : Keeps A s s := .refl _ s
  cases i with
  | sync heard => exact absurd rfl (hsync heard)
  | commit sess req => exact execCommit_keeps sess req s h_s fun p hl hs => hA p (mem_touched_request p hl hs)
  | tallyRead sess req block => exact execTallyRead_keeps sess req block s h_s fun p hl hs => hA p (mem_touched_request p hl hs)
  | q26OverflowClear sess req race => exact execQ26OverflowClear_keeps sess req race s h_s fun p hl hs => hA p (mem_touched_request p hl hs)
  | _ =>
    cases hw <;>
    · simp only [touched, List.forall_mem_cons, List.not_mem_nil, false_implies, implies_true, and_true] at hA
      simp only [exec]
      simp [h_s, hA]

/-- Settles O2: SYNC by its own lemma, a write by that of every write, and every other command by the lemma of its meaning. -/
theorem everyCommandCompletes : Obligations.EveryCommandCompletes := by
  intro i s
  by_cases hi : ∃ heard, i = .sync heard
  · obtain ⟨heard, rfl⟩ := hi
    obtain ⟨t, ht, hpending, -, -, hparts⟩ := execSync_next heard s (A := fun p => (touched (.sync heard)).contains p)
    exact ⟨t, ht, hparts, hpending, fun h => absurd rfl (h heard)⟩
  · have hA : ∀ p ∈ touched i, (touched i).contains p = true := fun p hp => List.contains_iff_mem.2 hp
    obtain ⟨t, ht, hk⟩ : OutKeeps (fun p => (touched i).contains p) s (exec i s) := by
      cases hw : writeOf i with
      | none => exact exec_nonwrite_keeps (fun heard e => hi ⟨heard, e⟩) hw hA s
      | some w => exact exec_write_keeps hw hA s
    exact ⟨t, ht, hk.parts, hk.pending, fun _ => hk.boundary⟩

end Sys2Proof.Machine
end

section
/-! SUPPORT. Handshakes, sessions and fast channels (R402, R403, R414, R418, R420, R421, R423): what a handshake opens, what ends with a session, and what becomes of a
datagram. -/

namespace Sys2Proof.Machine

open Sys2Proof

/-! ### Contexts -/

theorem session_congr {s t : State} (h : t.dict = s.dict) (n : Nat) : t.session n = s.session n := by rw [State.session, h, State.session]

theorem session_modSession_same (s : State) (n : Nat) (f : Session → Session) : (s.modSession n f).session n = f (s.session n) :=
  (session_modSession ..).trans (if_pos rfl)

theorem mem_of_find {α : Type} {t : Tab α} {k : Nat} {a : α} (h : Tab.find t k = some a) : (k, a) ∈ t := by
  induction t with
  | nil => cases h
  | cons e t ih =>
    obtain ⟨j, b⟩ := e
    rw [Tab.find_cons] at h
    split at h
    case isTrue hj => rw [hj, Option.some.inj h]; exact List.mem_cons_self
    case isFalse => exact List.mem_cons_of_mem _ (ih h)

/-- A context without a record is FREE. -/
theorem session_free_of_absent {s : State} {n : Nat} (h : ∀ e ∈ s.dict.sessions, e.1 ≠ n) : (s.session n).state = .free := by
  have hnone : Tab.find s.dict.sessions n = none := by
    cases hf : Tab.find s.dict.sessions n with
    | none => rfl
    | some c => exact absurd rfl (h _ (mem_of_find hf))
  rw [State.session, Tab.at_eq_find, hnone]
  rfl

/-- A context with a parent has a record. -/
theorem mem_sessions_of_parent {s : State} {m n : Nat} (h : (s.session m).parent = some n) : (m, s.session m) ∈ s.dict.sessions := by
  rw [State.session, Tab.at_eq_find] at h ⊢
  cases hf : Tab.find s.dict.sessions m with
  | none => rw [hf] at h; cases h
  | some c => exact mem_of_find hf

/-! ### The end of a session (R403) -/

/-- A session ends with the fast channels whose parent it is. -/
theorem sessions_endSession {s : State} {n : Nat} {e : Nat × Session} (he : e ∈ (endSession s n).dict.sessions) :
    e.1 ≠ n ∧ (s.session e.1).parent ≠ some n := by
  unfold endSession at he
  obtain ⟨hs, -⟩ := freeContext_frees.foldl ((s.dict.sessions.filter fun e => e.2.parent = some n).map Prod.fst) s
  obtain ⟨hmem, hn⟩ := (freeContext_frees _ n).1 e he
  refine ⟨hn, fun hp => (hs e hmem).2 (List.mem_map.2 ⟨(e.1, s.session e.1), List.mem_filter.2 ⟨mem_sessions_of_parent hp, ?_⟩, rfl⟩)⟩
  simpa using hp

theorem freeContext_dict (s : State) (n : Nat) : (freeContext s n).dict.owner = (if s.dict.owner = some n then none else s.dict.owner) ∧
    (freeContext s n).dict.responses = s.dict.responses.filter fun r => r.session != n := by
  unfold freeContext
  by_cases ho : s.dict.owner = some n
  · simp only [ho, if_true]
    split <;> exact ⟨rfl, rfl⟩
  · simp only [ho, if_false]
    split <;> exact ⟨rfl, rfl⟩

/-- Freeing contexts leaves the staging area its owner, or none. -/
theorem owner_foldl_freeContext (ns : List Nat) (s : State) :
    (ns.foldl freeContext s).dict.owner = s.dict.owner ∨ (ns.foldl freeContext s).dict.owner = none := by
  induction ns generalizing s with
  | nil => exact .inl rfl
  | cons n ns ih =>
    have hone : (freeContext s n).dict.owner = s.dict.owner ∨ (freeContext s n).dict.owner = none := by
      rw [(freeContext_dict s n).1]
      split
      · exact .inr rfl
      · exact .inl rfl
    rw [List.foldl_cons]
    obtain h | h := ih (freeContext s n)
    · rw [h]; exact hone
    · exact .inr h

theorem owner_endSession {s : State} {n : Nat} (h : s.dict.owner = some n) : (endSession s n).dict.owner = none := by
  unfold endSession
  rw [(freeContext_dict _ n).1]
  obtain h' | h' := owner_foldl_freeContext ((s.dict.sessions.filter fun e => e.2.parent = some n).map Prod.fst) s
  · rw [if_pos (h'.trans h)]
  · rw [h', if_neg nofun]

theorem responses_endSession (s : State) (n : Nat) : ∀ r ∈ (endSession s n).dict.responses, r.session ≠ n := by
  unfold endSession
  rw [(freeContext_dict _ n).2]
  exact fun r hr => by simpa using (List.mem_filter.1 hr).2

/-- What an ended session leaves: its context FREE, with those of its fast channels; its staging discarded, its responses gone. -/
theorem endSession_ends (s : State) (n : Nat) : ChangesOnly [.dict, .sec, .tally] s (endSession s n) ∧ ((endSession s n).session n).state = .free ∧
    (s.dict.owner = some n → (endSession s n).dict.owner = none) ∧
    (∀ m, (s.session m).parent = some n → ((endSession s n).session m).state = .free) ∧ ∀ r ∈ (endSession s n).dict.responses, r.session ≠ n :=
  ⟨(endSession_keeps s n (.refl _ s)).changesOnly, session_free_of_absent fun _ he => (sessions_endSession he).1, owner_endSession,
    fun _ hm => session_free_of_absent fun _ he hem => (sessions_endSession he).2 (hem ▸ hm), responses_endSession s n⟩

/-! ### Handshakes (R420, R421) -/

theorem gives_clientHello {s : State} {conn port : Nat} (hup : s.ethUp port = true) :
    Gives (.clientHello conn port true) s fun t => ChangesOnly [.sec] s t ∧ t.sec.handshakes = s.sec.handshakes ++ [(conn, s.core.cycle)] := by
  refine ⟨_, (if_neg (by simp [hup])).trans (if_pos rfl), ?_, rfl⟩
  exact (keeps_mk (.refl _ s) (by simp [SameBut]) (by simp [SameLists])).changesOnly

theorem gives_clientHello_refused {s : State} {conn port : Nat} (hup : s.ethUp port = true) : Gives (.clientHello conn port false) s fun t =>
    ChangesOnly [.links, .sec] s t ∧ t.sec.handshakes = s.sec.handshakes ∧ t.sec.hsFailed = inc32 s.sec.hsFailed := by
  have hsec : (ethSend port 2 1 0xFFFF [] (failHandshake s)).sec = (failHandshake s).sec :=
    (ethSend_keeps (A := fun p => p = .links) port 2 1 0xFFFF [] _ (.refl _ _)).sec_eq
  refine ⟨_, (if_neg (by simp [hup])).trans (if_neg Bool.false_ne_true), ?_, ?_⟩
  · exact (ethSend_keeps _ _ _ _ _ _ (failHandshake_keeps s (.refl _ s))).changesOnly
  · rw [hsec]
    exact ⟨rfl, rfl⟩

/-- A handshake that fails is forgotten and counted. -/
theorem failHandshake_fails (conn : Nat) (s : State) : ChangesOnly [.sec] s (failHandshake (endHandshake conn s)) ∧
    (failHandshake (endHandshake conn s)).sec.hsFailed = inc32 s.sec.hsFailed ∧
    (failHandshake (endHandshake conn s)).sec.handshakes = s.sec.handshakes.filter fun x => x.1 != conn :=
  ⟨(failHandshake_keeps _ (endHandshake_keeps conn s (.refl _ s))).changesOnly, rfl, rfl⟩

/-- The state in which a handshake that keeps the rules opens its session: the handshake is over, and a period that no trusted clock could check is noted (R421). -/
def State.handshaken (s : State) (conn : Nat) : State :=
  let s := endHandshake conn s
  if s.sec.adopted && !s.clock.trusted then ({ s with sec := { s.sec with skipped := inc32 s.sec.skipped } }).tellEvent 0x0050 2 0x7880 [] else s

theorem handshaken_keeps (s : State) (conn : Nat) {A : Part → Bool} (hsec : A .sec = true) (htally : A .tally = true) :
    Keeps A s (s.handshaken conn) := by
  have h := endHandshake_keeps conn s (.refl A s)
  exact keeps_ite (State.tellEvent_keeps _ _ _ _ _ (keeps_mk h (by simp [SameBut, hsec]) (by simp [SameLists]))) h

theorem sec_handshaken (s : State) (conn : Nat) :
    (s.handshaken conn).sec.adopted = s.sec.adopted ∧ (s.handshaken conn).sec.masks = s.sec.masks := by
  unfold State.handshaken
  dsimp only
  split
  · rw [(State.tellEvent_keeps _ 0x0050 2 0x7880 [] (.refl (fun p => p = .tally) _)).sec_eq]
    exact ⟨rfl, rfl⟩
  · exact ⟨rfl, rfl⟩

theorem grantedRoles_handshaken (s : State) (conn : Nat) (cert : ClientCert) : (s.handshaken conn).grantedRoles cert = s.grantedRoles cert := by
  obtain ⟨hadopted, hmasks⟩ := sec_handshaken s conn
  rw [State.grantedRoles, hadopted, hmasks, State.grantedRoles]

section Handshake
variable {s : State} {conn : Nat} {h : Nat × Cycle} (hfind : s.sec.handshakes.find? (fun x => x.1 = conn) = some h)
include hfind

theorem gives_tlsHandshake_failed (port : Nat) {cert : ClientCert} (secret : Nat) (hbad : s.passed h.2 10000 = true ∨ s.certOk cert = false) :
    Gives (.tlsHandshake conn port cert secret) s fun t => ChangesOnly [.sec] s t ∧ t.sec.hsFailed = inc32 s.sec.hsFailed := by
  obtain ⟨hkeeps, hcount, -⟩ := failHandshake_fails conn s
  have hcond : ((endHandshake conn s).passed h.2 10000 || !(endHandshake conn s).certOk cert) = true := by
    show (s.passed h.2 10000 || !s.certOk cert) = true
    simpa using hbad
  refine ⟨_, ?_, hkeeps, hcount⟩
  show execTlsHandshake conn port cert secret s = _
  unfold execTlsHandshake
  rw [hfind]
  exact if_pos hcond

theorem execTlsHandshake_opens (port : Nat) {cert : ClientCert} (secret : Nat) (htime : s.passed h.2 10000 = false) (hcert : s.certOk cert = true)
    (hdenied : s.denied cert.digest = false) (hperiod : s.sec.adopted = true → s.clock.trusted = true → cert.inPeriod = true) :
    execTlsHandshake conn port cert secret s =
      .next (openTls port cert ((s.handshaken conn).grantedRoles cert) secret (s.handshaken conn)) := by
  have hcond : ((endHandshake conn s).passed h.2 10000 || !(endHandshake conn s).certOk cert) = false := by
    show (s.passed h.2 10000 || !s.certOk cert) = false
    simp [htime, hcert]
  have hlate : ((endHandshake conn s).sec.adopted && (endHandshake conn s).clock.trusted && !cert.inPeriod) = false := by
    show (s.sec.adopted && s.clock.trusted && !cert.inPeriod) = false
    cases ha : s.sec.adopted <;> cases hc : s.clock.trusted <;> simp_all
  unfold execTlsHandshake
  rw [hfind]
  dsimp only
  rw [if_neg (ne_true_of_eq_false hcond), if_neg (show ¬ (endHandshake conn s).denied cert.digest = true from ne_true_of_eq_false hdenied),
    if_neg (ne_true_of_eq_false hlate)]
  rfl

end Handshake

/-- A connection whose certificate has room takes the lowest FREE context of its roles (R402). -/
theorem openTls_opens {port : Nat} {cert : ClientCert} {roles : BitVec 8} {n : Nat} {s : State} (hroom : s.perIdentity cert.digest < s.cfg 0x1010 6)
    (hfree : s.freeOf (tlsContexts roles) = some n) (secret : Nat) :
    openTls port cert roles secret s = (openContext n port roles (unle (cert.digest.take 8)) s).modSession n fun c =>
      { c with anchor := cert.anchor.getD 0, cert := cert.digest, secret := secret } := by
  unfold openTls
  dsimp only
  rw [if_neg (by omega), hfree]

theorem perIdentity_congr {s t : State} (h : t.dict = s.dict) (cert : Bytes) : t.perIdentity cert = s.perIdentity cert := by
  rw [State.perIdentity, h, State.perIdentity]

theorem freeOf_congr {s t : State} (h : t.dict = s.dict) (l : List Nat) : t.freeOf l = s.freeOf l := by
  simp only [State.freeOf, session_congr h]

theorem gives_tlsHandshake {s : State} {conn : Nat} {h : Nat × Cycle} (hfind : s.sec.handshakes.find? (fun x => x.1 = conn) = some h)
    (port : Nat) {cert : ClientCert} (secret : Nat) {n : Nat} (htime : s.passed h.2 10000 = false) (hcert : s.certOk cert = true)
    (hdenied : s.denied cert.digest = false) (hperiod : s.sec.adopted = true → s.clock.trusted = true → cert.inPeriod = true)
    (hroom : s.perIdentity cert.digest < s.cfg 0x1010 6) (hfree : s.freeOf (tlsContexts (s.grantedRoles cert)) = some n) :
    Gives (.tlsHandshake conn port cert secret) s fun t => ChangesOnly [.dict, .sec, .tally] s t ∧
      t.session n = { state := .isOpen, transport := port, roles := s.grantedRoles cert, identity := unle (cert.digest.take 8),
                      anchor := cert.anchor.getD 0, cert := cert.digest, secret := secret } ∧ ∀ m, m ≠ n → t.session m = s.session m := by
  have hdict : (s.handshaken conn).dict = s.dict := (handshaken_keeps s conn (A := fun p => p = .sec || p = .tally) rfl rfl).dict_eq
  refine ⟨_, execTlsHandshake_opens hfind port secret htime hcert hdenied hperiod, ?_⟩
  rw [grantedRoles_handshaken, openTls_opens (by rwa [perIdentity_congr hdict, cfg_congr hdict]) (by rwa [freeOf_congr hdict])]
  refine ⟨(State.modSession_keeps _ _ _ (openContext_keeps _ _ _ _ _ (handshaken_keeps s conn rfl rfl))).changesOnly, ?_, fun m hm => ?_⟩
  · simp [openContext]
  · simp [openContext, Ne.symm hm, session_congr hdict]

/-! ### Connections lost and resumed (R403) -/

theorem gives_connectionLost {s : State} {n : Nat} (hn : n < 128) (ho : s.sessOpen n = true) : Gives (.connectionLost n) s fun t =>
    ChangesOnly [.dict] s t ∧ (t.session n).state = .dormant ∧ (t.session n).dormantAt = some s.core.cycle ∧
      (t.session n).queue = [] ∧ (t.session n).block = none ∧ (∀ x ∈ (t.session n).subs, x.paused = true) ∧ (t.session n).roles = (s.session n).roles ∧
      t.dict.staged = s.dict.staged ∧ (∀ r ∈ t.dict.responses, r.session ≠ n) ∧ ∀ m, m ≠ n → t.session m = s.session m := by
  refine ⟨loseConnection n s, if_pos (by simp [hn, ho]), (loseConnection_keeps n s (.refl _ s)).changesOnly, ?_⟩
  unfold loseConnection
  rw [session_modSession_same]
  refine ⟨rfl, rfl, rfl, rfl, fun x hx => ?_, rfl, rfl, fun r hr => ?_, fun m hm => (session_modSession ..).trans (if_neg (Ne.symm hm))⟩
  · obtain ⟨y, -, rfl⟩ := List.mem_map.1 hx
    rfl
  · simpa using (List.mem_filter.1 hr).2

theorem gives_sessionResumption {s : State} {n : Nat} (hd : (s.session n).state = .dormant) (hw : s.inWindow n = true) (port secret : Nat) :
    Gives (.sessionResumption n port secret) s fun t => ChangesOnly [.dict] s t ∧ (t.session n).state = .isOpen ∧
      (t.session n).transport = port ∧ (t.session n).secret = secret ∧ (t.session n).roles = (s.session n).roles ∧
      ∀ x ∈ (t.session n).subs, x.paused = false := by
  refine ⟨_, if_pos (by simp [hd, hw]), (State.modSession_keeps s n _ (.refl _ s)).changesOnly, ?_⟩
  rw [session_modSession_same]
  refine ⟨rfl, rfl, rfl, rfl, fun x hx => ?_⟩
  obtain ⟨y, -, rfl⟩ := List.mem_map.1 hx
  rfl

/-! ### Datagrams (R423) -/

theorem fast_modFast (s : State) (j i : Nat) (f : FastChannel → FastChannel) : (s.modFast j f).fast i = if j = i then f (s.fast j) else s.fast i := Tab.at_mod ..

/-- A datagram whose response is not kept and that repeats no outstanding request goes to Q28, its sequence noted. -/
theorem takeDatagram_takes {u : State} {d : Datagram} (hkept : (u.fast d.channel).kept = [])
    (hqueue : ((u.session (128 + d.channel)).queue.any fun q => q.req = d.req) = false)
    (horder : ((u.session (128 + d.channel)).order.any fun o => o.1 = d.req) = false) :
    takeDatagram d u = (takeRequests (128 + d.channel) [(d.req, d.pdu)] (u.modFast d.channel fun f => f.note d)).2 := by
  have hnone : ((u.modFast d.channel fun f => f.note d).fast d.channel).kept.find? (fun r => r.req = d.req) = none := by
    rw [fast_modFast, if_pos rfl]
    exact (congrArg _ hkept).trans List.find?_nil
  have hnew : ¬ ((((u.modFast d.channel fun f => f.note d).session (128 + d.channel)).queue.any fun q => q.req = d.req) ||
      (((u.modFast d.channel fun f => f.note d).session (128 + d.channel)).order.any fun o => o.1 = d.req)) = true := by
    show ¬ (((u.session (128 + d.channel)).queue.any fun q => q.req = d.req) ||
      ((u.session (128 + d.channel)).order.any fun o => o.1 = d.req)) = true
    rw [hqueue, horder]
    exact Bool.false_ne_true
  unfold takeDatagram
  dsimp only
  rw [hnone]
  exact if_neg hnew

section Datagram
variable {s u : State} {port : Nat} {d : Datagram} {rest : List EthRx} (hsplit : splitDatagram (s.eth port).rx = some (d, rest))
  (hu : u = s.modEth port fun e => { e with rx := rest })
include hsplit hu

theorem execFastChannelDatagram_takes (hok : u.datagramOk d = true) : execFastChannelDatagram port s = .next (takeDatagram d u) := by
  unfold execFastChannelDatagram
  rw [hsplit]
  dsimp only
  rw [← hu, if_pos hok]

theorem execFastChannelDatagram_discards (hbad : u.datagramOk d = false) : execFastChannelDatagram port s =
    .next { u with sec := { u.sec with datagramsDiscarded := inc32 u.sec.datagramsDiscarded } } := by
  unfold execFastChannelDatagram
  rw [hsplit]
  dsimp only
  rw [← hu, if_neg (ne_true_of_eq_false hbad)]

omit hsplit in
theorem datagramSplit_keeps : Keeps (fun p => p = .links) s u := hu ▸ State.modEth_keeps s port _ (.refl _ s)

theorem gives_datagramDiscarded (hbad : u.datagramOk d = false) : Gives (.fastChannelDatagram port) s fun t => t.links = u.links ∧ t.dict = s.dict ∧
    t.sec = { s.sec with datagramsDiscarded := inc32 s.sec.datagramsDiscarded } := by
  have hk := datagramSplit_keeps hu
  refine ⟨_, execFastChannelDatagram_discards hsplit hu hbad, rfl, hk.dict_eq, ?_⟩
  rw [hk.sec_eq]

theorem gives_datagramTaken (hok : u.datagramOk d = true) (hkept : (s.fast d.channel).kept = [])
    (hqueue : ((s.session (128 + d.channel)).queue.any fun q => q.req = d.req) = false)
    (horder : ((s.session (128 + d.channel)).order.any fun o => o.1 = d.req) = false) : Gives (.fastChannelDatagram port) s fun t =>
      t.sec.datagramsDiscarded = s.sec.datagramsDiscarded ∧ (t.fast d.channel).rxTop = max (s.fast d.channel).rxTop d.seq := by
  have hk := datagramSplit_keeps hu
  have hfast : u.fast d.channel = s.fast d.channel := by rw [State.fast, hk.sec_eq, State.fast]
  have hsec := (takeRequests_keeps (128 + d.channel) [(d.req, d.pdu)] (u.modFast d.channel fun f => f.note d) (.refl (fun p => p = .dict) _)).sec_eq
  refine ⟨_, execFastChannelDatagram_takes hsplit hu hok, ?_⟩
  rw [← hfast] at hkept ⊢
  rw [← session_congr hk.dict_eq] at hqueue horder
  rw [takeDatagram_takes hkept hqueue horder, State.fast, hsec, ← hk.sec_eq]
  refine ⟨rfl, ?_⟩
  show ((u.modFast d.channel fun f => f.note d).fast d.channel).rxTop = _
  rw [fast_modFast, if_pos rfl]
  rfl

end Datagram

/-- Settles O58: each event by what it does when its condition holds. -/
theorem sessionsOpenAndEnd : Obligations.SessionsOpenAndEnd := by
  intro s
  refine ⟨fun conn port hup => ⟨gives_clientHello hup, gives_clientHello_refused hup⟩, fun conn h hfind => ⟨fun hlate => ?late, fun htime => ?early,
      fun port cert secret hbad => gives_tlsHandshake_failed hfind port secret hbad, fun port cert secret n c htime hcert hdenied hperiod hroom hfree hc => ?opens⟩,
    fun n hn ho => ⟨gives_connectionLost hn ho, endSession s n, if_pos (by simp [hn, ho]), endSession_ends s n⟩,
    fun n hd => ⟨fun port secret hw => gives_sessionResumption hd hw port secret, fun hw => ?expired, fun hw => ?within⟩,
    fun port d rest u _ hsplit hu => ?datagram, fun hwait hleft => if_pos (by simp [hwait, hleft]), fun hleft => if_neg (by simp [hleft])⟩
  case late =>
    refine ⟨failHandshake (endHandshake conn s), ?_, failHandshake_fails conn s⟩
    show execTlsHandshakeTimeout conn s = _
    rw [execTlsHandshakeTimeout, hfind]
    exact if_pos hlate
  case early =>
    show execTlsHandshakeTimeout conn s = _
    rw [execTlsHandshakeTimeout, hfind]
    exact if_neg (ne_true_of_eq_false htime)
  case opens =>
    subst hc
    exact gives_tlsHandshake hfind port secret htime hcert hdenied hperiod hroom hfree
  case expired =>
    obtain ⟨hkeeps, hfree, howner, -⟩ := endSession_ends s n
    exact ⟨endSession s n, if_pos (by simp [hd, hw]), hkeeps, hfree, howner⟩
  case within => exact if_neg (by simp [hw])
  case datagram =>
    exact ⟨gives_datagramDiscarded hsplit hu, gives_datagramTaken hsplit hu⟩

end Sys2Proof.Machine
end

section
/-! SUPPORT. What the requests of an open session are answered (R387, R390, R391, R394, R395, R396, R399, R482, R495): the way of a request into the engine, and its
answer, kind by kind. -/

namespace Sys2Proof.Machine

open Sys2Proof

/-! ### A request reaches the engine -/

section Served
variable {s : State} {a r : Nat} (hopen : s.sessOpen a = true)
include hopen

/-- A request of an open session is served at once, its answer due. -/
theorem serveNow_open (p : Pdu) : serveNow a r p s = .next (servePdu a r p (s.serving a r)) := if_pos hopen

/-- What a command gives that is a request of an open session. -/
theorem gives_served {i : Instr} {p : Pdu} {Q : State → Prop} (hexec : exec i s = serveNow a r p s) (hq : Q (servePdu a r p (s.serving a r))) : Gives i s Q :=
  ⟨_, hexec.trans (serveNow_open hopen p), hq⟩

end Served

/-- A session's context while its request is served: counted, the answer due. -/
theorem session_serving (s : State) (a r : Nat) : (s.serving a r).session a =
    { s.session a with served := inc32 (s.session a).served, order := (s.session a).order ++ [(r, s.core.cycle)] } :=
  session_modSession_same s a fun c => { c with served := inc32 c.served, order := c.order ++ [(r, s.core.cycle)] }

/-- An answer to a session joins the responses (R397). -/
theorem answer_responds {s t : State} {x : Response} (h : x.session ≠ 0xFFFF) (hresp : t.dict.responses = s.dict.responses) : Responds s (t.answer x) x := by
  rw [Responds, State.answer, if_neg h, ← hresp]

/-- A request that leaves the dictionary as it stood when it was served, answered. -/
theorem served_responds {s t : State} {a r : Nat} {x : Response} {A : Part → Bool} (h : x.session ≠ 0xFFFF) (hk : Keeps A (s.serving a r) t)
    (hdict : A .dict = false) : Responds s (t.answer x) x := answer_responds h (by rw [hk.dict_eq hdict]; rfl)

theorem answer_others (s : State) (x : Response) : Keeps (fun p => p = .dict) s (s.answer x) := State.answer_keeps s x (.refl _ s)

theorem vals_answer (s : State) (x : Response) : (s.answer x).dict.vals = s.dict.vals := by
  unfold State.answer
  split <;> rfl

theorem session_answer (s : State) (x : Response) (n : Nat) : (s.answer x).session n = s.session n := by
  unfold State.answer
  split <;> rfl

theorem session_modSession_answer (s : State) (a : Nat) (f : Session → Session) (x : Response) : ((s.modSession a f).answer x).session a = f (s.session a) :=
  (session_answer ..).trans (session_modSession_same ..)

theorem isCan_of_lt {a : Nat} (h : a < 192) : isCan a = false := by simp [isCan, h]

theorem isCan_of_le {a : Nat} (h : 192 ≤ a) : isCan a = true := by simp [isCan, h]

theorem isTls_of_lt {a : Nat} (h : a < 128) : (isFast a || isCan a) = false := by simp [isFast, isCan]; omega

/-! ### Reads (R391, R394, R399) -/

theorem serveRead_answers {a : Nat} {l : List (Nat × Nat)} (hcan : a < 192) (h1 : 1 ≤ l.length) (h64 : l.length ≤ 64) (r : Nat) (s : State) :
    serveRead a r l s = (readEntries a l s).2.answer
      { session := a, req := r, type := 0x81, cycle := s.boundary.core.cycle, body := le 2 l.length ++ le 2 0 ++ (readEntries a l s).1 } := by
  have hlen : (l.isEmpty || decide (64 < l.length)) = false := by
    cases l with
    | nil => cases h1
    | cons x l => simpa using h64
  unfold serveRead
  dsimp only
  rw [if_neg (ne_true_of_eq_false (isCan_of_lt hcan)), if_neg (ne_true_of_eq_false hlen)]

theorem serveRead_answersOne {a : Nat} (hcan : 192 ≤ a) (r : Nat) (o : Nat × Nat) (l : List (Nat × Nat)) (s : State) :
    serveRead a r (o :: l) s = (readObject a o.1 o.2 s).2.2.answer
      { session := a, req := r, type := 0x81, cycle := s.boundary.core.cycle, abort := (readObject a o.1 o.2 s).1, body := (readObject a o.1 o.2 s).2.1 } := by
  unfold serveRead
  dsimp only
  rw [if_pos (isCan_of_le hcan)]

/-- What a read changes: the traces, the counters cleared as they are read, the Tally's cursors. -/
abbrev readParts : Part → Bool := fun p => p = .sawyer || p = .clock || p = .tally

theorem readEntries_kept (a : Nat) (l : List (Nat × Nat)) (s : State) : Keeps readParts s (readEntries a l s).2 := readEntries_keeps a l s (.refl _ s)

theorem readObject_kept (a idx sub : Nat) (s : State) : Keeps readParts s (readObject a idx sub s).2.2 := readObject_keeps a idx sub s (.refl _ s)

/-- A READ of one object that may be read has that object's entry alone. -/
theorem serveRead_one {a idx sub : Nat} {v : Bytes} {s t : State} (hcan : a < 192) (hread : readObject a idx sub s = (0, v, t)) (r : Nat) :
    serveRead a r [(idx, sub)] s = t.answer
      { session := a, req := r, type := 0x81, cycle := s.boundary.core.cycle,
        body := le 2 1 ++ le 2 0 ++ valueEntry idx sub (typeCodeOf idx sub) 0 v } := by
  have hone : readEntries a [(idx, sub)] s = (valueEntry idx sub (typeCodeOf idx sub) 0 v, t) := by
    simp only [readEntries, hread, List.append_nil]
  rw [serveRead_answers (l := [(idx, sub)]) hcan (Nat.le_refl 1) (by simp), hone]
  rfl

/-- The Tally is read as far as it has records (R495). -/
theorem readObject_tally {a : Nat} {s : State} (hc : s.readCheck a 0x8A10 2 = 0) :
    readObject a 0x8A10 2 s = (0, (readTally a 1016 s).1, (readTally a 1016 s).2) := by
  unfold readObject
  simp [hc]

/-- What is read of the Tally depends on the Tally alone. -/
theorem readTally_congr {s t : State} (h : t.tally = s.tally) (a room : Nat) :
    (readTally a room t).1 = (readTally a room s).1 ∧ (readTally a room t).2.tally = (readTally a room s).2.tally := by
  have hrecs : t.tallyRecords = s.tallyRecords := by rw [State.tallyRecords, h, State.tallyRecords]
  unfold readTally
  rw [hrecs, h]
  dsimp only
  split <;> exact ⟨rfl, by simp only [h]⟩

/-- 7120.04 is cleared as it is read (R482). -/
theorem readObject_occurrences {a : Nat} {s : State} (hc : s.readCheck a 0x7120 4 = 0) :
    readObject a 0x7120 4 s = (0, le 1 s.clock.occurrences, { s with clock := { s.clock with occurrences := 0 } }) := by
  unfold readObject
  simp [hc]

/-! ### Block reads (R310, R394, R495) -/

theorem readTally_kept (a room : Nat) (s : State) : Keeps (fun p => p = .tally) s (readTally a room s).2 := readTally_keeps a room s (.refl _ s)

theorem captureRead_same (idx sub : Nat) (s : State) : Keeps (fun p => p = .sawyer) s (captureRead idx sub s) := captureRead_keeps idx sub s (.refl _ s)

/-- A read, of the last bytes of a capture or not, changes the trace buffers alone. -/
theorem captureRead_kept (c : Prop) [Decidable c] (idx sub : Nat) (s : State) :
    Keeps (fun p => p = .sawyer) s (if c then captureRead idx sub s else s) :=
  keeps_ite (captureRead_same idx sub s) (.refl _ s)

theorem serveReadBlock_tally {a : Nat} {s : State} (ha : a < 128) (hc : s.readCheck a 0x8A10 2 = 0) (r : Nat) :
    serveReadBlock a r 0x8A10 2 0 65536 s = (readTally a 65536 s).2.answer
      { session := a, req := r, type := 0x83, cycle := s.boundary.core.cycle,
        body := addrEntry 0x8A10 2 ++ le 4 0 ++ le 4 (readTally a 65536 s).1.length ++ (readTally a 65536 s).1 } := by
  rw [← (readTally_kept a 65536 s).boundary]
  unfold serveReadBlock
  simp [isTls_of_lt ha, hc]

theorem serveReadBlock_answers {a idx sub off n : Nat} {s : State} (ha : a < 128) (hidx : idx ≠ 0x8A10) (hc : s.readCheck a idx sub = 0) (h1 : 1 ≤ n)
    (hn : n ≤ 65536) (hoff : off ≤ (s.valueBytes a idx sub).length) (r : Nat) : serveReadBlock a r idx sub off n s =
      (if (s.valueBytes a idx sub).length ≤ off + n then captureRead idx sub s else s).answer
        { session := a, req := r, type := 0x83, cycle := s.boundary.core.cycle,
          body := addrEntry idx sub ++ le 4 off ++ le 4 (((s.valueBytes a idx sub).drop off).take n).length ++ ((s.valueBytes a idx sub).drop off).take n } := by
  have hlen : (decide (n = 0) || decide (65536 < n)) = false := by simp; omega
  have hplain : (decide (idx = 0x8A10) && decide (sub = 2)) = false := by simp [hidx]
  have hcyc := (captureRead_kept ((s.valueBytes a idx sub).length ≤ off + n) idx sub s).boundary
  unfold serveReadBlock
  dsimp only
  rw [if_neg (ne_true_of_eq_false (isTls_of_lt ha)), if_neg (by simp [hc]), if_neg (ne_true_of_eq_false hlen), if_neg (ne_true_of_eq_false hplain),
    if_neg (by omega), hcyc]

theorem trace_congr {s t : State} (h : t.sawyer = s.sawyer) (b : Nat) : t.trace b = s.trace b := by rw [State.trace, h, State.trace]

/-- A capture in re-arm mode that is read arms its buffer again (R310). -/
theorem trace_captureRead {s : State} {b : Nat} (hb : b < 4) (hstate : (s.trace b).state = 3) (hrearm : (s.trace b).rearm = true) :
    ((captureRead (0x6400 + b) 0x0E s).trace b).state = 1 := by
  have hsub : 0x6400 + b - 0x6400 = b := by omega
  unfold captureRead
  rw [hsub, if_pos (by simp [hstate, hrearm]; omega), effTraceArm, trace_modTrace, if_pos rfl]

/-! ### Block transfers (R395) -/

section WriteBlock
variable {s : State} {a idx sub total : Nat} {data : Bytes} (ha : a < 128) (hc : s.writeCheck a idx sub (.bytes []) = 0)
  (hty : typeCodeOf idx sub = 0x0D ∨ typeCodeOf idx sub = 0x10) (hnone : (s.session a).block = none) (hdata : data.length ≤ total) (htotal : total ≤ 65536)
include ha hc hty hnone hdata htotal

/-- The first part of a transfer, at offset 0. -/
theorem serveWriteBlock_first (r crc : Nat) (final : Bool) : serveWriteBlock a r idx sub 0 total crc final data s =
    takeBlockPart a r idx sub { key := okey idx sub, total := total, crc := crc } final data s := by
  unfold serveWriteBlock
  dsimp only
  rw [if_neg (ne_true_of_eq_false (isTls_of_lt ha)), if_neg (by simp [hc]), if_neg (by simp; omega), hnone, if_neg (by simp; omega)]
  rfl

end WriteBlock

/-- The part is kept, and answered with the bytes held. -/
theorem takeBlockPart_keepsPart {a : Nat} (ha : a < 128) (r idx sub : Nat) (b : BlockXfer) (data : Bytes) (s : State) :
    ((takeBlockPart a r idx sub b false data s).session a).block = some { b with data := b.data ++ data, last := s.core.cycle } ∧
    (takeBlockPart a r idx sub b false data s).dict.vals = s.dict.vals ∧
    Responds s (takeBlockPart a r idx sub b false data s)
      { session := a, req := r, type := 0x84, cycle := s.core.cycle, body := le 4 (b.data ++ data).length } := by
  have ha' : a ≠ 0xFFFF := by omega
  unfold takeBlockPart
  dsimp only
  rw [if_pos (by rfl), session_modSession_answer]
  exact ⟨rfl, vals_answer .., answer_responds ha' rfl⟩

/-- The final part of a value that is whole has it written, with the bytes held noted for its answer. -/
theorem takeBlockPart_writes {b : BlockXfer} {data : Bytes} (hlen : (b.data ++ data).length = b.total) (hcrc : (crc32c (b.data ++ data)).toNat = b.crc)
    (a r idx sub : Nat) (s : State) : takeBlockPart a r idx sub b true data s = serveWrite a r idx sub (.bytes (b.data ++ data))
      ((s.modSession a fun c => { c with block := none }).modSession a fun c => { c with addrs := Tab.put c.addrs r (b.data ++ data).length }) := by
  unfold takeBlockPart
  dsimp only
  rw [if_neg (by simp), if_neg (by simp [hlen, hcrc])]
  rfl

/-! ### Subscriptions (R396) -/

theorem serveSubscribe_subscribes {s : State} {a period p : Nat} {l : List (Nat × Nat)} (ha : a < 256) (hadopted : s.sec.adopted = true) (h1 : 1 ≤ l.length)
    (h64 : l.length ≤ 64) (hperiod : notePeriod a period = (p, true)) (hread : ∀ x ∈ l, s.readCheck a x.1 x.2 = 0)
    (hroom : (s.session a).subs.length < 8) (hfits : s.noteFits a (l.map fun x => okey x.1 x.2) = true) (r : Nat) :
    ((serveSubscribe a r period l s).session a).subs =
      (s.session a).subs ++ [{ id := (s.session a).freeSub, period := p, objects := l.map fun x => okey x.1 x.2 }] ∧
    Responds s (serveSubscribe a r period l s)
      { session := a, req := r, type := 0x85, cycle := s.core.cycle, body := le 2 (s.session a).freeSub } := by
  have ha' : a ≠ 0xFFFF := by omega
  have hlen : (l.isEmpty || decide (64 < l.length)) = false := by
    cases l with
    | nil => cases h1
    | cons x l => simpa using h64
  have hbad : (l.findSome? fun x => if s.readCheck a x.1 x.2 = 0 ∨ s.readCheck a x.1 x.2 = abActiveOnly then none else some (s.readCheck a x.1 x.2)) = none :=
    List.findSome?_eq_none_iff.2 fun x hx => if_pos (.inl (hread x hx))
  unfold serveSubscribe
  simp only [hperiod, hadopted, hlen, hfits, Bool.not_true, Bool.or_false, Bool.false_eq_true, if_false, hbad, decide_eq_true_eq, Nat.not_le.2 hroom,
    Bool.or_eq_true, session_modSession_answer]
  exact ⟨trivial, answer_responds ha' rfl⟩

theorem serveUnsubscribe_ends {s : State} {a id : Nat} (ha : a < 256) (hadopted : s.sec.adopted = true)
    (hid : ((s.session a).subs.any fun x => x.id = id) = true) (r : Nat) :
    ((serveUnsubscribe a r id s).session a).subs = (s.session a).subs.filter (fun x => x.id != id) ∧
    ((serveUnsubscribe a r id s).session a).notes = (s.session a).notes.filter (fun x => x.req != id) ∧
    Responds s (serveUnsubscribe a r id s) { session := a, req := r, type := 0x86, cycle := s.core.cycle, body := replyBody 6 0 } := by
  have ha' : a ≠ 0xFFFF := by omega
  unfold serveUnsubscribe
  rw [if_neg (by simp [hadopted]), if_pos hid, State.reply, State.replyAt, session_modSession_answer]
  exact ⟨rfl, rfl, answer_responds ha' rfl⟩

/-! ### Metadata (R387) -/

theorem serveDescribe_answers {s : State} {a : Nat} {l : List (Nat × Nat)} (hcan : a < 192) (hadopted : s.sec.adopted = true) (h1 : 1 ≤ l.length)
    (h16 : l.length ≤ 16) (hall : ∀ x ∈ l, (descOf x.1 x.2).isSome = true) (r : Nat) : serveDescribe a r l s = s.answer
      { session := a, req := r, type := 0x89, cycle := s.core.cycle,
        body := le 2 l.length ++ le 2 0 ++ l.flatMap fun x => ((descOf x.1 x.2).map (metadata x.1 x.2)).getD [] } := by
  have hlen : (l.isEmpty || decide (16 < l.length)) = false := by
    cases l with
    | nil => cases h1
    | cons x l => simpa using h16
  have hgone : (l.find? fun x => (descOf x.1 x.2).isNone) = none :=
    List.find?_eq_none.2 fun x hx => by simp [Option.isSome_iff_ne_none.1 (hall x hx)]
  unfold serveDescribe
  dsimp only
  rw [if_neg (ne_true_of_eq_false (isCan_of_lt hcan)), if_neg (by simp [hadopted]), if_neg (ne_true_of_eq_false hlen), hgone]
  refine congrArg (fun row => s.answer { session := a, req := r, type := 0x89, cycle := s.core.cycle, body := le 2 l.length ++ le 2 0 ++ l.flatMap row })
    (funext fun x => ?_)
  cases descOf x.1 x.2 <;> rfl

/-- Settles O55: each request reaches the engine in the state that serves it, and is answered there. -/
theorem requestsAnswered : Obligations.RequestsAnswered := by
  rintro s u a r hopen rfl ha
  have ha' : a ≠ 0xFFFF := by omega
  refine ⟨fun l hcan h1 h64 => gives_served hopen (p := .read l) rfl ?read, fun o l hcan => gives_served hopen (p := .read (o :: l)) rfl ?readCan,
    fun hcan hc => gives_served hopen (p := .read [(0x7120, 4)]) rfl ?occurrences, fun hcan hc => gives_served hopen (p := .read [(0x8A10, 2)]) rfl ?tally,
    fun htls hc => gives_served hopen (p := .readBlock 0x8A10 2 0 65536) rfl ?tallyBlock,
    fun idx sub off n part htls hidx hc h1 hn hoff hpart => gives_served hopen (p := .readBlock idx sub off n) rfl ?block,
    fun b v htls hb hc hv hlen => gives_served hopen (p := .readBlock (0x6400 + b) 0x0E 0 65536) rfl ?capture,
    fun idx sub total crc data htls hc hty hnone hdata htotal => gives_served hopen (p := .writeBlock idx sub 0 total crc false data) rfl ?part,
    fun idx sub data htls hc hty hnone hdata => ?final,
    fun period p l hadopted h1 h64 hperiod hread hroom hfits => gives_served hopen (p := .subscribe period l) rfl ?subscribe,
    fun id hadopted hid => gives_served hopen (p := .unsubscribe id) rfl ?unsubscribe,
    fun l hcan hadopted h1 h16 hall => gives_served hopen (p := .describe l) rfl ?describe⟩
  case read =>
    rw [servePdu, serveRead_answers hcan h1 h64]
    exact ⟨by rw [vals_answer, (readEntries_kept ..).dict_eq]; rfl, served_responds ha' (readEntries_kept ..) rfl⟩
  case readCan =>
    rw [servePdu, serveRead_answersOne hcan]
    exact ⟨by rw [vals_answer, (readObject_kept ..).dict_eq]; rfl, served_responds ha' (readObject_kept ..) rfl⟩
  case occurrences =>
    rw [servePdu, serveRead_one hcan (readObject_occurrences hc)]
    exact ⟨(answer_others ..).clock_eq, answer_responds ha' rfl⟩
  case tally =>
    obtain ⟨hbytes, htally⟩ := readTally_congr (s := s) (t := s.serving a r) rfl a 1016
    rw [servePdu, serveRead_one hcan (readObject_tally hc), hbytes]
    exact ⟨(answer_others ..).tally_eq.trans htally, served_responds ha' (readTally_kept ..) rfl⟩
  case tallyBlock =>
    obtain ⟨hbytes, htally⟩ := readTally_congr (s := s) (t := s.serving a r) rfl a 65536
    rw [servePdu, serveReadBlock_tally htls hc, hbytes]
    exact ⟨(answer_others ..).tally_eq.trans htally, served_responds ha' (readTally_kept ..) rfl⟩
  case block =>
    rw [servePdu, serveReadBlock_answers htls hidx hc h1 hn hoff, hpart]
    exact served_responds ha' (captureRead_kept ..) rfl
  case capture =>
    have htaken : (v.drop 0).take 65536 = v := List.take_of_length_le hlen
    rw [servePdu, serveReadBlock_answers htls (by omega) hc (by decide) (by decide) (by omega), ← hv, htaken, if_pos (by omega)]
    refine ⟨fun hstate hrearm => ?_, served_responds ha' (captureRead_same ..) rfl⟩
    exact (congrArg Trace.state (trace_congr (answer_others ..).sawyer_eq b)).trans (trace_captureRead hb hstate hrearm)
  case part =>
    rw [servePdu, serveWriteBlock_first htls hc hty (by rw [session_serving]; exact hnone) hdata htotal]
    exact takeBlockPart_keepsPart htls r idx sub { key := okey idx sub, total := total, crc := crc } data (s.serving a r)
  case final =>
    refine (serveNow_open hopen (.writeBlock idx sub 0 data.length (crc32c data).toNat true data)).trans (congrArg Host.Outcome.next ?_)
    rw [servePdu, serveWriteBlock_first htls hc hty (by rw [session_serving]; exact hnone) (Nat.le_refl _) hdata, takeBlockPart_writes rfl rfl]
    rfl
  case subscribe =>
    have hsubs : ((s.serving a r).session a).subs = (s.session a).subs := by rw [session_serving]
    have hid : ((s.serving a r).session a).freeSub = (s.session a).freeSub := by rw [Session.freeSub, hsubs, Session.freeSub]
    rw [← hsubs, ← hid]
    exact serveSubscribe_subscribes (s := s.serving a r) ha hadopted h1 h64 hperiod hread (hsubs ▸ hroom) hfits r
  case unsubscribe =>
    have hsubs : ((s.serving a r).session a).subs = (s.session a).subs := by rw [session_serving]
    have hnotes : ((s.serving a r).session a).notes = (s.session a).notes := by rw [session_serving]
    rw [← hsubs, ← hnotes]
    exact serveUnsubscribe_ends (s := s.serving a r) ha hadopted (hsubs ▸ hid) r
  case describe =>
    rw [servePdu, serveDescribe_answers (s := s.serving a r) hcan hadopted h1 h16 hall]
    exact ⟨vals_answer .., answer_responds ha' rfl⟩

end Sys2Proof.Machine
end

section
/-! SUPPORT. The transports of the dictionary (R395, R399, R400) and a round of its engine (R404): what becomes of a transfer, and a session's turn. -/

namespace Sys2Proof.Machine

open Sys2Proof

/-! ### Frames of the dictionary -/

/-- A frame that leaves changes no session. -/
theorem session_canDictFrame (sess : Nat) (data : Bytes) (s : State) (n : Nat) : (canDictFrame sess data s).session n = s.session n :=
  session_congr (canDictFrame_keeps (A := fun p => p = .links || p = .sec || p = .storage) sess data s (.refl _ s)).dict_eq n

theorem session_sendAck (sess : Nat) (x : SegXfer) (s : State) (n : Nat) : (sendAck sess x s).session n = s.session n := session_canDictFrame ..

/-- An aborted transfer is gone (R400). -/
theorem seg_abortSegment (sess code : Nat) (x : SegXfer) (s : State) : ((abortSegment sess code x s).session sess).seg = none := by
  unfold abortSegment
  rw [session_canDictFrame, session_modSession_same]

/-! ### A transfer from the host -/

section Frame
variable {s : State} {n ch : Nat} {f : Bytes} (hn : n < 2) (hch : ch = fieldN f 1 1) (hlt : ch < 64) (hopen : s.sessOpen (192 + ch) = true)
include hn hch hlt hopen

theorem execCanSegment_initiate (hkind : fieldN f 0 1 / 32 = 1) (htype : fieldN f 2 1 = 2) :
    execCanSegment n f s = .next (startSegments (192 + ch) f (s.modSession (192 + ch) fun c => { c with transport := 4 + n })) := by
  have hsess : (decide (256 ≤ 192 + ch) || !s.sessOpen (192 + ch)) = false := by simp [hopen]; omega
  unfold execCanSegment takeCanFrame
  rw [if_pos (by simp [hkind]), ← hch, if_neg (ne_true_of_eq_false hsess), hkind, Nat.mod_eq_of_lt hn]
  dsimp only
  rw [if_pos (by simp [htype])]
  rfl

theorem execCanSegment_segment {x : SegXfer} (hkind : fieldN f 0 1 / 32 = 2) (hseg : (s.session (192 + ch)).seg = some x) (hwrite : x.write = true) :
    execCanSegment n f s = .next (takeSegment (192 + ch) f x (s.modSession (192 + ch) fun c => { c with transport := 4 + n })) := by
  have hsess : (decide (256 ≤ 192 + ch) || !s.sessOpen (192 + ch)) = false := by simp [hopen]; omega
  unfold execCanSegment takeCanFrame
  rw [if_pos (by simp [hkind]), ← hch, if_neg (ne_true_of_eq_false hsess), hkind, Nat.mod_eq_of_lt hn]
  dsimp only
  rw [session_modSession_same, hseg]
  exact congrArg Host.Outcome.next (if_pos hwrite)

end Frame

/-- The initiate frame of a write opens the transfer of its channel (R400). -/
theorem session_startSegments {sess : Nat} {f : Bytes} (htotal : fieldN f 8 4 ≤ 65536) (s : State) : (startSegments sess f s).session sess =
    { s.session sess with seg := some { write := true, reqType := fieldN f 2 1, reqId := fieldN f 3 1, key := okey (fieldN f 4 2) (fieldN f 6 1),
                                        total := fieldN f 8 4, crc := fieldN f 12 4, data := (slice f 16 40).take (fieldN f 8 4), last := s.core.cycle } } := by
  unfold startSegments
  dsimp only
  rw [if_neg (by omega), session_sendAck, session_modSession_same]

/-- A segment in its turn, not the last, extends the transfer (R400). -/
theorem seg_takeSegment {sess : Nat} {f : Bytes} {x : SegXfer} (hturn : fieldN f 0 1 % 16 = x.next % 16) (hmore : (fieldN f 0 1).testBit 4 = false) (s : State) :
    ((takeSegment sess f x s).session sess).seg =
      some { x with data := (x.data ++ slice f 4 52).take x.total, next := x.next + 1, sinceAck := (x.sinceAck + 1) % 16, last := s.core.cycle } := by
  unfold takeSegment
  dsimp only
  rw [if_neg (by simp [hturn]), if_neg (ne_true_of_eq_false hmore)]
  split
  case isTrue => rw [session_sendAck, session_modSession_same]
  case isFalse => rw [session_modSession_same]

/-! ### A transfer to the host -/

/-- When the host holds all but the last segment, that one is sent and the transfer is over. -/
theorem seg_takeAck_last {sess held : Nat} {x : SegXfer} (hwait : x.waiting = true) (hheld : held = min x.total (40 + 52 * x.next))
    (hlast : x.total ≤ 40 + 52 * x.next + 52) (s : State) : ((takeAck sess held x s).session sess).seg = none := by
  unfold takeAck
  rw [if_neg (by simp [hwait]), if_pos hheld]
  unfold sendSegments
  dsimp only
  rw [if_pos (by simpa using hlast), session_modSession_same]

theorem seg_takeAck_missing {sess held : Nat} {x : SegXfer} (hwait : x.waiting = true) (hheld : held ≠ min x.total (40 + 52 * x.next)) (s : State) :
    ((takeAck sess held x s).session sess).seg = none := by
  unfold takeAck
  rw [if_neg (by simp [hwait]), if_neg hheld]
  exact seg_abortSegment ..

theorem execSegmentAcknowledge_takes {s : State} {ch : Nat} {x : SegXfer} (hseg : (s.session (192 + ch)).seg = some x) (hread : x.write = false) (held : Nat) :
    execSegmentAcknowledge ch held s = .next (takeAck (192 + ch) held x s) := by
  unfold execSegmentAcknowledge
  rw [hseg]
  exact if_neg (ne_true_of_eq_false hread)

/-! ### A session's turn (R404) -/

/-- The next step of a session with a request that is paid for whole. -/
theorem nextStep_whole {n : Nat} {q : QItem} {l : List QItem} {s : State} (hqueue : (s.session n).queue = q :: l) (hwhole : inSteps q.pdu = false) :
    nextStep n s = some (serveHead n q s) := by
  unfold nextStep
  dsimp only
  rw [hqueue]
  dsimp only
  rw [if_neg (ne_true_of_eq_false hwhole)]

theorem nextStep_idle {n : Nat} {s : State} (hqueue : (s.session n).queue = []) (hnotes : (s.session n).notes = []) : nextStep n s = none := by
  unfold nextStep
  dsimp only
  rw [hqueue, hnotes]

theorem serveDeficit_serves {n c k : Nat} {s v : State} (hnext : nextStep n s = some (c, v)) (hpaid : c ≤ (s.session n).deficit) :
    serveDeficit n (k + 1) s = serveDeficit n k (charge n c v) := by
  rw [serveDeficit, hnext]
  exact if_pos hpaid

theorem serveDeficit_idle {n k : Nat} {s : State} (hnext : nextStep n s = none) :
    serveDeficit n (k + 1) s = s.modSession n fun x => { x with deficit := 0 } := by
  rw [serveDeficit, hnext]

theorem session_charge (n c : Nat) (s : State) : (charge n c s).session n =
    { s.session n with deficit := (s.session n).deficit - c, bytes := ((s.session n).bytes + c) % 2 ^ 64 } :=
  session_modSession_same s n fun x => { x with deficit := x.deficit - c, bytes := (x.bytes + c) % 2 ^ 64 }

/-- A session whose one request its deficit covers is served, charged, and left without deficit. -/
theorem sessionTurn_serves {full : List Nat} {n c : Nat} {q : QItem} {s v : State} (hqueue : (s.session n).queue = [q])
    (hcan : s.canTransmit full n = true) (hwhole : inSteps q.pdu = false)
    (hserve : serveHead n q (s.modSession n fun x => { x with deficit := x.deficit + 1024 * x.weight }) = (c, v))
    (hpaid : c ≤ (s.session n).deficit + 1024 * (s.session n).weight) (hempty : (v.session n).queue = []) (hquiet : (v.session n).notes = []) :
    sessionTurn full s n = (charge n c v).modSession n fun x => { x with deficit := 0 } := by
  have hactive : s.engineActive full n = true := by simp [State.engineActive, hqueue, hcan]
  have hgrown := session_modSession_same s n fun x => { x with deficit := x.deficit + 1024 * x.weight }
  have hfirst := nextStep_whole ((congrArg Session.queue hgrown).trans hqueue) hwhole
  rw [hserve] at hfirst
  have hthen : nextStep n (charge n c v) = none := nextStep_idle (by rw [session_charge]; exact hempty) (by rw [session_charge]; exact hquiet)
  unfold sessionTurn
  rw [if_pos hactive, serveDeficit_serves hfirst (by rw [hgrown]; exact hpaid), serveDeficit_idle hthen]

/-- Settles O57: each frame and timer by what it does to its transfer, a round by its parts in their order. -/
theorem transfersAndRounds : Obligations.TransfersAndRounds := by
  intro s
  refine ⟨fun n b hblock hlate => ?blockTimeout,
    fun n f ch hn hkind hch hlt hopen htype htotal => ⟨_, execCanSegment_initiate hn hch hlt hopen hkind htype, ?initiate⟩,
    fun n f ch x hn hkind hch hlt hopen hseg hwrite hturn hmore => ⟨_, execCanSegment_segment hn hch hlt hopen hkind hseg hwrite, seg_takeSegment hturn hmore _⟩,
    fun ch held x hseg hread hwait => ⟨fun hheld hlast => ⟨_, execSegmentAcknowledge_takes hseg hread held, seg_takeAck_last hwait hheld hlast s⟩,
      fun hheld => ⟨_, execSegmentAcknowledge_takes hseg hread held, seg_takeAck_missing hwait hheld s⟩⟩,
    fun ch x hseg hlate => ⟨abortSegment (192 + ch) abTimeout x s, ?transferTimeout, seg_abortSegment ..⟩,
    fun full hpd => if_neg (by simp [hpd]), fun full n hidle => if_neg (ne_true_of_eq_false hidle),
    fun full n q c v hqueue _ hcan hwhole hserve hpaid hempty hquiet => sessionTurn_serves hqueue hcan hwhole hserve hpaid hempty hquiet⟩
  case blockTimeout =>
    show execBlockTransferTimeout n s = _
    rw [execBlockTransferTimeout, hblock]
    exact if_pos hlate
  case initiate =>
    dsimp only
    rw [session_startSegments htotal, session_modSession_same, htype]
    exact ⟨rfl, rfl⟩
  case transferTimeout =>
    show execTransferTimeout ch s = _
    rw [execTransferTimeout, hseg]
    exact if_pos hlate

end Sys2Proof.Machine
end

section
/-! SUPPORT. The step: the command at the front of the queue, or none. -/

namespace Sys2Proof.Machine

open Sys2Proof

/-- Settles O1: by whether the queue is empty. -/
theorem stepRunsFront : Obligations.StepRunsFront := by
  intro c rest s n w
  refine ⟨fun hfront => ?_, fun hempty => ?_, rfl, rfl⟩
  · rw [step, hfront]
    rfl
  · rw [step, hempty]

end Sys2Proof.Machine
end

section
/-! SUPPORT. Changes of a unit's role, and what each leaves of the pair (R436, R437, R451, R455, R459). -/

namespace Sys2Proof.Machine

set_option Elab.async false

open Sys2Proof

/-! ### Roles (R436, R437) -/

/-- What a change of role writes in the pair's part: the role, and the record of changes (8000.08, 8000.09). -/
theorem setRole_pair (r : Role) (cause : Option Nat) (s : State) : ∃ n c,
    (setRole r cause s).pair = { s.pair with role := r, changes := n, lastChange := c } := by
  unfold setRole
  split
  case isTrue h => exact ⟨_, _, by rw [← h]⟩
  case isFalse =>
    cases cause with
    | none => exact ⟨inc32 s.pair.changes, s.core.cycle, by simp [drawInt]⟩
    | some n => exact ⟨inc32 s.pair.changes, s.core.cycle, by simp⟩

@[simp] theorem role_setRole (r : Role) (cause : Option Nat) (s : State) : (setRole r cause s).pair.role = r := by
  obtain ⟨n, c, h⟩ := setRole_pair r cause s
  rw [h]

theorem ranger_setRole (r : Role) (cause : Option Nat) (s : State) : (setRole r cause s).ranger = s.ranger :=
  (setRole_keeps r cause s (.refl (fun p => p != .ranger) s)).ranger_eq

theorem core_setRole (r : Role) (cause : Option Nat) (s : State) : (setRole r cause s).core = s.core :=
  (setRole_keeps r cause s (.refl (fun p => p != .core) s)).core_eq

theorem pair_originateFresh (s : State) : (originateFresh s).pair = s.pair := (originateFresh_keeps s (.refl (fun p => p != .pair) s)).pair_eq

theorem pair_releaseHighSides (s : State) : (releaseHighSides s).pair = s.pair := (releaseHighSides_keeps s (.refl (fun p => p != .pair) s)).pair_eq

theorem pair_raisePair (kind : Nat) (s : State) : (raisePair kind s).pair = s.pair := (raisePair_keeps kind s (.refl (fun p => p != .pair) s)).pair_eq

/-- A fault of the pair once raised counts as raised. -/
@[simp] theorem raised_raisePair (kind : Nat) (s : State) : (raisePair kind s).raised 0x060 kind 0 0 = true := by
  unfold raisePair
  split
  case isTrue h => exact h
  case isFalse => exact raised_reportInj ..

/-- A unit that takes over: its role, the cycle in which it does, no bridging yet (R455), and the end of a hand-over that it was in. -/
theorem beginTakeover_pair (cause : Nat) (s : State) : ∃ n c ph ab h dig w, (beginTakeover cause s).pair = { s.pair with
    takeover := s.core.cycle, bridging := false, role := .takingOver, changes := n, lastChange := c,
    phase := ph, abort := ab, h := h, digest := dig, warm := w } := by
  unfold beginTakeover
  extract_lets u
  have hu : u.core = s.core ∧ ∃ ph ab h dig w, u.pair = { s.pair with phase := ph, abort := ab, h := h, digest := dig, warm := w } := by
    simp only [u]
    split
    · exact ⟨rfl, _, _, _, _, _, rfl⟩
    · exact ⟨rfl, _, _, _, _, _, rfl⟩
  obtain ⟨hcore, ph, ab, h, dig, w, hu⟩ := hu
  obtain ⟨n, c, hp⟩ := setRole_pair .takingOver (some cause) { u with fe := { u.fe with injectFrom := none }, pair := { u.pair with takeover := u.core.cycle, bridging := false } }
  refine ⟨n, c, ph, ab, h, dig, w, hp.trans ?_⟩
  dsimp only
  rw [hcore, hu]

theorem role_beginTakeover (cause : Nat) (s : State) : (beginTakeover cause s).pair.role = .takingOver := role_setRole ..

/-- A claim round opens (R437, R459). -/
theorem openRound_pair (active : Bool) (s : State) : ∃ n c, (openRound active s).pair = { s.pair with
    role := .claiming, changes := n, lastChange := c, before := s.pair.role, wasActive := active, roundOpened := true, claim := 1, round := s.core.cycle } := by
  obtain ⟨n, c, h⟩ := setRole_pair .claiming none s
  refine ⟨n, c, ?_⟩
  unfold openRound
  dsimp only
  rw [h, core_setRole]

theorem role_claimWon (cause : Option Nat) (s : State) : (claimWon cause s).pair.role = .active := by
  rw [claimWon, pair_originateFresh, role_setRole]

theorem claim_claimWon (cause : Option Nat) (s : State) : (claimWon cause s).pair.claim = s.pair.claim := by
  obtain ⟨n, c, h⟩ := setRole_pair .active cause s
  rw [claimWon, pair_originateFresh, h]

theorem claimLost_pair (cause : Option Nat) (s : State) : (claimLost cause s).pair.role = .standby ∧ (claimLost cause s).pair.claim = s.pair.claim ∧
    (claimLost cause s).raised 0x060 0xA1 0 0 = true := by
  obtain ⟨n, c, h⟩ := setRole_pair .standby cause s
  rw [claimLost, pair_raisePair, h]
  exact ⟨rfl, rfl, raised_raisePair ..⟩

/-! ### The end of a hand-over (R451, R452) -/

/-- A hand-over that aborts leaves its cause, sends *hand-over aborted*, and gives each unit the role it had before. -/
structure HandOverAborted (cause : Nat) (s t : State) : Prop where
  phase : t.pair.phase = 6
  abort : t.pair.abort = cause
  standby : s.pair.role = .incoming → t.pair.role = .standby
  active : s.pair.role = .outgoing → t.pair.role = .active
  other : s.pair.role ≠ .incoming → s.pair.role ≠ .outgoing → t.pair.role = s.pair.role
  sent : Sent s t { s.msg 0x060 0xA2 .warn 0 0 with injected := s.tainted 6 }

theorem endHandOver_sent (cause : Nat) (s : State) : Sent s (endHandOver cause s) { s.msg 0x060 0xA2 .warn 0 0 with injected := s.tainted 6 } :=
  ⟨[], [], by rw [List.append_nil, List.append_nil]; rfl⟩

/-- An abort goes through the frame that tells the partner, the end of the hand-over, and the role before it. -/
theorem abortHandOver_aborts (cause : Nat) (tell : Bool) (s : State) : HandOverAborted cause s (abortHandOver cause tell s) := by
  unfold abortHandOver
  extract_lets u v
  have hu : ∃ q, u = { s with pair := { s.pair with q27 := q } } := by
    simp only [u]
    split
    · exact ⟨_, rfl⟩
    · exact ⟨s.pair.q27, rfl⟩
  obtain ⟨q, hu⟩ := hu
  have hsent : Sent s v { s.msg 0x060 0xA2 .warn 0 0 with injected := s.tainted 6 } := by
    simp only [v, hu]
    exact endHandOver_sent cause _
  have hrole : v.pair.role = s.pair.role := by simp only [v, hu]; rfl
  have hset : ∀ r, (setRole r (some 0) v).pair.phase = 6 ∧ (setRole r (some 0) v).pair.abort = cause ∧
      Sent s (setRole r (some 0) v) { s.msg 0x060 0xA2 .warn 0 0 with injected := s.tainted 6 } := fun r => by
    obtain ⟨n, c, h⟩ := setRole_pair r (some 0) v
    rw [h]
    exact ⟨rfl, rfl, hsent.grow (.of_eq (congrArg Ranger.outbox (ranger_setRole ..)))⟩
  rw [hrole]
  split
  case h_1 hr =>
    have hk := releaseHighSides_keeps (setRole .standby (some 0) v) (.refl (fun p => p != .pair && p != .ranger) _)
    obtain ⟨hphase, habort, hs⟩ := hset .standby
    refine ⟨by rw [hk.pair_eq, hphase], by rw [hk.pair_eq, habort], fun _ => by rw [hk.pair_eq, role_setRole], fun h => ?_, fun h => absurd hr h,
      hs.grow (.of_eq (congrArg Ranger.outbox hk.ranger_eq))⟩
    rw [hr] at h
    cases h
  case h_2 hr =>
    obtain ⟨hphase, habort, hs⟩ := hset .active
    refine ⟨hphase, habort, fun h => ?_, fun _ => role_setRole .., fun _ h => absurd hr h, hs⟩
    rw [hr] at h
    cases h
  all_goals
    rename_i hr
    exact ⟨rfl, rfl, fun h => (nomatch hr.symm.trans h), fun h => (nomatch hr.symm.trans h), fun _ _ => hrole, hsent⟩

end Sys2Proof.Machine
end

section
/-! SUPPORT. Writes of security, pair, fault, power and update objects that are in force at once (R388): what each leaves. -/

namespace Sys2Proof.Machine

set_option Elab.async false

open Sys2Proof

/-! ### Command objects of one unit -/

/-- The objects whose writes act as soon as they are accepted and leave no value of their own (R388). -/
def atOnceKeys : List (Nat × Nat) :=
  [(0x7801, 2), (0x7850, 3), (0x7870, 1), (0x7871, 1), (0x8020, 1), (0x8030, 3), (0x8030, 4), (0x8050, 1), (0x8801, 4), (0x8A00, 6), (0x9010, 1),
   (0x9820, 1), (0x9820, 2), (0x9820, 3), (0x9830, 2), (0xA010, 1), (0xA011, 1), (0xA012, 1), (0xA013, 1), (0xA014, 1), (0xA015, 1), (0xA016, 1)]

theorem atOnceKeys_rows : ∀ e ∈ atOnceKeys, (0x7000 ≤ e.1 ∧ dispatchObject e.1 e.2 = false ∧ ownAnswer e.1 e.2 = false) ∧
    ∃ d ∈ objDesc e.1 e.2, d.staged = false ∧ d.stringScope = false ∧ dictObject e.1 e.2 d = false := by decide +kernel

theorem injectorKey_atOnce {l : Nat} (h : l ≤ 6) : (0xA010 + l, 1) ∈ atOnceKeys := by
  have hkeys : ∀ n, n < 7 → (0xA010 + n, 1) ∈ atOnceKeys := by decide
  exact hkeys l (Nat.lt_succ_of_le h)

/-- What a write of one of them does. -/
def unitEffect (w : Wr) (s : State) : State :=
  if w.index < 0x8000 then linkEffect w.session w.session w.req w.index w.sub w.value s
  else systemEffect w.session w.session w.req w.index w.sub w.value.toInt.toNat w.value s

/-- Such a write acts on the state that serves it, and is answered. -/
theorem accepting_atOnce {w : Wr} (h : (w.index, w.sub) ∈ atOnceKeys) (s : State) : ∃ abort,
    s.accepting w = (unitEffect w (s.serving w.session w.req)).reply w.session w.req 2 abort := by
  obtain ⟨⟨hlo, hdis, hown⟩, d, hd, hst, hsc, hdict⟩ := atOnceKeys_rows _ h
  have hd : objDesc w.index w.sub = some d := hd
  have hp : persists w.index w.sub = false := by simp [persists, hd, hdict]
  have heff : ∀ t, enforce w.session w.session w.req w.index w.sub w.value t = unitEffect w t := fun t => by
    simp [enforce, waitsForRecord, hp, objectEffect, hd, hdict, hdis, unitEffect, show ¬ w.index < 0x3000 by omega, show ¬ w.index < 0x6000 by omega,
      show ¬ w.index < 0x7000 by omega]
  simp only [State.accepting, acceptWrite, hd, hst, hdis, hown, hsc, heff, finishWrite_plain hp (objDesc_sub_lt hd), Bool.false_eq_true, if_false]
  exact ⟨_, rfl⟩

/-- What such a write gives is what its effect leaves, whatever the answer. -/
theorem takes_atOnce {i : Instr} {a r idx sub : Nat} {v : ObjVal} {s : State} {Q : State → Prop} (hw : writeOf i = some ⟨a, r, idx, sub, v⟩)
    (h : (idx, sub) ∈ atOnceKeys) (hq : ∀ x, Q ((unitEffect ⟨a, r, idx, sub, v⟩ (s.serving a r)).answer x)) : Takes i s Q := by
  obtain ⟨abort, ha⟩ := accepting_atOnce (w := ⟨a, r, idx, sub, v⟩) h s
  exact takes_of_accepting hw (ha ▸ hq _)

/-! ### Security (R415, R430, R431, R432) -/

theorem noEnvelope_same (s : State) : Keeps (fun p => p = .fb || p = .ranger) s (noEnvelope s) := noEnvelope_keeps s (.refl _ s)

theorem envelope_noEnvelope (s : State) : (noEnvelope s).fb.envelope = s.fb.envelope := by
  unfold noEnvelope
  split
  case isTrue => rfl
  case isFalse =>
    dsimp only
    have hk := congrArg Firebreak.envelope (raiseOnce_fb s 0x010 0x17 .degrade 0 0)
    split <;> exact hk

theorem at_map_key {α : Type} (f : α → α) (d : α) (t : Tab α) (k : Nat) : Tab.at (t.map fun e => (e.1, f e.2)) k (f d) = f (Tab.at t k d) := by
  induction t with
  | nil => rfl
  | cons e t ih =>
    rw [List.map_cons, Tab.at_cons, ih, show e = (e.1, e.2) from rfl, Tab.at_cons]
    split <;> rfl

/-- What a de-adoption leaves: nothing that adoption stored, no envelope, no channel key, no session (R415). -/
theorem effDeAdopt_erases (s : State) : ∀ t, t = effDeAdopt s → t.sec.adopted = false ∧ t.sec.anchors = [] ∧ t.sec.verifyKey = none ∧ t.sec.stringId = 0 ∧
    t.hasEnv = false ∧ (∀ ch, (t.channel ch).key = none) ∧ ∀ n, (t.session n).state = .free := by
  rintro t rfl
  unfold effDeAdopt
  extract_lets channels _ _ u
  obtain ⟨hfree, x, hsec⟩ := endAll_free (journalSecurity u)
  have hk := noEnvelope_same (endAll (journalSecurity u))
  have hsec : (noEnvelope (endAll (journalSecurity u))).sec = { u.sec with fast := x } := hk.sec_eq.trans hsec
  have henv : (noEnvelope (endAll (journalSecurity u))).fb.envelope = none :=
    (envelope_noEnvelope _).trans (congrArg Firebreak.envelope (endAll_keeps (A := fun p => p != .fb) _ (.refl _ (journalSecurity u))).fb_eq)
  refine ⟨by rw [hsec], by rw [hsec], by rw [hsec], by rw [hsec], by rw [State.hasEnv, henv]; rfl, fun ch => ?_, fun n => ?_⟩
  · rw [State.channel, hsec]
    exact congrArg CanChannel.key (at_map_key (fun c : CanChannel => { c with key := none }) {} s.sec.channels ch)
  · rw [session_congr hk.dict_eq]
    exact hfree n

theorem length_le (n v : Nat) : (le n v).length = n := by
  induction n generalizing v with
  | zero => rfl
  | succ n ih => rw [le, List.length_cons, ih]

theorem length_slice (b : Bytes) (off n : Nat) : (slice b off n).length = n := by
  simp only [slice, padTo, zeros, List.length_append, List.length_replicate, List.length_take]
  omega

/-- A slice begins behind what it skips. -/
theorem slice_skip {x : Bytes} {m : Nat} (hx : x.length = m) (q : Bytes) (off n : Nat) : slice (x ++ q) (m + off) n = slice q off n := by
  subst hx
  rw [slice, slice, List.drop_append, List.drop_eq_nil_of_le (by omega), List.nil_append, Nat.add_sub_cancel_left]

/-- The first field of some bytes. -/
theorem slice_first {x : Bytes} {n : Nat} (hx : x.length = n) (q : Bytes) : slice (x ++ q) 0 n = x := by
  subst hx
  simp [slice, padTo, zeros]

/-- The report that an attestation produces: the string ZSAT, the cycle and the nonce in their places, signed (R432). -/
theorem effAttestation_report (nonce : Bytes) (s : State) : ∃ b, (effAttestation (.bytes nonce) s).sec.attestation = b ++ signBytes b ∧
    slice b 0 4 = strBytes 4 "ZSAT" ∧ slice b 16 4 = le 4 s.C ∧ slice b 32 16 = slice nonce 0 16 := by
  refine ⟨_, rfl, ?_⟩
  simp only [List.append_assoc]
  refine ⟨slice_first rfl _, ?_, ?_⟩
  · rw [slice_skip (m := 4) (off := 12) rfl, slice_skip (m := 1) (off := 11) rfl, slice_skip (m := 1) (off := 10) rfl,
      slice_skip (m := 2) (off := 8) rfl, slice_skip (m := 8) (off := 0) (length_le ..), slice_first (length_le ..)]
  · rw [slice_skip (m := 4) (off := 28) rfl, slice_skip (m := 1) (off := 27) rfl, slice_skip (m := 1) (off := 26) rfl,
      slice_skip (m := 2) (off := 24) rfl, slice_skip (m := 8) (off := 16) (length_le ..), slice_skip (m := 4) (off := 12) (length_le ..)]
    unfold timeBytes
    simp only [List.append_assoc]
    rw [slice_skip (m := 6) (off := 6) (length_le ..), slice_skip (m := 4) (off := 2) (length_le ..), slice_skip (m := 2) (off := 0) (length_le ..),
      slice_first (length_slice ..)]
    rfl

/-! ### The pair (R450, R451, R459, R460, R463) -/

/-- A frame that is queued stands in the queue (R440). -/
theorem mem_placeFrame (f : TetherFrame) (l : List TetherFrame) : f ∈ placeFrame f l := by
  induction l with
  | nil => exact List.mem_singleton.2 rfl
  | cons g t ih =>
    unfold placeFrame
    split
    · exact List.mem_cons_self
    · exact List.mem_cons_of_mem _ ih

/-- An accepted hand-over: the unit goes out, H is fixed, and the partner is told (R450, R451). -/
theorem effHandOver_begins (s : State) : (effHandOver s).pair.role = .outgoing ∧ (effHandOver s).pair.phase = 1 ∧
    (effHandOver s).pair.h = s.firstHalf 2500 ∧ ∃ q ∈ (effHandOver s).pair.q27, q.msg = .handOver 1 (s.firstHalf 2500) 0 := by
  unfold effHandOver
  extract_lets h _ u
  obtain ⟨n, c, hp⟩ := setRole_pair .outgoing (some 0) { s with pair := { s.pair with h := h, phase := 1, abort := 0, digest := none, warm := false } }
  have hu : u.pair = _ := hp
  refine ⟨?_, ?_, ?_, _, mem_placeFrame _ _, rfl⟩
  · show u.pair.role = _
    rw [hu]
  · show u.pair.phase = _
    rw [hu]
  · show u.pair.h = _
    rw [hu]

/-- A grant makes the unit ACTIVE that was, the other takes over (R437, R459). -/
theorem effGrant_decides (s : State) : (effGrant s).pair.claim = 2 ∧
    (effGrant s).pair.role = if s.pair.wasActive then .active else .takingOver := by
  unfold effGrant
  extract_lets _ u
  split
  case isTrue => exact ⟨claim_claimWon .., role_claimWon ..⟩
  case isFalse =>
    obtain ⟨n, c, ph, ab, h, dig, w, hp⟩ := beginTakeover_pair 2 u
    rw [hp]
    exact ⟨rfl, rfl⟩

/-- A denial: a previously active unit keeps its high sides for 100 cycles and steps down; the other stays STANDBY (R437, R460). -/
theorem effDenied_decides (s : State) : (effDenied s).pair.claim = 3 ∧
    (s.pair.wasActive = true → (effDenied s).pair.holdUntil = some (s.ahead 100) ∧ (effDenied s).pair.stepDown = some (some 3)) ∧
    (s.pair.wasActive = false → (effDenied s).pair.role = .standby ∧ (effDenied s).raised 0x060 0xA1 0 0 = true) := by
  unfold effDenied
  extract_lets _ u
  split
  case isTrue h => exact ⟨rfl, fun _ => ⟨rfl, rfl⟩, fun h' => absurd h (ne_true_of_eq_false h')⟩
  case isFalse h =>
    obtain ⟨hrole, hclaim, hraised⟩ := claimLost_pair (some 3) u
    exact ⟨hclaim, fun h' => absurd h' h, fun _ => ⟨hrole, hraised⟩⟩

/-- The adoption frame, sent or not, leaves the code and the join result as they are (R463). -/
theorem sendAdoption_pair (s : State) : (sendAdoption s).pair.code = s.pair.code ∧ (sendAdoption s).pair.join = s.pair.join := by
  unfold sendAdoption
  split
  · split <;> exact ⟨rfl, rfl⟩
  · exact ⟨rfl, rfl⟩

/-! ### Provoked faults (R486, R487) -/

theorem injectCfg_congr {s t : State} (h : t.dict = s.dict) (l sub : Nat) : t.injectCfg l sub = s.injectCfg l sub := cfg_congr h ..

/-- An injection that is armed (R486): it waits for its start cycle; those of other links stand. -/
theorem armInjection_arms (l : Nat) (s : State) : ((armInjection l s).injector l).state = 1 ∧ ((armInjection l s).injector l).affected = 0 ∧
    ((armInjection l s).injector l).start = (if s.injectCfg l 10 = 0 then s.core.cycle + 1 else BitVec.ofNat 32 (s.injectCfg l 10)) ∧
    ∀ k, k ≠ l → (armInjection l s).injector k = s.injector k := by
  unfold armInjection
  extract_lets start
  have hk : ∀ t, (tellInject 1 l t).inject = t.inject := fun t => (tellInject_keeps 1 l t (.refl (fun p => p = .tally) t)).inject_eq
  simp only [injector_congr (hk _), injector_modInject]
  refine ⟨by rw [if_pos trivial], by rw [if_pos trivial], by rw [if_pos trivial], fun k hne => by rw [if_neg hne.symm]⟩

/-- An injection that ends shows how (R486). -/
theorem state_endInjection (st l : Nat) (s : State) : ((endInjection st l s).injector l).state = st := by
  unfold endInjection
  extract_lets drill u
  have hu : (u.injector l).state = st := by
    have hk := tellInject_keeps 3 l (s.modInject l fun i => { i with state := st }) (.refl (fun p => p = .tally) _)
    rw [injector_congr hk.inject_eq, injector_modInject, if_pos rfl]
  split <;> exact hu

theorem heldFrames_endInjection (st l : Nat) (s : State) : ((endInjection st l s).injector l).heldFrames = (s.injector l).heldFrames := by
  unfold endInjection
  extract_lets drill u
  have hu : (u.injector l).heldFrames = (s.injector l).heldFrames := by
    have hk := tellInject_keeps 3 l (s.modInject l fun i => { i with state := st }) (.refl (fun p => p = .tally) _)
    rw [injector_congr hk.inject_eq, injector_modInject, if_pos rfl]
  split <;> exact hu

/-- Without frames held back nothing is delivered. -/
theorem releaseHeld_nothing {l : Nat} {s : State} (h : (s.injector l).heldFrames = []) :
    releaseHeld l s = s.modInject l fun i => { i with heldFrames := [] } := by
  unfold releaseHeld allHeld
  rw [h]
  simp

/-- An injection that ends with no frame held back. -/
theorem state_endInjection_released {l : Nat} {s : State} (st : Nat) (h : (s.injector l).heldFrames = []) :
    ((releaseHeld l (endInjection st l s)).injector l).state = st := by
  rw [releaseHeld_nothing (by rw [heldFrames_endInjection, h]), injector_modInject, if_pos rfl]
  exact state_endInjection st l s

/-! ### The Tally (R490) -/

theorem tally_wrote (area n : Nat) (s : State) : (wrote area n s).tally = s.tally :=
  (wrote_keeps area n s (.refl (fun p => p != .tally) s)).tally_eq

/-- The wear of storage reports only its own fault (R165). -/
theorem raised_wrote (area n : Nat) (s : State) {source : Nat} (kind cls val : Nat) (h : source ≠ 0x078) :
    (wrote area n s).raised source kind cls val = s.raised source kind cls val := by
  unfold wrote
  extract_lets fill b _ u v
  have hv : v.ranger = s.ranger := by
    simp only [v]
    split
    · rfl
    · exact (keeps_foldl (A := fun p => p != .ranger) (fun x _ hx => beginUnit_keeps area x hx) (.refl _ u)).ranger_eq
  split
  · rw [raised_raiseOnce_ne _ _ _ _ _ _ (.inl h.symm), raised_congr hv]
  · exact raised_congr hv ..

/-- A record written while the keep area has room for a first unit (R490). -/
theorem writeRecord_first {s : State} (hkeep : s.tally.keep = []) (hfull : s.tally.keepFull = false) (r : TallyRec) : writeRecord s r =
    { wrote 2 r.size s with tally := { s.tally with
        seq := (s.tally.seq + 1) % 2 ^ 32,
        keep := [{ used := TallyRec.size { r with seq := s.tally.seq }, recs := [{ r with seq := s.tally.seq }] }] } } := by
  unfold writeRecord
  dsimp only
  rw [tally_wrote, hfull, hkeep]
  rfl

/-- After a clear the keep area holds the record of the clear alone (R490). -/
theorem clearKeep_clears (sess : Nat) (s : State) : ∀ t, t = clearKeep sess s →
    (∃ x, t.tally.keep = [{ used := x.size, recs := [x] }] ∧ x.kind = 0x0070 ∧ x.seq = s.tally.seq) ∧ t.tally.keepFull = false ∧
    t.tally.circ = s.tally.circ ∧ t.raised 0x089 0xB5 0 0 = false := by
  rintro t rfl
  unfold clearKeep
  extract_lets _ u
  have hu : u.tally = { s.tally with keep := [], keepFull := false } := (State.clearOnce_keeps _ _ _ _ _ (.refl (fun p => p = .ranger) _)).tally_eq
  rw [writeRecord_first (by rw [hu]) (by rw [hu]), hu]
  refine ⟨⟨_, rfl, rfl, rfl⟩, rfl, rfl, ?_⟩
  have hcleared : u.raised 0x089 0xB5 0 0 = false := raised_clearOnce ..
  exact (raised_congr (s := wrote 2 _ u) (by dsimp only) ..).trans ((raised_wrote _ _ _ _ _ _ (by decide)).trans hcleared)

/-! ### The rule table (R519) -/

/-- The rule table's object is kept as written, and nothing else acts on it; a table longer than a log record is a long value. -/
theorem ruleTable_row : (persists 0x9040 1 = true ∧ dispatchObject 0x9040 1 = false ∧ ownAnswer 0x9040 1 = false ∧ storesItself 0x9040 1 = false) ∧
    ∃ d, objDesc 0x9040 1 = some d ∧ d.staged = false ∧ d.stringScope = false ∧ dictObject 0x9040 1 d = true ∧
      ∀ table : Bytes, longValue d (.bytes table) = decide (464 < table.length) :=
  ⟨by decide +kernel, ⟨0x9040, 0x9040, 1, 1, 16, 4, 4, 0, 1, 0, 0, 0, "", "Rule table"⟩, by decide +kernel, rfl, rfl, by decide +kernel, fun _ => rfl⟩

theorem ruleTable_waits (table : Bytes) : waitsForRecord 0x9040 1 (.bytes table) = decide (464 < table.length) := by
  obtain ⟨⟨hp, -⟩, d, hd, -, -, -, hlong⟩ := ruleTable_row
  simp only [waitsForRecord, hp, hd, hlong, Bool.true_and]

/-- The answer to one value that persists goes with its record (R386). -/
theorem finishWrite_persists {dest req idx sub : Nat} {cyc : Cycle} {v : ObjVal} (hp : persists idx sub = true) (hsub : sub < 256) (s : State) :
    ∃ x, finishWrite dest req cyc 0 [(okey idx sub, v)] s = recordValue (okey idx sub) v cyc x s := by
  have hkey : okey idx sub / 256 = idx ∧ okey idx sub % 256 = sub := by unfold okey; omega
  unfold finishWrite
  simp only [if_true, List.filter_cons, hkey, hp, List.filter_nil, List.getLast?_singleton, List.dropLast_singleton, List.foldl_nil]
  exact ⟨_, rfl⟩

theorem accepting_ruleTable (a r : Nat) (table : Bytes) (s : State) : ∃ cyc x, s.accepting ⟨a, r, 0x9040, 1, .bytes table⟩ =
    recordValue (okey 0x9040 1) (.bytes table) cyc x (enforce a a r 0x9040 1 (.bytes table) (s.serving a r)) := by
  obtain ⟨⟨hp, hdis, hown, -⟩, d, hd, hst, hsc, -⟩ := ruleTable_row
  obtain ⟨x, hx⟩ := finishWrite_persists (dest := a) (req := r) (cyc := (enforce a a r 0x9040 1 (.bytes table) (s.serving a r)).core.cycle)
    (v := .bytes table) hp (by decide) (enforce a a r 0x9040 1 (.bytes table) (s.serving a r))
  refine ⟨_, x, Eq.trans ?_ hx⟩
  simp [State.accepting, acceptWrite, hd, hst, hsc, hdis, hown, State.resultOf]

/-- The record of a value too long for a log record is queued late, with the value (R386). -/
theorem recordValue_long {idx sub : Nat} {d : ObjDesc} {v : ObjVal} (hsub : sub < 256) (hd : objDesc idx sub = some d) (hlong : longValue d v = true)
    (cyc : Cycle) (x : Option Response) (s : State) :
    ∃ q ∈ (recordValue (okey idx sub) v cyc x s).storage.queue, q.key = okey idx sub ∧ q.value = some v ∧ q.late = true := by
  have hkey : okey idx sub / 256 = idx ∧ okey idx sub % 256 = sub := by unfold okey; omega
  obtain ⟨hidx, hrest⟩ := hkey
  unfold recordValue
  simp only [hidx, hrest, hd, hlong, if_true, queueDictionary, List.getLast?_append, List.getLast?_singleton, Option.some_or, Option.map_some, Option.toList_some]
  exact ⟨_, List.mem_append_right _ (List.mem_singleton.2 rfl), rfl, rfl, rfl⟩

theorem val_recordValue (key : Nat) (v : ObjVal) (cyc : Cycle) (x : Option Response) (s : State) (idx sub : Nat) :
    (recordValue key v cyc x s).val idx sub = s.val idx sub :=
  val_congr (recordValue_keeps key v cyc x s (.refl (fun p => p != .dict) s)).dict_eq ..

/-- A short rule table is in force at once (R519). -/
theorem takes_ruleTable_short {a r : Nat} {table : Bytes} (h : table.length ≤ 464) (s : State) :
    Takes (.ruleTableWrite a r table) s fun t => t.val 0x9040 1 = .bytes table := by
  obtain ⟨⟨-, hdis, -, hself⟩, d, hd, -, -, hdict, -⟩ := ruleTable_row
  obtain ⟨cyc, x, hacc⟩ := accepting_ruleTable a r table s
  have henf : enforce a a r 0x9040 1 (.bytes table) (s.serving a r) = (s.serving a r).setVal (okey 0x9040 1) (.bytes table) := by
    simp [enforce, ruleTable_waits, Nat.not_lt.2 h, objectEffect, hd, hdis, hself, hdict, systemEffect]
  refine takes_of_accepting rfl ?_
  rw [hacc, henf, val_recordValue]
  exact val_setVal ..

/-- A long one waits for its record in storage (R386, R519). -/
theorem takes_ruleTable_long {a r : Nat} {table : Bytes} (h : 464 < table.length) (s : State) :
    Takes (.ruleTableWrite a r table) s fun t => t.val 0x9040 1 = s.val 0x9040 1 ∧
      ∃ x ∈ t.storage.queue, x.key = okey 0x9040 1 ∧ x.value = some (.bytes table) ∧ x.late = true := by
  obtain ⟨-, d, hd, -, -, -, hlong⟩ := ruleTable_row
  obtain ⟨cyc, x, hacc⟩ := accepting_ruleTable a r table s
  have henf : enforce a a r 0x9040 1 (.bytes table) (s.serving a r) = s.serving a r := by simp [enforce, ruleTable_waits, h]
  refine takes_of_accepting rfl ?_
  rw [hacc, henf, val_recordValue]
  exact ⟨rfl, recordValue_long (by decide) hd ((hlong table).trans (decide_eq_true h)) cyc x _⟩

/-! ### Updates (R540 to R549) -/

theorem effDigest_accepts {sess : Nat} {v : ObjVal} {s : State} (h : (packageFault (unle v.toBytes) s).1 = 0) :
    (effDigest sess v s).update.staging = 2 ∧ (effDigest sess v s).update.result = 0 := by
  unfold effDigest
  generalize packageFault (unle v.toBytes) s = p at h ⊢
  obtain ⟨code, l⟩ := p
  subst h
  dsimp only
  have hk : ∀ b (u : State), (healArea b (u.tellEvent 0x0090 1 sess (slice v.toBytes 0 32))).update = u.update := fun b u =>
    (healArea_keeps b _ (State.tellEvent_keeps _ _ _ _ _ (.refl (fun p => p != .update) u))).update_eq
  rw [if_neg (by decide), hk]
  exact ⟨rfl, rfl⟩

theorem effDigest_refuses {sess : Nat} {v : ObjVal} {s : State} (h : (packageFault (unle v.toBytes) s).1 ≠ 0) :
    (effDigest sess v s).update.staging = 3 ∧ (effDigest sess v s).update.result = BitVec.ofNat 32 (packageFault (unle v.toBytes) s).1 := by
  unfold effDigest
  generalize packageFault (unle v.toBytes) s = p at h ⊢
  obtain ⟨code, l⟩ := p
  dsimp only at h ⊢
  rw [if_pos (by simpa using h)]
  exact ⟨rfl, rfl⟩

theorem update_wrote (area n : Nat) (s : State) : (wrote area n s).update = s.update :=
  (wrote_keeps area n s (.refl (fun p => p != .update) s)).update_eq

theorem update_replicate (what : RepKind) (c : Cycle) (s : State) : (replicate what c s).update = s.update :=
  (replicate_keeps what c s (.refl (fun p => p != .update) s)).update_eq

theorem update_scheduleGeneration (g : Nat) (s : State) :
    (scheduleGeneration g s).update = { s.update with ha := some (s.firstHalf 2000, g) } := update_replicate ..

/-- Confirmation frees the kept set and leaves G (R548). -/
theorem confirmUpdate_frees (s : State) : (confirmUpdate s).update.kept = [] ∧ (confirmUpdate s).update.confirmFrom = none ∧
    (confirmUpdate s).update.next = 0 ∧ (confirmUpdate s).update.step = 13 ∧ (confirmUpdate s).update.g = s.update.g := by
  unfold confirmUpdate
  extract_lets old b u
  have hk : Keeps (fun p => p != .update) u ((journalUpdate (u.tellEvent 0x0090 6 0 u.versions)).clearOnce 0x079 0xE7 0 0) :=
    State.clearOnce_keeps _ _ _ _ _ (journalUpdate_keeps _ (State.tellEvent_keeps _ _ _ _ _ (.refl _ u)))
  rw [hk.update_eq]
  exact ⟨rfl, rfl, rfl, rfl, rfl⟩

/-- A rollback lowers a raised G first, then runs the steps in reverse (R549). -/
theorem beginRollback_reverses (s : State) : (beginRollback false s).update.reverse = true ∧ (beginRollback false s).update.next = 11 ∧
    (beginRollback false s).update.ha = if s.update.oldG < s.update.g then some (s.firstHalf 2000, s.update.oldG) else none := by
  unfold beginRollback
  extract_lets _ u
  by_cases h : s.update.oldG < s.update.g
  · rw [if_pos h, if_pos h, update_scheduleGeneration]
    exact ⟨rfl, rfl, rfl⟩
  · rw [if_neg h, if_neg h]
    exact ⟨rfl, rfl, rfl⟩

/-- What a write of 9830.02 does to an update that runs, and to none (R542). -/
theorem effUpdate_commands (s : State) :
    (s.updateRuns = false → effUpdate 1 s = startUpdate s ∧ effUpdate 0 s = s) ∧
    (s.updateRuns = true → (effUpdate 1 s).update = { s.update with paused := false } ∧ (effUpdate 0 s).update.paused = true ∧
      (effUpdate 0 s).update.next = s.update.next) := by
  refine ⟨fun h => ⟨if_neg (ne_true_of_eq_false h), if_neg (ne_true_of_eq_false h)⟩, fun h => ?_⟩
  have h1 : effUpdate 1 s = _ := if_pos h
  have h0 : effUpdate 0 s = _ := if_pos h
  rw [h1, h0]
  exact ⟨rfl, rfl, rfl⟩

/-- A register that is re-armed reads 0, the other stands (R478). -/
theorem effRearm_ranger (s : State) : (effRearm 1 s).ranger = { s.ranger with firstFault := {} } ∧ (effRearm 2 s).ranger = { s.ranger with firstTrip := {} } := by
  have h1 : Nat.testBit 1 1 = false := by decide
  have h2 : Nat.testBit 2 0 = false := by decide
  have h3 : Nat.testBit 2 1 = true := by decide
  simp [effRearm, h1, h2, h3]

/-! ### The statement -/

/-- An injection's command acts on the link that its object names (R486). -/
theorem unitEffect_injector {a r l : Nat} {v : ObjVal} (h : l ≤ 6) (s : State) : unitEffect ⟨a, r, 0xA010 + l, 1, v⟩ s =
    if v.toInt.toNat = 1 then armInjection l s else stopInjection l s := by
  have h1 : ¬ 0xA010 + l < 0x8000 := by omega
  have h2 : (decide (0xA010 ≤ 0xA010 + l) && decide (0xA010 + l ≤ 0xA016)) = true := by simp; omega
  simp only [unitEffect, systemEffect, if_neg h1, h2, if_true, Nat.add_sub_cancel_left]

/-- A key change stores the key and raises the envelope sequence; the envelope in force stands (R430). -/
theorem effKeyChange_stores (doc : Bytes) (s : State) : (effKeyChange doc s).sec.verifyKey = some (slice doc 11 64) ∧
    (effKeyChange doc s).fb.envSeq = fieldN doc 7 4 ∧ (effKeyChange doc s).fb.envelope = s.fb.envelope := by
  have hk := replicate_keeps (.write (okey 0x7850 3) (.bytes doc)) s.effective { s with sec := { s.sec with verifyKey := some (slice doc 11 64) }, fb := { s.fb with envSeq := fieldN doc 7 4 } } (.refl (fun p => p = .pair) _)
  unfold effKeyChange
  dsimp only
  rw [hk.sec_eq, hk.fb_eq]
  exact ⟨rfl, rfl, rfl⟩

/-- Settles O49: each write acts when it is accepted, by what its object's effect leaves. -/
theorem writesInForceAtOnceHigh : Obligations.WritesInForceAtOnceHigh := by
  intro s a r
  refine ⟨takes_atOnce rfl (by decide) fun x => ?deAdopt,
    fun nonce => takes_atOnce rfl (by decide) fun x => by rw [(answer_others ..).sec_eq]; rfl,
    fun nonce => takes_atOnce rfl (by decide) fun x => ?attestation,
    fun code => takes_atOnce rfl (by decide) fun x => ?partnerCode,
    takes_atOnce rfl (by decide) fun x => ?handOver,
    takes_atOnce rfl (by decide) fun x => ?cancel,
    fun round => takes_atOnce rfl (by decide) fun x => ?grant,
    fun round => takes_atOnce rfl (by decide) fun x => ?denial,
    takes_atOnce rfl (by decide) fun x => ?rearmFault,
    takes_atOnce rfl (by decide) fun x => ?rearmTrip,
    fun l hl => takes_atOnce rfl (injectorKey_atOnce hl) fun x => ?arm,
    fun l hl hst hheld => takes_atOnce rfl (injectorKey_atOnce hl) fun x => ?stop,
    takes_atOnce rfl (by decide) fun x => ?keep,
    takes_atOnce rfl (by decide) fun x => by rw [(answer_others ..).power_eq]; rfl,
    fun doc => takes_atOnce rfl (by decide) fun x => ?keyChange,
    fun table h => takes_ruleTable_short h s,
    fun table h => takes_ruleTable_long h s,
    fun n => takes_atOnce rfl (by decide) fun x => ?length,
    fun b => takes_atOnce rfl (by decide) fun x => ?chunk,
    fun b h => takes_atOnce rfl (by decide) fun x => ?accepts,
    fun b h => takes_atOnce rfl (by decide) fun x => ?refuses,
    fun h => takes_atOnce rfl (by decide) fun x => ?start,
    fun h => takes_atOnce rfl (by decide) fun x => ?resume,
    fun h => takes_atOnce rfl (by decide) fun x => ?stopUpdate,
    fun h => takes_atOnce rfl (by decide) fun x => ?stopNothing,
    takes_atOnce rfl (by decide) fun x => ?advance,
    takes_atOnce rfl (by decide) fun x => ?confirm,
    takes_atOnce rfl (by decide) fun x => ?rollBack⟩
  case deAdopt =>
    obtain ⟨hadopted, hanchors, hkey, hid, henv, hch, hfree⟩ := effDeAdopt_erases (s.serving a r) _ rfl
    have hk := answer_others (effDeAdopt (s.serving a r)) x
    refine ⟨?_, ?_, ?_, ?_, ?_, fun ch => ?_, fun n => ?_⟩
    · exact (congrArg Security.adopted hk.sec_eq).trans hadopted
    · exact (congrArg Security.anchors hk.sec_eq).trans hanchors
    · exact (congrArg Security.verifyKey hk.sec_eq).trans hkey
    · exact (congrArg Security.stringId hk.sec_eq).trans hid
    · exact (congrArg (fun b : Firebreak => b.envelope.isSome) hk.fb_eq).trans henv
    · exact (congrArg (fun c : Security => (Tab.at c.channels ch {}).key) hk.sec_eq).trans (hch ch)
    · exact (congrArg Session.state (session_answer ..)).trans (hfree n)
  case attestation =>
    rw [(answer_others ..).sec_eq]
    exact ⟨rfl, effAttestation_report nonce (s.serving a r)⟩
  case partnerCode =>
    rw [(answer_others ..).pair_eq]
    exact sendAdoption_pair _
  case handOver =>
    rw [(answer_others ..).pair_eq]
    exact effHandOver_begins (s.serving a r)
  case cancel =>
    have h := abortHandOver_aborts 6 true (s.serving a r)
    rw [(answer_others ..).pair_eq]
    exact ⟨h.phase, h.abort, h.sent.grow (.of_eq (congrArg Ranger.outbox (answer_others ..).ranger_eq)), h.active⟩
  case grant =>
    rw [(answer_others ..).pair_eq]
    exact effGrant_decides (s.serving a r)
  case denial =>
    obtain ⟨hclaim, hactive, hother⟩ := effDenied_decides (s.serving a r)
    rw [(answer_others ..).pair_eq, raised_congr (answer_others ..).ranger_eq]
    exact ⟨hclaim, hactive, hother⟩
  case rearmFault =>
    obtain ⟨hfault, htrip⟩ := effRearm_ranger (s.serving a r)
    have he : unitEffect ⟨a, r, 0x8801, 4, .num 1⟩ (s.serving a r) = effRearm 1 (s.serving a r) := by simp [unitEffect, systemEffect, ObjVal.toInt]
    rw [(answer_others ..).ranger_eq, he, hfault]
    exact ⟨rfl, rfl⟩
  case rearmTrip =>
    obtain ⟨hfault, htrip⟩ := effRearm_ranger (s.serving a r)
    have he : unitEffect ⟨a, r, 0x8801, 4, .num 2⟩ (s.serving a r) = effRearm 2 (s.serving a r) := by simp [unitEffect, systemEffect, ObjVal.toInt]
    rw [(answer_others ..).ranger_eq, he, htrip]
    exact ⟨rfl, rfl⟩
  case arm =>
    rw [unitEffect_injector hl, if_pos (by decide)]
    simp only [injector_congr (answer_others ..).inject_eq]
    exact armInjection_arms l (s.serving a r)
  case stop =>
    rw [unitEffect_injector hl, if_neg (by decide), injector_congr (answer_others ..).inject_eq]
    have hst : ((s.injector l).state = 1 || (s.injector l).state = 2) = true := by simpa using hst
    rw [stopInjection]
    refine (congrArg (fun t : State => (t.injector l).state) (if_pos hst)).trans ?_
    exact state_endInjection_released 4 hheld
  case keep =>
    rw [(answer_others ..).tally_eq, raised_congr (answer_others ..).ranger_eq]
    exact clearKeep_clears a (s.serving a r) _ rfl
  case keyChange =>
    rw [(answer_others ..).sec_eq, (answer_others ..).fb_eq]
    exact effKeyChange_stores doc (s.serving a r)
  case length =>
    rw [(answer_others ..).update_eq, (answer_others ..).storage_eq]
    exact ⟨rfl, rfl, rfl, rfl, by rw [Tab.flag]; exact Tab.at_put_same ..⟩
  case chunk =>
    rw [(answer_others ..).update_eq]
    exact ⟨congrArg Update.data (update_wrote ..), congrArg Update.received (update_wrote ..)⟩
  case accepts =>
    rw [(answer_others ..).update_eq]
    exact effDigest_accepts (v := .bytes b) (s := s.serving a r) h
  case refuses =>
    rw [(answer_others ..).update_eq]
    exact effDigest_refuses (v := .bytes b) (s := s.serving a r) h
  case start =>
    obtain ⟨hstart, -⟩ := (effUpdate_commands (s.serving a r)).1 h
    have he : unitEffect ⟨a, r, 0x9830, 2, .num 1⟩ (s.serving a r) = effUpdate 1 (s.serving a r) := rfl
    rw [(answer_others ..).update_eq, he, hstart]
    exact ⟨rfl, rfl, rfl, rfl⟩
  case resume =>
    obtain ⟨hresume, -⟩ := (effUpdate_commands (s.serving a r)).2 h
    rw [(answer_others ..).update_eq]
    exact hresume
  case stopUpdate =>
    obtain ⟨-, hstop⟩ := (effUpdate_commands (s.serving a r)).2 h
    rw [(answer_others ..).update_eq]
    exact hstop
  case stopNothing =>
    obtain ⟨-, hstop⟩ := (effUpdate_commands (s.serving a r)).1 h
    have he : unitEffect ⟨a, r, 0x9830, 2, .num 0⟩ (s.serving a r) = effUpdate 0 (s.serving a r) := rfl
    rw [(answer_others ..).update_eq, he, hstop]
    rfl
  case advance =>
    have he : unitEffect ⟨a, r, 0x9830, 2, .num 2⟩ (s.serving a r) = scheduleGeneration (s.update.g + 1) (s.serving a r) := rfl
    rw [(answer_others ..).update_eq, he, update_scheduleGeneration]
    exact ⟨rfl, rfl⟩
  case confirm =>
    rw [(answer_others ..).update_eq]
    exact confirmUpdate_frees (s.serving a r)
  case rollBack =>
    rw [(answer_others ..).update_eq]
    exact beginRollback_reverses (s.serving a r)

end Sys2Proof.Machine
end

section
/-! SUPPORT. The events of a pair (15): frames of the partner, the rows of role changes, hand-overs, coil catches and takeovers. -/

namespace Sys2Proof.Machine

set_option Elab.async false

open Sys2Proof

/-! ### What stands of a partner while roles change (R436, R437, R443) -/

/-- What a unit knows of its partner, and what it holds for it: no change of its own role touches this. -/
def Pair.heard (p : Pair) : Pair :=
  { rxSeq := p.rxSeq, hb := p.hb, missRun := p.missRun, lost := p.lost, sense := p.sense, stoppedSince := p.stoppedSince, holdUntil := p.holdUntil }

@[simp] theorem heard_setRole (r : Role) (cause : Option Nat) (s : State) : (setRole r cause s).pair.heard = s.pair.heard := by
  obtain ⟨n, c, h⟩ := setRole_pair r cause s
  rw [h]
  rfl

theorem heard_abortHandOver (cause : Nat) (tell : Bool) (s : State) : (abortHandOver cause tell s).pair.heard = s.pair.heard := by
  unfold abortHandOver
  extract_lets u v
  have hv : v.pair.heard = s.pair.heard := by
    simp only [v, u]
    split <;> rfl
  split
  case h_1 => rw [pair_releaseHighSides, heard_setRole, hv]
  case h_2 => rw [heard_setRole, hv]
  all_goals exact hv

theorem heard_settleOverlap (cause : Nat) (mine : Bool) (s : State) : (settleOverlap cause mine s).pair.heard = s.pair.heard := by
  unfold settleOverlap
  extract_lets u
  split
  · split <;> exact heard_setRole .active (some 0) u
  · rfl

theorem heard_beginTakeover (cause : Nat) (s : State) : (beginTakeover cause s).pair.heard = s.pair.heard := by
  obtain ⟨n, c, ph, ab, h, dig, w, hp⟩ := beginTakeover_pair cause s
  rw [hp]
  rfl

theorem heard_takeOverIfGone (s : State) : (takeOverIfGone s).pair.heard = s.pair.heard := by
  unfold takeOverIfGone
  split
  case isTrue => rfl
  case isFalse =>
    split
    case h_1 | h_2 | h_3 => split <;> first | rfl | exact heard_beginTakeover ..
    all_goals rfl

theorem pair_partnerLost (s : State) : (partnerLost s).pair = s.pair := by
  unfold partnerLost
  split
  · exact pair_raisePair ..
  · rfl

theorem heard_openRound (active : Bool) (s : State) : (openRound active s).pair.heard = s.pair.heard := heard_setRole .claiming none s

theorem heard_lostRows (s : State) : (lostRows s).pair.heard = s.pair.heard := by
  unfold lostRows
  split
  case h_1 | h_2 => split <;> first | exact heard_takeOverIfGone _ | exact heard_openRound ..
  case h_3 => split <;> first | exact congrArg Pair.heard (pair_partnerLost _) | exact heard_openRound ..
  all_goals rfl

/-! ### A heartbeat (R437, R443) -/

theorem heard_heartbeatRole (h : Heartbeat) (s : State) : (heartbeatRole h s).pair.heard = s.pair.heard := by
  unfold heartbeatRole
  split
  case h_1 =>
    split
    · exact heard_setRole ..
    · split
      · split
        · exact heard_setRole ..
        · rw [pair_originateFresh, heard_setRole]
      · rfl
  case h_2 => exact heard_setRole ..
  all_goals rfl

theorem pair_followState (before : Option Heartbeat) (h : Heartbeat) (s : State) : (followState before h s).pair = s.pair := by
  unfold followState
  extract_lets changed mayEnter
  split
  · exact (enterState_keeps _ _ _ (.refl (fun p => p != .pair) s)).pair_eq
  · rfl

theorem pair_compareEnvelope (h : Heartbeat) (s : State) : (compareEnvelope h s).pair = s.pair :=
  (compareEnvelope_keeps h s (.refl (fun p => p != .pair) s)).pair_eq

theorem heard_compareDigest (h : Heartbeat) (s : State) : (compareDigest h s).pair.heard = s.pair.heard := by
  unfold compareDigest
  split
  · exact heard_abortHandOver ..
  · rfl

theorem heard_compareFrames (h : Heartbeat) (s : State) : (compareFrames h s).pair.heard = s.pair.heard := by
  unfold compareFrames
  split
  · exact heard_settleOverlap ..
  · rfl

/-- The configuration sent to a partner: only Q27 and readiness move (R463). -/
theorem sendConfiguration_pair (s : State) : ∃ q r, (sendConfiguration s).pair = { s.pair with q27 := q, ready := r } := by
  unfold sendConfiguration
  extract_lets u
  split <;> exact ⟨_, _, rfl⟩

theorem heard_sendConfiguration (s : State) : (sendConfiguration s).pair.heard = s.pair.heard := by
  obtain ⟨q, r, h⟩ := sendConfiguration_pair s
  rw [h]
  rfl

/-- A heartbeat that returns: the partner is no longer lost. -/
theorem heard_heartbeatBack (s : State) : (heartbeatBack s).pair.heard = { s.pair.heard with lost := false } := by
  unfold heartbeatBack
  split
  case isFalse h =>
    have h : s.pair.lost = false := eq_false_of_ne_true h
    show s.pair.heard = { s.pair.heard with lost := false }
    rw [← h]
    rfl
  case isTrue =>
    extract_lets _ u
    have hu : u.pair.heard = { s.pair.heard with lost := false } := by
      simp only [u, State.clearOnce_other]
      rfl
    split
    · exact hu
    · split
      · split
        · exact (heard_sendConfiguration u).trans hu
        · exact hu
      · rw [heard_sendConfiguration]
        split <;> exact hu

theorem heard_fields {p q : Pair} {b : Option Heartbeat} {m : Nat} {l : Bool} (h : p.heard = { q.heard with hb := b, missRun := m, lost := l }) :
    p.rxSeq = q.rxSeq ∧ p.hb = b ∧ p.missRun = m ∧ p.lost = l := by
  show p.heard.rxSeq = q.heard.rxSeq ∧ p.heard.hb = b ∧ p.heard.missRun = m ∧ p.heard.lost = l
  rw [h]
  exact ⟨rfl, rfl, rfl, rfl⟩

theorem heard_countCatch (h : Heartbeat) (s : State) : (countCatch h s).pair.heard = s.pair.heard := rfl

/-- What an accepted heartbeat leaves of the partner (R443). -/
theorem heard_takeHeartbeat (h : Heartbeat) (s : State) :
    (takeHeartbeat h s).pair.heard = { s.pair.heard with hb := some h, missRun := 0, lost := false } := by
  unfold takeHeartbeat
  extract_lets before _ u m _ v w x
  have hu : u.pair.heard = { s.pair.heard with missRun := 0, lost := false } := heard_heartbeatBack _
  have hv : v.pair.heard = { s.pair.heard with hb := some h, missRun := 0, lost := false } :=
    congrArg (fun p : Pair => { p with hb := some h }) hu
  have hw : w.pair.heard = v.pair.heard := by
    simp only [w, State.clearOnce_other]
    exact heard_heartbeatRole h v
  rw [heard_countCatch, heard_compareFrames, heard_compareDigest, pair_compareEnvelope, pair_followState, hw, hv]

/-! ### Frames of the Tether (R442) -/

/-- The state in which a frame that is heard acts: its sequence is the last one accepted. -/
def State.heardAt (s : State) (seq : Nat) (x : Tab Inject) : State := { s with inject := x, pair := { s.pair with rxSeq := seq } }

theorem dueFrames_none {s : State} {link : Nat} (h : (s.injector link).heldFrames = []) :
    dueFrames link s = ([], s.modInject link fun i => { i with heldFrames := [] }) := by simp [dueFrames, h]

theorem receiveTether_hears {s : State} {seq : Nat} (h : s.hears seq) (f : TetherRx) : ∃ x, receiveTether seq true f s = takeTether f (s.heardAt seq x) := by
  obtain ⟨-, hkeys, htether, hseq, hidle, hheld⟩ := h
  refine ⟨(s.modInject 6 fun i => { i with heldFrames := [] }).inject, ?_⟩
  unfold receiveTether
  rw [injectFrame_idle hidle]
  dsimp only
  rw [dueFrames_none hheld]
  dsimp only [List.foldl_nil]
  unfold deliverTether
  have hkeys : s.pair.keys ≠ none := Option.isSome_iff_ne_none.1 hkeys
  have hseq : ¬ seq ≤ s.pair.rxSeq := Nat.not_le.2 hseq
  rw [if_neg (by simp [State.modInject, hkeys, htether]), if_neg (by simp [State.modInject, hseq])]
  rfl

/-- A frame that is heard does what its type says. -/
theorem gives_frame {i : Instr} {f : TetherRx} {s : State} {seq : Nat} {Q : State → Prop}
    (hi : exec i s = if s.cycling then .next (receiveTether seq true f s) else .next s) (h : s.hears seq)
    (hq : ∀ x, Q (takeTether f (s.heardAt seq x))) : Gives i s Q := by
  obtain ⟨x, hx⟩ := receiveTether_hears h f
  obtain ⟨hcycling, -⟩ := h
  exact ⟨_, hi.trans ((if_pos hcycling).trans (congrArg Host.Outcome.next hx)), hq x⟩

/-! ### Replicated inputs (R444) -/

theorem countInput_next {n : Nat} {s : State} (h : n = (s.pair.inSeq + 1) % 65536) :
    ∃ g, countInput n s = { s with pair := { s.pair with inSeq := n, inGood := g } } := by
  unfold countInput
  dsimp only
  rw [if_neg (by simp [h])]
  exact ⟨_, rfl⟩

/-- The sequences of frames and of inputs stand. -/
def SameSeqs (s t : State) : Prop := t.pair.rxSeq = s.pair.rxSeq ∧ t.pair.inSeq = s.pair.inSeq

theorem SameSeqs.of_pair {s t : State} (h : t.pair = s.pair) : SameSeqs s t := by
  rw [SameSeqs, h]
  exact ⟨rfl, rfl⟩

/-- A standby answers without an input sequence of its own (R444). -/
theorem tetherInput_standby {s : State} (h : s.countsStandby = true) (what : RepKind) (c : Cycle) : SameSeqs s (tetherInput what c s) := by
  have hactive : s.countsActive = false := by simpa [State.countsStandby] using h
  unfold tetherInput
  split
  · rw [hactive]
    exact ⟨rfl, rfl⟩
  · exact ⟨rfl, rfl⟩

theorem partnerEnvelope_standby {s : State} (h : s.countsStandby = true) (doc : Bytes) : SameSeqs s (partnerEnvelope doc s) := by
  unfold partnerEnvelope
  dsimp only
  split
  · unfold acceptEnvelope
    rw [Bool.not_true, Bool.and_false]
    exact ⟨rfl, rfl⟩
  · exact tetherInput_standby (s := installResult _ s) h ..

theorem scheduleEnvelopes_standby {s : State} (h : s.countsStandby = true) : SameSeqs s (scheduleEnvelopes s) := by
  unfold scheduleEnvelopes
  split
  · exact ⟨rfl, rfl⟩
  · split
    · exact ⟨rfl, rfl⟩
    · extract_lets at_ _ u
      split
      · exact tetherInput_standby (s := u) h ..
      · exact ⟨rfl, rfl⟩

theorem envelopeAnswered_standby {s : State} (h : s.countsStandby = true) (ok : Bool) : SameSeqs s (envelopeAnswered ok s) := by
  unfold envelopeAnswered
  split
  · exact ⟨rfl, rfl⟩
  · split
    · exact scheduleEnvelopes_standby (s := { s with fb := { s.fb with envPending := _ } }) h
    · exact .of_pair (refuseEnvelope_keeps _ _ _ (.refl (fun p => p != .pair) s)).pair_eq

/-- An input in its turn counts, and what it does on arrival leaves the sequences. -/
theorem takeInput_next {i : RepInput} {s : State} (hstandby : s.countsStandby = true) (hseq : i.seq = (s.pair.inSeq + 1) % 65536) :
    ∀ t, t = takeInput i s → t.pair.rxSeq = s.pair.rxSeq ∧ t.pair.inSeq = i.seq ∧
      (∀ n, i.what = .request n → t.pair.inputs = s.pair.inputs ++ [i] ∧ t.pair.inputLog = s.pair.inputLog ++ [i]) ∧
      (∀ key v, i.what = .write key v → t.pair.inputs = s.pair.inputs ++ [i] ∧ t.pair.inputLog = s.pair.inputLog ++ [i]) ∧
      (∀ g, i.what = .generation g → t.pair.inputs = s.pair.inputs ∧ t.update.ha = some (i.effective, g)) := by
  rintro t rfl
  obtain ⟨g, hcount⟩ := countInput_next hseq
  have hstandby' : (countInput i.seq s).countsStandby = true := by
    rw [hcount]
    exact hstandby
  have hsame : ∀ t, SameSeqs (countInput i.seq s) t → t.pair.rxSeq = s.pair.rxSeq ∧ t.pair.inSeq = i.seq := fun t h => by
    rw [SameSeqs, hcount] at h
    exact h
  unfold takeInput
  rw [if_pos hstandby]
  generalize i.what = w
  cases w with
  | envelope doc =>
    obtain ⟨hrx, hin⟩ := hsame _ (partnerEnvelope_standby hstandby' doc)
    exact ⟨hrx, hin, nofun, nofun, nofun⟩
  | envelopeAnswer ok =>
    obtain ⟨hrx, hin⟩ := hsame _ (envelopeAnswered_standby hstandby' ok)
    exact ⟨hrx, hin, nofun, nofun, nofun⟩
  | envelopeEffective =>
    obtain ⟨hrx, hin⟩ := hsame (envelopeEffective i.effective (countInput i.seq s)) ⟨rfl, rfl⟩
    exact ⟨hrx, hin, nofun, nofun, nofun⟩
  | generation n =>
    dsimp only
    rw [hcount]
    exact ⟨rfl, rfl, nofun, nofun, fun g hg => ⟨rfl, by cases hg; rfl⟩⟩
  | write key v | epoch | cellCommand | dispatch | request n =>
    dsimp only
    rw [if_pos hstandby', hcount]
    exact ⟨rfl, rfl, fun _ _ => ⟨rfl, rfl⟩, fun _ _ _ => ⟨rfl, rfl⟩, nofun⟩

/-! ### Images, configuration and adoption (R449, R463) -/

theorem joinPartner_running {s : State} (h : s.core.opState ≠ .boot) : joinPartner s = s := by
  unfold joinPartner
  rw [if_pos (by simp [h])]

/-- What a held image leaves in the pair's part. -/
theorem holdImage_holds (img : Image) (s : State) : (holdImage img s).core = s.core ∧ (holdImage img s).pair.rxSeq = s.pair.rxSeq ∧
    (holdImage img s).pair.partial_ = none ∧ (holdImage img s).pair.image = img.cycle ∧ (holdImage img s).pair.images = keepN 2 (img :: s.pair.images) := by
  unfold holdImage
  extract_lets fits _ p
  refine ⟨rfl, ?_⟩
  dsimp only
  split <;> exact ⟨rfl, rfl, rfl, rfl⟩

theorem takePart_more {s : State} (h : s.pair.partial_ = none) (c : Cycle) (part total : Nat) :
    takePart c part total none s = { s with pair := { s.pair with partial_ := some { cycle := c, parts := [part], total := total } } } := by
  unfold takePart
  rw [h]
  rfl

theorem takePart_whole {s : State} (h : s.pair.partial_ = none) (c : Cycle) (part : Nat) (img : Image) : takePart c part 1 (some img) s =
    joinPartner (holdImage img { s with pair := { s.pair with partial_ := some { cycle := c, parts := [part], total := 1 } } }) := by
  unfold takePart
  rw [h]
  rfl

theorem takeConfiguration_takes (c : ConfigRx) (s : State) : ∀ t, t = takeConfiguration c s → t.pair.rxSeq = s.pair.rxSeq ∧ t.pair.stepping = c.stepping ∧
    (s.countsActive = true → t.dict = s.dict ∧ t.ring = s.ring) ∧ (s.countsActive = false → c.last = true → t.pair.ready.getLsbD 2 = true) := by
  rintro t rfl
  unfold takeConfiguration
  extract_lets _ u v w
  have hu : u.countsActive = s.countsActive := rfl
  rw [hu]
  split
  case isTrue h => exact ⟨rfl, rfl, fun _ => ⟨rfl, rfl⟩, fun h' => absurd h (ne_true_of_eq_false h')⟩
  case isFalse h =>
    have hk : Keeps (fun p => p != .pair) u w :=
      keeps_foldl (fun _ _ hx => State.modCell_keeps _ _ _ hx) (takeHeads_keeps _ _ (takeValues_keeps _ _ (.refl _ u)))
    have hrx := congrArg Pair.rxSeq hk.pair_eq
    have hstep := congrArg Pair.stepping hk.pair_eq
    split
    case isTrue => exact ⟨hrx, hstep, fun h' => absurd h' h, fun _ _ => by rw [getLsbD_setBit]; simp⟩
    case isFalse hl => exact ⟨hrx, hstep, fun h' => absurd h' h, fun _ h' => absurd h' hl⟩

/-- Both units paired: the Tether is up, and what the adoption brought stands (R441). -/
theorem joinPair_pair (s : State) : ∃ q r i, (joinPair s).pair = { s.pair with tether := 2, q27 := q, ready := r, imageAfter := i } := by
  unfold joinPair
  extract_lets _ u
  split
  · obtain ⟨q, r, h⟩ := sendConfiguration_pair u
    exact ⟨q, r, _, h⟩
  · obtain ⟨q, r, h⟩ := sendConfiguration_pair (restartReadiness u)
    exact ⟨q, r, _, h⟩

theorem takeAdoptionFrame_result (r : Nat) (s : State) : ∀ t, t = takeAdoptionFrame [] [] (some r) s →
    t.pair.rxSeq = s.pair.rxSeq ∧ t.pair.join = r ∧ t.pair.code = none := by
  rintro t rfl
  unfold takeAdoptionFrame
  dsimp only
  split
  · obtain ⟨q, x, i, h⟩ := joinPair_pair { s with pair := { s.pair with join := r, code := none } }
    rw [h]
    exact ⟨rfl, rfl, rfl⟩
  · exact ⟨rfl, rfl, rfl⟩

theorem takeHandOver_acceptance {s : State} (h : s.pair.role = .standby) (c : Cycle) : ∀ t, t = takeHandOver 1 c 0 s →
    t.pair.role = .incoming ∧ t.pair.h = c ∧ t.pair.phase = 1 := by
  rintro t rfl
  unfold takeHandOver
  rw [if_pos rfl, if_pos h]
  obtain ⟨n, l, hp⟩ := setRole_pair .incoming (some 0) { s with pair := { s.pair with h := c, phase := 1, warm := false, digest := none } }
  rw [hp]
  exact ⟨rfl, rfl, rfl⟩

theorem takeHandOver_abort {s : State} (hover : s.handingOver = true) (hphase : s.pair.phase ≠ 4) (c : Cycle) (cause : Nat) :
    takeHandOver 2 c cause s = abortHandOver cause false s := by
  unfold takeHandOver
  rw [if_neg (by decide), if_pos (by simp [hover]), if_neg hphase]

/-! ### Pairing (R441, R562) -/

/-- A hello of the own strap is refused, and the conflict counts (R562). -/
theorem checkHello_sameStrap {h : Hello} {s : State} (hcert : h.certOk = true) (hstrap : h.strap = s.links.strap) : ∀ t, t = checkHello h s →
    t.pair = { s.pair with tether := 3, keys := none } ∧ t.seat = { s.seat with conflicts := inc32 s.seat.conflicts } := by
  rintro t rfl
  unfold checkHello
  rw [if_neg (by simp [hcert]), if_pos hstrap]
  dsimp only
  split
  · exact ⟨rfl, rfl⟩
  · have hk := State.raiseOnce_keeps (refusePartner { s with seat := { s.seat with conflicts := inc32 s.seat.conflicts } }) 0x020 0x9A .warn 0 0
      (.refl (fun p => p = .ranger) _)
    exact ⟨hk.pair_eq, hk.seat_eq⟩

theorem checkHello_accepts {h : Hello} {s : State} (hcert : h.certOk = true) (hstrap : h.strap ≠ s.links.strap) (hstring : s.foreignString h = false) :
    checkHello h s = s := by
  unfold checkHello
  rw [if_neg (by simp [hcert]), if_neg hstrap, if_neg (ne_true_of_eq_false hstring)]

theorem gives_pairHello {h : Hello} {s : State} (hcycling : s.cycling = true) (hcert : h.certOk = true) :
    (h.strap = s.links.strap → Gives (.pairHello h) s fun t => t.pair.tether = 3 ∧ t.pair.keys = none ∧ t.seat.conflicts = inc32 s.seat.conflicts) ∧
    (h.strap ≠ s.links.strap → s.foreignString h = false → Gives (.pairHello h) s fun t => t.seat = s.seat ∧ t.pair.tether = 1 ∧ t.pair.keys = none ∧
      t.pair.hello = some h ∧ t.pair.rxSeq = 0 ∧ (s.pair.role = .single → s.core.opState = .boot → t.pair.role = .undecided)) := by
  obtain ⟨u, hexec, hlinks, hsec, hseat, hp, hrole⟩ : ∃ u, exec (.pairHello h) s = .next (checkHello h u) ∧ u.links = s.links ∧ u.sec = s.sec ∧
      u.seat = s.seat ∧ (u.pair.tether = 1 ∧ u.pair.keys = none ∧ u.pair.hello = some h ∧ u.pair.rxSeq = 0) ∧
      (s.pair.role = .single → s.core.opState = .boot → u.pair.role = .undecided) :=
    ⟨_, if_neg (by simp [hcycling]), rfl, rfl, rfl, ⟨rfl, rfl, rfl, rfl⟩, fun hrole hboot => if_pos (by simp [hrole, hboot])⟩
  obtain ⟨htether, hkeys, hhello, hseq⟩ := hp
  refine ⟨fun hstrap => ⟨_, hexec, ?_⟩, fun hstrap hstring => ⟨u, ?_, hseat, htether, hkeys, hhello, hseq, hrole⟩⟩
  · obtain ⟨hpair, hconf⟩ := checkHello_sameStrap (s := u) hcert (hstrap.trans (by rw [hlinks])) _ rfl
    exact ⟨congrArg Pair.tether hpair, congrArg Pair.keys hpair, (congrArg Seat.conflicts hconf).trans (by rw [hseat])⟩
  · rw [hexec, checkHello_accepts hcert (by rw [hlinks]; exact hstrap) (by rw [State.foreignString, hsec]; exact hstring)]

theorem gives_pairProof {h : Hello} {s : State} (hhello : s.pair.hello = some h) (htether : s.pair.tether = 1) :
    Gives (.pairProof false) s (fun t => t.pair.tether = 3 ∧ t.pair.keys = none) ∧
    (s.sec.adopted = true → h.stringId = s.sec.stringId → Gives (.pairProof true) s fun t => t.pair.tether = 2 ∧ t.pair.keys.isSome = true) := by
  refine ⟨⟨refusePartner s, ?_, rfl, rfl⟩, fun hadopted hid => ?_⟩
  · show execPairProof false s = _
    unfold execPairProof
    rw [hhello]
    dsimp only
    rw [if_neg (by simp [htether]), if_pos (by decide)]
  · obtain ⟨k, n, hexec⟩ : ∃ k n, exec (.pairProof true) s = .next (joinPair { s with free := n, pair := { s.pair with keys := some k } }) := by
      show ∃ k n, execPairProof true s = _
      unfold execPairProof
      rw [hhello]
      dsimp only
      rw [if_neg (by simp [htether]), if_neg (by decide), if_pos (by simp [drawInt, hadopted, hid])]
      exact ⟨_, _, rfl⟩
    obtain ⟨q, r, i, hp⟩ := joinPair_pair { s with free := n, pair := { s.pair with keys := some k } }
    exact ⟨_, hexec, congrArg Pair.tether hp, congrArg (fun p : Pair => p.keys.isSome) hp⟩

/-! ### A lost heartbeat (R437, R443) -/

theorem lostHeartbeat_plain {s : State} (h : s.handingOver = false) : lostHeartbeat s = lostRows s := by
  have hphase : s.pair.phase ≠ 4 := fun h4 => by simp [State.handingOver, h4] at h
  unfold lostHeartbeat
  rw [if_neg hphase, if_neg (ne_true_of_eq_false h)]

theorem lostRows_standby {s : State} (h : s.pair.role = .standby) : lostRows s = if s.partnerGone then takeOverIfGone s else openRound false s := by
  rw [lostRows, h]

theorem lostRows_active {s : State} (h : s.pair.role = .active) : lostRows s = if s.partnerGone then partnerLost s else openRound true s := by
  rw [lostRows, h]

theorem takeOverIfGone_standby {s : State} (hlost : s.pair.lost = true) (hgone : s.partnerGone = true) (hrole : s.pair.role = .standby) :
    takeOverIfGone s = if s.hearsSync then s else beginTakeover 1 s := by
  rw [takeOverIfGone, if_neg (by simp [hlost, hgone]), hrole]

theorem partnerLost_alone {s : State} (hlost : s.pair.lost = true) (hgone : s.partnerGone = true) (hrole : s.pair.role = .active) :
    partnerLost s = raisePair 0xA0 s := by
  rw [partnerLost, if_pos (by simp [hlost, hgone, hrole])]

/-- The rows for a unit whose partner is just lost. -/
theorem lostRows_rows {s : State} (hlost : s.pair.lost = true) : ∀ t, t = lostRows s → t.pair.lost = true ∧
    (s.pair.role = .standby → s.partnerGone = true → s.hearsSync = false → t.pair.role = .takingOver ∧ t.pair.takeover = s.core.cycle) ∧
    (s.pair.role = .standby → s.partnerGone = true → s.hearsSync = true → t.pair.role = .standby) ∧
    (s.pair.role = .active → s.partnerGone = true → t.pair.role = .active ∧ t.raised 0x060 0xA0 0 0 = true) ∧
    (s.pair.role = .standby ∨ s.pair.role = .active → s.partnerGone = false → t.pair.role = .claiming ∧ t.pair.claim = 1 ∧ t.pair.round = s.core.cycle ∧
      t.pair.wasActive = decide (s.pair.role = .active)) := by
  rintro t rfl
  refine ⟨(congrArg Pair.lost (heard_lostRows s)).trans hlost, fun hrole hgone hsync => ?_, fun hrole hgone hsync => ?_, fun hrole hgone => ?_, fun hrole hgone => ?_⟩
  · obtain ⟨n, c, ph, ab, h, dig, w, hp⟩ := beginTakeover_pair 1 s
    rw [lostRows_standby hrole, if_pos hgone, takeOverIfGone_standby hlost hgone hrole, if_neg (ne_true_of_eq_false hsync), hp]
    exact ⟨rfl, rfl⟩
  · rw [lostRows_standby hrole, if_pos hgone, takeOverIfGone_standby hlost hgone hrole, if_pos hsync]
    exact hrole
  · rw [lostRows_active hrole, if_pos hgone, partnerLost_alone hlost hgone hrole, pair_raisePair]
    exact ⟨hrole, raised_raisePair ..⟩
  · have hopen : ∀ active, (openRound active s).pair.role = .claiming ∧ (openRound active s).pair.claim = 1 ∧
        (openRound active s).pair.round = s.core.cycle ∧ (openRound active s).pair.wasActive = active := fun active => by
      obtain ⟨n, c, hp⟩ := openRound_pair active s
      rw [hp]
      exact ⟨rfl, rfl, rfl, rfl⟩
    rcases hrole with hrole | hrole
    · rw [lostRows_standby hrole, if_neg (ne_true_of_eq_false hgone), hrole]
      exact hopen false
    · rw [lostRows_active hrole, if_neg (ne_true_of_eq_false hgone), hrole]
      exact hopen true

/-- Nothing that a sense change brings changes the class just taken, nor the time since which it has been so (R446). -/
theorem gives_senseChange (s : State) (x : Sense) : Gives (.partnerSenseChange x) s fun t => t.pair.sense = x ∧ (x ≠ .stopped → t.pair.stoppedSince = none) := by
  obtain ⟨u, hexec, hp⟩ : ∃ u, exec (.partnerSenseChange x) s = .next (partnerLost (takeOverIfGone u)) ∧
      u.pair.sense = x ∧ (x ≠ .stopped → u.pair.stoppedSince = none) := by
    show ∃ u, execPartnerSenseChange x s = _ ∧ _
    unfold execPartnerSenseChange
    extract_lets old stopped _ u v _ w
    have hv : v.pair = u.pair := by
      simp only [v]
      split
      · exact (voidHalf_keeps u (.refl (fun p => p = .fe) u)).pair_eq
      · rfl
    have hw : w.pair.sense = v.pair.sense ∧ w.pair.stoppedSince = v.pair.stoppedSince := by
      simp only [w]
      split
      · have hk : ∀ t : State, (t.clearOnce 0x020 0x9A 0 0).pair = t.pair := fun t => (State.clearOnce_keeps _ _ _ _ _ (.refl (fun p => p = .ranger) t)).pair_eq
        rw [hk]
        exact ⟨rfl, rfl⟩
      · exact ⟨rfl, rfl⟩
    obtain ⟨hsense, hsince⟩ := hw
    exact ⟨w, rfl, hsense.trans (congrArg Pair.sense hv), fun hx => hsince.trans ((congrArg Pair.stoppedSince hv).trans (if_neg hx))⟩
  obtain ⟨hsense, hsince⟩ := hp
  have ht : (partnerLost (takeOverIfGone u)).pair.heard = u.pair.heard := by rw [pair_partnerLost, heard_takeOverIfGone]
  exact ⟨_, hexec, (congrArg Pair.sense ht).trans hsense, fun hx => (congrArg Pair.stoppedSince ht).trans (hsince hx)⟩

theorem gives_roleDecision {s : State} (hrole : s.pair.role = .undecided) (hhb : s.pair.hb = none) (hpair : s.inPair = true)
    (hpassed : s.passed s.pair.phyAt 2000 = true) (hsense : s.pair.sense = .absent) :
    Gives .roleDecisionTimeout s fun t => t.pair.role = .active ∧ t.raised 0x060 0xA0 0 0 = true := by
  refine ⟨raisePair 0xA0 (originateFresh (setRole .active none s)), ?_, by rw [pair_raisePair, pair_originateFresh, role_setRole], raised_raisePair ..⟩
  show execRoleDecisionTimeout s = _
  unfold execRoleDecisionTimeout
  dsimp only
  rw [if_neg (by simp [hrole, hhb, hpair, hpassed]), hsense]

/-! ### A planned hand-over (R450 to R453) -/

theorem gives_roleSwap {s : State} (hpair : s.inPair = true) (hrole : s.pair.role = .active)
    (hdue : s.pair.swapFrom + s.cfg 0x8010 1 * 86400000 ≤ s.power.opTime) (htry : s.pair.lastTry = none) (hcond : condHandOver s = 0) :
    Gives .roleSwapTimer s fun t => t.pair.role = .outgoing ∧ t.pair.phase = 1 ∧ t.pair.h = s.firstHalf 2500 := by
  obtain ⟨hout, hphase, hh, -⟩ := effHandOver_begins s
  refine ⟨effHandOver s, ?_, hout, hphase, hh⟩
  show execRoleSwapTimer s = _
  unfold execRoleSwapTimer
  rw [htry]
  dsimp only
  rw [if_neg (by simp [hpair, hrole, hdue]), if_pos hcond]

theorem gives_notWarm {s : State} (hrole : s.pair.role = .incoming) (hphase : s.pair.phase = 1) (hlate : (s.pair.h - s.core.cycle).toNat ≤ 100) :
    Gives .notWarmAbort s fun t => t.pair.role = .standby ∧ t.pair.phase = 6 ∧ t.pair.abort = 5 := by
  have h := abortHandOver_aborts 5 true s
  exact ⟨_, if_pos (by rw [hrole, hphase, decide_eq_true hlate]; rfl), h.standby hrole, h.phase, h.abort⟩

theorem gives_stateFreeze {s : State} (hcycle : s.ahead 51 = s.pair.h)
    (hready : (s.pair.role = .incoming ∧ s.pair.phase = 2) ∨ (s.pair.role = .outgoing ∧ (s.pair.phase = 1 ∨ s.pair.phase = 2))) :
    Gives .stateFreeze s fun t => ChangesOnly [.axes, .pair] s t ∧ t.pair = { s.pair with phase := 3, digest := some (Config.imageDigest s.makeImage) } ∧
      (s.pair.role = .incoming → t.axes = s.axes) := by
  refine ⟨_, if_pos (by rcases hready with ⟨hr, hp⟩ | ⟨hr, hp | hp⟩ <;> simp [hr, hp, hcycle]), ?_⟩
  dsimp only
  have hu : Keeps (fun p => [Part.axes, .pair].contains p) s { s with pair := { s.pair with phase := 3, digest := some (Config.imageDigest s.makeImage) } } :=
    keeps_mk (.refl _ s) (by simp [SameBut]) (by simp [SameLists])
  split
  case isTrue hr =>
    refine ⟨(holdAxes_keeps _ hu).changesOnly, (holdAxes_keeps _ (.refl (fun p => p = .axes) _)).pair_eq, fun h => ?_⟩
    rw [show s.pair.role = .outgoing from hr] at h
    cases h
  case isFalse => exact ⟨hu.changesOnly, rfl, fun _ => rfl⟩

theorem gives_overlapStart {s : State} (hphase : s.pair.phase = 3) (hcycle : s.core.cycle = s.pair.h) :
    Gives .overlapStart s fun t => ChangesOnly [.fe, .pair] s t ∧ t.pair = { s.pair with phase := 4 } ∧ (s.pair.role ≠ .incoming → t.fe = s.fe) ∧
    (∀ h, s.pair.role = .incoming → s.pair.hb = some h → h.flags.getLsbD 2 = true → t.fe.kp.coil = .hold ∧ t.fe.kn.coil = .hold) := by
  refine ⟨_, if_pos (by simp [hphase, hcycle]), ?_⟩
  dsimp only
  have hu : Keeps (fun p => [Part.fe, .pair].contains p) s { s with pair := { s.pair with phase := 4 } } :=
    keeps_mk (.refl _ s) (by simp [SameBut]) (by simp [SameLists])
  split
  case isTrue hr =>
    refine ⟨(driveCoils_keeps _ hu).changesOnly, (driveCoils_keeps _ (.refl (fun p => p = .fe) _)).pair_eq, fun h => absurd hr h, fun h _ hhb hflag => ?_⟩
    unfold driveCoils
    dsimp only
    rw [hhb]
    dsimp only
    rw [if_pos hflag]
    exact ⟨rfl, rfl⟩
  case isFalse hr => exact ⟨hu.changesOnly, rfl, fun _ => rfl, fun _ h => absurd h hr⟩

theorem originating_modInfo_foldl (f : State → Nat → HeadInfo → HeadInfo) (l : List Nat) (s : State) :
    (l.foldl (fun s p => s.modInfo p (f s p)) s).ring.originating = s.ring.originating := by
  induction l generalizing s with
  | nil => rfl
  | cons p l ih => exact (ih _).trans rfl

theorem originating_setRing (st : RingState) (s : State) : (setRing st s).ring.originating = s.ring.originating := by rw [setRing_rest]

theorem originating_relayHops (s : State) : (relayHops s).ring.originating = s.ring.originating := originating_modInfo_foldl ..

theorem originating_splitHeads (k : Nat) (s : State) : (splitHeads k s).ring.originating = s.ring.originating := originating_modInfo_foldl ..

theorem originating_segmentTransits (s : State) : (segmentTransits s).ring.originating = s.ring.originating := rfl

/-- A unit that gives origination up relays; its front end stands (R71). -/
theorem giveOrigination_relays (s : State) : (giveOrigination s).ring.originating = false ∧ (giveOrigination s).fe = s.fe := by
  refine ⟨?_, (giveOrigination_keeps s (.refl (fun p => p != .fe) s)).fe_eq⟩
  unfold giveOrigination
  dsimp only
  split
  · rfl
  · rw [originating_relayHops, originating_setRing]

theorem originating_takeOrigination (s : State) : (takeOrigination s).ring.originating = true := by
  unfold takeOrigination
  split
  · rw [originating_setRing, originating_splitHeads]
    rfl
  · rw [originating_segmentTransits, originating_setRing, originating_splitHeads]
    rfl

theorem gives_originationChange {s : State} (hphase : s.pair.phase = 4) (hcycle : s.ahead 1 = s.pair.h + 50) :
    Gives .originationChange s fun t => (s.pair.role = .outgoing → t.ring.originating = false ∧ t.fe = s.fe) ∧
    (s.pair.role = .incoming → t.ring.originating = true ∧ t.fe.injectFrom.isSome = true) := by
  refine ⟨_, if_pos (by simp [hphase, hcycle]), fun h => ?_, fun h => ?_⟩
  · rw [if_pos h]
    exact giveOrigination_relays s
  · rw [if_neg (by simp [h]), if_pos h]
    exact ⟨originating_takeOrigination s, rfl⟩

theorem swapDone_pair (s : State) : (swapDone s).pair = { s.pair with swapFrom := s.power.opTime, refusedSince := none, lastTry := none } := by
  unfold swapDone
  simp only [State.clearOnce_other]

theorem opTime_motionDomain (s : State) : (motionDomain s).power.opTime = s.power.opTime := by
  unfold motionDomain
  cases s.core.opState <;> first | rfl | (dsimp only; split <;> rfl)

theorem power_setRole (r : Role) (cause : Option Nat) (s : State) : (setRole r cause s).power = s.power :=
  (setRole_keeps r cause s (.refl (fun p => p != .power) s)).power_eq

/-- The last cycle of a hand-over: the outgoing unit's part, and the incoming one's (R451). -/
theorem exec_handOverComplete {s : State} (hphase : s.pair.phase = 4) (hcycle : s.ahead 1 = s.pair.h + 100) :
    (s.pair.role = .outgoing → ∃ u : State, u.pair.phase = 5 ∧ u.power = s.power ∧
      exec .handOverComplete s = .next (swapDone (legsOff (releaseHighSides (setRole .standby (some 0) u))))) ∧
    (s.pair.role = .incoming → ∃ u : State, u.pair.phase = 5 ∧ u.power = s.power ∧
      exec .handOverComplete s = .next (swapDone (resumeWaiting (motionDomain (noEnvelope (setRole .active (some 0) u)))))) := by
  have hdue : (s.pair.phase = 4 && s.ahead 1 = s.pair.h + 100) = true := by simp [hphase, hcycle]
  refine ⟨fun hrole => ⟨_, ?_, ?_, (if_pos hdue).trans (if_pos hrole)⟩, fun hrole => ⟨_, ?_, ?_, (if_pos hdue).trans ((if_neg ?_).trans (if_pos hrole))⟩⟩
  · rfl
  · rfl
  · rfl
  · rfl
  · simp [hrole]

theorem phase_setRole (r : Role) (cause : Option Nat) (s : State) : (setRole r cause s).pair.phase = s.pair.phase := by
  obtain ⟨n, c, h⟩ := setRole_pair r cause s
  rw [h]

/-- A hand-over that is complete swaps the roles, and the swap interval runs afresh (R451, R453). -/
theorem gives_handOverComplete {s : State} (hphase : s.pair.phase = 4) (hcycle : s.ahead 1 = s.pair.h + 100)
    (hrole : s.pair.role = .outgoing ∨ s.pair.role = .incoming) : Gives .handOverComplete s fun t => t.pair.phase = 5 ∧
      t.pair.swapFrom = s.power.opTime ∧ t.pair.role = if s.pair.role = .outgoing then .standby else .active := by
  obtain ⟨hout, hin⟩ := exec_handOverComplete hphase hcycle
  rcases hrole with hrole | hrole
  · obtain ⟨u, hfive, hpower, hexec⟩ := hout hrole
    have hk : Keeps (fun p => p = .axes || p = .fe) (setRole .standby (some 0) u) (legsOff (releaseHighSides (setRole .standby (some 0) u))) :=
      legsOff_keeps _ (releaseHighSides_keeps _ (.refl _ _))
    have hswap := swapDone_pair (legsOff (releaseHighSides (setRole .standby (some 0) u)))
    rw [hk.pair_eq, hk.power_eq, power_setRole, hpower] at hswap
    exact ⟨_, hexec, (congrArg Pair.phase hswap).trans ((phase_setRole ..).trans hfive), congrArg Pair.swapFrom hswap,
      (congrArg Pair.role hswap).trans ((role_setRole ..).trans (if_pos hrole).symm)⟩
  · obtain ⟨u, hfive, hpower, hexec⟩ := hin hrole
    have hn := noEnvelope_keeps (setRole .active (some 0) u) (.refl (fun p => p = .fb || p = .ranger) _)
    have hr := resumeWaiting_keeps (motionDomain (noEnvelope (setRole .active (some 0) u))) (.refl (fun p => p != .pair && p != .power) _)
    have hm := motionDomain_keeps (noEnvelope (setRole .active (some 0) u)) (.refl (fun p => p != .pair) _)
    have hswap := swapDone_pair (resumeWaiting (motionDomain (noEnvelope (setRole .active (some 0) u))))
    rw [hr.pair_eq, hr.power_eq, hm.pair_eq, hn.pair_eq, opTime_motionDomain, hn.power_eq, power_setRole, hpower] at hswap
    exact ⟨_, hexec, (congrArg Pair.phase hswap).trans ((phase_setRole ..).trans hfive), congrArg Pair.swapFrom hswap,
      (congrArg Pair.role hswap).trans ((role_setRole ..).trans (if_neg (by simp [hrole])).symm)⟩

/-! ### Coil catches and takeovers (R454 to R457) -/

theorem gives_coilCatch {s : State} {k : Nat} {h : Heartbeat} (hk : k ≤ 1) (hpair : s.inPair = true) (hstandby : s.countsStandby = true)
    (hmay : s.mayDrive k = false) (hhb : s.pair.hb = some h) (hflag : h.flags.getLsbD 2 = true) (hloop : s.di diLoop = true) (hcauses : s.fb.causes = 0)
    (honline : s.online = true) : Gives (.coilCatch k) s fun t => (t.contactor k).coil = .hold ∧ (t.contactor k).commanded = true ∧
      Tab.flag t.pair.catching k = true ∧ t.pair.catches = inc32 s.pair.catches := by
  obtain ⟨t, ht, hpairs, hfe⟩ : ∃ t, exec (.coilCatch k) s = .next t ∧
      t.pair = { s.pair with catching := Tab.put s.pair.catching k true, catchRun := 0, catches := inc32 s.pair.catches } ∧
      t.fe = (s.modContactor k fun c => { c with coil := .hold, commanded := true, since := s.core.cycle }).fe := by
    show ∃ t, execCoilCatch k s = .next t ∧ _
    unfold execCoilCatch
    rw [hhb]
    dsimp only
    rw [if_neg (by simp [hpair, hstandby, hmay, hflag, hloop, hcauses, honline, hk])]
    refine ⟨_, rfl, ?_, ?_⟩
    · rw [(State.report_keeps _ _ _ _ _ _ (.refl (fun p => p = .ranger) _)).pair_eq]
      rw [(State.modContactor_keeps _ _ _ (.refl (fun p => p = .fe) _)).pair_eq]
    · exact (State.report_keeps _ _ _ _ _ _ (.refl (fun p => p = .ranger) _)).fe_eq
  have hc : t.contactor k = { s.contactor k with coil := .hold, commanded := true, since := s.core.cycle } :=
    (contactor_congr hfe k).trans (contactor_modContactor ..)
  have hcatching : Tab.flag t.pair.catching k = true := by
    rw [hpairs, Tab.flag]
    exact Tab.at_put_same ..
  exact ⟨t, ht, congrArg Contactor.coil hc, congrArg Contactor.commanded hc, hcatching, congrArg Pair.catches hpairs⟩

theorem gives_coilCatchEnd {s : State} {k : Nat} {openPath : Bool} (hcatch : Tab.flag s.pair.catching k = true)
    (hend : openPath = true ∨ 100 ≤ s.pair.catchRun) : Gives (.coilCatchEnd k openPath) s fun t =>
    ChangesOnly [.fe, .pair] s t ∧ Tab.flag t.pair.catching k = false := by
  refine ⟨_, if_pos (by simpa [hcatch] using hend), ?_⟩
  have hu : Keeps (fun p => [Part.fe, .pair].contains p) s { s with pair := { s.pair with catching := Tab.put s.pair.catching k false } } :=
    keeps_mk (.refl _ s) (by simp [SameBut]) (by simp [SameLists])
  refine ⟨(releaseHighSides_keeps _ hu).changesOnly, ?_⟩
  rw [pair_releaseHighSides, Tab.flag]
  exact Tab.at_put_same ..

theorem gives_takeover {s : State} (late : Bool) (hrole : s.pair.role = .takingOver) (horigin : s.pair.originateAt = none) (hbridge : s.pair.bridging = false) :
    Gives (.takeover late) s fun t => t.pair.role = .takingOver ∧
    (s.sec.adopted = true → s.dict.epoch ≠ 0 → t.pair.originateAt = some (s.ahead (if late then 2 else 1)) ∧ t.pair.bridging = false) ∧
    (s.sec.adopted = false ∨ s.dict.epoch = 0 → t.pair.originateAt = none ∧ t.pair.bridging = true) := by
  obtain ⟨u, origin, hexec, horigin', hr, ho, hb⟩ : ∃ u origin, exec (.takeover late) s = .next (axesOver (noEnvelope (driveCoils u))) ∧
      origin = (s.sec.adopted && s.dict.epoch != 0) ∧ u.pair.role = .takingOver ∧
      u.pair.originateAt = (if origin then some (s.ahead (if late then 2 else 1)) else none) ∧ u.pair.bridging = !origin := by
    show ∃ u origin, execTakeover late s = _ ∧ _
    unfold execTakeover
    rw [if_neg (by simp [hrole, horigin, hbridge])]
    extract_lets first origin _ _ u v
    have hv : v.pair = u.pair := by
      simp only [v]
      split
      · rfl
      · exact (State.reportInj_keeps _ _ _ _ _ _ _ (.refl (fun p => p = .ranger) _)).pair_eq
    exact ⟨v, origin, rfl, rfl, (congrArg Pair.role hv).trans hrole, congrArg Pair.originateAt hv, congrArg Pair.bridging hv⟩
  have ht : (axesOver (noEnvelope (driveCoils u))).pair = u.pair :=
    (axesOver_keeps _ (noEnvelope_keeps _ (driveCoils_keeps _ (.refl (fun p => p != .pair) u)))).pair_eq
  refine ⟨_, hexec, (congrArg Pair.role ht).trans hr, fun hadopted hepoch => ?_, fun hnone => ?_⟩
  · have htrue : origin = true := by simp [horigin', hadopted, hepoch]
    rw [htrue] at ho hb
    exact ⟨(congrArg Pair.originateAt ht).trans ho, (congrArg Pair.bridging ht).trans hb⟩
  · have hfalse : origin = false := by rcases hnone with h | h <;> simp [horigin', h]
    rw [hfalse] at ho hb
    exact ⟨(congrArg Pair.originateAt ht).trans ho, (congrArg Pair.bridging ht).trans hb⟩

theorem riseClamp_setRole (r : Role) (cause : Option Nat) (s : State) : (setRole r cause s).pair.riseClamp = s.pair.riseClamp := by
  obtain ⟨n, c, h⟩ := setRole_pair r cause s
  rw [h]

/-- A unit whose catch-up is complete is ACTIVE, and its limits rise under the clamp (R457, R458). -/
theorem gives_caughtUp {s : State} (hrole : s.pair.role = .takingOver) (hbridge : s.pair.bridging = true) :
    Gives .catchUpComplete s fun t => t.pair.role = .active ∧ t.pair.bridging = false ∧ t.pair.riseClamp = true := by
  obtain ⟨v, hexec, hactive, hclamp⟩ : ∃ v : State, exec .catchUpComplete s = .next (swapDone { v with pair := { v.pair with bridging := false } }) ∧
      v.pair.role = .active ∧ v.pair.riseClamp = true :=
    ⟨setRole .active (some 1) _, if_pos (by simp [hrole, hbridge]), role_setRole .., riseClamp_setRole ..⟩
  have hpair := swapDone_pair { v with pair := { v.pair with bridging := false } }
  exact ⟨_, hexec, (congrArg Pair.role hpair).trans hactive, congrArg Pair.bridging hpair, (congrArg Pair.riseClamp hpair).trans hclamp⟩

/-- An incoming unit that has caught up is warm (R451). -/
theorem gives_warm {s : State} {img : Image} (hrole : s.pair.role = .incoming) (hphase : s.pair.phase = 1) (himg : s.handOverImage = some img) :
    Gives .catchUpComplete s fun t => t.pair = { s.pair with warm := true, phase := 2 } := by
  obtain ⟨u, hu, hexec⟩ : ∃ u : State, u.pair = s.pair ∧ exec .catchUpComplete s = .next { u with pair := { u.pair with warm := true, phase := 2 } } := by
    refine ⟨(upFrom 1 4).foldl (takeAxis true img) (replay img s), ?_, ?_⟩
    · exact (keeps_foldl (A := fun p => p = .axes) (fun _ _ hx => takeAxis_keeps _ _ _ _ hx) (.refl _ (replay img s))).pair_eq
    · show execCatchUpComplete s = _
      unfold execCatchUpComplete
      rw [if_neg (by simp [hrole]), if_pos (by simp [hrole, hphase]), himg]
  refine ⟨_, hexec, ?_⟩
  dsimp only
  rw [hu]

theorem gives_claimTimeout {s : State} (hrole : s.pair.role = .claiming) (hclaim : s.pair.claim = 1) (hpassed : s.passed s.pair.round 200 = true) :
    Gives .claimTimeout s fun t => t.pair.claim = 4 ∧ t.pair.role = if s.pair.wasActive then .active else .standby := by
  refine ⟨_, if_pos (by simp [hrole, hclaim, hpassed]), ?_⟩
  dsimp only
  split
  case isTrue h => exact ⟨claim_claimWon .., role_claimWon ..⟩
  case isFalse h =>
    obtain ⟨hr, hc, -⟩ := claimLost_pair none { s with pair := { s.pair with claim := 4 } }
    exact ⟨hc, hr⟩

theorem gives_denialHoldEnd {s : State} {c : Cycle} (hhold : s.pair.holdUntil = some c) (hpast : s.since c < 2 ^ 31) :
    Gives .denialHoldEnd s fun t => t.pair.holdUntil = none := by
  obtain ⟨u, hu, hexec⟩ : ∃ u : State, u.pair.holdUntil = none ∧
      exec .denialHoldEnd s = .next (if u.pair.lost && u.pair.claim = 0 then lostRows u else u) := by
    refine ⟨releaseHighSides { s with pair := { s.pair with holdUntil := none } }, by rw [pair_releaseHighSides], ?_⟩
    show execDenialHoldEnd s = _
    unfold execDenialHoldEnd
    rw [hhold]
    dsimp only
    rw [if_neg (Nat.not_le.2 hpast)]
  refine ⟨_, hexec, ?_⟩
  split
  · exact (congrArg Pair.holdUntil (heard_lostRows u)).trans hu
  · exact hu

/-- Settles O59: each event of a pair by the row or the step that it runs. -/
theorem pairEvents : Obligations.PairEvents := by
  intro s
  refine ⟨fun h hcycling hcert => gives_pairHello hcycling hcert, fun h hhello htether => gives_pairProof hhello htether, fun seq hhears => ?frames,
    fun hpair hlost hrun hover => ⟨_, ?runs, lostRows_rows (s := { s with pair := { s.pair with lost := true } }) rfl _ rfl⟩, gives_senseChange s, gives_roleDecision,
    fun hrole hready => ⟨_, if_pos (by simp [hrole, hready]), role_setRole .., core_setRole .., (setRole_keeps _ _ s (.refl (fun p => p != .ring) s)).ring_eq⟩,
    gives_roleSwap, gives_notWarm, gives_stateFreeze, gives_overlapStart, gives_originationChange, gives_handOverComplete,
    fun k h => gives_coilCatch, fun k openPath => gives_coilCatchEnd, gives_takeover, gives_caughtUp, fun img => gives_warm, gives_claimTimeout,
    fun c => gives_denialHoldEnd, fun hrole hrun hloser => if_pos (by rcases hrole with h | h <;> simp [h, hrun, hloser])⟩
  case runs =>
    have hrows := lostHeartbeat_plain (s := { s with pair := { s.pair with lost := true } }) hover
    exact (if_neg (by simp [hpair, hlost, hrun])).trans (congrArg Host.Outcome.next hrows)
  case frames =>
    refine ⟨fun h => gives_frame rfl hhears fun x => ?heartbeat,
      fun c answers => ⟨fun blocks hc => gives_frame rfl hhears fun x => ?late, fun hc => gives_frame rfl hhears fun x => ?now⟩,
      fun i hstandby hseq => gives_frame rfl hhears fun x => takeInput_next (s := s.heardAt seq x) hstandby hseq _ rfl,
      fun c part total hpart => gives_frame rfl hhears fun x => ?part,
      fun c part img hpart hboot => gives_frame rfl hhears fun x => ?whole,
      fun c => gives_frame rfl hhears fun x => takeConfiguration_takes c (s.heardAt seq x) _ rfl,
      fun r => gives_frame rfl hhears fun x => takeAdoptionFrame_result r (s.heardAt seq x) _ rfl,
      fun h hrole => gives_frame rfl hhears fun x => takeHandOver_acceptance (s := s.heardAt seq x) hrole h _ rfl,
      fun h cause hover hphase => gives_frame rfl hhears fun x => ?aborted⟩
    case heartbeat =>
      have hh := heard_takeHeartbeat h (s.heardAt seq x)
      exact heard_fields hh
    case late =>
      have ht : takeTether (.missing c blocks answers) (s.heardAt seq x) = _ := if_neg hc
      rw [ht]
      exact ⟨rfl, rfl, rfl⟩
    case now =>
      have ht : takeTether (.missing c [] answers) (s.heardAt seq x) = _ := if_pos hc
      rw [ht]
      exact ⟨rfl, rfl⟩
    case part =>
      have ht : takeTether (.part c part total none) (s.heardAt seq x) = _ := takePart_more (s := s.heardAt seq x) hpart c part total
      rw [ht]
      exact ⟨rfl, rfl, rfl⟩
    case whole =>
      obtain ⟨hcore, hrest⟩ := holdImage_holds img { s.heardAt seq x with pair := { (s.heardAt seq x).pair with partial_ := some { cycle := c, parts := [part], total := 1 } } }
      have ht : takeTether (.part c part 1 (some img)) (s.heardAt seq x) = _ := takePart_whole (s := s.heardAt seq x) hpart c part img
      rw [ht, joinPartner_running (by rw [hcore]; exact hboot)]
      exact hrest
    case aborted =>
      have h' := abortHandOver_aborts cause false (s.heardAt seq x)
      have ht : takeTether (.handOver 2 h cause) (s.heardAt seq x) = _ := takeHandOver_abort (s := s.heardAt seq x) hover hphase h cause
      rw [ht]
      exact ⟨h'.phase, h'.abort, h'.standby, h'.active⟩

end Sys2Proof.Machine
end

section
/-! SUPPORT. The events of 16 to 19: faults and watchdog, the Tally, supplies and restarts, the Lookout, storage, updates, the seat. -/

namespace Sys2Proof.Machine

set_option Elab.async false

open Sys2Proof

/-! ### What the state machine leaves (R31, R32) -/

/-- The Ranger's list, its counts and its watchdog: what a message or an event of the state machine leaves as they are. -/
def Ranger.listed (r : Ranger) : Ranger :=
  { active := r.active, received := r.received, escalations := r.escalations, wdExpired := r.wdExpired, wdExpiries := r.wdExpiries }

theorem listed_report (s : State) (source kind : Nat) (sev : Sev) (cls val : Nat) : (s.report source kind sev cls val).ranger.listed = s.ranger.listed := rfl

theorem listed_raiseOnce (s : State) (source kind : Nat) (sev : Sev) (cls val : Nat) :
    (s.raiseOnce source kind sev cls val).ranger.listed = s.ranger.listed := by
  unfold State.raiseOnce
  split <;> rfl

/-- What an event of the state machine leaves alone: the supplies, who originates, and the Ranger's list. -/
structure Quiet (s t : State) : Prop where
  power : t.power = s.power
  originating : t.ring.originating = s.ring.originating
  listed : t.ranger.listed = s.ranger.listed

theorem Quiet.refl (s : State) : Quiet s s := ⟨rfl, rfl, rfl⟩

theorem Quiet.trans {s t u : State} (h : Quiet s t) (h' : Quiet t u) : Quiet s u :=
  ⟨h'.power.trans h.power, h'.originating.trans h.originating, h'.listed.trans h.listed⟩

/-- What is quiet from a state that agrees on these parts. -/
theorem Quiet.after {s u t : State} (h : Quiet u t) (hp : u.power = s.power) (ho : u.ring.originating = s.ring.originating)
    (hl : u.ranger.listed = s.ranger.listed) : Quiet s t := Quiet.trans ⟨hp, ho, hl⟩ h

/-- What is quiet up to a state that agrees on these parts. -/
theorem Quiet.before {s u t : State} (h : Quiet s u) (hp : t.power = u.power) (ho : t.ring.originating = u.ring.originating)
    (hl : t.ranger.listed = u.ranger.listed) : Quiet s t := h.trans ⟨hp, ho, hl⟩

theorem Quiet.of_keeps {A : Part → Bool} {s t : State} (h : Keeps A s t) (hp : A .power = false) (hr : A .ring = false) (hg : A .ranger = false) : Quiet s t :=
  ⟨h.power_eq hp, congrArg Ring.originating (h.ring_eq hr), congrArg Ranger.listed (h.ranger_eq hg)⟩

theorem quiet_enqueue (urgent : Bool) (c : RingCmd) (s : State) : Quiet s (enqueue urgent c s) := by
  unfold enqueue
  dsimp only
  (repeat' split) <;> exact ⟨rfl, rfl, rfl⟩

theorem quiet_withdrawBleed (s : State) : Quiet s (withdrawBleed s) := by
  unfold withdrawBleed broadcastBleedOff
  dsimp only
  split
  · exact ⟨rfl, rfl, rfl⟩
  · exact ((quiet_enqueue ..).trans (quiet_enqueue ..)).after rfl rfl rfl

theorem quiet_startTrip (firebreak : Bool) (s : State) : Quiet s (startTrip firebreak s) :=
  .of_keeps (startTrip_keeps firebreak s (.refl (fun p => p = .fe || p = .fb) s)) rfl rfl rfl

theorem quiet_releaseTrip (s : State) : Quiet s (releaseTrip s) := .of_keeps (releaseTrip_keeps s (.refl (fun p => p = .fe || p = .fb) s)) rfl rfl rfl

theorem quiet_rearm (s : State) : Quiet s (rearmFirstTrip (closeLowSides s)) := ⟨rfl, rfl, rfl⟩

theorem quiet_pullIn (k : Nat) (s : State) : Quiet s (pullIn k s) := .of_keeps (pullIn_keeps k s (.refl (fun p => p = .fe) s)) rfl rfl rfl

theorem quiet_stopPerturbation (s : State) : Quiet s (stopPerturbation s) := by
  unfold stopPerturbation
  dsimp only
  split <;> exact ⟨rfl, rfl, rfl⟩

theorem quiet_entryActions (old new : OpState) (s : State) : Quiet s (entryActions old new s) := by
  cases new with
  | off | boot | online | derated => exact .refl s
  | isolated =>
    cases old with
    | tripped => exact (quiet_releaseTrip s).trans (quiet_rearm _)
    | lockout => exact ((quiet_releaseTrip _).trans (quiet_rearm _)).after rfl rfl rfl
    | boot =>
      unfold entryActions
      dsimp only
      split <;> exact ⟨rfl, rfl, rfl⟩
    | off | isolated | precheck | closing | online | derated | tripping | service | sleep => exact .refl s
  | precheck | service | sleep => exact quiet_withdrawBleed s
  | closing => exact (quiet_withdrawBleed s).trans ((quiet_pullIn 1 _).after rfl rfl rfl)
  | tripping => exact ((quiet_stopPerturbation s).trans (quiet_withdrawBleed _)).trans (quiet_startTrip false _)
  | tripped => exact (quiet_withdrawBleed _).after rfl rfl rfl
  | lockout => exact (quiet_withdrawBleed s).before rfl rfl rfl

theorem quiet_reWhistle (s : State) : Quiet s (reWhistle s) := ⟨rfl, rfl, rfl⟩

theorem quiet_tell (s : State) (kind : Nat) (body : Bytes) : Quiet s (s.tell kind body) :=
  .of_keeps (State.tell_keeps s kind body (.refl (fun p => p = .tally) s)) rfl rfl rfl

theorem quiet_enterState (e : SmEvent) (new : OpState) (s : State) : Quiet s (enterState e new s) := by
  unfold enterState
  extract_lets old u who opening _ v
  exact (quiet_tell s _ _).trans (((quiet_entryActions old new v).trans (quiet_reWhistle _)).after rfl rfl rfl)

theorem quiet_takeEvent (e : SmEvent) (t : OpState) (s : State) : Quiet s (takeEvent e t s) := by
  unfold takeEvent
  dsimp only
  split
  · exact ⟨rfl, rfl, rfl⟩
  · exact (quiet_enterState ..).after rfl rfl rfl

theorem quiet_unTake (t : SmEvent) (s : State) : Quiet s (unTake t s) := by
  unfold unTake
  split
  · exact .refl s
  · dsimp only
    split <;> exact ⟨rfl, rfl, rfl⟩

theorem quiet_answerRequest (e : SmEvent) (abort : Nat) (s : State) : Quiet s (answerRequest e abort s) :=
  .of_keeps (answerRequest_keeps e abort s (.refl (fun p => p = .dict) s)) rfl rfl rfl

/-- No event of the state machine touches the supplies, the originator or the Ranger's list. -/
theorem quiet_smEvent (e : SmEvent) (s : State) : Quiet s (smEvent e s) := by
  unfold smEvent
  split
  · split
    · exact (quiet_takeEvent ..).trans (quiet_answerRequest ..)
    · split
      · exact quiet_answerRequest ..
      · exact ⟨rfl, rfl, rfl⟩
  · split
    · split
      · exact (quiet_unTake _ s).trans (((quiet_takeEvent ..).trans (quiet_answerRequest ..)).after rfl rfl rfl)
      · exact ⟨rfl, rfl, rfl⟩
    · exact ⟨rfl, rfl, rfl⟩

theorem quiet_freshEvent (e : SmEvent) (s : State) : Quiet s (freshEvent e s) :=
  (quiet_smEvent ..).after rfl rfl rfl

/-- An event of the supplies is taken at once: the state is the one its row leads to (R31). -/
theorem opState_freshEvent {e : SmEvent} {t : OpState} {s : State} (hkind : e.kind ≠ .openRequest)
    (ht : ∀ u : State, u.core.lockoutLatched = s.core.lockoutLatched → smTarget u s.core.opState e = some t) : (freshEvent e s).core.opState = t := by
  have h := smEvent_enters (s := { s with core := { s.core with taken := none, cycleState := s.core.opState } }) rfl (ht _ rfl) hkind
  exact congrArg Core.opState h

/-! ### What a fault message does (R472 to R479) -/

theorem listed_fenceRing (unit : Nat) (s : State) : (fenceRing unit s).ranger.listed = s.ranger.listed := by
  unfold fenceRing
  split
  · rfl
  · extract_lets other _ u _ v last w
    have hu : u.ranger = s.ranger := (setRing_keeps .wrapped _ (.refl (fun p => p = .ring) _)).ranger_eq
    have hv : v.ranger = u.ranger := (gatherQueues_keeps other _ (assignHeads_keeps _ _ (.refl (fun p => p = .ring || p = .heads) _))).ranger_eq
    have hw : w.ranger = v.ranger :=
      (keeps_foldl (A := fun p => p = .heads) (fun x p hx => keeps_mk hx (by simp [SameBut]) (by simp [SameLists])) (.refl _ v)).ranger_eq
    rw [listed_raiseOnce, (State.count_keeps w other 9 1 (.refl (fun p => p = .ring) _)).ranger_eq, hw, hv, hu]

theorem listed_fenceEffect (cls unit : Nat) (s : State) : (fenceEffect cls unit s).ranger.listed = s.ranger.listed := by
  unfold fenceEffect
  (repeat' split) <;> first | rfl | exact listed_fenceRing ..

theorem listed_fence (m : FaultMsg) (s : State) : (fence m s).ranger.listed = s.ranger.listed := by
  unfold fence
  split
  · rfl
  · dsimp only
    split
    · rfl
    · split
      · split <;> exact listed_raiseOnce ..
      · exact listed_fenceEffect ..

theorem ite_quiet {c : Prop} [Decidable c] {s t : State} (h : Quiet s t) : Quiet s (if c then t else s) := by
  split
  · exact h
  · exact .refl s

/-- The reaction to a fault leaves the supplies and the list (R475). -/
theorem react_leaves (m : FaultMsg) (code : Nat) (s : State) :
    (react m code s).power = s.power ∧ (react m code s).ranger.listed = s.ranger.listed := by
  unfold react
  extract_lets e _ u v w x y z
  have hv : v.power = s.power ∧ v.ranger.listed = s.ranger.listed := by
    simp only [v]
    split
    · exact ⟨(fence_keeps m u (.refl (fun p => p != .power) u)).power_eq, listed_fence m u⟩
    · exact ⟨rfl, rfl⟩
  have hw : Quiet v w := ite_quiet ⟨rfl, rfl, rfl⟩
  have hx : Quiet w x := ite_quiet (quiet_startTrip false w)
  have hy : Quiet x y := by
    simp only [y]
    split
    · exact quiet_smEvent ..
    · exact ite_quiet (quiet_smEvent ..)
  have hz : Quiet y z := ite_quiet (quiet_smEvent e y)
  have hall := hw.trans (hx.trans (hy.trans (hz.trans (quiet_reWhistle z))))
  obtain ⟨hpower, hlisted⟩ := hv
  exact ⟨hall.power.trans hpower, hall.listed.trans hlisted⟩

/-- The reaction to a fault below DEGRADE (R475). -/
theorem react_low {code : Nat} (h : code < 3) (m : FaultMsg) (s : State) :
    react m code s = reWhistle { s with sawyer := { s.sawyer with trigSev := max s.sawyer.trigSev (code + 1) } } := by
  unfold react
  dsimp only
  rw [if_neg (Nat.not_le.2 h), if_neg (by omega), if_neg (by omega), if_neg (by omega), if_neg (by omega), if_neg (by omega)]

theorem offerCapture_leaves (m : FaultMsg) (s : State) : ∃ f t, offerCapture m s = { s with ranger := { s.ranger with firstFault := f, firstTrip := t } } := by
  unfold offerCapture
  dsimp only
  split <;> split <;> exact ⟨_, _, rfl⟩

theorem enterQ24_leaves (code : Nat) (r : TallyRec) (s : State) :
    ∃ q n l, enterQ24 code r s = { s with ranger := { s.ranger with q24 := q, noRoom := n, lostPending := l } } := by
  unfold enterQ24
  generalize (if 3 ≤ code && code ≤ 5 then 1024 else 896) = room
  split <;> exact ⟨_, _, _, rfl⟩

/-! ### Messages (R470, R472, R476) -/

theorem findFault_congr {s t : State} (h : t.ranger.active = s.ranger.active) (m : FaultMsg) : t.findFault m = s.findFault m := by
  unfold State.findFault
  rw [h]

theorem received_listFault (m : FaultMsg) (s : State) : (listFault m s).ranger.received = s.ranger.received ∧ (listFault m s).power = s.power := by
  unfold listFault
  dsimp only
  split
  · exact ⟨rfl, rfl⟩
  · split
    · exact ⟨rfl, rfl⟩
    · split <;> exact ⟨rfl, rfl⟩

/-- A fault that is new is listed behind the others while there is room (R474). -/
theorem listFault_new {m : FaultMsg} {s : State} (hcode : FaultMsgCode m ≠ 0) (hroom : s.ranger.active.length < 512) : listFault m s =
    { s with ranger := { s.ranger with active := s.ranger.active ++ [{ msg := m, raised := m.cycle, graceFrom := s.core.cycle, lastStamp := m.cycle }] } } := by
  unfold listFault
  dsimp only
  rw [if_neg hcode, if_pos hroom]

/-- A message counts, and leaves the supplies (R472). -/
theorem receiveRaise_counts (m : FaultMsg) (s : State) :
    (receiveRaise m s).ranger.received = inc32 s.ranger.received ∧ (receiveRaise m s).power = s.power := by
  unfold receiveRaise
  extract_lets m' code r u v
  obtain ⟨f, t, hv⟩ := offerCapture_leaves m' u
  have hv : v = _ := hv
  have hreact : ∀ w : State, w.ranger.received = inc32 s.ranger.received → w.power = s.power →
      (react m' code w).ranger.received = inc32 s.ranger.received ∧ (react m' code w).power = s.power := fun w hr hp => by
    obtain ⟨hpower, hlisted⟩ := react_leaves m' code w
    exact ⟨(congrArg Ranger.received hlisted).trans hr, hpower.trans hp⟩
  have henter : ∀ r, (enterQ24 code r v).ranger.received = inc32 s.ranger.received ∧ (enterQ24 code r v).power = s.power := fun r => by
    obtain ⟨q, n, l, hq⟩ := enterQ24_leaves code r v
    rw [hq, hv]
    exact ⟨rfl, rfl⟩
  split
  · split
    · rw [hv]
      exact ⟨rfl, rfl⟩
    · obtain ⟨hr, hp⟩ := henter (v.record 0x0001 m'.injected (faultBody m' (_ + 1) _))
      dsimp only
      split
      · exact hreact _ hr hp
      · exact ⟨hr, hp⟩
  · obtain ⟨hr, hp⟩ := henter (v.record 0x0001 m'.injected (faultBody m' 1 0xFF))
    obtain ⟨hr', hp'⟩ := received_listFault m' (enterQ24 code (v.record 0x0001 m'.injected (faultBody m' 1 0xFF)) v)
    exact hreact _ (hr'.trans hr) (hp'.trans hp)

/-- A new fault below DEGRADE is listed; nothing else of the module moves (R474, R475). -/
theorem receiveRaise_lists {m : FaultMsg} {v : Sev} {s : State} (hsev : m.sev = some v) (h1 : 1 ≤ v.code) (h2 : v.code ≤ 2) (hnew : s.findFault m = none)
    (hroom : s.ranger.active.length < 512) : (receiveRaise m s).core = s.core ∧ (receiveRaise m s).fb = s.fb ∧
      ∃ a : ActiveFault, (receiveRaise m s).ranger.active = s.ranger.active ++ [a] ∧ a.msg = { m with cycle := s.stamped m.cycle } ∧ a.count = 1 ∧ a.acked = false ∧
        a.graceFrom = s.core.cycle := by
  unfold receiveRaise
  extract_lets m' code r u w
  obtain ⟨f, t, hw⟩ := offerCapture_leaves m' u
  have hw : w = _ := hw
  have hcode : code = v.code := by simp only [code, m', FaultMsgCode, hsev]
  have hfind : w.findFault m' = none := (findFault_congr (s := s) (by rw [hw]) m').trans hnew
  rw [hfind]
  dsimp only
  obtain ⟨q, n, l, hq⟩ := enterQ24_leaves code (w.record 0x0001 m'.injected (faultBody m' 1 0xFF)) w
  have hlist := listFault_new (m := m') (s := enterQ24 code (w.record 0x0001 m'.injected (faultBody m' 1 0xFF)) w) (by show code ≠ 0; omega)
    (by rw [hq, hw]; exact hroom)
  rw [hlist, react_low (by omega), hq, hw]
  exact ⟨rfl, rfl, _, rfl, rfl, rfl, rfl, rfl⟩

/-- What the clear of an active fault ends once the fault is off the list (R32, R272). -/
def afterClear (was : Bool) (m : FaultMsg) (s : State) : State :=
  let s := if was && !s.degraded then smEvent { kind := .degradeCleared, fault := m.kind, source := m.source } s else s
  let s := match s.core.opState with
    | .isolated | .precheck | .service => if s.fb.tripPcs then releaseTrip s else s
    | _ => s
  reWhistle s

theorem quiet_afterClear (was : Bool) (m : FaultMsg) (s : State) : Quiet s (afterClear was m s) := by
  unfold afterClear
  extract_lets u v
  have hu : Quiet s u := ite_quiet (quiet_smEvent ..)
  have hv : Quiet u v := by
    simp only [v]
    split
    · exact ite_quiet (quiet_releaseTrip u)
    · exact ite_quiet (quiet_releaseTrip u)
    · exact ite_quiet (quiet_releaseTrip u)
    · exact .refl u
  exact hu.trans (hv.trans (quiet_reWhistle v))

/-- A message counted and kept among the last sixteen (R472). -/
def noteMessage (m : FaultMsg) (s : State) : State :=
  { s with ranger := { s.ranger with received := inc32 s.ranger.received, last16 := keepN 16 (m :: s.ranger.last16) } }

/-- The list of active faults less one of them. -/
def unlist (i : Nat) (s : State) : State := { s with ranger := { s.ranger with active := s.ranger.active.eraseIdx i } }

theorem receiveClear_active {m : FaultMsg} {i : Nat} {a : ActiveFault} {s : State} (hfind : s.findFault m = some i) (hget : s.ranger.active[i]? = some a) :
    receiveClear m s = afterClear s.degraded m (unlist i (enterQ24 7 ((noteMessage m s).record 0x0003 m.injected (faultBody m a.count a.code)) (noteMessage m s))) := by
  unfold receiveClear
  dsimp only
  split
  next hnone => cases hnone.symm.trans (show (noteMessage m s).findFault m = some i from hfind)
  next j hsome =>
    cases hsome.symm.trans (show (noteMessage m s).findFault m = some i from hfind)
    split
    next hnone => cases hnone.symm.trans hget
    next b hsome =>
      cases hsome.symm.trans hget
      rfl

/-- The clear of an active fault takes it off the list (R470). -/
theorem receiveClear_unlists {m : FaultMsg} {i : Nat} {a : ActiveFault} {s : State} (hfind : s.findFault m = some i) (hget : s.ranger.active[i]? = some a) :
    (receiveClear { m with sev := none } s).ranger.received = inc32 s.ranger.received ∧
      (receiveClear { m with sev := none } s).ranger.active = s.ranger.active.eraseIdx i := by
  have hfind' : s.findFault { m with sev := none } = some i := hfind
  rw [receiveClear_active hfind' hget]
  generalize (noteMessage { m with sev := none } s).record _ _ _ = r
  obtain ⟨q, n, l, hq⟩ := enterQ24_leaves 7 r (noteMessage { m with sev := none } s)
  have hquiet := quiet_afterClear s.degraded { m with sev := none } (unlist i (enterQ24 7 r (noteMessage { m with sev := none } s)))
  obtain ⟨-, -, hlisted⟩ := hquiet
  have hr := congrArg Ranger.received hlisted
  have ha := congrArg Ranger.active hlisted
  rw [hq] at hr ha ⊢
  exact ⟨hr, ha⟩

/-! ### The Ranger's list and its watchdog (R470 to R484) -/

theorem exec_faultMessage {m : FaultMsg} {v : Sev} (hsev : m.sev = some v) (s : State) : exec (.faultMessage (some m)) s = .next (receiveRaise m s) := by
  show execFaultMessage (some m) s = _
  simp only [execFaultMessage, hsev]

theorem exec_faultMessage_outbox {m : FaultMsg} {l : List FaultMsg} {v : Sev} {s : State} (hbox : s.ranger.outbox = m :: l) (hsev : m.sev = some v) :
    exec (.faultMessage none) s = exec (.faultMessage (some m)) { s with ranger := { s.ranger with outbox := l } } := by
  have hpop : popOutbox s = { s with ranger := { s.ranger with outbox := l } } := by simp only [popOutbox, hbox, List.tail_cons]
  rw [exec_faultMessage hsev, ← hpop]
  show execFaultMessage none s = _
  simp only [execFaultMessage, hbox, hsev]

theorem gives_faultMessage {m : FaultMsg} {v : Sev} (hsev : m.sev = some v) (s : State) : Gives (.faultMessage (some m)) s fun t =>
    t.ranger.received = inc32 s.ranger.received ∧
    (1 ≤ v.code → v.code ≤ 2 → s.findFault m = none → s.ranger.active.length < 512 → t.core = s.core ∧ t.fb = s.fb ∧ ∃ a : ActiveFault, t.ranger.active = s.ranger.active ++ [a] ∧
      a.msg = { m with cycle := s.stamped m.cycle } ∧ a.count = 1 ∧ a.acked = false ∧ a.graceFrom = s.core.cycle) :=
  ⟨_, exec_faultMessage hsev s, (receiveRaise_counts m s).1, fun h1 h2 hnew hroom => receiveRaise_lists hsev h1 h2 hnew hroom⟩

theorem exec_faultAcknowledge {m : FaultMsg} {i : Nat} {a : ActiveFault} {s : State} (hfind : s.findFault m = some i) (hget : s.ranger.active[i]? = some a) :
    exec (.faultAcknowledge m) s = .next (s.setFault i { a with acked := true }) := by
  show execFaultAcknowledge m s = _
  simp only [execFaultAcknowledge, hfind, hget]

theorem exec_graceExpiry {m : FaultMsg} {i : Nat} {a : ActiveFault} {s : State} (hfind : s.findFault m = some i) (hget : s.ranger.active[i]? = some a)
    (hacked : a.acked = false) (hceiling : a.code < s.ceiling a.msg.kind a.code) (hgrace : s.passed a.graceFrom (s.grace a.msg.kind) = true) :
    exec (.graceExpiry m) s = .next (escalate i a s) := by
  show execGraceExpiry m s = _
  simp only [execGraceExpiry, hfind, hget, hacked, hceiling, hgrace]
  rfl

/-- An escalation raises the fault one severity where it stands in the list (R476). -/
theorem escalate_raises {i : Nat} {a : ActiveFault} {s : State} (hget : s.ranger.active[i]? = some a) :
    (escalate i a s).ranger.escalations = inc32 s.ranger.escalations ∧ ∃ b, (escalate i a s).ranger.active[i]? = some b ∧
      b.msg.sev = some (Sev.ofCode (a.code + 1)) ∧ b.escalated = true ∧ b.acked = false ∧ b.graceFrom = s.core.cycle := by
  unfold escalate
  extract_lets _ m _ u v w
  obtain ⟨f, t, hv⟩ := offerCapture_leaves m u
  obtain ⟨q, n, l, hw⟩ := enterQ24_leaves (a.code + 1) (v.record 0x0002 m.injected (faultBody m a.count a.code)) v
  have hw : w = _ := hw
  have hv : v = _ := hv
  generalize hb : ({ a with msg := { a.msg with sev := m.sev }, escalated := true, acked := false, graceFrom := w.core.cycle } : ActiveFault) = b
  obtain ⟨-, hlisted⟩ := react_leaves m (a.code + 1) (w.setFault i b)
  have hlen : i < s.ranger.active.length := (List.getElem?_eq_some_iff.1 hget).1
  have hactive : w.ranger.active = s.ranger.active := by rw [hw, hv]
  refine ⟨?_, b, ?_, ?_⟩
  · refine (congrArg Ranger.escalations hlisted).trans ?_
    show w.ranger.escalations = _
    rw [hw, hv]
  · refine (congrArg (fun r => r.active[i]?) hlisted).trans ?_
    show (w.ranger.active.set i b)[i]? = some b
    rw [hactive, List.getElem?_set_self hlen]
  · subst hb
    exact ⟨rfl, rfl, rfl, by show w.core.cycle = s.core.cycle; rw [hw, hv]⟩

theorem gives_listedFault {m : FaultMsg} {i : Nat} {a : ActiveFault} {s : State} (hfind : s.findFault m = some i) (hget : s.ranger.active[i]? = some a) :
    Gives (.faultClear (some m)) s (fun t => t.ranger.received = inc32 s.ranger.received ∧ t.ranger.active = s.ranger.active.eraseIdx i) ∧
    exec (.faultAcknowledge m) s = .next (s.setFault i { a with acked := true }) ∧
    (a.acked = false → a.code < s.ceiling a.msg.kind a.code → s.passed a.graceFrom (s.grace a.msg.kind) = true → Gives (.graceExpiry m) s fun t =>
      t.ranger.escalations = inc32 s.ranger.escalations ∧ ∃ b, t.ranger.active[i]? = some b ∧ b.msg.sev = some (Sev.ofCode (a.code + 1)) ∧
        b.escalated = true ∧ b.acked = false ∧ b.graceFrom = s.core.cycle) :=
  ⟨⟨_, rfl, receiveClear_unlists hfind hget⟩, exec_faultAcknowledge hfind hget,
    fun hacked hceiling hgrace => ⟨_, exec_graceExpiry hfind hget hacked hceiling hgrace, escalate_raises hget⟩⟩

theorem gives_captureClose {m : FaultMsg} {s : State} (hmsg : s.ranger.firstFault.msg = some m) (hopen : s.ranger.firstFault.open_ = true)
    (hpassed : s.passed s.ranger.firstFault.cycle 2 = true) : Gives .firstFaultCaptureClose s fun t =>
      t.ranger.firstFault = { s.ranger.firstFault with open_ := false } := by
  have hclose : (closeCapture 0 s.ranger.firstFault s).1 = { s.ranger.firstFault with open_ := false } := by
    simp only [closeCapture, hmsg, hopen, hpassed, Bool.and_self, if_true]
  have hlast : ∀ (c : Capture) (u : State), (closeCapture 1 c u).2.ranger.firstFault = u.ranger.firstFault := fun c u => by
    unfold closeCapture
    (repeat' split) <;> first | rfl | exact congrArg Ranger.firstFault (State.tell_keeps u _ _ (.refl (fun p => p = .tally) u)).ranger_eq
  exact ⟨_, rfl, (hlast ..).trans hclose⟩

theorem exec_watchdogService (s : State) : exec (.watchdogService (if s.ranger.wdAlt then 0xA5A5 else 0x5A5A)) s
    = .next { s with ranger := { s.ranger with wdAlt := !s.ranger.wdAlt, wdServed := s.core.cycle } } := if_pos rfl
/-! ### The watchdog (R484, R550) -/

/-- What decides whether the unit counts itself in a pair. -/
def State.pairing (s : State) : Dict × Nat × BitVec 8 := (s.dict, s.pair.tether, s.pair.ready)

theorem inPair_pairing {s t : State} (h : t.pairing = s.pairing) : t.inPair = s.inPair := by
  obtain ⟨hdict, htether, hready⟩ : t.dict = s.dict ∧ t.pair.tether = s.pair.tether ∧ t.pair.ready = s.pair.ready := by
    simpa only [State.pairing, Prod.mk.injEq] using h
  unfold State.inPair
  rw [cfg_congr hdict, htether, hready]

theorem pairing_replicate (what : RepKind) (c : Cycle) (s : State) : (replicate what c s).pairing = s.pairing := by
  unfold replicate
  split <;> rfl

theorem pairing_beginRollback (auto : Bool) (s : State) : (beginRollback auto s).pairing = s.pairing := by
  unfold beginRollback
  dsimp only
  split
  · exact pairing_replicate ..
  · rfl

theorem pairing_raiseOnce (s : State) (source kind : Nat) (sev : Sev) (cls val : Nat) : (s.raiseOnce source kind sev cls val).pairing = s.pairing := by
  unfold State.raiseOnce
  split <;> rfl

/-- A rollback that the module begins on its own leaves the supplies, the Ranger's list and what makes the pair (R550). -/
theorem rollBackOwn_leaves (s : State) : (rollBackOwn s).power = s.power ∧ (rollBackOwn s).ranger.listed = s.ranger.listed ∧ (rollBackOwn s).pairing = s.pairing := by
  refine ⟨(rollBackOwn_keeps s (.refl (fun p => p != .power) s)).power_eq, ?_, ?_⟩
  · unfold rollBackOwn
    split
    · rfl
    · rw [listed_raiseOnce, (beginRollback_keeps true s (.refl (fun p => p != .ranger) s)).ranger_eq]
  · unfold rollBackOwn
    split
    · rfl
    · rw [pairing_raiseOnce, pairing_beginRollback]

theorem watchdogAfterHandOver_leaves (s : State) : (watchdogAfterHandOver s).power = s.power ∧
    (watchdogAfterHandOver s).ranger.listed = s.ranger.listed ∧ (watchdogAfterHandOver s).pairing = s.pairing := by
  unfold watchdogAfterHandOver
  split
  · exact rollBackOwn_leaves ..
  · exact ⟨rfl, rfl, rfl⟩

/-- What every watchdog expiry notes (R484, R506, R550). -/
def noteExpiry (s : State) : State :=
  watchdogAfterHandOver { s with ranger := { s.ranger with wdExpired := true, wdExpiries := inc32 s.ranger.wdExpiries, whistle := false },
                                 power := { s.power with restartPending := some (1, 0xFFFF) } }

theorem noteExpiry_leaves (s : State) : (noteExpiry s).power = { s.power with restartPending := some (1, 0xFFFF) } ∧
    (noteExpiry s).ranger.wdExpired = true ∧ (noteExpiry s).ranger.wdExpiries = inc32 s.ranger.wdExpiries ∧ (noteExpiry s).inPair = s.inPair := by
  obtain ⟨hpower, hlisted, hpairing⟩ := watchdogAfterHandOver_leaves
    { s with ranger := { s.ranger with wdExpired := true, wdExpiries := inc32 s.ranger.wdExpiries, whistle := false },
             power := { s.power with restartPending := some (1, 0xFFFF) } }
  exact ⟨hpower, congrArg Ranger.wdExpired hlisted, congrArg Ranger.wdExpiries hlisted, inPair_pairing hpairing⟩

/-- A watchdog expiry asks for a restart; in a pair it lets go of the coils and the ring, alone it trips (R439, R484). -/
theorem gives_watchdogExpired {s : State} (hruns : s.coreRuns = true) (hpassed : s.passed s.ranger.wdServed (s.cfg 0x8802 2) = true) :
    Gives .watchdogExpired s fun t => t.power.restartPending = some (1, 0xFFFF) ∧ t.ranger.wdExpired = true ∧ t.ranger.wdExpiries = inc32 s.ranger.wdExpiries ∧
      (s.inPair = true → t.fe.kp.coil = .off ∧ t.fe.kn.coil = .off ∧ t.ring.originating = false) := by
  obtain ⟨hpower, hexpired, hcount, hpair⟩ := noteExpiry_leaves s
  have hexec : exec .watchdogExpired s = _ := if_pos (by rw [hruns, hpassed]; rfl)
  have hring : ∀ u : State, Quiet u (setRing .relay u) := fun u =>
    have hk := setRing_keeps .relay u (.refl (fun p => p = .ring) u)
    ⟨hk.power_eq, originating_setRing .relay u, congrArg Ranger.listed hk.ranger_eq⟩
  change _ = if (noteExpiry s).inPair = true then _ else _ at hexec
  cases hin : s.inPair with
  | true =>
    rw [if_pos (hpair.trans hin)] at hexec
    refine ⟨_, hexec, (congrArg Power.restartPending (hring _).power).trans (congrArg Power.restartPending hpower),
      (congrArg Ranger.wdExpired (hring _).listed).trans hexpired, (congrArg Ranger.wdExpiries (hring _).listed).trans hcount, fun _ => ⟨?_, ?_, (hring _).originating⟩⟩
    · exact congrArg (fun f => f.kp.coil) (setRing_keeps .relay _ (.refl (fun p => p = .ring) _)).fe_eq
    · exact congrArg (fun f => f.kn.coil) (setRing_keeps .relay _ (.refl (fun p => p = .ring) _)).fe_eq
  | false =>
    rw [if_neg (by rw [hpair, hin]; exact Bool.false_ne_true)] at hexec
    have hquiet := quiet_startTrip false (noteExpiry s)
    exact ⟨_, hexec, congrArg Power.restartPending (hquiet.power.trans hpower), (congrArg Ranger.wdExpired hquiet.listed).trans hexpired,
      (congrArg Ranger.wdExpiries hquiet.listed).trans hcount, nofun⟩

/-! ### Provoked faults (R486) and the Tally (R491) -/

theorem gives_provokedFaultStart {n : Nat} {s : State} (hn : n ≤ 6) (harmed : (s.injector n).state = 1) (hsince : s.since (s.injector n).start < 2 ^ 31) :
    Gives (.provokedFaultStart n) s fun t => (t.injector n).state = if s.mayInject then 2 else 4 := by
  have hexec : exec (.provokedFaultStart n) s = if !s.mayInject then .next (endInjection 4 n s) else
      .next (drillReadiness n (tellInject 2 n (s.modInject n fun i => { i with state := 2 }))) := by
    refine if_neg ?_
    simp only [harmed, Bool.or_eq_true, decide_eq_true_eq, bne_self_eq_false, Bool.false_eq_true, or_false, not_or, Nat.not_lt, Nat.not_le]
    exact ⟨hn, hsince⟩
  cases hmay : s.mayInject with
  | false =>
    rw [hmay] at hexec
    exact ⟨_, hexec, state_endInjection 4 n s⟩
  | true =>
    rw [hmay] at hexec
    have hdrill := fun u : State => (drillReadiness_keeps n u (.refl (fun p => p != .inject) u)).inject_eq
    have htell := fun u : State => (tellInject_keeps 2 n u (.refl (fun p => p != .inject) u)).inject_eq
    refine ⟨_, hexec, (congrArg Inject.state (injector_congr ((hdrill _).trans (htell _)) n)).trans ?_⟩
    rw [injector_modInject, if_pos rfl]
    rfl

theorem gives_provokedFaultEnd {n : Nat} {s : State} (hn : n ≤ 6) (hruns : (s.injector n).state = 2)
    (hdue : s.injectCfg n 11 ≤ s.since (s.injector n).start) (hsince : s.since (s.injector n).start < 2 ^ 31) (hheld : (s.injector n).heldFrames = []) :
    Gives (.provokedFaultEnd n) s fun t => (t.injector n).state = 3 := by
  refine ⟨_, if_pos ?_, state_endInjection_released 3 hheld⟩
  simp only [hn, hruns, hdue, hsince, decide_true, Bool.and_self]

/-- A record written takes the next sequence (R490, R491). -/
theorem writeRecord_tally (s : State) (r : TallyRec) : (writeRecord s r).tally.q25 = s.tally.q25 ∧ (writeRecord s r).tally.lost = s.tally.lost ∧
    (writeRecord s r).tally.seq = (s.tally.seq + 1) % 2 ^ 32 := by
  have hw : (wrote 2 r.size s).tally = s.tally := tally_wrote ..
  unfold writeRecord
  dsimp only
  rw [hw]
  split
  · exact ⟨rfl, rfl, rfl⟩
  · split <;> exact ⟨rfl, rfl, rfl⟩

theorem gives_tallyWrite {r : TallyRec} {s : State} (hwrites : s.tallyWrites = true) (hq : s.tally.q25 = [r]) (hlost : s.tally.lost = 0) :
    Gives .tallyWrite s fun t => t.tally.q25 = [] ∧ t.tally.seq = (s.tally.seq + 1) % 2 ^ 32 := by
  obtain ⟨hq25, hlost', hseq⟩ := writeRecord_tally { s with tally := { s.tally with q25 := [] } } r
  have hexec : exec .tallyWrite s = .next (writeRecord { s with tally := { s.tally with q25 := [] } } r) := by
    refine (if_pos hwrites).trans ?_
    dsimp only
    rw [hq, List.foldl_cons, List.foldl_nil, if_pos (hlost'.trans hlost)]
  exact ⟨_, hexec, hq25, hseq⟩
/-! ### Starts (R31, R484, R504) -/

/-- The module is OFF and no event has been taken. -/
structure Dark (s : State) : Prop where
  state : s.core.opState = .off
  taken : s.core.taken = none

theorem Dark.of_core {s t : State} (h : Dark s) (hc : t.core = s.core) : Dark t := ⟨hc ▸ h.state, hc ▸ h.taken⟩

/-- An event of a fault waits while the module is OFF (R31). -/
theorem dark_smEvent {e : SmEvent} {s : State} (h : Dark s) (hkind : e.kind = .tripFault ∨ e.kind = .degrade) : Dark (smEvent e s) := by
  have hrow : smTarget s s.core.opState e = none := by
    unfold smTarget smRow
    rw [h.state]
    rcases hkind with hk | hk <;> rw [hk]
  have hrequest : e.kind.request = false := by rcases hkind with hk | hk <;> rw [hk] <;> rfl
  unfold smEvent
  rw [h.taken]
  dsimp only
  rw [hrow]
  dsimp only
  rw [hrequest]
  exact ⟨h.state, h.taken⟩

/-- The reaction to a fault at TRIP that fences nothing leaves the module OFF. -/
theorem dark_react {m : FaultMsg} {s : State} (h : Dark s) (hfence : fenceClass m.kind = none) : Dark (react m 4 s) := by
  unfold react
  extract_lets e _ u v w x y z
  have hv : v = u := by
    show fence m u = u
    unfold fence
    rw [hfence]
  have hx : Dark x := by
    have hk := startTrip_keeps false w (.refl (fun p => p = .fe || p = .fb) w)
    have hcore : v.core = u.core := congrArg (fun s : State => s.core) hv
    exact h.of_core (hk.core_eq.trans hcore)
  have hy : Dark y := dark_smEvent hx (.inl rfl)
  exact (dark_smEvent hy (.inr rfl) : Dark z).of_core rfl

/-- A message at TRIP that fences nothing leaves the module OFF. -/
theorem dark_receiveRaise {m : FaultMsg} {s : State} (h : Dark s) (hsev : m.sev = some .trip) (hfence : fenceClass m.kind = none) : Dark (receiveRaise m s) := by
  unfold receiveRaise
  extract_lets m' code r u v
  have hcode : code = 4 := by simp only [code, m', FaultMsgCode, hsev]; rfl
  obtain ⟨f, t, hv⟩ := offerCapture_leaves m' u
  have hv : v = _ := hv
  have hq : ∀ r, (enterQ24 code r v).core = s.core := fun r => by
    obtain ⟨q, n, l, hq⟩ := enterQ24_leaves code r v
    rw [hq, hv]
  have hlist : ∀ w : State, (listFault m' w).core = w.core := fun w => (listFault_keeps m' w (.refl (fun p => p != .core) w)).core_eq
  have hreact : ∀ w : State, w.core = s.core → Dark (react m' code w) := fun w hw => hcode ▸ dark_react (h.of_core hw) hfence
  split
  · split
    · exact h.of_core (by rw [hv])
    · dsimp only
      split
      · exact hreact _ (hq _)
      · exact h.of_core (hq _)
  · exact hreact _ ((hlist _).trans (hq _))

/-- What the Tally is told at a start leaves the module OFF and the supplies as they are but for the restart's note (R484, R494, R506). -/
theorem tellStart_leaves {s : State} (h : Dark s) : Dark (tellStart s) ∧ ∃ n, (tellStart s).power = { s.power with note := n } := by
  unfold tellStart
  extract_lets back src _ u v
  have hu : Dark u ∧ u.power = s.power := by
    simp only [u]
    split
    · generalize hm : ({ source := src, kind := 0xB1, sev := some .trip, cycle := s.core.cycle } : FaultMsg) = m
      have hsev : m.sev = some .trip := by rw [← hm]
      have hfence : fenceClass m.kind = none := by rw [← hm]; rfl
      have hw : Dark { s with ranger := { s.ranger with wdExpired := false } } := ⟨h.state, h.taken⟩
      have hk := fun w : State => (State.clearFault_keeps (drainQ24 w) src 0xB1 0 0 (drainQ24_keeps w (.refl (fun p => p = .ranger || p = .tally) w)))
      exact ⟨(dark_receiveRaise hw hsev hfence).of_core (hk _).core_eq, (hk _).power_eq.trans (receiveRaise_counts m _).2⟩
    · exact ⟨h, rfl⟩
  have hv : Dark v ∧ v.power = s.power := by
    simp only [v]
    split
    · exact hu
    · have hk := queueRecords_keeps back _ (State.tellEvent_keeps u 0x0070 3 0xFFFF (le 4 back.length) (.refl (fun p => p = .tally) u))
      exact ⟨hu.1.of_core hk.core_eq, hk.power_eq.trans hu.2⟩
  obtain ⟨hdark, hpower⟩ := hv
  split
  · exact ⟨hdark, s.power.note, hpower⟩
  next cause sess _ =>
    have hk := State.report_keeps _ 0x070 0xCD .info 5 cause (State.tellEvent_keeps { v with power := { v.power with note := none } } 0x0080 3 cause (le 2 sess)
      (.refl (fun p => p = .tally || p = .ranger) _))
    refine ⟨hdark.of_core hk.core_eq, none, hk.power_eq.trans ?_⟩
    rw [hpower]
/-- The start of the domains leaves the supplies' values (R504). -/
theorem startDomains_power (s : State) : ∃ d b, (startDomains s).power = { s.power with domains := d, boot := b } := by
  unfold startDomains
  extract_lets u _ _ _ v w x y _ z
  have hw : Keeps (fun p => p != .power) v w := keeps_ite (State.raiseOnce_keeps v _ _ _ _ _ (.refl _ v)) (.refl _ v)
  have hx : Keeps (fun p => p != .power) v x := keeps_foldl (fun t ch ht => keeps_ite (setChannel_keeps ch true t ht) ht) hw
  have hy : Keeps (fun p => p != .power) v y := keeps_foldl (fun t o ht => schedulePulse_keeps o t ht) hx
  have hz : Keeps (fun p => p != .power) v z := by
    refine keeps_ite (startEnumeration_keeps y hy) (setRing_keeps .relay _ (keeps_ring hy rfl _))
  exact ⟨_, _, (latchAgain_keeps z hz).power_eq⟩

theorem startDomains_core (s : State) : (startDomains s).core = s.core := (startDomains_keeps s (.refl (fun p => p != .core) s)).core_eq

theorem startDomains_lookout (s : State) : (startDomains s).lookout = s.lookout := (startDomains_keeps s (.refl (fun p => p != .lookout) s)).lookout_eq

theorem ite_startDomains (c : Prop) [Decidable c] (s : State) : (if c then startDomains s else s).core = s.core ∧
    ∃ d b, (if c then startDomains s else s).power = { s.power with domains := d, boot := b } := by
  split
  · exact ⟨startDomains_core s, startDomains_power s⟩
  · exact ⟨rfl, s.power.domains, s.power.boot, rfl⟩

/-- An AUX input at 18 V takes the module from OFF to BOOT (R31, R498). -/
theorem gives_supplyPresent {a1 : Nat} {s : State} (a2 bus v strap : Nat) (ok : Bool) (hoff : s.core.opState = .off) (haux : 18000 ≤ a1) :
    Gives (.supplyPresent a1 a2 bus v strap ok) s fun t => t.core.opState = .boot ∧ t.power.good = true ∧ t.power.powerCycles = add32 s.power.powerCycles 1 ∧
      t.power.onBackup = false := by
  have hguard : ¬ ((s.core.opState != .off || (a1 < 18000 && a2 < 18000 && v < 150)) = true) := by
    rw [hoff, decide_eq_false (Nat.not_lt.2 haux)]
    exact Bool.false_ne_true
  have hsource : (sourceOf a1 a2 = 3) = False := eq_false (by unfold sourceOf; rw [if_pos haux]; split <;> decide)
  obtain ⟨o, hexec⟩ : ∃ o, execSupplyPresent a1 a2 bus v strap ok s = o := ⟨_, rfl⟩
  have hnext := hexec
  unfold execSupplyPresent at hnext
  rw [if_neg hguard] at hnext
  extract_lets p _ _ _ q x y z w at hnext
  have hq : Dark q := ⟨hoff, rfl⟩
  obtain ⟨hx, n, hxp⟩ := tellStart_leaves hq
  have hy : Keeps (fun p => p = .ranger) x y := keeps_ite (State.raiseOnce_keeps x _ _ _ _ _ (.refl _ x)) (.refl _ x)
  have hz : Keeps (fun p => p = .ranger) x z := keeps_ite (State.raiseOnce_keeps y _ _ _ _ _ hy) hy
  have hguarded := guardEnvelope_keeps z (.refl (fun p => p = .canopy || p = .ranger) z)
  have hstate : w.core.opState = .boot := by
    refine opState_freshEvent nofun fun u _ => ?_
    rw [hguarded.core_eq, hz.core_eq, hx.state]
    rfl
  have hpower : w.power = { q.power with note := n } :=
    (quiet_freshEvent ..).power.trans (hguarded.power_eq.trans (hz.power_eq.trans hxp))
  obtain ⟨hcore, d, b, hdomains⟩ := ite_startDomains (w.seat.state = 2) w
  refine ⟨_, hexec.trans hnext.symm, (congrArg Core.opState hcore).trans hstate, ?_⟩
  rw [hdomains, hpower]
  exact ⟨rfl, rfl, decide_eq_false hsource.mp⟩
theorem gives_bootComplete {s : State} (hboot : s.core.opState = .boot) (hbooted : s.booted = true) (hrole : s.pair.role = .single ∨ s.pair.role = .active) :
    Gives .bootComplete s fun t => t.core.opState = if s.core.lockoutLatched then .lockout else .isolated := by
  have hstarting : s.starting = true := by unfold State.starting; rw [hboot]; rfl
  have hexec : exec .bootComplete s = .next (bootOutputs (freshEvent { kind := .bootComplete } s)) := by
    show execBootComplete s = _
    unfold execBootComplete
    rw [hstarting, hbooted, hboot]
    rcases hrole with hr | hr <;> rw [hr] <;> rfl
  refine ⟨_, hexec, ?_⟩
  have hout := (bootOutputs_keeps (freshEvent { kind := .bootComplete } s) (.refl (fun p => p != .core) _)).core_eq
  refine (congrArg Core.opState hout).trans (opState_freshEvent nofun fun u hu => ?_)
  rw [hboot, ← hu]
  rfl

/-! ### Sources (R499) -/

theorem setSource_power (n : Nat) (s : State) : (setSource n s).power = { s.power with source := n } := by
  unfold setSource
  split
  next h => rw [← h]
  · exact (State.tellEvent_keeps _ 0x0080 1 0 _ (.refl (fun p => p = .tally) _)).power_eq

theorem setSource_ranger (n : Nat) (s : State) : (setSource n s).ranger = s.ranger := (setSource_keeps n s (.refl (fun p => p != .ranger) s)).ranger_eq

theorem dropPullIn_drops (s : State) : (dropPullIn s).fe.kp.coil ≠ .pullIn ∧ (dropPullIn s).fe.kn.coil ≠ .pullIn := by
  unfold dropPullIn
  dsimp only
  constructor <;> split <;> simp_all

/-- The loss of a source (R499): the changeover when the backup can take over, else POWER-GOOD is about to fall. -/
theorem gives_sourceLoss {s : State} (v : Nat) (fault : Bool) (hgood : s.power.good = true) (hlost : s.power.lost = false) (hover : s.power.changeover = none) :
    Gives (.sourceLoss v fault) s fun t => t.power.vHvb = v ∧
    (150 ≤ v → fault = false → s.power.onBackup = false → t.power.changeover = some s.core.cycle ∧ t.power.lost = false ∧ t.fe.kp.coil ≠ .pullIn ∧
      t.fe.kn.coil ≠ .pullIn) ∧
    (v < 150 ∨ fault = true ∨ s.power.onBackup = true → t.power.changeover = none ∧ t.power.lost = true) := by
  obtain ⟨o, hexec⟩ : ∃ o, execSourceLoss v fault s = o := ⟨_, rfl⟩
  have hnext := hexec
  unfold execSourceLoss at hnext
  rw [if_neg (by rw [hgood, hlost, hover]; exact Bool.false_ne_true)] at hnext
  extract_lets _ u w at hnext
  have hw : Keeps (fun p => p = .ranger) u w := keeps_ite (State.raiseOnce_keeps u _ _ _ _ _ (.refl _ u)) (State.clearOnce_keeps u _ _ _ _ (.refl _ u))
  have hpower : w.power = u.power := hw.power_eq
  by_cases h : 150 ≤ v ∧ fault = false ∧ s.power.onBackup = false
  · obtain ⟨hv, hfault, hmain⟩ := h
    have havail : (u.power.backupAvail && !u.power.onBackup) = true := by
      show (decide (150 ≤ v) && !fault && !s.power.onBackup) = true
      rw [hfault, hmain, decide_eq_true hv]
      rfl
    rw [hpower, if_pos havail] at hnext
    have hmotion := fun x : State => motionToBackup_keeps (dropPullIn x) (.refl (fun p => p = .axes || p = .ranger) _)
    have hdrop := fun x : State => (dropPullIn_keeps x (.refl (fun p => p = .fe) _)).power_eq
    refine ⟨_, hexec.trans hnext.symm, ?_⟩
    dsimp only
    rw [(hmotion _).power_eq, hdrop, (hmotion _).fe_eq]
    refine ⟨congrArg Power.vHvb hpower,
      fun _ _ _ => ⟨congrArg (fun c : Core => some c.cycle) hw.core_eq, (congrArg Power.lost hpower).trans hlost, dropPullIn_drops _⟩, fun hcannot => ?_⟩
    rcases hcannot with hlow | hbad | hbackup
    · exact absurd hv (Nat.not_le.2 hlow)
    · cases hfault.symm.trans hbad
    · cases hmain.symm.trans hbackup
  · have havail : ¬ (u.power.backupAvail && !u.power.onBackup) = true := by
      show ¬ (decide (150 ≤ v) && !fault && !s.power.onBackup) = true
      simp only [Bool.and_eq_true, decide_eq_true_eq, Bool.not_eq_true']
      exact fun ⟨⟨hv, hf⟩, hm⟩ => h ⟨hv, hf, hm⟩
    rw [hpower, if_neg havail] at hnext
    exact ⟨_, hexec.trans hnext.symm, congrArg Power.vHvb hpower, fun hv hf hm => absurd ⟨hv, hf, hm⟩ h,
      fun _ => ⟨(congrArg Power.changeover hpower).trans hover, rfl⟩⟩

theorem gives_backupRegulating {s : State} {c : Cycle} (bus : Nat) (hgood : s.power.good = true) (hover : s.power.changeover = some c) :
    Gives (.backupRegulating bus) s fun t => t.power.onBackup = true ∧ t.power.changeover = none ∧ t.power.bus = bus ∧ t.power.source = 3 ∧
      t.power.changeovers = add32 s.power.changeovers 1 := by
  refine ⟨_, if_neg (by rw [hgood, hover]; exact Bool.false_ne_true), ?_⟩
  dsimp only [toBackup]
  rw [setSource_power, (State.raiseOnce_keeps _ 0x070 0xC1 .notice 0 0 (.refl (fun p => p = .ranger) _)).power_eq]
  exact ⟨rfl, rfl, rfl, rfl, rfl⟩

theorem motionDomain_power (s : State) : ∃ d, (motionDomain s).power = { s.power with domains := d } := by
  unfold motionDomain
  split
  · exact ⟨s.power.domains, rfl⟩
  · exact ⟨s.power.domains, rfl⟩
  · exact ⟨s.power.domains, rfl⟩
  all_goals split
  all_goals first | exact ⟨s.power.domains, rfl⟩ | exact ⟨_, rfl⟩

theorem motionDomain_ranger (s : State) : (motionDomain s).ranger = s.ranger := (motionDomain_keeps s (.refl (fun p => p != .ranger) s)).ranger_eq

theorem raised_startHoming (a : Nat) (s : State) {source kind : Nat} (cls val : Nat) (h : kind ≠ 0x85) :
    (startHoming a s).raised source kind cls val = s.raised source kind cls val := by
  unfold startHoming
  split
  · rfl
  · split
    · rfl
    · extract_lets dir u
      rw [raised_congr (beginMoveAt_keeps a _ _ _ (.refl (fun p => p != .ranger) (u.clearOnce (srcAxis a) 0x85 5 a))).ranger_eq,
        raised_clearOnce_ne _ _ _ _ _ (.inr (.inl h.symm))]
      rfl

/-- The motion that goes on after AUX has returned raises nothing and clears only its own faults (R327). -/
theorem raised_motionFromBackup (s : State) {source kind : Nat} (cls val : Nat) (h : kind ≠ 0x85) (h' : kind ≠ 0x80) :
    (motionFromBackup s).raised source kind cls val = s.raised source kind cls val := by
  unfold motionFromBackup
  extract_lets one
  have hone : ∀ (l : List Nat) (u : State), (l.foldl one u).raised source kind cls val = u.raised source kind cls val := fun l => by
    induction l with
    | nil => exact fun u => rfl
    | cons a l ih =>
      intro u
      refine (ih _).trans ?_
      simp only [one]
      split
      · exact raised_startHoming a u cls val h
      · rfl
  rw [raised_congr (resumeWaiting_keeps _ (.refl (fun p => p != .ranger) _)).ranger_eq, raised_clearOnce_ne _ _ _ _ _ (.inr (.inl h'.symm)), hone]

theorem gives_auxReturn {a1 a2 : Nat} {s : State} (hgood : s.power.good = true) (hbackup : s.power.onBackup = true) (hsource : sourceOf a1 a2 ≠ 3) :
    Gives (.auxReturn a1 a2) s fun t => t.power.onBackup = false ∧ t.power.source = sourceOf a1 a2 ∧ t.raised 0x070 0xC1 0 0 = false := by
  refine ⟨_, if_neg (by rw [hgood, hbackup, decide_eq_false hsource]; exact Bool.false_ne_true), ?_⟩
  dsimp only
  generalize hu : ({ s with power := _ } : State) = u
  have hclear := (State.clearOnce_keeps u 0x070 0xC1 0 0 (.refl (fun p => p = .ranger) u)).power_eq
  obtain ⟨d, hdomain⟩ := motionDomain_power (setSource (sourceOf a1 a2) (u.clearOnce 0x070 0xC1 0 0))
  rw [(motionFromBackup_keeps _ (.refl (fun p => p = .axes || p = .ranger) _)).power_eq, hdomain, setSource_power, hclear,
    raised_motionFromBackup _ _ _ (by decide) (by decide), raised_congr (motionDomain_ranger _), raised_congr (setSource_ranger ..), raised_clearOnce, ← hu]
  exact ⟨rfl, rfl, rfl⟩
/-! ### The fall of POWER-GOOD and the end of a run (R500, R501, R503, R506) -/

theorem pd_setDomains_off {l : List Nat} {n : Nat} (s : State) (h : n ∈ l) : (s.setDomains l false).pd n = false := by
  have hoff : ∀ (l : List Nat) (d : BitVec 16), d.getLsbD n = false ∨ n ∈ l → (l.foldl (fun d n => setBit d n false) d).getLsbD n = false := fun l => by
    induction l with
    | nil => exact fun d h => h.resolve_right List.not_mem_nil
    | cons k l ih =>
      refine fun d h => ih _ ?_
      rw [getLsbD_setBit]
      split
      · exact .inl rfl
      next hne => exact h.imp_right fun h => (List.mem_cons.1 h).resolve_left (Ne.symm hne)
  exact hoff l s.power.domains (.inr h)

theorem ringOff_leaves (s : State) : (ringOff s).ring.originating = false ∧ (ringOff s).power = s.power ∧ (ringOff s).storage = s.storage ∧
    (ringOff s).core = s.core := by
  have hk := ringOff_keeps s (.refl (fun p => p = .ring) s)
  refine ⟨?_, hk.power_eq, hk.storage_eq, hk.core_eq⟩
  unfold ringOff
  rw [originating_setRing]

theorem gives_powerGoodFall {s : State} (hgood : s.power.good = true) (hlost : s.power.lost = true) : Gives .powerGoodFall s fun t =>
    t.power.good = false ∧ t.power.branch.isSome = true ∧ t.storage.queue = [] ∧ t.pd 2 = false ∧ t.ring.originating = false := by
  obtain ⟨o, hexec⟩ : ∃ o, execPowerGoodFall s = o := ⟨_, rfl⟩
  have hnext := hexec
  unfold execPowerGoodFall at hnext
  rw [if_neg (by rw [hgood, hlost]; exact Bool.false_ne_true)] at hnext
  extract_lets branch kept _ _ _ u v w _ _ _ x y at hnext
  have hv := State.tellEvent_keeps u 0x0080 2 0 (le 1 branch ++ le 1 0 ++ le 2 u.power.bus) (.refl (fun p => p = .tally) u)
  obtain ⟨hring, hpower, hstorage, -⟩ := ringOff_leaves (v.setDomains [2, 3, 4, 5, 6, 7, 9, 10, 12] false)
  have hpd : (v.setDomains [2, 3, 4, 5, 6, 7, 9, 10, 12] false).pd 2 = false := pd_setDomains_off v (by decide)
  have hfalls : ∀ t : State, t.power = w.power → t.storage = w.storage → t.ring = w.ring →
      t.power.good = false ∧ t.power.branch.isSome = true ∧ t.storage.queue = [] ∧ t.pd 2 = false ∧ t.ring.originating = false := fun t hp hs hr => by
    refine ⟨(congrArg Power.good (hp.trans hpower)).trans (congrArg Power.good hv.power_eq),
      (congrArg (fun p => p.branch.isSome) (hp.trans hpower)).trans (congrArg (fun p => p.branch.isSome) hv.power_eq),
      congrArg Storage.queue ((hs.trans hstorage).trans hv.storage_eq), ?_, (congrArg Ring.originating hr).trans hring⟩
    exact (congrArg (fun p => p.domains.getLsbD 2) (hp.trans hpower)).trans hpd
  clear_value branch
  split at hnext
  · refine ⟨_, hexec.trans hnext.symm, hfalls _ ?_ ?_ ?_⟩ <;> rfl
  · have hx : Keeps (fun p => p = .seat || p = .ranger || p = .fe || p = .fb) w x := by
      refine keeps_ite (keeps_mk (.refl _ w) ?_ ?_) (.refl _ w) <;> simp [SameBut, SameLists]
    have hk := startTripWait_keeps (if y.seat.noWait then 0 else min 15 (y.env 0x5802 8).toNat) true y (State.raiseOnce_keeps x 0x070 0xC3 .trip 0 0 hx)
    exact ⟨_, hexec.trans hnext.symm, hfalls _ hk.power_eq hk.storage_eq hk.ring_eq⟩
  · exact ⟨_, hexec.trans hnext.symm, hfalls _ rfl rfl rfl⟩

/-- With every domain off the module is OFF and originates nothing (R30, R31, R501). -/
theorem powerOff_leaves {s : State} (h : s.core.opState ≠ .off) : (powerOff s).core.opState = .off ∧ (powerOff s).power = { s.power with
    domains := 0, boot := 0, good := false, lost := false, changeover := none } ∧ (powerOff s).ring.originating = false := by
  unfold powerOff
  extract_lets u _ _ _ _ v
  obtain ⟨hring, hpower, -, hcore⟩ := ringOff_leaves s
  have hu : Keeps (fun p => p = .fe) (ringOff s) u := closeLowSides_keeps _ (dropHighSides_keeps _ (.refl _ _))
  have hquiet := quiet_freshEvent { kind := .supplyLost } v
  refine ⟨opState_freshEvent nofun fun w _ => ?_, hquiet.power.trans ?_, hquiet.originating.trans ((congrArg Ring.originating hu.ring_eq).trans hring)⟩
  · rw [show v.core = s.core from hu.core_eq.trans hcore]
    unfold smTarget smRow
    cases hs : s.core.opState <;> first | exact absurd hs h | rfl
  · show ({ u.power with domains := 0, boot := 0, good := false, lost := false, changeover := none } : Power) = _
    rw [hu.power_eq, hpower]

theorem gives_holdUpExpiry {s : State} (hgood : s.power.good = false) (h : s.core.opState ≠ .off) : Gives .holdUpExpiry s fun t =>
    t.core.opState = .off ∧ t.power.domains = 0 ∧ t.ring.originating = false := by
  obtain ⟨hstate, hpower, hring⟩ := powerOff_leaves h
  refine ⟨_, if_neg ?_, hstate, congrArg Power.domains hpower, hring⟩
  rw [hgood, decide_eq_false h]
  exact Bool.false_ne_true

theorem gives_holdUpTest {s : State} (ms : Nat) (h : s.core.opState ≠ .off) : Gives (.holdUpTest ms) s fun t =>
    t.power.holdUp = ms ∧ t.raised 0x070 0xC4 0 0 = decide (ms < 200) := by
  refine ⟨_, if_neg h, ?_⟩
  dsimp only
  split
  next hlow =>
    rw [(State.raiseOnce_keeps _ 0x070 0xC4 .warn 0 0 (.refl (fun p => p = .ranger) _)).power_eq, raised_raiseOnce, decide_eq_true hlow]
    exact ⟨rfl, rfl⟩
  next hhigh =>
    rw [(State.clearOnce_keeps _ 0x070 0xC4 0 0 (.refl (fun p => p = .ranger) _)).power_eq, raised_clearOnce, decide_eq_false hhigh]
    exact ⟨rfl, rfl⟩

theorem gives_moduleRestart {cause x : Nat} {s : State} (hpending : s.power.restartPending = some (cause, x)) (h : s.core.opState ≠ .off)
    (htrip : s.fb.trip.running = false) : Gives .moduleRestart s fun t =>
      t.core.opState = .off ∧ t.power.restartPending = none ∧ t.power.restartCause = cause ∧ t.power.domains = 0 := by
  obtain ⟨o, hexec⟩ : ∃ o, execModuleRestart s = o := ⟨_, rfl⟩
  have hnext := hexec
  unfold execModuleRestart at hnext
  rw [hpending] at hnext
  dsimp only at hnext
  rw [if_neg (by rw [htrip, decide_eq_false h]; exact Bool.false_ne_true)] at hnext
  have hcount := countRestart_keeps cause s (.refl (fun p => p = .pair || p = .ranger || p = .update) s)
  have hoff := fun p => powerOff_leaves (s := { countRestart cause s with power := p }) (hcount.core_eq ▸ h)
  exact ⟨_, hexec.trans hnext.symm, (hoff _).1, congrArg Power.restartPending (hoff _).2.1, congrArg Power.restartCause (hoff _).2.1,
    congrArg Power.domains (hoff _).2.1⟩
/-- The reaction to a domain fault moves no other domain (R503). -/
theorem domainReaction_leaves (d : Nat) (s : State) : (domainReaction d s).power.domains = s.power.domains ∧ (domainReaction d s).power.faulted = s.power.faulted := by
  have hkept : ∀ {t : State}, Keeps (fun p => p != .power) s t → t.power.domains = s.power.domains ∧ t.power.faulted = s.power.faulted := fun h =>
    ⟨congrArg Power.domains h.power_eq, congrArg Power.faulted h.power_eq⟩
  unfold domainReaction
  split
  · exact ⟨rfl, rfl⟩
  · exact ⟨rfl, rfl⟩
  · exact hkept (lanesGone_keeps _ s (.refl _ s))
  · exact hkept (lanesGone_keeps _ s (.refl _ s))
  · exact hkept (State.raiseOnce_keeps s _ _ _ _ _ (.refl _ s))
  · exact hkept (State.raiseOnce_keeps s _ _ _ _ _ (.refl _ s))
  · exact hkept (State.raiseOnce_keeps s _ _ _ _ _ (.refl _ s))
  · exact hkept (State.raiseOnce_keeps s _ _ _ _ _ (.refl _ s))
  · exact hkept (currentGone_keeps _ (backstop_keeps s (.refl _ s)))
  · refine hkept (State.raiseOnce_keeps _ _ _ _ _ _ (keeps_mk (.refl _ s) ?_ ?_)) <;> simp [SameBut, SameLists]
  · exact hkept (bridgesOff_keeps s (.refl _ s))
  · exact hkept (State.raiseOnce_keeps _ _ _ _ _ _ (State.raiseOnce_keeps _ _ _ _ _ _ (backstop_keeps s (.refl _ s))))
  · refine hkept (State.raiseOnce_keeps _ _ _ _ _ _ (keeps_mk (.refl _ s) ?_ ?_)) <;> simp [SameBut, SameLists]
  · exact ⟨rfl, rfl⟩

theorem gives_powerDomainFault {d : Nat} {s : State} (hd : d ≤ 12) (hon : s.pd d = true) : Gives (.powerDomainFault d) s fun t =>
    t.pd d = false ∧ t.power.faulted.getLsbD d = true := by
  obtain ⟨o, hexec⟩ : ∃ o, execPowerDomainFault d s = o := ⟨_, rfl⟩
  have hnext := hexec
  unfold execPowerDomainFault at hnext
  rw [if_neg (by rw [hon, decide_eq_false (Nat.not_lt.2 hd)]; exact Bool.false_ne_true)] at hnext
  extract_lets _ u v at hnext
  have hv : v.power = u.power := by
    simp only [v]
    split
    · exact (State.raiseOnce_keeps u _ _ _ _ _ (.refl (fun p => p = .ranger) u)).power_eq
    · rfl
  obtain ⟨hdomains, hfaulted⟩ := domainReaction_leaves d v
  refine ⟨_, hexec.trans hnext.symm, ?_, ?_⟩
  · exact (congrArg (fun b => b.getLsbD d) (hdomains.trans (congrArg Power.domains hv))).trans (pd_setDomains_off _ (List.mem_singleton_self d))
  · refine (congrArg (fun b => b.getLsbD d) (hfaulted.trans (congrArg Power.faulted hv))).trans ?_
    show (setBit s.power.faulted d true).getLsbD d = true
    rw [getLsbD_setBit, if_pos rfl, decide_eq_true (by omega)]
    rfl

/-! ### Clocks and temperatures (R507, R510, R514) -/

theorem checkClock_good (s : State) (n : Nat) : checkClock [] false s n = { s with power := { s.power with clockBad := Tab.put s.power.clockBad n 0 } } := rfl

theorem checkClock_good_foldl (l : List Nat) (s : State) : l.foldl (checkClock [] false) s =
    { s with power := { s.power with clockBad := l.foldl (fun t n => Tab.put t n 0) s.power.clockBad } } := by
  induction l generalizing s with
  | nil => rfl
  | cons n l ih => exact ih _

theorem nat_foldl_zero (l : List Nat) (t : Tab Nat) {n : Nat} (h : Tab.nat t n = 0 ∨ n ∈ l) : Tab.nat (l.foldl (fun t n => Tab.put t n 0) t) n = 0 := by
  induction l generalizing t with
  | nil => exact h.resolve_right List.not_mem_nil
  | cons k l ih =>
    refine ih _ ?_
    unfold Tab.nat at h ⊢
    rw [Tab.at_put]
    split
    · exact .inl rfl
    next hne => exact h.imp_right fun h => (List.mem_cons.1 h).resolve_left (Ne.symm hne)

theorem gives_clockCheck {s : State} (hz : Nat) (hoff : s.core.opState ≠ .off) (hsleep : s.core.opState ≠ .sleep) (hstep : s.update.started = false) :
    Gives (.clockCheck [] false hz) s fun t => ChangesOnly [.power] s t ∧ t.power.rc = hz ∧ ∀ n, n < 10 → Tab.nat t.power.clockBad n = 0 := by
  have hexec : exec (.clockCheck [] false hz) s = .next ((upFrom 0 10).foldl (checkClock [] false) { s with power := { s.power with rc := hz } }) := by
    refine if_neg ?_
    rw [hstep, decide_eq_false hoff, decide_eq_false hsleep]
    exact Bool.false_ne_true
  have hmem := fun n (hn : n < 10) => (mem_upFrom 0 10 n).2 ⟨Nat.zero_le n, by omega⟩
  generalize upFrom 0 10 = l at hexec hmem
  rw [checkClock_good_foldl] at hexec
  exact ⟨_, hexec, (keeps_power (keeps_power (.refl _ s) rfl _) rfl _).changesOnly, rfl, fun n hn => nat_foldl_zero l _ (.inr (hmem n hn))⟩
theorem sensor_congr {s t : State} (h : t.power = s.power) (n : Nat) : t.sensor n = s.sensor n := by
  unfold State.sensor
  rw [h]

/-- The point table's share of a sample leaves the sensor but for its divider (R510). -/
theorem sensorPoint_sensor (n : Nat) (x : Int) (s : State) : (sensorPoint n x s).ranger = s.ranger ∧ ∃ f, (sensorPoint n x s).sensor n = { s.sensor n with fast := f } := by
  unfold sensorPoint
  extract_lets y f _ u
  have hu : ∃ f, u.sensor n = { s.sensor n with fast := f } := ⟨_, Tab.at_put_same ..⟩
  split
  · have hk := samplePoint_keeps (1095 + n) (some x) u.core.cycle u (.refl (fun p => p = .points) u)
    exact ⟨hk.ranger_eq, hu.imp fun f h => (sensor_congr hk.power_eq n).trans h⟩
  · exact ⟨rfl, hu⟩

theorem gives_temperatureSensorSample {n : Nat} {s : State} (x : Int) (h1 : 1 ≤ n) (h6 : n ≤ 6) (hon : s.pd 0 = true) (hbroken : (s.sensor n).broken = false) :
    Gives (.temperatureSensorSample n x) s fun t => t.sensor n = { (s.sensor n).sample x with fast := (t.sensor n).fast } ∧
      (((s.sensor n).sample x).broken = true → t.raised 0x071 0xCA 5 n = true) := by
  obtain ⟨o, hexec⟩ : ∃ o, execTemperatureSensorSample n x s = o := ⟨_, rfl⟩
  have hnext := hexec
  unfold execTemperatureSensorSample at hnext
  rw [if_neg (by rw [hon, hbroken, decide_eq_false (Nat.not_lt.2 h6), decide_eq_false (by omega)]; exact Bool.false_ne_true)] at hnext
  extract_lets old new _ u v w at hnext
  obtain ⟨-, f, hu⟩ := sensorPoint_sensor n x { s with power := { s.power with sensors := Tab.put s.power.sensors n new } }
  have hv : v.power = u.power := (keeps_ite (.refl (fun p => p = .tally) u) (State.tellEvent_keeps u _ _ _ _ (.refl _ u)) : Keeps (fun p => p = .tally) u v).power_eq
  have hw : w.power = v.power := (keeps_ite (State.raiseOnce_keeps v _ _ _ _ _ (.refl (fun p => p = .ranger) v)) (.refl _ v) : Keeps (fun p => p = .ranger) v w).power_eq
  have hsensor : (nextZones w).sensor n = { new with fast := f } := by
    refine (sensor_congr (hw.trans hv) n).trans (hu.trans ?_)
    have hnew : State.sensor { s with power := { s.power with sensors := Tab.put s.power.sensors n new } } n = new := Tab.at_put_same ..
    rw [hnew]
  refine ⟨_, hexec.trans hnext.symm, ?_, fun hnew => ?_⟩
  · rw [hsensor]
  · have hw : w = v.raiseOnce 0x071 0xCA .warn 5 n := if_pos hnew
    exact (congrArg (fun t => State.raised t 0x071 0xCA 5 n) hw).trans (raised_raiseOnce ..)

theorem gives_thermalShutDown {z : Nat} {s : State} (hzone : (upFrom 1 3).find? (fun z => zoneField s.power.zones z = 3) = some z)
    (hdown : s.power.shutDown = false) (hstate : s.core.opState = .tripped) : Gives .thermalShutDown s fun t =>
      t.power.shutDown = true ∧ t.power.thermalLatch = true ∧ t.power.latchZone = z ∧ t.pd 2 = false ∧ t.ring.originating = false := by
  obtain ⟨o, hexec⟩ : ∃ o, execThermalShutDown s = o := ⟨_, rfl⟩
  have hnext := hexec
  unfold execThermalShutDown at hnext
  rw [hzone] at hnext
  dsimp only at hnext
  rw [if_neg (by rw [hdown, hstate]; exact Bool.false_ne_true)] at hnext
  refine ⟨_, hexec.trans hnext.symm, ?_⟩
  have hoff := fun u : State => ringOff_leaves (u.setDomains [2, 3, 4, 5, 9, 10, 12] false)
  exact ⟨congrArg Power.shutDown (hoff _).2.1, congrArg Power.thermalLatch (hoff _).2.1, congrArg Power.latchZone (hoff _).2.1,
    (congrArg (fun p => p.domains.getLsbD 2) (hoff _).2.1).trans (pd_setDomains_off _ (by decide)), (hoff _).1⟩
/-! ### The Lookout (R515 to R524) -/

theorem find_setInput (code k : Nat) (v : Int) (s : State) :
    Tab.find (setInput code v s).lookout.inputs k = if code = k then some v else Tab.find s.lookout.inputs k := Tab.find_put ..

theorem gives_senseBurst {s : State} (h : s.asleep = true) (v i : Int) : Gives (.senseBurst v i) s fun t => t.fe.vStr = v ∧ t.fe.main = i ∧
    Tab.find t.lookout.inputs 1 = some v ∧ Tab.find t.lookout.inputs 2 = some (i.natAbs : Int) := by
  refine ⟨_, if_neg (by rw [h]; exact Bool.false_ne_true), ?_⟩
  dsimp only
  generalize hu : ({ s with fe := _ } : State) = u
  have hfe : (setInput 2 i.natAbs (setInput 1 v (recordCurrent i u))).fe = u.fe :=
    (setInput_keeps _ _ _ (setInput_keeps _ _ _ (recordCurrent_keeps i u (.refl (fun p => p = .lookout) u)))).fe_eq
  rw [hfe, find_setInput, find_setInput, find_setInput, ← hu]
  exact ⟨rfl, rfl, rfl, rfl⟩

/-- No rule stands on an input that was not updated (R521). -/
theorem evalRule_nothing (acc : List (Nat × Nat) × State) (j : Nat) : evalRule [] acc j = acc := by
  unfold evalRule
  dsimp only
  exact if_pos (by rw [List.contains_nil, Bool.not_false, Bool.or_true])

section
variable {s : State} {codes : List Nat} {bus : Int} {fire : Bool} {x : List (Nat × Nat) × State} {e : Nat × Nat}

theorem exec_ruleEvaluation_lockout (h : s.asleep = true) (hx : x = (upFrom 0 32).foldl (evalRule codes) ([], codes.foldl (ownInput bus fire) s))
    (he : x.1.find? (fun e => e.2 = 2) = some e) : exec (.ruleEvaluation codes bus fire) s = .next (wakeUp 1 e.1 true x.2) := by
  show execRuleEvaluation codes bus fire s = _
  unfold execRuleEvaluation
  rw [if_neg (by rw [h]; exact Bool.false_ne_true)]
  dsimp only
  rw [← hx, he]

theorem exec_ruleEvaluation_wake (h : s.asleep = true) (hx : x = (upFrom 0 32).foldl (evalRule codes) ([], codes.foldl (ownInput bus fire) s))
    (hnone : x.1.find? (fun e => e.2 = 2) = none) (he : x.1.find? (fun e => e.2 = 1) = some e) :
    exec (.ruleEvaluation codes bus fire) s = .next (wakeUp 1 e.1 false x.2) := by
  show execRuleEvaluation codes bus fire s = _
  unfold execRuleEvaluation
  rw [if_neg (by rw [h]; exact Bool.false_ne_true)]
  dsimp only
  rw [← hx, hnone]
  dsimp only
  rw [he]

theorem exec_ruleEvaluation_nothing (h : s.asleep = true) (bus : Int) (fire : Bool) : exec (.ruleEvaluation [] bus fire) s = .next s := by
  have hfold : ∀ (l : List Nat) (acc : List (Nat × Nat) × State), l.foldl (evalRule []) acc = acc := fun l => by
    induction l with
    | nil => exact fun acc => rfl
    | cons j l ih => exact fun acc => (ih _).trans (evalRule_nothing acc j)
  show execRuleEvaluation [] bus fire s = _
  unfold execRuleEvaluation
  rw [if_neg (by rw [h]; exact Bool.false_ne_true)]
  dsimp only
  rw [hfold]
  rfl

end

theorem core_evaluated (codes : List Nat) (bus : Int) (fire : Bool) (s : State) :
    ((upFrom 0 32).foldl (evalRule codes) ([], codes.foldl (ownInput bus fire) s)).2.core = s.core := by
  have hrules : ∀ (l : List Nat) (acc : List (Nat × Nat) × State), (l.foldl (evalRule codes) acc).2.core = acc.2.core := fun l => by
    induction l with
    | nil => exact fun acc => rfl
    | cons j l ih => exact fun acc => (ih _).trans (evalRule_keeps codes acc j (.refl (fun p => p != .core) acc.2)).core_eq
  refine (hrules _ _).trans ?_
  exact (keeps_foldl (fun t c ht => ownInput_keeps bus fire t c ht) (.refl (fun p => p != .core) s)).core_eq

theorem asleep_sleep {s : State} (h : s.asleep = true) : s.core.opState = .sleep := by
  unfold State.asleep at h
  simp only [Bool.and_eq_true, decide_eq_true_eq] at h
  exact h.1.1

/-- A wake leads to BOOT, a lockout decision to LOCKOUT, and stores its cause (R31, R524). -/
theorem wakeUp_wakes {s : State} (h : s.core.opState = .sleep) (cause rule : Nat) (lockout : Bool) :
    (wakeUp cause rule lockout s).core.opState = (if lockout then .lockout else .boot) ∧ (wakeUp cause rule lockout s).lookout.wakeCause = cause := by
  unfold wakeUp
  extract_lets p q b _ _ u v w
  have hv := queueRecords_keeps b u (.refl (fun p => p = .tally) u)
  have hw : Keeps (fun p => p = .tally) u w := State.tellEvent_keeps v _ _ _ _ hv
  have hguard := guardEnvelope_keeps w (.refl (fun p => p = .canopy || p = .ranger) w)
  constructor
  · refine (congrArg Core.opState (startDomains_core _)).trans (opState_freshEvent ?_ fun x _ => ?_)
    · cases lockout <;> nofun
    · rw [hguard.core_eq, hw.core_eq]
      show smTarget x s.core.opState _ = _
      rw [h]
      cases lockout <;> rfl
  · rw [startDomains_lookout, (freshEvent_keeps _ _ (.refl (fun p => p != .lookout) _)).lookout_eq, hguard.lookout_eq, hw.lookout_eq]

theorem gives_wake {i : Instr} {s : State} {cause rule : Nat} (h : s.asleep = true) (hexec : exec i s = .next (wakeUp cause rule false s)) :
    Gives i s fun t => t.core.opState = .boot ∧ t.lookout.wakeCause = cause := ⟨_, hexec, wakeUp_wakes (asleep_sleep h) cause rule false⟩

theorem gives_ruleEvaluation {s : State} (h : s.asleep = true) (codes : List Nat) (bus : Int) (fire : Bool) {x : List (Nat × Nat) × State}
    (hx : x = (upFrom 0 32).foldl (evalRule codes) ([], codes.foldl (ownInput bus fire) s)) :
    (∀ e, x.1.find? (fun e => e.2 = 2) = some e → Gives (.ruleEvaluation codes bus fire) s fun t => t.core.opState = .lockout ∧ t.lookout.wakeCause = 1) ∧
    (∀ e, x.1.find? (fun e => e.2 = 2) = none → x.1.find? (fun e => e.2 = 1) = some e → Gives (.ruleEvaluation codes bus fire) s fun t =>
      t.core.opState = .boot ∧ t.lookout.wakeCause = 1) := by
  have hsleep : x.2.core.opState = .sleep := by rw [hx, core_evaluated, asleep_sleep h]
  exact ⟨fun e he => ⟨_, exec_ruleEvaluation_lockout h hx he, wakeUp_wakes hsleep 1 e.1 true⟩,
    fun e hnone he => ⟨_, exec_ruleEvaluation_wake h hx hnone he, wakeUp_wakes hsleep 1 e.1 false⟩⟩

theorem gives_wakeTimer {s : State} (h : s.asleep = true) (hset : s.cfg 0x9050 2 ≠ 0) (hbit : (s.cfg 0x9050 3).testBit 0 = true)
    (hslept : s.cfg 0x9050 2 ≤ s.lookout.slept) : Gives .wakeTimer s fun t => t.core.opState = .boot ∧ t.lookout.wakeCause = 2 :=
  gives_wake h (rule := 0xFF) (if_pos (by rw [h, hbit, decide_eq_true hslept, bne_iff_ne.2 hset]; rfl))

theorem gives_ppsInHold {s : State} (h : s.asleep = true) (hbit : (s.cfg 0x9050 3).testBit 1 = true) : Gives .ppsInHold s fun t =>
    t.core.opState = .boot ∧ t.lookout.wakeCause = 3 := gives_wake h (rule := 0xFF) (if_pos (by rw [h, hbit]; rfl))

theorem gives_canWakeUpPattern {s : State} (h : s.asleep = true) (hbit : (s.cfg 0x9050 3).testBit 2 = true) : Gives .canWakeUpPattern s fun t =>
    t.core.opState = .boot ∧ t.lookout.wakeCause = 4 := gives_wake h (rule := 0xFF) (if_pos (by rw [h, hbit]; rfl))

theorem gives_tetherLineEnergy {s : State} (h : s.asleep = true) (hpair : s.inPair = true) : Gives .tetherLineEnergy s fun t =>
    t.core.opState = .boot ∧ t.lookout.wakeCause = 5 := gives_wake h (rule := 0xFF) (if_pos (by rw [h, hpair]; rfl))

theorem gives_logFlush {s : State} (h : s.asleep = true) (hgood : s.power.good = true)
    (hfull : 12288 ≤ (s.lookout.buffer.map TallyRec.size).foldl (· + ·) 0) : Gives .logFlush s fun t => t.lookout.buffer = [] ∧ t.core = s.core := by
  refine ⟨_, if_neg (by rw [h, hgood, decide_eq_false (Nat.not_lt.2 hfull)]; exact Bool.false_ne_true), ?_⟩
  have hk := fun u : State => keeps_foldl (f := writeRecord) (xs := s.lookout.buffer) (fun t r ht => writeRecord_keeps t r ht)
    (.refl (fun p => p = .cruiser || p = .ranger || p = .tally) u)
  exact ⟨congrArg Lookout.buffer (hk _).lookout_eq, (hk _).core_eq⟩

/-- What the records and inputs after a ring poll's voltages leave alone (R516). -/
def State.polled (s : State) : Core × List Nat × Option Int × Option Int :=
  (s.core, s.lookout.changedHeads, Tab.find s.lookout.inputs 4, Tab.find s.lookout.inputs 5)

theorem polled_setInput {code : Nat} (h4 : code ≠ 4) (h5 : code ≠ 5) (v : Int) (s : State) : (setInput code v s).polled = s.polled := by
  unfold State.polled
  rw [find_setInput, find_setInput, if_neg h4, if_neg h5]
  rfl

theorem polled_lookoutTell (event subject : Nat) (items : Bytes) (s : State) : (lookoutTell event subject items s).polled = s.polled := by
  unfold lookoutTell
  dsimp only
  split <;> rfl

theorem polled_keepSnap (cells : List (Nat × Int × Int)) (s : State) : (keepSnap cells s).polled = s.polled := by
  unfold keepSnap
  dsimp only
  split <;> exact polled_setInput (by decide) (by decide) _ _

theorem gives_insulationBurst {s : State} (h : s.pollsRing = true) (p n : Int) (hset : s.cfg 0x2012 3 ≠ 0) : Gives (.insulationBurst p n) s fun t =>
    t.fe.rIso = insulationResult p n (s.unitsIn * (2 + s.notOpen)) ∧ Tab.find t.lookout.inputs 3 = some (t.fe.rIso : Int) := by
  refine ⟨_, if_neg (by rw [h, decide_eq_false hset]; exact Bool.false_ne_true), rfl, ?_⟩
  rw [find_setInput]
  rfl

/-- A ring poll moves the cycle on and keeps the extremes of the cells' voltages (R515, R516). -/
theorem gives_ringPoll {s : State} (h : s.pollsRing = true) (cells : List (Nat × Int × Int)) (points : List Int) (changed : List Nat) (n : Nat) :
    Gives (.ringPoll cells points changed n) s fun t => t.core.cycle = s.ahead n ∧ t.lookout.changedHeads = s.lookout.changedHeads ++ changed ∧
      (∀ c l, cells = c :: l → Tab.find t.lookout.inputs 4 = some ((l.map fun e => e.2.1).foldl max c.2.1) ∧
        Tab.find t.lookout.inputs 5 = some ((l.map fun e => e.2.1).foldl min c.2.1)) := by
  obtain ⟨o, hexec⟩ : ∃ o, execRingPoll cells points changed n s = o := ⟨_, rfl⟩
  have hnext := hexec
  unfold execRingPoll at hnext
  rw [if_neg (by rw [h]; exact Bool.false_ne_true)] at hnext
  extract_lets _ _ u vs _ v w x at hnext
  have hx : x.polled = v.polled := by
    refine (polled_lookoutTell ..).trans ?_
    simp only [w]
    split
    · rfl
    · exact (polled_setInput (by decide) (by decide) ..).trans (polled_setInput (by decide) (by decide) ..)
  have hend : (if x.pollSnapDue then keepSnap cells x else x).polled = v.polled := by
    split
    · exact (polled_keepSnap ..).trans hx
    · exact hx
  have hv : v.core.cycle = s.ahead n ∧ v.lookout.changedHeads = s.lookout.changedHeads ++ changed := by
    cases cells with
    | nil => exact ⟨rfl, rfl⟩
    | cons c l => exact ⟨rfl, rfl⟩
  simp only [State.polled, Prod.mk.injEq] at hend
  obtain ⟨hcore, hchanged, h4, h5⟩ := hend
  refine ⟨_, hexec.trans hnext.symm, (congrArg Core.cycle hcore).trans hv.1, hchanged.trans hv.2, fun c l hcells => ?_⟩
  rw [h4, h5]
  subst hcells
  simp only [v, vs, List.map_cons, find_setInput]
  exact ⟨rfl, rfl⟩
/-! ### The seat and the AUX inputs (R525, R558) -/

theorem gives_seatDetect {s : State} (h : s.seat.state ≠ 2) : Gives .seatDetect s fun t =>
    t.seat = { s.seat with state := 2, insertions := add32 s.seat.insertions 1 } := by
  refine ⟨_, if_neg h, ?_⟩
  dsimp only
  split
  · exact (startDomains_keeps _ (.refl (fun p => p != .seat) _)).seat_eq
  · rfl

theorem exec_seatDetectOpening {s : State} (h : s.seat.state = 2) (hgood : s.power.good = true) : exec .seatDetectOpening s = .next { s with
    seat := { s.seat with state := 0, noWait := true }, power := { s.power with lost := true, changeover := none, backupAvail := false } } :=
  (if_neg (by rw [h]; exact Bool.false_ne_true)).trans (if_pos hgood)

/-- A reading of an AUX input that lasted stands in its register; out of range it is reported while another source supplies (R525). -/
theorem gives_auxInputOutOfRange {n : Nat} {s : State} (mV : Nat) (hn : n = 1 ∨ n = 2) : Gives (.auxInputOutOfRange n mV) s fun t =>
    (if n = 1 then t.power.aux1 else t.power.aux2) = mV ∧ (18000 ≤ mV → mV ≤ 32000 → t.raised 0x070 0xC0 5 n = false) ∧
    (mV < 18000 ∨ 32000 < mV → s.power.good = true → s.power.onBackup = true → t.raised 0x070 0xC0 5 n = true) := by
  obtain ⟨o, hexec⟩ : ∃ o, execAuxInputOutOfRange n mV s = o := ⟨_, rfl⟩
  have hnext := hexec
  unfold execAuxInputOutOfRange at hnext
  rw [if_neg (by rcases hn with rfl | rfl <;> decide)] at hnext
  extract_lets _ u other at hnext
  have hu : (if n = 1 then u.power.aux1 else u.power.aux2) = mV ∧ u.power.good = s.power.good ∧ u.power.onBackup = s.power.onBackup := by
    rcases hn with rfl | rfl <;> exact ⟨rfl, rfl, rfl⟩
  obtain ⟨haux, hgood, hbackup⟩ := hu
  split at hnext
  next hout =>
    have hrange : mV < 18000 ∨ 32000 < mV := by simpa using hout
    have hk : Keeps (fun p => p = .ranger) u (if u.power.good && other then u.raiseOnce 0x070 0xC0 .warn 5 n else u) :=
      keeps_ite (State.raiseOnce_keeps u _ _ _ _ _ (.refl _ u)) (.refl _ u)
    refine ⟨_, hexec.trans hnext.symm, ?_, fun h18 h32 => by omega, fun _ hg hb => ?_⟩
    · rw [hk.power_eq]
      exact haux
    · have hother : (u.power.good && other) = true := by simp only [other, hgood, hbackup, hg, hb, Bool.true_or, Bool.and_self]
      rw [if_pos hother]
      exact raised_raiseOnce ..
  next hin =>
    have hrange : ¬ (mV < 18000 ∨ 32000 < mV) := by simpa using hin
    refine ⟨_, hexec.trans hnext.symm, ?_, fun _ _ => raised_clearOnce .., fun h => absurd h hrange⟩
    rw [(State.clearOnce_keeps u 0x070 0xC0 5 n (.refl (fun p => p = .ranger) u)).power_eq]
    exact haux

/-! ### Storage and journal (R530, R533) -/

theorem healArea_leaves (area : Nat) (s : State) : (healArea area s).storage.log = s.storage.log ∧ (healArea area s).storage.persisted = s.storage.persisted := by
  unfold healArea
  split
  · dsimp only
    rw [(State.clearOnce_keeps _ 0x078 0xE2 5 area (.refl (fun p => p = .ranger) _)).storage_eq]
    exact ⟨rfl, rfl⟩
  · exact ⟨rfl, rfl⟩

theorem gives_logRefresh {s : State} (hlong : 1032 ≤ s.storage.log.length) (hok : s.storageOk = true) : Gives .logRefresh s fun t =>
    t.storage.log = [] ∧ t.storage.persisted = applyLog s.storage.persisted s.storage.log := by
  refine ⟨refreshDictionary s, if_pos (by rw [hok, decide_eq_true hlong]; rfl), ?_⟩
  unfold refreshDictionary
  dsimp only
  rw [if_neg (by omega)]
  obtain ⟨hlog, hset⟩ := healArea_leaves 6 _
  have hk := fun n (u : State) => (State.clearOnce_keeps _ 0x078 0xE4 0 0 (wrote_keeps 6 n u (.refl (fun p => p = .cruiser || p = .ranger) u))).storage_eq
  rw [hlog, hset, hk]
  exact ⟨rfl, rfl⟩

theorem gives_readFailure {n : Nat} {s : State} (hok : s.storageOk = true) (hn : n ≤ 6) : Gives (.storageUnitFailure true n) s fun t =>
    t.storage.state = 1 ∧ n ∈ t.storage.readErrors ∧ t.raised 0x078 0xE2 5 n = true := by
  obtain ⟨o, hexec⟩ : ∃ o, execStorageUnitFailure true n s = o := ⟨_, rfl⟩
  have hnext := hexec
  unfold execStorageUnitFailure at hnext
  rw [if_neg (by rw [hok]; exact Bool.false_ne_true), if_pos rfl, if_pos hn] at hnext
  extract_lets u l at hnext
  refine ⟨_, hexec.trans hnext.symm, ?_⟩
  have hk := fun w : State => (State.raiseOnce_keeps w 0x078 0xE2 .warn 5 n (.refl (fun p => p = .ranger) w)).storage_eq
  refine ⟨congrArg Storage.state (hk _), (congrArg Storage.readErrors (hk _)).symm ▸ ?_, raised_raiseOnce ..⟩
  show n ∈ l
  simp only [l]
  split
  next h => exact List.contains_iff_mem.1 h
  · exact List.mem_cons_self

theorem retireUnit_cruiser (n : Nat) (s : State) : (retireUnit n s).cruiser.retired = s.physical n :: s.cruiser.retired ∧
    (retireUnit n s).cruiser.spare = s.cruiser.spare - 1 := by
  unfold retireUnit
  extract_lets p area spare left u map _ _ v
  have hu : u.cruiser = s.cruiser := (State.tellEvent_keeps _ _ _ _ _ (State.report_keeps s _ _ _ _ _ (.refl (fun p => p = .tally || p = .ranger) s))).cruiser_eq
  have hv : v.cruiser.retired = p :: s.cruiser.retired ∧ v.cruiser.spare = left := ⟨congrArg (fun c => p :: c.retired) hu, rfl⟩
  split
  · rw [(State.raiseOnce_keeps v 0x038 0xB3 .warn 0 0 (.refl (fun p => p = .ranger) v)).cruiser_eq]
    exact hv
  · exact hv

theorem gives_unitFailure {n : Nat} {s : State} (hok : s.storageOk = true) (hn : n < 2048) (hlive : s.cruiser.retired.contains (s.physical n) = false) :
    Gives (.storageUnitFailure false n) s fun t => t.cruiser.retired = s.physical n :: s.cruiser.retired ∧ t.cruiser.spare = s.cruiser.spare - 1 := by
  refine ⟨retireUnit n s, ?_, retireUnit_cruiser n s⟩
  refine (if_neg ?_).trans ((if_neg Bool.false_ne_true).trans (if_pos ?_))
  · rw [hok]
    exact Bool.false_ne_true
  · rw [hlive, decide_eq_true hn]
    rfl
/-! ### Images and updates (R537, R542 to R548) -/

theorem exec_imageVerification {type number p : Nat} (body other : Digest) (h : processorOf type number = some p) (s : State) :
    exec (.imageVerification type number body other) s = bootProcessor p body other s := by
  show execImageVerification type number body other s = _
  unfold execImageVerification
  rw [h]

/-- A step's processor that is not a core boots the image of the step's bank when the vault accepts it (R537). -/
theorem gives_imageVerification {type number p : Nat} {body other : Digest} {i : BankImage} {s : State} (hp : processorOf type number = some p) (h8 : p ≤ 8)
    (hboots : s.stepBoots p = true) (hverified : verifyImage s.stepBank (imageType p) body s = some i) :
    Gives (.imageVerification type number body other) s fun t =>
      Tab.at t.update.images p {} = { version := i.version, gen := i.gen, bank := s.stepBank, measure := i.measure } := by
  have hboot : (bootImage p s.stepBank body other s).update = (startImage p s.stepBank i s).update := by
    unfold bootImage
    dsimp only
    rw [hverified]
    exact (State.clearOnce_keeps _ 0x079 0xE5 5 (imageAddr p) (.refl (fun p => p = .ranger) _)).update_eq
  have himage : Tab.at (bootImage p s.stepBank body other s).update.images p {} =
      { version := i.version, gen := i.gen, bank := s.stepBank, measure := i.measure } := by
    rw [hboot]
    exact Tab.at_put_same ..
  have hbank : (bootImage p s.stepBank body other s).stepBank = s.stepBank := by
    unfold State.stepBank at hboot ⊢
    rw [hboot]
    rfl
  refine ⟨bootImage p s.stepBank body other s, (exec_imageVerification body other hp s).trans ?_, himage⟩
  unfold bootProcessor
  rw [if_pos hboots]
  dsimp only
  rw [himage, hbank, if_neg (by rw [bne_self_eq_false]; exact Bool.false_ne_true), if_neg (by omega), if_neg (by omega)]

theorem tellStep_update (s : State) : (tellStep s).update = s.update := (tellStep_keeps s (.refl (fun p => p != .update) s)).update_eq

theorem startStep_update (i : Nat) (s : State) : (startStep i s).update.step = i ∧ (startStep i s).update.next = i ∧ (startStep i s).update.started = true := by
  unfold startStep
  extract_lets _ u
  have hu : u.update = { s.update with step := i, next := i, started := true, since := s.core.cycle, coreReady := false } := tellStep_update _
  (repeat' split) <;> exact ⟨congrArg Update.step hu, congrArg Update.next hu, congrArg Update.started hu⟩

theorem gives_updateStep {s : State} (hruns : s.updateRuns = true) (hstarted : s.update.started = false) (hpaused : s.update.paused = false)
    (hadvance : s.update.ha = none) (hstate : s.stepState = true) (hbackup : s.power.onBackup = false) (hover : s.handingOver = false) (hok : s.storageOk = true) :
    (∀ i, s.findStep s.update.next = some i → (2 ≤ i → i ≤ 9 → s.laneOut = false) → Gives .updateStep s fun t => t.update.step = i ∧ t.update.next = i ∧
      t.update.started = true) ∧
    (s.findStep s.update.next = none → s.update.reverse = false → Gives .updateStep s fun t => t.update.step = 12 ∧ t.update.next = 0 ∧
      t.update.confirmFrom = some s.power.opTime) := by
  have hexec : exec .updateStep s = match s.findStep s.update.next with
      | none => .next (finishUpdate s)
      | some i => if 2 ≤ i && i ≤ 9 && s.laneOut then .next s else .next (startStep i s) := by
    refine (if_neg ?_).trans (if_neg ?_)
    · rw [hruns, hstarted, hpaused, hadvance]
      exact Bool.false_ne_true
    · rw [hstate, hbackup, hover, hok]
      exact Bool.false_ne_true
  constructor
  · intro i hi hlane
    rw [hi] at hexec
    refine ⟨_, hexec.trans (if_neg ?_), startStep_update i s⟩
    simp only [Bool.and_eq_true, decide_eq_true_eq]
    exact fun ⟨⟨h2, h9⟩, hout⟩ => Bool.false_ne_true ((hlane h2 h9).symm.trans hout)
  · intro hnone hforward
    rw [hnone] at hexec
    refine ⟨_, hexec, ?_⟩
    unfold finishUpdate
    dsimp only
    rw [if_neg (by rw [hforward]; exact Bool.false_ne_true)]
    exact ⟨rfl, rfl, rfl⟩

theorem returnLane_update (s : State) : (returnLane s).update = s.update := (returnLane_keeps s (.refl (fun p => p != .update) s)).update_eq

/-- A step that fails stops the update (R543). -/
theorem abortStep_stops (code : Nat) (s : State) : (abortStep code s).update.started = false ∧ (abortStep code s).update.paused = true ∧
    (abortStep code s).update.step = 15 ∧ (abortStep code s).update.last = BitVec.ofNat 32 code ∧ (abortStep code s).raised 0x079 0xE6 5 s.update.step = true := by
  unfold abortStep
  dsimp only
  rw [tellStep_update, (State.raiseOnce_keeps _ 0x079 0xE6 .warn 5 s.update.step (.refl (fun p => p = .ranger) _)).update_eq,
    raised_congr (tellStep_keeps _ (.refl (fun p => p != .ranger) _)).ranger_eq, raised_raiseOnce]
  exact ⟨rfl, rfl, rfl, rfl, rfl⟩

theorem finishUpdate_keeps_step (s : State) : (finishUpdate s).update.started = s.update.started ∧ (finishUpdate s).update.coreReady = s.update.coreReady := by
  unfold finishUpdate
  dsimp only
  split
  · have hk := fun u v : State => (State.clearOnce_keeps (u.tellEvent 0x0090 7 0 v.versions) 0x079 0xE7 0 0
      (State.tellEvent_keeps u _ _ _ _ (.refl (fun p => p = .tally || p = .ranger) u))).update_eq
    exact ⟨(congrArg Update.started (hk _ _)).trans rfl, (congrArg Update.coreReady (hk _ _)).trans rfl⟩
  · exact ⟨rfl, rfl⟩

theorem completeStep_ends (s : State) : (completeStep s).update.started = false ∧ (completeStep s).update.coreReady = false := by
  unfold completeStep
  extract_lets i p b t u v w _ x
  have hx : x.update.started = false ∧ x.update.coreReady = false := by
    have hk := fun y : State => ((tellStep_update _).trans (State.clearOnce_keeps y 0x079 0xE6 5 i (.refl (fun p => p = .ranger) y)).update_eq)
    exact ⟨congrArg Update.started (hk _), congrArg Update.coreReady (hk _)⟩
  split
  · obtain ⟨hs, hc⟩ := finishUpdate_keeps_step x
    exact ⟨hs.trans hx.1, hc.trans hx.2⟩
  · exact hx

theorem gives_updateStepComplete {s : State} (hstarted : s.update.started = true) :
    (∀ code, Gives (.updateStepComplete s.update.step false code) s (fun t => t.update.started = false ∧ t.update.paused = true ∧ t.update.step = 15 ∧
      t.update.last = BitVec.ofNat 32 code ∧ t.raised 0x079 0xE6 5 s.update.step = true)) ∧
    (s.stepRejected = false → s.stepDone = true → Gives (.updateStepComplete s.update.step true 0) s fun t => t.update.started = false ∧ t.update.coreReady = false) := by
  have hguard : ¬ ((!s.update.started || s.update.step != s.update.step) = true) := by rw [hstarted, bne_self_eq_false]; exact Bool.false_ne_true
  constructor
  · exact fun code => ⟨_, (if_neg hguard).trans (if_pos rfl), abortStep_stops code s⟩
  · intro hrejected hdone
    exact ⟨_, (if_neg hguard).trans ((if_neg (by rw [hrejected]; exact Bool.false_ne_true)).trans (if_pos hdone)), completeStep_ends s⟩

theorem gives_coreHandOver {s : State} (hstarted : s.update.started = true) (hstep : s.update.step = 11) (hready : s.update.coreReady = true)
    (hhc : s.update.hc = s.core.cycle) (harea : s.update.handArea = some s.core.cycle) : Gives .coreHandOver s fun t =>
      ChangesOnly [.update] s t ∧ t.update.core1 = !s.update.core1 ∧ t.update.idleLoaded = true ∧ t.update.handArea = none := by
  refine ⟨_, if_pos (by rw [hstarted, hready, decide_eq_true hstep, decide_eq_true hhc, decide_eq_true harea]; rfl), ?_, rfl, rfl, rfl⟩
  exact (keeps_mk (.refl _ s) (by simp [SameBut]) (by simp [SameLists])).changesOnly

theorem gives_confirmationPeriodExpiry {s : State} {c : Nat} (hfrom : s.update.confirmFrom = some c) (hset : s.cfg 0x9830 6 ≠ 0)
    (hdue : c + s.cfg 0x9830 6 * 3600000 ≤ s.power.opTime) (hruns : s.updateRuns = false) (hforward : s.update.reverse = false) :
    Gives .confirmationPeriodExpiry s fun t => t.update.confirmFrom = none ∧ t.update.kept = [] ∧ t.update.step = 13 := by
  obtain ⟨hkept, hconfirm, -, hstep, -⟩ := confirmUpdate_frees s
  refine ⟨confirmUpdate s, ?_, hconfirm, hkept, hstep⟩
  show execConfirmationPeriodExpiry s = _
  unfold execConfirmationPeriodExpiry
  rw [hfrom]
  exact if_pos (by rw [bne_iff_ne.2 hset, decide_eq_true hdue, hruns, hforward]; rfl)
/-! ### The journal (R533) -/

/-- The oldest queued record goes to its fixed slot (R532, R533). -/
theorem gives_slotWrite {r : JournalRec} {q : List JournalRec} {n : Nat} {s : State} (hq : s.storage.queue = r :: q) (hgood : s.power.good = true)
    (hon : s.pd 1 = true) (hslot : r.slot = some n) (hcommit : n ≠ 532) : Gives (.journalWrite 0) s fun t =>
      ChangesOnly [.storage] s t ∧ t.storage.queue = q ∧ t.storage.seq = s.storage.seq + 1 ∧
      t.fixedSlot n = (s.fixedSlot n).write { valid := true, seq := s.storage.seq + 1, kind := r.kind, format := s.coreImage.writes 5, payload := r.payload } := by
  have hexec : exec (.journalWrite 0) s = .next (writeFixed n r false { s with storage := { s.storage with queue := q } }) := by
    show execJournalWrite 0 s = _
    unfold execJournalWrite
    rw [hq]
    dsimp only
    rw [if_neg (by rw [hgood, hon]; exact Bool.false_ne_true), hslot]
    rfl
  refine ⟨_, hexec, ?_⟩
  unfold writeFixed
  dsimp only
  rw [if_neg (by simp [hcommit])]
  exact ⟨(keeps_mk (.refl _ s) (by simp [SameBut]) (by simp [SameLists])).changesOnly, rfl, rfl, Tab.at_put_same ..⟩

/-- The oldest queued record without a slot goes to the log (R533). -/
theorem gives_logWrite {r : JournalRec} {q : List JournalRec} {s : State} (hq : s.storage.queue = r :: q) (hgood : s.power.good = true)
    (hon : s.pd 1 = true) (hslot : r.slot = none) (hroom : s.storage.log.length < 1376) (hlate : r.late = false) : Gives (.journalWrite 0) s fun t =>
      t.storage.queue = q ∧ t.storage.seq = s.storage.seq + 1 ∧
      t.storage.log = s.storage.log ++ [{ r with seq := s.storage.seq + 1, format := s.coreImage.writes 5, release := none }] := by
  have hexec : exec (.journalWrite 0) s = .next (writeLog r 0 { s with storage := { s.storage with queue := q } }) := by
    show execJournalWrite 0 s = _
    unfold execJournalWrite
    rw [hq]
    dsimp only
    rw [if_neg (by rw [hgood, hon]; exact Bool.false_ne_true), hslot]
    dsimp only
    rw [if_neg (Nat.not_le.2 hroom), hlate]
    cases r.value <;> rfl
  refine ⟨_, hexec, ?_⟩
  unfold writeLog
  dsimp only
  rw [if_neg (by decide)]
  split
  · rw [(answer_others ..).storage_eq]
    exact ⟨rfl, rfl, rfl⟩
  · exact ⟨rfl, rfl, rfl⟩
/-- Settles O60: each event by the rule that it runs. -/
theorem serviceEvents : Obligations.ServiceEvents := by
  intro s
  exact ⟨fun m v h => gives_faultMessage h s, fun m l v hbox h => exec_faultMessage_outbox hbox h, fun m i a hfind hget => gives_listedFault hfind hget,
    fun m => gives_captureClose, exec_watchdogService s, gives_watchdogExpired, fun n => gives_provokedFaultStart, fun n => gives_provokedFaultEnd,
    fun r => gives_tallyWrite, fun a1 a2 bus v strap ok => gives_supplyPresent a2 bus v strap ok, gives_bootComplete, gives_sourceLoss,
    fun bus c => gives_backupRegulating bus, fun a1 a2 => gives_auxReturn, gives_powerGoodFall, gives_holdUpExpiry, gives_holdUpTest,
    fun d => gives_powerDomainFault, fun cause x => gives_moduleRestart, gives_clockCheck, fun n x => gives_temperatureSensorSample x,
    fun z => gives_thermalShutDown,
    fun h => ⟨gives_senseBurst h, exec_ruleEvaluation_nothing h, fun codes bus fire x hx => gives_ruleEvaluation h codes bus fire hx, gives_wakeTimer h,
      gives_ppsInHold h, gives_canWakeUpPattern h, gives_tetherLineEnergy h, gives_logFlush h⟩,
    fun h => ⟨fun p n => gives_insulationBurst h p n, gives_ringPoll h⟩, gives_seatDetect, exec_seatDetectOpening,
    fun n mV => gives_auxInputOutOfRange mV, gives_logRefresh, fun hok => ⟨fun n => gives_readFailure hok, fun n => gives_unitFailure hok⟩,
    fun type number p body other i hp h8 hboots hv => gives_imageVerification hp h8 hboots hv, gives_updateStep, gives_updateStepComplete, gives_coreHandOver,
    fun c => gives_confirmationPeriodExpiry, fun r q hq hgood hon => ⟨fun n => gives_slotWrite hq hgood hon, gives_logWrite hq hgood hon⟩⟩

end Sys2Proof.Machine
end

section
/-! SUPPORT. The frames a head does not execute (R51, R52, R85): asleep it passes nothing on, one it does not take it passes on only, a repeated one it answers
from store. -/

namespace Sys2Proof.Machine

open Sys2Proof

/-- Asleep a head does nothing with a frame (R85). -/
theorem headCommand_asleep {s : State} {place : Nat} {f : Frame} (lenOk : Bool) (states : List HeadState) (act : Head → HeadResponse × Head)
    (h : (s.head place).state = .lowPower) : headCommand place f lenOk states act s = s := if_pos h

/-- A frame that a head does not take goes on and does nothing else (R51). -/
theorem headCommand_ignores {s : State} {place : Nat} {f : Frame} (lenOk : Bool) (states : List HeadState) (act : Head → HeadResponse × Head)
    (hawake : (s.head place).state ≠ .lowPower) (ht : (s.head place).takes f = false) :
    headCommand place f lenOk states act s = s.withHead place ((s.head place).relays (s.head place) f) := by
  have hno : (!((s.head place).relays (s.head place) f).takes f) = true := by
    rw [show ((s.head place).relays (s.head place) f).takes f = (s.head place).takes f from rfl, ht]; rfl
  exact (if_neg hawake).trans (if_pos hno)

/-- A frame whose number the head executed last is answered from store (R52). -/
theorem headCommand_repeats {s : State} {place : Nat} {f : Frame} {r : HeadResponse} (lenOk : Bool) (states : List HeadState)
    (act : Head → HeadResponse × Head) (ht : (s.head place).takes f = true) (hlast : (s.head place).lastSeq = some (f.seq, r)) :
    headCommand place f lenOk states act s = s.withHead place ((s.head place).said (s.head place) f r) := by
  have hawake : (s.head place).state ≠ .lowPower := fun e => by
    have := Head.hears_of_takes ht
    rw [e] at this
    exact absurd this (by decide)
  unfold headCommand
  dsimp only
  rw [if_neg hawake]
  split
  next hno => exact absurd (show (!(s.head place).takes f) = true from hno) (by simp [ht])
  next =>
    rw [hlast]
    exact if_pos rfl

/-- The commands that a head executes (R86). -/
def headInstrs (place : Nat) (f : Frame) (payload : Bytes) : List Instr :=
  [.identify place f, .openHead place f, .setPosition place f payload, .setDelay place f payload, .configure place f payload, .unwrap place f,
   .bleedSlot place f payload, .bleedOff place f, .owTest place f payload, .switchTest place f payload, .readStatus place f,
   .testRef place f payload, .restart place f payload, .echo place f payload]

/-- A TEST-REF that does not set the head's reference cycles is no test for the tap monitor (R92). -/
theorem execTestRef_sameCycles {s u : State} {place : Nat} {f : Frame} {payload : Bytes}
    (hu : headCommand place f (payload.length = 1) [.enumerated] (fun h => testRefHead h payload) s = u)
    (hsame : (u.head place).refCycles = (s.head place).refCycles) : execTestRef place f payload s = .next u := by
  unfold execTestRef
  rw [hu]
  dsimp only
  split
  · exact if_neg (by rw [hsame]; by_cases h0 : (s.head place).refCycles = 0 <;> simp [h0])
  · rfl

/-- Each of them is the rule of command frames with an act of its own; of TEST-REF the tap monitor hears only where the head's reference is now measured. -/
theorem exec_headInstr {i : Instr} {place : Nat} {f : Frame} {payload : Bytes} (hi : i ∈ headInstrs place f payload) (s : State) :
    ∃ lenOk states act, ∀ u, headCommand place f lenOk states act s = u → (u.head place).refCycles = (s.head place).refCycles → exec i s = .next u := by
  have hplain : ∀ lenOk states act, exec i s = .next (headCommand place f lenOk states act s) →
      ∃ lenOk states act, ∀ u, headCommand place f lenOk states act s = u → (u.head place).refCycles = (s.head place).refCycles → exec i s = .next u :=
    fun lenOk states act he => ⟨lenOk, states, act, fun _ hu _ => he.trans (congrArg _ hu)⟩
  simp only [headInstrs, List.mem_cons, List.not_mem_nil, or_false] at hi
  rcases hi with rfl | rfl | rfl | rfl | rfl | rfl | rfl | rfl | rfl | rfl | rfl | rfl | rfl | rfl
  case inr.inr.inr.inr.inr.inr.inr.inr.inr.inr.inr.inl =>
    exact ⟨payload.length = 1, [.enumerated], fun h => testRefHead h payload, fun _ hu hsame => execTestRef_sameCycles hu hsame⟩
  all_goals exact hplain _ _ _ rfl

/-- Settles O21: the three ways in which a frame is not executed, for the rule that every command runs. -/
theorem headCommandsRepeatOrIgnore : Obligations.HeadCommandsRepeatOrIgnore := by
  intro s place f payload i hi
  obtain ⟨lenOk, states, act, hexec⟩ := exec_headInstr hi s
  have href : ∀ h : Head, h.refCycles = (s.head place).refCycles → ((s.withHead place h).head place).refCycles = (s.head place).refCycles := fun h hr => by
    rw [head_withHead, hr]
  refine ⟨fun h => hexec _ (headCommand_asleep lenOk states act h) rfl,
    fun hawake ht => hexec _ (headCommand_ignores lenOk states act hawake ht) (href _ rfl), fun r ht hlast => ?_⟩
  have hstored : (s.head place).said (s.head place) f r = { s.head place with
      passedOn := some (onwardAddress f, (s.head place).exit f.port), returned := if f.mode = .broadcast then [] else answerArea r } := by
    rw [Head.said, ← hlast]
  exact hexec _ ((headCommand_repeats lenOk states act ht hlast).trans (congrArg _ hstored)) (href _ rfl)

end Sys2Proof.Machine
end

section
/-! SUPPORT. What a head does in a cycle by itself (R46, R47, R56 to R58, R62, R80, R81, R83, R85). -/

namespace Sys2Proof.Machine

open Sys2Proof

/-- A head that has SYNC, is awake and has a cool die samples, and no switch is turned off (R80, R81). -/
theorem execHeadSample_samples {s : State} {place : Nat} {die : Int} (hsync : (s.head place).syncPort.isSome = true)
    (hawake : (s.head place).state ≠ .lowPower) (hsynced : (s.head place).state ≠ .syncLost) (hcool : die < 9500) (cells : List (Option Int))
    (stack : Option Int) (temps : List (Option Int)) : execHeadSample place cells stack temps die s = .next (s.withHead place
      { s.head place with sampled := true, cells := cells.take (s.head place).n, stack := stack, temps := temps, die := die, dieHot := false,
                          lastSwitches := if (s.head place).owOn then (s.head place).switches else (s.head place).switches ||| (s.head place).testSwitch,
                          refCycles := (s.head place).refCycles - 1 }) := by
  have hruns : ¬ ((s.head place).syncPort.isNone || decide ((s.head place).state = .lowPower) || decide ((s.head place).state = .syncLost)) = true := by
    simp [hawake, hsynced, ← Option.not_isSome, hsync]
  have hhot : (if 10500 ≤ die then true else if die < 9500 then false else (s.head place).dieHot) = false := by
    rw [if_neg (by omega), if_pos hcool]
  unfold execHeadSample
  dsimp only
  rw [if_neg hruns, hhot]
  rfl

/-- A head that has sampled and has its position takes the container that passes (R46). -/
theorem containerPass_proceeds {h : Head} (hs : h.sampled = true) (hp : h.p.isSome = true) (he : h.state = .enumerated) :
    ¬ (!h.sampled || h.p.isNone || h.state != .enumerated) = true := by simp [hs, he, ← Option.not_isSome, hp]

/-- A change of the head at a place puts the changed head there. -/
theorem next_modHead {s : State} {place : Nat} {f : Head → Head} {h : Head} (hf : f (s.head place) = h) :
    Host.Outcome.next (s.modHead place f) = (.next (s.withHead place h) : Out) := by rw [← hf]; rfl

/-- Settles O22: each event by the condition under which it acts. -/
theorem headCycleEvents : Obligations.HeadCycleEvents := by
  rintro s place h rfl
  refine ⟨fun cells stack temps die hsync hawake hsynced hcool => execHeadSample_samples hsync hawake hsynced hcool cells stack temps,
    fun fil hs hp he hfit hroom => ?fills, fun fil hs hp he hno => ?noFit, fun hw => ?opens, fun b hw => ?opensSlot, fun hno => ?closes, fun hsw => ?closesTest,
    fun b hslot hwin hno hfree => ?slotStarts, fun side he => if_pos he, rfl, fun he hmiss => ?syncLost, fun hawake hmiss => ?initial,
    fun hi hmiss => ?lowPower, fun hl => if_pos hl⟩
  case fills => exact (if_neg (containerPass_proceeds hs hp he)).trans (if_pos (by omega))
  case noFit => exact (if_neg (containerPass_proceeds hs hp he)).trans (if_neg (by omega))
  case opens => exact next_modHead (by rw [hw])
  case opensSlot => exact next_modHead (by rw [hw])
  case closes => exact next_modHead (by rw [hno]; rfl)
  case closesTest => exact next_modHead (by rw [hsw]; rfl)
  case slotStarts =>
    have hwin : (b.continuous || !(s.head place).quiet) = true := by simpa using hwin
    have hswitches : (s.head place).slotSwitches = b.mask := by simp [Head.slotSwitches, hslot, hfree]
    refine next_modHead ?_
    rw [hslot]
    dsimp only
    rw [if_pos hwin, hno, hswitches]
    rfl
  case syncLost => exact if_pos (by simp [he, hmiss])
  case initial => exact if_neg (by simp [hawake, hmiss])
  case lowPower => exact if_pos (by simp [hi, hmiss])

end Sys2Proof.Machine
end

section
/-! SUPPORT. What a SYNC makes of a head (R44, R56, R57, R62, R66, R85, R86). -/

namespace Sys2Proof.Machine

open Sys2Proof

/-- The SYNC is the second one in its cycle, on the other port (R57). -/
def Head.secondSync (h : Head) (port : Nat) (hdr : SyncHeader) (now : Cycle) : Bool :=
  h.syncPort.isSome && h.syncPort != some port && (h.lastSync = some hdr.cycle || h.syncAt = some now)

theorem Head.secondSync_other {h : Head} {port q : Nat} {hdr : SyncHeader} {now : Cycle} (hport : h.syncPort = some q) (hq : q ≠ port)
    (hcycle : h.lastSync = some hdr.cycle ∨ h.syncAt = some now) : h.secondSync port hdr now = true := by
  simp [Head.secondSync, hport, hq, hcycle]

theorem Head.secondSync_first {h : Head} {port : Nat} {hdr : SyncHeader} {now : Cycle}
    (hfirst : h.syncPort = none ∨ h.syncPort = some port ∨ h.lastSync ≠ some hdr.cycle ∧ h.syncAt ≠ some now) : h.secondSync port hdr now = false := by
  rcases hfirst with hp | hp | ⟨hc, hn⟩
  · simp [Head.secondSync, hp]
  · simp [Head.secondSync, hp]
  · simp [Head.secondSync, hc, hn]

/-- The head after a valid SYNC, the first of its cycle. -/
def Head.synced (h : Head) (port : Nat) (hdr : SyncHeader) (now : Cycle) : Head :=
  let g := (((h.countErrors hdr.errors).beginCycle port hdr now).slotsAtSync hdr.cycle).sendBreak
  { g with switches := g.switchesAtSync }

/-- SYNC at a head that is awake, by its check and by whether it is the second of its cycle. -/
theorem execHeadSyncReceive_cases {s : State} {place : Nat} (hawake : (s.head place).state ≠ .lowPower) (port : Nat) (hdr : SyncHeader) :
    (hdr.checkOk = false → (s.head place).secondSync port hdr s.core.cycle = false → execHeadSyncReceive place port hdr s = .next (s.withHead place
      { (s.head place).countErrors hdr.errors with inboundErr := true, sampled := false, syncPort := none })) ∧
    (hdr.checkOk = true → (s.head place).secondSync port hdr s.core.cycle = true → execHeadSyncReceive place port hdr s = .next ((s.withHead place
      { (s.head place).countErrors hdr.errors with inboundErr := true }).raiseOnce 0x020 0x25 .warn 0 0)) ∧
    (hdr.checkOk = true → (s.head place).secondSync port hdr s.core.cycle = false →
      execHeadSyncReceive place port hdr s = .next (s.withHead place ((s.head place).synced port hdr s.core.cycle))) := by
  have hrun : execHeadSyncReceive place port hdr s = if !hdr.checkOk then .next (s.withHead place
        (if (s.head place).secondSync port hdr s.core.cycle then { (s.head place).countErrors hdr.errors with inboundErr := true }
         else { (s.head place).countErrors hdr.errors with inboundErr := true, sampled := false, syncPort := none }))
      else if (s.head place).secondSync port hdr s.core.cycle then .next ((s.withHead place
        { (s.head place).countErrors hdr.errors with inboundErr := true }).raiseOnce 0x020 0x25 .warn 0 0)
      else .next (s.withHead place ((s.head place).synced port hdr s.core.cycle)) := if_neg hawake
  rw [hrun]
  refine ⟨fun hbad hfirst => ?_, fun hok hsecond => ?_, fun hok hfirst => ?_⟩
  · rw [if_pos (by rw [hbad]; rfl), if_neg (by rw [hfirst]; exact Bool.false_ne_true)]
  · rw [if_neg (by rw [hok]; exact Bool.false_ne_true), if_pos hsecond]
  · rw [if_neg (by rw [hok]; exact Bool.false_ne_true), if_neg (by rw [hfirst]; exact Bool.false_ne_true)]

/-- Sending BRK changes nothing else of the head (R62). -/
theorem Head.sendBreak_brk (h : Head) : ∃ b, h.sendBreak = { h with brkAt := b } ∧
    (h.wrapped = true → h.failedSide.isSome = true → h.state = .enumerated → b = h.lastSync) := by
  unfold Head.sendBreak
  split
  · exact ⟨h.lastSync, rfl, fun _ _ _ => rfl⟩
  next hno => exact ⟨h.brkAt, rfl, fun hw hf he => absurd (by simp [hw, hf, he]) hno⟩

/-- What a valid SYNC leaves of a head: its cycle and instant, the configuration that waited, the recovery of a head that had lost SYNC, a due unwrap, and BRK. -/
theorem Head.synced_fields (h : Head) (port : Nat) (hdr : SyncHeader) (now : Cycle) (g : Head) (hg : g = h.synced port hdr now) :
    g.lastSync = some hdr.cycle ∧ g.syncPort = some port ∧ g.missing = 0 ∧ g.sampled = false ∧
    g.sampleAt = (hdr.ts : Int) * 100 - hdr.entry - ((if port = 0 then h.dW else h.dE).getD 0 : Nat) ∧
    g.state = (if h.state = .syncLost then .enumerated else h.state) ∧ g.pendingCfg = none ∧
    (∀ c, h.pendingCfg = some c → g.n = c.1 ∧ g.tempMask = c.2) ∧ (h.pendingCfg = none → g.n = h.n ∧ g.tempMask = h.tempMask) ∧
    g.wrapped = (if h.unwrapAt = some hdr.cycle then false else h.wrapped) ∧
    (h.wrapped = true → h.failedSide.isSome = true → h.state = .enumerated ∨ h.state = .syncLost → h.unwrapAt ≠ some hdr.cycle →
      g.brkAt = some hdr.cycle) := by
  subst hg
  obtain ⟨b, hb, hbrk⟩ := (((h.countErrors hdr.errors).beginCycle port hdr now).slotsAtSync hdr.cycle).sendBreak_brk
  unfold Head.synced
  rw [hb]
  refine ⟨rfl, rfl, rfl, rfl, rfl, rfl, rfl, fun c hc => ?_, fun hc => ?_, rfl, fun hw hf hs hstays => hbrk ?_ ?_ ?_⟩
  · simp only [Head.slotsAtSync, Head.beginCycle, Head.countErrors, hc, and_self]
  · simp only [Head.slotsAtSync, Head.beginCycle, Head.countErrors, hc, and_self]
  · exact (if_neg hstays).trans hw
  · exact (congrArg Option.isSome (if_neg hstays)).trans hf
  · rcases hs with he | hl
    · exact (if_neg (by rw [show (h.countErrors hdr.errors).state = h.state from rfl, he]; decide)).trans he
    · exact if_pos hl

/-- Another head at a place leaves the heads elsewhere, and no other part changes. -/
theorem withHead_changes (s : State) (place : Nat) (h : Head) : ChangesOnly [.heads] s (s.withHead place h) ∧
    ∀ q, q ≠ place → (s.withHead place h).head q = s.head q :=
  ⟨(keeps_mk (.refl _ s) (by simp [SameBut]) (by simp [SameLists])).changesOnly, fun _ hq => Tab.at_put_other _ _ _ (Ne.symm hq)⟩

/-- Settles O23: a SYNC that fails its check, a second one, and the first valid one of a cycle. -/
theorem headTakesSync : Obligations.HeadTakesSync := by
  rintro s place port hdr h rfl hawake
  obtain ⟨hbad, hsecond, hfirst⟩ := execHeadSyncReceive_cases hawake port hdr
  refine ⟨fun hcheck hp => hbad hcheck (Head.secondSync_first (by tauto)), fun q hcheck hp hq hcycle => ?_, fun hcheck hp => ?_⟩
  · refine ⟨_, hsecond hcheck (Head.secondSync_other hp hq hcycle), ?_, raised_raiseOnce ..⟩
    rw [head_congr (State.raiseOnce_other ..).2.2.1, head_withHead]
  · obtain ⟨hparts, hothers⟩ := withHead_changes s place ((s.head place).synced port hdr s.core.cycle)
    refine ⟨_, hfirst hcheck (Head.secondSync_first hp), hparts, hothers, ?_⟩
    exact Head.synced_fields (s.head place) port hdr s.core.cycle _ (head_withHead ..)

end Sys2Proof.Machine
end

section
/-! SUPPORT. Breaks of the ring and what a port counts without one (R38, R63, R64, R68, R74). -/

namespace Sys2Proof.Machine

open Sys2Proof

/-- A command that is neither SYNC nor a write changes no part but those of its row. -/
theorem exec_changesOnly {i : Instr} {s t : State} (hsync : ∀ heard, i ≠ .sync heard) (hw : writeOf i = none) (h : exec i s = .next t) :
    ChangesOnly (touched i) s t := by
  obtain ⟨u, hu, hk⟩ := exec_nonwrite_keeps hsync hw (A := fun p => (touched i).contains p) (fun _ hp => List.contains_iff_mem.2 hp) s
  rw [h, Host.Outcome.next.injEq] at hu
  exact hu ▸ hk.changesOnly

/-! ### The receive port and the counters -/

/-- The receive port depends on the ring's state, on who originates, and on the fenced ports alone (R63). -/
theorem receivePort_congr {s t : State} (hstate : t.ring.state = s.ring.state) (horig : t.ring.originating = s.ring.originating)
    (hboth : t.ring.bothPorts = s.ring.bothPorts) (hfenced : t.ranger.fenced = s.ranger.fenced) : t.receivePort = s.receivePort := by
  simp only [State.receivePort, State.originates, State.portFenced, hstate, horig, hboth, hfenced]

theorem fenced_raiseOnce (s : State) (source kind : Nat) (sev : Sev) (cls val : Nat) :
    (s.raiseOnce source kind sev cls val).ranger.fenced = s.ranger.fenced := by
  unfold State.raiseOnce
  split <;> rfl

/-- The counters of R74 have 16 rows a port: another row is another counter, whatever the port. -/
theorem counter_count_row (s : State) (port n : Nat) {row port' row' : Nat} (hr : row < 16) (hr' : row' < 16) (hne : row ≠ row') :
    (s.count port row n).counter port' row' = s.counter port' row' := by
  rw [counter_count, if_neg (by omega)]

theorem counter_count_same (s : State) (port row n : Nat) : (s.count port row n).counter port row = add32 (s.counter port row) n := by
  rw [counter_count, if_pos rfl]

/-- The violations and errors of a receiver go to its counters and its window, and to a fault that tells of them (R37, R74). -/
theorem countViolations_ring (port code disparity : Nat) (s : State) : ∃ v, (countViolations port code disparity s).ring =
    { (if code + disparity = 0 then s else (s.count port 1 code).count port 2 disparity).ring with violations := v } := by
  unfold countViolations
  split
  next => exact ⟨s.ring.violations, rfl⟩
  next =>
    dsimp only
    split
    next => exact ⟨_, (State.raiseOnce_other ..).2.1⟩
    next => exact ⟨_, rfl⟩

theorem countViolations_ranger (port code disparity : Nat) (s : State) :
    Grows s (countViolations port code disparity s) ∧ (countViolations port code disparity s).ranger.fenced = s.ranger.fenced := by
  unfold countViolations
  split
  next => exact ⟨.refl s, rfl⟩
  next =>
    dsimp only
    split
    next => exact ⟨Grows.trans (.of_eq rfl) (grows_raiseOnce ..), fenced_raiseOnce ..⟩
    next => exact ⟨.of_eq rfl, rfl⟩

theorem countViolations_core (port code disparity : Nat) (s : State) : (countViolations port code disparity s).core = s.core :=
  (countViolations_keeps port code disparity s (.refl (fun p => p != .core) s)).core_eq

/-- Only rows 1 and 2 of the port count violations and errors. -/
theorem counter_countViolations {port code disparity : Nat} {s : State} (port' : Nat) {row : Nat} (hr : row < 16) :
    (row ≠ 1 → row ≠ 2 → (countViolations port code disparity s).counter port' row = s.counter port' row) ∧
    (0 < code + disparity → (countViolations port code disparity s).counter port 1 = add32 (s.counter port 1) code ∧
      (countViolations port code disparity s).counter port 2 = add32 (s.counter port 2) disparity) ∧
    (code + disparity = 0 → countViolations port code disparity s = s) := by
  obtain ⟨v, hv⟩ := countViolations_ring port code disparity s
  have hc : ∀ p n, (countViolations port code disparity s).counter p n =
      (if code + disparity = 0 then s else (s.count port 1 code).count port 2 disparity).counter p n := fun p n => by
    rw [State.counter, hv, State.counter]
  refine ⟨fun h1 h2 => ?_, fun hpos => ?_, fun h0 => if_pos h0⟩
  · rw [hc]
    split
    next => rfl
    next => rw [counter_count_row _ _ _ (by decide) hr (Ne.symm h2), counter_count_row _ _ _ (by decide) hr (Ne.symm h1)]
  · rw [hc, hc, if_neg (by omega), counter_count_row _ _ _ (row := 2) (by decide) (by decide) (by decide), counter_count_same, counter_count_same,
      counter_count_row _ _ _ (row := 1) (by decide) (by decide) (by decide)]
    exact ⟨rfl, rfl⟩

/-! ### A declared break -/

/-- A break is declared in the present cycle: the ring is wrapped, both ports originate from the next cycle or the one after, and the break is reported. -/
structure BreakDeclared (late : Bool) (s t : State) : Prop where
  state : t.ring.state = .wrapped
  lastChange : t.ring.lastChange = s.core.cycle
  breakFrom : t.ring.breakFrom = some (s.core.cycle + if late then 2 else 1)
  breakCycle : t.ring.breakCycle = true
  raised : t.raised 0x020 0x2A 0 0 = true
  counted : t.counter s.receivePort 9 = add32 (s.counter s.receivePort 9) 1

theorem setRing_wraps {s : State} (h : s.ring.state = .closed) :
    setRing .wrapped s = { s with ring := { s.ring with state := .wrapped, lastChange := s.core.cycle } } := by
  unfold setRing
  rw [if_neg (by rw [h]; decide), if_pos rfl]

/-- In a closed ring a declaration is a break (R63, R64, R68). -/
theorem declareBreak_declares (late : Bool) {s : State} (hclosed : s.ring.state = .closed) (horig : s.ring.originating = true) :
    BreakDeclared late s (declareBreak late s) := by
  unfold declareBreak
  rw [if_pos (by simp [hclosed, horig])]
  extract_lets s1 s2 g s3
  have h2 : s2 = { s1 with ring := { s1.ring with state := .wrapped, lastChange := s1.core.cycle } } := setRing_wraps hclosed
  have h3 : s3.ring = { s1.ring with
      state := .wrapped, lastChange := s.core.cycle, breakCycle := true, breakFrom := some (s.core.cycle + if late then 2 else 1) } := by
    simp only [s3, g, h2]
    rfl
  have hcount : ∀ t : State, t.ring = s3.ring → t.counter s.receivePort 9 = add32 (s.counter s.receivePort 9) 1 := fun t ht => by
    rw [State.counter, ht, h3]
    exact counter_count_same s s.receivePort 9 1
  split
  next hraised => exact ⟨by rw [h3], by rw [h3], by rw [h3], by rw [h3], hraised, hcount _ rfl⟩
  next =>
    have hr : (s3.reportInj (s3.tainted 0 || s3.tainted 1) (srcRing 0) 0x2A .warn 0 0).ring = s3.ring := rfl
    exact ⟨by rw [hr, h3], by rw [hr, h3], by rw [hr, h3], by rw [hr, h3], raised_reportInj .., hcount _ rfl⟩

theorem setRing_leaves (st : RingState) (s : State) : (setRing st s).ring.los = s.ring.los ∧ (setRing st s).ring.counters = s.ring.counters := by
  rw [setRing_rest]
  exact ⟨rfl, rfl⟩

/-- Whatever a declaration finds, it leaves the ports' loss of signal and every counter but row 9, and takes no message back. -/
theorem declareBreak_leaves (late : Bool) (s : State) : (declareBreak late s).ring.los = s.ring.los ∧ Grows s (declareBreak late s) ∧
    ∀ port row, row < 16 → row ≠ 9 → (declareBreak late s).counter port row = s.counter port row := by
  unfold declareBreak
  split
  next =>
    extract_lets s1 s2 g s3
    obtain ⟨hlos, hcounters⟩ := setRing_leaves .wrapped s1
    have h2 : s2.ranger = s.ranger := (setRing_keeps .wrapped s1 (.refl (fun p => p = .ring) s1)).ranger_eq
    have hcount : ∀ port row, row < 16 → row ≠ 9 → s3.counter port row = s.counter port row := fun port row hr hne => by
      rw [counter_congr (t := s3) hcounters, counter_count_row _ _ _ (by decide) hr (Ne.symm hne)]
    have hgrow : Grows s s3 := .of_eq (congrArg Ranger.outbox h2)
    split
    next => exact ⟨hlos, hgrow, hcount⟩
    next => exact ⟨hlos, hgrow.trans ⟨_, rfl⟩, hcount⟩
  next => exact ⟨rfl, .refl s, fun _ _ _ _ => rfl⟩

/-- A break that is declared once a receiver's counts have been taken is a break of the state before them. -/
theorem BreakDeclared.from {late : Bool} {s u t : State} (h : BreakDeclared late u t) (hcore : u.core = s.core) (hport : u.receivePort = s.receivePort)
    (hcount : u.counter s.receivePort 9 = s.counter s.receivePort 9) : BreakDeclared late s t := by
  obtain ⟨hstate, hlast, hfrom, hcycle, hraised, hcounted⟩ := h
  rw [hcore] at hlast hfrom
  rw [hport, hcount] at hcounted
  exact ⟨hstate, hlast, hfrom, hcycle, hraised, hcounted⟩

/-! ### Loss of signal and a missed SYNC -/

/-- What a loss of signal leaves at its port: the violations, its counter, its flag and its message (R38, R74). -/
def losNoted (port code disparity : Nat) (s : State) : State :=
  let s := (countViolations port code disparity s).count port 3 1
  State.report { s with ring := { s.ring with los := Tab.put s.ring.los port true } } (srcRing port) 0x27 .notice 5 port

theorem execLosDeclared_eq (port code disparity : Nat) (late : Bool) (s : State) : exec (.losDeclared port code disparity late) s =
    .next (if port = (losNoted port code disparity s).receivePort then declareBreak late (losNoted port code disparity s) else losNoted port code disparity s) := rfl

/-- Of the Yarder only counters, violations and flags of the port change before a break is looked for. -/
theorem losNoted_ring (port code disparity : Nat) (s : State) : (losNoted port code disparity s).ring.state = s.ring.state ∧
    (losNoted port code disparity s).ring.originating = s.ring.originating ∧ (losNoted port code disparity s).core = s.core ∧
    (losNoted port code disparity s).receivePort = s.receivePort := by
  obtain ⟨v, hv⟩ := countViolations_ring port code disparity s
  obtain ⟨-, hfenced⟩ := countViolations_ranger port code disparity s
  have hring : (countViolations port code disparity s).ring.state = s.ring.state ∧ (countViolations port code disparity s).ring.originating = s.ring.originating ∧
      (countViolations port code disparity s).ring.bothPorts = s.ring.bothPorts := by
    rw [hv]
    split <;> exact ⟨rfl, rfl, rfl⟩
  obtain ⟨hstate, horig, hboth⟩ := hring
  exact ⟨hstate, horig, countViolations_core .., receivePort_congr hstate horig hboth hfenced⟩

/-- The counters after a loss of signal: rows 1 to 3 of its port (R74). -/
theorem counter_losNoted (port code disparity : Nat) (s : State) (port' row : Nat) (hr : row < 16) (h3 : row ≠ 3) :
    (losNoted port code disparity s).counter port' row = (countViolations port code disparity s).counter port' row ∧
    (losNoted port code disparity s).counter port 3 = add32 (s.counter port 3) 1 := by
  have hc : ∀ p n, (losNoted port code disparity s).counter p n = ((countViolations port code disparity s).count port 3 1).counter p n := fun _ _ => rfl
  rw [hc, hc, counter_count_row _ _ _ (by decide) hr (Ne.symm h3), counter_count_same, (counter_countViolations port (row := 3) (by decide)).1 (by decide) (by decide)]
  exact ⟨rfl, rfl⟩

/-- The message of a loss of signal is sent, and the port's flag is up. -/
theorem losNoted_reports (port code disparity : Nat) (s : State) : Tab.at (losNoted port code disparity s).ring.los port false = true ∧
    Sent s (losNoted port code disparity s) (s.msg (0x020 + port) 0x27 .notice 5 port) := by
  refine ⟨Tab.at_put_same .., ?_⟩
  obtain ⟨hgrow, -⟩ := countViolations_ranger port code disparity s
  have hmsg : s.msg (0x020 + port) 0x27 .notice 5 port = ((countViolations port code disparity s).count port 3 1).msg (srcRing port) 0x27 .notice 5 port := by
    unfold State.msg
    rw [show ((countViolations port code disparity s).count port 3 1).core = s.core from countViolations_core ..]
    rfl
  rw [hmsg]
  exact Sent.from (sent_report ..) (hgrow.trans (.of_eq rfl))

/-- What a missed SYNC leaves before a break is looked for: its counter and the run of cycles without one (R63, R74). -/
def syncMissed (port run : Nat) (s : State) : State :=
  { s.count port 4 1 with ring := { (s.count port 4 1).ring with syncMissRun := run, syncMissAt := s.core.cycle } }

theorem execSyncNotReturned_eq (port : Nat) (late : Bool) (s : State) : exec (.syncNotReturned port late) s =
    .next (if 2 ≤ (if s.ring.syncMissAt + 1 = s.core.cycle then s.ring.syncMissRun + 1 else 1) then
        declareBreak late (syncMissed port (if s.ring.syncMissAt + 1 = s.core.cycle then s.ring.syncMissRun + 1 else 1) s)
      else syncMissed port (if s.ring.syncMissAt + 1 = s.core.cycle then s.ring.syncMissRun + 1 else 1) s) := rfl

/-- Settles O14: each detection is a declaration in a ring that is still closed. -/
theorem ringBreakDeclared : Obligations.RingBreakDeclared := by
  intro s late i hclosed horig hi
  suffices h : ∃ t, exec i s = .next t ∧ BreakDeclared late s t by
    obtain ⟨t, ht, hstate, hlast, hfrom, hcycle, hraised, hcounted⟩ := h
    have hparts : touched i = [.ring, .ranger] ∧ writeOf i = none ∧ ∀ heard, i ≠ .sync heard := by
      rcases hi with ⟨code, disparity, rfl⟩ | rfl | ⟨rfl, -⟩ <;> exact ⟨rfl, rfl, fun _ e => by cases e⟩
    obtain ⟨htouched, hw, hsync⟩ := hparts
    exact ⟨t, ht, htouched ▸ exec_changesOnly hsync hw ht, hstate, hlast, hfrom, hcycle, hraised, hcounted⟩
  rcases hi with ⟨code, disparity, rfl⟩ | rfl | ⟨rfl, hcycle, hrun⟩
  · obtain ⟨hstate, ho, hcore, hport⟩ := losNoted_ring s.receivePort code disparity s
    refine ⟨_, (execLosDeclared_eq ..).trans (congrArg Host.Outcome.next (if_pos hport.symm)), ?_⟩
    refine (declareBreak_declares late (hstate.trans hclosed) (ho.trans horig)).from hcore hport ?_
    rw [(counter_losNoted _ _ _ _ _ 9 (by decide) (by decide)).1]
    exact (counter_countViolations _ (by decide)).1 (by decide) (by decide)
  · exact ⟨_, congrArg Host.Outcome.next (if_pos hclosed), declareBreak_declares late hclosed horig⟩
  · refine ⟨_, (execSyncNotReturned_eq ..).trans (congrArg Host.Outcome.next (if_pos ?_)), ?_⟩
    · rw [if_pos hcycle]; omega
    · exact (declareBreak_declares (s := syncMissed s.receivePort _ s) late hclosed horig).from rfl (receivePort_congr rfl rfl rfl rfl)
        (counter_count_row s s.receivePort 1 (row := 4) (port' := s.receivePort) (row' := 9) (by decide) (by decide) (by decide))

/-- Loss of signal at any port: its counts, its flag and its message; a break only at the receive port (R38, R63, R74). -/
theorem gives_losDeclared (port code disparity : Nat) (late : Bool) (s : State) : Gives (.losDeclared port code disparity late) s fun t =>
    ChangesOnly [.ring, .ranger] s t ∧ Tab.at t.ring.los port false = true ∧
    (0 < code + disparity → t.counter port 1 = add32 (s.counter port 1) code ∧ t.counter port 2 = add32 (s.counter port 2) disparity) ∧
    (code + disparity = 0 → t.counter port 1 = s.counter port 1 ∧ t.counter port 2 = s.counter port 2) ∧ t.counter port 3 = add32 (s.counter port 3) 1 ∧
    Sent s t (s.msg (0x020 + port) 0x27 .notice 5 port) ∧ (port ≠ s.receivePort → t.ring.state = s.ring.state) := by
  obtain ⟨hstate, -, -, hport⟩ := losNoted_ring port code disparity s
  obtain ⟨hflag, hsent⟩ := losNoted_reports port code disparity s
  obtain ⟨-, hcounts, hnone⟩ := counter_countViolations (code := code) (disparity := disparity) (s := s) (port := port) port (row := 1) (by decide)
  have h1 := counter_losNoted port code disparity s port 1 (by decide) (by decide)
  have h2 := counter_losNoted port code disparity s port 2 (by decide) (by decide)
  refine ⟨_, execLosDeclared_eq .., exec_changesOnly (fun _ e => by cases e) rfl (execLosDeclared_eq port code disparity late s), ?_⟩
  have hafter : ∀ t : State, t = (if port = (losNoted port code disparity s).receivePort then declareBreak late (losNoted port code disparity s)
      else losNoted port code disparity s) → t.ring.los = (losNoted port code disparity s).ring.los ∧ Grows (losNoted port code disparity s) t ∧
      ∀ row, row < 16 → row ≠ 9 → t.counter port row = (losNoted port code disparity s).counter port row := by
    rintro t rfl
    obtain ⟨hlos, hgrow, hrows⟩ := declareBreak_leaves late (losNoted port code disparity s)
    split
    next => exact ⟨hlos, hgrow, hrows port⟩
    next => exact ⟨rfl, .refl _, fun _ _ _ => rfl⟩
  obtain ⟨hlos, hgrow, hrows⟩ := hafter _ rfl
  rw [hlos, hrows 1 (by decide) (by decide), hrows 2 (by decide) (by decide), hrows 3 (by decide) (by decide), h1.1, h2.1, h1.2]
  refine ⟨hflag, hcounts, fun h0 => by rw [hnone h0]; exact ⟨rfl, rfl⟩, rfl, hsent.grow hgrow, fun hne => ?_⟩
  rw [if_neg (by rw [hport]; exact hne), hstate]

/-- Settles O15: loss of signal by its own lemma, its end, a first missed SYNC, and BRK where no ring is closed. -/
theorem ringPortEvents : Obligations.RingPortEvents := by
  intro s port late
  refine ⟨fun code disparity => gives_losDeclared port code disparity late s, ?cleared, fun hfirst => ?missed, fun hopen => congrArg Host.Outcome.next (if_neg hopen)⟩
  case cleared =>
    have hexec : exec (.losCleared port) s = .next (State.clearOnce { s with ring := { s.ring with los := Tab.put s.ring.los port false } } (srcRing port) 0x27 5 port) := rfl
    obtain ⟨-, hring, -⟩ := State.clearOnce_other { s with ring := { s.ring with los := Tab.put s.ring.los port false } } (srcRing port) 0x27 5 port
    refine ⟨_, hexec, exec_changesOnly (fun _ e => by cases e) rfl hexec, ?_, raised_clearOnce .., ?_⟩
    · rw [hring]; exact Tab.at_put_same ..
    · rw [hring]
  case missed =>
    refine ⟨_, (execSyncNotReturned_eq port late s).trans (congrArg Host.Outcome.next (if_neg (by rw [if_neg hfirst]; decide))), ?_, ?_, if_neg hfirst, rfl, rfl⟩
    · exact (keeps_ring (.refl _ s) rfl _).changesOnly
    · exact counter_count_same s port 4 1

end Sys2Proof.Machine
end

section
/-! SUPPORT. The string record of a cycle (R45, R173, R254, R266): what its use leaves of direction and Hall mark. -/

namespace Sys2Proof.Machine

open Sys2Proof

/-- The direction of the cycle and the Hall comparator's mark stand (R254, R263). -/
def SameDirection (s t : State) : Prop := t.fb.dir = s.fb.dir ∧ t.fe.hallOperated = s.fe.hallOperated

theorem SameDirection.refl (s : State) : SameDirection s s := ⟨rfl, rfl⟩

theorem SameDirection.trans {s t u : State} (h : SameDirection s t) (h' : SameDirection t u) : SameDirection s u := ⟨h'.1.trans h.1, h'.2.trans h.2⟩

theorem SameDirection.ite {s a b : State} {c : Prop} [Decidable c] (ha : SameDirection s a) (hb : SameDirection s b) : SameDirection s (if c then a else b) := by
  split
  · exact ha
  · exact hb

theorem SameDirection.of_eq {s t : State} (hfb : t.fb = s.fb) (hfe : t.fe = s.fe) : SameDirection s t := ⟨by rw [hfb], by rw [hfe]⟩

theorem qualify_direction (bit cls val : Nat) (inj : Bool) (s : State) : SameDirection s (qualify bit cls val inj s) := by
  have htrip : ∀ wait firebreak (u : State), SameDirection u (startTripWait wait firebreak u) := by
    intro wait firebreak u
    unfold startTripWait
    split
    case h_8 | h_9 | h_10 => exact .ite ⟨rfl, rfl⟩ ⟨rfl, rfl⟩
    case h_4 | h_5 | h_6 | h_7 => exact .ite ⟨rfl, rfl⟩ ⟨rfl, rfl⟩
    all_goals exact ⟨rfl, rfl⟩
  exact SameDirection.trans ⟨rfl, rfl⟩ (htrip _ true _)

theorem compliance_direction (bit cls val : Nat) (ok : Bool) (s : State) : SameDirection s (compliance bit cls val ok s) := .ite ⟨rfl, rfl⟩ (.refl s)

theorem raise_direction (s : State) : SameDirection s (s.report 0x010 0x0D .warn 0 0) ∧ SameDirection s (s.clearOnce 0x010 0x0D 0 0) :=
  have h := State.clearOnce_keeps s 0x010 0x0D 0 0 (.refl (fun p => p = .ranger) s)
  ⟨⟨rfl, rfl⟩, .of_eq h.fb_eq h.fe_eq⟩

/-- The insulation result is compared without regard to direction and Hall mark (R266). -/
theorem compareInsulation_direction (r : StringRecord) (s : State) : SameDirection s (compareInsulation r s) := by
  unfold compareInsulation
  split
  next => exact .refl s
  next =>
    extract_lets trip warn c n g1 s1 s2 s3 d m g4 s4 s5 e g6 s6
    have h1 : SameDirection s s1 := ⟨rfl, rfl⟩
    have h2 : SameDirection s s2 := .ite (h1.trans (qualify_direction 12 0 0 false s1)) h1
    have h3 : SameDirection s s3 := h2.trans (compliance_direction ..)
    have h4 : SameDirection s s4 := h3.trans ⟨rfl, rfl⟩
    have h5 : SameDirection s s5 := .ite (h4.trans (raise_direction s4).1) h4
    have h6 : SameDirection s s6 := h5.trans ⟨rfl, rfl⟩
    exact .ite (h6.trans (raise_direction s6).2) h6

theorem recordDirection_congr {s t : State} (h : t.fb.envelope = s.fb.envelope) (r : StringRecord) : t.recordDirection r = s.recordDirection r := by
  simp only [State.recordDirection, env_congr h]

/-- A record that is used is the cycle's, and gives its direction (R254). -/
theorem takeRecord_takes (r : StringRecord) (s : State) : (takeRecord r s).ring.record = r ∧ (takeRecord r s).fb.dir = s.recordDirection r ∧
    (takeRecord r s).fe.hallOperated = s.fe.hallOperated := by
  unfold takeRecord
  extract_lets new g g' u
  obtain ⟨hdir, hhall⟩ := compareInsulation_direction r u
  have hring := (compareInsulation_keeps r u (.refl (fun p => p != .ring) u)).ring_eq
  split
  next => exact ⟨by rw [hring], hdir, hhall⟩
  next => exact ⟨rfl, rfl, rfl⟩

/-- The unit's own record is the front-end's and the clock's (R45, R357). -/
theorem ownRecord_congr {s t : State} (hcore : t.core = s.core) (hfe : t.fe = s.fe) (hclock : t.clock = s.clock) (hdict : t.dict = s.dict) :
    t.ownRecord = s.ownRecord := by simp only [State.ownRecord, State.nowNs, cfg_congr hdict, hcore, hfe, hclock]

/-- A record that the ports send touches ring, injections and what is told of them. -/
theorem sendRecords_keeps (r : StringRecord) (l : List Nat) (s : State) :
    Keeps (fun p => p = .ring || p = .pair || p = .tally || p = .inject) s (l.foldl (sendRecord r) s) :=
  keeps_foldl (fun x p hx => sendRecord_keeps r x p hx) (.refl _ s)

/-- The Hall comparator's mark of the cycle before is taken back (R263). -/
def State.hallRead (s : State) : State := { s with fe := { s.fe with hallOperated := false } }

/-- Settles O39: the unit's own record, one that is heard with no injection running, and a cycle without one. -/
theorem stringRecords : Obligations.StringRecords := by
  intro s hcycling
  have hrun : ¬ (!s.cycling) = true := by rw [hcycling]; exact Bool.false_ne_true
  have hother : s.ring.originating = false → ¬ s.ring.originating = true := fun h => by rw [h]; exact Bool.false_ne_true
  refine ⟨fun heard horig => ?own, fun r horig hidle hdrill hok => ?heard, fun heard horig hbad => ?missing⟩
  case own =>
    have hsends := sendRecords_keeps s.ownRecord s.originPorts s
    generalize hu : s.originPorts.foldl (sendRecord s.ownRecord) s = u at hsends
    have hexec : exec (.stringRecord heard) s = .next (takeRecord u.ownRecord u.hallRead) := by
      show execStringRecord heard s = _
      unfold execStringRecord
      rw [if_neg hrun, if_pos horig, hu]
      rfl
    obtain ⟨hrecord, hdir, hhall⟩ := takeRecord_takes u.ownRecord u.hallRead
    have hown : u.ownRecord = s.ownRecord := ownRecord_congr hsends.core_eq hsends.fe_eq hsends.clock_eq hsends.dict_eq
    rw [hown] at hrecord hdir hhall hexec
    exact ⟨_, hexec, hrecord, hdir.trans (recordDirection_congr (congrArg Firebreak.envelope hsends.fb_eq) _), hhall⟩
  case heard =>
    have hidle : (s.hallRead.injector 0).state ≠ 2 := hidle
    have hno : ¬ (s.hallRead.injector 0).drill = true := by
      rw [show (s.hallRead.injector 0).drill = (s.injector 0).drill from rfl, hdrill]
      exact Bool.false_ne_true
    have hhear : hearRecord 0 s.hallRead = (.clean, s.hallRead) := by
      unfold hearRecord
      rw [injectFrame_idle hidle]
      rfl
    have hexec : exec (.stringRecord (some r)) s = .next (takeRecord r s.hallRead) := by
      show execStringRecord (some r) s = _
      unfold execStringRecord
      rw [if_neg hrun, if_neg (hother horig), Option.filter_some, if_pos hok, ← State.hallRead]
      dsimp only
      rw [hhear]
      exact if_neg hno
    obtain ⟨hrecord, hdir, -⟩ := takeRecord_takes r s.hallRead
    exact ⟨_, hexec, hrecord, hdir⟩
  case missing =>
    have hnone : heard.filter StringRecord.checkOk = none := by
      cases heard with
      | none => rfl
      | some r => simp [hbad r rfl]
    have hexec : exec (.stringRecord heard) s = .next (noRecord s.hallRead) := by
      show execStringRecord heard s = _
      unfold execStringRecord
      rw [if_neg hrun, if_neg (hother horig), hnone]
      rfl
    exact ⟨_, hexec, rfl, rfl⟩

end Sys2Proof.Machine
end

section
/-! SUPPORT. Heads that fall silent and come back (R59, R65, R66, R67, R68). -/

namespace Sys2Proof.Machine

open Sys2Proof

/-- A head that is found silent becomes unreachable, which the Firebreak takes as a cause (R65). -/
theorem gives_headUnreachable {s : State} {p : Nat} (hwrapped : s.ring.state = .wrapped) (hboth : s.ring.bothPorts = true)
    (hrun : 3 ≤ (s.info p).missRun) (hreach : (s.info p).unreachable = false) : Gives (.headUnreachable p) s fun t =>
      (t.info p).unreachable = true ∧ (t.info p).from_ = 255 ∧ (t.info p).hop = 0 ∧ t.cause 13 = true ∧ t.causeRaised 13 2 (p * 256 + 255) = true ∧
      TripTaken true s t := by
  have hexec : exec (.headUnreachable p) s = .next (qualify 13 2 (headTap p 0xFF) false
      (s.modInfo p fun h => { h with unreachable := true, from_ := 255, hop := 0 })) := if_pos (by simp [hwrapped, hboth, hrun, hreach])
  refine ⟨_, hexec, ?_⟩
  generalize hu : s.modInfo p (fun h => { h with unreachable := true, from_ := 255, hop := 0 }) = u
  obtain ⟨hcause, hraised, htaken⟩ := qualify_taken 13 2 (headTap p 0xFF) false u (by decide)
  have hinfo : (qualify 13 2 (headTap p 0xFF) false u).info p = { s.info p with unreachable := true, from_ := 255, hop := 0 } := by
    rw [info_congr (congrArg Ring.heads (qualify_keeps 13 2 (headTap p 0xFF) false u (.refl (fun q => q != .ring) u)).ring_eq), ← hu, info_modInfo, if_pos rfl]
  rw [hinfo]
  subst hu
  exact ⟨rfl, rfl, rfl, hcause, hraised, htaken.congr rfl rfl rfl⟩

/-- What the Yarder tries once a far side is restored leaves the heads (R66). -/
theorem tryUnwrap_head (s : State) (p : Nat) : (tryUnwrap s).head p = s.head p :=
  head_congr (tryUnwrap_keeps s (.refl (fun q => q != .heads) s)).heads_eq p

/-- A head that is identified and loaded again with the position and the delays that the Yarder kept of it (R67). -/
def reloadHead (p : Nat) (ident : HeadIdent) (s : State) : State :=
  let i := s.info p
  let reg := fun (d : Nat) => if d = 0xFFFF then none else some d
  let s := launchAll (s.portOf p) [hopCommand (s.portOf p) (s.hopFrom (s.portOf p) p) opIdentify []] s
  loadHead p (s.portOf p) (s.hopFrom (s.portOf p) p) ident (reg i.dW) (reg i.dE) s

/-- A head that is enumerated again by itself: loaded, and wrapped as it was (R67). -/
def readmitHead (p : Nat) (ident : HeadIdent) (s : State) : State :=
  (reloadHead p ident s).modHead p fun h => { h with wrapped := true, failedAt := (reloadHead p ident s).core.cycle }

/-- What follows the loading leaves the head and the Yarder's registers of it: the comparison of channels, a changed head's cells, CONFIGURE, and UNWRAP. -/
theorem execHeadReadmission_loads {s : State} {p : Nat} (ident : HeadIdent) (horig : s.ring.originating = true) (hwrapped : s.ring.state = .wrapped)
    (hinit : (s.head p).state = .initial)
    (hsome : ¬ ((s.allHeads.filter fun q => s.portOf q = s.portOf p).all fun q => (s.head q).state = .initial || (s.head q).state = .lowPower) = true) :
    ∃ t, exec (.headReadmission p ident) s = .next t ∧ t.heads = (readmitHead p ident s).heads ∧ t.ring.heads = (readmitHead p ident s).ring.heads := by
  have hexec : exec (.headReadmission p ident) s = .next (tryUnwrap (configureHead
      (if ((s.info p).serial != 0 && (s.info p).serial != ident.serial) = true then headInserted
        (if (readmitHead p ident s).channelMismatch p then (readmitHead p ident s).raiseOnce (srcRing 0) 0x23 .degrade 0 0 else readmitHead p ident s) p
       else if (readmitHead p ident s).channelMismatch p then (readmitHead p ident s).raiseOnce (srcRing 0) 0x23 .degrade 0 0 else readmitHead p ident s) p)) :=
    (if_pos (by simp [horig, hwrapped, hinit])).trans (if_neg hsome)
  refine ⟨_, hexec, ?_⟩
  generalize readmitHead p ident s = u
  have hraise : ∀ v, v = (if u.channelMismatch p then u.raiseOnce (srcRing 0) 0x23 .degrade 0 0 else u) → v.ring = u.ring ∧ v.heads = u.heads := by
    rintro v rfl
    split
    next => exact ⟨(State.raiseOnce_other ..).2.1, (State.raiseOnce_other ..).2.2.1⟩
    next => exact ⟨rfl, rfl⟩
  obtain ⟨hring, hheads⟩ := hraise _ rfl
  generalize (if u.channelMismatch p then u.raiseOnce (srcRing 0) 0x23 .degrade 0 0 else u) = v at hring hheads ⊢
  have hinsert : ∀ w, w = (if ((s.info p).serial != 0 && (s.info p).serial != ident.serial) = true then headInserted v p else v) →
      w.ring = u.ring ∧ w.heads = u.heads := by
    rintro w rfl
    split
    next => exact ⟨(headInserted_ring v p).1.trans hring, (headInserted_ring v p).2.trans hheads⟩
    next => exact ⟨hring, hheads⟩
  obtain ⟨hring, hheads⟩ := hinsert _ rfl
  generalize (if ((s.info p).serial != 0 && (s.info p).serial != ident.serial) = true then headInserted v p else v) = w at hring hheads ⊢
  constructor
  · rw [(tryUnwrap_keeps _ (.refl (fun q => q != .heads) _)).heads_eq, (configureHead_keeps w p (.refl (fun q => q != .heads) w)).heads_eq, hheads]
  · obtain ⟨-, -, -, -, hconf, -⟩ := (configureHead_queues w p).fields
    rw [tryUnwrap_heads, hconf, hring]

/-- A reloaded head has its identity, its position and its delays, and counts as heard (R67). -/
theorem reloadHead_loaded (p : Nat) (ident : HeadIdent) (s : State) :
    ((reloadHead p ident s).head p).state = .enumerated ∧ ((reloadHead p ident s).head p).p = some p ∧
    ((reloadHead p ident s).head p).serial = ident.serial ∧
    ((reloadHead p ident s).head p).dW = (if (s.info p).dW = 0xFFFF then none else some (s.info p).dW) ∧
    ((reloadHead p ident s).head p).dE = (if (s.info p).dE = 0xFFFF then none else some (s.info p).dE) ∧
    ((reloadHead p ident s).info p).serial = ident.serial ∧ ((reloadHead p ident s).info p).missRun = 0 ∧
    ((reloadHead p ident s).info p).unreachable = false := by
  obtain ⟨hstate, -, hp, hserial, hdW, hdE, hkept, hmiss, hreach⟩ := loadHead_loaded p _ _ ident _ _ _ _ (show reloadHead p ident s = loadHead .. from rfl)
  exact ⟨hstate, hp, hserial, hdW, hdE, hkept, hmiss, hreach⟩

theorem info_modHead (s : State) (p q : Nat) (f : Head → Head) : (s.modHead p f).info q = s.info q := rfl

/-- A readmitted head holds what was kept of it (R67). -/
theorem readmitHead_loaded (p : Nat) (ident : HeadIdent) (s : State) : ∀ t, t = readmitHead p ident s →
    (t.head p).state = .enumerated ∧ (t.head p).wrapped = true ∧ (t.head p).p = some p ∧
    (t.head p).serial = ident.serial ∧ (t.info p).serial = ident.serial ∧ (t.info p).missRun = 0 ∧ (t.info p).unreachable = false ∧
    (t.head p).dW = (if (s.info p).dW = 0xFFFF then none else some (s.info p).dW) ∧
    (t.head p).dE = (if (s.info p).dE = 0xFFFF then none else some (s.info p).dE) := by
  rintro t rfl
  obtain ⟨hstate, hp, hserial, hdW, hdE, hkept, hmiss, hreach⟩ := reloadHead_loaded p ident s
  unfold readmitHead
  generalize reloadHead p ident s = u at *
  rw [head_modHead, if_pos rfl, info_modHead]
  exact ⟨hstate, rfl, hp, hserial, hkept, hmiss, hreach, hdW, hdE⟩

/-- Settles O16: a silent head, a restored far side, and a head that restarted: alone, or with its whole segment. -/
theorem ringHeadsLostAndReadmitted : Obligations.RingHeadsLostAndReadmitted := by
  intro s p hwrapped
  refine ⟨gives_headUnreachable hwrapped, fun delay he hw hpassed => ?restored, fun ident horig hinit hall => ?segment,
    fun ident q horig hinit hq hport hqi hql => ?alone⟩
  case restored =>
    refine ⟨_, if_pos (by simp [he, hw, hpassed]), ?_, fun q hq => ?_⟩
    · exact (tryUnwrap_head ..).trans ((head_congr (s := s.modHead p fun h => { h with farSide := true }) rfl p).trans ((head_modHead ..).trans (if_pos rfl)))
    · exact (tryUnwrap_head ..).trans ((head_congr (s := s.modHead p fun h => { h with farSide := true }) rfl q).trans
        ((head_modHead ..).trans (if_neg (Ne.symm hq))))
  case segment =>
    have hexec : exec (.headReadmission p ident) s = .next (startEnumeration s) := by
      refine (if_pos (by simp [horig, hwrapped, hinit])).trans (if_pos (List.all_eq_true.2 fun q hq => ?_))
      obtain ⟨hmem, hport⟩ := List.mem_filter.1 hq
      rcases hall q hmem (by simpa using hport) with h | h <;> simp [h]
    exact ⟨_, hexec, setRing_state .enum s, rfl, (startEnumeration_keeps s (.refl (fun q => q != .heads) s)).heads_eq⟩
  case alone =>
    have hsome : ¬ ((s.allHeads.filter fun q => s.portOf q = s.portOf p).all fun q => (s.head q).state = .initial || (s.head q).state = .lowPower) = true := by
      intro h
      have := List.all_eq_true.1 h q (List.mem_filter.2 ⟨hq, by simp [hport]⟩)
      simp [hqi, hql] at this
    obtain ⟨t, ht, hheads, hregs⟩ := execHeadReadmission_loads ident horig hwrapped hinit hsome
    refine ⟨t, ht, ?_⟩
    dsimp only
    rw [head_congr hheads, info_congr hregs]
    exact readmitHead_loaded p ident s _ rfl

end Sys2Proof.Machine
end

section
/-! SUPPORT. Blocks and command frames that reach a ring port on which no injection runs (R49, R52, R72, R74, R162). -/

namespace Sys2Proof.Machine

open Sys2Proof

/-! ### A frame at a port without an injection -/

/-- No injection of a ring port touches a frame: none runs, nothing is held back, and none is a drill. -/
structure PortIdle (port : Nat) (s : State) : Prop where
  idle : (s.injector port).state ≠ 2
  held : (s.injector port).heldFrames = []
  noDrill : (s.injector port).drill = false

/-- The state in which a frame acts that no injection touches. -/
def State.untouched (s : State) (port : Nat) : State := s.modInject port fun i => { i with heldFrames := [] }

theorem execHeadBlockReceive_idle {s : State} {port : Nat} (h : PortIdle port s) (b : HeadBlock) : ∃ inj,
    exec (.headBlockReceive port b) s = .next (takeBlock port b inj (s.untouched port)) := by
  obtain ⟨hidle, hheld, hdrill⟩ := h
  refine ⟨(s.untouched port).tainted port, ?_⟩
  show execHeadBlockReceive port b s = _
  unfold execHeadBlockReceive
  rw [injectFrame_idle hidle]
  dsimp only
  rw [if_pos rfl, dueFrames_none hheld]
  have hno : ¬ ((s.untouched port).injector port).drill = true := by
    rw [State.untouched, injector_modInject, if_pos rfl, hdrill]
    exact Bool.false_ne_true
  exact congrArg _ (if_neg hno)

theorem execCommandFrameReturn_idle {s : State} {port : Nat} (h : PortIdle port s) (seq addr : Nat) (answer : Option HeadResponse) : ∃ inj,
    exec (.commandFrameReturn port seq addr answer none) s = .next (takeAnswer port seq addr answer inj (s.untouched port)) := by
  obtain ⟨hidle, hheld, -⟩ := h
  refine ⟨(s.untouched port).tainted port, ?_⟩
  show execCommandFrameReturn port seq addr answer none s = _
  unfold execCommandFrameReturn
  dsimp only
  rw [injectFrame_idle hidle]
  dsimp only
  rw [if_pos rfl, dueFrames_none hheld]
  rfl

/-! ### Blocks -/

/-- The violations of a block's characters leave all that its checks look at, and every counter but rows 1 and 2. -/
theorem countViolations_checks (port code disparity : Nat) (s : State) : ∀ t, t = countViolations port code disparity s →
    t.ring.state = s.ring.state ∧ t.ring.breakCycle = s.ring.breakCycle ∧ t.ring.breakFrom = s.ring.breakFrom ∧ t.ring.bothPorts = s.ring.bothPorts ∧
    t.ring.heads = s.ring.heads ∧ t.ring.seenP = s.ring.seenP ∧ t.ring.failedP = s.ring.failedP ∧ t.ring.validP = s.ring.validP ∧
    t.ring.blocks = s.ring.blocks ∧ t.ring.headCount = s.ring.headCount ∧ t.ring.enum = s.ring.enum ∧ t.receivePort = s.receivePort ∧
    t.core = s.core ∧ t.dict = s.dict ∧ t.links = s.links ∧ t.pair = s.pair := by
  rintro t rfl
  obtain ⟨v, hv⟩ := countViolations_ring port code disparity s
  obtain ⟨-, hfenced⟩ := countViolations_ranger port code disparity s
  have hk := countViolations_keeps port code disparity s (.refl (fun p => p = .ring || p = .ranger) s)
  have hring : ∀ {α : Type} (g : Ring → α), (∀ r c w, g { r with counters := c, violations := w } = g r) →
      g (countViolations port code disparity s).ring = g s.ring := by
    intro α g hg
    rw [hv]
    split
    next => exact hg s.ring s.ring.counters v
    next => exact hg s.ring _ v
  have hreceive := receivePort_congr (hring Ring.state fun _ _ _ => rfl) (hring Ring.originating fun _ _ _ => rfl) (hring Ring.bothPorts fun _ _ _ => rfl) hfenced
  exact ⟨hring Ring.state fun _ _ _ => rfl, hring Ring.breakCycle fun _ _ _ => rfl, hring Ring.breakFrom fun _ _ _ => rfl, hring Ring.bothPorts fun _ _ _ => rfl,
    hring Ring.heads fun _ _ _ => rfl, hring Ring.seenP fun _ _ _ => rfl, hring Ring.failedP fun _ _ _ => rfl, hring Ring.validP fun _ _ _ => rfl,
    hring Ring.blocks fun _ _ _ => rfl, hring Ring.headCount fun _ _ _ => rfl, hring Ring.enum fun _ _ _ => rfl, hreceive, hk.core_eq, hk.dict_eq, hk.links_eq, hk.pair_eq⟩

/-- Whether a port expects a head's block, and how far the head is from it, are what they were before the block's characters were counted. -/
theorem countViolations_expects (port code disparity : Nat) (s : State) : ∀ t, t = countViolations port code disparity s →
    ∀ q p, t.expects q p = s.expects q p ∧ t.hopFrom q p = s.hopFrom q p := by
  intro t ht q p
  obtain ⟨hstate, hcycle, hfrom, hboth, hheads, -, -, -, -, hcount, henum, hreceive, -, hdict, hlinks, hpair⟩ := countViolations_checks port code disparity s t ht
  constructor
  · rw [State.expects, State.expects, State.portOf, State.portOf, cfg_congr hdict, hstate, hcycle, hfrom, hboth, info_congr hheads, hreceive]
  · unfold State.hopFrom State.nearHop State.farNumbered State.ringN
    rw [inPair_congr hdict hpair, cfg_congr hdict, hlinks, hcount, henum]

/-- A block that passes its checks is recorded, and its head's registers take it (R49, R72, R74, R162). -/
theorem takeBlock_accepts {s : State} {port : Nat} {b : HeadBlock} (hok : b.checkOk = true) (hexp : s.expects port b.p = true) (hnew : b.p ∉ s.ring.seenP)
    (inj : Bool) : ∀ t, t = takeBlock port b inj s → t.ring.validP = s.ring.validP ++ [b.p] ∧
      t.ring.blocks = s.ring.blocks ++ [{ cycle := s.core.cycle, port := port, block := b }] ∧ t.info b.p = blockNoted port b s (s.info b.p) := by
  rintro t rfl
  obtain ⟨-, -, -, -, hheads, hseen, -, hvalid, hblocks, -, -, -, hcore, -⟩ := countViolations_checks port b.code b.disparity s _ rfl
  have hchecks := countViolations_expects port b.code b.disparity s _ rfl port b.p
  have htake : takeBlock port b inj s = acceptBlock port b inj (countViolations port b.code b.disparity s) := by
    unfold takeBlock
    dsimp only
    rw [if_neg (by rw [hok]; exact Bool.false_ne_true), if_neg (by rw [hseen]; simpa using hnew), if_neg (by rw [hchecks.1, hexp]; exact Bool.false_ne_true)]
  obtain ⟨hv, hb, hi⟩ := acceptBlock_ring port b inj (countViolations port b.code b.disparity s)
  rw [htake]
  refine ⟨hv.trans (by rw [hvalid]), hb.trans (by rw [hblocks, hcore]), hi.trans ?_⟩
  rw [blockNoted, blockNoted, hchecks.2, info_congr hheads]

/-- What the Yarder notes of a block that fails its checks: the port's counter and the head's runs (R74). -/
theorem rejectBlock_notes (port : Nat) (b : HeadBlock) (inj : Bool) (s : State) : ∀ t, t = rejectBlock port b inj s →
    t.ring.validP = s.ring.validP ∧ t.ring.blocks = s.ring.blocks ∧ t.ring.bothPorts = s.ring.bothPorts ∧
    t.counter port 5 = add32 (s.counter port 5) 1 ∧ t.dict = s.dict ∧
    t.info b.p = { s.info b.p with
      blockFails := inc32 (s.info b.p).blockFails, failRun := (s.info b.p).failRun + b2n (!s.ring.failedP.contains b.p) } := by
  rintro t rfl
  have hcount := counter_count_same s port 5 1
  have hinfo := (info_modInfo (s.count port 5 1) b.p b.p fun h =>
    { h with blockFails := inc32 h.blockFails, failRun := (s.info b.p).failRun + b2n (!s.ring.failedP.contains b.p) }).trans (if_pos rfl)
  unfold rejectBlock
  dsimp only
  split <;> exact ⟨rfl, rfl, rfl, hcount, rfl, hinfo⟩

/-- A block that fails its check is counted and used for nothing else (R49, R74). -/
theorem takeBlock_rejects {s : State} {port : Nat} {b : HeadBlock} (hbad : b.checkOk = false) (inj : Bool) : ∀ t, t = takeBlock port b inj s →
    t.ring.validP = s.ring.validP ∧ t.ring.blocks = s.ring.blocks ∧ t.counter port 5 = add32 (s.counter port 5) 1 ∧
    (t.info b.p).failRun = (s.info b.p).failRun + (if b.p ∈ s.ring.failedP then 0 else 1) ∧ (t.info b.p).blockFails = inc32 (s.info b.p).blockFails ∧
    (t.info b.p).missRun = (s.info b.p).missRun := by
  rintro t rfl
  obtain ⟨-, -, -, -, hheads, -, hfailed, hvalid, hblocks, -⟩ := countViolations_checks port b.code b.disparity s _ rfl
  have htake : takeBlock port b inj s = rejectBlock port b inj (countViolations port b.code b.disparity s) := if_pos (by rw [hbad]; rfl)
  have h5 := (counter_countViolations (port := port) (code := b.code) (disparity := b.disparity) (s := s) port (row := 5) (by decide)).1 (by decide) (by decide)
  rw [htake]
  generalize countViolations port b.code b.disparity s = u at hheads hfailed hvalid hblocks h5 ⊢
  obtain ⟨hrvalid, hrblocks, -, hrcount, -, hrinfo⟩ := rejectBlock_notes port b inj u _ rfl
  rw [hrinfo, info_congr hheads, hfailed]
  refine ⟨hrvalid.trans hvalid, hrblocks.trans hblocks, by rw [hrcount, h5], ?_, rfl, rfl⟩
  by_cases hmem : b.p ∈ s.ring.failedP <;> simp [hmem, b2n]

/-- A valid block on the other segment moves its head's assignment and is used for nothing else (R162). -/
theorem takeBlock_reassigns {s : State} {port : Nat} {b : HeadBlock} (hok : b.checkOk = true) (hexp : s.expects port b.p = false) (hnew : b.p ∉ s.ring.seenP)
    (hboth : s.ring.bothPorts = true) (hhead : b.p ∈ s.allHeads) (inj : Bool) : ∀ t, t = takeBlock port b inj s →
      t.ring.validP = s.ring.validP ∧ t.ring.blocks = s.ring.blocks ∧ Tab.at t.cruiser.assign b.p 0 = port ∧ t.cruiser.portsPending = true := by
  rintro t rfl
  obtain ⟨-, -, -, hboth', -, hseen, -, hvalid, hblocks, -, -, -, -, hdict, -⟩ := countViolations_checks port b.code b.disparity s _ rfl
  have hchecks := (countViolations_expects port b.code b.disparity s _ rfl port b.p).1
  unfold takeBlock
  extract_lets u v g w
  rw [if_neg (by rw [hok]; exact Bool.false_ne_true), if_neg (by simpa [u, hseen] using hnew), if_pos (by simp [u, hchecks, hexp])]
  obtain ⟨hrvalid, hrblocks, hrboth, -, hrdict, -⟩ := rejectBlock_notes port b inj u v rfl
  have hmoves : (w.ring.bothPorts && w.allHeads.contains b.p) = true := by
    have hw : w.ring.bothPorts = true := hrboth.trans (hboth'.trans hboth)
    have ha : w.allHeads = s.allHeads := by rw [State.allHeads, State.allHeads, cfg_congr (s := s) (t := w) (hrdict.trans hdict)]
    rw [hw, ha, Bool.true_and]
    exact List.contains_iff_mem.2 hhead
  rw [if_pos hmoves]
  exact ⟨hrvalid.trans hvalid, hrblocks.trans hblocks, Tab.at_put_same .., rfl⟩

/-! ### Command frames -/

/-- A returned ECHO leaves the frames in flight, and its response goes to the port's queue (R52). -/
theorem takeAnswer_queues {s : State} {port : Nat} {c : RingCmd} (hfind : s.ring.inFlight.find? (fun d => d.port = port && d.seq = c.seq) = some c)
    (hmode : c.mode = .position) (hop : c.opcode = opEcho) (addr : Nat) (r : HeadResponse) (inj : Bool) : ∀ t, t = takeAnswer port c.seq addr (some r) inj s →
      t.ring.inFlight = s.ring.inFlight.filter (fun d => !(d.port = port && d.seq = c.seq)) ∧
      (port = 0 → t.ring.q2 = s.ring.q2 ++ [{ cmd := c, answer := r }]) ∧ (port ≠ 0 → t.ring.q6 = s.ring.q6 ++ [{ cmd := c, answer := r }]) := by
  rintro t rfl
  have hkept : ¬ c.mode = .broadcast := by rw [hmode]; decide
  have hplace : ¬ (decide (c.mode = .hop) && addr != 0) = true := by simp [hmode]
  have heffect : ∀ x, answerEffect c r x = x := fun x => by
    simp [answerEffect, hop, opEcho, opBleedSlot, opBleedOff, opOwTest, opSwitchTest, opReadStatus, opUnwrap, opTestRef]
  unfold takeAnswer
  rw [hfind]
  dsimp only
  rw [if_neg hkept, if_neg hplace, heffect]
  generalize hu : ({ s with ring := { s.ring with inFlight := s.ring.inFlight.filter fun d => !(d.port = port && d.seq = c.seq) } } : State) = u
  have hring : (u.clearOnce (srcRing port) 0x22 2 (headTap c.head 0xFF)).ring = u.ring := (State.clearOnce_other ..).2.1
  rw [hring]
  subst hu
  by_cases h0 : port = 0
  · exact ⟨by rw [if_pos h0], fun _ => by rw [if_pos h0], fun hne => absurd h0 hne⟩
  · exact ⟨by rw [if_neg h0], fun he => absurd he h0, fun _ => by rw [if_neg h0]⟩

/-- Settles O18: blocks by their checks, and a returned command frame, in the state that no injection touches. -/
theorem ringReceives : Obligations.RingReceives := by
  intro s port hidle hheld hdrill
  have hport : PortIdle port s := ⟨hidle, hheld, hdrill⟩
  refine ⟨fun b hok hexp hnew => ?_, fun b hbad => ?_, fun b hok hexp hnew hboth hhead => ?_, fun c addr r hfind hmode hop => ?_⟩
  · obtain ⟨inj, hexec⟩ := execHeadBlockReceive_idle hport b
    exact ⟨_, hexec, takeBlock_accepts (s := s.untouched port) hok hexp hnew inj _ rfl⟩
  · obtain ⟨inj, hexec⟩ := execHeadBlockReceive_idle hport b
    exact ⟨_, hexec, takeBlock_rejects (s := s.untouched port) hbad inj _ rfl⟩
  · obtain ⟨inj, hexec⟩ := execHeadBlockReceive_idle hport b
    exact ⟨_, hexec, takeBlock_reassigns (s := s.untouched port) hok hexp hnew hboth hhead inj _ rfl⟩
  · obtain ⟨inj, hexec⟩ := execCommandFrameReturn_idle hport c.seq addr (some r)
    exact ⟨_, hexec, takeAnswer_queues (s := s.untouched port) hfind hmode hop addr r inj _ rfl⟩

end Sys2Proof.Machine
end

section
/-! SUPPORT. Writes to the command objects (R141, R388): a write of one unit acts when it is accepted, one of string scope waits for its boundary and acts there,
checked again. -/

namespace Sys2Proof.Machine

open Sys2Proof

/-! ### Command objects -/

/-- An object that keeps no value, is not staged and leaves its answer to the engine; `string` says whether its writes wait for their boundary. -/
def commandRow (string : Bool) (idx sub : Nat) (d : ObjDesc) : Bool :=
  !d.staged && (d.stringScope == string) && !dictObject idx sub d && !dispatchObject idx sub && !ownAnswer idx sub && !cellCommandObject idx sub

/-- The command objects of one unit and, with `string`, those of string scope. -/
def CommandObject (string : Bool) (idx sub : Nat) : Prop := ∃ d, objDesc idx sub = some d ∧ commandRow string idx sub d = true

theorem commandRow_iff {string : Bool} {idx sub : Nat} {d : ObjDesc} : commandRow string idx sub d = true ↔
    d.staged = false ∧ d.stringScope = string ∧ dictObject idx sub d = false ∧ dispatchObject idx sub = false ∧ ownAnswer idx sub = false ∧
      cellCommandObject idx sub = false := by
  simp [commandRow, and_assoc]

/-- What a write to one of them does. -/
def commandEffect (sess dest req idx sub : Nat) (v : ObjVal) (s : State) : State :=
  if idx < 0x3000 then lowEffect sess dest req idx sub v.toInt.toNat s
  else if idx < 0x6000 then cellEffect idx sub v.toInt.toNat s
  else if idx < 0x7000 then controlEffect idx sub v.toInt.toNat v s
  else if idx < 0x8000 then linkEffect sess dest req idx sub v s
  else systemEffect sess dest req idx sub v.toInt.toNat v s

theorem CommandObject.persists_false {string : Bool} {idx sub : Nat} (h : CommandObject string idx sub) : persists idx sub = false := by
  obtain ⟨d, hd, hrow⟩ := h
  obtain ⟨-, -, hdict, -⟩ := commandRow_iff.1 hrow
  simp [persists, hd, hdict]

theorem CommandObject.enforce_eq {string : Bool} {idx sub : Nat} (h : CommandObject string idx sub) (sess dest req : Nat) (v : ObjVal) (s : State) :
    enforce sess dest req idx sub v s = commandEffect sess dest req idx sub v s := by
  have hp := h.persists_false
  obtain ⟨d, hd, hrow⟩ := h
  obtain ⟨-, -, hdict, hdis, -⟩ := commandRow_iff.1 hrow
  simp [enforce, waitsForRecord, hp, objectEffect, hd, hdict, hdis, commandEffect]

theorem CommandObject.sub_lt {string : Bool} {idx sub : Nat} (h : CommandObject string idx sub) : sub < 256 := by
  obtain ⟨d, hd, -⟩ := h
  exact objDesc_sub_lt hd

/-- The parts of an object's address. -/
theorem okey_parts {idx sub : Nat} (h : sub < 256) : okey idx sub / 256 = idx ∧ okey idx sub % 256 = sub := by
  unfold okey
  omega

/-! ### In force at once -/

/-- A write to a command object of one unit gives what its effect leaves, whatever the answer. -/
theorem takes_command {i : Instr} {a r idx sub : Nat} {v : ObjVal} {s : State} {Q : State → Prop} (hw : writeOf i = some ⟨a, r, idx, sub, v⟩)
    (h : CommandObject false idx sub) (hq : ∀ x, Q ((commandEffect a a r idx sub v (s.serving a r)).answer x)) : Takes i s Q := by
  obtain ⟨d, hd, hrow⟩ := id h
  obtain ⟨hst, hsc, -, hdis, hown, -⟩ := commandRow_iff.1 hrow
  refine takes_of_accepting hw ?_
  simp only [State.accepting, acceptWrite, hd, hst, hdis, hown, hsc, h.enforce_eq, finishWrite_plain h.persists_false h.sub_lt, Bool.false_eq_true, if_false]
  exact hq _

/-! ### At the boundary -/

/-- At its boundary a single write that its checks let through acts on the state it finds, and is answered. -/
theorem applyPending_command {a r idx sub : Nat} {v : ObjVal} {u : State} {eff : Cycle} (h : CommandObject true idx sub) {p : PendingWrite}
    (hp : p = { session := a, req := r, entries := [(okey idx sub, v)], effective := eff })
    (hchk : firstFailing (fun t i b v => t.recheck p.session i b v) p.session 0 p.entries u.afterLeaseEvents = none) :
    ∃ x, applyPending u p = (commandEffect a 0xFFFF 0 idx sub v u).answer x := by
  obtain ⟨hidx, hsub⟩ := okey_parts (idx := idx) h.sub_lt
  have hentry : applyEntry a u (okey idx sub, v) = commandEffect a 0xFFFF 0 idx sub v u := by
    obtain ⟨d, hd, hrow⟩ := id h
    obtain ⟨hst, -, -, hdis, -⟩ := commandRow_iff.1 hrow
    simp only [applyEntry, hidx, hsub, hd, hst, hdis, h.enforce_eq, Bool.false_eq_true, if_false]
  unfold applyPending
  rw [hchk]
  subst hp
  dsimp only [List.foldl_cons, List.foldl_nil]
  rw [hentry, finishWrite_plain h.persists_false h.sub_lt]
  exact ⟨_, rfl⟩

/-- A write to a command object of string scope waits for its boundary and does there what its effect leaves, whatever the answer. -/
theorem atBoundary_command {i : Instr} {a r idx sub : Nat} {v : ObjVal} {u : State} {Q : State → Prop} (hw : writeOf i = some ⟨a, r, idx, sub, v⟩)
    (h : CommandObject true idx sub) (hq : ∀ x, Q ((commandEffect a 0xFFFF 0 idx sub v u).answer x)) : AtBoundary i u Q := by
  intro s
  obtain ⟨d, hd, hrow⟩ := id h
  obtain ⟨hst, hsc, -, hdis, hown, hcell⟩ := commandRow_iff.1 hrow
  refine takes_of_accepting hw ?_
  rw [accepting_queues hd hst hdis hown hsc]
  obtain ⟨-, hdict⟩ := queueWrite_waits a r idx sub v (s.serving a r)
  rw [if_neg (by simp [hcell])] at hdict
  dsimp only
  rw [hdict]
  refine ⟨_, rfl, rfl, rfl, fun hchk => ?_⟩
  obtain ⟨x, hx⟩ := applyPending_command h rfl hchk
  exact hx ▸ hq x

end Sys2Proof.Machine
end

section
/-! SUPPORT. Writes of string scope at their boundary, by what they do to heads, ring and cells (R66, R68, R96, R101, R107, R141, R146, R161, R169, R196, R210,
R216, R224, R232, R247, R250). -/

namespace Sys2Proof.Machine

open Sys2Proof

/-! ### The rows of their objects -/

/-- A command object of many indices, one row for all of them. -/
theorem commandObject_of_range {string : Bool} {lo hi sub : Nat} {d : ObjDesc}
    (h : catalog.find? (fun e => e.lo ≤ hi && lo ≤ e.hi && e.subLo ≤ sub && sub ≤ e.subHi) = some d) (hlo : d.lo ≤ lo) (hhi : hi ≤ d.hi)
    (hrow : d.access = 2 ∧ d.staged = false ∧ d.stringScope = string) (hsub : 8 ≤ sub ∧ sub ≠ 0x41) {idx : Nat} (h1 : lo ≤ idx) (h2 : idx ≤ hi) :
    CommandObject string idx sub := by
  obtain ⟨hacc, hst, hsc⟩ := hrow
  refine ⟨d, objDesc_of_range h hlo hhi h1 h2, commandRow_iff.2 ⟨hst, hsc, by simp [dictObject, hacc], ?_, ?_, ?_⟩⟩
  · simp [dispatchObject]; omega
  · simp [ownAnswer, dispatchObject]; omega
  · simp [cellCommandObject]; omega

theorem extremesClear_object {n : Nat} (h : n < 0x800) : CommandObject true (0x3400 + n) 0x27 := by
  obtain ⟨d, hfind, hlo, hhi, hrow⟩ : ∃ d ∈ catalog.find? (fun e => e.lo ≤ 0x3BFF && 0x3400 ≤ e.hi && e.subLo ≤ 0x27 && 0x27 ≤ e.subHi),
    d.lo ≤ 0x3400 ∧ 0x3BFF ≤ d.hi ∧ d.access = 2 ∧ d.staged = false ∧ d.stringScope = true := by decide +kernel
  exact commandObject_of_range hfind hlo hhi hrow (by decide) (by omega) (by omega)

theorem impedanceReset_object {k : Nat} (h1 : 1 ≤ k) (h2 : k ≤ 512) : CommandObject true (0x4C00 + k - 1) 8 := by
  obtain ⟨d, hfind, hlo, hhi, hrow⟩ : ∃ d ∈ catalog.find? (fun e => e.lo ≤ 0x4DFF && 0x4C00 ≤ e.hi && e.subLo ≤ 8 && 8 ≤ e.subHi),
    d.lo ≤ 0x4C00 ∧ 0x4DFF ≤ d.hi ∧ d.access = 2 ∧ d.staged = false ∧ d.stringScope = true := by decide +kernel
  exact commandObject_of_range hfind hlo hhi hrow (by decide) (by omega) (by omega)

/-- Their objects of one index. -/
def boundaryKeys : List (Nat × Nat) :=
  [(0x1F00, 3), (0x2100, 6), (0x2100, 7), (0x2103, 5), (0x2103, 6), (0x2103, 8), (0x4705, 1), (0x4800, 7), (0x4802, 5), (0x5000, 0x0B), (0x5000, 0x0F)]

theorem boundaryKeys_objects : ∀ e ∈ boundaryKeys, CommandObject true e.1 e.2 := by
  have h : ∀ e ∈ boundaryKeys, ∃ d ∈ objDesc e.1 e.2, commandRow true e.1 e.2 d = true := by decide +kernel
  exact h

/-- A write to one of them. -/
theorem atBoundary_key {i : Instr} {a r idx sub : Nat} {v : ObjVal} {u : State} {Q : State → Prop} (hw : writeOf i = some ⟨a, r, idx, sub, v⟩)
    (h : (idx, sub) ∈ boundaryKeys) (hq : ∀ x, Q ((commandEffect a 0xFFFF 0 idx sub v u).answer x)) : AtBoundary i u Q :=
  atBoundary_command hw (boundaryKeys_objects _ h) hq

/-! ### The ring (R66, R68) -/

theorem unwrapHold_tryUnwrap (s : State) : (tryUnwrap s).ring.unwrapHold = s.ring.unwrapHold := by
  unfold tryUnwrap
  extract_lets r waits u v
  have hu : u.ring.unwrapHold = s.ring.unwrapHold := rfl
  have hc : ∀ (t : State) (p : Nat), (t.command true p opUnwrap []).ring.unwrapHold = t.ring.unwrapHold := fun t p => by
    have h := command_queues t true p opUnwrap []
    rw [QueuesOnly] at h
    rw [h]
  have hv : v.ring.unwrapHold = s.ring.unwrapHold := by
    simp only [v]
    split
    · exact hu
    · exact (hc ..).trans hu
  split
  · rfl
  · split
    · exact hv
    · exact (hc ..).trans hv

/-- The release ends the hold of the unwrap and clears its fault (R66). -/
theorem effUnwrapRelease_releases (s : State) : (effUnwrapRelease s).ring.unwrapHold = false ∧ (effUnwrapRelease s).raised 0x020 0x24 0 0 = false := by
  unfold effUnwrapRelease
  refine ⟨?_, ?_⟩
  · rw [unwrapHold_tryUnwrap, (State.clearOnce_keeps _ _ _ _ _ (.refl (fun p => p = .ranger) _)).ring_eq]
  · rw [raised_congr (tryUnwrap_keeps _ (.refl (fun p => p != .ranger) _)).ranger_eq]
    exact raised_clearOnce ..

theorem startEnumeration_starts (s : State) : (startEnumeration s).ring.state = .enum ∧ (startEnumeration s).ring.enum.running = true ∧
    (startEnumeration s).ring.enum.since = s.core.cycle ∧ (startEnumeration s).ring.unwrapHold = false ∧ (startEnumeration s).ring.wrapW = 0 ∧
    (startEnumeration s).ring.wrapE = 0 :=
  ⟨setRing_state .enum s, rfl, congrArg Core.cycle (setRing_keeps .enum s (.refl (fun p => p != .core) s)).core_eq, rfl, rfl, rfl⟩

/-! ### The tap monitor (R96, R101, R107) -/

/-- The value of a request for one tap of a head. -/
theorem headTap_parts {p tap : Nat} (hp : p < 256) (ht : tap < 256) :
    (256 * p + tap) / 256 % 256 = p ∧ (256 * p + tap) % 256 = tap := by omega

/-- A request for one tap starts its test. -/
theorem effOwRequest_tap {p tap : Nat} (hp : p < 256) (ht : tap < 0xFF) (s : State) : effOwRequest (256 * p + tap) s = startOwTest p tap s := by
  obtain ⟨h1, h2⟩ := headTap_parts hp (show tap < 256 by omega)
  unfold effOwRequest
  rw [h1, h2]
  exact if_neg (by omega)

/-- A head that runs a test lets the next wait (R101). -/
theorem startOwTest_waits {p : Nat} (tap : Nat) {s : State} (h : (s.owTesting p).isSome = true) :
    (startOwTest p tap s).tap.tests = s.tap.tests ∧ tap ∈ Tab.at (startOwTest p tap s).tap.testQueue p [] := by
  have he : startOwTest p tap s = _ := if_pos h
  rw [he]
  refine ⟨rfl, ?_⟩
  show tap ∈ Tab.at (Tab.mod s.tap.testQueue p [] fun l => if l.contains tap then l else l ++ [tap]) p []
  rw [Tab.at_mod_same]
  split
  case isTrue hc => simpa using hc
  case isFalse => simp

/-- A lost sense line that is cleared: the tap is in state 0, its faults are gone (R107). -/
theorem effSenseLostClear_clears {p tap : Nat} (hp : p < 256) (ht : tap < 256) (s : State) :
    (effSenseLostClear (256 * p + tap) s).tapState p tap = 0 ∧ (effSenseLostClear (256 * p + tap) s).raised 0x018 0x33 2 (headTap p tap) = false ∧
    (effSenseLostClear (256 * p + tap) s).raised 0x018 0x32 2 (headTap p tap) = false := by
  obtain ⟨h1, h2⟩ := headTap_parts hp ht
  unfold effSenseLostClear
  rw [h1, h2]
  dsimp only
  refine ⟨?_, ?_, raised_clearOnce ..⟩
  · exact (tapState_congr (s := s.setTap p tap 0) (by rw [clearOnce_tap, clearOnce_tap, tapFlags_tap]) p tap).trans (tapState_setTap s p tap 0)
  · rw [raised_clearOnce_ne _ _ _ _ _ (.inr (.inl (by decide)))]
    exact raised_clearOnce ..

/-- A bleed gate's failure that is cleared (R107, R247). -/
theorem effGateClear_clears (p : Nat) (s : State) : ((effGateClear p s).diag p).getLsbD 1 = false ∧ ((effGateClear p s).thinHead p).excluded = false ∧
    (effGateClear p s).raised 0x018 0x37 2 (headTap p 0xFF) = false := by
  unfold effGateClear
  extract_lets u _ v
  refine ⟨?_, ?_, ?_⟩
  · have hu : u.tap = (s.setDiag p 1 false).tap := clearOnce_tap ..
    show ((Tab.at u.tap.diag p 0).getLsbD 1) = false
    rw [hu]
    exact diag_setDiag s p false (by decide)
  · rw [thinHead_modThin, if_pos rfl]
  · exact raised_clearOnce (s.setDiag p 1 false) 0x018 0x37 2 (headTap p 0xFF)

/-! ### Cells (R141, R169, R196, R216, R224) -/

theorem cell_learnedRecord (cause k : Nat) (s : State) : (learnedRecord cause k s).cell k =
    { s.cell k with efcRec := (s.cell k).efc, rdcRec := (s.cell k).rdc, r1Rec := (s.cell k).r1, tau1Rec := (s.cell k).tau1 } := by
  unfold learnedRecord
  extract_lets u
  have hu : u.cell k = { s.cell k with efcRec := (s.cell k).efc, rdcRec := (s.cell k).rdc, r1Rec := (s.cell k).r1, tau1Rec := (s.cell k).tau1 } := by
    simp only [u, cell_modCell, if_true]
  split
  · exact hu
  · exact hu

theorem cell_spoilWindow (k j : Nat) (s : State) : (spoilWindow k s).cell j = s.cell j := by
  unfold spoilWindow
  split <;> rfl

theorem cell_tellEvent (s : State) (kind event subject : Nat) (items : Bytes) (k : Nat) : (s.tellEvent kind event subject items).cell k = s.cell k :=
  cell_congr (State.tellEvent_keeps s kind event subject items (.refl (fun p => p != .cells) s)).cells_eq k

/-- The three commands to a cell, by what they set in it (R141). -/
theorem cellCommand_sets (k : Nat) (s : State) : (cellCommand k 1 s).cell k = { s.cell k with insertPending := true } ∧
    ((cellCommand k 2 s).cell k).cap = s.cNom k ∧ ((cellCommand k 2 s).cell k).capUnc = s.cNom k / 20 ∧ ((cellCommand k 3 s).cell k).efc = 0 := by
  have h1 : cellCommand k 1 s = s.modCell k fun c => { c with insertPending := true } := rfl
  have h2 : cellCommand k 2 s = resetCapacity k s := rfl
  have h3 : cellCommand k 3 s = resetCycles k s := rfl
  rw [h1, h2, h3, resetCapacity, resetCycles]
  simp only [cell_tellEvent, cell_learnedRecord, cell_spoilWindow, cell_modCell, if_true]
  simp only [and_self]

/-- The clear of a cell's message on the eight lanes. -/
theorem raised_laneClear (kind k : Nat) (s : State) {lane : Nat} (h : lane < 8) : (laneClear kind k s).raised (0x030 + lane) kind 1 k = false := by
  have hfold : ∀ (l : List Nat) (t : State) (src : Nat), src ∈ l ∨ t.raised src kind 1 k = false →
      (l.foldl (fun s src => s.clearOnce src kind 1 k) t).raised src kind 1 k = false := by
    intro l
    induction l with
    | nil => exact fun t src h => h.resolve_left (by simp)
    | cons b l ih =>
      intro t src h
      refine ih _ _ ?_
      by_cases hb : src = b
      · exact .inr (hb ▸ raised_clearOnce ..)
      · rw [raised_clearOnce_ne _ _ _ _ _ (.inl (Ne.symm hb))]
        exact h.imp_left fun h => (List.mem_cons.1 h).resolve_left hb
  exact hfold _ _ _ (.inl ((mem_upFrom ..).2 (by omega)))

theorem getLsbD_setBit_false {w : Nat} (x : BitVec w) (i : Nat) : (setBit x i false).getLsbD i = false := by
  rw [getLsbD_setBit, if_pos rfl]
  rfl

/-- A suspicion that is cleared leaves the cell unsuspected and its fault cleared on every lane (R224). -/
theorem effSuspicionClear_clears {k : Nat} {s : State} (h : (s.cell k).suspicion = .suspected ∨ (s.cell k).suspicion = .escalated) :
    ((effSuspicionClear k s).cell k).suspicion = .none ∧ ((effSuspicionClear k s).cell k).flags.getLsbD cfShort = false ∧
    ∀ lane, lane < 8 → (effSuspicionClear k s).raised (0x030 + lane) 0x5D 1 k = false := by
  have he : effSuspicionClear k s = suspicionRecord k (laneClear 0x5D k (s.modCell k fun c =>
      { c with suspicion := .none, flags := setBit c.flags cfShort false })) := by
    unfold effSuspicionClear
    rcases h with h | h <;> rw [h]
  rw [he]
  have hcells : ∀ t : State, (suspicionRecord k (laneClear 0x5D k t)).cell k = t.cell k := fun t =>
    cell_congr (suspicionRecord_keeps k _ (laneClear_keeps 0x5D k t (.refl (fun p => p != .cells) t))).cells_eq k
  refine ⟨?_, ?_, fun lane hl => ?_⟩
  · rw [hcells, cell_modCell, if_pos rfl]
  · rw [hcells, cell_modCell, if_pos rfl]
    exact getLsbD_setBit_false ..
  · rw [raised_congr (suspicionRecord_keeps k _ (.refl (fun p => p != .ranger) _)).ranger_eq]
    exact raised_laneClear _ _ _ hl

/-- The clear of a cell's exclusion (R250). -/
theorem effExclusionClear_clears (k : Nat) (s : State) : ((effExclusionClear k s).cell k).swStuck = false ∧
    ((effExclusionClear k s).cell k).flags.getLsbD cfExcluded = false ∧ (effExclusionClear k s).raised 0x03A 0x5E 1 k = false ∧
    (effExclusionClear k s).raised 0x03A 0x5F 1 k = false := by
  unfold effExclusionClear
  extract_lets u
  have hc : ((u.clearOnce 0x03A 0x5E 1 k).clearOnce 0x03A 0x5F 1 k).cell k =
      { s.cell k with swStuck := false, flags := setBit (s.cell k).flags cfExcluded false } := by
    rw [cell_congr (State.clearOnce_keeps _ _ _ _ _ (State.clearOnce_keeps u _ _ _ _ (.refl (fun p => p != .cells) u))).cells_eq]
    simp only [u, cell_modCell, if_true]
  rw [hc]
  refine ⟨rfl, getLsbD_setBit_false .., ?_, raised_clearOnce ..⟩
  rw [raised_clearOnce_ne _ _ _ _ _ (.inr (.inl (by decide)))]
  exact raised_clearOnce ..

/-! ### Points and heads (R161, R232, R247) -/

/-- The clear of a point's extremes leaves the other points (R161). -/
theorem clearExtremes_sets (n : Nat) (s : State) :
    (clearExtremes n s).point n = { s.point n with min := (s.point n).filtered, max := (s.point n).filtered } ∧
    ∀ m, m ≠ n → (clearExtremes n s).point m = s.point m := by
  unfold clearExtremes
  exact ⟨by rw [point_modPoint, if_pos rfl], fun m hm => by rw [point_modPoint, if_neg hm.symm]⟩

/-- A switch test of several heads is wanted by each. -/
theorem testWanted_foldl (l : List Nat) (s : State) {p : Nat} (h : p ∈ l ∨ (s.thinHead p).testWanted = true) :
    ((l.foldl (fun s p => s.modThin p fun h => { h with testWanted := true }) s).thinHead p).testWanted = true := by
  induction l generalizing s with
  | nil => exact h.resolve_left (by simp)
  | cons q l ih =>
    refine ih _ ?_
    rw [thinHead_modThin]
    split
    case isTrue => exact .inr rfl
    case isFalse hq => exact h.imp_left fun h => (List.mem_cons.1 h).resolve_left (Ne.symm hq)

/-! ### The statement -/

/-- Settles O51: each write waits for its boundary and does there what its object's effect leaves; the answer that follows changes the responses alone. -/
theorem writesAtBoundary : Obligations.WritesAtBoundary := by
  intro u a r
  refine ⟨fun _ => atBoundary_key rfl (by decide) fun x => ?unwrap,
    atBoundary_key rfl (by decide) fun x => ?enumerate,
    fun p tap hp ht hnone => atBoundary_key rfl (by decide) fun x => ?test,
    fun p tap hp ht hsome => atBoundary_key rfl (by decide) fun x => ?testWaits,
    fun p tap hp ht => atBoundary_key rfl (by decide) fun x => ?senseLost,
    fun p => atBoundary_key rfl (by decide) fun x => ?gate,
    fun hown => atBoundary_key rfl (by decide) fun x => ?discard,
    fun hown => atBoundary_key rfl (by decide) fun x => ?discardOther,
    fun k => cellCommand_sets k u,
    fun n hn => atBoundary_command rfl (extremesClear_object hn) fun x => ?extremes,
    fun l => atBoundary_key rfl (by decide) fun x => ?drain,
    atBoundary_key rfl (by decide) fun x => ?sweepEnds,
    fun h hpos => atBoundary_key rfl (by decide) fun x => ?sweep,
    fun k h1 h2 => atBoundary_command rfl (impedanceReset_object h1 h2) fun x => ?impedance,
    fun k hk => atBoundary_key rfl (by decide) fun x => ?suspicion,
    fun p hp => atBoundary_key rfl (by decide) fun x => ?switchTest,
    atBoundary_key rfl (by decide) fun x => ?switchTestAll,
    fun k => atBoundary_key rfl (by decide) fun x => ?exclusion⟩
  case unwrap =>
    rw [(answer_others ..).ring_eq, raised_congr (answer_others ..).ranger_eq]
    exact effUnwrapRelease_releases u
  case enumerate =>
    rw [(answer_others ..).ring_eq]
    exact startEnumeration_starts u
  case test =>
    have he : commandEffect a 0xFFFF 0 0x2103 6 (.num (256 * p + tap : Nat)) u = startOwTest p tap u := effOwRequest_tap hp ht u
    rw [(answer_others ..).tap_eq, he]
    exact ⟨_, startOwTest_owTesting tap hnone, rfl, rfl, rfl⟩
  case testWaits =>
    have he : commandEffect a 0xFFFF 0 0x2103 6 (.num (256 * p + tap : Nat)) u = startOwTest p tap u := effOwRequest_tap hp ht u
    rw [(answer_others ..).tap_eq, he]
    exact startOwTest_waits tap hsome
  case senseLost =>
    rw [tapState_congr (congrArg TapMon.tapState (answer_others ..).tap_eq), raised_congr (answer_others ..).ranger_eq,
      raised_congr (answer_others ..).ranger_eq]
    exact effSenseLostClear_clears hp ht u
  case gate =>
    rw [State.diag, (answer_others ..).tap_eq, State.thinHead, (answer_others ..).thin_eq, raised_congr (answer_others ..).ranger_eq]
    exact effGateClear_clears p u
  case discard =>
    have he : commandEffect a 0xFFFF 0 0x1F00 3 (.num 1) u = discardStaging u := if_pos hown
    rw [he]
    unfold State.answer
    split <;> exact ⟨rfl, rfl, rfl⟩
  case discardOther =>
    have he : commandEffect a 0xFFFF 0 0x1F00 3 (.num 1) u = u := if_neg hown
    rw [he]
    unfold State.answer
    split <;> exact ⟨rfl, rfl⟩
  case extremes =>
    have he : commandEffect a 0xFFFF 0 (0x3400 + n) 0x27 (.num 1) u = clearExtremes n u := by
      simp [commandEffect, cellEffect, show ¬ 0x3400 + n < 0x3000 by omega, show 0x3400 + n < 0x6000 by omega, show ¬ 0x3400 + n ≤ 0x31FF by omega,
        show 0x3400 + n ≤ 0x3BFF by omega]
    rw [he]
    obtain ⟨hset, hother⟩ := clearExtremes_sets n u
    have hp : ∀ m, ((clearExtremes n u).answer x).point m = (clearExtremes n u).point m := fun m => by
      rw [State.point, (answer_others ..).points_eq, State.point]
    exact ⟨(hp n).trans hset, fun m hm => (hp m).trans (hother m hm)⟩
  case drain =>
    rw [(answer_others ..).cruiser_eq]
    exact Tab.at_put_same ..
  case sweepEnds =>
    rw [(answer_others ..).borer_eq]
    rfl
  case sweep =>
    rw [(answer_others ..).borer_eq]
    exact if_neg (Nat.pos_iff_ne_zero.1 hpos)
  case impedance =>
    obtain ⟨j, rfl⟩ : ∃ j, k = j + 1 := ⟨k - 1, by omega⟩
    have he : commandEffect a 0xFFFF 0 (0x4C00 + j) 8 (.num 1) u = resetImpedance (j + 1) u := by
      simp [commandEffect, cellEffect, show ¬ 0x4C00 + j < 0x3000 by omega, show 0x4C00 + j < 0x6000 by omega, show ¬ 0x4C00 + j ≤ 0x31FF by omega,
        show ¬ 0x4C00 + j ≤ 0x3BFF by omega, show 0x4C00 + j ≤ 0x4DFF by omega]
    have he : commandEffect a 0xFFFF 0 (0x4C00 + (j + 1) - 1) 8 (.num 1) u = resetImpedance (j + 1) u := he
    rw [he, cell_congr (answer_others ..).cells_eq, resetImpedance, cell_modCell, if_pos rfl]
    exact ⟨rfl, rfl, rfl⟩
  case suspicion =>
    simp only [cell_congr (answer_others _ x).cells_eq, raised_congr (answer_others _ x).ranger_eq]
    exact effSuspicionClear_clears hk
  case switchTest =>
    have he : commandEffect a 0xFFFF 0 0x5000 0x0B (.num p) u = u.modThin p fun h => { h with testWanted := true } := by
      show effSwitchTest p u = _
      rw [effSwitchTest, if_neg hp, List.foldl_cons, List.foldl_nil]
    have ht : ∀ q, ((u.modThin p fun h => { h with testWanted := true }).answer x).thinHead q =
        (u.modThin p fun h => { h with testWanted := true }).thinHead q := fun q => by
      rw [State.thinHead, (answer_others ..).thin_eq, State.thinHead]
    rw [he]
    refine ⟨?_, fun q hq => ?_⟩
    · rw [ht, thinHead_modThin, if_pos rfl]
    · rw [ht, thinHead_modThin, if_neg hq.symm]
  case switchTestAll =>
    intro p hp
    have he : commandEffect a 0xFFFF 0 0x5000 0x0B (.num (0xFF : Nat)) u =
      u.allHeads.foldl (fun s p => s.modThin p fun h => { h with testWanted := true }) u := rfl
    rw [State.thinHead, (answer_others ..).thin_eq, he]
    exact testWanted_foldl _ _ (.inl hp)
  case exclusion =>
    rw [cell_congr (answer_others ..).cells_eq, raised_congr (answer_others ..).ranger_eq, raised_congr (answer_others ..).ranger_eq]
    exact effExclusionClear_clears k u

end Sys2Proof.Machine
end

section
/-! SUPPORT. Writes in force at once whose value a record keeps (R386, R388). -/

namespace Sys2Proof.Machine

open Sys2Proof

/-! ### Objects whose value a record keeps -/

/-- An object of one unit whose value persists: a number, or a time, neither longer than a log record. -/
def recordedRow (idx sub : Nat) (d : ObjDesc) : Bool :=
  !d.staged && !d.stringScope && d.persist == 1 && dictObject idx sub d && (d.numeric || d.ty == 0x0E) && !ownAnswer idx sub && idx != 0x9820

def RecordedObject (idx sub : Nat) : Prop := ∃ d, objDesc idx sub = some d ∧ recordedRow idx sub d = true

theorem recordedRow_iff {idx sub : Nat} {d : ObjDesc} : recordedRow idx sub d = true ↔
    d.staged = false ∧ d.stringScope = false ∧ d.persist = 1 ∧ dictObject idx sub d = true ∧ (d.numeric = true ∨ d.ty = 0x0E) ∧
      ownAnswer idx sub = false ∧ idx ≠ 0x9820 := by
  simp [recordedRow, and_assoc]

theorem dispatch_of_ownAnswer {idx sub : Nat} (h : ownAnswer idx sub = false) : dispatchObject idx sub = false := by
  simp only [ownAnswer, Bool.or_eq_false_iff] at h
  tauto

theorem width_le (d : ObjDesc) : d.width ≤ 10 := by
  unfold ObjDesc.width
  split <;> decide

/-- A value that has passed its checks and is a number or a time fits a log record. -/
theorem longValue_false {d : ObjDesc} {idx sub : Nat} {v : ObjVal} (hty : d.numeric = true ∨ d.ty = 0x0E) (hchk : valueCheck d idx sub v = 0) :
    longValue d v = false := by
  have hlen : (d.encode v).length ≤ 10 := by
    cases v with
    | num n =>
      show (leI d.width n).length ≤ 10
      unfold leI
      rw [length_le]
      exact width_le d
    | bytes b =>
      by_cases hnum : d.numeric = true
      · simp [valueCheck, hnum, abType] at hchk
      · have hty := hty.resolve_left hnum
        have hb : b.length = 10 := by
          by_contra hb
          simp [valueCheck, hnum, hty, hb, abLength] at hchk
        simp [ObjDesc.encode, hnum, hb]
  simp [longValue, show ¬ 464 < (d.encode v).length by omega]

theorem roleAbort_ne (role : Nat) : roleAbort role ≠ 0 := by
  unfold roleAbort
  split
  · decide
  · decide
  · simp [abortArg, abRole]

/-- A write that passes its checks is to an object of the dictionary that is written to, with a value that its row allows. -/
theorem writeCheck_passes {s : State} {sess idx sub : Nat} {v : ObjVal} (h : s.writeCheck sess idx sub v = 0) :
    ∃ d, objDesc idx sub = some d ∧ d.access ≠ 0 ∧ valueCheck d idx sub v = 0 := by
  unfold State.writeCheck at h
  split at h
  · cases h
  split at h
  case h_1 => cases h
  case h_2 d hd =>
    split at h
    · cases h
    case isFalse hacc =>
      refine ⟨d, hd, fun h0 => hacc (by simp [h0]), ?_⟩
      split at h
      · cases h
      split at h
      · exact absurd h (roleAbort_ne _)
      split at h
      · cases h
      split at h
      · exact h
      case isFalse hval => simpa using hval

/-- What the checks of an accepted write have let through. -/
theorem Accepted.checked {i : Instr} {a r idx sub : Nat} {v : ObjVal} {s : State} (h : Accepted i s) (hw : writeOf i = some ⟨a, r, idx, sub, v⟩) :
    ∃ d, objDesc idx sub = some d ∧ d.access ≠ 0 ∧ valueCheck d idx sub v = 0 := by
  obtain ⟨w, hw', -, hv⟩ := h
  obtain rfl : w = ⟨a, r, idx, sub, v⟩ := Option.some.inj (hw'.symm.trans hw)
  unfold State.verdict State.entryCheck at hv
  dsimp only at hv
  split at hv
  case isTrue hc => exact writeCheck_passes hc
  case isFalse hc => exact absurd hv hc

/-- Such a write acts when it is accepted; its answer goes with its record. -/
theorem takes_recorded {i : Instr} {a r idx sub : Nat} {v : ObjVal} {s : State} {Q : State → Prop} (hw : writeOf i = some ⟨a, r, idx, sub, v⟩)
    (h : RecordedObject idx sub) (hq : ∀ cyc x, Q (recordValue (okey idx sub) v cyc x (commandEffect a a r idx sub v
      (if storesItself idx sub then s.serving a r else (s.serving a r).setVal (okey idx sub) v)))) : Takes i s Q := by
  intro hacc
  obtain ⟨d, hd, -, hchk⟩ := hacc.checked hw
  obtain ⟨d', hd', hrow⟩ := h
  obtain rfl : d = d' := Option.some.inj (hd.symm.trans hd')
  obtain ⟨hst, hsc, hpers, hdict, hty, hown, hidx⟩ := recordedRow_iff.1 hrow
  have hdis := dispatch_of_ownAnswer hown
  have hp : persists idx sub = true := by simp [persists, hd, hpers, hst, hdict]
  have hwait : waitsForRecord idx sub v = false := by simp [waitsForRecord, hd, longValue_false hty hchk]
  have hen : enforce a a r idx sub v (s.serving a r) = commandEffect a a r idx sub v
      (if storesItself idx sub then s.serving a r else (s.serving a r).setVal (okey idx sub) v) := by
    cases hself : storesItself idx sub <;>
      simp [enforce, hwait, objectEffect, hd, hdict, hdis, hself, commandEffect]
  have hres : ∀ t : State, t.resultOf idx sub = 0 := fun t => if_neg (by simp [hidx])
  refine takes_of_accepting hw ?_ hacc
  obtain ⟨x, hx⟩ := finishWrite_persists (dest := a) (req := r) (v := v) (cyc := (enforce a a r idx sub v (s.serving a r)).core.cycle) hp (objDesc_sub_lt hd)
    (enforce a a r idx sub v (s.serving a r))
  simp only [State.accepting, acceptWrite, hd, hst, hdis, hown, hsc, hres, Bool.false_eq_true, if_false]
  rw [hx, hen]
  exact hq _ _

/-- A record leaves all but what storage counts. -/
theorem recordValue_others (key : Nat) (v : ObjVal) (cyc : Cycle) (x : Option Response) (s : State) :
    Keeps (fun p => p = .cruiser || p = .ranger || p = .storage) s (recordValue key v cyc x s) := recordValue_keeps key v cyc x s (.refl _ s)

end Sys2Proof.Machine
end

section
/-! SUPPORT. What front-end, ring, trace, time, CAN and session writes do once they are accepted (R74, R113, R121, R123, R310, R351, R354, R360, R369, R403, R422,
R481, R482). -/

namespace Sys2Proof.Machine

open Sys2Proof

/-! ### The rows of their objects -/

/-- Those that keep no value, of one index. -/
def unitKeys : List (Nat × Nat) := [(0x2010, 6), (0x2110, 0x0C), (0x2111, 0x0C), (0x7100, 3), (0x7120, 3), (0x7200, 9), (0x7201, 9), (0x7860, 1)]

theorem unitKeys_objects : ∀ e ∈ unitKeys, CommandObject false e.1 e.2 := by
  have h : ∀ e ∈ unitKeys, ∃ d ∈ objDesc e.1 e.2, commandRow false e.1 e.2 d = true := by decide +kernel
  exact h

/-- A write to one of them. -/
theorem takes_key {i : Instr} {a r idx sub : Nat} {v : ObjVal} {s : State} {Q : State → Prop} (hw : writeOf i = some ⟨a, r, idx, sub, v⟩)
    (h : (idx, sub) ∈ unitKeys) (hq : ∀ x, Q ((commandEffect a a r idx sub v (s.serving a r)).answer x)) : Takes i s Q :=
  takes_command hw (unitKeys_objects _ h) hq

theorem trace_object {b : Nat} (h : b < 4) : CommandObject false (0x6400 + b) 0x0C := by
  obtain ⟨d, hfind, hlo, hhi, hrow⟩ : ∃ d ∈ catalog.find? (fun e => e.lo ≤ 0x6403 && 0x6400 ≤ e.hi && e.subLo ≤ 0x0C && 0x0C ≤ e.subHi),
    d.lo ≤ 0x6400 ∧ 0x6403 ≤ d.hi ∧ d.access = 2 ∧ d.staged = false ∧ d.stringScope = false := by decide +kernel
  exact commandObject_of_range hfind hlo hhi hrow (by decide) (by omega) (by omega)

theorem sessionEnd_object {n : Nat} (h : n < 256) : CommandObject false (0x1100 + n) 0x0C := by
  obtain ⟨d, hfind, hlo, hhi, hrow⟩ : ∃ d ∈ catalog.find? (fun e => e.lo ≤ 0x11FF && 0x1100 ≤ e.hi && e.subLo ≤ 0x0C && 0x0C ≤ e.subHi),
    d.lo ≤ 0x1100 ∧ 0x11FF ≤ d.hi ∧ d.access = 2 ∧ d.staged = false ∧ d.stringScope = false := by decide +kernel
  exact commandObject_of_range hfind hlo hhi hrow (by decide) (by omega) (by omega)

theorem injectionEnable_object : RecordedObject 0x2012 3 := by
  have h : ∃ d ∈ objDesc 0x2012 3, recordedRow 0x2012 3 d = true := by decide +kernel
  exact h

theorem timeSource_object : RecordedObject 0x7100 1 := by
  have h : ∃ d ∈ objDesc 0x7100 1, recordedRow 0x7100 1 d = true := by decide +kernel
  exact h

/-- Of the pulse outputs every object that can be written keeps its value (R360). -/
theorem pulse_object {o sub : Nat} {d : ObjDesc} (ho : o < 4) (hd : objDesc (0x7130 + o) sub = some d) (hacc : d.access ≠ 0) :
    RecordedObject (0x7130 + o) sub := by
  have hrows : ∀ e ∈ catalog, e.lo ≤ 0x7133 → 0x7130 ≤ e.hi → e.access ≠ 0 → e.staged = false ∧ e.stringScope = false ∧ e.persist = 1 ∧
      (e.access = 1 ∨ e.access = 4) ∧ (e.numeric = true ∨ e.ty = 0x0E) := by decide +kernel
  have hin := List.find?_some hd
  simp only [Bool.and_eq_true, decide_eq_true_eq] at hin
  obtain ⟨hst, hsc, hpers, hacc', hty⟩ := hrows d (List.mem_of_find?_eq_some hd) (by omega) (by omega) hacc
  have hdis : dispatchObject (0x7130 + o) sub = false := by simp [dispatchObject]; omega
  refine ⟨d, hd, recordedRow_iff.2 ⟨hst, hsc, hpers, ?_, hty, ?_, by omega⟩⟩
  · simp [dictObject, hacc', hdis]; omega
  · simp [ownAnswer, hdis]; omega

/-! ### Front-end and ring (R74, R113, R121) -/

/-- Insulation injection goes on with the time it started. -/
theorem effInjection_on (s : State) : (effInjection true s).dict = s.dict ∧ (effInjection true s).fe.isoLast = some s.core.cycle := ⟨rfl, rfl⟩

/-- It goes off with its measurement stale and its domain unpowered. -/
theorem effInjection_off (s : State) : (effInjection false s).dict = s.dict ∧ (effInjection false s).fe.injecting = false ∧
    (effInjection false s).feBit feIsoStale = true ∧ (effInjection false s).pd 9 = false := by
  have he : effInjection false s = (({ s.setDomains [9] false with
      fe := { s.fe with injecting := false, iPos := none, iNeg := none, isoStale := true, isoLast := none } }).setFe feIsoStale true).clearOnce
        0x029 0x43 0 0 := rfl
  have hk : ∀ t : State, Keeps (fun p => p = .ranger) t (t.clearOnce 0x029 0x43 0 0) := fun t => State.clearOnce_keeps _ _ _ _ _ (.refl _ t)
  rw [he, (hk _).dict_eq, State.feBit, State.pd, (hk _).fe_eq, (hk _).power_eq]
  refine ⟨rfl, rfl, ?_, getLsbD_setBit_false ..⟩
  exact (feBit_setFe _ feIsoStale feIsoStale true (by decide)).trans (if_pos rfl)

/-- A table that keeps the entries of some keys. -/
theorem at_filter_key {α : Type} (keep : Nat → Bool) (t : Tab α) (k : Nat) (d : α) :
    Tab.at (t.filter fun e => keep e.1) k d = if keep k then Tab.at t k d else d := by
  induction t with
  | nil => exact (ite_self d).symm
  | cons e t ih =>
    obtain ⟨j, x⟩ := e
    by_cases hj : keep j = true
    · rw [List.filter_cons_of_pos (by exact hj), Tab.at_cons, Tab.at_cons, ih]
      by_cases hk : j = k
      · subst hk; simp [hj]
      · simp [hk]
    · rw [List.filter_cons_of_neg (by exact hj), ih, Tab.at_cons]
      by_cases hk : j = k
      · subst hk; simp [hj]
      · simp [hk]

/-- The counters of one port are cleared, the other's stand (R74). -/
theorem counter_effCounterClear (port q : Nat) {row : Nat} (h : row < 16) (s : State) :
    (effCounterClear port s).counter q row = if q = port then 0 else s.counter q row := by
  have hdiv : (16 * q + row) / 16 = q := by omega
  show Tab.at (s.ring.counters.filter fun e => e.1 / 16 != port) (16 * q + row) 0 = _
  rw [at_filter_key (fun k => k / 16 != port), hdiv]
  by_cases hq : q = port
  · simp [hq]
  · simp [hq, State.counter, Tab.nat]

/-! ### Traces (R310) -/

/-- A command to a trace buffer leaves the other buffers. -/
theorem effTrace_other (b n : Nat) (s : State) {c : Nat} (h : c ≠ b) : (effTrace b n s).trace c = s.trace c := by
  have hmod : ∀ f : Trace → Trace, (s.modTrace b f).trace c = s.trace c := fun f => by rw [trace_modTrace, if_neg h.symm]
  unfold effTrace
  split <;> exact hmod _

/-- What each command sets in its buffer. -/
theorem effTrace_sets (b : Nat) (s : State) :
    (((effTrace b 0 s).trace b).state = 0 ∧ ((effTrace b 0 s).trace b).samples = (s.trace b).samples) ∧
    (((effTrace b 1 s).trace b).state = 1 ∧ ((effTrace b 1 s).trace b).rearm = false ∧ ((effTrace b 1 s).trace b).samples = []) ∧
    (((effTrace b 2 s).trace b).state = 1 ∧ ((effTrace b 2 s).trace b).rearm = true ∧ ((effTrace b 2 s).trace b).samples = []) := by
  have hmod : ∀ f : Trace → Trace, (s.modTrace b f).trace b = f (s.trace b) := fun f => by rw [trace_modTrace, if_pos rfl]
  simp only [effTrace, effTraceDisarm, effTraceArm, hmod, and_self]

/-- The software trigger fires an armed buffer; another one counts it as missed. -/
theorem effTrace_fires (b : Nat) (s : State) :
    ((s.trace b).state = 1 → ((effTrace b 3 s).trace b).state = 2 ∧ ((effTrace b 3 s).trace b).trigger = s.core.cycle) ∧
    ((s.trace b).state ≠ 1 → ((effTrace b 3 s).trace b).state = (s.trace b).state ∧ ((effTrace b 3 s).trace b).missed = inc32 (s.trace b).missed) := by
  have he : (effTrace b 3 s).trace b = _ := (trace_modTrace s b b _).trans (if_pos rfl)
  rw [he]
  exact ⟨fun h => by rw [if_pos h]; exact ⟨rfl, rfl⟩, fun h => by rw [if_neg h]; exact ⟨rfl, rfl⟩⟩

theorem commandEffect_trace {a r b : Nat} (h : b < 4) (n : Nat) (s : State) : commandEffect a a r (0x6400 + b) 0x0C (.num n) s = effTrace b n s := by
  simp [commandEffect, controlEffect, ObjVal.toInt, show ¬ 0x6400 + b < 0x3000 by omega, show ¬ 0x6400 + b < 0x6000 by omega,
    show 0x6400 + b < 0x7000 by omega, show 0x6400 + b ≤ 0x6403 by omega]

/-- A command to a buffer, by what it leaves there: the other buffers stand. -/
theorem takes_trace {i : Instr} {a r b n : Nat} {s : State} {Q : State → Prop} (hb : b < 4) (hw : writeOf i = some ⟨a, r, 0x6400 + b, 0x0C, .num n⟩)
    (hq : ∀ t : State, t.trace b = (effTrace b n (s.serving a r)).trace b → (∀ c, c ≠ b → t.trace c = s.trace c) → Q t) : Takes i s Q := by
  refine takes_command hw (trace_object hb) fun x => ?_
  have ht : ∀ (t : State) (c : Nat), (t.answer x).trace c = t.trace c := fun t c => by
    rw [State.trace, (answer_others ..).sawyer_eq, State.trace]
  rw [commandEffect_trace hb]
  exact hq _ (ht ..) fun c hc => (ht ..).trans (effTrace_other b n _ hc)

end Sys2Proof.Machine
end

section
/-! SUPPORT. What time, pulse, CAN and session writes do once they are accepted (R351, R354, R360, R369, R403, R422, R482), and the statement of the writes in force
at once. -/

namespace Sys2Proof.Machine

open Sys2Proof

/-! ### Time (R351, R354, R359) -/

/-- A new time source leaves the clock free with the time it shows. -/
theorem effTimeSource_sets (v : Int) (s : State) : (effTimeSource v s).val 0x7100 1 = .num v ∧ (effTimeSource v s).clock.state = .free ∧
    ((effTimeSource v s).clock.sec, (effTimeSource v s).clock.ns) = (s.clock.sec, s.clock.ns) :=
  ⟨val_setVal s 0x7100 1 (.num v), rfl, rfl⟩

theorem unle_lt (b : Bytes) : unle b < 256 ^ b.length := by
  induction b with
  | nil => decide
  | cons x t ih =>
    have hx : x.toNat < 256 := x.isLt
    rw [unle, List.length_cons, Nat.pow_succ]
    omega

theorem fieldN_lt (b : Bytes) (off n : Nat) : fieldN b off n < 256 ^ n := by
  have h := unle_lt (slice b off n)
  rwa [length_slice] at h

/-- A time of whole seconds and nanoseconds comes apart into them. -/
theorem splitNs_mk {sec ns : Nat} (hs : sec < 2 ^ 48) (hn : ns < 1000000000) : splitNs ((sec : Int) * 1000000000 + ns) = (sec, ns) := by
  unfold splitNs
  have hq : ((sec : Int) * 1000000000 + ns) / 1000000000 = sec := by omega
  have hr : ((sec : Int) * 1000000000 + ns) % 1000000000 = ns := by omega
  rw [hq, hr, Int.emod_eq_of_lt (by omega) (by exact_mod_cast hs)]
  rfl

/-- Local time takes the seconds written and keeps its nanoseconds; it is trusted from then on (R351). -/
theorem effLocalTime_sets (time : Bytes) {s : State} (h : s.clock.ns < 1000000000) :
    (effLocalTime time s).clock.sec = fieldN time 0 6 ∧ (effLocalTime time s).clock.ns = s.clock.ns ∧ (effLocalTime time s).clock.trusted = true := by
  have hsplit : splitNs (s.nowNs + ((fieldN time 0 6 : Int) - s.clock.sec) * 1000000000) = (fieldN time 0 6, s.clock.ns) := by
    have hsum : s.nowNs + ((fieldN time 0 6 : Int) - s.clock.sec) * 1000000000 = (fieldN time 0 6 : Int) * 1000000000 + s.clock.ns := by
      unfold State.nowNs
      push_cast
      ring
    rw [hsum]
    exact splitNs_mk ((fieldN_lt time 0 6).trans_eq (by norm_num)) h
  obtain ⟨t0, phase, hclock⟩ := stepTime_clock (((fieldN time 0 6 : Int) - s.clock.sec) * 1000000000) s
  unfold effLocalTime
  dsimp only
  rw [hclock, hsplit]
  exact ⟨rfl, rfl, rfl⟩

/-- The overflow of Q26 that is cleared; a clear that a new overflow meets leaves it set and counts it (R359). -/
theorem effOverflowClear_clears (s : State) : (effOverflowClear false s).clock = { s.clock with overflow := false } :=
  (State.clearOnce_keeps _ 0x052 0x94 0 0 (.refl (fun p => p = .ranger) _)).clock_eq

/-! ### Pulse outputs and CAN (R360, R369) -/

/-- A parameter of an output that waits for its edges is in force, and the output is scheduled anew (R360). -/
theorem effPulse_sets {o : Nat} {s : State} (h : (s.pulse o).active = false) (sub : Nat) (v : ObjVal) : (effPulse o sub v s).val (0x7130 + o) sub = v := by
  have he : effPulse o sub v s = schedulePulse o (putPulse o s (sub, v)) := if_neg (ne_true_of_eq_false h)
  rw [he, val_congr (schedulePulse_keeps o _ (.refl (fun p => p = .links) _)).dict_eq]
  exact val_setVal ..

/-- A parameter of an output within a pulse waits for the pulse's end. -/
theorem effPulse_waits {o : Nat} {s : State} (h : (s.pulse o).active = true) (sub : Nat) (v : ObjVal) :
    (effPulse o sub v s).dict = s.dict ∧ ((effPulse o sub v s).pulse o).waiting = (s.pulse o).waiting ++ [(sub, v)] := by
  have he : effPulse o sub v s = s.modPulse o fun p => { p with waiting := p.waiting ++ [(sub, v)] } := if_pos h
  rw [he, pulse_modPulse_same]
  exact ⟨rfl, rfl⟩

theorem commandEffect_pulse {a r o : Nat} (h : o < 4) (sub : Nat) (v : ObjVal) (s : State) :
    commandEffect a a r (0x7130 + o) sub v s = effPulse o sub v s := by
  simp [commandEffect, linkEffect, show ¬ 0x7130 + o < 0x3000 by omega, show ¬ 0x7130 + o < 0x6000 by omega, show ¬ 0x7130 + o < 0x7000 by omega,
    show 0x7130 + o < 0x8000 by omega, show 0x7130 + o ≤ 0x7133 by omega]

/-- A write to a pulse output, by what it does to the output. -/
theorem takes_pulse {a r o sub : Nat} {v : ObjVal} {s : State} {Q : State → Prop} (ho : o < 4)
    (hq : ∀ cyc x, Q (recordValue (okey (0x7130 + o) sub) v cyc x (effPulse o sub v (s.serving a r)))) : Takes (.pulseParameterWrite a r o sub v) s Q := by
  intro hacc
  obtain ⟨d, hd, hwrite, -⟩ := hacc.checked rfl
  have hself : storesItself (0x7130 + o) sub = true := by simp [storesItself]; omega
  refine takes_recorded rfl (pulse_object ho hd hwrite) (fun cyc x => ?_) hacc
  rw [if_pos hself, commandEffect_pulse ho]
  exact hq cyc x

/-- A controller off the bus begins its recovery; the other stands (R369). -/
theorem startRecovery_begins {n : Nat} {s : State} (hn : n < 2) (h : (s.can n).err = .busOff) : ((startRecovery n s).can n).recovering = true ∧
    ((startRecovery n s).can n).offAt = none ∧ ∀ m, m < 2 → m ≠ n → (startRecovery n s).can m = s.can m := by
  have he : startRecovery n s = s.modCan n fun c => { c with recovering := true, offAt := none } := if_pos h
  rw [he, can_modCan_same]
  exact ⟨rfl, rfl, fun m hm hne => can_modCan_other s hn hm hne _⟩

/-! ### Sessions and fast channels (R403, R422, R481, R482) -/

/-- Freed contexts leave the staging area to its owner, or it is free and empty. -/
theorem staging_freeContext {s : State} {n : Nat} (m : Nat) (h : s.dict.owner = some n ∨ s.dict.owner = none ∧ s.dict.staged = []) :
    (freeContext s m).dict.owner = some n ∨ (freeContext s m).dict.owner = none ∧ (freeContext s m).dict.staged = [] := by
  have hstaged : (freeContext s m).dict.staged = if s.dict.owner = some m then [] else s.dict.staged := by
    unfold freeContext
    by_cases ho : s.dict.owner = some m
    · simp only [ho, if_true]
      split <;> rfl
    · simp only [ho, if_false]
      split <;> rfl
  rw [(freeContext_dict s m).1, hstaged]
  by_cases ho : s.dict.owner = some m
  · rw [if_pos ho, if_pos ho]
    exact .inr ⟨rfl, rfl⟩
  · rw [if_neg ho, if_neg ho]
    exact h

/-- A session that owns the staging area takes what is staged with it (R146, R403). -/
theorem staged_endSession {s : State} {n : Nat} (h : s.dict.owner = some n) : (endSession s n).dict.owner = none ∧ (endSession s n).dict.staged = [] := by
  have hfold : ∀ (l : List Nat) (t : State), t.dict.owner = some n ∨ t.dict.owner = none ∧ t.dict.staged = [] →
      (l.foldl freeContext t).dict.owner = some n ∨ (l.foldl freeContext t).dict.owner = none ∧ (l.foldl freeContext t).dict.staged = [] := by
    intro l
    induction l with
    | nil => exact fun t ht => ht
    | cons m l ih => exact fun t ht => ih _ (staging_freeContext m ht)
  have hnone := owner_endSession h
  have hend : (endSession s n).dict.owner = some n ∨ (endSession s n).dict.owner = none ∧ (endSession s n).dict.staged = [] := by
    unfold endSession
    exact staging_freeContext n (hfold _ _ (.inl h))
  rw [hnone] at hend
  exact ⟨hnone, (hend.resolve_left nofun).2⟩

/-- No context that is left has the ended session as its parent (R481). -/
theorem parent_endSession {s : State} {n : Nat} {e : Nat × Session} (he : e ∈ (endSession s n).dict.sessions) : e.2.parent ≠ some n := by
  unfold endSession at he
  obtain ⟨hs, -⟩ := freeContext_frees.foldl ((s.dict.sessions.filter fun e => e.2.parent = some n).map Prod.fst) s
  obtain ⟨hmem, -⟩ := (freeContext_frees _ n).1 e he
  obtain ⟨hold, hkid⟩ := hs e hmem
  exact fun hp => hkid (List.mem_map.2 ⟨e, List.mem_filter.2 ⟨hold, by simpa using hp⟩, rfl⟩)

theorem parent_serving (s : State) (sess req n : Nat) : ((s.serving sess req).session n).parent = (s.session n).parent := by
  unfold State.serving beginService
  rw [session_modSession]
  split
  case isTrue h => rw [h]
  case isFalse => rfl

theorem sessOpen_serving (s : State) (sess req n : Nat) : (s.serving sess req).sessOpen n = s.sessOpen n := by
  unfold State.sessOpen State.serving beginService
  rw [session_modSession]
  split
  case isTrue h => rw [h]
  case isFalse => rfl

theorem fastOf_serving (s : State) (sess req n : Nat) : (s.serving sess req).fastOf n = s.fastOf n := by
  unfold State.fastOf
  simp only [parent_serving]
  rfl

theorem fastFor_serving (s : State) (sess req n : Nat) : (s.serving sess req).fastFor n = s.fastFor n := by
  unfold State.fastFor
  rw [fastOf_serving]
  rfl

/-- The fast channel of a session is one of the 64 and has the session as its parent. -/
theorem fastOf_some {s : State} {n j : Nat} (h : s.fastOf n = some j) : j < 64 ∧ (s.session (128 + j)).parent = some n := by
  have hmem := (mem_upFrom ..).1 (List.mem_of_find?_eq_some h)
  have hp := List.find?_some h
  simp only [Bool.and_eq_true, decide_eq_true_eq] at hp
  exact ⟨by omega, hp.2⟩

theorem fastFor_lt {s : State} {n j : Nat} (h : s.fastFor n = some j) : j < 64 := by
  unfold State.fastFor at h
  split at h
  case h_1 i hi =>
    obtain rfl : i = j := Option.some.inj h
    exact (fastOf_some hi).1
  case h_2 =>
    have hmem := (mem_upFrom ..).1 (List.mem_of_find?_eq_some h)
    omega

/-- The epoch with which a channel opens next (R422). -/
def nextEpoch (f : FastChannel) : Nat :=
  match f.epoch with
  | none => 0
  | some e => (e + 1) % 256

/-- An opened channel begins its sequences anew in the next epoch, and its context is open with its session as parent (R422). -/
theorem openFast_opens {sess j : Nat} {s : State} (h : s.sessOpen (128 + j) = false ∨ (s.session (128 + j)).parent = some sess) :
    (((openFast sess j s).fast j).isOpen = true ∧ ((openFast sess j s).fast j).txSeq = 1 ∧ ((openFast sess j s).fast j).rxTop = 0 ∧
      ((openFast sess j s).fast j).epoch = some (nextEpoch (s.fast j))) ∧
    ((openFast sess j s).session (128 + j)).state = .isOpen ∧ ((openFast sess j s).session (128 + j)).parent = some sess := by
  unfold openFast
  extract_lets p e u v
  have hu : (u.fast j).isOpen = true ∧ (u.fast j).txSeq = 1 ∧ (u.fast j).rxTop = 0 ∧ (u.fast j).epoch = some (nextEpoch (s.fast j)) := by
    simp only [u, fast_modFast, if_true, true_and]
    exact rfl
  have hv : (v.fast j).isOpen = true ∧ (v.fast j).txSeq = 1 ∧ (v.fast j).rxTop = 0 ∧ (v.fast j).epoch = some (nextEpoch (s.fast j)) := by
    simp only [v, fast_modFast, if_true]
    exact hu
  split
  case isTrue hopen =>
    have hopen : s.sessOpen (128 + j) = true := hopen
    have hstate : (s.session (128 + j)).state = .isOpen := of_decide_eq_true hopen
    exact ⟨hu, hstate, h.resolve_left (by simp [hopen])⟩
  case isFalse =>
    refine ⟨hv, ?_⟩
    rw [session_modSession, if_pos rfl, openContext, session_modSession, if_pos rfl]
    exact ⟨rfl, rfl⟩

/-- A fast channel closes with its context (R403, R422). -/
theorem endSession_closes {j : Nat} (h : j < 64) (s : State) : ((endSession s (128 + j)).fast j).isOpen = false := by
  unfold endSession
  generalize ((s.dict.sessions.filter fun e => e.2.parent = some (128 + j)).map Prod.fst).foldl freeContext s = u
  unfold freeContext
  extract_lets v q g w
  have hj : (decide (128 ≤ 128 + j) && decide (128 + j < 192)) = true := by simp; omega
  rw [if_pos hj, fast_modFast, if_pos (by omega)]

/-! ### The statement -/

/-- Settles O48: each write acts when it is accepted, by what its object's effect leaves; neither the answer nor the record of its value changes a part that is
read here. -/
theorem writesInForceAtOnce : Obligations.WritesInForceAtOnce := by
  intro s a r
  refine ⟨takes_key rfl (by decide) fun x => by rw [(answer_others ..).fe_eq]; rfl,
    takes_recorded rfl injectionEnable_object fun cyc x => ?on,
    takes_recorded rfl injectionEnable_object fun cyc x => ?off,
    fun port hport => ?counters,
    fun b hb => ?armSingle,
    fun b hb => ?armAgain,
    fun b hb => ?disarm,
    fun b hb => ?trigger,
    fun source => takes_recorded rfl timeSource_object fun cyc x => ?source,
    fun time hns => takes_key rfl (by decide) fun x => ?time,
    takes_key rfl (by decide) fun x => ?overflow,
    fun hopen hchk => ?race,
    fun o sub v ho hidle => takes_pulse ho fun cyc x => ?pulse,
    fun o sub v ho hactive => takes_pulse ho fun cyc x => ?pulseWaits,
    fun n hn hoff => ?recovery,
    fun n hn => takes_command rfl (sessionEnd_object hn) fun x => ?sessionEnds,
    fun j hfor hfree => takes_key rfl (by decide) fun x => ?channelOpens,
    fun j hof => takes_key rfl (by decide) fun x => ?channelCloses⟩
  case on =>
    have he : commandEffect a a r 0x2012 3 (.num (b2n true)) (if storesItself 0x2012 3 then s.serving a r else
      (s.serving a r).setVal (okey 0x2012 3) (.num (b2n true))) = effInjection true ((s.serving a r).setVal (okey 0x2012 3) (.num (b2n true))) := rfl
    obtain ⟨hdict, hlast⟩ := effInjection_on ((s.serving a r).setVal (okey 0x2012 3) (.num (b2n true)))
    rw [he, val_recordValue, val_congr hdict, val_setVal, (recordValue_others ..).fe_eq]
    exact ⟨rfl, hlast⟩
  case off =>
    have he : commandEffect a a r 0x2012 3 (.num (b2n false)) (if storesItself 0x2012 3 then s.serving a r else
      (s.serving a r).setVal (okey 0x2012 3) (.num (b2n false))) = effInjection false ((s.serving a r).setVal (okey 0x2012 3) (.num (b2n false))) := rfl
    obtain ⟨hdict, hoff⟩ := effInjection_off ((s.serving a r).setVal (okey 0x2012 3) (.num (b2n false)))
    rw [he, val_recordValue, val_congr hdict, val_setVal, State.feBit, State.pd, (recordValue_others ..).fe_eq, (recordValue_others ..).power_eq]
    exact ⟨rfl, hoff⟩
  case counters =>
    have hrow : ∀ (t : State) (x : Response) (q row : Nat), (t.answer x).counter q row = t.counter q row := fun t x q row => by
      rw [State.counter, (answer_others ..).ring_eq, State.counter]
    obtain rfl | rfl : port = 0 ∨ port = 1 := by omega
    · refine takes_key rfl (by decide) fun x q row h => ?_
      rw [hrow]
      exact counter_effCounterClear 0 q h (s.serving a r)
    · refine takes_key rfl (by decide) fun x q row h => ?_
      rw [hrow]
      exact counter_effCounterClear 1 q h (s.serving a r)
  case armSingle =>
    obtain ⟨-, ⟨hst, hre, hsamples⟩, -⟩ := effTrace_sets b (s.serving a r)
    exact takes_trace (n := 1) hb rfl fun t ht hother => by rw [ht]; exact ⟨hst, hre, hsamples, hother⟩
  case armAgain =>
    obtain ⟨-, -, hst, hre, hsamples⟩ := effTrace_sets b (s.serving a r)
    exact takes_trace (n := 2) hb rfl fun t ht hother => by rw [ht]; exact ⟨hst, hre, hsamples, hother⟩
  case disarm =>
    obtain ⟨⟨hst, hsamples⟩, -⟩ := effTrace_sets b (s.serving a r)
    exact takes_trace (n := 0) hb rfl fun t ht hother => by rw [ht]; exact ⟨hst, hsamples, hother⟩
  case trigger =>
    obtain ⟨harmed, hmissed⟩ := effTrace_fires b (s.serving a r)
    exact takes_trace (n := 3) hb rfl fun t ht hother => by rw [ht]; exact ⟨harmed, hmissed, hother⟩
  case source =>
    have he : commandEffect a a r 0x7100 1 (.num source) (if storesItself 0x7100 1 then s.serving a r else
      (s.serving a r).setVal (okey 0x7100 1) (.num source)) = effTimeSource source (s.serving a r) := rfl
    rw [he, val_recordValue, (recordValue_others ..).clock_eq]
    exact effTimeSource_sets source (s.serving a r)
  case time =>
    have he : commandEffect a a r 0x7100 3 (.bytes time) (s.serving a r) = effLocalTime time (s.serving a r) := rfl
    rw [(answer_others ..).clock_eq, he]
    exact effLocalTime_sets time (s := s.serving a r) hns
  case overflow =>
    have he : commandEffect a a r 0x7120 3 (.num 1) (s.serving a r) = effOverflowClear false (s.serving a r) := rfl
    rw [(answer_others ..).clock_eq, he, effOverflowClear_clears]
    exact ⟨rfl, rfl, rfl⟩
  case race =>
    refine ⟨((effOverflowClear true (s.serving a r)).reply a r 2 0), if_pos (by simp [hopen, hchk]), ?_⟩
    have hclock : ((effOverflowClear true (s.serving a r)).reply a r 2 0).clock = (effOverflowClear true (s.serving a r)).clock :=
      (answer_others ..).clock_eq
    dsimp only
    rw [hclock]
    exact ⟨rfl, rfl⟩
  case pulse =>
    rw [val_recordValue]
    exact effPulse_sets (s := s.serving a r) hidle sub v
  case pulseWaits =>
    obtain ⟨hdict, hwait⟩ := effPulse_waits (s := s.serving a r) hactive sub v
    rw [(recordValue_others ..).dict_eq, hdict, State.pulse, (recordValue_others ..).links_eq]
    exact ⟨rfl, hwait⟩
  case recovery =>
    have hcan : ∀ (t : State) (x : Response) (m : Nat), (t.answer x).can m = t.can m := fun t x m => by
      rw [State.can, (answer_others ..).links_eq, State.can]
    have hbegin := startRecovery_begins (s := s.serving a r) hn hoff
    obtain rfl | rfl : n = 0 ∨ n = 1 := by omega
    · refine takes_key rfl (by decide) fun x => ?_
      simp only [hcan]
      exact hbegin
    · refine takes_key rfl (by decide) fun x => ?_
      simp only [hcan]
      exact hbegin
  case sessionEnds =>
    have he : commandEffect a a r (0x1100 + n) 0x0C (.num 1) (s.serving a r) = endSession (s.serving a r) n := by
      simp [commandEffect, lowEffect, show 0x1100 + n < 0x3000 by omega, show 0x1100 + n ≤ 0x11FF by omega]
    obtain ⟨-, hfree, -⟩ := endSession_ends (s.serving a r) n
    have hdict : ∀ t : State, (t.answer x).dict.sessions = t.dict.sessions ∧ (t.answer x).dict.owner = t.dict.owner ∧
        (t.answer x).dict.staged = t.dict.staged := fun t => by unfold State.answer; split <;> exact ⟨rfl, rfl, rfl⟩
    obtain ⟨hsessions, howner, hstaged⟩ := hdict (endSession (s.serving a r) n)
    rw [he, session_answer, hsessions, howner, hstaged, (answer_others ..).sawyer_eq]
    exact ⟨hfree, fun e h => parent_endSession h,
      congrArg Sawyer.holder (endSession_keeps (s.serving a r) n (.refl (fun p => p != .sawyer) _)).sawyer_eq, fun h => staged_endSession h⟩
  case channelOpens =>
    have hj := fastFor_lt hfor
    have he : commandEffect a a r 0x7860 1 (.num 1) (s.serving a r) = openFast a j (s.serving a r) := by
      show effFast a (.num 1) (s.serving a r) = _
      simp [effFast, ObjVal.toInt, fastFor_serving, hfor]
    have hfree : (s.serving a r).sessOpen (128 + j) = false ∨ ((s.serving a r).session (128 + j)).parent = some a := by
      rw [sessOpen_serving, parent_serving]
      exact hfree.imp_right fun h => (fastOf_some h).2
    obtain ⟨⟨hopen, htx, hrx, hepoch⟩, hstate, hparent⟩ := openFast_opens hfree
    rw [he, session_answer, State.fast, (answer_others ..).sec_eq]
    exact ⟨hj, hopen, htx, hrx, hepoch, hstate, hparent⟩
  case channelCloses =>
    obtain ⟨hj, -⟩ := fastOf_some hof
    have he : commandEffect a a r 0x7860 1 (.num 0) (s.serving a r) = endSession (s.serving a r) (128 + j) := by
      show effFast a (.num 0) (s.serving a r) = _
      simp [effFast, ObjVal.toInt, fastOf_serving, hof]
    obtain ⟨-, hstate, -⟩ := endSession_ends (s.serving a r) (128 + j)
    rw [he, session_answer, State.fast, (answer_others ..).sec_eq]
    exact ⟨endSession_closes hj (s.serving a r), hstate⟩

end Sys2Proof.Machine
end
